-- ==== Sys2Proof/Word.lean ====
section
/-! DEFINITION. The word types of the ZS-M64 Mainmast model and the plainest arithmetic on them: bytes, 16-, 32- and
64-bit words, the modular time type T32 of R9, and exact binary fractions. -/
namespace Sys2Proof

/-- One octet. -/
abbrev Byte := BitVec 8
/-- A 16-bit word: most Shroud and E1.31 fields, emitter values. -/
abbrev Half := BitVec 16
/-- A 32-bit word: a window word, a firmware word, a counter of the error class. -/
abbrev Word := BitVec 32
/-- A 64-bit word: every scalar dictionary value is held zero-extended in one. -/
abbrev Wide := BitVec 64
/-- A modular 32-bit time value in nanoseconds (R9). -/
abbrev T32 := BitVec 32

/-- R9: `v` is in the future of `n` exactly when `(v - n) mod 2^32` lies from 1 to `2^31 - 1`. -/
def future (v n : T32) : Bool := decide (1 ≤ (v - n).toNat) && decide ((v - n).toNat ≤ 2147483647)

/-- R9: a value that is not in the future is due (past or present). -/
def due (v n : T32) : Bool := !future v n

/-- An exact binary fraction `num / 2 ^ exp`, used where the spec's formulas divide by powers of two only. -/
structure Dyad where
  num : Int
  exp : Nat
  deriving DecidableEq, Repr

end Sys2Proof
end

