-- ==== Sys2Proof/Syntax.lean ====
section
/-! DEFINITION. The commands of the ZS-M64 Mainmast: one constructor of `Instr` for each row of
spec/opcode_table.json, with the operands the rule behind the row needs, and the types of those operands. -/
namespace Sys2Proof

/-! ### Reset, clocks and power -/

/-- The synthesis PLLs whose loss stops a link and is retried (Table 3.3). -/
inductive SoftPll | spll | hpll | kpll
  deriving DecidableEq, Repr

/-- What a clock-fault reset is detected on (Table 3.3): one of four PLLs, or the 50 MHz reference. -/
inductive HardClock | cpll | fpll | tpll | dpll | reference
  deriving DecidableEq, Repr

/-- The strap and test pins sampled at the reset release instant (R35, R36). -/
structure Straps where
  unitB : Bool
  bosunA1 : Bool
  bosunA0 : Bool
  testEn : Bool
  deriving DecidableEq, Repr

/-! ### Dictionary access -/

/-- The path a dictionary access arrives on (R91): a deck core's window in machine or user mode, Bosun, or WDP on a
stay port. -/
inductive Path
  | window (core : Fin 4) (machine : Bool)
  | bosun
  | stay (port : Fin 4)
  deriving DecidableEq, Repr

/-- The load or store by which a deck core makes a window access: the address of the instruction, and the byte offset and
width of the access in its word (width 0 one byte, 1 two bytes, 2 four bytes). -/
structure WindowAccess where
  pc : Word := 0
  offset : Fin 4 := 0
  width : Fin 3 := 2
  deriving DecidableEq, Repr

/-- Who makes a dictionary access: the path, the session (0 is the unauthenticated Watch session; unused on the
window), the source address, UDP port and MAC address of a stay request, and the instruction of a window access. -/
structure Requester where
  path : Path
  session : Fin 17
  addr : BitVec 128
  udp : Half
  access : WindowAccess := {}
  mac : BitVec 48 := 0
  deriving DecidableEq, Repr

/-! ### Frames arriving on a stay port -/

/-- Destination MAC address of a received frame, as R149 sorts it. -/
inductive MacDst | own | broadcast | multicast | other
  deriving DecidableEq, Repr

/-- Destination IP address of a received datagram. -/
inductive IpDst
  | unicast
  | broadcast
  | group (g : BitVec 128)
  deriving DecidableEq, Repr

/-- The head of a PTP event message, as its stamp records it (Table 6.4). -/
structure PtpHead where
  msgType : BitVec 4
  domain : Byte
  seq : Half
  srcPort : Half
  deriving DecidableEq, Repr

/-- What a received frame carries, as far as Table 7.3 tells frames apart. IPv4 addresses stand in the low 32 bits. -/
inductive RxPayload
  | ptpEvent (head : PtpHead) (stamp : T32) (frac : Byte)
  | ptpGeneral
  | udp (v6 : Bool) (dst : IpDst) (src : BitVec 128) (srcPort dstPort : Half) (fragment : Bool) (data : List Byte)
  | arp (target : Word)
  | solicit (target : BitVec 128)
  | echo (v6 : Bool) (toOwn : Bool)
  | groupQuery (v6 : Bool)
  | pause
  | other
  deriving DecidableEq, Repr

/-- A frame as a MAC receives it: its length from the destination address to the FCS, the FCS check, the tag. -/
structure RxFrame where
  len : Nat
  fcsOk : Bool
  mac : MacDst
  vid : Option (BitVec 12)
  stacked : Bool
  payload : RxPayload
  /-- Source MAC address. -/
  srcMac : BitVec 48 := 0
  /-- RS-FEC codewords corrected, and found beyond correction, since the last received frame (P3029, P302A). -/
  corrected : Nat := 0
  uncorrected : Nat := 0
  deriving DecidableEq, Repr

/-! ### PTP messages -/

/-- A Sync with its ingress stamp. The correction is in units of 2^-16 ns. -/
structure SyncMsg where
  domain : Byte
  seq : Half
  source : BitVec 80
  twoStep : Bool
  originSec : BitVec 48
  originNs : Word
  correction : Int
  logInterval : Int
  stamp : T32
  frac : Byte
  deriving DecidableEq, Repr

/-- A Follow_Up. -/
structure FollowUpMsg where
  domain : Byte
  seq : Half
  source : BitVec 80
  originSec : BitVec 48
  originNs : Word
  correction : Int
  deriving DecidableEq, Repr

/-- A Delay_Resp: the grandmaster-side receive time of the Delay_Req of the same sequence. -/
structure DelayRespMsg where
  domain : Byte
  seq : Half
  source : BitVec 80
  receiveSec : BitVec 48
  receiveNs : Word
  correction : Int
  deriving DecidableEq, Repr

/-- The dataset an Announce carries. -/
structure Dataset where
  priority1 : Byte
  clockClass : Byte
  accuracy : Byte
  variance : Half
  priority2 : Byte
  identity : BitVec 64
  timeSource : Byte
  steps : Half
  deriving DecidableEq, Repr

/-- An Announce received on a stay port, with the IP address (IPv4 in the low 32 bits) and MAC address it came from. -/
structure AnnounceMsg where
  domain : Byte
  source : BitVec 80
  dataset : Dataset
  addr : BitVec 128 := 0
  mac : BitVec 48 := 0
  deriving DecidableEq, Repr

/-- A completed peer-delay response with its follow-up: the peer's receive and send times of the exchange, as offsets
between them, and the ingress stamp of the response. Times are nanoseconds with a 2^-16 fraction. -/
structure PdelayRespMsg where
  domain : Byte
  seq : Half
  source : BitVec 80
  turnaround : Int
  stamp : T32
  frac : Byte
  deriving DecidableEq, Repr

/-! ### Ingest packets -/

/-- One sample row data segment of an ST 2110-20 packet. -/
structure Srd where
  row : Nat
  offset : Nat
  bytes : List Byte
  deriving DecidableEq, Repr

/-- An RTP packet of a video leg: the 32-bit extended sequence, the timestamp, the marker and field bits, the payload
type and the segments. -/
structure RtpPacket where
  seq : Word
  timestamp : Word
  marker : Bool
  field : Bool
  payloadType : Byte
  srds : List Srd
  deriving DecidableEq, Repr

/-- An E1.31 data packet. -/
structure SacnPacket where
  cid : BitVec 128
  univ : Half
  priority : Byte
  seq : Byte
  syncAddr : Half
  preview : Bool
  terminated : Bool
  discovery : Bool
  startCode : Byte
  slots : List Byte
  deriving DecidableEq, Repr

/-- The fields of a Shroud frame that a receiver of this device uses (the header of the Shroud frame chapter). -/
structure ShroudMsg where
  version : BitVec 4
  cls : BitVec 4
  format : Byte
  epoch : BitVec 7
  stream : Half
  seq : Word
  time : T32
  offset : Word
  count : Half
  flags : Byte
  checkOk : Bool
  payload : List Byte
  deriving DecidableEq, Repr

/-! ### Shroud ports, Masthead and Trim -/

/-- What a shroud port's PHY reports as its link comes up, and again when the state of its partner changes
(Table 13.14). -/
structure PhyStatus where
  quality : Fin 8
  master : Bool
  autoNegDone : Bool
  remoteRxOk : Bool
  localRxOk : Bool
  /-- The partner advertises energy-efficient Ethernet. -/
  partnerEee : Bool
  /-- The partner is in low-power idle. -/
  partnerLpi : Bool := false
  deriving DecidableEq, Repr

/-- The measurements of one Trim sweep (R327): the sink currents in microamperes, the PWM-off samples and the injected
samples of each photodiode input, and the sensor's trimmed and ratiometric conversions in 1/16 degree Celsius. -/
structure TrimSweep where
  sinks : List Nat
  dark : List (List Nat)
  injected : List (List Nat)
  trimmed : List Int
  ratio : List Int
  deriving DecidableEq, Repr

/-! ### The commands -/

/-- The commands the block takes, one constructor per row of the opcode table. -/
inductive Instr
  /-- POWER_ON (R54): VAO rises past its threshold and starts a full reset that sets PowerOn in P1010 ResetCause. -/
  | powerOn
  /-- BROWNOUT (R51): A rail other than VAO and VSCN stays below its monitor threshold for 2 µs and starts a brownout reset. -/
  | brownout (rail : Fin 12)
  /-- RESET_PIN (R55): RESET_N held low for at least 1 µs starts a full reset with cause ResetPin. -/
  | resetPin
  /-- WATCHDOG_EXPIRY (R54): P1040 WatchdogTimeout elapses without service and starts a full reset with cause Watchdog. -/
  | watchdogExpiry
  /-- WATCHDOG_SERVICE (R56): Any write to P1041 WatchdogService restarts the watchdog. -/
  | watchdogService (rq : Requester) (value : Word)
  /-- CLOCK_FAULT (R53): CPLL, FPLL, TPLL or DPLL loses lock for more than 1 µs, or the 50 MHz reference stops, and a clock-fault reset follows. -/
  | clockFault (source : HardClock)
  /-- PLL_LOSS_OF_LOCK (R53): SPLL, HPLL or KPLL loses lock; its ports or radio stop, P1032 PllLossCount increments and a trouble-log entry is written. -/
  | pllLossOfLock (pll : SoftPll)
  /-- PLL_RELOCK_ATTEMPT (R53): Every 1 ms after a loss of lock, a relock of SPLL, HPLL or KPLL is attempted. -/
  | pllRelockAttempt (pll : SoftPll) (locked : Bool)
  /-- RESET_REQUEST (R56): A write to P1020 ResetRequest schedules a commanded reset if it holds 0000_A55Ah, is ignored if one is already pending, is refused Busy during a power transition, and is ignored and logged for any other value. -/
  | resetRequest (rq : Requester) (value : Word)
  /-- COMMANDED_RESET (R56): At the end of the show frame of an accepted request, or 1 ms after it while the grid latches no frame, the orderly announcements are made and a full reset with cause Commanded takes place. -/
  | commandedReset
  /-- LIFE_CYCLE_REQUEST (R63): A write of a target state to P0021 LifeCycleRequest opens a request that awaits confirmation, or is refused Busy or refused and logged. -/
  | lifeCycleRequest (rq : Requester) (target : Byte)
  /-- LIFE_CYCLE_CONFIRM (R63): A write to P0022 LifeCycleConfirm in the same session either confirms the pending change, which then begins its announcements and fuse programming, or cancels it. -/
  | lifeCycleConfirm (rq : Requester) (value : Word)
  /-- LIFE_CYCLE_CONFIRM_TIMEOUT (R63): No confirm arrives within 10 s and the life-cycle request is cancelled. -/
  | lifeCycleConfirmTimeout
  /-- FUSE_PROGRAMMING_DONE (R64): The fuse pair of the new life-cycle state is programmed, and a reset with cause LifeCycle follows. -/
  | fuseProgrammingDone
  /-- RESET_RELEASE (R59): At the reset release instant the straps are latched, the cause is recorded and the boot sequence begins. -/
  | resetRelease (straps : Straps)
  /-- SRAM_WIPE_DONE (R58): The SRAM wipe completes and the image read from flash begins. -/
  | sramWipeDone
  /-- DRAM_TRAINED (R59): DRAM initialisation and training complete and the DRAM wipe begins. -/
  | dramTrained
  /-- IMAGE_VERIFY (R67): The image has been read and hashed; the boot ROM checks digest, key hash, signature and version floor, choosing slots in turn and entering Recovery if neither slot is accepted. -/
  | imageVerify
  /-- DRAM_WIPE_DONE (R58): The wipe of all 8 GiB of DRAM completes. -/
  | dramWipeDone
  /-- BOOT_HANDOVER (R386): The boot ROM loads the cores, the sequencer and the radio core, write-locks the code, releases them, unmaps itself and jumps to the kernel. -/
  | bootHandover
  /-- SETTINGS_APPLY (R416): The kernel selects the newer committed settings bank and applies its records, or keeps the defaults when no bank fits. -/
  | settingsApply
  /-- DEVICE_READY (R59): The device reaches ready, with P1011 DeviceState Ready or Ready with unverified image, and Bosun begins to acknowledge its address. -/
  | deviceReady
  /-- RETIRED_ERASE_DONE (R66): Erasure of the settings banks, session keys and identity secret in Retired completes. -/
  | retiredEraseDone
  /-- POWER_STATE_REQUEST (R72): A write to the Target field of P1100 requests Reefed, Furled or Struck; it is refused, placed in the pending register during a transition, or replaces Target. -/
  | powerStateRequest (rq : Requester) (value : Word)
  /-- WAIT_FOR_INTERRUPT (R71): A deck core executes WFI; when all four wait with IdleLuff set their clocks stop, and when DC0 waits with a non-zero Target a sleep entry begins. -/
  | waitForInterrupt (core : Fin 4)
  /-- LUFF_WAKE (R71): An interrupt, or a thread made ready, restarts the four deck-core clocks. -/
  | luffWake
  /-- ABORT_POINT (R74): An entry step completes at abort points 1 to 4; a latched wake then abandons the entry. -/
  | abortPoint (point : Fin 5)
  /-- RETENTION_HANDSHAKE (R74): The always-on domain takes over the wake sources and the sleep state is reached, after which the pending request is acted on. -/
  | retentionHandshake
  /-- WAKE_PIN (R440): WAKE held above the comparator threshold for 100 µs is a level-type wake source. -/
  | wakePin
  /-- RTC_ALARM (R73): P1120 RtcCount reaches P1121 RtcAlarm and wakes the device from Furled. -/
  | rtcAlarm
  /-- BOSUN_ADDRESS_MATCH (R79): In Reefed or Furled, a START with the device address sets the match flag and is then stretched or not acknowledged, as P1107 gives. -/
  | bosunAddressMatch
  /-- WAKE_COMPLETE (R78): A wake from Reefed or Furled reaches Run and DC0 resumes after its wait. -/
  | wakeComplete
  /-- STRUCK_WAKE (R54): WAKE asserted in Struck starts a full reset with cause StruckWake. -/
  | struckWake
  /-- READ (R95): A WDP Read operation returns the values of the addressed elements, or zeros under the silent rule. -/
  | read (rq : Requester) (param : Half) (elem last : Byte)
  /-- WRITE (R95): A WDP Write operation writes element values, subject to the data-length, level, range and standby checks. -/
  | write (rq : Requester) (param : Half) (elem last : Byte) (data : List Byte)
  /-- READ_INFO (R89): A ReadInfo operation returns the 16-byte description of each element, subject to the silent rule. -/
  | readInfo (rq : Requester) (param : Half) (elem last : Byte)
  /-- SESSION_OPEN (R100): A SessionOpen in session 0 assigns a session, draws a device nonce and binds the session to its source. -/
  | sessionOpen (rq : Requester) (level : Byte) (hostNonce : BitVec 128)
  /-- SESSION_PROVE (R100): A SessionProve is checked; a correct proof derives the session key and unlocks the session, and a wrong one frees it. -/
  | sessionProve (rq : Requester) (proof : List Byte) (transaction : Word)
  /-- SESSION_CLOSE (R102): A SessionClose ends the session, its block transfers and its subscriptions. -/
  | sessionClose (rq : Requester)
  /-- SESSION_PROVE_TIMEOUT (R100): No proof arrives within 5 s of the SessionOpen and the session is freed. -/
  | sessionProveTimeout (session : Fin 17)
  /-- SESSION_IDLE_TIMEOUT (R102): P0031 SessionIdleTimeout passes with no valid request and the session ends. -/
  | sessionIdleTimeout (session : Fin 17)
  /-- UNLOCK_LOCKOUT_END (R102): The 60 s lockout that follows five failed proofs ends. -/
  | unlockLockoutEnd
  /-- BLOCK_OPEN (R104): A BlockOpen reserves a transfer slot for a BLOB body of the given length, or is refused. -/
  | blockOpen (rq : Requester) (param : Half) (total : Word)
  /-- BLOCK_DATA (R104): A BlockData operation writes a piece of the body into its slot's staging area. -/
  | blockData (rq : Requester) (param : Half) (slot : Byte) (offset : Word) (data : List Byte)
  /-- BLOCK_COMMIT (R104): A BlockCommit starts hashing the staged body, or polls a hash already running. -/
  | blockCommit (rq : Requester) (param : Half) (slot : Byte) (digest : List Byte)
  /-- BLOCK_COMMIT_VERIFIED (R104): Hashing of the staged body completes; on a match and passing content checks the body replaces the live copy, and otherwise it is refused. -/
  | blockCommitVerified (slot : Fin 4)
  /-- BLOCK_ABORT (R105): A BlockAbort frees a slot and discards its body, unless completion wins. -/
  | blockAbort (rq : Requester) (param : Half) (slot : Byte) (sameClock : Bool)
  /-- BLOCK_READ (R106): A BlockRead returns bytes of the live copy of a BLOB. -/
  | blockRead (rq : Requester) (param : Half) (offset length : Word)
  /-- BLOCK_SLOT_IDLE_TIMEOUT (R105): No block operation arrives on a slot for 30 s; the slot is abandoned and logged. -/
  | blockSlotIdleTimeout (slot : Fin 4)
  /-- SUBSCRIBE (R108): A Subscribe creates or renews an event subscription, or is answered Throttled. -/
  | subscribe (rq : Requester) (mask : Word) (udp lease : Half)
  /-- UNSUBSCRIBE (R108): An Unsubscribe ends an event subscription. -/
  | unsubscribe (rq : Requester) (number : Byte)
  /-- SUBSCRIPTION_LEASE_EXPIRY (R108): A subscription's lease runs out and the subscription ends. -/
  | subscriptionLeaseExpiry (number : Fin 8)
  /-- EVENT_MESSAGE_SEND (R109): At most once per 1 ms per subscription, an event message is sent with the pending records and the count of lost records. -/
  | eventMessageSend (number : Fin 8)
  /-- BOSUN_READ (R112): A Bosun read transfer returns the length, the response and a CRC, or L = 0 when no response is ready. -/
  | bosunRead (count : Nat)
  /-- REGISTER_WRITE (R91): A write to a parameter that has no row of its own is applied by the dictionary arbiter in arbiter order, subject to the checks of R89 and R90. -/
  | registerWrite (rq : Requester) (param : Half) (elem : Byte) (value : Wide)
  /-- COUNTER_CLEAR (R13): A write of 0 clears a counter and its saturated flag; any other value is refused with Range. -/
  | counterClear (rq : Requester) (param : Half) (elem : Byte) (value : Wide)
  /-- TIME_NOW_READ (R118): A read of P2000 TimeNow returns TNS and latches its fraction into P2001. -/
  | timeNowRead (rq : Requester)
  /-- TNS_WRAP (R119): TNS passes from FFFF_FFFFh to 0; WrapPending is set and a wrap interrupt is raised to DC0. -/
  | tnsWrap
  /-- TIME_CONFIG_WRITE (R120): A write to P2003, P2020 or P2021 takes the time state to Unset, or to Local. -/
  | timeConfigWrite (rq : Requester) (which : Fin 3) (value : Byte)
  /-- SYNC_RECEIVED (R122): A Sync received on the slave port is validated, the offset is computed, the servo updates and the time state changes. -/
  | syncReceived (port : Fin 4) (msg : SyncMsg)
  /-- FOLLOW_UP_RECEIVED (R122): A Follow_Up supplies the precise origin time of a two-step Sync. -/
  | followUpReceived (port : Fin 4) (msg : FollowUpMsg)
  /-- DELAY_RESP_RECEIVED (R122): A Delay_Resp completes an end-to-end exchange and updates the filtered mean path delay, or is counted as an outlier. -/
  | delayRespReceived (port : Fin 4) (msg : DelayRespMsg)
  /-- DELAY_REQ_INTERVAL (R134): A stay slave port sends a Delay_Req, multicast or unicast as P2029 gives. -/
  | delayReqInterval (port : Fin 4) (stamp : T32) (frac : Byte)
  /-- ANNOUNCE_RECEIVED (R134): An Announce received on a stay port feeds the BMCA of the profile. -/
  | announceReceived (port : Fin 4) (msg : AnnounceMsg)
  /-- SYNC_TIMEOUT (R120): P2035 SyncTimeout Sync intervals pass without a valid Sync and the time state becomes Holdover. -/
  | syncTimeout
  /-- ANNOUNCE_RECEIPT_TIMEOUT (R120): The Announce receipt timeout expires and the time state becomes Holdover. -/
  | announceReceiptTimeout (port : Fin 4)
  /-- STEP_DONE_CLEAR (R124): The kernel clears StepDone, which resumes time messages and latching. -/
  | stepDoneClear (rq : Requester)
  /-- GRID_SEED (R127): A write of element 03 of P2053 GridSeed applies the seed of the show frame grid. -/
  | gridSeed (rq : Requester) (remainder : Word)
  /-- GRID_BOUNDARY (R126): At each show frame boundary the grid generator advances its next boundary, remainder and index. -/
  | gridBoundary
  /-- LATCH (R18): At L(k), which is also the start of blank of cycle k − 1, the content for frame k is frozen: commits, swaps and the merged state apply, sources are selected and group scales are fixed. -/
  | latch
  /-- CANVAS_CYCLE_START (R199): The active phase of a canvas cycle begins and the lanes start to take bands. -/
  | canvasCycleStart
  /-- BAND_DONE (R199): A lane finishes a band, hands its results to the colour pipeline and takes the next band. -/
  | bandDone (lane : Fin 8)
  /-- TRIGGER_FIRE (R138): A trigger comparator fires, drives its destination and sets Fired. -/
  | triggerFire (trigger : Fin 16) (ntc die : Half)
  /-- TRIGGER_TARGET_WRITE (R140): A write of TriggerTarget or TriggerPeriod takes effect from the next time-clock cycle, and fires at once if the target is past. -/
  | triggerTargetWrite (rq : Requester) (period : Bool) (trigger : Fin 16) (value : Word)
  /-- PTP_SYNC_INTERVAL (R135): On the active unit each enabled shroud port sends Sync, Follow_Up and Announce. -/
  | ptpSyncInterval (port : Fin 64) (stamp : T32) (frac : Byte)
  /-- PDELAY_INTERVAL (R135): Each shroud port sends a Pdelay_Req. -/
  | pdelayInterval (port : Fin 64) (stamp : T32) (frac : Byte)
  /-- PDELAY_REQ_RECEIVED (R135): A Pdelay_Req received on a shroud port is answered two-step when its stamp is valid. -/
  | pdelayReqReceived (port : Fin 64) (head : PtpHead) (stamp : T32) (frac : Byte) (sent : T32) (sentFrac : Byte)
  /-- PDELAY_RESP_RECEIVED (R135): A peer-delay response completes a measurement that updates P2060 LinkDelay under the acceptance rule. -/
  | pdelayRespReceived (port : Fin 64) (msg : PdelayRespMsg)
  /-- STAY_FRAME_RECEIVED (R149): A frame received on a stay port is size and FCS checked, buffered and classified to its destination. -/
  | stayFrameReceived (port : Fin 4) (frame : RxFrame)
  /-- MODULE_INSERTED (R145): MOD_ABS falls as an SFP28 module is inserted. -/
  | moduleInserted (port : Fin 4)
  /-- MODULE_ID_READ (R145): 300 ms after insertion, bytes 0 to 95 of the module's A0h page are read into ModuleId. -/
  | moduleIdRead (port : Fin 4) (page : List Byte)
  /-- MODULE_REMOVED (R145): MOD_ABS rises and the stay link goes down at once. -/
  | moduleRemoved (port : Fin 4)
  /-- TX_FAULT_RISE (R145): TX_FAULT rises; TxFaultCount increments and TX_DISABLE is driven high for 10 ms. -/
  | txFaultRise (port : Fin 4)
  /-- TX_FAULT_RETRY (R145): After 10 ms, TX_DISABLE is driven low again. -/
  | txFaultRetry (port : Fin 4)
  /-- TX_FAULT_CHECK (R145): If TX_FAULT is still high 100 ms later, Fault is set and TX_DISABLE is held high. -/
  | txFaultCheck (port : Fin 4) (high : Bool)
  /-- STAY_LINK_FAULT (R145): RX_LOS or a PCS fault takes the stay link down and LinkDownCount increments. -/
  | stayLinkFault (port : Fin 4) (los : Bool)
  /-- STAY_LINK_UP (R145): After 1 ms free of faults, with lock, the stay link is up. -/
  | stayLinkUp (port : Fin 4)
  /-- RTP_PACKET (R160): A video packet of a leg enters the seamless merge: it is discarded as a duplicate or late packet, or held and released in sequence order to placement. -/
  | rtpPacket (stream : Fin 8) (leg : Fin 2) (packet : RtpPacket)
  /-- MERGE_HOLD_EXPIRY (R160): The oldest held packet has waited MergeHold, so the missing sequence is counted as lost and release continues. -/
  | mergeHoldExpiry (stream : Fin 8)
  /-- STREAM_CONTROL_WRITE (R153): A write to P3100 StreamControl enables or disables a stream, or is refused. -/
  | streamControlWrite (rq : Requester) (stream : Fin 8) (value : Word)
  /-- SACN_DATA_PACKET (R163): An E1.31 data packet is filtered and sequence checked, then updates the input state or is held for synchronisation. -/
  | sacnDataPacket (port : Fin 4) (packet : SacnPacket)
  /-- SACN_SYNC_PACKET (R165): An E1.31 synchronisation packet releases the held packets of its address into the input state. -/
  | sacnSyncPacket (port : Fin 4) (address : Half)
  /-- SYNC_ADDRESS_IDLE (R165): No data packet has named a tracked synchronisation address for 2.5 s; it is untracked and its held packets are applied. -/
  | syncAddressIdle (address : Half)
  /-- SACN_SYNC_TIMEOUT (R165): No synchronisation packet arrives for 2.5 s; held packets are applied and later data applies on arrival. -/
  | sacnSyncTimeout (address : Half)
  /-- SOURCE_TIMEOUT (R173): P4005 SourceTimeout passes without data from a source and the source is lost. -/
  | sourceTimeout (univ : Half) (cid : BitVec 128)
  /-- LOSS_HOLD_EXPIRY (R178): P4004 LossHold passes in Holding and the universe enters Ended. -/
  | lossHoldExpiry (entry : Nat)
  /-- CASCADE_FRAME (R167): A cascade Shroud frame is deduplicated and written into its cascade ring, closing or discarding frames by T. -/
  | cascadeFrame (input : Fin 8) (port : Fin 4) (msg : ShroudMsg)
  /-- CUE_WRITE (R181): Words written to P4400 CueWrite assemble a cue in the writer's buffer. -/
  | cueWrite (rq : Requester) (words : List Wide) (requestEnds : Bool)
  /-- CUE_READ (R184): A DC0 read of P4410 CueRead removes one word of the cue in service. -/
  | cueRead (rq : Requester) (high : Bool)
  /-- CUE_POLL (R184): Every CuePollPeriod the kernel checks CueCount and reads cues while the grid is seeded. -/
  | cuePoll
  /-- CUE_EXECUTE (R185): The kernel applies a cue's writes as one group before the latch of its target frame. -/
  | cueExecute
  /-- LAYER_COMMIT (R201): A write to P5120 LayerCommit snapshots the selected shadow items into the pending copy. -/
  | layerCommit (rq : Requester) (canvas : Fin 8) (value : Word)
  /-- FRAME_COMMIT (R201): A write to P5121 FrameCommit commits only the clip addresses of the selected layers. -/
  | frameCommit (rq : Requester) (canvas : Fin 8) (value : Half)
  /-- PROJECTION_COMMIT (R218): A write to P6120 commits the projection shadow of the selected canvases. -/
  | projectionCommit (rq : Requester) (value : Byte)
  /-- SHEET_WINDOW_OPEN (R246): The transmit window of frame k opens and Sheet starts the pack pass. -/
  | sheetWindowOpen
  /-- PACK_PASS_DONE (R246): The pack pass completes, so ports may begin the frame and the old element table area becomes free. -/
  | packPassDone
  /-- SHEET_WINDOW_CLOSE (R248): A port's window closes and frames that cannot finish are dropped and counted late. -/
  | sheetWindowClose (port : Fin 72)
  /-- EGRESS_FRAME_DONE (R283): A port finishes a frame and serves the next by strict priority. -/
  | egressFrameDone (port : Fin 68)
  /-- SACN_SYNC_SEND (R261): At T(k) − d_p, an E1.31 synchronisation packet is sent on Q2. -/
  | sacnSyncSend (port : Fin 64)
  /-- LPI_WAKE_LEAD (R265): LpiWakeLead before the next send window, a static port's PHY is asked to leave low-power idle. -/
  | lpiWakeLead (port : Fin 64)
  /-- SHROUD_LINK_UP (R274): A shroud port's link trains and reaches LinkUp. -/
  | shroudLinkUp (port : Fin 64) (status : PhyStatus)
  /-- SHROUD_LINK_DOWN (R274): The link monitor declares a shroud link failed; LinkDownCount increments and LinkDelay resets. -/
  | shroudLinkDown (port : Fin 64)
  /-- SHROUD_FRAME_RECEIVED (R291): A frame received on a shroud port is checked, buffered and classified to Halyard, the bulk queue or the responder. -/
  | shroudFrameReceived (port : Fin 64) (bytes : List Byte) (fcsOk : Bool) (stamp : T32) (frac : Byte)
  /-- EXPRESS_FRAME (R285): An express frame arriving on a stay port is copied as it arrives to every routed shroud port whose link is up. -/
  | expressFrame (port : Fin 4) (frame : RxFrame)
  /-- EXPRESS_INGRESS_END (R287): The ingress express frame ends; if its FCS or checksum fails, copies in progress are stomped or none are made. -/
  | expressIngressEnd (port : Fin 4) (ok : Bool)
  /-- SNAPSHOT_TAKE (R292): A write of Take to P9400 takes a statistics snapshot now, or schedules one at SnapshotAt. -/
  | snapshotTake (rq : Requester) (value : Word)
  /-- SNAPSHOT_DUE (R292): A scheduled SnapshotAt becomes due and the counters are captured. -/
  | snapshotDue
  /-- SNAPSHOT_CAPTURE_DONE (R293): Captured values are written to SnapshotData and SnapshotSequence increments. -/
  | snapshotCaptureDone
  /-- CABLE_TEST_START (R296): Start in P9500 begins a cable test of the selected ports, or is refused Busy. -/
  | cableTestStart (rq : Requester) (value : Word)
  /-- CABLE_PORT_TEST_DONE (R296): One port's 25 ms reflection test ends; its result is recorded and the next port begins or the test ends. -/
  | cablePortTestDone (status : Fin 16) (distance : Half)
  /-- CABLE_TEST_ABORT (R297): Abort ends the cable test after the port in progress. -/
  | cableTestAbort (rq : Requester) (sameClock : Bool)
  /-- PWM_CYCLE_START (R305): A Masthead PWM cycle starts, applying the frame, commit, loop and derating values and running the pattern engines. -/
  | pwmCycleStart (failed : BitVec 48)
  /-- RASTER_COMMIT (R309): A write to PA011 RasterCommit selects the raster frame shown from the next cycle. -/
  | rasterCommit (rq : Requester) (frame : Byte)
  /-- LOOP_BURST_END (R312): A photodiode burst ends, PdResponse is formed and each class's loop correction updates. -/
  | loopBurstEnd (samples : List (List Nat))
  /-- LOOP_CAPTURE (R312): A write to PA025 copies PdResponse into PdReference. -/
  | loopCapture (rq : Requester) (value : Byte)
  /-- NTC_STALE (R314): No NTC conversion occurs for 1 s and NtcStale is set. -/
  | ntcStale
  /-- DERATE_STEP (R315): Every 10 ms DerateFactor moves toward its target. -/
  | derateStep
  /-- SCAN_SUPPLY_FAULT (R317): VSCN stays below 2.50 V for 2 µs; scan switches turn off and ScanSupplyFault is set. -/
  | scanSupplyFault
  /-- SCAN_SUPPLY_RECOVERY (R317): VSCN has been good for 10 ms and scanning resumes. -/
  | scanSupplyRecovery
  /-- SWITCH_OVERCURRENT (R317): A scan switch's current limit acts; the row is off for the slot, counted, and latched off after 16 cycles. -/
  | switchOvercurrent (row : Fin 16)
  /-- ENGINE_START (R321): A write to PA104 EngineStart starts or restarts an engine. -/
  | engineStart (rq : Requester) (value stopped : Byte)
  /-- ENGINE_STOP (R321): A write to PA105 EngineStop returns the engine's channels to their source. -/
  | engineStop (rq : Requester) (value : Byte)
  /-- SHOW_LOSS_TIMEOUT (R321): No element frame applies for ShowLossTimeout and the on-show-loss engines start. -/
  | showLossTimeout
  /-- TRIM_START (R324): Start in PB000 requests a Trim run, which is admitted or refused. -/
  | trimStart (rq : Requester) (value : Word)
  /-- TRIM_FIRST_AUTO (R326): 10 s after ready with RunTemperature none, an automatic run starts. -/
  | trimFirstAuto
  /-- TRIM_SWEEP_DONE (R327): A sweep completes its measurements; the second begins, or the codes are compared. -/
  | trimSweepDone (sweep : TrimSweep)
  /-- TRIM_DARK_TIMEOUT (R327): 256 dark samples are not collected within 500 ms and the run is flagged NoDark. -/
  | trimDarkTimeout
  /-- TRIM_ABORT (R331): Abort ends a Trim run within 80 µs with no DAC change. -/
  | trimAbort (rq : Requester) (sameClock : Bool)
  /-- TRIM_CODE_WRITE (R332): A write of a trim code applies at once and sets RunTemperature, or is refused Busy during a run. -/
  | trimCodeWrite (rq : Requester) (param : Fin 4) (elem value : Byte)
  /-- KITE_FRAME_RECEIVED (R345): A received Kite frame is acknowledged if due, security checked and deduplicated. -/
  | kiteFrameReceived (psdu : List Byte) (fcsOk : Bool) (rssi : Byte)
  /-- KITE_FRAME_ON_AIR (R339): After channel access a hub frame goes on air with TxTime and counter written and the payload encrypted. -/
  | kiteFrameOnAir
  /-- KITE_ACK_TIMEOUT (R344): No acknowledgement arrives within 864 µs; the frame is retried or RetryExhaustCount increments. -/
  | kiteAckTimeout
  /-- KITE_ANCHOR (R346): At each scheduled instant the active unit broadcasts an anchor without CCA. -/
  | kiteAnchor
  /-- KITE_LISTEN_WINDOW (R350): A listen window opens after an anchor and Sleeper entries are sent. -/
  | kiteListenWindow
  /-- KEY_ERA_END (R340): The present era changes; Kite switches key or sets KeyExpired and stops sending. -/
  | keyEraEnd
  /-- PENNANT_BURST_START (R360): A unit sends its Pennant burst with header and mirror records, and its stay pennant. -/
  | pennantBurstStart
  /-- PENNANT_BURST_RECEIVED (R363): A Pennant burst is validated, updates path age and partner status, and delivers mirror records. -/
  | pennantBurstReceived (bytes : List Byte)
  /-- STAY_PENNANT_RECEIVED (R362): A stay-path pennant datagram is tag checked and updates the stay path's age. -/
  | stayPennantReceived (port : Fin 4) (bytes : List Byte)
  /-- PATH_LOSS (R363): A heartbeat path's age exceeds 3H and the path is lost; losing both loses the partner. -/
  | pathLoss (path : Fin 2)
  /-- STRAP_CONFLICT_CLEAR (R364): No pennant naming the unit's own letter arrives for 3 s and StrapConflict clears. -/
  | strapConflictClear
  /-- MIRROR_RESEND (R366): A record is not acknowledged within 2H, so it is resent with every later record. -/
  | mirrorResend
  /-- JOIN_WAIT_EXPIRY (R372): A Joining unit hears no partner for JoinWait and becomes Active. -/
  | joinWaitExpiry
  /-- ROLE_REQUEST (R374): 5Ah written to PD010 RoleRequest schedules a hand-over record, or is refused. -/
  | roleRequest (rq : Requester) (value : Byte)
  /-- TWIN_CONTROL_WRITE (R379): A write to PD000 takes effect at the next latch, or at once without a seed. -/
  | twinControlWrite (rq : Requester) (value : Word)
  /-- SCHED_READY (R389): A store to Ready makes a thread ready, merges, or sets ReadyAgain. -/
  | schedReady (core : Fin 4) (thread : Byte)
  /-- CAPSTAN_EVENT (R389): An event fires and readies every Dormant or Waiting thread bound to it. -/
  | capstanEvent (code : Byte)
  /-- SCHED_CANCEL (R394): A store to Cancel cancels a thread according to its state. -/
  | schedCancel (core : Fin 4) (thread : Byte)
  /-- SCHED_ALLOC (R388): A load of Alloc returns the lowest Free kernel thread and makes it Dormant. -/
  | schedAlloc (core : Fin 4)
  /-- SCHED_FREE (R388): A store to Free makes a Dormant thread Free. -/
  | schedFree (core : Fin 4) (thread : Byte)
  /-- SCHED_NEXT (R391): A load of Next takes the slotted thread and makes it Running. -/
  | schedNext (core : Fin 4)
  /-- SCHED_YIELD (R388): A store to Yield returns the Running thread to Ready. -/
  | schedYield (core : Fin 4)
  /-- SCHED_DONE (R388): A store to Done ends the activation and releases the thread's flow. -/
  | schedDone (core : Fin 4)
  /-- SCHED_WAIT (R388): A store to Wait binds the Running thread to an event and makes it Waiting. -/
  | schedWait (core : Fin 4) (event : Byte)
  /-- THREAD_PRIORITY_WRITE (R388): A write to a thread's Priority takes effect at once and moves the thread in its lists. -/
  | threadPriorityWrite (core : Fin 4) (thread : Byte) (word : Fin 4) (value : Word)
  /-- SEMAPHORE_TAKE (R387): A load of a semaphore takes it if free and reports whether it was taken. -/
  | semaphoreTake (core : Fin 4) (semaphore : Fin 64)
  /-- SEMAPHORE_RELEASE (R387): A store of 0 releases a semaphore. -/
  | semaphoreRelease (core : Fin 4) (semaphore : Fin 64)
  /-- TRAP (R385): An access fault, illegal instruction or misaligned access traps to machine mode and is handled by mode. -/
  | trap (core : Fin 4) (cause value pc : Word)
  /-- ENVIRONMENT_CALL (R380): ECALL from user mode traps to the kernel's service entry. -/
  | environmentCall (core : Fin 4) (pc : Word)
  /-- BT_COPY (R398): The block-transfer port copies bytes between firmware SRAM and DRAM. -/
  | btCopy (core : Fin 4) (sram length dramLow dramHigh : Word) (toDram : Bool)
  /-- BT_OPEN (R398): The block-transfer port performs a BlockOpen for firmware. -/
  | btOpen (core : Fin 4) (param : Half) (length : Word)
  /-- BT_DATA (R398): The block-transfer port performs a BlockData for firmware. -/
  | btData (core : Fin 4) (param : Half) (slot : BitVec 4) (sram length offset : Word)
  /-- BT_COMMIT (R398): The block-transfer port performs a BlockCommit for firmware. -/
  | btCommit (core : Fin 4) (param : Half) (slot : BitVec 4) (digest : Word)
  /-- BT_ABORT (R398): The block-transfer port performs a BlockAbort for firmware. -/
  | btAbort (core : Fin 4) (param : Half) (slot : BitVec 4) (sameClock : Bool)
  /-- BT_READ (R398): The block-transfer port performs a BlockRead for firmware. -/
  | btRead (core : Fin 4) (param : Half) (sram length offset : Word)
  /-- BT_DONE (R398): A block-transfer operation ends and its status is set. -/
  | btDone (core : Fin 4)
  /-- BULK_ROOM (R399): A bulk queue that refused a frame has room again and event 21h fires. -/
  | bulkRoom (port : Fin 64)
  /-- RELAY_REQUEST (R399): A write to PE301 sends a WDP request to a node in one bulk frame, or is refused Busy. -/
  | relayRequest (rq : Requester) (body : List Byte)
  /-- RELAY_TIMEOUT (R399): No response arrives within RelayTimeout and the status becomes Timeout. -/
  | relayTimeout
  /-- APPLET_START (R401): Start in PE101 loads the applet, sets up its threads and protection regions, and runs it. -/
  | appletStart (rq : Requester) (value : Word)
  /-- APPLET_STOP (R401): Stop in PE101 cancels every applet thread. -/
  | appletStop (rq : Requester)
  /-- IMAGE_WRITE_DONE (R408): The image write ends with read-back; on a match the Generation and Written mark are programmed. -/
  | imageWriteDone (mismatch : Option Word)
  /-- HEALTH_CONFIRM (R410): 0000_5AFEh written to PF020 confirms the running slot's health and programs the Confirmed mark. -/
  | healthConfirm (rq : Requester) (value : Word)
  /-- HEALTH_TIMER_EXPIRY (R410): 300 s pass without confirmation; the running slot is set Rejected and HealthExpired is set. -/
  | healthTimerExpiry
  /-- FLOOR_REQUEST (R411): A write to PF025 raises the image version floor, or is refused. -/
  | floorRequest (rq : Requester) (version : Half)
  /-- SETTINGS_SAVE (R414): Save in PF100 starts a settings save as a flash activity, or is refused Busy. -/
  | settingsSave (rq : Requester)
  /-- SETTINGS_SAVE_ABORT (R414): Abort in PF100 ends a save before its commit word is programmed. -/
  | settingsSaveAbort (rq : Requester) (sameClock : Bool)
  /-- SETTINGS_SAVE_DONE (R414): The save programs its commit word last and releases the flash. -/
  | settingsSaveDone (ok : Bool)
  /-- TROUBLE_WRITE (R424): A firmware write of element 4c + 2 of PF203 enters a trouble-log entry. -/
  | troubleWrite (core : Fin 4) (source aux : Byte) (code : Half) (arg0 arg1 : Word)
  /-- LOG_EXPORT (R427): Start in PF220 copies the trouble log ring into PF221 at one instant. -/
  | logExport (rq : Requester)
  /-- LOG_EXPORT_DONE (R427): The export copy completes and ExportSequence increments. -/
  | logExportDone
  /-- SCRUB_START (R428): Start in PF310 begins a DRAM scrub, or is refused Busy. -/
  | scrubStart (rq : Requester) (periodic : Bool)
  /-- SCRUB_PERIODIC (R428): ScrubInterval after the last scrub ends, a periodic scrub starts or is deferred. -/
  | scrubPeriodic
  /-- SCRUB_ABORT (R428): Abort in PF310 ends the scrub after the line in progress. -/
  | scrubAbort (rq : Requester) (sameClock : Bool)
  /-- SCRUB_DONE (R428): A scrub pass over the DRAM completes and releases the scrub engine. -/
  | scrubDone (corrected : Nat) (uncorrectable : List Word)
  /-- MAINTENANCE_DEFERRED_ADMIT (R430): A deferred automatic Trim run or periodic scrub is admitted in the clock after its resource is released. -/
  | maintenanceDeferredAdmit
  /-- VAO_LOSS (R57): VAO falls away and the device becomes unpowered, losing P1010 ResetCause, the RTC count and every other state. -/
  | vaoLoss
  /-- BOSUN_WRITE_TRANSFER (R111): A Bosun write transfer ends at STOP or repeated START and carries one WDP request, which is CRC checked, size checked and executed or answered Malformed or TooLarge. -/
  | bosunWriteTransfer (bytes : List Byte)
  /-- STAY_MASTER_SYNC_INTERVAL (R134): A stay port in the master state sends two-step Sync, Follow_Up and Announce at the interval of P2028 LogSyncStayMaster. -/
  | stayMasterSyncInterval (port : Fin 4) (stamp : T32) (frac : Byte)
  /-- KITE_CHANNEL_ACCESS_FAILURE (R334): Unslotted CSMA-CA exhausts macMaxCsmaBackoffs without a clear channel, the frame is not sent and PC056 CcaBusyCount increments. -/
  | kiteChannelAccessFailure
  /-- MIRROR_BLOB_VERIFIED (R369): The standby finishes hashing a mirrored BLOB staged from BlobData records and sends BlobAck with status 0 or 1. -/
  | mirrorBlobVerified (param : Half)
  deriving DecidableEq, Repr

end Sys2Proof
end

