-- ==== Sys2Proof/Decode.lean ====
section
/-! DEFINITION. The decoder of the opcode table's words. No row of this block's table gives its command any bits: the
commands reach the block over its pins and its dictionary, not as words of a program, so no word spells a command. -/
namespace Sys2Proof

/-- The command that a word of `nbits` bits spells by the table: none, for every word. -/
def decodeTableWord (_nbits _w : Nat) : Option Instr := none

end Sys2Proof
end

