-- ==== Sys2Proof/Config.lean ====
section
/-! DEFINITION. What one part has that another need not, and the values the spec leaves open. Every constant here is
opaque: nothing can be proved of its value, so what is proved holds whatever it is. The assumption log names each. -/
namespace Sys2Proof

/-- P0001 SerialNumber of the part (identity area). -/
opaque Config.serialNumber : BitVec 64

/-- MAC address of a stay port (R150, identity area). -/
opaque Config.stayMac : Nat → BitVec 48

/-- MAC address of a shroud port (P9003, identity area). -/
opaque Config.shroudMac : Nat → BitVec 48

/-- Words of the default CID of P8020, the unit identity. -/
opaque Config.unitCid : Nat → BitVec 32

/-- P-C006 HubExtended (identity area). -/
opaque Config.hubExtended : BitVec 64

/-- The random number generator's draws (R100), by count. -/
opaque Config.nonce : Nat → BitVec 128

/-- ECDSA P-256 verification (R67, R400): key X and Y, digest, signature r and s, as bytes. -/
opaque Config.ecdsaVerify : List Byte → List Byte → List Byte → Bool

/-- The sRGB decoding curve of P5040 (Table 9.2): the working value of an 8-bit code. -/
opaque Config.srgbCurve : Nat → Nat

/-- The integer matrix of P5040 (R195): colorimetry, bit depth, and Y', Cb, Cr as codes, to R', G', B' as 12-bit codes. -/
opaque Config.colourMatrix : Nat → Nat → Nat × Nat × Nat → Nat × Nat × Nat

/-- How a 10-bit code of an RGB stream is scaled to 12 bits (R195): the bit depth and the code. -/
opaque Config.scaleTo12 : Nat → Nat → Nat

/-- The transfer LUT of P5040 (R195): transfer, PqReference and 12-bit code, to a working value before its clamp. -/
opaque Config.transferLut : Nat → Nat → Nat → Nat

/-- The body of P5040 ConversionTables as a host reads it. -/
opaque Config.conversionTables : List Byte

/-- The default NTC table of PA030, which the spec names and does not print: entries of 16 bits. -/
opaque Config.ntcTable : Nat → BitVec 16

/-- Which neighbour an inexact value is shown as, where the spec gives a register in whole units and states no rounding:
the register key, the exact numerator and the binary exponent; true shows the value above. -/
opaque Config.roundsUp : Nat → Int → Nat → Bool

/-- How far an image write in progress has come, which R408 gives no pace: its stage (0 erasing, 1 programming, 2 reading
back) and the bytes programmed, by the always-running count; and the bytes when it is aborted. -/
opaque Config.imageStage : Nat → Fin 3
opaque Config.imageProgress : Nat → Nat

/-- Where the kernel places the 2 MiB applet area in firmware SRAM (R400). -/
opaque Config.appletArea : Nat

/-- What ReadInfo gives as the write level of an RO parameter, which has none (Tables 5.2 and 5.6). -/
opaque Config.roWriteLevel : Byte

/-- Values the spec leaves undefined or unstated and that change from use to use, by count. -/
opaque Config.freeWord : Nat → BitVec 64

end Sys2Proof
end

