-- ==== Sys2Proof/Machine/Dict.lean ====
section
/-! DEFINITION. The parameters of the object dictionary (R86, R87): one name and one row for each parameter of the
spec's parameter tables: type, access, levels, elements, range, writable bits, default, and the flags of ReadInfo. -/
namespace Sys2Proof.Machine

/-- Types of Table 5.1. -/
inductive PType | u8 | u16 | u32 | u64 | s16 | s32 | t32 | bool | enum | str | blob
  deriving DecidableEq, Repr

/-- Access rights of Table 5.2. -/
inductive Access | ro | rw | wo | rwr
  deriving DecidableEq, Repr

/-- Counter classes of Table 0.4, as Table 20.6 gives them. -/
inductive CounterClass | none | traffic | error | time
  deriving DecidableEq, Repr

/-- One parameter of the dictionary. `lo` and `hi` bound a written value, `mask` holds the bits that a write sets,
`w1c` the bits that a written 1 clears; `size` is the largest body of a STR or BLOB. -/
structure Row where
  num : Nat
  ty : PType
  acc : Access
  elems : Nat
  readLevel : Nat
  writeLevel : Nat
  lo : Int
  hi : Int
  mask : Nat
  w1c : Nat
  dflt : Nat
  content : Bool
  stored : Bool
  mirrored : Bool
  cls : CounterClass
  size : Nat
  deriving DecidableEq, Repr

/-! ### Parameter numbers by name -/
namespace P
abbrev SerialNumber : Nat := 0x0001
abbrev UnitStrap : Nat := 0x0012
abbrev BosunAddress : Nat := 0x0013
abbrev LifeCycleState : Nat := 0x0020
abbrev LifeCycleRequest : Nat := 0x0021
abbrev LifeCycleConfirm : Nat := 0x0022
abbrev KeyHash : Nat := 0x0024
abbrev ImageVersionFloor : Nat := 0x0025
abbrev SessionCount : Nat := 0x0030
abbrev SessionIdleTimeout : Nat := 0x0031
abbrev UnlockFailCount : Nat := 0x0032
abbrev WdpMalformedCount : Nat := 0x0033
abbrev WdpMaxResponse : Nat := 0x0034
abbrev WdpRequestCount : Nat := 0x0035
abbrev ViolationCount : Nat := 0x0036
abbrev BosunCrcErrorCount : Nat := 0x0037
abbrev SessionLevel : Nat := 0x0038
abbrev EventPending : Nat := 0x0060
abbrev EventMask : Nat := 0x0061
abbrev SubscriptionCount : Nat := 0x0062
abbrev EventLostCount : Nat := 0x0063
abbrev BlockStatus : Nat := 0x0070
abbrev HelmKey : Nat := 0x0080
abbrev RiggerKey : Nat := 0x0081
abbrev YardKey : Nat := 0x0082
abbrev KeyStatus_P0084 : Nat := 0x0084
abbrev ResetCause : Nat := 0x1010
abbrev DeviceState : Nat := 0x1011
abbrev BrownoutRails : Nat := 0x1012
abbrev ResetRequest : Nat := 0x1020
abbrev PllLockStatus : Nat := 0x1030
abbrev PllLossCount : Nat := 0x1032
abbrev WatchdogTimeout : Nat := 0x1040
abbrev WatchdogService : Nat := 0x1041
abbrev PowerStateRequest : Nat := 0x1100
abbrev PowerStatus : Nat := 0x1101
abbrev WakePort : Nat := 0x1103
abbrev WakeEnable : Nat := 0x1104
abbrev SupersededCount : Nat := 0x1106
abbrev BosunWakeMode : Nat := 0x1107
abbrev RtcCount : Nat := 0x1120
abbrev RtcAlarm : Nat := 0x1121
abbrev FurledElapsed : Nat := 0x1122
abbrev TimeNow : Nat := 0x2000
abbrev TimeFraction : Nat := 0x2001
abbrev TimeState : Nat := 0x2002
abbrev TimeSource : Nat := 0x2003
abbrev TimeStatus : Nat := 0x2004
abbrev WrapCount : Nat := 0x2010
abbrev SetSeconds : Nat := 0x2012
abbrev SetNanoseconds : Nat := 0x2013
abbrev SetTns : Nat := 0x2014
abbrev StepCount : Nat := 0x2015
abbrev Profile : Nat := 0x2020
abbrev DomainNumber : Nat := 0x2021
abbrev StayPtpEnable : Nat := 0x2022
abbrev StaySlaveOnly : Nat := 0x2023
abbrev Priority1 : Nat := 0x2024
abbrev Priority2 : Nat := 0x2025
abbrev LogSyncShroud : Nat := 0x2026
abbrev LogPdelayShroud : Nat := 0x2027
abbrev LogSyncStayMaster : Nat := 0x2028
abbrev DelayReqMode : Nat := 0x2029
abbrev StayAsymmetry : Nat := 0x202A
abbrev ServoKp : Nat := 0x2030
abbrev ServoKi : Nat := 0x2031
abbrev StepThreshold : Nat := 0x2032
abbrev SlewLimit : Nat := 0x2033
abbrev LockThreshold : Nat := 0x2034
abbrev SyncTimeout : Nat := 0x2035
abbrev HoldLimit : Nat := 0x2036
abbrev TickIncrement : Nat := 0x2040
abbrev FrequencyOffset : Nat := 0x2041
abbrev LastOffset : Nat := 0x2042
abbrev StayMeanPathDelay : Nat := 0x2043
abbrev SyncSkipCount : Nat := 0x2044
abbrev DelayOutlierCount : Nat := 0x2045
abbrev SlavePort : Nat := 0x2046
abbrev ShowFrameRate : Nat := 0x2050
abbrev ShowFrameIndex : Nat := 0x2051
abbrev NextBoundary : Nat := 0x2052
abbrev GridSeed : Nat := 0x2053
abbrev SkippedFrameCount : Nat := 0x2055
abbrev HoldDiscardCount : Nat := 0x2056
abbrev LinkDelay : Nat := 0x2060
abbrev StampIngressOverflowCount : Nat := 0x2070
abbrev StampEgressDropCount : Nat := 0x2071
abbrev StampSelect : Nat := 0x2072
abbrev StampPeek : Nat := 0x2073
abbrev StampDepth : Nat := 0x2074
abbrev TriggerControl : Nat := 0x2080
abbrev TriggerTarget : Nat := 0x2081
abbrev TriggerPeriod : Nat := 0x2082
abbrev TriggerGridOffset : Nat := 0x2083
abbrev TriggerMissCount : Nat := 0x2084
abbrev StayControl : Nat := 0x3000
abbrev StayStatus : Nat := 0x3001
abbrev StayMaxFrame : Nat := 0x3002
abbrev StayMac : Nat := 0x3003
abbrev StayIpv4 : Nat := 0x3004
abbrev StayIpv4Prefix : Nat := 0x3005
abbrev StayIpv6 : Nat := 0x3006
abbrev StayVlan : Nat := 0x3008
abbrev ModuleId0 : Nat := 0x3010
abbrev ModuleId1 : Nat := 0x3011
abbrev ModuleId2 : Nat := 0x3012
abbrev ModuleId3 : Nat := 0x3013
abbrev RxFrameCount_P3020 : Nat := 0x3020
abbrev RxByteCount_P3021 : Nat := 0x3021
abbrev TxFrameCount_P3022 : Nat := 0x3022
abbrev TxByteCount_P3023 : Nat := 0x3023
abbrev RxRuntCount_P3024 : Nat := 0x3024
abbrev RxOversizeCount_P3025 : Nat := 0x3025
abbrev RxFcsErrorCount_P3026 : Nat := 0x3026
abbrev RxOverflowCount_P3027 : Nat := 0x3027
abbrev RxUnclassifiedCount_P3028 : Nat := 0x3028
abbrev FecCorrectedCount : Nat := 0x3029
abbrev FecUncorrectedCount : Nat := 0x302A
abbrev TxFaultCount : Nat := 0x302B
abbrev LinkDownCount_P302C : Nat := 0x302C
abbrev TxQueueDropCount : Nat := 0x302D
abbrev StreamControl : Nat := 0x3100
abbrev StreamStatus : Nat := 0x3101
abbrev StreamGroupV4 : Nat := 0x3102
abbrev StreamGroupV6 : Nat := 0x3103
abbrev StreamSourceV4 : Nat := 0x3104
abbrev StreamSourceV6 : Nat := 0x3105
abbrev StreamUdpPort : Nat := 0x3106
abbrev StreamPayloadType : Nat := 0x3107
abbrev StreamWidth : Nat := 0x3108
abbrev StreamHeight : Nat := 0x3109
abbrev StreamRate : Nat := 0x310A
abbrev StreamFormat : Nat := 0x310B
abbrev StreamColorimetry : Nat := 0x310C
abbrev RingBase : Nat := 0x310D
abbrev SlotSize : Nat := 0x310E
abbrev SelectOffset : Nat := 0x310F
abbrev MergeHold : Nat := 0x3110
abbrev StreamPacketCount : Nat := 0x3120
abbrev DuplicateCount_P3121 : Nat := 0x3121
abbrev LostPacketCount : Nat := 0x3122
abbrev LatePacketCount : Nat := 0x3123
abbrev FormatErrorCount : Nat := 0x3124
abbrev IncompleteFrameCount : Nat := 0x3125
abbrev CompleteFrameCount : Nat := 0x3126
abbrev RepeatCount : Nat := 0x3127
abbrev ResyncCount_P3128 : Nat := 0x3128
abbrev LegFirstCount : Nat := 0x3129
abbrev SacnUniverseTable : Nat := 0x3200
abbrev SacnEnable : Nat := 0x3201
abbrev SacnIpMode : Nat := 0x3202
abbrev SacnPortMask : Nat := 0x3203
abbrev SacnPacketCount_P3210 : Nat := 0x3210
abbrev SacnSequenceDiscardCount : Nat := 0x3211
abbrev SacnIgnoredCount : Nat := 0x3212
abbrev SacnPairLimitCount : Nat := 0x3213
abbrev SacnSyncTimeoutCount : Nat := 0x3214
abbrev SacnUniverseCount : Nat := 0x3215
abbrev SacnSyncLimitCount : Nat := 0x3216
abbrev CascadeControl : Nat := 0x3300
abbrev CascadeStatus : Nat := 0x3301
abbrev CascadeStream : Nat := 0x3302
abbrev CascadeElements : Nat := 0x3303
abbrev CascadeWidth : Nat := 0x3304
abbrev CascadeRingBase : Nat := 0x3305
abbrev CascadeLag : Nat := 0x3306
abbrev CascadeSlotSize : Nat := 0x3307
abbrev CascadeFrameCount : Nat := 0x3310
abbrev CascadeDuplicateCount : Nat := 0x3311
abbrev CascadeIncompleteCount : Nat := 0x3312
abbrev CascadeLateCount : Nat := 0x3313
abbrev MergeEnable : Nat := 0x4000
abbrev MergeTable : Nat := 0x4001
abbrev MergeProfiles : Nat := 0x4002
abbrev MergeEntryCount : Nat := 0x4003
abbrev LossHold : Nat := 0x4004
abbrev SourceTimeout : Nat := 0x4005
abbrev SourceLimitCount : Nat := 0x4010
abbrev SourceLostCount : Nat := 0x4011
abbrev TerminatedCount : Nat := 0x4012
abbrev StatusSelect : Nat := 0x4020
abbrev UniverseStatus : Nat := 0x4021
abbrev CueWrite : Nat := 0x4400
abbrev CueCount : Nat := 0x4402
abbrev CueWordsFree : Nat := 0x4403
abbrev CueStatus : Nat := 0x4404
abbrev CueRead : Nat := 0x4410
abbrev CuePollPeriod : Nat := 0x4411
abbrev CueMargin : Nat := 0x4412
abbrev CueAdmittedCount : Nat := 0x4420
abbrev CueOverflowCount : Nat := 0x4421
abbrev CueMalformedCount : Nat := 0x4422
abbrev CueLateCount : Nat := 0x4423
abbrev CueEmptyReadCount : Nat := 0x4424
abbrev CueDiscardCount : Nat := 0x4425
abbrev BlankPermille : Nat := 0x5002
abbrev CycleStatus : Nat := 0x5003
abbrev LastEvalTime : Nat := 0x5004
abbrev PeakEvalTime : Nat := 0x5005
abbrev LastFetchBytes : Nat := 0x5006
abbrev LastCost : Nat := 0x5007
abbrev AbandonedBandCount : Nat := 0x5008
abbrev AbandonedFrameCount : Nat := 0x5009
abbrev CommitReplaceCount : Nat := 0x500A
abbrev CanvasControl : Nat := 0x5010
abbrev CanvasSize : Nat := 0x5011
abbrev CanvasBackground : Nat := 0x5012
abbrev ConversionTables : Nat := 0x5040
abbrev PqReference : Nat := 0x5041
abbrev LayerControl : Nat := 0x5100
abbrev LayerOpacity : Nat := 0x5101
abbrev LayerDstX : Nat := 0x5102
abbrev LayerDstY : Nat := 0x5103
abbrev LayerDstW : Nat := 0x5104
abbrev LayerDstH : Nat := 0x5105
abbrev LayerSrcX : Nat := 0x5106
abbrev LayerSrcY : Nat := 0x5107
abbrev LayerSrcW : Nat := 0x5108
abbrev LayerSrcH : Nat := 0x5109
abbrev LayerClipAddress : Nat := 0x510A
abbrev LayerClipGeometry : Nat := 0x510B
abbrev LayerClipStride : Nat := 0x510C
abbrev LayerClipFormat : Nat := 0x510D
abbrev LayerCommit : Nat := 0x5120
abbrev FrameCommit : Nat := 0x5121
abbrev CommitPending : Nat := 0x5122
abbrev CommitTarget : Nat := 0x5124
abbrev LayerStatus : Nat := 0x5130
abbrev ReleaseAddress : Nat := 0x5131
abbrev GenControl : Nat := 0x5200
abbrev GenColourA : Nat := 0x5201
abbrev GenColourB : Nat := 0x5202
abbrev GenOriginU : Nat := 0x5203
abbrev GenOriginV : Nat := 0x5204
abbrev GenVectorU : Nat := 0x5205
abbrev GenVectorV : Nat := 0x5206
abbrev GenSpeed : Nat := 0x5207
abbrev GenShape : Nat := 0x5208
abbrev GenCell : Nat := 0x5209
abbrev GenSeed : Nat := 0x520A
abbrev ElementTable : Nat := 0x6000
abbrev ElementCount : Nat := 0x6001
abbrev TableSwapCount : Nat := 0x6002
abbrev TableChangedCount : Nat := 0x6003
abbrev TableRejectElement : Nat := 0x6004
abbrev TableRejectCount : Nat := 0x6005
abbrev PortElementCount : Nat := 0x6006
abbrev OutOfViewLast : Nat := 0x6010
abbrev OutsideExtentLast : Nat := 0x6011
abbrev ProbeElement : Nat := 0x6020
abbrev ProbeRecord : Nat := 0x6021
abbrev ProbeU : Nat := 0x6022
abbrev ProbeV : Nat := 0x6023
abbrev ProbeSide : Nat := 0x6024
abbrev ProbeFrame : Nat := 0x6025
abbrev ProjectionControl : Nat := 0x6100
abbrev ProjectionMatrix : Nat := 0x6101
abbrev ProjectionOffset : Nat := 0x6102
abbrev ProjectionScale : Nat := 0x6103
abbrev FootprintScale : Nat := 0x6104
abbrev NearLimit : Nat := 0x6105
abbrev ProjectionCommit : Nat := 0x6120
abbrev ProjectionPending : Nat := 0x6121
abbrev ProjectionReplaceCount : Nat := 0x6122
abbrev ProfileTable : Nat := 0x7000
abbrev CurveTable : Nat := 0x7001
abbrev ProfileCount : Nat := 0x7002
abbrev CurveCount : Nat := 0x7003
abbrev ColourRejectIndex : Nat := 0x7004
abbrev ColourRejectCount : Nat := 0x7005
abbrev NoProfileLast : Nat := 0x7010
abbrev EnvelopeEnable : Nat := 0x7020
abbrev KneeStart : Nat := 0x7021
abbrev ReleaseStep : Nat := 0x7022
abbrev GroupTable : Nat := 0x7023
abbrev DitherSeed : Nat := 0x7024
abbrev GroupSelect : Nat := 0x7030
abbrev GroupStatus : Nat := 0x7031
abbrev GroupDemand : Nat := 0x7032
abbrev GroupDelivered : Nat := 0x7033
abbrev GroupTarget : Nat := 0x7034
abbrev GroupStatusFrame : Nat := 0x7035
abbrev PortLimiting : Nat := 0x7040
abbrev LimitedFrameCount : Nat := 0x7041
abbrev StarvedCount : Nat := 0x7042
abbrev FrameHash : Nat := 0x7050
abbrev FrameHashIndex : Nat := 0x7051
abbrev Lead : Nat := 0x8000
abbrev Guard_P8001 : Nat := 0x8001
abbrev PortEnable : Nat := 0x8002
abbrev PortMode : Nat := 0x8003
abbrev PortStream : Nat := 0x8004
abbrev AssumedLinkDelay : Nat := 0x8005
abbrev PortStatus : Nat := 0x8006
abbrev StaticEnable : Nat := 0x8010
abbrev StaticAfter : Nat := 0x8011
abbrev KeepAliveFrames : Nat := 0x8012
abbrev RefreshKeepAlives : Nat := 0x8013
abbrev LpiEnable : Nat := 0x8014
abbrev LpiWakeLead : Nat := 0x8015
abbrev SacnCid : Nat := 0x8020
abbrev SacnSourceName : Nat := 0x8021
abbrev SacnPriority : Nat := 0x8022
abbrev SacnRefreshFrames : Nat := 0x8023
abbrev SacnSyncAddress : Nat := 0x8024
abbrev SacnSourceV4 : Nat := 0x8025
abbrev SacnElementLayout : Nat := 0x8026
abbrev SacnOverLimitLast : Nat := 0x8027
abbrev ChannelTable : Nat := 0x8030
abbrev ChannelEntryCount : Nat := 0x8031
abbrev CameraRate : Nat := 0x8040
abbrev PwmMultiple : Nat := 0x8041
abbrev PwmPhaseOffset : Nat := 0x8042
abbrev PhaseEnable : Nat := 0x8043
abbrev PhaseRepeatFrames : Nat := 0x8044
abbrev CloneSource : Nat := 0x8050
abbrev CloneTargets : Nat := 0x8051
abbrev CascadeOutStream : Nat := 0x8060
abbrev CascadeOutPorts : Nat := 0x8061
abbrev CascadeOutGroup : Nat := 0x8062
abbrev TxShowFrameCount : Nat := 0x8100
abbrev TxShowByteCount : Nat := 0x8101
abbrev LateFrameCount : Nat := 0x8102
abbrev LateDropCount : Nat := 0x8103
abbrev UnderrunCount : Nat := 0x8104
abbrev UnderrunElementsLast : Nat := 0x8105
abbrev HoldFrameCount : Nat := 0x8106
abbrev PortWireTime : Nat := 0x8107
abbrev PortMargin : Nat := 0x8108
abbrev PortMinMargin : Nat := 0x8109
abbrev SyncDelayedCount : Nat := 0x810A
abbrev SacnPacketCount_P810B : Nat := 0x810B
abbrev PackTime : Nat := 0x8110
abbrev PhyControl : Nat := 0x9001
abbrev ShroudMaxFrame : Nat := 0x9002
abbrev ShroudMac : Nat := 0x9003
abbrev LinkStatus : Nat := 0x9004
abbrev RxFrameCount_P9010 : Nat := 0x9010
abbrev RxByteCount_P9011 : Nat := 0x9011
abbrev TxFrameCount_P9012 : Nat := 0x9012
abbrev TxByteCount_P9013 : Nat := 0x9013
abbrev RxRuntCount_P9100 : Nat := 0x9100
abbrev RxOversizeCount_P9101 : Nat := 0x9101
abbrev RxOverflowCount_P9102 : Nat := 0x9102
abbrev RxUnclassifiedCount_P9103 : Nat := 0x9103
abbrev RxFcsErrorCount_P9104 : Nat := 0x9104
abbrev LinkDownCount_P9105 : Nat := 0x9105
abbrev ExpressDropCount : Nat := 0x9106
abbrev TimeDropCount : Nat := 0x9107
abbrev TxDiscardCount : Nat := 0x9108
abbrev WakeMatchCount : Nat := 0x9109
abbrev ExpressEnable : Nat := 0x9200
abbrev ExpressStreamBase : Nat := 0x9201
abbrev ExpressRouteLow : Nat := 0x9202
abbrev ExpressGroupV4 : Nat := 0x9203
abbrev ExpressGroupV6 : Nat := 0x9204
abbrev ExpressForwardCount : Nat := 0x9205
abbrev ExpressStompCount : Nat := 0x9206
abbrev ExpressRejectCount : Nat := 0x9207
abbrev ExpressRouteHigh : Nat := 0x9208
abbrev WakeSelect : Nat := 0x9300
abbrev WakeControl : Nat := 0x9301
abbrev WakeMask : Nat := 0x9302
abbrev WakeCrc : Nat := 0x9303
abbrev SnapshotControl : Nat := 0x9400
abbrev SnapshotAt : Nat := 0x9401
abbrev SnapshotData : Nat := 0x9402
abbrev SnapshotSequence : Nat := 0x9403
abbrev CableTestControl : Nat := 0x9500
abbrev CableTestPorts : Nat := 0x9501
abbrev CableResult : Nat := 0x9502
abbrev MastheadControl : Nat := 0xA000
abbrev MastheadStatus : Nat := 0xA001
abbrev GlobalCurrent : Nat := 0xA002
abbrev DotCorrection : Nat := 0xA003
abbrev SinkColour : Nat := 0xA004
abbrev PwmPeriod : Nat := 0xA005
abbrev PwmOffset : Nat := 0xA006
abbrev VBlankTime : Nat := 0xA007
abbrev PrechargeTime : Nat := 0xA008
abbrev PrechargeLevel : Nat := 0xA009
abbrev ActiveTicks : Nat := 0xA00A
abbrev CycleLength : Nat := 0xA00B
abbrev RasterFrames : Nat := 0xA010
abbrev RasterCommit : Nat := 0xA011
abbrev RasterStatus : Nat := 0xA012
abbrev RasterReplaceCount : Nat := 0xA013
abbrev IgnoredLast : Nat := 0xA014
abbrev MastheadUnderrunCount : Nat := 0xA015
abbrev LoopGain : Nat := 0xA020
abbrev LoopMin : Nat := 0xA021
abbrev LoopCorrection : Nat := 0xA022
abbrev PdReference : Nat := 0xA023
abbrev PdResponse : Nat := 0xA024
abbrev LoopCapture : Nat := 0xA025
abbrev PdRange : Nat := 0xA026
abbrev LoopHeldCount : Nat := 0xA027
abbrev NtcTable : Nat := 0xA030
abbrev NtcTemperature : Nat := 0xA031
abbrev DerateStart : Nat := 0xA032
abbrev DerateEnd : Nat := 0xA033
abbrev DerateMin : Nat := 0xA034
abbrev ShutdownTemp : Nat := 0xA035
abbrev DerateFactor : Nat := 0xA036
abbrev LedOpenMask : Nat := 0xA040
abbrev SwitchFaultCount : Nat := 0xA041
abbrev SwitchLatched : Nat := 0xA042
abbrev ShowLossTimeout : Nat := 0xA043
abbrev PatternProgram : Nat := 0xA100
abbrev EngineControl : Nat := 0xA101
abbrev EngineRange : Nat := 0xA102
abbrev EngineColour : Nat := 0xA103
abbrev EngineStart : Nat := 0xA104
abbrev EngineStop : Nat := 0xA105
abbrev EngineStatus : Nat := 0xA106
abbrev TrimControl : Nat := 0xB000
abbrev TrimStatus : Nat := 0xB001
abbrev TrimThreshold : Nat := 0xB002
abbrev TrimTolerance : Nat := 0xB003
abbrev DieTemperature : Nat := 0xB004
abbrev RunTemperature : Nat := 0xB005
abbrev TrimRunCount : Nat := 0xB006
abbrev TrimFlagCount : Nat := 0xB007
abbrev SinkTrim : Nat := 0xB010
abbrev PdOffsetTrim : Nat := 0xB011
abbrev PdGainTrim : Nat := 0xB012
abbrev SensorTrim : Nat := 0xB013
abbrev SinkMeasured : Nat := 0xB014
abbrev LastDisagreement : Nat := 0xB020
abbrev KiteControl : Nat := 0xC000
abbrev KiteStatus : Nat := 0xC001
abbrev Channel : Nat := 0xC002
abbrev TxPower : Nat := 0xC003
abbrev PanId : Nat := 0xC004
abbrev ShortAddress : Nat := 0xC005
abbrev HubExtended : Nat := 0xC006
abbrev SecurityLevel : Nat := 0xC007
abbrev TxKeyIndex : Nat := 0xC008
abbrev KeyA : Nat := 0xC010
abbrev KeyB : Nat := 0xC011
abbrev KeyStatus_PC012 : Nat := 0xC012
abbrev KeyEra : Nat := 0xC013
abbrev AnchorInterval : Nat := 0xC020
abbrev AnchorOffset : Nat := 0xC021
abbrev Guard_PC022 : Nat := 0xC022
abbrev ListenWindow : Nat := 0xC023
abbrev AnchorProtect : Nat := 0xC024
abbrev LevelGuard : Nat := 0xC025
abbrev LevelRefresh : Nat := 0xC026
abbrev MaxRetries : Nat := 0xC027
abbrev AcceptWindow : Nat := 0xC028
abbrev PartnerTable : Nat := 0xC030
abbrev KiteMap : Nat := 0xC031
abbrev MapEntryCount : Nat := 0xC032
abbrev TxFrameCount_PC040 : Nat := 0xC040
abbrev RxFrameCount_PC041 : Nat := 0xC041
abbrev AnchorCount : Nat := 0xC042
abbrev LevelLateCount : Nat := 0xC050
abbrev RetryExhaustCount : Nat := 0xC051
abbrev DuplicateCount_PC052 : Nat := 0xC052
abbrev MicFailCount : Nat := 0xC053
abbrev UnknownSourceCount : Nat := 0xC054
abbrev StaleTagCount : Nat := 0xC055
abbrev CcaBusyCount : Nat := 0xC056
abbrev RxDiscardCount : Nat := 0xC057
abbrev AckSkippedCount : Nat := 0xC058
abbrev LastCounter : Nat := 0xC060
abbrev TwinControl : Nat := 0xD000
abbrev TwinStatus : Nat := 0xD001
abbrev HeartbeatInterval : Nat := 0xD003
abbrev JoinWait : Nat := 0xD005
abbrev MirrorLead : Nat := 0xD006
abbrev StayGroupV6 : Nat := 0xD007
abbrev StayGroupV4 : Nat := 0xD008
abbrev PairKey : Nat := 0xD009
abbrev PennantAge : Nat := 0xD00A
abbrev StayAge : Nat := 0xD00B
abbrev RoleRequest : Nat := 0xD010
abbrev PathLossCount : Nat := 0xD020
abbrev TakeoverCount : Nat := 0xD021
abbrev DualActiveCount : Nat := 0xD022
abbrev SplitWriteCount : Nat := 0xD023
abbrev MirrorLateCount : Nat := 0xD024
abbrev PennantCrcErrorCount : Nat := 0xD025
abbrev StayTagFailCount : Nat := 0xD026
abbrev ResyncCount_PD027 : Nat := 0xD027
abbrev HashMismatchCount : Nat := 0xD028
abbrev StrapConflictCount : Nat := 0xD029
abbrev MirrorRecordCount : Nat := 0xD030
abbrev PennantCount : Nat := 0xD031
abbrev ResyncProgress : Nat := 0xD040
abbrev CoreStatus : Nat := 0xE001
abbrev PreemptFloor : Nat := 0xE010
abbrev ThreadSelect : Nat := 0xE011
abbrev ThreadDescriptor : Nat := 0xE012
abbrev ReadyThreads : Nat := 0xE013
abbrev DispatchCount : Nat := 0xE020
abbrev PreemptCount : Nat := 0xE021
abbrev MergeCount : Nat := 0xE022
abbrev CancelCount : Nat := 0xE023
abbrev ApertureBase : Nat := 0xE030
abbrev AccessFaultCount : Nat := 0xE031
abbrev AppletImage : Nat := 0xE100
abbrev AppletControl : Nat := 0xE101
abbrev AppletState : Nat := 0xE102
abbrev AppletKeyHash : Nat := 0xE103
abbrev AppletPriorityMax : Nat := 0xE104
abbrev AppletFaultCount : Nat := 0xE105
abbrev AppletOpDropCount : Nat := 0xE106
abbrev AppletFaultInfo : Nat := 0xE107
abbrev TraceControl : Nat := 0xE200
abbrev TraceData : Nat := 0xE201
abbrev TraceIndex : Nat := 0xE202
abbrev RelayPort : Nat := 0xE300
abbrev RelayRequest : Nat := 0xE301
abbrev RelayResponse : Nat := 0xE302
abbrev RelayStatus : Nat := 0xE303
abbrev RelayTimeout : Nat := 0xE304
abbrev UpdateStatus : Nat := 0xF000
abbrev SlotStatus : Nat := 0xF001
abbrev SlotGeneration : Nat := 0xF003
abbrev ImageWrite : Nat := 0xF010
abbrev ImageWriteProgress : Nat := 0xF011
abbrev HealthConfirm : Nat := 0xF020
abbrev HealthRemaining : Nat := 0xF021
abbrev FloorRequest : Nat := 0xF025
abbrev SettingsControl : Nat := 0xF100
abbrev SettingsStatus : Nat := 0xF101
abbrev SettingsImage : Nat := 0xF102
abbrev SettingsSequence : Nat := 0xF103
abbrev SettingsFormat : Nat := 0xF104
abbrev SettingsSaveCount : Nat := 0xF105
abbrev TroubleIndex : Nat := 0xF200
abbrev TroubleOverwriteCount : Nat := 0xF201
abbrev TroubleDropCount : Nat := 0xF202
abbrev TroubleWrite : Nat := 0xF203
abbrev TroubleSelect : Nat := 0xF210
abbrev TroubleEntry : Nat := 0xF211
abbrev ExportControl : Nat := 0xF220
abbrev TroubleExport : Nat := 0xF221
abbrev ExportSequence : Nat := 0xF222
abbrev MaintenanceStatus : Nat := 0xF300
abbrev ArbiterBusyCount : Nat := 0xF301
abbrev ScrubControl : Nat := 0xF310
abbrev ScrubInterval : Nat := 0xF311
abbrev ScrubRate : Nat := 0xF312
abbrev ScrubProgress : Nat := 0xF313
abbrev ScrubCorrectedCount : Nat := 0xF314
abbrev ScrubUncorrectableCount : Nat := 0xF315
end P

/-! ### Rows, by area -/
/-- Rows of area P0. -/
def rows0a : List Row := [
  ⟨0x0001, .u64, .ro, 1, 0, 3, 0, 18446744073709551615, 0xFFFFFFFFFFFFFFFF, 0x0, 0x0, false, false, false, .none, 0⟩,
  ⟨0x0012, .enum, .ro, 1, 0, 3, 0, 255, 0xFF, 0x0, 0x0, false, false, false, .none, 0⟩,
  ⟨0x0013, .u8, .ro, 1, 0, 3, 0, 255, 0xFF, 0x0, 0x0, false, false, false, .none, 0⟩,
  ⟨0x0020, .enum, .ro, 1, 0, 3, 0, 3, 0xFF, 0x0, 0x0, false, false, false, .none, 0⟩,
  ⟨0x0021, .enum, .wo, 1, 0, 1, 0, 3, 0xFF, 0x0, 0x0, false, false, false, .none, 0⟩,
  ⟨0x0022, .u32, .wo, 1, 0, 1, 0, 4294967295, 0xFFFFFFFF, 0x0, 0x0, false, false, false, .none, 0⟩,
  ⟨0x0024, .blob, .rw, 1, 0, 3, 0, 0, 0x0, 0x0, 0x0, false, true, false, .none, 32⟩,
  ⟨0x0025, .u16, .ro, 1, 0, 3, 0, 65535, 0xFFFF, 0x0, 0x0, false, false, false, .none, 0⟩,
  ⟨0x0030, .u8, .ro, 1, 0, 3, 0, 255, 0xFF, 0x0, 0x0, false, false, false, .none, 0⟩,
  ⟨0x0031, .u16, .rwr, 1, 0, 2, 10, 3600, 0xFFFF, 0x0, 0x3C, false, true, false, .none, 0⟩,
  ⟨0x0032, .u32, .rw, 1, 0, 1, 0, 4294967295, 0xFFFFFFFF, 0x0, 0x0, false, false, false, .error, 0⟩,
  ⟨0x0033, .u32, .rw, 1, 0, 1, 0, 4294967295, 0xFFFFFFFF, 0x0, 0x0, false, false, false, .error, 0⟩,
  ⟨0x0034, .u16, .rwr, 1, 0, 2, 512, 8972, 0xFFFF, 0x0, 0x5AC, false, true, false, .none, 0⟩,
  ⟨0x0035, .u64, .rw, 1, 0, 1, 0, 18446744073709551615, 0xFFFFFFFFFFFFFFFF, 0x0, 0x0, false, false, false, .traffic, 0⟩,
  ⟨0x0036, .u32, .rw, 1, 0, 1, 0, 4294967295, 0xFFFFFFFF, 0x0, 0x0, false, false, false, .error, 0⟩,
  ⟨0x0037, .u32, .rw, 1, 0, 1, 0, 4294967295, 0xFFFFFFFF, 0x0, 0x0, false, false, false, .error, 0⟩,
  ⟨0x0038, .u8, .ro, 1, 0, 3, 0, 255, 0xFF, 0x0, 0x0, false, false, false, .none, 0⟩,
  ⟨0x0060, .u32, .rw, 1, 0, 1, 0, 4294967295, 0x0, 0xFFF, 0x0, false, false, false, .none, 0⟩,
  ⟨0x0061, .u32, .rw, 1, 0, 1, 0, 4294967295, 0xFFF, 0x0, 0x0, false, true, false, .none, 0⟩,
  ⟨0x0062, .u8, .ro, 1, 0, 3, 0, 255, 0xFF, 0x0, 0x0, false, false, false, .none, 0⟩,
  ⟨0x0063, .u32, .rw, 1, 0, 1, 0, 4294967295, 0xFFFFFFFF, 0x0, 0x0, false, false, false, .error, 0⟩,
  ⟨0x0070, .u32, .ro, 4, 0, 3, 0, 4294967295, 0xFFFFFFFF, 0x0, 0x0, false, false, false, .none, 0⟩,
  ⟨0x0080, .blob, .wo, 1, 0, 2, 0, 0, 0x0, 0x0, 0x0, false, false, false, .none, 32⟩,
  ⟨0x0081, .blob, .wo, 1, 0, 2, 0, 0, 0x0, 0x0, 0x0, false, false, false, .none, 32⟩,
  ⟨0x0082, .blob, .wo, 1, 0, 3, 0, 0, 0x0, 0x0, 0x0, false, false, false, .none, 32⟩,
  ⟨0x0084, .u8, .ro, 1, 0, 3, 0, 255, 0xFF, 0x0, 0x0, false, false, false, .none, 0⟩]

/-- All rows of area P0. -/
def rows0 : List Row := rows0a

/-- Rows of area P1. -/
def rows1a : List Row := [
  ⟨0x1010, .u32, .rw, 1, 0, 1, 0, 4294967295, 0x0, 0xFF, 0x1, false, false, false, .none, 0⟩,
  ⟨0x1011, .enum, .ro, 1, 0, 3, 0, 2, 0xFF, 0x0, 0x0, false, false, false, .none, 0⟩,
  ⟨0x1012, .u16, .rw, 1, 0, 1, 0, 65535, 0x0, 0x1FFE, 0x0, false, false, false, .none, 0⟩,
  ⟨0x1020, .u32, .wo, 1, 0, 2, 0, 4294967295, 0xFFFFFFFF, 0x0, 0x0, false, false, false, .none, 0⟩,
  ⟨0x1030, .u8, .ro, 1, 0, 3, 0, 255, 0xFF, 0x0, 0x0, false, false, false, .none, 0⟩,
  ⟨0x1032, .u32, .rw, 1, 0, 1, 0, 4294967295, 0xFFFFFFFF, 0x0, 0x0, false, false, false, .error, 0⟩,
  ⟨0x1040, .u16, .rwr, 1, 0, 2, 0, 65535, 0xFFFF, 0x0, 0x1F4, false, true, false, .none, 0⟩,
  ⟨0x1041, .u32, .wo, 1, 0, 1, 0, 4294967295, 0xFFFFFFFF, 0x0, 0x0, false, false, false, .none, 0⟩,
  ⟨0x1100, .u32, .rw, 1, 0, 1, 0, 4294967295, 0xF, 0x0, 0x8, false, true, false, .none, 0⟩,
  ⟨0x1101, .u32, .rw, 1, 0, 1, 0, 4294967295, 0x0, 0x800, 0x0, false, false, false, .none, 0⟩,
  ⟨0x1103, .u8, .ro, 1, 0, 3, 0, 255, 0xFF, 0x0, 0x0, false, false, false, .none, 0⟩,
  ⟨0x1104, .u8, .rw, 1, 0, 1, 0, 255, 0x1F, 0x0, 0x1C, false, true, false, .none, 0⟩,
  ⟨0x1106, .u32, .rw, 1, 0, 1, 0, 4294967295, 0xFFFFFFFF, 0x0, 0x0, false, false, false, .error, 0⟩,
  ⟨0x1107, .enum, .rw, 1, 0, 1, 0, 1, 0xFF, 0x0, 0x0, false, true, false, .none, 0⟩,
  ⟨0x1120, .u64, .ro, 1, 0, 3, 0, 18446744073709551615, 0xFFFFFFFFFFFFFFFF, 0x0, 0x0, false, false, false, .none, 0⟩,
  ⟨0x1121, .u64, .rw, 1, 0, 1, 0, 18446744073709551615, 0xFFFFFFFFFFFF, 0x0, 0xFFFFFFFFFFFF, false, true, false, .none, 0⟩,
  ⟨0x1122, .u64, .ro, 1, 0, 3, 0, 18446744073709551615, 0xFFFFFFFFFFFFFFFF, 0x0, 0x0, false, false, false, .none, 0⟩]

/-- All rows of area P1. -/
def rows1 : List Row := rows1a

/-- Rows of area P2. -/
def rows2a : List Row := [
  ⟨0x2000, .t32, .ro, 1, 0, 3, 0, 4294967295, 0xFFFFFFFF, 0x0, 0x0, false, false, false, .none, 0⟩,
  ⟨0x2001, .u8, .ro, 1, 0, 3, 0, 255, 0xFF, 0x0, 0x0, false, false, false, .none, 0⟩,
  ⟨0x2002, .enum, .ro, 1, 0, 3, 0, 4, 0xFF, 0x0, 0x0, false, false, false, .none, 0⟩,
  ⟨0x2003, .enum, .rwr, 1, 0, 2, 0, 1, 0xFF, 0x0, 0x0, false, true, true, .none, 0⟩,
  ⟨0x2004, .u32, .rw, 1, 0, 1, 0, 4294967295, 0x0, 0x5, 0x0, false, false, false, .none, 0⟩,
  ⟨0x2010, .u64, .rwr, 1, 0, 2, 0, 18446744073709551615, 0xFFFFFFFFFFFFFFFF, 0x0, 0x0, false, true, false, .none, 0⟩,
  ⟨0x2012, .u64, .ro, 1, 0, 3, 0, 18446744073709551615, 0xFFFFFFFFFFFFFFFF, 0x0, 0x0, false, false, false, .none, 0⟩,
  ⟨0x2013, .u32, .ro, 1, 0, 3, 0, 4294967295, 0xFFFFFFFF, 0x0, 0x0, false, false, false, .none, 0⟩,
  ⟨0x2014, .t32, .ro, 1, 0, 3, 0, 4294967295, 0xFFFFFFFF, 0x0, 0x0, false, false, false, .none, 0⟩,
  ⟨0x2015, .u32, .rw, 1, 0, 1, 0, 4294967295, 0xFFFFFFFF, 0x0, 0x0, false, false, false, .error, 0⟩,
  ⟨0x2020, .enum, .rwr, 1, 0, 2, 0, 1, 0xFF, 0x0, 0x1, false, true, true, .none, 0⟩,
  ⟨0x2021, .u8, .rwr, 1, 0, 2, 0, 127, 0xFF, 0x0, 0x7F, false, true, true, .none, 0⟩,
  ⟨0x2022, .u8, .rwr, 1, 0, 2, 0, 255, 0xF, 0x0, 0xF, false, true, true, .none, 0⟩,
  ⟨0x2023, .bool, .rwr, 1, 0, 2, 0, 1, 0xFF, 0x0, 0x1, false, true, true, .none, 0⟩,
  ⟨0x2024, .u8, .rwr, 1, 0, 2, 0, 255, 0xFF, 0x0, 0x80, false, true, true, .none, 0⟩,
  ⟨0x2025, .u8, .rwr, 1, 0, 2, 0, 255, 0xFF, 0x0, 0x80, false, true, true, .none, 0⟩,
  ⟨0x2026, .s16, .rwr, 1, 0, 2, (-7), 0, 0xFFFF, 0x0, 0xFFFC, false, true, true, .none, 0⟩,
  ⟨0x2027, .s16, .rwr, 1, 0, 2, (-4), 3, 0xFFFF, 0x0, 0x0, false, true, true, .none, 0⟩,
  ⟨0x2028, .s16, .rwr, 1, 0, 2, (-7), 1, 0xFFFF, 0x0, 0xFFFD, false, true, true, .none, 0⟩,
  ⟨0x2029, .enum, .rwr, 1, 0, 2, 0, 1, 0xFF, 0x0, 0x0, false, true, true, .none, 0⟩,
  ⟨0x202A, .s32, .rwr, 4, 0, 2, (-2147483648), 2147483647, 0xFFFFFFFF, 0x0, 0x0, false, true, false, .none, 0⟩,
  ⟨0x2030, .u16, .rwr, 1, 0, 2, 0, 65535, 0xFFFF, 0x0, 0x200, false, true, true, .none, 0⟩,
  ⟨0x2031, .u16, .rwr, 1, 0, 2, 0, 65535, 0xFFFF, 0x0, 0x4CD, false, true, true, .none, 0⟩,
  ⟨0x2032, .u32, .rwr, 1, 0, 2, 1000, 2147483647, 0xFFFFFFFF, 0x0, 0xF4240, false, true, true, .none, 0⟩,
  ⟨0x2033, .u32, .rwr, 1, 0, 2, 1000, 1000000, 0xFFFFFFFF, 0x0, 0xF4240, false, true, true, .none, 0⟩,
  ⟨0x2034, .u32, .rwr, 1, 0, 2, 10, 100000, 0xFFFFFFFF, 0x0, 0x64, false, true, true, .none, 0⟩,
  ⟨0x2035, .u8, .rwr, 1, 0, 2, 2, 10, 0xFF, 0x0, 0x3, false, true, true, .none, 0⟩,
  ⟨0x2036, .u8, .rwr, 1, 0, 2, 1, 8, 0xFF, 0x0, 0x2, false, true, true, .none, 0⟩,
  ⟨0x2040, .u64, .rwr, 1, 0, 2, 0, 18446744073709551615, 0xFFFFFFFFFFFFFFFF, 0x0, 0x20000000000, false, true, false, .none, 0⟩,
  ⟨0x2041, .s32, .ro, 1, 0, 3, (-2147483648), 2147483647, 0xFFFFFFFF, 0x0, 0x0, false, false, false, .none, 0⟩]

/-- Rows of area P2. -/
def rows2b : List Row := [
  ⟨0x2042, .s32, .ro, 1, 0, 3, (-2147483648), 2147483647, 0xFFFFFFFF, 0x0, 0x0, false, false, false, .none, 0⟩,
  ⟨0x2043, .u32, .ro, 1, 0, 3, 0, 4294967295, 0xFFFFFFFF, 0x0, 0x0, false, false, false, .none, 0⟩,
  ⟨0x2044, .u32, .rw, 1, 0, 1, 0, 4294967295, 0xFFFFFFFF, 0x0, 0x0, false, false, false, .error, 0⟩,
  ⟨0x2045, .u32, .rw, 1, 0, 1, 0, 4294967295, 0xFFFFFFFF, 0x0, 0x0, false, false, false, .error, 0⟩,
  ⟨0x2046, .u8, .ro, 1, 0, 3, 0, 255, 0xFF, 0x0, 0xFF, false, false, false, .none, 0⟩,
  ⟨0x2050, .enum, .rw, 1, 0, 1, 0, 18, 0xFF, 0x0, 0x9, true, true, true, .none, 0⟩,
  ⟨0x2051, .u64, .ro, 1, 0, 3, 0, 18446744073709551615, 0xFFFFFFFFFFFFFFFF, 0x0, 0x0, false, false, false, .none, 0⟩,
  ⟨0x2052, .t32, .ro, 1, 0, 3, 0, 4294967295, 0xFFFFFFFF, 0x0, 0x0, false, false, false, .none, 0⟩,
  ⟨0x2053, .u32, .rwr, 4, 0, 2, 0, 4294967295, 0xFFFFFFFF, 0x0, 0x0, true, true, false, .none, 0⟩,
  ⟨0x2055, .u32, .rw, 1, 0, 1, 0, 4294967295, 0xFFFFFFFF, 0x0, 0x0, false, false, false, .error, 0⟩,
  ⟨0x2056, .u32, .rw, 1, 0, 1, 0, 4294967295, 0xFFFFFFFF, 0x0, 0x0, false, false, false, .error, 0⟩,
  ⟨0x2060, .u32, .ro, 64, 0, 3, 0, 4294967295, 0xFFFFFFFF, 0x0, 0xFFFFFFFF, false, false, false, .none, 0⟩,
  ⟨0x2070, .u32, .rw, 68, 0, 1, 0, 4294967295, 0xFFFFFFFF, 0x0, 0x0, false, false, false, .error, 0⟩,
  ⟨0x2071, .u32, .rw, 68, 0, 1, 0, 4294967295, 0xFFFFFFFF, 0x0, 0x0, false, false, false, .error, 0⟩,
  ⟨0x2072, .u8, .rw, 1, 0, 1, 0, 255, 0xFF, 0x0, 0x0, false, true, false, .none, 0⟩,
  ⟨0x2073, .u32, .ro, 3, 0, 3, 0, 4294967295, 0xFFFFFFFF, 0x0, 0x0, false, false, false, .none, 0⟩,
  ⟨0x2074, .u16, .ro, 68, 0, 3, 0, 65535, 0xFFFF, 0x0, 0x0, false, false, false, .none, 0⟩,
  ⟨0x2080, .u32, .rw, 16, 0, 1, 0, 4294967295, 0xFF000D, 0x80, 0x0, false, true, false, .none, 0⟩,
  ⟨0x2081, .t32, .rw, 16, 0, 1, 0, 4294967295, 0xFFFFFFFF, 0x0, 0x0, false, true, false, .none, 0⟩,
  ⟨0x2082, .u32, .rw, 16, 0, 1, 1000, 2147483647, 0xFFFFFFFF, 0x0, 0x0, false, true, false, .none, 0⟩,
  ⟨0x2083, .s32, .rw, 16, 0, 1, (-1000000000), 1000000000, 0xFFFFFFFF, 0x0, 0x0, false, true, false, .none, 0⟩,
  ⟨0x2084, .u32, .rw, 16, 0, 1, 0, 4294967295, 0xFFFFFFFF, 0x0, 0x0, false, false, false, .error, 0⟩]

/-- All rows of area P2. -/
def rows2 : List Row := rows2a ++ rows2b

/-- Rows of area P3. -/
def rows3a : List Row := [
  ⟨0x3000, .u32, .rwr, 4, 0, 2, 0, 4294967295, 0x7, 0x0, 0x6, false, true, false, .none, 0⟩,
  ⟨0x3001, .u32, .ro, 4, 0, 3, 0, 4294967295, 0xFFFFFFFF, 0x0, 0x0, false, false, false, .none, 0⟩,
  ⟨0x3002, .u16, .rwr, 4, 0, 2, 1518, 9600, 0xFFFF, 0x0, 0x5F2, false, true, false, .none, 0⟩,
  ⟨0x3003, .u64, .ro, 4, 0, 3, 0, 18446744073709551615, 0xFFFFFFFFFFFFFFFF, 0x0, 0x0, false, false, false, .none, 0⟩,
  ⟨0x3004, .u32, .rwr, 4, 0, 2, 0, 4294967295, 0xFFFFFFFF, 0x0, 0x0, false, true, false, .none, 0⟩,
  ⟨0x3005, .u8, .rwr, 4, 0, 2, 8, 30, 0xFF, 0x0, 0x18, false, true, false, .none, 0⟩,
  ⟨0x3006, .u32, .rwr, 16, 0, 2, 0, 4294967295, 0xFFFFFFFF, 0x0, 0x0, false, true, false, .none, 0⟩,
  ⟨0x3008, .u16, .rwr, 4, 0, 2, 0, 65535, 0x7FFF, 0x0, 0x0, false, true, false, .none, 0⟩,
  ⟨0x3010, .blob, .ro, 1, 0, 3, 0, 0, 0x0, 0x0, 0x0, false, false, false, .none, 96⟩,
  ⟨0x3011, .blob, .ro, 1, 0, 3, 0, 0, 0x0, 0x0, 0x0, false, false, false, .none, 96⟩,
  ⟨0x3012, .blob, .ro, 1, 0, 3, 0, 0, 0x0, 0x0, 0x0, false, false, false, .none, 96⟩,
  ⟨0x3013, .blob, .ro, 1, 0, 3, 0, 0, 0x0, 0x0, 0x0, false, false, false, .none, 96⟩,
  ⟨0x3020, .u64, .rw, 4, 0, 1, 0, 18446744073709551615, 0xFFFFFFFFFFFFFFFF, 0x0, 0x0, false, false, false, .traffic, 0⟩,
  ⟨0x3021, .u64, .rw, 4, 0, 1, 0, 18446744073709551615, 0xFFFFFFFFFFFFFFFF, 0x0, 0x0, false, false, false, .traffic, 0⟩,
  ⟨0x3022, .u64, .rw, 4, 0, 1, 0, 18446744073709551615, 0xFFFFFFFFFFFFFFFF, 0x0, 0x0, false, false, false, .traffic, 0⟩,
  ⟨0x3023, .u64, .rw, 4, 0, 1, 0, 18446744073709551615, 0xFFFFFFFFFFFFFFFF, 0x0, 0x0, false, false, false, .traffic, 0⟩,
  ⟨0x3024, .u32, .rw, 4, 0, 1, 0, 4294967295, 0xFFFFFFFF, 0x0, 0x0, false, false, false, .error, 0⟩,
  ⟨0x3025, .u32, .rw, 4, 0, 1, 0, 4294967295, 0xFFFFFFFF, 0x0, 0x0, false, false, false, .error, 0⟩,
  ⟨0x3026, .u32, .rw, 4, 0, 1, 0, 4294967295, 0xFFFFFFFF, 0x0, 0x0, false, false, false, .error, 0⟩,
  ⟨0x3027, .u32, .rw, 4, 0, 1, 0, 4294967295, 0xFFFFFFFF, 0x0, 0x0, false, false, false, .error, 0⟩,
  ⟨0x3028, .u32, .rw, 4, 0, 1, 0, 4294967295, 0xFFFFFFFF, 0x0, 0x0, false, false, false, .error, 0⟩,
  ⟨0x3029, .u32, .rw, 4, 0, 1, 0, 4294967295, 0xFFFFFFFF, 0x0, 0x0, false, false, false, .error, 0⟩,
  ⟨0x302A, .u32, .rw, 4, 0, 1, 0, 4294967295, 0xFFFFFFFF, 0x0, 0x0, false, false, false, .error, 0⟩,
  ⟨0x302B, .u32, .rw, 4, 0, 1, 0, 4294967295, 0xFFFFFFFF, 0x0, 0x0, false, false, false, .error, 0⟩,
  ⟨0x302C, .u32, .rw, 4, 0, 1, 0, 4294967295, 0xFFFFFFFF, 0x0, 0x0, false, false, false, .error, 0⟩,
  ⟨0x302D, .u32, .rw, 4, 0, 1, 0, 4294967295, 0xFFFFFFFF, 0x0, 0x0, false, false, false, .error, 0⟩,
  ⟨0x3100, .u32, .rw, 8, 0, 1, 0, 4294967295, 0xFF, 0x0, 0x0, true, true, true, .none, 0⟩,
  ⟨0x3101, .u32, .ro, 8, 0, 3, 0, 4294967295, 0xFFFFFFFF, 0x0, 0x3C, false, false, false, .none, 0⟩,
  ⟨0x3102, .u32, .rw, 16, 0, 1, 0, 4294967295, 0xFFFFFFFF, 0x0, 0x0, false, true, true, .none, 0⟩,
  ⟨0x3103, .u32, .rw, 64, 0, 1, 0, 4294967295, 0xFFFFFFFF, 0x0, 0x0, false, true, true, .none, 0⟩]

/-- Rows of area P3. -/
def rows3b : List Row := [
  ⟨0x3104, .u32, .rw, 16, 0, 1, 0, 4294967295, 0xFFFFFFFF, 0x0, 0x0, false, true, true, .none, 0⟩,
  ⟨0x3105, .u32, .rw, 64, 0, 1, 0, 4294967295, 0xFFFFFFFF, 0x0, 0x0, false, true, true, .none, 0⟩,
  ⟨0x3106, .u16, .rw, 16, 0, 1, 0, 65535, 0xFFFF, 0x0, 0x0, false, true, true, .none, 0⟩,
  ⟨0x3107, .u8, .rw, 8, 0, 1, 96, 127, 0xFF, 0x0, 0x60, false, true, true, .none, 0⟩,
  ⟨0x3108, .u16, .rw, 8, 0, 1, 16, 4096, 0xFFFF, 0x0, 0x780, false, true, true, .none, 0⟩,
  ⟨0x3109, .u16, .rw, 8, 0, 1, 16, 2160, 0xFFFF, 0x0, 0x438, false, true, true, .none, 0⟩,
  ⟨0x310A, .enum, .rw, 8, 0, 1, 0, 9, 0xFF, 0x0, 0x9, false, true, true, .none, 0⟩,
  ⟨0x310B, .enum, .rw, 8, 0, 1, 0, 2, 0xFF, 0x0, 0x0, false, true, true, .none, 0⟩,
  ⟨0x310C, .u8, .rw, 8, 0, 1, 0, 255, 0x13, 0x0, 0x0, false, true, true, .none, 0⟩,
  ⟨0x310D, .u64, .rw, 8, 0, 1, 0, 18446744073709551615, 0xFFFFFFFFFFFFFFFF, 0x0, 0x0, false, true, true, .none, 0⟩,
  ⟨0x310E, .u32, .ro, 8, 0, 3, 0, 4294967295, 0xFFFFFFFF, 0x0, 0x0, false, false, false, .none, 0⟩,
  ⟨0x310F, .u32, .rw, 8, 0, 1, 0, 100000000, 0xFFFFFFFF, 0x0, 0x10DD386, true, true, true, .none, 0⟩,
  ⟨0x3110, .u16, .rw, 8, 0, 1, 10, 1000, 0xFFFF, 0x0, 0xFA, false, true, true, .none, 0⟩,
  ⟨0x3120, .u64, .rw, 8, 0, 1, 0, 18446744073709551615, 0xFFFFFFFFFFFFFFFF, 0x0, 0x0, false, false, false, .traffic, 0⟩,
  ⟨0x3121, .u32, .rw, 8, 0, 1, 0, 4294967295, 0xFFFFFFFF, 0x0, 0x0, false, false, false, .error, 0⟩,
  ⟨0x3122, .u32, .rw, 8, 0, 1, 0, 4294967295, 0xFFFFFFFF, 0x0, 0x0, false, false, false, .error, 0⟩,
  ⟨0x3123, .u32, .rw, 8, 0, 1, 0, 4294967295, 0xFFFFFFFF, 0x0, 0x0, false, false, false, .error, 0⟩,
  ⟨0x3124, .u32, .rw, 8, 0, 1, 0, 4294967295, 0xFFFFFFFF, 0x0, 0x0, false, false, false, .error, 0⟩,
  ⟨0x3125, .u32, .rw, 8, 0, 1, 0, 4294967295, 0xFFFFFFFF, 0x0, 0x0, false, false, false, .error, 0⟩,
  ⟨0x3126, .u64, .rw, 8, 0, 1, 0, 18446744073709551615, 0xFFFFFFFFFFFFFFFF, 0x0, 0x0, false, false, false, .traffic, 0⟩,
  ⟨0x3127, .u32, .rw, 8, 0, 1, 0, 4294967295, 0xFFFFFFFF, 0x0, 0x0, false, false, false, .error, 0⟩,
  ⟨0x3128, .u32, .rw, 8, 0, 1, 0, 4294967295, 0xFFFFFFFF, 0x0, 0x0, false, false, false, .error, 0⟩,
  ⟨0x3129, .u64, .rw, 16, 0, 1, 0, 18446744073709551615, 0xFFFFFFFFFFFFFFFF, 0x0, 0x0, false, false, false, .traffic, 0⟩,
  ⟨0x3200, .blob, .rw, 1, 0, 1, 0, 0, 0x0, 0x0, 0x0, true, true, true, .none, 65536⟩,
  ⟨0x3201, .bool, .rw, 1, 0, 1, 0, 1, 0xFF, 0x0, 0x0, false, true, true, .none, 0⟩,
  ⟨0x3202, .enum, .rw, 1, 0, 1, 0, 2, 0xFF, 0x0, 0x0, false, true, true, .none, 0⟩,
  ⟨0x3203, .u8, .rw, 1, 0, 1, 0, 255, 0xF, 0x0, 0xF, false, true, true, .none, 0⟩,
  ⟨0x3210, .u64, .rw, 1, 0, 1, 0, 18446744073709551615, 0xFFFFFFFFFFFFFFFF, 0x0, 0x0, false, false, false, .traffic, 0⟩,
  ⟨0x3211, .u32, .rw, 1, 0, 1, 0, 4294967295, 0xFFFFFFFF, 0x0, 0x0, false, false, false, .error, 0⟩,
  ⟨0x3212, .u32, .rw, 1, 0, 1, 0, 4294967295, 0xFFFFFFFF, 0x0, 0x0, false, false, false, .error, 0⟩]

/-- Rows of area P3. -/
def rows3c : List Row := [
  ⟨0x3213, .u32, .rw, 1, 0, 1, 0, 4294967295, 0xFFFFFFFF, 0x0, 0x0, false, false, false, .error, 0⟩,
  ⟨0x3214, .u32, .rw, 1, 0, 1, 0, 4294967295, 0xFFFFFFFF, 0x0, 0x0, false, false, false, .error, 0⟩,
  ⟨0x3215, .u16, .ro, 1, 0, 3, 0, 65535, 0xFFFF, 0x0, 0x0, false, false, false, .none, 0⟩,
  ⟨0x3216, .u32, .rw, 1, 0, 1, 0, 4294967295, 0xFFFFFFFF, 0x0, 0x0, false, false, false, .error, 0⟩,
  ⟨0x3300, .u32, .rw, 8, 0, 1, 0, 4294967295, 0xFF01, 0x0, 0x0, true, true, true, .none, 0⟩,
  ⟨0x3301, .u32, .ro, 8, 0, 3, 0, 4294967295, 0xFFFFFFFF, 0x0, 0x3C, false, false, false, .none, 0⟩,
  ⟨0x3302, .u16, .rw, 8, 0, 1, 0, 65535, 0xFFFF, 0x0, 0x0, false, true, true, .none, 0⟩,
  ⟨0x3303, .u32, .rw, 8, 0, 1, 1, 2097152, 0xFFFFFFFF, 0x0, 0x0, false, true, true, .none, 0⟩,
  ⟨0x3304, .u16, .rw, 8, 0, 1, 1, 16384, 0xFFFF, 0x0, 0x400, false, true, true, .none, 0⟩,
  ⟨0x3305, .u64, .rw, 8, 0, 1, 0, 18446744073709551615, 0xFFFFFFFFFFFFFFFF, 0x0, 0x0, false, true, true, .none, 0⟩,
  ⟨0x3306, .u8, .rw, 8, 0, 1, 3, 10, 0xFF, 0x0, 0x4, true, true, true, .none, 0⟩,
  ⟨0x3307, .u32, .ro, 8, 0, 3, 0, 4294967295, 0xFFFFFFFF, 0x0, 0x0, false, false, false, .none, 0⟩,
  ⟨0x3310, .u64, .rw, 8, 0, 1, 0, 18446744073709551615, 0xFFFFFFFFFFFFFFFF, 0x0, 0x0, false, false, false, .traffic, 0⟩,
  ⟨0x3311, .u32, .rw, 8, 0, 1, 0, 4294967295, 0xFFFFFFFF, 0x0, 0x0, false, false, false, .error, 0⟩,
  ⟨0x3312, .u32, .rw, 8, 0, 1, 0, 4294967295, 0xFFFFFFFF, 0x0, 0x0, false, false, false, .error, 0⟩,
  ⟨0x3313, .u32, .rw, 8, 0, 1, 0, 4294967295, 0xFFFFFFFF, 0x0, 0x0, false, false, false, .error, 0⟩]

/-- All rows of area P3. -/
def rows3 : List Row := rows3a ++ rows3b ++ rows3c

/-- Rows of area P4. -/
def rows4a : List Row := [
  ⟨0x4000, .bool, .rw, 1, 0, 1, 0, 1, 0xFF, 0x0, 0x0, true, true, true, .none, 0⟩,
  ⟨0x4001, .blob, .rw, 1, 0, 1, 0, 0, 0x0, 0x0, 0x0, true, true, true, .none, 65536⟩,
  ⟨0x4002, .blob, .rw, 1, 0, 1, 0, 0, 0x0, 0x0, 0x0, true, true, true, .none, 32768⟩,
  ⟨0x4003, .u16, .ro, 1, 0, 3, 0, 65535, 0xFFFF, 0x0, 0x0, false, false, false, .none, 0⟩,
  ⟨0x4004, .u32, .rw, 1, 0, 1, 0, 600000, 0xFFFFFFFF, 0x0, 0x1388, true, true, true, .none, 0⟩,
  ⟨0x4005, .u16, .rwr, 1, 0, 2, 1000, 10000, 0xFFFF, 0x0, 0x9C4, true, true, true, .none, 0⟩,
  ⟨0x4010, .u32, .rw, 1, 0, 1, 0, 4294967295, 0xFFFFFFFF, 0x0, 0x0, false, false, false, .error, 0⟩,
  ⟨0x4011, .u32, .rw, 1, 0, 1, 0, 4294967295, 0xFFFFFFFF, 0x0, 0x0, false, false, false, .error, 0⟩,
  ⟨0x4012, .u32, .rw, 1, 0, 1, 0, 4294967295, 0xFFFFFFFF, 0x0, 0x0, false, false, false, .error, 0⟩,
  ⟨0x4020, .u16, .rw, 1, 0, 1, 0, 16383, 0xFFFF, 0x0, 0x0, false, true, false, .none, 0⟩,
  ⟨0x4021, .u32, .ro, 1, 0, 3, 0, 4294967295, 0xFFFFFFFF, 0x0, 0x0, false, false, false, .none, 0⟩,
  ⟨0x4400, .u64, .wo, 128, 0, 1, 0, 18446744073709551615, 0xFFFFFFFFFFFFFFFF, 0x0, 0x0, false, false, false, .none, 0⟩,
  ⟨0x4402, .u16, .ro, 1, 0, 3, 0, 65535, 0xFFFF, 0x0, 0x0, false, false, false, .none, 0⟩,
  ⟨0x4403, .u16, .ro, 1, 0, 3, 0, 65535, 0xFFFF, 0x0, 0x4000, false, false, false, .none, 0⟩,
  ⟨0x4404, .u32, .ro, 1, 0, 3, 0, 4294967295, 0xFFFFFFFF, 0x0, 0x0, false, false, false, .none, 0⟩,
  ⟨0x4410, .u64, .ro, 1, 0, 3, 0, 18446744073709551615, 0xFFFFFFFFFFFFFFFF, 0x0, 0x0, false, false, false, .none, 0⟩,
  ⟨0x4411, .u32, .rwr, 1, 0, 2, 50, 2000, 0xFFFFFFFF, 0x0, 0xFA, false, true, true, .none, 0⟩,
  ⟨0x4412, .u32, .rwr, 1, 0, 2, 100, 5000, 0xFFFFFFFF, 0x0, 0x1F4, false, true, true, .none, 0⟩,
  ⟨0x4420, .u64, .rw, 1, 0, 1, 0, 18446744073709551615, 0xFFFFFFFFFFFFFFFF, 0x0, 0x0, false, false, false, .traffic, 0⟩,
  ⟨0x4421, .u32, .rw, 1, 0, 1, 0, 4294967295, 0xFFFFFFFF, 0x0, 0x0, false, false, false, .error, 0⟩,
  ⟨0x4422, .u32, .rw, 1, 0, 1, 0, 4294967295, 0xFFFFFFFF, 0x0, 0x0, false, false, false, .error, 0⟩,
  ⟨0x4423, .u32, .rw, 1, 0, 1, 0, 4294967295, 0xFFFFFFFF, 0x0, 0x0, false, false, false, .error, 0⟩,
  ⟨0x4424, .u32, .rw, 1, 0, 1, 0, 4294967295, 0xFFFFFFFF, 0x0, 0x0, false, false, false, .error, 0⟩,
  ⟨0x4425, .u32, .rw, 1, 0, 1, 0, 4294967295, 0xFFFFFFFF, 0x0, 0x0, false, false, false, .error, 0⟩]

/-- All rows of area P4. -/
def rows4 : List Row := rows4a

/-- Rows of area P5. -/
def rows5a : List Row := [
  ⟨0x5002, .u16, .rwr, 1, 0, 2, 20, 200, 0xFFFF, 0x0, 0x14, false, true, true, .none, 0⟩,
  ⟨0x5003, .u32, .ro, 1, 0, 3, 0, 4294967295, 0xFFFFFFFF, 0x0, 0x0, false, false, false, .none, 0⟩,
  ⟨0x5004, .u32, .ro, 1, 0, 3, 0, 4294967295, 0xFFFFFFFF, 0x0, 0x0, false, false, false, .none, 0⟩,
  ⟨0x5005, .u32, .rw, 1, 0, 1, 0, 0, 0xFFFFFFFF, 0x0, 0x0, false, false, false, .none, 0⟩,
  ⟨0x5006, .u64, .ro, 1, 0, 3, 0, 18446744073709551615, 0xFFFFFFFFFFFFFFFF, 0x0, 0x0, false, false, false, .none, 0⟩,
  ⟨0x5007, .u64, .ro, 1, 0, 3, 0, 18446744073709551615, 0xFFFFFFFFFFFFFFFF, 0x0, 0x0, false, false, false, .none, 0⟩,
  ⟨0x5008, .u32, .rw, 1, 0, 1, 0, 4294967295, 0xFFFFFFFF, 0x0, 0x0, false, false, false, .error, 0⟩,
  ⟨0x5009, .u32, .rw, 1, 0, 1, 0, 4294967295, 0xFFFFFFFF, 0x0, 0x0, false, false, false, .error, 0⟩,
  ⟨0x500A, .u32, .rw, 1, 0, 1, 0, 4294967295, 0xFFFFFFFF, 0x0, 0x0, false, false, false, .error, 0⟩,
  ⟨0x5010, .u32, .rw, 8, 0, 1, 0, 4294967295, 0x1, 0x0, 0x0, false, true, true, .none, 0⟩,
  ⟨0x5011, .u32, .rw, 8, 0, 1, 0, 4294967295, 0xFFFFFFFF, 0x0, 0x4000400, false, true, true, .none, 0⟩,
  ⟨0x5012, .u64, .rw, 8, 0, 1, 0, 18446744073709551615, 0xFFFFFFFFFFFFFFFF, 0x0, 0x4000, false, true, true, .none, 0⟩,
  ⟨0x5040, .blob, .ro, 1, 0, 3, 0, 0, 0x0, 0x0, 0x0, false, false, false, .none, 1048576⟩,
  ⟨0x5041, .u16, .rw, 1, 0, 1, 80, 1000, 0xFFFF, 0x0, 0xCB, true, true, true, .none, 0⟩,
  ⟨0x5100, .u32, .rw, 128, 0, 1, 0, 4294967295, 0x730701, 0x0, 0x0, false, true, true, .none, 0⟩,
  ⟨0x5101, .u16, .rw, 128, 0, 1, 0, 16384, 0xFFFF, 0x0, 0x4000, false, true, true, .none, 0⟩,
  ⟨0x5102, .s32, .rw, 128, 0, 1, (-2147483648), 2147483647, 0xFFFFFFFF, 0x0, 0x0, false, true, true, .none, 0⟩,
  ⟨0x5103, .s32, .rw, 128, 0, 1, (-2147483648), 2147483647, 0xFFFFFFFF, 0x0, 0x0, false, true, true, .none, 0⟩,
  ⟨0x5104, .u32, .rw, 128, 0, 1, 256, 8388608, 0xFFFFFFFF, 0x0, 0x40000, false, true, true, .none, 0⟩,
  ⟨0x5105, .u32, .rw, 128, 0, 1, 256, 8388608, 0xFFFFFFFF, 0x0, 0x40000, false, true, true, .none, 0⟩,
  ⟨0x5106, .s32, .rw, 128, 0, 1, (-2147483648), 2147483647, 0xFFFFFFFF, 0x0, 0x0, false, true, true, .none, 0⟩,
  ⟨0x5107, .s32, .rw, 128, 0, 1, (-2147483648), 2147483647, 0xFFFFFFFF, 0x0, 0x0, false, true, true, .none, 0⟩,
  ⟨0x5108, .u32, .rw, 128, 0, 1, 256, 4194304, 0xFFFFFFFF, 0x0, 0x78000, false, true, true, .none, 0⟩,
  ⟨0x5109, .u32, .rw, 128, 0, 1, 256, 4194304, 0xFFFFFFFF, 0x0, 0x43800, false, true, true, .none, 0⟩,
  ⟨0x510A, .u64, .rw, 128, 0, 1, 0, 18446744073709551615, 0xFFFFFFFFFFFFFFFF, 0x0, 0x0, false, true, true, .none, 0⟩,
  ⟨0x510B, .u32, .rw, 128, 0, 1, 0, 4294967295, 0xFFFFFFFF, 0x0, 0x7800438, false, true, true, .none, 0⟩,
  ⟨0x510C, .u32, .rw, 128, 0, 1, 0, 4294967295, 0xFFFFFFFF, 0x0, 0x2000, false, true, true, .none, 0⟩,
  ⟨0x510D, .enum, .rw, 128, 0, 1, 0, 2, 0xFF, 0x0, 0x0, false, true, true, .none, 0⟩,
  ⟨0x5120, .u32, .wo, 8, 0, 1, 0, 4294967295, 0xFF01FFFF, 0x0, 0x0, true, false, true, .none, 0⟩,
  ⟨0x5121, .u16, .wo, 8, 0, 1, 0, 65535, 0xFFFF, 0x0, 0x0, true, false, true, .none, 0⟩]

/-- Rows of area P5. -/
def rows5b : List Row := [
  ⟨0x5122, .u32, .ro, 8, 0, 3, 0, 4294967295, 0xFFFFFFFF, 0x0, 0x0, false, false, false, .none, 0⟩,
  ⟨0x5124, .u32, .ro, 1, 0, 3, 0, 4294967295, 0xFFFFFFFF, 0x0, 0x0, false, false, false, .none, 0⟩,
  ⟨0x5130, .u32, .ro, 128, 0, 3, 0, 4294967295, 0xFFFFFFFF, 0x0, 0x3, false, false, false, .none, 0⟩,
  ⟨0x5131, .u64, .ro, 128, 0, 3, 0, 18446744073709551615, 0xFFFFFFFFFFFFFFFF, 0x0, 0x0, false, false, false, .none, 0⟩,
  ⟨0x5200, .u32, .rw, 64, 0, 1, 0, 4294967295, 0xC7, 0x0, 0x0, false, true, true, .none, 0⟩,
  ⟨0x5201, .u64, .rw, 64, 0, 1, 0, 18446744073709551615, 0xFFFFFFFFFFFFFFFF, 0x0, 0x4000, false, true, true, .none, 0⟩,
  ⟨0x5202, .u64, .rw, 64, 0, 1, 0, 18446744073709551615, 0xFFFFFFFFFFFFFFFF, 0x0, 0x4000400040004000, false, true, true, .none, 0⟩,
  ⟨0x5203, .s32, .rw, 64, 0, 1, (-2147483648), 2147483647, 0xFFFFFFFF, 0x0, 0x0, false, true, true, .none, 0⟩,
  ⟨0x5204, .s32, .rw, 64, 0, 1, (-2147483648), 2147483647, 0xFFFFFFFF, 0x0, 0x0, false, true, true, .none, 0⟩,
  ⟨0x5205, .s32, .rw, 64, 0, 1, (-2147483648), 2147483647, 0xFFFFFFFF, 0x0, 0x40, false, true, true, .none, 0⟩,
  ⟨0x5206, .s32, .rw, 64, 0, 1, (-2147483648), 2147483647, 0xFFFFFFFF, 0x0, 0x0, false, true, true, .none, 0⟩,
  ⟨0x5207, .s32, .rw, 64, 0, 1, (-2147483648), 2147483647, 0xFFFFFFFF, 0x0, 0x1, false, true, true, .none, 0⟩,
  ⟨0x5208, .u32, .rw, 64, 0, 1, 0, 4294967295, 0xFFFFFFFF, 0x0, 0x8000, false, true, true, .none, 0⟩,
  ⟨0x5209, .u32, .rw, 64, 0, 1, 256, 4194304, 0xFFFFFFFF, 0x0, 0x4000, false, true, true, .none, 0⟩,
  ⟨0x520A, .u32, .rw, 64, 0, 1, 0, 4294967295, 0xFFFFFFFF, 0x0, 0x0, false, true, true, .none, 0⟩]

/-- All rows of area P5. -/
def rows5 : List Row := rows5a ++ rows5b

/-- Rows of area P6. -/
def rows6a : List Row := [
  ⟨0x6000, .blob, .rw, 1, 0, 1, 0, 0, 0x0, 0x0, 0x0, true, false, true, .none, 33554432⟩,
  ⟨0x6001, .u32, .ro, 1, 0, 3, 0, 4294967295, 0xFFFFFFFF, 0x0, 0x0, false, false, false, .none, 0⟩,
  ⟨0x6002, .u32, .rw, 1, 0, 1, 0, 4294967295, 0xFFFFFFFF, 0x0, 0x0, false, false, false, .error, 0⟩,
  ⟨0x6003, .u32, .ro, 1, 0, 3, 0, 4294967295, 0xFFFFFFFF, 0x0, 0x0, false, false, false, .none, 0⟩,
  ⟨0x6004, .u32, .ro, 1, 0, 3, 0, 4294967295, 0xFFFFFFFF, 0x0, 0xFFFFFFFF, false, false, false, .none, 0⟩,
  ⟨0x6005, .u32, .rw, 1, 0, 1, 0, 4294967295, 0xFFFFFFFF, 0x0, 0x0, false, false, false, .error, 0⟩,
  ⟨0x6006, .u32, .ro, 80, 0, 3, 0, 4294967295, 0xFFFFFFFF, 0x0, 0x0, false, false, false, .none, 0⟩,
  ⟨0x6010, .u32, .ro, 1, 0, 3, 0, 4294967295, 0xFFFFFFFF, 0x0, 0x0, false, false, false, .none, 0⟩,
  ⟨0x6011, .u32, .ro, 1, 0, 3, 0, 4294967295, 0xFFFFFFFF, 0x0, 0x0, false, false, false, .none, 0⟩,
  ⟨0x6020, .u32, .rw, 1, 0, 1, 0, 4294967295, 0xFFFFFFFF, 0x0, 0x0, false, true, false, .none, 0⟩,
  ⟨0x6021, .u32, .ro, 4, 0, 3, 0, 4294967295, 0xFFFFFFFF, 0x0, 0x0, false, false, false, .none, 0⟩,
  ⟨0x6022, .s32, .ro, 1, 0, 3, (-2147483648), 2147483647, 0xFFFFFFFF, 0x0, 0x0, false, false, false, .none, 0⟩,
  ⟨0x6023, .s32, .ro, 1, 0, 3, (-2147483648), 2147483647, 0xFFFFFFFF, 0x0, 0x0, false, false, false, .none, 0⟩,
  ⟨0x6024, .u32, .ro, 1, 0, 3, 0, 4294967295, 0xFFFFFFFF, 0x0, 0x0, false, false, false, .none, 0⟩,
  ⟨0x6025, .u32, .ro, 1, 0, 3, 0, 4294967295, 0xFFFFFFFF, 0x0, 0x0, false, false, false, .none, 0⟩,
  ⟨0x6100, .u32, .rw, 8, 0, 1, 0, 4294967295, 0x103, 0x0, 0x0, false, true, true, .none, 0⟩,
  ⟨0x6101, .s32, .rw, 96, 0, 1, (-2147483648), 2147483647, 0xFFFFFFFF, 0x0, 0x0, false, true, true, .none, 0⟩,
  ⟨0x6102, .s32, .rw, 16, 0, 1, (-2147483648), 2147483647, 0xFFFFFFFF, 0x0, 0x0, false, true, true, .none, 0⟩,
  ⟨0x6103, .s32, .rw, 16, 0, 1, (-2147483648), 2147483647, 0xFFFFFFFF, 0x0, 0x0, false, true, true, .none, 0⟩,
  ⟨0x6104, .u32, .rw, 8, 0, 1, 0, 4294967295, 0xFFFFFFFF, 0x0, 0x10000, false, true, true, .none, 0⟩,
  ⟨0x6105, .u32, .rw, 8, 0, 1, 1, 4294967295, 0xFFFFFFFF, 0x0, 0x100, false, true, true, .none, 0⟩,
  ⟨0x6120, .u8, .wo, 1, 0, 1, 0, 255, 0xFF, 0x0, 0x0, true, false, true, .none, 0⟩,
  ⟨0x6121, .u8, .ro, 1, 0, 3, 0, 255, 0xFF, 0x0, 0x0, false, false, false, .none, 0⟩,
  ⟨0x6122, .u32, .rw, 1, 0, 1, 0, 4294967295, 0xFFFFFFFF, 0x0, 0x0, false, false, false, .error, 0⟩]

/-- All rows of area P6. -/
def rows6 : List Row := rows6a

/-- Rows of area P7. -/
def rows7a : List Row := [
  ⟨0x7000, .blob, .rw, 1, 0, 1, 0, 0, 0x0, 0x0, 0x0, true, true, true, .none, 65536⟩,
  ⟨0x7001, .blob, .rw, 1, 0, 1, 0, 0, 0x0, 0x0, 0x0, true, true, true, .none, 524288⟩,
  ⟨0x7002, .u16, .ro, 1, 0, 3, 0, 65535, 0xFFFF, 0x0, 0x0, false, false, false, .none, 0⟩,
  ⟨0x7003, .u16, .ro, 1, 0, 3, 0, 65535, 0xFFFF, 0x0, 0x0, false, false, false, .none, 0⟩,
  ⟨0x7004, .u32, .ro, 1, 0, 3, 0, 4294967295, 0xFFFFFFFF, 0x0, 0xFFFFFFFF, false, false, false, .none, 0⟩,
  ⟨0x7005, .u32, .rw, 1, 0, 1, 0, 4294967295, 0xFFFFFFFF, 0x0, 0x0, false, false, false, .error, 0⟩,
  ⟨0x7010, .u32, .ro, 1, 0, 3, 0, 4294967295, 0xFFFFFFFF, 0x0, 0x0, false, false, false, .none, 0⟩,
  ⟨0x7020, .bool, .rw, 1, 0, 1, 0, 1, 0xFF, 0x0, 0x1, true, true, true, .none, 0⟩,
  ⟨0x7021, .u32, .rw, 1, 0, 1, 32768, 65536, 0xFFFFFFFF, 0x0, 0xE000, true, true, true, .none, 0⟩,
  ⟨0x7022, .u32, .rw, 1, 0, 1, 1, 65536, 0xFFFFFFFF, 0x0, 0x222, true, true, true, .none, 0⟩,
  ⟨0x7023, .blob, .rw, 1, 0, 1, 0, 0, 0x0, 0x0, 0x0, true, true, true, .none, 12480⟩,
  ⟨0x7024, .u32, .rw, 1, 0, 1, 0, 4294967295, 0xFFFFFFFF, 0x0, 0x0, true, true, true, .none, 0⟩,
  ⟨0x7030, .u16, .rw, 1, 0, 1, 0, 65535, 0x7FF, 0x0, 0x0, false, true, false, .none, 0⟩,
  ⟨0x7031, .u32, .ro, 1, 0, 3, 0, 4294967295, 0xFFFFFFFF, 0x0, 0x10000, false, false, false, .none, 0⟩,
  ⟨0x7032, .u32, .ro, 1, 0, 3, 0, 4294967295, 0xFFFFFFFF, 0x0, 0x0, false, false, false, .none, 0⟩,
  ⟨0x7033, .u32, .ro, 1, 0, 3, 0, 4294967295, 0xFFFFFFFF, 0x0, 0x0, false, false, false, .none, 0⟩,
  ⟨0x7034, .u32, .ro, 1, 0, 3, 0, 4294967295, 0xFFFFFFFF, 0x0, 0x10000, false, false, false, .none, 0⟩,
  ⟨0x7035, .u32, .ro, 1, 0, 3, 0, 4294967295, 0xFFFFFFFF, 0x0, 0x0, false, false, false, .none, 0⟩,
  ⟨0x7040, .u16, .ro, 65, 0, 3, 0, 65535, 0xFFFF, 0x0, 0x0, false, false, false, .none, 0⟩,
  ⟨0x7041, .u32, .rw, 65, 0, 1, 0, 4294967295, 0xFFFFFFFF, 0x0, 0x0, false, false, false, .error, 0⟩,
  ⟨0x7042, .u32, .rw, 65, 0, 1, 0, 4294967295, 0xFFFFFFFF, 0x0, 0x0, false, false, false, .error, 0⟩,
  ⟨0x7050, .u32, .ro, 65, 0, 3, 0, 4294967295, 0xFFFFFFFF, 0x0, 0x0, false, false, false, .none, 0⟩,
  ⟨0x7051, .u32, .ro, 65, 0, 3, 0, 4294967295, 0xFFFFFFFF, 0x0, 0x0, false, false, false, .none, 0⟩]

/-- All rows of area P7. -/
def rows7 : List Row := rows7a

/-- Rows of area P8. -/
def rows8a : List Row := [
  ⟨0x8000, .u8, .rwr, 1, 0, 2, 1, 4, 0xFF, 0x0, 0x2, false, true, true, .none, 0⟩,
  ⟨0x8001, .u32, .rwr, 1, 0, 2, 17000, 1000000, 0xFFFFFFFF, 0x0, 0x4E20, false, true, true, .none, 0⟩,
  ⟨0x8002, .u64, .rw, 1, 0, 1, 0, 18446744073709551615, 0xFFFFFFFFFFFFFFFF, 0x0, 0x0, true, true, true, .none, 0⟩,
  ⟨0x8003, .enum, .rw, 64, 0, 1, 0, 1, 0xFF, 0x0, 0x0, true, true, true, .none, 0⟩,
  ⟨0x8004, .u16, .rw, 64, 0, 1, 0, 65535, 0xFFFF, 0x0, 0x0, false, true, true, .none, 0⟩,
  ⟨0x8005, .u32, .rw, 64, 0, 1, 0, 10000, 0xFFFFFFFF, 0x0, 0x0, false, true, false, .none, 0⟩,
  ⟨0x8006, .u32, .ro, 64, 0, 3, 0, 4294967295, 0xFFFFFFFF, 0x0, 0x0, false, false, false, .none, 0⟩,
  ⟨0x8010, .u64, .rw, 1, 0, 1, 0, 18446744073709551615, 0xFFFFFFFFFFFFFFFF, 0x0, 0x0, true, true, true, .none, 0⟩,
  ⟨0x8011, .u8, .rw, 1, 0, 1, 2, 255, 0xFF, 0x0, 0x8, true, true, true, .none, 0⟩,
  ⟨0x8012, .u16, .rw, 1, 0, 1, 1, 1000, 0xFFFF, 0x0, 0x6, true, true, true, .none, 0⟩,
  ⟨0x8013, .u8, .rw, 1, 0, 1, 1, 255, 0xFF, 0x0, 0xA, true, true, true, .none, 0⟩,
  ⟨0x8014, .u64, .rw, 1, 0, 1, 0, 18446744073709551615, 0xFFFFFFFFFFFFFFFF, 0x0, 0x0, false, true, true, .none, 0⟩,
  ⟨0x8015, .u32, .rwr, 1, 0, 2, 10000, 1000000, 0xFFFFFFFF, 0x0, 0xC350, false, true, true, .none, 0⟩,
  ⟨0x8020, .u32, .rwr, 4, 0, 2, 0, 4294967295, 0xFFFFFFFF, 0x0, 0x0, false, true, true, .none, 0⟩,
  ⟨0x8021, .str, .rw, 1, 0, 1, 0, 0, 0x0, 0x0, 0x0, false, true, true, .none, 64⟩,
  ⟨0x8022, .u8, .rw, 1, 0, 1, 1, 200, 0xFF, 0x0, 0x64, false, true, true, .none, 0⟩,
  ⟨0x8023, .u8, .rw, 1, 0, 1, 1, 128, 0xFF, 0x0, 0x18, false, true, true, .none, 0⟩,
  ⟨0x8024, .u16, .rw, 64, 0, 1, 0, 63999, 0xFFFF, 0x0, 0x0, true, true, true, .none, 0⟩,
  ⟨0x8025, .u32, .rw, 64, 0, 1, 0, 4294967295, 0xFFFFFFFF, 0x0, 0x0, false, true, false, .none, 0⟩,
  ⟨0x8026, .u32, .rw, 64, 0, 1, 0, 4294967295, 0xFFFFFFFF, 0x0, 0x0, true, true, true, .none, 0⟩,
  ⟨0x8027, .u32, .ro, 1, 0, 3, 0, 4294967295, 0xFFFFFFFF, 0x0, 0x0, false, false, false, .none, 0⟩,
  ⟨0x8030, .blob, .rw, 1, 0, 1, 0, 0, 0x0, 0x0, 0x0, true, true, true, .none, 131072⟩,
  ⟨0x8031, .u16, .ro, 1, 0, 3, 0, 65535, 0xFFFF, 0x0, 0x0, false, false, false, .none, 0⟩,
  ⟨0x8040, .enum, .rw, 1, 0, 1, 0, 255, 0xFF, 0x0, 0xFF, true, true, true, .none, 0⟩,
  ⟨0x8041, .u16, .rw, 1, 0, 1, 1, 4096, 0xFFFF, 0x0, 0x40, true, true, true, .none, 0⟩,
  ⟨0x8042, .s32, .rw, 1, 0, 1, (-1000000000), 1000000000, 0xFFFFFFFF, 0x0, 0x0, true, true, true, .none, 0⟩,
  ⟨0x8043, .u64, .rw, 1, 0, 1, 0, 18446744073709551615, 0xFFFFFFFFFFFFFFFF, 0x0, 0x0, true, true, true, .none, 0⟩,
  ⟨0x8044, .u16, .rw, 1, 0, 1, 1, 65535, 0xFFFF, 0x0, 0x78, true, true, true, .none, 0⟩,
  ⟨0x8050, .u8, .rw, 16, 0, 1, 0, 255, 0xFF, 0x0, 0xFF, true, true, true, .none, 0⟩,
  ⟨0x8051, .u64, .rw, 16, 0, 1, 0, 18446744073709551615, 0xFFFFFFFFFFFFFFFF, 0x0, 0x0, true, true, true, .none, 0⟩]

/-- Rows of area P8. -/
def rows8b : List Row := [
  ⟨0x8060, .u16, .rw, 8, 0, 1, 0, 65535, 0xFFFF, 0x0, 0x0, true, true, true, .none, 0⟩,
  ⟨0x8061, .u8, .rw, 8, 0, 1, 0, 255, 0xF, 0x0, 0x0, true, true, true, .none, 0⟩,
  ⟨0x8062, .u32, .rw, 32, 0, 1, 0, 4294967295, 0xFFFFFFFF, 0x0, 0x0, true, true, true, .none, 0⟩,
  ⟨0x8100, .u64, .rw, 72, 0, 1, 0, 18446744073709551615, 0xFFFFFFFFFFFFFFFF, 0x0, 0x0, false, false, false, .traffic, 0⟩,
  ⟨0x8101, .u64, .rw, 72, 0, 1, 0, 18446744073709551615, 0xFFFFFFFFFFFFFFFF, 0x0, 0x0, false, false, false, .traffic, 0⟩,
  ⟨0x8102, .u32, .rw, 72, 0, 1, 0, 4294967295, 0xFFFFFFFF, 0x0, 0x0, false, false, false, .error, 0⟩,
  ⟨0x8103, .u32, .rw, 72, 0, 1, 0, 4294967295, 0xFFFFFFFF, 0x0, 0x0, false, false, false, .error, 0⟩,
  ⟨0x8104, .u32, .rw, 72, 0, 1, 0, 4294967295, 0xFFFFFFFF, 0x0, 0x0, false, false, false, .error, 0⟩,
  ⟨0x8105, .u32, .ro, 72, 0, 3, 0, 4294967295, 0xFFFFFFFF, 0x0, 0x0, false, false, false, .none, 0⟩,
  ⟨0x8106, .u64, .rw, 64, 0, 1, 0, 18446744073709551615, 0xFFFFFFFFFFFFFFFF, 0x0, 0x0, false, false, false, .traffic, 0⟩,
  ⟨0x8107, .u32, .ro, 64, 0, 3, 0, 4294967295, 0xFFFFFFFF, 0x0, 0x0, false, false, false, .none, 0⟩,
  ⟨0x8108, .u32, .ro, 64, 0, 3, 0, 4294967295, 0xFFFFFFFF, 0x0, 0x0, false, false, false, .none, 0⟩,
  ⟨0x8109, .u32, .rw, 64, 0, 1, 0, 4294967295, 0xFFFFFFFF, 0x0, 0xFFFFFFFF, false, false, false, .none, 0⟩,
  ⟨0x810A, .u32, .rw, 64, 0, 1, 0, 4294967295, 0xFFFFFFFF, 0x0, 0x0, false, false, false, .error, 0⟩,
  ⟨0x810B, .u64, .rw, 64, 0, 1, 0, 18446744073709551615, 0xFFFFFFFFFFFFFFFF, 0x0, 0x0, false, false, false, .traffic, 0⟩,
  ⟨0x8110, .u32, .ro, 1, 0, 3, 0, 4294967295, 0xFFFFFFFF, 0x0, 0x0, false, false, false, .none, 0⟩]

/-- All rows of area P8. -/
def rows8 : List Row := rows8a ++ rows8b

/-- Rows of area P9. -/
def rows9a : List Row := [
  ⟨0x9001, .u32, .rwr, 64, 0, 2, 0, 4294967295, 0xF1, 0x0, 0x20, false, true, true, .none, 0⟩,
  ⟨0x9002, .u16, .rwr, 64, 0, 2, 1518, 2048, 0xFFFF, 0x0, 0x5F2, false, true, true, .none, 0⟩,
  ⟨0x9003, .u64, .ro, 64, 0, 3, 0, 18446744073709551615, 0xFFFFFFFFFFFFFFFF, 0x0, 0x0, false, false, false, .none, 0⟩,
  ⟨0x9004, .u32, .ro, 64, 0, 3, 0, 4294967295, 0xFFFFFFFF, 0x0, 0x0, false, false, false, .none, 0⟩,
  ⟨0x9010, .u64, .rw, 64, 0, 1, 0, 18446744073709551615, 0xFFFFFFFFFFFFFFFF, 0x0, 0x0, false, false, false, .traffic, 0⟩,
  ⟨0x9011, .u64, .rw, 64, 0, 1, 0, 18446744073709551615, 0xFFFFFFFFFFFFFFFF, 0x0, 0x0, false, false, false, .traffic, 0⟩,
  ⟨0x9012, .u64, .rw, 64, 0, 1, 0, 18446744073709551615, 0xFFFFFFFFFFFFFFFF, 0x0, 0x0, false, false, false, .traffic, 0⟩,
  ⟨0x9013, .u64, .rw, 64, 0, 1, 0, 18446744073709551615, 0xFFFFFFFFFFFFFFFF, 0x0, 0x0, false, false, false, .traffic, 0⟩,
  ⟨0x9100, .u32, .rw, 64, 0, 1, 0, 4294967295, 0xFFFFFFFF, 0x0, 0x0, false, false, false, .error, 0⟩,
  ⟨0x9101, .u32, .rw, 64, 0, 1, 0, 4294967295, 0xFFFFFFFF, 0x0, 0x0, false, false, false, .error, 0⟩,
  ⟨0x9102, .u32, .rw, 64, 0, 1, 0, 4294967295, 0xFFFFFFFF, 0x0, 0x0, false, false, false, .error, 0⟩,
  ⟨0x9103, .u32, .rw, 64, 0, 1, 0, 4294967295, 0xFFFFFFFF, 0x0, 0x0, false, false, false, .error, 0⟩,
  ⟨0x9104, .u32, .rw, 64, 0, 1, 0, 4294967295, 0xFFFFFFFF, 0x0, 0x0, false, false, false, .error, 0⟩,
  ⟨0x9105, .u32, .rw, 64, 0, 1, 0, 4294967295, 0xFFFFFFFF, 0x0, 0x0, false, false, false, .error, 0⟩,
  ⟨0x9106, .u32, .rw, 64, 0, 1, 0, 4294967295, 0xFFFFFFFF, 0x0, 0x0, false, false, false, .error, 0⟩,
  ⟨0x9107, .u32, .rw, 64, 0, 1, 0, 4294967295, 0xFFFFFFFF, 0x0, 0x0, false, false, false, .error, 0⟩,
  ⟨0x9108, .u32, .rw, 64, 0, 1, 0, 4294967295, 0xFFFFFFFF, 0x0, 0x0, false, false, false, .error, 0⟩,
  ⟨0x9109, .u32, .rw, 64, 0, 1, 0, 4294967295, 0xFFFFFFFF, 0x0, 0x0, false, false, false, .error, 0⟩,
  ⟨0x9200, .bool, .rwr, 1, 0, 2, 0, 1, 0xFF, 0x0, 0x0, false, true, true, .none, 0⟩,
  ⟨0x9201, .u16, .rwr, 1, 0, 2, 0, 65535, 0xFFFF, 0x0, 0x0, false, true, true, .none, 0⟩,
  ⟨0x9202, .u32, .rwr, 256, 0, 2, 0, 4294967295, 0xFFFFFFFF, 0x0, 0x0, false, true, true, .none, 0⟩,
  ⟨0x9203, .u32, .rwr, 1, 0, 2, 0, 4294967295, 0xFFFFFFFF, 0x0, 0x0, false, true, true, .none, 0⟩,
  ⟨0x9204, .u32, .rwr, 4, 0, 2, 0, 4294967295, 0xFFFFFFFF, 0x0, 0x0, false, true, true, .none, 0⟩,
  ⟨0x9205, .u64, .rw, 1, 0, 1, 0, 18446744073709551615, 0xFFFFFFFFFFFFFFFF, 0x0, 0x0, false, false, false, .traffic, 0⟩,
  ⟨0x9206, .u32, .rw, 1, 0, 1, 0, 4294967295, 0xFFFFFFFF, 0x0, 0x0, false, false, false, .error, 0⟩,
  ⟨0x9207, .u32, .rw, 1, 0, 1, 0, 4294967295, 0xFFFFFFFF, 0x0, 0x0, false, false, false, .error, 0⟩,
  ⟨0x9208, .u32, .rwr, 256, 0, 2, 0, 4294967295, 0xFFFFFFFF, 0x0, 0x0, false, true, true, .none, 0⟩,
  ⟨0x9300, .u16, .rw, 1, 0, 1, 0, 65535, 0x1FF, 0x0, 0x0, false, true, false, .none, 0⟩,
  ⟨0x9301, .u32, .rw, 1, 0, 1, 0, 4294967295, 0x7FF0001, 0x0, 0x0, false, true, false, .none, 0⟩,
  ⟨0x9302, .u32, .rw, 4, 0, 1, 0, 4294967295, 0xFFFFFFFF, 0x0, 0x0, false, true, false, .none, 0⟩]

/-- Rows of area P9. -/
def rows9b : List Row := [
  ⟨0x9303, .u16, .rw, 1, 0, 1, 0, 65535, 0xFFFF, 0x0, 0x0, false, true, false, .none, 0⟩,
  ⟨0x9400, .u32, .rw, 1, 0, 1, 0, 4294967295, 0x2, 0x0, 0x0, false, true, false, .none, 0⟩,
  ⟨0x9401, .t32, .rw, 1, 0, 1, 0, 4294967295, 0xFFFFFFFF, 0x0, 0x0, false, true, false, .none, 0⟩,
  ⟨0x9402, .blob, .ro, 1, 0, 3, 0, 0, 0x0, 0x0, 0x0, false, false, false, .none, 8720⟩,
  ⟨0x9403, .u32, .ro, 1, 0, 3, 0, 4294967295, 0xFFFFFFFF, 0x0, 0x0, false, false, false, .time, 0⟩,
  ⟨0x9500, .u32, .rw, 1, 0, 1, 0, 4294967295, 0x8, 0x0, 0x0, false, true, false, .none, 0⟩,
  ⟨0x9501, .u64, .rw, 1, 0, 1, 0, 18446744073709551615, 0xFFFFFFFFFFFFFFFF, 0x0, 0x0, false, true, false, .none, 0⟩,
  ⟨0x9502, .u32, .ro, 64, 0, 3, 0, 4294967295, 0xFFFFFFFF, 0x0, 0x0, false, false, false, .none, 0⟩]

/-- All rows of area P9. -/
def rows9 : List Row := rows9a ++ rows9b

/-- Rows of area PA. -/
def rowsAa : List Row := [
  ⟨0xA000, .u32, .rwr, 1, 0, 2, 0, 4294967295, 0xEF, 0x0, 0x80, false, true, false, .none, 0⟩,
  ⟨0xA001, .u32, .ro, 1, 0, 3, 0, 4294967295, 0xFFFFFFFF, 0x0, 0x0, false, false, false, .none, 0⟩,
  ⟨0xA002, .u8, .rw, 1, 0, 1, 1, 250, 0xFF, 0x0, 0x64, false, true, false, .none, 0⟩,
  ⟨0xA003, .u8, .rw, 48, 0, 1, 0, 127, 0xFF, 0x0, 0x7F, false, true, false, .none, 0⟩,
  ⟨0xA004, .enum, .rw, 48, 0, 1, 0, 3, 0xFF, 0x0, 0x0, false, true, false, .none, 0⟩,
  ⟨0xA005, .u32, .rw, 1, 0, 1, 16000, 4000000, 0xFFFFFFFF, 0x0, 0x7A120, false, true, false, .none, 0⟩,
  ⟨0xA006, .s32, .rw, 1, 0, 1, (-1000000000), 1000000000, 0xFFFFFFFF, 0x0, 0x0, false, true, false, .none, 0⟩,
  ⟨0xA007, .u32, .rw, 1, 0, 1, 100, 100000, 0xFFFFFFFF, 0x0, 0x7D0, false, true, false, .none, 0⟩,
  ⟨0xA008, .u16, .rw, 1, 0, 1, 20, 500, 0xFFFF, 0x0, 0x64, false, true, false, .none, 0⟩,
  ⟨0xA009, .u8, .rw, 1, 0, 1, 5, 20, 0xFF, 0x0, 0xA, false, true, false, .none, 0⟩,
  ⟨0xA00A, .u32, .ro, 1, 0, 3, 0, 4294967295, 0xFFFFFFFF, 0x0, 0x0, false, false, false, .none, 0⟩,
  ⟨0xA00B, .u32, .ro, 1, 0, 3, 0, 4294967295, 0xFFFFFFFF, 0x0, 0x0, false, false, false, .none, 0⟩,
  ⟨0xA010, .blob, .rw, 1, 0, 1, 0, 0, 0x0, 0x0, 0x0, false, true, false, .none, 24576⟩,
  ⟨0xA011, .u8, .wo, 1, 0, 1, 0, 15, 0xFF, 0x0, 0x0, false, false, false, .none, 0⟩,
  ⟨0xA012, .u32, .ro, 1, 0, 3, 0, 4294967295, 0xFFFFFFFF, 0x0, 0x0, false, false, false, .none, 0⟩,
  ⟨0xA013, .u32, .rw, 1, 0, 1, 0, 4294967295, 0xFFFFFFFF, 0x0, 0x0, false, false, false, .error, 0⟩,
  ⟨0xA014, .u32, .ro, 1, 0, 3, 0, 4294967295, 0xFFFFFFFF, 0x0, 0x0, false, false, false, .none, 0⟩,
  ⟨0xA015, .u32, .rw, 1, 0, 1, 0, 4294967295, 0xFFFFFFFF, 0x0, 0x0, false, false, false, .error, 0⟩,
  ⟨0xA020, .u8, .rw, 1, 0, 1, 0, 255, 0xFF, 0x0, 0x20, false, true, false, .none, 0⟩,
  ⟨0xA021, .u16, .rw, 1, 0, 1, 16384, 32768, 0xFFFF, 0x0, 0x4000, false, true, false, .none, 0⟩,
  ⟨0xA022, .u16, .rw, 4, 0, 1, 0, 65535, 0xFFFF, 0x0, 0x7333, false, false, false, .none, 0⟩,
  ⟨0xA023, .u32, .rw, 4, 0, 1, 0, 4294967295, 0xFFFFFFFF, 0x0, 0x0, false, true, false, .none, 0⟩,
  ⟨0xA024, .u32, .ro, 4, 0, 3, 0, 4294967295, 0xFFFFFFFF, 0x0, 0x0, false, false, false, .none, 0⟩,
  ⟨0xA025, .u8, .wo, 1, 0, 1, 0, 255, 0xF, 0x0, 0x0, false, false, false, .none, 0⟩,
  ⟨0xA026, .enum, .rw, 1, 0, 1, 0, 2, 0xFF, 0x0, 0x1, false, true, false, .none, 0⟩,
  ⟨0xA027, .u32, .rw, 1, 0, 1, 0, 4294967295, 0xFFFFFFFF, 0x0, 0x0, false, false, false, .error, 0⟩,
  ⟨0xA030, .blob, .rw, 1, 0, 1, 0, 0, 0x0, 0x0, 0xA, false, true, false, .none, 66⟩,
  ⟨0xA031, .s16, .ro, 1, 0, 3, (-32768), 32767, 0xFFFF, 0x0, 0x0, false, false, false, .none, 0⟩,
  ⟨0xA032, .s16, .rw, 1, 0, 1, (-32768), 32767, 0xFFFF, 0x0, 0x3C0, false, true, false, .none, 0⟩,
  ⟨0xA033, .s16, .rw, 1, 0, 1, (-32768), 32767, 0xFFFF, 0x0, 0x500, false, true, false, .none, 0⟩]

/-- Rows of area PA. -/
def rowsAb : List Row := [
  ⟨0xA034, .u16, .rw, 1, 0, 1, 0, 65535, 0xFFFF, 0x0, 0x2000, false, true, false, .none, 0⟩,
  ⟨0xA035, .s16, .rw, 1, 0, 1, (-32768), 32767, 0xFFFF, 0x0, 0x5A0, false, true, false, .none, 0⟩,
  ⟨0xA036, .u16, .ro, 1, 0, 3, 0, 65535, 0xFFFF, 0x0, 0x8000, false, false, false, .none, 0⟩,
  ⟨0xA040, .u64, .ro, 1, 0, 3, 0, 18446744073709551615, 0xFFFFFFFFFFFFFFFF, 0x0, 0x0, false, false, false, .none, 0⟩,
  ⟨0xA041, .u32, .rw, 1, 0, 1, 0, 4294967295, 0xFFFFFFFF, 0x0, 0x0, false, false, false, .error, 0⟩,
  ⟨0xA042, .u16, .rw, 1, 0, 1, 0, 65535, 0x0, 0xFFFF, 0x0, false, false, false, .none, 0⟩,
  ⟨0xA043, .u32, .rw, 1, 0, 1, 50, 10000, 0xFFFFFFFF, 0x0, 0x1F4, false, true, false, .none, 0⟩,
  ⟨0xA100, .blob, .rw, 1, 0, 1, 0, 0, 0x0, 0x0, 0x0, false, true, false, .none, 1024⟩,
  ⟨0xA101, .u32, .rw, 8, 0, 1, 0, 4294967295, 0xFF0D, 0x0, 0x0, false, true, false, .none, 0⟩,
  ⟨0xA102, .u16, .rw, 8, 0, 1, 0, 65535, 0xFFFF, 0x0, 0x0, false, true, false, .none, 0⟩,
  ⟨0xA103, .u64, .rw, 8, 0, 1, 0, 18446744073709551615, 0xFFFFFFFFFFFF, 0x0, 0xFFFFFFFFFFFF, false, true, false, .none, 0⟩,
  ⟨0xA104, .u8, .wo, 1, 0, 1, 0, 255, 0xFF, 0x0, 0x0, false, false, false, .none, 0⟩,
  ⟨0xA105, .u8, .wo, 1, 0, 1, 0, 255, 0xFF, 0x0, 0x0, false, false, false, .none, 0⟩,
  ⟨0xA106, .u32, .ro, 8, 0, 3, 0, 4294967295, 0xFFFFFFFF, 0x0, 0x0, false, false, false, .none, 0⟩]

/-- All rows of area PA. -/
def rowsA : List Row := rowsAa ++ rowsAb

/-- Rows of area PB. -/
def rowsBa : List Row := [
  ⟨0xB000, .u32, .rw, 1, 0, 1, 0, 4294967295, 0xF0, 0x0, 0xF0, false, true, false, .none, 0⟩,
  ⟨0xB001, .u32, .ro, 1, 0, 3, 0, 4294967295, 0xFFFFFFFF, 0x0, 0x0, false, false, false, .none, 0⟩,
  ⟨0xB002, .u16, .rwr, 1, 0, 2, 16, 800, 0xFFFF, 0x0, 0x80, false, true, false, .none, 0⟩,
  ⟨0xB003, .u8, .rwr, 1, 0, 2, 0, 15, 0xFF, 0x0, 0x2, false, true, false, .none, 0⟩,
  ⟨0xB004, .s16, .ro, 1, 0, 3, (-32768), 32767, 0xFFFF, 0x0, 0x0, false, false, false, .none, 0⟩,
  ⟨0xB005, .s16, .ro, 1, 0, 3, (-32768), 32767, 0xFFFF, 0x0, 0x8000, false, false, false, .none, 0⟩,
  ⟨0xB006, .u32, .rw, 1, 0, 1, 0, 4294967295, 0xFFFFFFFF, 0x0, 0x0, false, false, false, .error, 0⟩,
  ⟨0xB007, .u32, .rw, 1, 0, 1, 0, 4294967295, 0xFFFFFFFF, 0x0, 0x0, false, false, false, .error, 0⟩,
  ⟨0xB010, .u8, .rwr, 48, 0, 2, 0, 63, 0xFF, 0x0, 0x20, false, false, false, .none, 0⟩,
  ⟨0xB011, .u8, .rwr, 12, 0, 2, 0, 255, 0xFF, 0x0, 0x80, false, false, false, .none, 0⟩,
  ⟨0xB012, .u8, .rwr, 12, 0, 2, 0, 255, 0xFF, 0x0, 0x80, false, false, false, .none, 0⟩,
  ⟨0xB013, .u8, .rwr, 1, 0, 2, 0, 255, 0xFF, 0x0, 0x80, false, false, false, .none, 0⟩,
  ⟨0xB014, .u16, .ro, 48, 0, 3, 0, 65535, 0xFFFF, 0x0, 0x0, false, false, false, .none, 0⟩,
  ⟨0xB020, .u32, .ro, 1, 0, 3, 0, 4294967295, 0xFFFFFFFF, 0x0, 0x0, false, false, false, .none, 0⟩]

/-- All rows of area PB. -/
def rowsB : List Row := rowsBa

/-- Rows of area PC. -/
def rowsCa : List Row := [
  ⟨0xC000, .u32, .rwr, 1, 0, 2, 0, 4294967295, 0x3, 0x0, 0x0, false, true, false, .none, 0⟩,
  ⟨0xC001, .u32, .ro, 1, 0, 3, 0, 4294967295, 0xFFFFFFFF, 0x0, 0x0, false, false, false, .none, 0⟩,
  ⟨0xC002, .u8, .rwr, 1, 0, 2, 11, 26, 0xFF, 0x0, 0xF, false, true, true, .none, 0⟩,
  ⟨0xC003, .s16, .rwr, 1, 0, 2, (-20), 10, 0xFFFF, 0x0, 0x0, false, true, false, .none, 0⟩,
  ⟨0xC004, .u16, .rwr, 1, 0, 2, 0, 65533, 0xFFFF, 0x0, 0x5A17, false, true, true, .none, 0⟩,
  ⟨0xC005, .u16, .rwr, 1, 0, 2, 0, 65533, 0xFFFF, 0x0, 0x0, false, true, true, .none, 0⟩,
  ⟨0xC006, .u64, .ro, 1, 0, 3, 0, 18446744073709551615, 0xFFFFFFFFFFFFFFFF, 0x0, 0x0, false, false, false, .none, 0⟩,
  ⟨0xC007, .enum, .rwr, 1, 0, 2, 5, 7, 0xFF, 0x0, 0x5, false, true, true, .none, 0⟩,
  ⟨0xC008, .u8, .rwr, 1, 0, 2, 1, 2, 0xFF, 0x0, 0x1, false, true, true, .none, 0⟩,
  ⟨0xC010, .blob, .wo, 1, 0, 2, 0, 0, 0x0, 0x0, 0x0, false, false, false, .none, 16⟩,
  ⟨0xC011, .blob, .wo, 1, 0, 2, 0, 0, 0x0, 0x0, 0x0, false, false, false, .none, 16⟩,
  ⟨0xC012, .u8, .ro, 1, 0, 3, 0, 255, 0xFF, 0x0, 0x0, false, false, false, .none, 0⟩,
  ⟨0xC013, .u32, .rwr, 2, 0, 2, 0, 4294967295, 0xFFFFFFFF, 0x0, 0x0, false, true, false, .none, 0⟩,
  ⟨0xC020, .u32, .rwr, 1, 0, 2, 10, 60000, 0xFFFFFFFF, 0x0, 0x3E8, false, true, true, .none, 0⟩,
  ⟨0xC021, .u32, .rwr, 1, 0, 2, 0, 4294967295, 0xFFFFFFFF, 0x0, 0x0, false, true, true, .none, 0⟩,
  ⟨0xC022, .u16, .rwr, 1, 0, 2, 100, 50000, 0xFFFF, 0x0, 0x7D0, false, true, true, .none, 0⟩,
  ⟨0xC023, .u16, .rwr, 1, 0, 2, 2, 1000, 0xFFFF, 0x0, 0x14, false, true, true, .none, 0⟩,
  ⟨0xC024, .u32, .rwr, 1, 0, 2, 2000, 50000, 0xFFFFFFFF, 0x0, 0x1388, false, true, true, .none, 0⟩,
  ⟨0xC025, .u32, .rwr, 1, 0, 2, 500, 100000, 0xFFFFFFFF, 0x0, 0x3E8, false, true, true, .none, 0⟩,
  ⟨0xC026, .u32, .rw, 1, 0, 1, 100, 60000, 0xFFFFFFFF, 0x0, 0x3E8, false, true, true, .none, 0⟩,
  ⟨0xC027, .u8, .rwr, 1, 0, 2, 0, 7, 0xFF, 0x0, 0x3, false, true, true, .none, 0⟩,
  ⟨0xC028, .u16, .rwr, 1, 0, 2, 10, 2000, 0xFFFF, 0x0, 0x1F4, false, true, true, .none, 0⟩,
  ⟨0xC030, .blob, .rw, 1, 0, 1, 0, 0, 0x0, 0x0, 0x0, true, true, true, .none, 65536⟩,
  ⟨0xC031, .blob, .rw, 1, 0, 1, 0, 0, 0x0, 0x0, 0x0, true, true, true, .none, 49152⟩,
  ⟨0xC032, .u16, .ro, 1, 0, 3, 0, 65535, 0xFFFF, 0x0, 0x0, false, false, false, .none, 0⟩,
  ⟨0xC040, .u64, .rw, 1, 0, 1, 0, 18446744073709551615, 0xFFFFFFFFFFFFFFFF, 0x0, 0x0, false, false, false, .traffic, 0⟩,
  ⟨0xC041, .u64, .rw, 1, 0, 1, 0, 18446744073709551615, 0xFFFFFFFFFFFFFFFF, 0x0, 0x0, false, false, false, .traffic, 0⟩,
  ⟨0xC042, .u64, .rw, 1, 0, 1, 0, 18446744073709551615, 0xFFFFFFFFFFFFFFFF, 0x0, 0x0, false, false, false, .traffic, 0⟩,
  ⟨0xC050, .u32, .rw, 1, 0, 1, 0, 4294967295, 0xFFFFFFFF, 0x0, 0x0, false, false, false, .error, 0⟩,
  ⟨0xC051, .u32, .rw, 1, 0, 1, 0, 4294967295, 0xFFFFFFFF, 0x0, 0x0, false, false, false, .error, 0⟩]

/-- Rows of area PC. -/
def rowsCb : List Row := [
  ⟨0xC052, .u32, .rw, 1, 0, 1, 0, 4294967295, 0xFFFFFFFF, 0x0, 0x0, false, false, false, .error, 0⟩,
  ⟨0xC053, .u32, .rw, 1, 0, 1, 0, 4294967295, 0xFFFFFFFF, 0x0, 0x0, false, false, false, .error, 0⟩,
  ⟨0xC054, .u32, .rw, 1, 0, 1, 0, 4294967295, 0xFFFFFFFF, 0x0, 0x0, false, false, false, .error, 0⟩,
  ⟨0xC055, .u32, .rw, 1, 0, 1, 0, 4294967295, 0xFFFFFFFF, 0x0, 0x0, false, false, false, .error, 0⟩,
  ⟨0xC056, .u32, .rw, 1, 0, 1, 0, 4294967295, 0xFFFFFFFF, 0x0, 0x0, false, false, false, .error, 0⟩,
  ⟨0xC057, .u32, .rw, 1, 0, 1, 0, 4294967295, 0xFFFFFFFF, 0x0, 0x0, false, false, false, .error, 0⟩,
  ⟨0xC058, .u32, .rw, 1, 0, 1, 0, 4294967295, 0xFFFFFFFF, 0x0, 0x0, false, false, false, .error, 0⟩,
  ⟨0xC060, .u32, .ro, 1, 0, 3, 0, 4294967295, 0xFFFFFFFF, 0x0, 0x0, false, false, false, .none, 0⟩]

/-- All rows of area PC. -/
def rowsC : List Row := rowsCa ++ rowsCb

/-- Rows of area PD. -/
def rowsDa : List Row := [
  ⟨0xD000, .u32, .rwr, 1, 0, 2, 0, 4294967295, 0xF3, 0x0, 0xF2, false, true, false, .none, 0⟩,
  ⟨0xD001, .u32, .ro, 1, 0, 3, 0, 4294967295, 0xFFFFFFFF, 0x0, 0x0, false, false, false, .none, 0⟩,
  ⟨0xD003, .u16, .rwr, 1, 0, 2, 250, 10000, 0xFFFF, 0x0, 0x3E8, false, true, false, .none, 0⟩,
  ⟨0xD005, .u16, .rwr, 1, 0, 2, 20, 5000, 0xFFFF, 0x0, 0xC8, false, true, false, .none, 0⟩,
  ⟨0xD006, .u32, .rwr, 1, 0, 2, 0, 50000, 0xFFFFFFFF, 0x0, 0x9C4, false, true, false, .none, 0⟩,
  ⟨0xD007, .u32, .rwr, 4, 0, 2, 0, 4294967295, 0xFFFFFFFF, 0x0, 0x0, false, true, false, .none, 0⟩,
  ⟨0xD008, .u32, .rwr, 1, 0, 2, 0, 4294967295, 0xFFFFFFFF, 0x0, 0x0, false, true, false, .none, 0⟩,
  ⟨0xD009, .blob, .wo, 1, 0, 2, 0, 0, 0x0, 0x0, 0x0, false, false, false, .none, 32⟩,
  ⟨0xD00A, .u32, .ro, 1, 0, 3, 0, 4294967295, 0xFFFFFFFF, 0x0, 0xFFFFFFFF, false, false, false, .none, 0⟩,
  ⟨0xD00B, .u32, .ro, 1, 0, 3, 0, 4294967295, 0xFFFFFFFF, 0x0, 0xFFFFFFFF, false, false, false, .none, 0⟩,
  ⟨0xD010, .u8, .wo, 1, 0, 2, 0, 255, 0xFF, 0x0, 0x0, false, false, false, .none, 0⟩,
  ⟨0xD020, .u32, .rw, 2, 0, 1, 0, 4294967295, 0xFFFFFFFF, 0x0, 0x0, false, false, false, .error, 0⟩,
  ⟨0xD021, .u32, .rw, 1, 0, 1, 0, 4294967295, 0xFFFFFFFF, 0x0, 0x0, false, false, false, .error, 0⟩,
  ⟨0xD022, .u32, .rw, 1, 0, 1, 0, 4294967295, 0xFFFFFFFF, 0x0, 0x0, false, false, false, .error, 0⟩,
  ⟨0xD023, .u32, .rw, 1, 0, 1, 0, 4294967295, 0xFFFFFFFF, 0x0, 0x0, false, false, false, .error, 0⟩,
  ⟨0xD024, .u32, .rw, 1, 0, 1, 0, 4294967295, 0xFFFFFFFF, 0x0, 0x0, false, false, false, .error, 0⟩,
  ⟨0xD025, .u32, .rw, 1, 0, 1, 0, 4294967295, 0xFFFFFFFF, 0x0, 0x0, false, false, false, .error, 0⟩,
  ⟨0xD026, .u32, .rw, 1, 0, 1, 0, 4294967295, 0xFFFFFFFF, 0x0, 0x0, false, false, false, .error, 0⟩,
  ⟨0xD027, .u32, .rw, 1, 0, 1, 0, 4294967295, 0xFFFFFFFF, 0x0, 0x0, false, false, false, .error, 0⟩,
  ⟨0xD028, .u32, .rw, 1, 0, 1, 0, 4294967295, 0xFFFFFFFF, 0x0, 0x0, false, false, false, .error, 0⟩,
  ⟨0xD029, .u32, .rw, 1, 0, 1, 0, 4294967295, 0xFFFFFFFF, 0x0, 0x0, false, false, false, .error, 0⟩,
  ⟨0xD030, .u64, .rw, 1, 0, 1, 0, 18446744073709551615, 0xFFFFFFFFFFFFFFFF, 0x0, 0x0, false, false, false, .traffic, 0⟩,
  ⟨0xD031, .u64, .rw, 1, 0, 1, 0, 18446744073709551615, 0xFFFFFFFFFFFFFFFF, 0x0, 0x0, false, false, false, .traffic, 0⟩,
  ⟨0xD040, .u32, .ro, 1, 0, 3, 0, 4294967295, 0xFFFFFFFF, 0x0, 0x0, false, false, false, .none, 0⟩]

/-- All rows of area PD. -/
def rowsD : List Row := rowsDa

/-- Rows of area PE. -/
def rowsEa : List Row := [
  ⟨0xE001, .u32, .ro, 4, 0, 3, 0, 4294967295, 0xFFFFFFFF, 0x0, 0x80000000, false, false, false, .none, 0⟩,
  ⟨0xE010, .u8, .rwr, 1, 0, 2, 0, 31, 0xFF, 0x0, 0x8, false, true, false, .none, 0⟩,
  ⟨0xE011, .u8, .rw, 1, 0, 1, 0, 255, 0xFF, 0x0, 0x0, false, true, false, .none, 0⟩,
  ⟨0xE012, .u32, .ro, 4, 0, 3, 0, 4294967295, 0xFFFFFFFF, 0x0, 0x0, false, false, false, .none, 0⟩,
  ⟨0xE013, .u16, .ro, 1, 0, 3, 0, 65535, 0xFFFF, 0x0, 0x0, false, false, false, .none, 0⟩,
  ⟨0xE020, .u64, .rw, 4, 0, 1, 0, 18446744073709551615, 0xFFFFFFFFFFFFFFFF, 0x0, 0x0, false, false, false, .traffic, 0⟩,
  ⟨0xE021, .u64, .rw, 4, 0, 1, 0, 18446744073709551615, 0xFFFFFFFFFFFFFFFF, 0x0, 0x0, false, false, false, .traffic, 0⟩,
  ⟨0xE022, .u32, .rw, 1, 0, 1, 0, 4294967295, 0xFFFFFFFF, 0x0, 0x0, false, false, false, .error, 0⟩,
  ⟨0xE023, .u32, .rw, 1, 0, 1, 0, 4294967295, 0xFFFFFFFF, 0x0, 0x0, false, false, false, .error, 0⟩,
  ⟨0xE030, .u64, .rwr, 4, 0, 2, 0, 18446744073709551615, 0xFFFFFFFFFFFFFFFF, 0x0, 0x0, false, true, false, .none, 0⟩,
  ⟨0xE031, .u32, .rw, 4, 0, 1, 0, 4294967295, 0xFFFFFFFF, 0x0, 0x0, false, false, false, .error, 0⟩,
  ⟨0xE100, .blob, .rwr, 1, 0, 2, 0, 0, 0x0, 0x0, 0x0, false, false, false, .none, 2097152⟩,
  ⟨0xE101, .u32, .rwr, 1, 0, 2, 0, 4294967295, 0x4, 0x0, 0x0, false, true, false, .none, 0⟩,
  ⟨0xE102, .enum, .ro, 1, 0, 3, 0, 255, 0xFF, 0x0, 0x0, false, false, false, .none, 0⟩,
  ⟨0xE103, .blob, .rwr, 1, 0, 2, 0, 0, 0x0, 0x0, 0x0, false, true, false, .none, 32⟩,
  ⟨0xE104, .u8, .rwr, 1, 0, 2, 0, 23, 0xFF, 0x0, 0xF, false, true, false, .none, 0⟩,
  ⟨0xE105, .u32, .rw, 1, 0, 1, 0, 4294967295, 0xFFFFFFFF, 0x0, 0x0, false, false, false, .error, 0⟩,
  ⟨0xE106, .u32, .rw, 1, 0, 1, 0, 4294967295, 0xFFFFFFFF, 0x0, 0x0, false, false, false, .error, 0⟩,
  ⟨0xE107, .u32, .ro, 2, 0, 3, 0, 4294967295, 0xFFFFFFFF, 0x0, 0x0, false, false, false, .none, 0⟩,
  ⟨0xE200, .u32, .rw, 1, 0, 1, 0, 4294967295, 0x3, 0x0, 0x0, false, true, false, .none, 0⟩,
  ⟨0xE201, .blob, .ro, 1, 0, 3, 0, 0, 0x0, 0x0, 0x0, false, false, false, .none, 65536⟩,
  ⟨0xE202, .u32, .ro, 1, 0, 3, 0, 4294967295, 0xFFFFFFFF, 0x0, 0x0, false, false, false, .time, 0⟩,
  ⟨0xE300, .u8, .rw, 1, 0, 1, 0, 63, 0xFF, 0x0, 0x0, false, true, false, .none, 0⟩,
  ⟨0xE301, .blob, .rw, 1, 0, 1, 0, 0, 0x0, 0x0, 0x0, false, false, false, .none, 1400⟩,
  ⟨0xE302, .blob, .ro, 1, 0, 3, 0, 0, 0x0, 0x0, 0x0, false, false, false, .none, 1424⟩,
  ⟨0xE303, .enum, .ro, 1, 0, 3, 0, 255, 0xFF, 0x0, 0x0, false, false, false, .none, 0⟩,
  ⟨0xE304, .u16, .rw, 1, 0, 1, 5, 5000, 0xFFFF, 0x0, 0x32, false, true, false, .none, 0⟩]

/-- All rows of area PE. -/
def rowsE : List Row := rowsEa

/-- Rows of area PF. -/
def rowsFa : List Row := [
  ⟨0xF000, .u32, .ro, 1, 0, 3, 0, 4294967295, 0xFFFFFFFF, 0x0, 0x0, false, false, false, .none, 0⟩,
  ⟨0xF001, .u32, .ro, 2, 0, 3, 0, 4294967295, 0xFFFFFFFF, 0x0, 0x0, false, false, false, .none, 0⟩,
  ⟨0xF003, .u32, .ro, 2, 0, 3, 0, 4294967295, 0xFFFFFFFF, 0x0, 0x0, false, false, false, .none, 0⟩,
  ⟨0xF010, .blob, .wo, 1, 0, 2, 0, 0, 0x0, 0x0, 0x0, false, false, false, .none, 25161728⟩,
  ⟨0xF011, .u32, .ro, 1, 0, 3, 0, 4294967295, 0xFFFFFFFF, 0x0, 0x0, false, false, false, .none, 0⟩,
  ⟨0xF020, .u32, .wo, 1, 0, 2, 0, 4294967295, 0xFFFFFFFF, 0x0, 0x0, false, false, false, .none, 0⟩,
  ⟨0xF021, .u16, .ro, 1, 0, 3, 0, 65535, 0xFFFF, 0x0, 0x0, false, false, false, .none, 0⟩,
  ⟨0xF025, .u16, .wo, 1, 0, 2, 0, 65535, 0xFFFF, 0x0, 0x0, false, false, false, .none, 0⟩,
  ⟨0xF100, .u32, .rw, 1, 0, 1, 0, 4294967295, 0x0, 0x0, 0x0, false, true, false, .none, 0⟩,
  ⟨0xF101, .u32, .ro, 1, 0, 3, 0, 4294967295, 0xFFFFFFFF, 0x0, 0x0, false, false, false, .none, 0⟩,
  ⟨0xF102, .blob, .rwr, 1, 0, 2, 0, 0, 0x0, 0x0, 0x0, false, false, false, .none, 2093056⟩,
  ⟨0xF103, .u32, .ro, 1, 0, 3, 0, 4294967295, 0xFFFFFFFF, 0x0, 0x0, false, false, false, .none, 0⟩,
  ⟨0xF104, .u16, .ro, 1, 0, 3, 0, 65535, 0xFFFF, 0x0, 0x0, false, false, false, .none, 0⟩,
  ⟨0xF105, .u32, .rw, 1, 0, 1, 0, 4294967295, 0xFFFFFFFF, 0x0, 0x0, false, false, false, .error, 0⟩,
  ⟨0xF200, .u32, .ro, 1, 0, 3, 0, 4294967295, 0xFFFFFFFF, 0x0, 0x0, false, false, false, .none, 0⟩,
  ⟨0xF201, .u32, .rw, 1, 0, 1, 0, 4294967295, 0xFFFFFFFF, 0x0, 0x0, false, false, false, .error, 0⟩,
  ⟨0xF202, .u32, .rw, 1, 0, 1, 0, 4294967295, 0xFFFFFFFF, 0x0, 0x0, false, false, false, .error, 0⟩,
  ⟨0xF203, .u32, .wo, 15, 0, 1, 0, 4294967295, 0xFFFFFFFF, 0x0, 0x0, false, false, false, .none, 0⟩,
  ⟨0xF210, .u32, .rw, 1, 0, 1, 0, 4294967295, 0xFFFFFFFF, 0x0, 0x0, false, true, false, .none, 0⟩,
  ⟨0xF211, .u32, .ro, 6, 0, 3, 0, 4294967295, 0xFFFFFFFF, 0x0, 0x0, false, false, false, .none, 0⟩,
  ⟨0xF220, .u8, .wo, 1, 0, 1, 0, 255, 0xFF, 0x0, 0x0, false, false, false, .none, 0⟩,
  ⟨0xF221, .blob, .ro, 1, 0, 3, 0, 0, 0x0, 0x0, 0x0, false, false, false, .none, 98320⟩,
  ⟨0xF222, .u32, .ro, 1, 0, 3, 0, 4294967295, 0xFFFFFFFF, 0x0, 0x0, false, false, false, .time, 0⟩,
  ⟨0xF300, .u32, .ro, 1, 0, 3, 0, 4294967295, 0xFFFFFFFF, 0x0, 0x0, false, false, false, .none, 0⟩,
  ⟨0xF301, .u32, .rw, 1, 0, 1, 0, 4294967295, 0xFFFFFFFF, 0x0, 0x0, false, false, false, .error, 0⟩,
  ⟨0xF310, .u32, .rw, 1, 0, 1, 0, 4294967295, 0x8, 0x0, 0x0, false, true, false, .none, 0⟩,
  ⟨0xF311, .u16, .rw, 1, 0, 1, 1, 168, 0xFFFF, 0x0, 0x18, false, true, false, .none, 0⟩,
  ⟨0xF312, .u16, .rwr, 1, 0, 2, 100, 4000, 0xFFFF, 0x0, 0x3E8, false, true, false, .none, 0⟩,
  ⟨0xF313, .u64, .ro, 1, 0, 3, 0, 18446744073709551615, 0xFFFFFFFFFFFFFFFF, 0x0, 0x0, false, false, false, .none, 0⟩,
  ⟨0xF314, .u32, .rw, 1, 0, 1, 0, 4294967295, 0xFFFFFFFF, 0x0, 0x0, false, false, false, .error, 0⟩]

/-- Rows of area PF. -/
def rowsFb : List Row := [
  ⟨0xF315, .u32, .rw, 1, 0, 1, 0, 4294967295, 0xFFFFFFFF, 0x0, 0x0, false, false, false, .error, 0⟩]

/-- All rows of area PF. -/
def rowsF : List Row := rowsFa ++ rowsFb

/-- The rows of one area digit. -/
def areaRows : Nat → List Row
  | 0 => rows0
  | 1 => rows1
  | 2 => rows2
  | 3 => rows3
  | 4 => rows4
  | 5 => rows5
  | 6 => rows6
  | 7 => rows7
  | 8 => rows8
  | 9 => rows9
  | 10 => rowsA
  | 11 => rowsB
  | 12 => rowsC
  | 13 => rowsD
  | 14 => rowsE
  | 15 => rowsF
  | _ => []

/-- Every parameter of the dictionary. -/
def allRows : List Row :=
  rows0 ++ rows1 ++ rows2 ++ rows3 ++ rows4 ++ rows5 ++ rows6 ++ rows7 ++ rows8 ++ rows9 ++ rowsA ++ rowsB ++ rowsC ++ rowsD ++ rowsE ++ rowsF

/-- The row of a parameter number; none when the parameter is undefined (R89). -/
def Dict.row (p : Nat) : Option Row := (areaRows (p / 4096)).find? (fun r => r.num == p)

/-- Defaults that differ between the elements of one parameter. -/
def Dict.elementDefault (p e d : Nat) : Nat :=
  if p = 0xE030 && e ≠ 0 then 1
  else if p = 0x6101 && (e % 12 = 0 || e % 12 = 5 || e % 12 = 10) then 65536
  else if p = 0x8004 then e
  else if p = 0x8020 then (Config.unitCid e).toNat
  else d

/-- The reset value of one element (R86). Keys of the register store are parameter times 256 plus element. -/
def Dict.dflt (key : Nat) : Wide :=
  match Dict.row (key / 256) with
  | some r => if key % 256 < r.elems then BitVec.ofNat 64 (Dict.elementDefault r.num (key % 256) r.dflt) else 0
  | none => 0

/-- The register store's key of an element. -/
def Dict.key (p e : Nat) : Nat := p * 256 + e % 256

/-- Bytes per element on the wire (Table 5.1). -/
def PType.bytes : PType → Nat
  | .u8 | .bool | .enum => 1
  | .u16 | .s16 => 2
  | .u32 | .s32 | .t32 => 4
  | .u64 => 8
  | .str | .blob => 0

/-- Type codes of Table 5.1. -/
def PType.code : PType → Byte
  | .u8 => 1 | .u16 => 2 | .u32 => 3 | .u64 => 4 | .s16 => 5 | .s32 => 6 | .t32 => 7 | .bool => 8 | .enum => 9
  | .str => 10 | .blob => 11

/-- Access codes of Table 5.2. -/
def Access.code : Access → Byte
  | .ro => 1 | .rw => 2 | .wo => 3 | .rwr => 4

end Sys2Proof.Machine
end

