-- ==== Sys2Proof/Machine/SMap.lean ====
section
/-! DEFINITION. The one sparse store of the model: a list of (key, value) pairs in canonical form, keys strictly
rising and no entry equal to the value an unlisted key reads as. Dictionary values, DRAM, firmware SRAM and the
element stores are all held this way, so equal stores are equal data. -/
namespace Sys2Proof.Machine

/-- A sparse store. What an unlisted key reads as is the store's own default function, given to each operation. -/
abbrev SMap (V : Type) := List (Nat × V)

/-- The entry listed for a key, if any. -/
def SMap.find {V : Type} : SMap V → Nat → Option V
  | [], _ => none
  | (k, v) :: m, key => if k = key then some v else SMap.find m key

/-- The value a key reads as: its entry, or the default. -/
def SMap.get {V : Type} (d : V) (m : SMap V) (key : Nat) : V :=
  match SMap.find m key with
  | some v => v
  | none => d

/-- List a value for a key, in key order, replacing what was listed. -/
def SMap.insert {V : Type} : SMap V → Nat → V → SMap V
  | [], key, v => [(key, v)]
  | (k, w) :: m, key, v =>
    if key < k then (key, v) :: (k, w) :: m
    else if key = k then (k, v) :: m
    else (k, w) :: SMap.insert m key v

/-- Unlist a key. -/
def SMap.erase {V : Type} : SMap V → Nat → SMap V
  | [], _ => []
  | (k, w) :: m, key => if k = key then SMap.erase m key else (k, w) :: SMap.erase m key

/-- Write a value: the canonical form is kept by unlisting a key that is given its default. -/
def SMap.set {V : Type} [DecidableEq V] (d : V) (m : SMap V) (key : Nat) (v : V) : SMap V :=
  if v = d then SMap.erase m key else SMap.insert m key v

/-- Keys strictly rising, all of them above a bound. -/
def SMap.above {V : Type} : Option Nat → SMap V → Bool
  | _, [] => true
  | lo, (k, _) :: m => (match lo with | none => true | some b => decide (b < k)) && SMap.above (some k) m

/-- The canonical form of a store over a default function. -/
def SMap.wf {V : Type} [DecidableEq V] (dflt : Nat → V) (m : SMap V) : Bool :=
  SMap.above none m && m.all (fun kv => decide (kv.2 ≠ dflt kv.1))

/-- Write a run of values at rising keys. -/
def SMap.setRun {V : Type} [DecidableEq V] (d : V) : SMap V → Nat → List V → SMap V
  | m, _, [] => m
  | m, key, v :: vs => SMap.setRun d (SMap.set d m key v) (key + 1) vs

/-- Read a run of `n` values at rising keys. -/
def SMap.getRun {V : Type} (d : V) (m : SMap V) (key : Nat) : Nat → List V
  | 0 => []
  | n + 1 => SMap.get d m key :: SMap.getRun d m (key + 1) n

end Sys2Proof.Machine
end

