-- ==== Sys2Proof/Machine/State.lean ====
section
/-! DEFINITION. The state of the Mainmast as plain data: the dictionary's values, the memories, the non-volatile
contents and the state of every block, with the queue of commands that wait; the outcomes a step can stop with; and the
machine right after a power-on reset. -/
namespace Sys2Proof.Machine

/-- Why a step stops with a fault. No rule of the spec stops this block: every condition it describes is a status, a
counter or a reset. -/
inductive Fault
  /-- Raised by nobody: the spec names no event that stops the block for good. Safe: it never occurs. -/
  | halted
  deriving DecidableEq, Repr

/-- Why a step is refused. -/
inductive Refusal
  /-- Raised by an arm of `exec` whose command has no meaning in the model yet. Safe: the step stops by name. -/
  | notModelled (mnemonic : String)
  deriving DecidableEq, Repr

/-! ### Reset, power and life cycle (chapters 3 and 4) -/

/-- Where the device is between an applied VAO and service. `held`: in reset, awaiting the release instant; `boot`:
between release and ready; `erasing` and `retired`: the Retired life-cycle state before and after its erasure. -/
inductive Phase | unpowered | held | boot | ready | recovery | erasing | retired | struck
  deriving DecidableEq, Repr

/-- The wake sources of Table 4.2. -/
inductive WakeSource
  | shroudPattern (port : Fin 64)
  | kite | bosun | wakePin | rtcAlarm | pendingRequest
  deriving DecidableEq, Repr

/-- The power states of Table 4.1 as a served device moves through them. `entering t ap`: an entry to the state with
Target code `t` that has passed `ap` abort points. `waking furled`: a wake in progress. -/
inductive Sleep
  | run | luff
  | entering (target : BitVec 3) (ap : Nat)
  | reefed | furled
  | waking (furled : Bool)
  deriving DecidableEq, Repr

/-- What the watchdog does (R56 and the watchdog paragraph of chapter 4). -/
inductive WatchdogMode | stopped | running | paused
  deriving DecidableEq, Repr

/-- How far the boot sequence of Table 3.6 has come. -/
structure Boot where
  sramWiped : Bool
  dramTrained : Bool
  /-- The slot whose image was accepted, once it has been verified (0 = A, 1 = B). -/
  image : Option (Fin 2)
  imageChecked : Bool
  dramWiped : Bool
  handed : Bool
  settingsApplied : Bool
  /-- Slots set Rejected during this boot, with the cause and the failed step, for the log at ready (R409). -/
  rejected : List (Fin 2 × Nat × Nat)
  /-- The accepted image was not held to a signature (R60). -/
  unverified : Bool
  deriving DecidableEq, Repr

/-- Power, reset and life-cycle state that no parameter shows. -/
structure Power where
  phase : Phase
  sleep : Sleep
  boot : Boot
  straps : Straps
  watchdog : WatchdogMode
  /-- Always-running count at the last watchdog service. -/
  serviced : Nat
  /-- A commanded reset has been accepted and waits for its instant (R56). -/
  resetPending : Bool
  /-- Causes of resets that arrived while a fuse pair was being programmed (R64). -/
  deferredCauses : BitVec 8
  /-- The life-cycle request that awaits its confirm: target, path and session (R63). -/
  lifeRequest : Option (Byte × Path × Fin 17)
  /-- A confirmed life-cycle change in progress: its target (R64). -/
  lifeChange : Option Byte
  /-- The wake event latched by the entry controller, or kept in the window of R76. -/
  wakeLatch : Option WakeSource
  /-- The wake that is in progress or was last. -/
  waking : Option WakeSource
  /-- Bosun match flag of R79, held until the transaction is served. -/
  bosunMatch : Bool
  /-- The Bosun target holds SCL low (R79), and the write transfer that waits behind it. -/
  bosunHeld : Bool
  heldTransfer : Option (List Byte)
  /-- The alarm flag of Table 4.2, held until a wake completes. -/
  alarm : Bool
  deriving DecidableEq, Repr

/-! ### Non-volatile contents: fuses, identity area, flash (chapters 3 and 19) -/

/-- One image slot of the flash with its state sector (R404 to R406). -/
structure Slot where
  generation : Word
  written : Word
  trial : Word
  confirmed : Word
  rejected : Word
  image : List Byte
  deriving DecidableEq, Repr

/-- One settings bank: its bytes from offset 0 to the end of its records, and its commit word (R413). -/
structure Bank where
  bytes : List Byte
  commit : Word
  deriving DecidableEq, Repr

/-- Everything that survives loss of supply. -/
structure NonVolatile where
  /-- Two fuses for each of Sealed, Deployed and Retired (R65). -/
  fuses : List (Bool × Bool)
  keyHash : Option (List Byte)
  floor : Half
  helmKey : Option (List Byte)
  riggerKey : Option (List Byte)
  yardKey : Option (List Byte)
  /-- The identity secret is present (erased in Retired, R66). -/
  identitySecret : Bool
  slotA : Slot
  slotB : Slot
  bank0 : Bank
  bank1 : Bank
  deriving DecidableEq, Repr

/-! ### WDP, sessions, transfers and events (chapter 5) -/

/-- State of one session number from 1 to 16. -/
inductive SessionState | free | opening | unlocked
  deriving DecidableEq, Repr

/-- One session (R98 to R103). -/
structure Session where
  state : SessionState
  level : Nat
  bosun : Bool
  addr : BitVec 128
  udp : Half
  hostNonce : BitVec 128
  deviceNonce : BitVec 128
  key : List Byte
  lastTransaction : Word
  cached : Option (List Byte)
  deriving DecidableEq, Repr

/-- State of a transfer slot, in the codes of Table 5.10. -/
inductive XferState | free | opened | verifying | latchPending | mismatch
  deriving DecidableEq, Repr

/-- One block-transfer slot (R104, R105). The staged body lies in DRAM. -/
structure Xfer where
  state : XferState
  param : Nat
  owner : Requester
  total : Nat
  digest : List Byte
  /-- The verified image or settings write that runs under this slot and keeps its commit Pending. -/
  writing : Bool
  /-- Answer of the finished commit, kept for the poll that repeats it. -/
  result : Option Byte
  deriving DecidableEq, Repr

/-- One event record (R109). -/
structure EventRecord where
  cls : Nat
  elem : Nat
  param : Nat
  tns : T32
  seconds : Word
  arg : Word
  deriving DecidableEq, Repr

/-- One event subscription (R108). -/
structure Subscription where
  active : Bool
  mask : Word
  addr : BitVec 128
  udp : Half
  mac : BitVec 48
  port : Nat
  session : Nat
  lease : Nat
  sequence : Word
  records : List EventRecord
  lost : Nat
  deriving DecidableEq, Repr

/-- What the last single operation of a command answered: a status code of Table 5.7 and data. -/
structure Answer where
  status : Byte
  data : List Byte
  deriving DecidableEq, Repr

/-- The dictionary's dynamic state that no parameter shows. -/
structure Wdp where
  sessions : SMap Session
  xfers : SMap Xfer
  subs : SMap Subscription
  /-- Requester code and parameter of every violation already logged (R89, R114). -/
  violations : List (Nat × Nat)
  /-- Instants of recent failed proofs (R102), newest first. -/
  fails : List Nat
  lockout : Bool
  /-- Last malformed log entry per source address: address and instant (R97). -/
  malformedLogged : List (BitVec 128 × Nat)
  /-- Malformed answers per source address in the second that began at the instant held (R97). -/
  malformedAnswers : List (BitVec 128 × Nat × Nat)
  /-- The response a Bosun read transfer returns; none while no response is ready (R112). -/
  bosunResponse : Option (List Byte)
  /-- The last single-operation answer, the model's own record. -/
  answer : Answer
  deriving DecidableEq, Repr

/-! ### Trouble log (chapter 20) -/

/-- One trouble-log entry (Table 20.1). -/
structure TroubleEntry where
  tns : T32
  seconds : Word
  sequence : Word
  source : Byte
  aux : Byte
  code : Half
  arg0 : Word
  arg1 : Word
  deriving DecidableEq, Repr

/-- The log: its ring, newest first, the writer's input queue, oldest first, and firmware's partial entries. -/
structure Trouble where
  ring : List TroubleEntry
  queue : List TroubleEntry
  /-- PF203 words 4c and 4c + 1 of each core (R424). -/
  partials : SMap Word
  /-- A log export in progress: the bytes captured at its instant (R427). -/
  exporting : Option (List Byte)
  /-- Deferred automatic Trim run and periodic scrub (R430). -/
  trimDeferred : Bool
  scrubDeferred : Bool
  /-- Always-running count at which the scrub in progress began. -/
  scrubStart : Option Nat
  deriving DecidableEq, Repr

/-! ### Halyard (chapter 6) -/

/-- A stamp queue entry (Table 6.4). -/
structure Stamp where
  head : PtpHead
  stamp : T32
  frac : Byte
  flagged : Bool
  deriving DecidableEq, Repr

/-- A foreign master heard on a stay port. -/
structure Foreign where
  source : BitVec 80
  dataset : Dataset
  addr : BitVec 128 := 0
  mac : BitVec 48 := 0
  deriving DecidableEq, Repr

/-- PTP state of one stay port. -/
structure StayPtp where
  foreign : Option Foreign
  /-- The two-step Sync that waits for its Follow_Up, and the clock of its arrival. -/
  awaiting : Option (SyncMsg × Nat)
  /-- t2 - t1 - corrections of the last Sync used, in 2^-16 ns. -/
  syncDelta : Option Int
  /-- Sequence and egress stamp of the Delay_Req in flight, in full units of 2^-16 ns. -/
  delayReq : Option (Half × Int)
  delaySeq : Half
  syncSeq : Half
  announceSeq : Half
  /-- The port is in the master state of the profile's BMCA. -/
  master : Bool
  deriving DecidableEq, Repr

/-- PTP state of one shroud port. -/
structure ShroudPtp where
  syncSeq : Half
  /-- Time to the next Announce, in units of 1/128 s (R135). -/
  announceWait : Nat
  announceSeq : Half
  pdelaySeq : Half
  /-- Sequence and egress stamp of the Pdelay_Req in flight. -/
  pdelayReq : Option (Half × Int)
  /-- The last measurements that the acceptance rule of R135 did not take, newest first, in 2^-16 ns. -/
  refused : List Int
  deriving DecidableEq, Repr

/-- A latched frame that has not yet been presented (R130): its index and T. -/
structure QueuedFrame where
  index : Nat
  time : T32
  deriving DecidableEq, Repr

/-- The show frame grid (R125 to R129). -/
structure Grid where
  /-- Rate code and lead in effect, taken from P2050 and P8000 at the last seed. -/
  rate : Nat
  lead : Nat
  /-- What full time is by this grid, less the TNS counter with its wraps, in ns (R126). -/
  origin : Int
  /-- Index, T32 value and remainder of the next boundary. -/
  index : Nat
  t : T32
  r : Nat
  /-- Index of the next frame to latch. -/
  nextLatch : Nat
  /-- Highest index latched since the last change of rate. -/
  highest : Option Nat
  /-- Indices below this one are not counted as skipped (sleep, R128). -/
  countFrom : Nat
  /-- Indices below the last seed's whose latch lay ahead when it was applied; they are not counted as skipped (R128). -/
  spared : Nat
  /-- A seed has been applied whose first latch has not yet acted. -/
  freshSeed : Bool
  /-- A change of P2050 waits for the next seed. -/
  rateChanged : Bool
  queued : List QueuedFrame
  deriving DecidableEq, Repr

/-- Halyard's state that no parameter shows. -/
structure Halyard where
  /-- TNS, its 8-bit fraction and 32 further fraction bits. -/
  acc : BitVec 72
  /-- Servo integral in ppb, exact. -/
  integral : Dyad
  /-- Mean path delay of the slave port in ns, exact; none while not known. -/
  pathDelay : Option Dyad
  /-- Consecutive valid Syncs at or below the lock threshold. -/
  inLock : Nat
  grid : Grid
  stay : SMap StayPtp
  shroud : SMap ShroudPtp
  ingress : SMap (List Stamp)
  egress : SMap (List Stamp)
  /-- Firings of each comparator held while StepDone is set, or while the domain of its destination is stopped
  (R82, R141). -/
  heldFirings : SMap Nat
  /-- Destinations of Table 6.6 that a firing has driven and whose units have still to act. -/
  drives : List Nat
  /-- Wraps of TNS, those in Furled with them. -/
  turns : Int
  /-- The parent followed on the slave port. -/
  master : Option Foreign
  /-- The grandmaster dataset received last (R135). -/
  grandmaster : Option Dataset
  deriving DecidableEq, Repr

/-! ### Frames that leave (chapters 7, 12, 13) -/

/-- One record of a group membership report: record type, group, and sources. -/
structure GroupRecord where
  kind : Byte
  group : BitVec 128
  sources : List (BitVec 128)
  deriving DecidableEq, Repr

/-- The addresses a frame is sent with: MAC addresses, 802.1Q tag, IP version and addresses (IPv4 in the low 32 bits), and
UDP ports, zero where it carries no UDP. -/
structure NetHead where
  dstMac : BitVec 48
  srcMac : BitVec 48
  tag : Option Half
  v6 : Bool
  src : BitVec 128
  dst : BitVec 128
  srcPort : Half
  dstPort : Half
  deriving DecidableEq, Repr

/-- What a frame waiting in an egress queue is. Contents that the spec lays out byte by byte are carried as bytes. -/
inductive TxFrame
  | sync (domain : Byte) (seq : Half)
  | followUp (domain : Byte) (seq : Half) (originSec : BitVec 48) (originNs : Word) (correction : Int)
  | announce (domain : Byte) (seq : Half) (dataset : Dataset)
  | delayReq (domain : Byte) (seq : Half) (unicast : Bool)
  | delayResp (domain : Byte) (seq : Half) (requestStamp : T32) (requestFrac : Byte)
  | pdelayReq (domain : Byte) (seq : Half)
  | pdelayResp (domain : Byte) (seq : Half) (requestStamp : T32) (requestFrac : Byte)
  | pdelayRespFollowUp (domain : Byte) (seq : Half) (responseStamp : T32) (responseFrac : Byte)
  | wdp (addr : BitVec 128) (udp : Half) (bytes : List Byte)
  | arpReply (target : Word)
  | neighbourAdvert (target : BitVec 128)
  | echoReply (v6 : Bool)
  | groupReport (v6 : Bool) (records : List GroupRecord)
  | stayPennant (bytes : List Byte)
  | shroud (format : Byte) (stream : Half) (bytes : List Byte)
  | sacnData (univ : Half) (bytes : List Byte)
  | sacnSync (bytes : List Byte)
  | express (source : Nat) (stomped : Bool) (bytes : List Byte)
  | bulk (stream : Half) (seq : Word) (bytes : List Byte)
  deriving DecidableEq, Repr

/-- The show frame a queued frame belongs to: its index, its destination and the close of its window. -/
structure ShowTag where
  frame : Nat
  dest : Nat
  close : T32
  deriving DecidableEq, Repr

/-- A queued frame: what it is, its length on the wire from destination address to FCS, and its show frame. -/
structure Egress where
  frame : TxFrame
  len : Nat
  tag : Option ShowTag := none
  net : Option NetHead := none
  deriving DecidableEq, Repr

/-! ### Stay ports and ingest (chapter 7) -/

/-- Where a received stay frame waits for its consumer (Table 7.3). -/
inductive RxDest | cascade | pennant | sacn | video | responder
  deriving DecidableEq, Repr

/-- One stay port. -/
structure StayPort where
  /-- Frames held in the 512 KiB receive buffer, oldest first: destination and length. -/
  rxHeld : List (RxDest × Nat)
  priority : List Egress
  cascade : List Egress
  general : List Egress
  /-- The frame in progress on the wire. -/
  sending : Option Egress
  /-- Transmit-fault handling of R145: 0 none, 1 TX_DISABLE held for 10 ms, 2 awaiting the check 100 ms later. -/
  faultStage : Nat
  /-- Multicast groups joined, each with the source it is joined for; source 0 is any source (R150). -/
  joined : List (BitVec 128 × BitVec 128)
  deriving DecidableEq, Repr

/-- A ring of three slots as video streams and cascade inputs use it (R156). -/
structure Ring where
  /-- Slot S selected at the last latch, with the time stamp of its frame. -/
  selected : Option (Fin 3 × Word)
  /-- Slot N, the newest complete frame, with its time stamp. -/
  newest : Option (Fin 3 × Word)
  /-- The clock in which N became complete, and what N was before that clock (R158). -/
  completed : Nat
  before : Option (Fin 3 × Word)
  /-- Slot W being written, with its time stamp. -/
  writing : Option (Fin 3 × Word)
  /-- A selection has been made since enable or the last return to Run. -/
  hasSelected : Bool
  /-- Covered extents of the frame being written: start and end, rising and disjoint. -/
  cover : List (Nat × Nat)
  /-- Slot read by the canvas cycle that uses the last selection (RingInUse). -/
  inUse : Bool
  deriving DecidableEq, Repr

/-- One video stream. -/
structure Video where
  /-- Highest sequence released, once a packet has been taken since the stream was enabled. -/
  highest : Option Word
  /-- How many sequences up to the highest are marked seen; marking never leaves a gap (R160). -/
  seenCount : Nat
  late : Nat
  /-- The reorder store: held packets, the oldest first. -/
  held : List RtpPacket
  ring : Ring
  /-- Always-running count at which each leg last delivered a packet first. -/
  legAFirst : Option Nat
  legBFirst : Option Nat
  deriving DecidableEq, Repr

/-- One cascade input. -/
structure CascadeIn where
  /-- The sequence of the last frame accepted (R281). -/
  lastSeq : Option Word
  /-- Frames discarded as malformed and as unsupported (R280). -/
  malformed : Nat
  unsupported : Nat
  ring : Ring
  deriving DecidableEq, Repr

/-! ### sACN and the channel merge (chapters 7 and 8) -/

/-- One live source of one input universe. -/
structure Source where
  cid : BitVec 128
  univ : Half
  seq : Byte
  priority : Byte
  /-- Slots of the most recent applied packet. -/
  slots : List Byte
  /-- Last value ever sent for each channel (the baseline of R177). -/
  baseline : List Byte
  /-- Channels, from 0, changed since the last latch. -/
  changed : List Nat
  /-- A packet of it has updated the input state. -/
  applied : Bool
  /-- It has come since the last latch: a source that sends again after its loss is a new one (R173). -/
  isNew : Bool
  deriving DecidableEq, Repr

/-- sACN ingest state. -/
structure Sacn where
  sources : List Source
  /-- Packets held for synchronisation: universe, address, packet. -/
  held : List (Half × Half × SacnPacket)
  /-- Tracked synchronisation addresses; true once their 2.5 s has passed without a synchronisation packet. -/
  tracked : List (Half × Bool)
  deriving DecidableEq, Repr

/-- States of a merged universe (Table 8.3). -/
inductive UniverseState | noSource | live | holding | ended
  deriving DecidableEq, Repr

/-- One merged universe. -/
structure Merged where
  state : UniverseState
  values : List Byte
  topSet : List (BitVec 128)
  topPriority : Byte
  topChanged : Bool
  /-- Sheet sends the universe (fixed at the latch). -/
  sends : Bool
  deriving DecidableEq, Repr

/-! ### Cue Queue (chapter 8) -/

/-- A cue in the queue: its remaining words, whether it is in service, and its admission number. -/
structure QueuedCue where
  priority : Nat
  admission : Word
  words : List Wide
  deriving DecidableEq, Repr

/-- A cue the kernel has read and will apply for a target frame. -/
structure KernelCue where
  admission : Word
  header : Wide
  actions : List Wide
  target : Nat
  late : Bool
  deriving DecidableEq, Repr

/-- A ramp in progress (R186). -/
structure Ramp where
  param : Nat
  elem : Nat
  /-- The requester and level its cue's header names. -/
  rq : Requester
  level : Nat
  start : Int
  stop : Int
  span : Nat
  first : Nat
  /-- The target frame of a later cue that writes the element. -/
  ends : Option Nat
  deriving DecidableEq, Repr

/-- The Cue Queue and the kernel's execution state. -/
structure Cue where
  /-- Assembly buffers: 0 to 3 deck cores, 4 Bosun, 10h + s WDP session s. -/
  assembly : SMap (List Wide)
  /-- Admitted cues in the order they will be yielded; the head may be in service. -/
  queue : List QueuedCue
  inService : Bool
  nextAdmission : Word
  /-- High word latched by the last low-word read of P4410. -/
  readHigh : Word
  kernel : List KernelCue
  ramps : List Ramp
  deriving DecidableEq, Repr

/-! ### Twin-mast (chapter 17) -/

/-- Roles of Table 17.1. -/
inductive Role | solo | joining | standby | active
  deriving DecidableEq, Repr

/-- MirrorState codes of Table 17.8. -/
inductive MirrorState | inSync | resynchronising | stale | none
  deriving DecidableEq, Repr

/-- A mirror record (Tables 17.5 and 17.6). -/
structure MirrorRecord where
  kind : Byte
  flags : Byte
  target : Word
  data : List Byte
  deriving DecidableEq, Repr

/-- A mirrored body that the standby has received whole: its digest as BlobEnd gave it, and whether it came as part of a
resynchronisation. -/
structure MirrorBody where
  param : Nat
  resync : Bool
  body : List Byte
  digest : List Byte
  deriving DecidableEq, Repr

/-- Twin-mast state that PD001 does not show. -/
structure Twin where
  /-- Most recent epoch held or received since reset. -/
  lastEpoch : Option (BitVec 7)
  partnerEpoch : BitVec 7
  partnerRole : Role
  partnerMirror : MirrorState
  partnerHeard : Bool
  partnerTime : Byte
  partnerHashIndex : Word
  partnerHash : Word
  /-- Sequence of the last valid pennant on each path, whose copies count once (R362). -/
  pennantSeq : Option Word
  staySeq : Option Word
  /-- Consecutive intervals with a valid pennant while a path is coming back. -/
  pennantRun : Nat
  stayRun : Nat
  /-- Instants of the last valid pennant on each path. -/
  pennantAt : Option Nat
  stayAt : Option Nat
  /-- Sequence of the newest valid pennant of the partner. -/
  partnerSeq : Option Word
  /-- Consecutive intervals in which the partner was heard as Active and ranking above. -/
  dualRun : Nat
  splitCounted : Bool
  sequence : Word
  /-- Sequence of the next record to be made, records sent or waiting and not yet acknowledged, oldest first. -/
  nextRecord : Word
  unacked : List (Word × MirrorRecord)
  /-- How many of `unacked` have been sent at least once. -/
  sent : Nat
  /-- Expected sequence of a standby; none until a ResyncBegin. -/
  expected : Option Word
  /-- Highest sequence received in order. -/
  ack : Word
  /-- Timed and grouped records of a standby that wait for their latch. -/
  waiting : List MirrorRecord
  /-- A role change that waits for the next latch. -/
  roleAtLatch : Option Role
  /-- Frame of a pending hand-over and the sequence of its record. -/
  handOver : Option (Nat × Word)
  /-- A PD000 value that waits for the next latch. -/
  controlPending : Option Word
  /-- Output is held back until the next latch, or stopped by the role. -/
  output : Bool
  /-- Mirrored blob bodies staged on the standby: parameter and bytes received. -/
  staging : SMap (List Byte)
  /-- Bodies closed by their BlobEnd whose hash is not done, and bodies found good that wait for BlobLive or ResyncEnd. -/
  verifying : List MirrorBody
  verified : List MirrorBody
  /-- Parameters whose last committed body did not match. -/
  mismatched : List Nat
  /-- Admission numbers of the cues sent since ResyncBegin. -/
  resent : List Word
  /-- Transfer slots of the active whose commit waits for the standby: 0 sent, 1 sent again, 2 acknowledged while the grid
  has no seed. -/
  blobCommit : List (Nat × Nat)
  /-- Bodies sent to the standby and not yet answered by a BlobAck, oldest first: parameter, and true for a commit's. -/
  bodies : List (Nat × Bool)
  /-- On an active unit a resynchronisation has been sent and not yet shown complete; on a standby one is being received. -/
  resyncing : Bool
  /-- Frame named by the ResyncEnd that waits for its latch. -/
  resyncFrame : Option Nat
  /-- A standby in step is shown as Resynchronising because its time is not Locked and the active's is (R370). -/
  resyncHeld : Bool
  /-- The burst last put on the Pennant link, as it left. -/
  lastBurst : List Byte
  /-- Instant of the last Time record. -/
  timeSent : Option Nat
  /-- Second of the last hash mismatch that was logged. -/
  hashLogged : Option Nat
  deriving DecidableEq, Repr

/-! ### Capstan (chapter 18) -/

/-- Thread states (Table 18.7). -/
inductive ThreadState | free | dormant | ready | slotted | running | waiting
  deriving DecidableEq, Repr

/-- A thread descriptor (Table 18.6) with the order in which the thread was last made ready. -/
structure Thread where
  state : ThreadState
  cancelPending : Bool
  readyAgain : Bool
  user : Bool
  priority : BitVec 5
  affinity : BitVec 4
  flowValid : Bool
  flow : BitVec 6
  event : Byte
  entryPC : Word
  context : Word
  argument : Word
  ticket : Nat
  deriving DecidableEq, Repr

/-- One local block-transfer port (Table 18.11). -/
structure BtPort where
  control : Word
  running : Bool
  /-- The status code shown, and the one that the operation in progress will set as it ends. -/
  status : Byte
  result : Byte
  sram : Word
  length : Word
  dramLow : Word
  dramHigh : Word
  digest : Word
  deriving DecidableEq, Repr

/-- One deck core: its run state, scheduler registers and control and status registers. -/
structure DeckCore where
  /-- Released from reset. -/
  released : Bool
  /-- Executing the wait instruction. -/
  waiting : Bool
  clockStopped : Bool
  user : Bool
  running : Option Nat
  slot : Option Nat
  /-- Priority of the thread that left by Yield and whose successor has not been taken yet. -/
  yielded : Option Nat
  taken : List Word
  irqPending : Word
  irqEnable : Word
  /-- Control and status registers by number (Table 18.2). -/
  csr : SMap Word
  pc : Word
  /-- The high word latched by the last low-word load of a U64 element: parameter, element, word (R14). -/
  latch : Option (Nat × Nat × Word)
  bt : BtPort
  deriving DecidableEq, Repr

/-- One trace entry (Table 18.9). -/
structure TraceEntry where
  sequence : Word
  code : Nat
  core : Nat
  priority : Nat
  thread : Nat
  flowValid : Bool
  flow : Nat
  detail : Word
  tns : T32
  deriving DecidableEq, Repr

/-- Capstan's state. -/
structure Capstan where
  threads : SMap Thread
  nextTicket : Nat
  /-- Flows in service and the thread that holds each. -/
  flows : SMap (Option Nat)
  cores : SMap DeckCore
  semaphores : BitVec 64
  trace : List TraceEntry
  /-- The decisions of the command in progress, before they are entered in code order (R397). -/
  decisions : List TraceEntry
  /-- The boot ROM is still mapped for DC0. -/
  bootRom : Bool
  codeLocked : Bool
  dispatchStopped : Bool
  /-- Applet cue mailbox: action word, tag, frame (R402). -/
  mailbox : List (Wide × Word × Word)
  /-- Bulk receive store: port and frame bytes, oldest first. -/
  bulkStore : List (Nat × List Byte)
  /-- Ports whose bulk queue refused a frame. -/
  bulkRefused : List Nat
  /-- Last bulk sequence sent per port (R399). -/
  bulkSeq : SMap (Option Word)
  /-- The port of the relay in progress or last made (R399). -/
  relayPort : Nat
  deriving DecidableEq, Repr

/-! ### Firmware update and settings (chapter 19) -/

/-- A flash activity that PF300 shows as holder, with what it will program. -/
structure Update where
  /-- Bytes of the image write in progress and its target slot. -/
  image : Option (Fin 2 × List Byte)
  /-- The settings save in progress: target bank and bytes; true when it is an import. -/
  save : Option (Fin 2 × List Byte × Bool)
  /-- The health timer of R410 runs, and the always-on instant at which it ends. -/
  healthTimer : Option Nat
  /-- SettingsFormat of the running image. -/
  format : Half
  deriving DecidableEq, Repr

/-! ### Canvas, Bridle and the colour pipeline (chapters 9 to 11) -/

/-- A commit that waits for its latch (R201, R218): its canvas, its item by the bit number of Table 9.11 (32 for the
projection of the canvas) and the frame it is timed to. -/
structure PendingItem where
  canvas : Nat
  item : Nat
  frame : Option Nat
  deriving DecidableEq, Repr

/-- What the envelope formed for one supply group in one frame (R234 to R239). -/
structure GroupState where
  quiescent : Nat
  demand : Nat
  target : Nat
  scale : Nat
  state : Nat
  starved : Bool
  /-- The modelled dynamic current after scaling. -/
  delivered : Nat
  /-- The frame took the scale from 65,536 to below it. -/
  entered : Bool
  deriving DecidableEq, Repr

/-- The canvas cycle, the element output store and the envelope's history. -/
structure Render where
  /-- Committed values that await their latch, by register key. -/
  committed : SMap Wide
  items : List PendingItem
  /-- The frame whose content was latched last and whose canvas cycle is its own. -/
  frame : Option Nat
  /-- The active phase of that cycle is in progress. -/
  active : Bool
  /-- TNS at the start of the active phase. -/
  started : T32
  /-- The next band no lane has taken. -/
  next : Nat
  /-- The band of each lane, plus one; zero while a lane waits. -/
  lanes : SMap Nat
  finished : List Nat
  /-- Time in ns from the start of the active phase to its last band. -/
  evalTime : Nat
  /-- Lane clocks charged in the cycle, elements out of view, outside their extent, and without a profile. -/
  cost : Nat
  outOfView : Nat
  outside : Nat
  noProfile : Nat
  /-- Pre-envelope emitter values by element; an unlisted element is zero in every emitter. -/
  store : SMap (List Half)
  /-- Elements whose value of the frame before the present one counts as zero (R221, R234). -/
  fresh : List Nat
  /-- ProbeElement as the cycle took it, and the point and side formed for it in this cycle. -/
  probeElement : Nat
  probe : Option (Int × Int × Nat)
  /-- The scale of the last frame formed for each group, by `16 * destination + group`; 65,536 where unlisted. -/
  sigma : SMap Nat
  /-- The table entry under which each scale was formed. -/
  entry : SMap (List Byte)
  group : SMap GroupState
  /-- EnvelopeEnable of the last frame formed. -/
  enabled : Bool
  /-- The area of a replaced element table is still read by the pack pass (R222). -/
  oldArea : Bool
  /-- The live element table is in the upper one of the two table areas (R219). -/
  upperArea : Bool
  deriving DecidableEq, Repr

/-! ### Sheet (chapter 12) -/

/-- The content latched for one frame, kept until its pack pass completes (R246). -/
structure FrameContext where
  frame : Nat
  time : T32
  /-- When its window opens: T(k) less the lead, on the grid that latched it. -/
  opens : T32
  live : SMap Wide
  blobs : SMap (List Byte)
  merged : SMap Merged
  /-- The latch changed P8040 to P8043 (R266). -/
  phaseChanged : Bool
  /-- Destinations whose traffic the latch or the merge changed (R263). -/
  changed : List Nat
  /-- The unit's role gave output to this frame (R358, R372). -/
  output : Bool
  /-- The frame is not presented: discarded by R130, R271 or R308, or latched before an orderly stop. -/
  dropped : Bool
  deriving DecidableEq, Repr

/-- The traffic of one show frame that waits on one port. -/
structure ShowFrame where
  frame : Nat
  close : T32
  frames : List Egress
  /-- Frames of it that have been sent, and the wire time in ns of them and of frames that interleaved. -/
  sent : Nat
  wire : Nat
  deriving DecidableEq, Repr

/-- What a pack pass has formed: traffic by destination (00h to 3Fh ports, 40h to 47h cascade outputs), frame hashes
by destination of R233, and the values handed to Masthead by element offset. -/
structure Packed where
  frame : Nat
  time : T32
  started : T32
  traffic : SMap ShowFrame
  hashes : SMap Word
  masthead : List (Nat × List Nat)
  dropped : Bool
  /-- Frames beyond the 4,096th of each destination. -/
  overflow : SMap Nat
  deriving DecidableEq, Repr

/-- A universe whose stream was terminated by announcements with its partner not heard (R262). -/
structure Resume where
  port : Nat
  univ : Half
  /-- Frame index of the last announcement's sequence, k + 3, and the full time at which it was made. -/
  last : Nat
  instant : Nat
  deriving DecidableEq, Repr

/-- Sheet's state. -/
structure Sheet where
  /-- Latched contents, newest first. -/
  contexts : List FrameContext
  /-- The frame whose canvas cycle has ended and whose window has not opened yet. -/
  closed : Option Nat
  packing : Option Packed
  /-- Destinations changed by evaluation or scale in the frame of the present cycle, and in the closed frame. -/
  changed : List Nat
  changedClosed : List Nat
  resume : List Resume
  /-- Frame index of the last data packet of each universe of each port, by `65536 * port + universe`. -/
  lastSent : SMap (Option Nat)
  /-- PortStatus bits of static ports and counters of unchanged frames, by port. -/
  unchanged : SMap Nat
  /-- T of the last frame sent in full, by port. -/
  reference : SMap T32
  /-- Frames in which each port has sent a data packet and whose synchronisation is still to come, oldest first. -/
  dataFrame : SMap (List Nat)
  /-- The frame last counted late, by destination. -/
  late : SMap (Option Nat)
  /-- The announcements of R41 are being sent, and no show frame. -/
  stopping : Bool
  deriving DecidableEq, Repr

/-! ### Shroud ports (chapter 13) -/

/-- One shroud port's egress queues Q3 to Q0 and its frame on the wire. -/
structure ShroudPort where
  express : List Egress
  time : List Egress
  shows : List ShowFrame
  bulk : List Egress
  sending : Option Egress
  deriving DecidableEq, Repr

/-- An express frame in the course of arriving on a stay port: the ports it is copied to and the copy. -/
structure ExpressCopy where
  ports : List Nat
  taken : Bool
  deriving DecidableEq, Repr

/-- State of the port block that no parameter shows. -/
structure Shroud where
  express : SMap ExpressCopy
  /-- The values captured by a snapshot whose write is in progress. -/
  captured : Option (List Byte)
  /-- Wake patterns: `8 * (8 * port + pattern) + i` holds the control word, four mask words and the CRC for i = 0 to 5. -/
  patterns : SMap Wide
  /-- Ports of a cable test not yet done, the one under test first; an abort has been asked for. -/
  cable : List Nat
  cableAbort : Bool
  deriving DecidableEq, Repr

/-! ### Masthead (chapter 14) -/

/-- A ramp of a pattern engine: the level each channel left, the target, the start and the duration in ns. -/
structure LevelRamp where
  base : SMap Nat
  target : Nat
  start : Nat
  duration : Nat
  deriving DecidableEq, Repr

/-- One pattern engine (R318 to R321). `ended`: it has reached End and keeps its channels. -/
structure Engine where
  running : Bool
  ended : Bool
  fault : Bool
  pc : Nat
  loop : Nat
  levels : SMap Nat
  /-- Full time at which a Ramp, Wait or Sync ends. -/
  wait : Option Nat
  ramp : Option LevelRamp
  deriving DecidableEq, Repr

/-- A frame that awaits its presentation time (R308): 16-bit emitter values by element offset, in element order. -/
structure LampFrame where
  time : T32
  values : List (Nat × List Nat)
  deriving DecidableEq, Repr

/-- Masthead's state that no parameter shows. -/
structure Masthead where
  waiting : List LampFrame
  /-- Element values shown, once a frame has applied; the raster frame shown, once a commit has applied. -/
  elements : Option (List (Nat × List Nat))
  raster : Option Nat
  /-- Settings in force, by register key (R309). -/
  inForce : SMap Wide
  /-- Full time of the last cycle start. -/
  cycle : Option Nat
  /-- Scheduled length in ns and active ticks of the present cycle. -/
  length : Nat
  ticks : Nat
  /-- On-times of the present cycle in ticks, by `48 * row + sink`, and rows that a fault has turned off. -/
  onTime : SMap Nat
  rowsOff : List Nat
  rowFaults : SMap Nat
  /-- Loop correction and derating factor in force from the last cycle start. -/
  gain : SMap Nat
  factor : Nat
  /-- A photodiode burst waits for the next cycle, or is in progress. -/
  burstWaits : Bool
  burst : Bool
  /-- The last four NTC codes, newest first. -/
  ntc : List Nat
  /-- No conversion for 1 s (R314). -/
  stale : Bool
  /-- PA030 NtcTable in force from the last cycle start; none before the first, the default. -/
  table : Option (List Byte)
  /-- DerateFactor resumes from DerateMin after a shutdown (R316). -/
  resuming : Bool
  engines : SMap Engine
  /-- The show-loss engines run because no element frame applied for ShowLossTimeout. -/
  showLost : Bool
  deriving DecidableEq, Repr

/-! ### Trim (chapter 15) -/

/-- A Trim run in progress. -/
structure TrimRun where
  sensor : Bool
  photodiodes : Bool
  sinks : Bool
  automatic : Bool
  /-- PdRange at admission. -/
  range : Nat
  /-- New codes of the first sweep, by `64 * quantity + index`, once it is complete. -/
  first : Option (SMap Nat)
  /-- A code of the first sweep was held at a range limit. -/
  clamped : Bool
  /-- Full time at which the sweep in progress began. -/
  sweepStart : Nat
  deriving DecidableEq, Repr

/-! ### Kite (chapter 16) -/

/-- A hub frame that waits for the air or for its acknowledgement. -/
structure KiteOut where
  dest : Half
  kind : Byte
  tag : T32
  body : List Byte
  seq : Byte
  /-- The KiteMap entry it carries, and the instants from which it may be sent and by which it must end. -/
  entry : Option Nat
  opens : Option T32
  deadline : Option T32
  tries : Nat
  deriving DecidableEq, Repr

/-- Kite's state that no parameter shows. -/
structure Kite where
  queue : List KiteOut
  awaiting : Option KiteOut
  seq : Byte
  /-- Last counter sent under the key of index 1 and 2. -/
  counters : SMap (Option Word)
  /-- Slots last sent for each map entry, and full time of that sending. -/
  sent : SMap (Option (List Byte × Nat))
  /-- The recent-frame cache of R343, newest first: source, sequence number, always-running instant of insertion. -/
  cache : List (Half × Byte × Nat)
  /-- End of the listen window as full time. -/
  listenEnd : Option Nat
  /-- The last frame or acknowledgement that went on air, as octets of its PSDU, and the full time at which it ends. -/
  onAir : List Byte
  airEnd : Nat
  deriving DecidableEq, Repr
/-! ### The whole state -/

/-- A scalar content-affecting write that waits for its latch: register key, value, and the frame it is timed to. -/
structure ContentWrite where
  key : Nat
  value : Wide
  frame : Option Nat
  deriving DecidableEq, Repr

/-- A blob body that waits for its latch. -/
structure BlobWrite where
  param : Nat
  body : List Byte
  slot : Option Nat
  frame : Option Nat
  deriving DecidableEq, Repr

/-- What has happened since the last clock edge, as far as a rule tells apart what meets in one clock. -/
structure ThisClock where
  /-- Order number of the last requester the dictionary arbiter has served in this clock (R91). -/
  rank : Nat
  /-- W1C bits that the device has set: register key and bit (R5). -/
  raised : List (Nat × Nat)
  /-- Counters that have counted: by register key the value before and the increments since (R13). -/
  counted : SMap (Wide × Nat)
  /-- The power record before the first reset of this clock (R57). -/
  beforeReset : Option Power
  /-- Threads cancelled, true where the cancel changed a state (R394). -/
  cancelled : List (Nat × Bool)
  /-- Cores whose slot a cancel has emptied (R394). -/
  emptied : List Nat
  /-- Comparators that have fired (R140). -/
  fired : List Nat
  /-- Comparators whose target has been written (R140). -/
  written : List Nat
  /-- Destinations of Table 6.6 that a firing has driven. -/
  driven : List Nat
  /-- Destinations of Table 6.6 whose own command has come. -/
  told : List Nat
  /-- Admission numbers of cues admitted, which a read in the same clock does not see (R183). -/
  admitted : List Word
  /-- Packets that a leg has delivered first: stream, leg, sequence, and when leg B had last been first before (R160). -/
  first : List (Nat × Nat × Word × Option Nat)
  /-- A Trim run has started (R325). -/
  trimStarted : Bool
  /-- Resources that an activity has released: free for a start from the next clock (R431). -/
  released : List Nat
  /-- Entries that the scheduling trace has taken (R397). -/
  traced : Nat
  /-- Entries that the trouble log's ring has taken (R422). -/
  logged : Nat
  /-- Flows that a slot has put in service (R393). -/
  flowed : List Nat
  /-- The applet has been stopped (R401). -/
  appletStopped : Bool
  /-- Semaphore loads: core and semaphore (R387). -/
  semaphores : List (Nat × Nat)
  /-- What shadow projection values were before they were written, by register key (R218). -/
  shadowed : SMap Wide
  /-- The running slot before the health timer expired (R410). -/
  expired : Option Slot
  deriving DecidableEq, Repr
/-- The state of the block. -/
structure State where
  /-- Commands waiting, first in, first out. -/
  pending : List Instr
  /-- Edges of the 500 MHz time clock since VAO rose, the model's own measure of elapsed time. -/
  clock : Nat
  now : ThisClock
  /-- Phase of the always-on clock, in 1/256 ns since its last edge. -/
  rtcPhase : Nat
  /-- Values taken so far from the free-value supply, the model's own counter. -/
  freeCount : Nat
  /-- Dictionary values as written or shown, by register key; unlisted keys hold the default. -/
  regs : SMap Wide
  /-- Values in force of content-affecting parameters, by register key. -/
  live : SMap Wide
  /-- Content writes that wait for a latch, oldest first. -/
  content : List ContentWrite
  /-- Bodies of STR and BLOB parameters as read back, and as in force, by parameter. -/
  blobs : SMap (List Byte)
  blobWrites : List BlobWrite
  /-- DRAM and firmware SRAM; unlisted bytes read zero, as the wipe of R58 leaves them. -/
  dram : SMap Byte
  sram : SMap Byte
  power : Power
  nv : NonVolatile
  wdp : Wdp
  trouble : Trouble
  halyard : Halyard
  stay : SMap StayPort
  video : SMap Video
  cascadeIn : SMap CascadeIn
  sacn : Sacn
  merged : SMap Merged
  cue : Cue
  twin : Twin
  capstan : Capstan
  update : Update
  render : Render
  sheet : Sheet
  shroud : Shroud
  ports : SMap ShroudPort
  masthead : Masthead
  trim : Option TrimRun
  kite : Kite
  deriving DecidableEq, Repr

/-! ### Values at reset -/

def ThisClock.init : ThisClock :=
  { rank := 0, raised := [], counted := [], beforeReset := none, cancelled := [], emptied := [],
    fired := [], written := [], driven := [], told := [], admitted := [], first := [], trimStarted := false, released := [],
    traced := 0, logged := 0, flowed := [], appletStopped := false, semaphores := [], shadowed := [], expired := none }

def Ring.init : Ring :=
  { selected := none, newest := none, completed := 0, before := none, writing := none, hasSelected := false, cover := [], inUse := false }

def Boot.init : Boot :=
  { sramWiped := false, dramTrained := false, image := none, imageChecked := false, dramWiped := false, handed := false,
    settingsApplied := false, rejected := [], unverified := false }

def Power.init : Power :=
  { phase := .held, sleep := .run, boot := Boot.init, straps := ⟨false, false, false, false⟩, watchdog := .stopped,
    serviced := 0, resetPending := false, deferredCauses := 0, lifeRequest := none, lifeChange := none, wakeLatch := none,
    waking := none, bosunMatch := false, bosunHeld := false, heldTransfer := none, alarm := false }

def Slot.empty : Slot :=
  { generation := 0xFFFFFFFF, written := 0xFFFFFFFF, trial := 0xFFFFFFFF, confirmed := 0xFFFFFFFF, rejected := 0xFFFFFFFF,
    image := [] }

def Bank.empty : Bank := { bytes := [], commit := 0xFFFFFFFF }

/-- The non-volatile contents of a part as first powered: nothing written. -/
def NonVolatile.init : NonVolatile :=
  { fuses := [(false, false), (false, false), (false, false)], keyHash := none, floor := 0, helmKey := none,
    riggerKey := none, yardKey := none, identitySecret := true, slotA := Slot.empty, slotB := Slot.empty,
    bank0 := Bank.empty, bank1 := Bank.empty }

def Requester.kernel : Requester := { path := .window 0 true, session := 0, addr := 0, udp := 0 }

def Session.free : Session :=
  { state := .free, level := 0, bosun := false, addr := 0, udp := 0, hostNonce := 0, deviceNonce := 0, key := [],
    lastTransaction := 0, cached := none }

def Xfer.free : Xfer :=
  { state := .free, param := 0, owner := Requester.kernel, total := 0, digest := [], writing := false, result := none }

def Subscription.free : Subscription :=
  { active := false, mask := 0, addr := 0, udp := 0, mac := 0, port := 0, session := 0, lease := 0, sequence := 0, records := [],
    lost := 0 }

def Wdp.init : Wdp :=
  { sessions := [], xfers := [], subs := [], violations := [], fails := [], lockout := false, malformedLogged := [],
    malformedAnswers := [], bosunResponse := none, answer := ⟨0, []⟩ }

def Trouble.init : Trouble :=
  { ring := [], queue := [], partials := [], exporting := none, trimDeferred := false, scrubDeferred := false,
    scrubStart := none }

def StayPtp.init : StayPtp :=
  { foreign := none, awaiting := none, syncDelta := none, delayReq := none, delaySeq := 0, syncSeq := 0, announceSeq := 0, master := false }

def ShroudPtp.init : ShroudPtp := { syncSeq := 0, announceWait := 0, announceSeq := 0, pdelaySeq := 0, pdelayReq := none, refused := [] }

def Grid.init : Grid :=
  { rate := 9, lead := 2, origin := 0, index := 0, t := 0, r := 0, nextLatch := 0, highest := none, countFrom := 0, spared := 0, freshSeed := false,
    rateChanged := false, queued := [] }

def Halyard.init : Halyard :=
  { acc := 0, integral := ⟨0, 0⟩, pathDelay := none, inLock := 0, grid := Grid.init, stay := [], shroud := [],
    ingress := [], egress := [], heldFirings := [], drives := [], turns := 0, master := none, grandmaster := none }

def StayPort.init : StayPort :=
  { rxHeld := [], priority := [], cascade := [], general := [], sending := none, faultStage := 0, joined := [] }

def Video.init : Video :=
  { highest := none, seenCount := 0, late := 0, held := [], ring := Ring.init, legAFirst := none, legBFirst := none }

def CascadeIn.init : CascadeIn := { lastSeq := none, malformed := 0, unsupported := 0, ring := Ring.init }

def Sacn.init : Sacn := { sources := [], held := [], tracked := [] }

def Merged.init : Merged :=
  { state := .noSource, values := [], topSet := [], topPriority := 0, topChanged := false, sends := false }

def Cue.init : Cue :=
  { assembly := [], queue := [], inService := false, nextAdmission := 0, readHigh := 0, kernel := [], ramps := [] }

def Twin.init : Twin :=
  { lastEpoch := none, partnerEpoch := 0, partnerRole := .solo, partnerMirror := .inSync, partnerHeard := false,
    partnerTime := 0, partnerHashIndex := 0, partnerHash := 0, pennantSeq := none, staySeq := none, pennantRun := 0,
    stayRun := 0, pennantAt := none, stayAt := none, partnerSeq := none, dualRun := 0, splitCounted := false, sequence := 0, nextRecord := 0,
    unacked := [], sent := 0, expected := none, ack := 0, waiting := [], roleAtLatch := none, handOver := none,
    controlPending := none, output := true, staging := [], verifying := [], verified := [], mismatched := [], resent := [],
    blobCommit := [], bodies := [], resyncing := false, resyncFrame := none, resyncHeld := false, lastBurst := [],
    timeSent := none, hashLogged := none }

def Thread.init : Thread :=
  { state := .free, cancelPending := false, readyAgain := false, user := false, priority := 0, affinity := 0xF,
    flowValid := false, flow := 0, event := 0xFF, entryPC := 0, context := 0, argument := 0, ticket := 0 }

def BtPort.init : BtPort :=
  { control := 0, running := false, status := 0, result := 0, sram := 0, length := 0, dramLow := 0, dramHigh := 0, digest := 0 }

def DeckCore.init : DeckCore :=
  { released := false, waiting := false, clockStopped := false, user := false, running := none, slot := none,
    yielded := none, taken := [0, 0, 0], irqPending := 0, irqEnable := 0, csr := [], pc := 0, latch := none, bt := BtPort.init }

def Capstan.init : Capstan :=
  { threads := [], nextTicket := 0, flows := [], cores := [], semaphores := 0, trace := [], decisions := [],
    bootRom := true, codeLocked := false, dispatchStopped := false, mailbox := [], bulkStore := [], bulkRefused := [],
    bulkSeq := [], relayPort := 0 }

def Update.init : Update := { image := none, save := none, healthTimer := none, format := 0 }

def Render.init : Render :=
  { committed := [], items := [], frame := none, active := false, started := 0, next := 0, lanes := [], finished := [], evalTime := 0,
    cost := 0, outOfView := 0, outside := 0, noProfile := 0, store := [], fresh := [], probeElement := 0, probe := none,
    sigma := [], entry := [], group := [], enabled := true, oldArea := false, upperArea := false }

def GroupState.init : GroupState :=
  { quiescent := 0, demand := 0, target := 65536, scale := 65536, state := 0, starved := false, delivered := 0,
    entered := false }

def ShowFrame.init : ShowFrame := { frame := 0, close := 0, frames := [], sent := 0, wire := 0 }

def Sheet.init : Sheet :=
  { contexts := [], closed := none, packing := none, changed := [], changedClosed := [], resume := [], lastSent := [],
    unchanged := [], reference := [], dataFrame := [], late := [], stopping := false }

def ShroudPort.init : ShroudPort := { express := [], time := [], shows := [], bulk := [], sending := none }

def ExpressCopy.init : ExpressCopy := { ports := [], taken := false }

def Shroud.init : Shroud := { express := [], captured := none, patterns := [], cable := [], cableAbort := false }

def Engine.init : Engine :=
  { running := false, ended := false, fault := false, pc := 0, loop := 0, levels := [], wait := none, ramp := none }

def Masthead.init : Masthead :=
  { waiting := [], elements := none, raster := none, inForce := [], cycle := none, length := 0, ticks := 0, onTime := [], rowsOff := [],
    rowFaults := [], gain := [], factor := 32768, burstWaits := false, burst := false, ntc := [], stale := false, table := none, resuming := false, engines := [],
    showLost := false }

def Kite.init : Kite :=
  { queue := [], awaiting := none, seq := 0, counters := [], sent := [], cache := [], listenEnd := none, onAir := [], airEnd := 0 }

/-- The machine right after a power-on reset (R54, R57, R58): every register at its default, P1010 ResetCause at 1h,
the memories wiped, the device held in reset until its release instant, no command waiting. -/
def State.reset : State :=
  { pending := [], clock := 0, now := ThisClock.init, rtcPhase := 0, freeCount := 0, regs := [], live := [], content := [], blobs := [],
    blobWrites := [], dram := [], sram := [], power := Power.init, nv := NonVolatile.init, wdp := Wdp.init,
    trouble := Trouble.init, halyard := Halyard.init, stay := [], video := [], cascadeIn := [], sacn := Sacn.init,
    merged := [], cue := Cue.init, twin := Twin.init, capstan := Capstan.init, update := Update.init,
    render := Render.init, sheet := Sheet.init, shroud := Shroud.init, ports := [], masthead := Masthead.init, trim := none,
    kite := Kite.init }

end Sys2Proof.Machine
end

