-- ==== Sys2Proof/Machine/Ops.lean ====
section
/-! DEFINITION. The named operations on the state that every meaning is written over: reading and writing dictionary
values, fields and bits, the memories, network time, counters, events, trouble-log entries and interrupts. -/
namespace Sys2Proof.Machine

/-! ### Dictionary values -/

/-- The value held for element `e` of parameter `p`. -/
def State.rd (s : State) (p e : Nat) : Wide := SMap.get (Dict.dflt (Dict.key p e)) s.regs (Dict.key p e)

/-- Hold a value for an element. -/
def State.wr (s : State) (p e : Nat) (v : Wide) : State :=
  { s with regs := SMap.set (Dict.dflt (Dict.key p e)) s.regs (Dict.key p e) v }

/-- The value in force of a content-affecting parameter (R19). -/
def State.lv (s : State) (p e : Nat) : Wide := SMap.get (Dict.dflt (Dict.key p e)) s.live (Dict.key p e)

/-- Put a value in force. -/
def State.setLive (s : State) (p e : Nat) (v : Wide) : State :=
  { s with live := SMap.set (Dict.dflt (Dict.key p e)) s.live (Dict.key p e) v }

/-- A held value as a number. -/
def State.rdN (s : State) (p e : Nat) : Nat := (s.rd p e).toNat

/-- A value in force as a number. -/
def State.lvN (s : State) (p e : Nat) : Nat := (s.lv p e).toNat

/-- A held value of a signed type as an integer, at its width. -/
def State.rdI (s : State) (p e width : Nat) : Int := ((s.rd p e).setWidth width).toInt

/-- One bit of a held value. -/
def State.bit (s : State) (p e i : Nat) : Bool := (s.rd p e).getLsbD i

/-- The field of a value that starts at bit `lo` and is `n` bits wide. -/
def field (v : Wide) (lo n : Nat) : Nat := (v.toNat >>> lo) % 2 ^ n

/-- A value with a field replaced. -/
def putField (v : Wide) (lo n x : Nat) : Wide :=
  let m : Wide := BitVec.ofNat 64 ((2 ^ n - 1) <<< lo)
  (v &&& ~~~m) ||| (BitVec.ofNat 64 ((x % 2 ^ n) <<< lo))

/-- A field of a held value. -/
def State.fld (s : State) (p e lo n : Nat) : Nat := field (s.rd p e) lo n

/-- Replace a field of a held value. -/
def State.setFld (s : State) (p e lo n x : Nat) : State := s.wr p e (putField (s.rd p e) lo n x)

/-- Set or clear one bit of a held value. -/
def State.setBit (s : State) (p e i : Nat) (b : Bool) : State := s.setFld p e i 1 b.toNat

/-- The body a STR or BLOB parameter holds from reset (Tables 12.5, 13.11, 14.6 and 18.13): the E1.31 source name
"Zeshair Mainmast", a snapshot of zeros, the default NTC table, an all-zero key hash; every other body is empty. -/
def blobDefault (p : Nat) : List Byte :=
  if p = P.SacnSourceName then
    [0x5A, 0x65, 0x73, 0x68, 0x61, 0x69, 0x72, 0x20, 0x4D, 0x61, 0x69, 0x6E, 0x6D, 0x61, 0x73, 0x74]
  else if p = P.SnapshotData then List.replicate 8720 0
  else if p = P.AppletKeyHash then List.replicate 32 0
  else if p = P.NtcTable then
    (List.range 33).flatMap (fun i => [(Config.ntcTable i).setWidth 8, (Config.ntcTable i >>> 8).setWidth 8])
  else []

/-- The body of a STR or BLOB parameter in force. -/
def State.blob (s : State) (p : Nat) : List Byte := SMap.get (blobDefault p) s.blobs p

/-- Replace the body of a STR or BLOB parameter. -/
def State.setBlob (s : State) (p : Nat) (b : List Byte) : State :=
  { s with blobs := SMap.set (blobDefault p) s.blobs p b }

/-! ### Memories -/

/-- The reserved DRAM region of Table 18.4: reads zero, ignores writes. -/
def dramReserved (a : Nat) : Bool := decide (0x34000000 ≤ a) && decide (a < 0x40000000)

/-- Size of the DRAM (8 GiB). -/
def dramSize : Nat := 0x200000000

/-- One byte of DRAM. -/
def State.dramByte (s : State) (a : Nat) : Byte := if dramReserved a then 0 else SMap.get 0 s.dram a

/-- Write one byte of DRAM; the reserved region and addresses beyond the DRAM take nothing. -/
def State.setDramByte (s : State) (a : Nat) (b : Byte) : State :=
  if dramReserved a || decide (dramSize ≤ a) then s else { s with dram := SMap.set 0 s.dram a b }

/-- Write bytes of DRAM at rising addresses. -/
def State.setDram (s : State) : Nat → List Byte → State
  | _, [] => s
  | a, b :: bs => State.setDram (s.setDramByte a b) (a + 1) bs

/-- Read `n` bytes of DRAM. -/
def State.getDram (s : State) (a : Nat) : Nat → List Byte
  | 0 => []
  | n + 1 => s.dramByte a :: State.getDram s (a + 1) n

/-- First address and size of firmware SRAM (Table 18.3). -/
def sramBase : Nat := 0x10000000
def sramSize : Nat := 0x800000

/-- One byte of firmware SRAM. -/
def State.sramByte (s : State) (a : Nat) : Byte := SMap.get 0 s.sram a

/-- Write bytes of firmware SRAM at rising addresses; addresses outside it take nothing. -/
def State.setSram (s : State) : Nat → List Byte → State
  | _, [] => s
  | a, b :: bs =>
    State.setSram
      (if decide (sramBase ≤ a) && decide (a < sramBase + sramSize) then { s with sram := SMap.set 0 s.sram a b } else s)
      (a + 1) bs

/-- Read `n` bytes of firmware SRAM. -/
def State.getSram (s : State) (a : Nat) : Nat → List Byte
  | 0 => []
  | n + 1 => s.sramByte a :: State.getSram s (a + 1) n

/-! ### Instances of repeated blocks -/

def State.session (s : State) (n : Nat) : Session := SMap.get Session.free s.wdp.sessions n
def State.setSession (s : State) (n : Nat) (x : Session) : State :=
  { s with wdp := { s.wdp with sessions := SMap.set Session.free s.wdp.sessions n x } }
def State.xfer (s : State) (n : Nat) : Xfer := SMap.get Xfer.free s.wdp.xfers n
def State.setXfer (s : State) (n : Nat) (x : Xfer) : State :=
  { s with wdp := { s.wdp with xfers := SMap.set Xfer.free s.wdp.xfers n x } }
def State.sub (s : State) (n : Nat) : Subscription := SMap.get Subscription.free s.wdp.subs n
def State.setSub (s : State) (n : Nat) (x : Subscription) : State :=
  { s with wdp := { s.wdp with subs := SMap.set Subscription.free s.wdp.subs n x } }
def State.core (s : State) (c : Nat) : DeckCore := SMap.get DeckCore.init s.capstan.cores c
def State.setCore (s : State) (c : Nat) (x : DeckCore) : State :=
  { s with capstan := { s.capstan with cores := SMap.set DeckCore.init s.capstan.cores c x } }
def State.thread (s : State) (n : Nat) : Thread := SMap.get Thread.init s.capstan.threads n
def State.setThread (s : State) (n : Nat) (x : Thread) : State :=
  { s with capstan := { s.capstan with threads := SMap.set Thread.init s.capstan.threads n x } }
def State.stayPort (s : State) (n : Nat) : StayPort := SMap.get StayPort.init s.stay n
def State.setStayPort (s : State) (n : Nat) (x : StayPort) : State :=
  { s with stay := SMap.set StayPort.init s.stay n x }
def State.vid (s : State) (n : Nat) : Video := SMap.get Video.init s.video n
def State.setVid (s : State) (n : Nat) (x : Video) : State := { s with video := SMap.set Video.init s.video n x }
def State.casc (s : State) (n : Nat) : CascadeIn := SMap.get CascadeIn.init s.cascadeIn n
def State.setCasc (s : State) (n : Nat) (x : CascadeIn) : State :=
  { s with cascadeIn := SMap.set CascadeIn.init s.cascadeIn n x }
def State.mergedAt (s : State) (n : Nat) : Merged := SMap.get Merged.init s.merged n
def State.setMerged (s : State) (n : Nat) (x : Merged) : State :=
  { s with merged := SMap.set Merged.init s.merged n x }
def State.stayPtp (s : State) (n : Nat) : StayPtp := SMap.get StayPtp.init s.halyard.stay n
def State.setStayPtp (s : State) (n : Nat) (x : StayPtp) : State :=
  { s with halyard := { s.halyard with stay := SMap.set StayPtp.init s.halyard.stay n x } }
def State.shroudPtp (s : State) (n : Nat) : ShroudPtp := SMap.get ShroudPtp.init s.halyard.shroud n
def State.setShroudPtp (s : State) (n : Nat) (x : ShroudPtp) : State :=
  { s with halyard := { s.halyard with shroud := SMap.set ShroudPtp.init s.halyard.shroud n x } }
def State.setGrid (s : State) (g : Grid) : State := { s with halyard := { s.halyard with grid := g } }
def State.answer (s : State) (status : Byte) (data : List Byte) : State :=
  { s with wdp := { s.wdp with answer := ⟨status, data⟩ } }

/-- Take one value from the free-value supply. -/
def State.free (s : State) : Wide × State := (Config.freeWord s.freeCount, { s with freeCount := s.freeCount + 1 })

/-! ### Network time (R117 to R119) -/

/-- TNS. -/
def State.tns (s : State) : T32 := s.halyard.acc.extractLsb' 40 32

/-- The 8-bit fraction of TNS. -/
def State.tnsFrac (s : State) : Byte := s.halyard.acc.extractLsb' 32 8

/-- Give TNS and its fraction new values, the lower fraction bits cleared. -/
def State.setTns (s : State) (t : T32) (f : Byte) : State :=
  { s with halyard := { s.halyard with acc := (t ++ f) ++ (0 : BitVec 32) } }

/-- Full time of a T32 value under R119's correction: `H * 2^32 + t`, with H one higher while a wrap is unserviced and
the value lies in the lower half. -/
def State.fullOf (s : State) (t : T32) : Nat :=
  let h := s.rdN P.WrapCount 0
  let h := if s.bit P.TimeStatus 0 0 && decide (t.toNat < 0x80000000) then h + 1 else h
  h * 0x100000000 + t.toNat

/-- Full time at the present TNS. -/
def State.fullTime (s : State) : Nat := s.fullOf s.tns

/-- Low 32 bits of the extended seconds at the present TNS (R421). -/
def State.seconds (s : State) : Word := BitVec.ofNat 32 (s.fullTime / 1000000000)

/-! ### Counters, events and the trouble log (R11 to R13, R107 to R109, R420 to R425) -/

/-- Parameter and element as an argument ("PE" of R426). -/
def peArg (p e : Nat) : Word := BitVec.ofNat 32 (p * 65536 + (e % 256) * 256)

/-- The Source of the block whose parameters lie in the area of `p` (Table 20.2). -/
def areaSource (p : Nat) : Nat := 0x10 + p / 4096

/-- The largest value of an error or event counter. -/
def counterMax : Wide := 0xFFFFFFFF

/-- A counter counts in this clock: what it held before, and the increments since, which a clear of this clock leaves
(R13). -/
def State.tally (s : State) (p e n : Nat) : State :=
  let key := Dict.key p e
  let x := match SMap.find s.now.counted key with
    | some x => x
    | none => (s.rd p e, 0)
  { s with now := { s.now with counted := SMap.insert s.now.counted key (x.1, x.2 + n) } }

/-- The increments of a counter in this clock. -/
def State.tallied (s : State) (p e : Nat) : Nat := match SMap.find s.now.counted (Dict.key p e) with
  | some x => x.2
  | none => 0

/-- What a counter held before the increments of this clock: what a snapshot of this clock takes (R13). -/
def State.untallied (s : State) (p e : Nat) : Wide := match SMap.find s.now.counted (Dict.key p e) with
  | some x => x.1
  | none => s.rd p e

/-- The device sets a W1C bit: a write of 1 in the same clock does not clear it (R5). -/
def State.raise (s : State) (p e i : Nat) : State :=
  let s := s.setBit p e i true
  if s.now.raised.contains (Dict.key p e, i) then s
  else { s with now := { s.now with raised := (Dict.key p e, i) :: s.now.raised } }

/-- The bits of an element that the device has set in this clock. -/
def State.raisedBits (s : State) (p e : Nat) : Wide :=
  BitVec.ofNat 64 ((List.range 64).foldl
    (fun n i => n + (s.now.raised.contains (Dict.key p e, i)).toNat * 2 ^ i) 0)

/-- Add to an error or event counter, which sticks at its largest value; true when this addition saturates it. -/
def State.bump (s : State) (p e n : Nat) : State × Bool :=
  let v := s.rdN p e
  let s := s.tally p e n
  if v ≥ 0xFFFFFFFF then (s, false)
  else if v + n ≥ 0xFFFFFFFF then (s.wr p e counterMax, true)
  else (s.wr p e (BitVec.ofNat 64 (v + n)), false)

/-- Offer an event record to one subscription; true when it does not fit and is lost. -/
def Subscription.offer (x : Subscription) (r : EventRecord) : Subscription × Bool :=
  if x.active && x.mask.getLsbD r.cls then
    if x.records.length < 32 then ({ x with records := x.records ++ [r] }, false)
    else ({ x with lost := x.lost + 1 }, true)
  else (x, false)

/-- Offer an event record to every subscription; the number that lost it. -/
def State.offerAll (s : State) (r : EventRecord) : List Nat → State × Nat
  | [] => (s, 0)
  | n :: ns =>
    let (x, lost) := (s.sub n).offer r
    let (s, k) := State.offerAll (s.setSub n x) r ns
    (s, k + lost.toNat)

/-- Set an event class pending and offer its record (R107, R109); true when P0063 saturates by the records lost. -/
def State.notify (s : State) (cls p e : Nat) (arg : Word) : State × Bool :=
  let s := s.raise P.EventPending 0 cls
  let r : EventRecord := { cls := cls, elem := e, param := p, tns := s.tns, seconds := s.seconds, arg := arg }
  let (s, lost) := s.offerAll r (List.range 8)
  if lost = 0 then (s, false) else s.bump P.EventLostCount 0 lost

/-- Give an entry to the log writer (R422): it joins the input queue, or is dropped and counted when 256 wait; true when
PF202 saturates by it. -/
def State.enqueue (s : State) (source code aux : Nat) (arg0 arg1 : Word) : State × Bool :=
  if s.trouble.queue.length ≥ 256 then s.bump P.TroubleDropCount 0 1
  else
    let entry : TroubleEntry :=
      { tns := s.tns, seconds := s.seconds, sequence := 0, source := BitVec.ofNat 8 source, aux := BitVec.ofNat 8 aux,
        code := BitVec.ofNat 16 code, arg0 := arg0, arg1 := arg1 }
    ({ s with trouble := { s.trouble with queue := s.trouble.queue ++ [entry] } }, false)

/-- What the saturation of counters adds, each once: one log entry and the Saturated event (R12). These may themselves
saturate P0063 and PF202, which then do the same; no more than three counters can follow one from another. -/
def State.saturateAll : Nat → State → List (Nat × Nat) → State
  | 0, s, _ => s
  | _, s, [] => s
  | n + 1, s, (p, e) :: rest =>
    let (s, dropped) := s.enqueue (areaSource p) 0x0001 0 (peArg p e) 0
    let (s, lost) := s.notify 1 p e 0
    State.saturateAll n s (rest ++ (if dropped then [(P.TroubleDropCount, 0)] else []) ++
      (if lost then [(P.EventLostCount, 0)] else []))

/-- A counter has saturated. -/
def State.saturated (s : State) (p e : Nat) : State := State.saturateAll 3 s [(p, e)]

/-- Give an entry to the log writer. -/
def State.log (s : State) (source code aux : Nat) (arg0 arg1 : Word) : State :=
  let (s, sat) := s.enqueue source code aux arg0 arg1
  if sat then s.saturated P.TroubleDropCount 0 else s

/-- Raise an event of a class (Table 5.9) about an element, with an argument. -/
def State.event (s : State) (cls p e : Nat) (arg : Word) : State :=
  let (s, sat) := s.notify cls p e arg
  if sat then s.saturated P.EventLostCount 0 else s

/-- Add `n` to an error or event counter (R11, R12). -/
def State.countBy (s : State) (p e n : Nat) : State :=
  let (s, sat) := s.bump p e n
  if sat then s.saturated p e else s

/-- Add one to an error or event counter. -/
def State.count (s : State) (p e : Nat) : State := s.countBy p e 1

/-- Add `n` to a 64-bit traffic counter, which wraps (R11). -/
def State.traffic (s : State) (p e n : Nat) : State := (s.tally p e n).wr p e (s.rd p e + BitVec.ofNat 64 n)

/-- Event classes of Table 5.9. -/
abbrev Ev.timeState : Nat := 0
abbrev Ev.twinRole : Nat := 2
abbrev Ev.powerState : Nat := 3
abbrev Ev.maintenance : Nat := 4
abbrev Ev.blockDone : Nat := 5
abbrev Ev.envelope : Nat := 6
abbrev Ev.lateOrUnderrun : Nat := 7
abbrev Ev.trimFlagged : Nat := 8
abbrev Ev.thermal : Nat := 9
abbrev Ev.lockout : Nat := 10
abbrev Ev.lifeCycle : Nat := 11

/-- Insert into the order in which the log writer takes entries of one clock: Source, then Code (R422). -/
def insertEntry (x : TroubleEntry) : List TroubleEntry → List TroubleEntry
  | [] => [x]
  | y :: ys =>
    if x.source.toNat * 65536 + x.code.toNat < y.source.toNat * 65536 + y.code.toNat then x :: y :: ys
    else y :: insertEntry x ys

/-- Entries of one clock in writing order; entries that compare equal keep their order of arrival. -/
def sortEntries (l : List TroubleEntry) : List TroubleEntry := l.foldl (fun acc x => insertEntry x acc) []

/-- Write one entry into the ring (R420); true when the overwrite counter saturates by it. -/
def State.enterEntry (s : State) (x : TroubleEntry) : State × Bool :=
  let i := s.rd P.TroubleIndex 0
  let full := decide (4096 ≤ s.trouble.ring.length)
  let s := { s with trouble := { s.trouble with ring := ({ x with sequence := i.setWidth 32 } :: s.trouble.ring).take 4096 } }
  let s := s.wr P.TroubleIndex 0 ((i + 1) &&& 0xFFFFFFFF)
  if full then s.bump P.TroubleOverwriteCount 0 1 else (s, false)

/-- The entry of a counter that saturates while the writer works, entered after `x`. -/
def TroubleEntry.saturation (x : TroubleEntry) (p : Nat) : TroubleEntry :=
  { x with source := BitVec.ofNat 8 (areaSource p), code := 1, aux := 0, arg0 := peArg p 0, arg1 := 0 }

/-- Write one entry, and the saturation entry that R420 describes when PF201 saturates; its event may saturate P0063. -/
def State.enterEntryAll (s : State) (x : TroubleEntry) : State :=
  let (s, sat) := s.enterEntry x
  if sat then
    let (s, lost) := (s.enterEntry (x.saturation P.TroubleOverwriteCount)).1.notify 1 P.TroubleOverwriteCount 0 0
    if lost then
      ((s.enterEntry (x.saturation P.EventLostCount)).1.notify 1 P.EventLostCount 0 0).1
    else s
  else s

/-- Take back the entries that the ring has taken in this clock: oldest first, and the state without them. -/
def State.recallEntries (s : State) : List TroubleEntry × State :=
  let n := s.now.logged
  let s' := { s with trouble := { s.trouble with ring := s.trouble.ring.drop n } }
  ((s.trouble.ring.take n).reverse,
   s'.wr P.TroubleIndex 0 ((s.rd P.TroubleIndex 0 - BitVec.ofNat 64 n) &&& 0xFFFFFFFF))

/-- Write entries of this clock into the ring, and count them. -/
def State.enterEntries (s : State) (q : List TroubleEntry) : State :=
  let t := q.foldl State.enterEntryAll s
  { t with now := { t.now with logged := ((t.rd P.TroubleIndex 0 - s.rd P.TroubleIndex 0) &&& 0xFFFFFFFF).toNat } }

/-- The ring takes what the log writer has: with those that earlier commands of the same clock have given it, the
entries stand in R422's order. -/
def State.takeEntries (s : State) (q : List TroubleEntry) : State :=
  if q.isEmpty then s else s.recallEntries.2.enterEntries (sortEntries (s.recallEntries.1 ++ q))

/-- The log writer empties its queue. -/
def State.drainLog (s : State) : State :=
  ({ s with trouble := { s.trouble with queue := [] } } : State).takeEntries s.trouble.queue

/-! ### The scheduling trace (R396, R397) -/

/-- Record a scheduling decision of this clock. -/
def State.decision (s : State) (code core thread : Nat) (detail : Word) : State :=
  let t := s.thread thread
  let d : TraceEntry :=
    { sequence := 0, code := code, core := core, priority := t.priority.toNat, thread := thread, flowValid := t.flowValid,
      flow := t.flow.toNat, detail := detail, tns := s.tns }
  { s with capstan := { s.capstan with decisions := s.capstan.decisions ++ [d] } }

/-- Insert into the order in which decisions of one clock are entered: code, then thread (R397). -/
def insertDecision (x : TraceEntry) : List TraceEntry → List TraceEntry
  | [] => [x]
  | y :: ys => if x.code * 256 + x.thread < y.code * 256 + y.thread then x :: y :: ys else y :: insertDecision x ys

/-- Enter one decision in the trace, unless Freeze is set. -/
def State.enterDecision (s : State) (x : TraceEntry) : State :=
  if s.bit P.TraceControl 0 1 then s
  else
    let i := s.rd P.TraceIndex 0
    let s := { s with capstan := { s.capstan with trace := ({ x with sequence := i.setWidth 32 } :: s.capstan.trace).take 4096 } }
    s.wr P.TraceIndex 0 ((i + 1) &&& 0xFFFFFFFF)

/-- Take back the entries that the trace has taken in this clock: oldest first, and the state without them. -/
def State.recallDecisions (s : State) : List TraceEntry × State :=
  let n := s.now.traced
  let s' := { s with capstan := { s.capstan with trace := s.capstan.trace.drop n } }
  ((s.capstan.trace.take n).reverse,
   s'.wr P.TraceIndex 0 ((s.rd P.TraceIndex 0 - BitVec.ofNat 64 n) &&& 0xFFFFFFFF))

/-- Enter the decisions of a command: with those that earlier commands of the same clock have entered, they stand in
R397's order. -/
def State.enterDecisions (s : State) (d : List TraceEntry) : State :=
  if d.isEmpty || s.bit P.TraceControl 0 1 then s
  else
    let q := (s.recallDecisions.1 ++ d).foldl (fun acc x => insertDecision x acc) []
    let s := s.recallDecisions.2
    q.foldl State.enterDecision { s with now := { s.now with traced := q.length } }

/-- The trace takes what the command has decided. -/
def State.drainTrace (s : State) : State :=
  ({ s with capstan := { s.capstan with decisions := [] } } : State).enterDecisions s.capstan.decisions

/-- The end of every command: the log writer and the trace take what the command gave them. -/
def State.settle (s : State) : State := s.drainTrace.drainLog

/-- Every meaning ends here: the command's next state, settled. -/
def done (s : State) : Host.Outcome State Fault Refusal := .next s.settle

/-! ### Interrupts to the deck cores (Table 18.5, R71) -/

/-- Interrupt bits of InterruptPending. -/
abbrev Irq.preempt : Nat := 0
abbrev Irq.slotWake : Nat := 1
abbrev Irq.wrap : Nat := 2
abbrev Irq.bulk : Nat := 3

/-- Restart the four deck-core clocks after Luff (R71). -/
def State.leaveLuff (s : State) : State :=
  if s.power.sleep = .luff then
    let s := { s with power := { s.power with sleep := .run } }
    (List.range 4).foldl (fun s c => s.setCore c { s.core c with clockStopped := false }) s
  else s

/-- Raise an interrupt to a core. It ends the core's wait when it is enabled, or when a slot has been filled. -/
def State.raiseIrq (s : State) (c bit : Nat) : State :=
  let k := s.core c
  let m : Word := BitVec.ofNat 32 (2 ^ bit)
  let wakes := decide (k.irqEnable &&& m ≠ 0) || decide (bit = Irq.slotWake)
  let s := s.setCore c { k with irqPending := k.irqPending ||| m, waiting := k.waiting && !wakes }
  s.leaveLuff

/-! ### Which cores run (R70, R74), and the pins' column (Table 2.10) -/

/-- A deck core executes instructions: released, its clock running, and the device in Run. From the wait instruction that
begins an entry until Run is reached again DC0 waits and DC1 to DC3 are halted (Table 4.3). -/
def State.coreRuns (s : State) (c : Nat) : Bool :=
  (s.core c).released && !(s.core c).clockStopped && (s.power.phase == .boot || s.power.phase == .ready) &&
    s.power.sleep == .run

/-- What an instruction of core `c` does; nothing while the core does not run. -/
def State.byCore (s : State) (c : Nat) (act : State → State) : State := if s.coreRuns c then act s else s

/-- The columns of Table 2.10. -/
inductive PinColumn | unpowered | reset | run | reefed | furled | struck
  deriving DecidableEq, Repr

/-- The column of Table 2.10 that holds. Retired and Recovery are held as for reset but for Bosun (R61, R68); an entry is
still Run, and a wake still the state it leaves. -/
def State.pinColumn (s : State) : PinColumn :=
  match s.power.phase with
  | .unpowered => .unpowered
  | .struck => .struck
  | .ready =>
    match s.power.sleep with
    | .reefed | .waking false => .reefed
    | .furled | .waking true => .furled
    | _ => .run
  | _ => .reset

/-! ### Levels and life cycle (R60, R65) -/

/-- The life-cycle state the fuses record: the furthest state of which either fuse is blown (R65). -/
def fusedState : List (Bool × Bool) → Nat
  | fs =>
    let blown := fun i => match fs[i]? with
      | some (a, b) => a || b
      | none => false
    if blown 2 then 3 else if blown 1 then 2 else if blown 0 then 1 else 0

/-- P0020 LifeCycleState: 0 Open, 1 Sealed, 2 Deployed, 3 Retired. -/
def State.lifeCycle (s : State) : Nat := fusedState s.nv.fuses

/-- The highest access level of the life-cycle state (Table 3.7). -/
def State.topLevel (s : State) : Nat :=
  match s.lifeCycle with
  | 0 => 3
  | 1 | 2 => 2
  | _ => 0

/-- Role of the unit (PD001 bits 25:24). -/
def State.role (s : State) : Role :=
  match s.fld P.TwinStatus 0 24 2 with
  | 0 => .solo
  | 1 => .joining
  | 2 => .standby
  | _ => .active

/-- The unit decides for itself or for its pair (Active or Solo, Table 17.2). -/
def State.commands (s : State) : Bool := s.role == .active || s.role == .solo

/-- The device serves its functions: ready, and not in a sleep state. -/
def State.serving (s : State) : Bool := decide (s.power.phase = .ready)

/-! ### Byte order (R4) -/

/-- The low `n` bytes of a number, least significant first. -/
def leBytes : Nat → Nat → List Byte
  | 0, _ => []
  | n + 1, v => BitVec.ofNat 8 v :: leBytes n (v / 256)

/-- The low `n` bytes of a number, most significant first. -/
def beBytes (n v : Nat) : List Byte := (leBytes n v).reverse

/-- A number from bytes, least significant first. -/
def leNat : List Byte → Nat
  | [] => 0
  | b :: bs => b.toNat + 256 * leNat bs

/-- A number from bytes, most significant first. -/
def beNat (bs : List Byte) : Nat := leNat bs.reverse

/-- `n` bytes of a list from an offset; bytes beyond its end are absent. -/
def sliceBytes (bs : List Byte) (off n : Nat) : List Byte := (bs.drop off).take n

end Sys2Proof.Machine
end

