-- ==== Sys2Proof/Machine/Arbiter.lean ====
section
/-! DEFINITION. The maintenance arbiter (R429 to R431): who holds the measurement ADC, the flash and the DRAM scrub
engine, as PF300 MaintenanceStatus shows it. -/
namespace Sys2Proof.Machine

/-- The resources, by the lowest bit of their field in PF300 (Table 20.8). -/
abbrev Res.adc : Nat := 0
abbrev Res.flash : Nat := 3
abbrev Res.scrub : Nat := 6

/-- Holder codes of Table 20.8. -/
abbrev Hold.trim : Nat := 1
abbrev Hold.cable : Nat := 2
abbrev Hold.image : Nat := 1
abbrev Hold.save : Nat := 2
abbrev Hold.importing : Nat := 3
abbrev Hold.scrub : Nat := 1
abbrev Hold.exporting : Nat := 2

/-- The holder of a resource; 0 while it is free. -/
def State.holder (s : State) (r : Nat) : Nat := s.fld P.MaintenanceStatus 0 r 3

/-- A resource is free for a start: nothing holds it, and it was not released in this clock (R431). -/
def State.resourceFree (s : State) (r : Nat) : Bool := s.holder r == 0 && !s.now.released.contains r

/-- A start finds the resource taken: not free, or a deferred automatic activity goes ahead of it (R430). -/
def State.taken (s : State) (r : Nat) : Bool :=
  !s.resourceFree r || (r == Res.adc && s.trouble.trimDeferred) || (r == Res.scrub && s.trouble.scrubDeferred)

/-- Admit an activity to a free resource. -/
def State.hold (s : State) (r code : Nat) : State := s.setFld P.MaintenanceStatus 0 r 3 code

/-- A start that finds its resource held: refused with Busy and counted, nothing else (R430). -/
def State.refuseStart (s : State) : State := s.count P.ArbiterBusyCount 0

/-- An activity ends: its resource is free, and Maintenance is set (R431). -/
def State.release (s : State) (r : Nat) : State :=
  let code := s.holder r
  let s := { s with now := { s.now with released := r :: s.now.released } }
  (s.setFld P.MaintenanceStatus 0 r 3 0).event Ev.maintenance P.MaintenanceStatus 0 (BitVec.ofNat 32 (code * 2 ^ r))

end Sys2Proof.Machine
end

