-- ==== Sys2Proof/Machine/Capstan.lean ====
section
/-! DEFINITION. Capstan, the hardware thread scheduler (R387 to R397): ready lists, eligibility, slots, pre-emption,
flows, cancels and events, and the commands that reach it. -/
namespace Sys2Proof.Machine

/-! ### Choosing the next thread (R390 to R393) -/

/-- Threads that are Ready or Slotted: the ones a slot may hold. -/
def State.candidates (s : State) : List (Nat × Thread) :=
  s.capstan.threads.filter (fun x => x.2.state == .ready || x.2.state == .slotted)

/-- `a` was made Ready before `b`: in an earlier clock, or in the same one with the lower number (R390, R393). -/
def readiedBefore (a b : Nat × Thread) : Bool :=
  decide (a.2.ticket < b.2.ticket) || (a.2.ticket == b.2.ticket && decide (a.1 < b.1))

/-- R393: a thread is not held back by its flow. -/
def State.flowAllows (s : State) (n : Nat) (t : Thread) : Bool :=
  if !t.flowValid then true
  else
    match SMap.get none s.capstan.flows t.flow.toNat with
    | some h => h == n
    | none => s.candidates.all (fun x => !(x.2.flowValid && x.2.flow == t.flow) || !readiedBefore x (n, t))

/-- `a` is served before `b`: higher priority, then made ready first (R390). -/
def servedBefore (a b : Nat × Thread) : Bool :=
  decide (b.2.priority < a.2.priority) || (a.2.priority == b.2.priority && readiedBefore a b)

/-- The best of a list of threads that may run on core `c`. -/
def bestFor (c : Nat) : List (Nat × Thread) → Option (Nat × Thread)
  | [] => none
  | x :: xs =>
    match bestFor c xs with
    | none => if x.2.affinity.getLsbD c then some x else none
    | some y => if x.2.affinity.getLsbD c && servedBefore x y then some x else some y

/-- The first of two cores a thread goes to when it is best for both: an idle one, else the one whose Running thread
has the lower priority, else the lower number (R391). The list is in ascending core number. -/
def State.preferCore (s : State) : List Nat → Option Nat
  | [] => none
  | c :: cs =>
    match State.preferCore s cs with
    | none => some c
    | some d =>
      match (s.core c).running, (s.core d).running with
      | none, _ => some c
      | some _, none => some d
      | some r, some q => if (s.thread q).priority < (s.thread r).priority then some d else some c

/-- The assignment of threads to slots: each round settles the best thread of all and removes its core and its flow. -/
def State.assignSlots (s : State) : Nat → List Nat → List (Nat × Thread) → List (Nat × Nat)
  | 0, _, _ => []
  | fuel + 1, cores, pool =>
    let bests := cores.filterMap (fun c => (bestFor c pool).map (fun x => (c, x)))
    let top := bests.foldl (fun (acc : Option (Nat × Thread)) x =>
      match acc with
      | none => some x.2
      | some y => if servedBefore x.2 y then some x.2 else some y) none
    match top with
    | none => []
    | some (n, t) =>
      match s.preferCore ((bests.filter (fun x => x.2.1 == n)).map (·.1)) with
      | none => []
      | some c =>
        let pool := pool.filter (fun x => x.1 != n && !(t.flowValid && x.2.flowValid && x.2.flow == t.flow))
        (c, n) :: State.assignSlots s fuel (cores.filter (· != c)) pool

/-- Put a flow in service for a thread, or release it. -/
def State.setFlow (s : State) (f : Nat) (h : Option Nat) : State :=
  { s with capstan := { s.capstan with flows := SMap.set none s.capstan.flows f h } }

/-- The flow a thread holds is released. -/
def State.releaseFlow (s : State) (n : Nat) : State :=
  let t := s.thread n
  if t.flowValid && SMap.get none s.capstan.flows t.flow.toNat == some n then s.setFlow t.flow.toNat none else s

/-- A slotted thread's flow is in service. -/
def State.enterFlow (s : State) (n : Nat) : State :=
  let t := s.thread n
  if t.flowValid && SMap.get none s.capstan.flows t.flow.toNat != some n then
    { s.setFlow t.flow.toNat (some n) with now := { s.now with flowed := t.flow.toNat :: s.now.flowed } }
  else s

/-- Flows that slots have put in service in this clock are chosen anew with what else the clock makes Ready (R393). -/
def State.reopenFlows (s : State) : State :=
  s.now.flowed.foldl (fun s f =>
    match SMap.get none s.capstan.flows f with
    | some n => if (s.thread n).state = .slotted then s.setFlow f none else s
    | none => s) { s with now := { s.now with flowed := [] } }

/-- Take a thread out of a slot it no longer holds; it returns to its list with its original place. -/
def State.unslot (s : State) (c : Nat) (want : Option Nat) : State :=
  match (s.core c).slot with
  | none => s
  | some m =>
    if want = some m then s
    else
      let t := s.thread m
      let s := s.setCore c { s.core c with slot := none }
      if t.state = .slotted then (s.setThread m { t with state := .ready }).decision 4 c m 0 else s

/-- Place a thread in a core's slot (R391). -/
def State.slotIn (s : State) (c : Nat) (want : Option Nat) : State :=
  match want with
  | none => s
  | some n =>
    let s :=
      if (s.core c).slot = some n then s
      else
        let t := s.thread n
        let s := s.setThread n { t with state := .slotted }
        (s.setCore c { s.core c with slot := some n }).decision 5 c n 0
    let s := s.enterFlow n
    if (s.core c).running.isNone then s.raiseIrq c Irq.slotWake else s

/-- R392: pre-empt a Running thread by a better one in the slot. -/
def State.preemptCheck (s : State) (c : Nat) : State :=
  match (s.core c).slot, (s.core c).running with
  | some n, some r =>
    let p := (s.thread n).priority
    if (s.thread r).priority < p && decide (s.rdN P.PreemptFloor 0 ≤ p.toNat) &&
        !((s.core c).irqPending.getLsbD Irq.preempt) then
      ((s.decision 10 c n (BitVec.ofNat 32 r)).traffic P.PreemptCount c 1).raiseIrq c Irq.preempt
    else s
  | _, _ => s

/-- Bring every slot to its best thread (R391), after any change to the lists, the slots or a Running thread. -/
def State.place (s : State) : State :=
  if s.capstan.dispatchStopped then s
  else
    let s := s.reopenFlows
    let pool := s.candidates.filter (fun x => s.flowAllows x.1 x.2)
    let cores := (List.range 4).filter (fun c => (s.core c).released)
    let plan := s.assignSlots 4 cores pool
    let want := fun c => (plan.find? (fun x => x.1 == c)).map (·.2)
    let s := (List.range 4).foldl (fun s c => s.unslot c (want c)) s
    let s := (List.range 4).foldl (fun s c => s.slotIn c (want c)) s
    (List.range 4).foldl (fun s c => s.preemptCheck c) s

/-! ### Ready, event and cancel (R389, R394) -/

/-- A cancel of this clock: of which thread, and whether it changed a state. -/
def State.noteCancel (s : State) (n : Nat) (changed : Bool) : State :=
  { s with now := { s.now with cancelled := (n, changed) :: s.now.cancelled } }

/-- The slot of a core is emptied by a cancel of this clock. -/
def State.emptySlot (s : State) (c : Nat) : State :=
  { s.setCore c { s.core c with slot := none } with now := { s.now with emptied := c :: s.now.emptied } }

/-- Move a thread to the tail of its ready list; the ticket is that of the clock. -/
def State.toReady (s : State) (n : Nat) : State :=
  (s.setThread n { s.thread n with state := .ready, ticket := s.capstan.nextTicket }).leaveLuff

/-- Make a thread ready under R389, without bringing the slots up to date. A cancel of the same clock leaves it Dormant
(R394). -/
def State.makeReady (s : State) (n : Nat) (source : Word) : State :=
  let t := s.thread n
  match t.state with
  | .dormant | .waiting =>
    match s.now.cancelled.find? (fun x => x.1 == n) with
    | none => (s.toReady n).decision 1 0 n source
    | some (_, changed) =>
      let s := s.decision 1 0 n source
      if changed then s else ((s.count P.CancelCount 0).decision 3 0 n 0).noteCancel n true
  | .ready | .slotted => (s.count P.MergeCount 0).decision 2 0 n 0
  | .running => if t.cancelPending then s else s.setThread n { t with readyAgain := true }
  | .free => s

/-- An event readies every thread bound to it that is Dormant or Waiting, in ascending number (R389). -/
def State.fireEvent (s : State) (code : Byte) (source : Word) : State :=
  let bound := s.capstan.threads.filter
    (fun x => x.2.event == code && (x.2.state == .dormant || x.2.state == .waiting))
  (bound.foldl (fun s x => s.makeReady x.1 source) s).place

/-- The Detail of a Ready decision made by an event (Table 18.9). -/
def eventSource (code : Byte) : Word := if code < 0x10 then 0x10 + code.setWidth 32 else code.setWidth 32

/-- Cancel a thread under R394, without bringing the slots up to date. -/
def State.cancelThread (s : State) (n : Nat) : State :=
  let t := s.thread n
  match t.state with
  | .ready | .waiting =>
    let s := (s.releaseFlow n).setThread n { t with state := .dormant }
    ((s.count P.CancelCount 0).decision 3 0 n 0).noteCancel n true
  | .slotted =>
    let s := (s.releaseFlow n).setThread n { t with state := .dormant }
    let s := (List.range 4).foldl
      (fun s c => if (s.core c).slot = some n then s.emptySlot c else s) s
    ((s.count P.CancelCount 0).decision 3 0 n 0).noteCancel n true
  | .running =>
    if t.cancelPending then s
    else ((s.setThread n { t with cancelPending := true }).count P.CancelCount 0).decision 3 0 n 0
  | .dormant => s.noteCancel n false
  | .free => s

/-- A Running thread leaves Running with a cancel pending: it becomes Dormant (R394). -/
def State.endCancelled (s : State) (n : Nat) : State :=
  (s.releaseFlow n).setThread n { s.thread n with state := .dormant, cancelPending := false, readyAgain := false }

/-- Yield: Running to Ready at the tail of its list, its flow kept. -/
def State.yieldCore (s : State) (c : Nat) : State :=
  match (s.core c).running with
  | none => s
  | some n =>
    let t := s.thread n
    let s := s.decision 7 c n 0
    let s := s.setCore c { s.core c with running := none, user := false, yielded := some t.priority.toNat }
    if t.cancelPending then s.endCancelled n else s.toReady n

/-! ### The commands -/

/-- SCHED_READY: a store of `n` to Ready. -/
def execSchedReady (core : Fin 4) (thread : Byte) (s : State) : Host.Outcome State Fault Refusal :=
  done (s.byCore core fun s => (s.makeReady thread.toNat (BitVec.ofNat 32 core)).place)

/-- CAPSTAN_EVENT: an event fires. -/
def execCapstanEvent (code : Byte) (s : State) : Host.Outcome State Fault Refusal :=
  done (s.fireEvent code (eventSource code))

/-- SCHED_CANCEL: a store of `n` to Cancel. -/
def execSchedCancel (core : Fin 4) (thread : Byte) (s : State) : Host.Outcome State Fault Refusal :=
  done (s.byCore core fun s => (s.cancelThread thread.toNat).place)

/-- The lowest Free thread below 224. -/
def State.lowestFree (s : State) : Nat → Nat → Option Nat
  | 0, _ => none
  | k + 1, n => if (s.thread n).state = .free then some n else State.lowestFree s k (n + 1)

/-- A load of Alloc: the lowest Free thread, now Dormant. -/
def State.allocThread (s : State) : State :=
  match s.lowestFree 224 0 with
  | some n => (s.setThread n { s.thread n with state := .dormant }).answer 0 (leBytes 4 n)
  | none => s.answer 0 (leBytes 4 0xFFFFFFFF)

/-- SCHED_ALLOC: a load of Alloc. -/
def execSchedAlloc (core : Fin 4) (s : State) : Host.Outcome State Fault Refusal := done (s.byCore core State.allocThread)

/-- A store to Free: a Dormant thread becomes Free. -/
def State.freeThread (s : State) (n : Nat) : State :=
  if (s.thread n).state = .dormant then s.setThread n { s.thread n with state := .free } else s

/-- SCHED_FREE: a store of `n` to Free. -/
def execSchedFree (core : Fin 4) (thread : Byte) (s : State) : Host.Outcome State Fault Refusal :=
  done (s.byCore core fun s => s.freeThread thread.toNat)

/-- SCHED_NEXT: a load of Next takes the slotted thread. A thread still Running on the core leaves it as by Yield. The
kernel goes on into the thread, in the mode its descriptor gives. A slot that a cancel of the same clock has emptied is
empty for this load (R394). -/
def State.takeNext (s : State) (c : Nat) : State :=
  match (if s.capstan.dispatchStopped || s.now.emptied.contains c then none else (s.core c).slot) with
  | none => s.answer 0 (leBytes 4 0xFFFFFFFF)
  | some n =>
    let s := s.yieldCore c
    let t := s.thread n
    let k := s.core c
    let prev : Word := match k.yielded with
      | some p => BitVec.ofNat 32 p
      | none => 0xFF
    let s := s.setThread n { t with state := .running }
    let s := { s with now := { s.now with flowed := s.now.flowed.filter (· != t.flow.toNat) } }
    let s := s.setCore c { k with running := some n, slot := none, yielded := none, user := t.user,
                                  taken := [t.entryPC, t.context, t.argument],
                                  irqPending := k.irqPending &&& ~~~(1 : Word) }
    let s := (s.decision 6 c n prev).traffic P.DispatchCount c 1
    (s.answer 0 (leBytes 4 n)).place

def execSchedNext (core : Fin 4) (s : State) : Host.Outcome State Fault Refusal :=
  done (s.byCore core fun s => s.takeNext core)

/-- SCHED_YIELD. -/
def execSchedYield (core : Fin 4) (s : State) : Host.Outcome State Fault Refusal :=
  done (s.byCore core fun s => (s.yieldCore core).place)

/-- SCHED_DONE: the end of the activation. -/
def State.doneCore (s : State) (c : Nat) : State :=
  match (s.core c).running with
  | none => s
  | some n =>
    let t := s.thread n
    let s := s.decision 9 c n 0
    let s := s.setCore c { s.core c with running := none, user := false, yielded := none }
    let s := s.releaseFlow n
    if t.cancelPending then s.endCancelled n
    else if t.readyAgain then (s.setThread n { t with readyAgain := false }).toReady n
    else s.setThread n { t with state := .dormant }

def execSchedDone (core : Fin 4) (s : State) : Host.Outcome State Fault Refusal :=
  done (s.byCore core fun s => (s.doneCore core).place)

/-- SCHED_WAIT: the Running thread binds to an event; a ready that came while it ran does not end the wait. -/
def State.waitCore (s : State) (c : Nat) (event : Byte) : State :=
  match (s.core c).running with
  | none => s
  | some n =>
    let t := s.thread n
    let s := s.decision 8 c n 0
    let s := s.setCore c { s.core c with running := none, user := false, yielded := none }
    if t.cancelPending then s.endCancelled n
    else s.setThread n { t with state := .waiting, event := event }

def execSchedWait (core : Fin 4) (event : Byte) (s : State) : Host.Outcome State Fault Refusal :=
  done (s.byCore core fun s => (s.waitCore core event).place)

/-- A store to word 0 of a descriptor: the priority at once (R388), the other fields as their own rule allows. -/
def State.storeWord0 (s : State) (n : Nat) (v : Word) : State :=
  let t := s.thread n
  let editable := t.state == .free || t.state == .dormant
  let p : BitVec 5 := v.extractLsb' 19 5
  let t1 := if editable then
      { t with user := v.getLsbD 26, affinity := v.extractLsb' 15 4, flowValid := v.getLsbD 14, flow := v.extractLsb' 8 6 }
    else t
  let moved := p != t.priority
  let t2 := { t1 with event := v.extractLsb' 0 8, priority := p }
  if moved && t.state == .ready then (s.setThread n t2).toReady n
  else if moved && t.state == .slotted then
    let s := (List.range 4).foldl
      (fun s c => if (s.core c).slot = some n then
          (s.setCore c { s.core c with slot := none }).decision 4 c n 0 else s) s
    s.setThread n { t2 with state := .ready }
  else s.setThread n t2

/-- A store to words 1 to 3 of a descriptor (EntryPC, Context, Argument). -/
def State.storeWordN (s : State) (n w : Nat) (v : Word) : State :=
  let t := s.thread n
  if t.state = .free ∨ t.state = .dormant then
    s.setThread n (match w with
      | 1 => { t with entryPC := v }
      | 2 => { t with context := v }
      | _ => { t with argument := v })
  else s

/-- THREAD_PRIORITY_WRITE: a store to a thread descriptor. -/
def execThreadPriorityWrite (core : Fin 4) (thread : Byte) (word : Fin 4) (value : Word) (s : State) :
    Host.Outcome State Fault Refusal :=
  done (s.byCore core fun s =>
    if word = 0 then (s.storeWord0 thread.toNat value).place else s.storeWordN thread.toNat word value)

/-- Loads of one semaphore in one clock come in core order; one that comes after a higher core's belongs to a later clock
(R387). -/
def State.noteLoad (s : State) (core n : Nat) : State :=
  let now := if s.now.semaphores.any (fun x => decide (core < x.1) && x.2 == n) then ThisClock.init else s.now
  { s with now := { now with semaphores := (core, n) :: now.semaphores } }

/-- A load of a semaphore: 0 where it was free, and it is taken; 1 where it was taken. -/
def State.takeSemaphore (s : State) (n : Fin 64) : State :=
  let held := s.capstan.semaphores.getLsbD n
  ({ s with capstan := { s.capstan with semaphores := s.capstan.semaphores ||| BitVec.ofNat 64 (2 ^ n.val) } }).answer 0
    (leBytes 4 held.toNat)

/-- A store of 0 to a semaphore releases it. -/
def State.releaseSemaphore (s : State) (n : Fin 64) : State :=
  { s with capstan := { s.capstan with semaphores := s.capstan.semaphores &&& ~~~(BitVec.ofNat 64 (2 ^ n.val)) } }

/-- SEMAPHORE_TAKE (R387). -/
def execSemaphoreTake (core : Fin 4) (semaphore : Fin 64) (s : State) : Host.Outcome State Fault Refusal :=
  done (s.byCore core fun s => (s.noteLoad core semaphore).takeSemaphore semaphore)

/-- SEMAPHORE_RELEASE: a store of 0 (R387). -/
def execSemaphoreRelease (core : Fin 4) (semaphore : Fin 64) (s : State) : Host.Outcome State Fault Refusal :=
  done (s.byCore core fun s => s.releaseSemaphore semaphore)

/-! ### Traps (R380 to R385) -/

/-- CSR numbers of Table 18.2 that a trap reads or writes. -/
abbrev Csr.mstatus : Nat := 0x300
abbrev Csr.mie : Nat := 0x304
abbrev Csr.mtvec : Nat := 0x305
abbrev Csr.mepc : Nat := 0x341
abbrev Csr.mcause : Nat := 0x342
abbrev Csr.mtval : Nat := 0x343

/-- A control and status register of a core. -/
def DeckCore.rdCsr (k : DeckCore) (n : Nat) : Word := SMap.get 0 k.csr n
def DeckCore.wrCsr (k : DeckCore) (n : Nat) (v : Word) : DeckCore := { k with csr := SMap.set 0 k.csr n v }

/-- mstatus on a trap: MPIE takes MIE, MIE clears, MPP takes the mode. -/
def trapStatus (m : Word) (user : Bool) : Word :=
  let mie : Word := (m >>> 3) &&& 1
  let base := m &&& ~~~(0x1888 : Word)
  base ||| (mie <<< 7) ||| (if user then 0 else 0x1800)

/-- Trap entry to machine mode, as the RISC-V privileged architecture gives the registers of Table 18.2. -/
def DeckCore.trap (k : DeckCore) (cause value pc : Word) : DeckCore :=
  let k1 := k.wrCsr Csr.mepc pc
  let k2 := k1.wrCsr Csr.mcause cause
  let k3 := k2.wrCsr Csr.mtval value
  let k4 := k3.wrCsr Csr.mstatus (trapStatus (k.rdCsr Csr.mstatus) k.user)
  { k4 with user := false, waiting := false, pc := k.rdCsr Csr.mtvec &&& ~~~(3 : Word) }

/-- The applet's threads are cancelled (R385, R401). -/
def State.cancelApplet (s : State) : State :=
  ((List.range 32).foldl (fun s i => s.cancelThread (224 + i)) s).place

/-- TRAP: an access fault, illegal instruction or misaligned access of a core in user or machine mode, and what the kernel
does on it (R385). -/
def State.takeTrap (s : State) (c : Nat) (user : Bool) (cause value pc : Word) : State :=
  let s := s.setCore c ({ s.core c with user := user }.trap cause value pc)
  let s := if s.bit P.TraceControl 0 0 then s.setBit P.TraceControl 0 1 true else s
  if user then
    let s := s.cancelApplet
    let s := s.wr P.AppletState 0 4
    let s := (s.wr P.AppletFaultInfo 0 (cause.setWidth 64)).wr P.AppletFaultInfo 1 (pc.setWidth 64)
    (s.count P.AppletFaultCount 0).log 0x1E 0x0061 c cause pc
  else (s.count P.AccessFaultCount c).log 0x1E 0x0060 c cause pc

def execTrap (core : Fin 4) (cause value pc : Word) (s : State) : Host.Outcome State Fault Refusal :=
  done (s.byCore core fun s => s.takeTrap core (s.core core).user cause value pc)

/-- ENVIRONMENT_CALL: ECALL traps to the kernel's service entry; mcause is 8 from user mode and 11 from machine mode
(RISC-V privileged architecture). -/
def execEnvironmentCall (core : Fin 4) (pc : Word) (s : State) : Host.Outcome State Fault Refusal :=
  done (s.byCore core fun s => s.setCore core ((s.core core).trap (if (s.core core).user then 8 else 11) 0 pc))

/-! ### Protection regions (R384) -/

/-- Kinds of access, by the bit of pmpcfg that grants each. -/
abbrev Grant.read : Nat := 0
abbrev Grant.write : Nat := 1
abbrev Grant.execute : Nat := 2

/-- Numbers of pmpcfg0 and pmpaddr0 (Table 18.2). -/
abbrev Csr.pmpcfg : Nat := 0x3A0
abbrev Csr.pmpaddr : Nat := 0x3B0

/-- The configuration byte of region `i`: bits 2:0 execute, write, read; 4:3 mode; 7 lock (RISC-V privileged
architecture). -/
def DeckCore.pmpCfg (k : DeckCore) (i : Nat) : Nat := (k.rdCsr (Csr.pmpcfg + i / 4)).toNat / 2 ^ (8 * (i % 4)) % 256

/-- The address a pmpaddr register names, as a boundary of the 4 KiB granularity. -/
def DeckCore.pmpBound (k : DeckCore) (i : Nat) : Nat := (k.rdCsr (Csr.pmpaddr + i)).toNat / 1024 * 4096

/-- How many low bits of a NAPOT address are ones, of those the register holds. -/
def trailingOnes (v : Nat) : Nat → Nat
  | 0 => 0
  | fuel + 1 => if v % 2 = 1 then 1 + trailingOnes (v / 2) fuel else 0

/-- First address and end of region `i`: TOR from the bound below it, NAPOT by the ones of its address, at least 4 KiB; off
in any other mode. -/
def DeckCore.pmpRegion (k : DeckCore) (i : Nat) : Option (Nat × Nat) :=
  match k.pmpCfg i / 8 % 4 with
  | 1 => some (if i = 0 then 0 else k.pmpBound (i - 1), k.pmpBound i)
  | 3 =>
    let a := (k.rdCsr (Csr.pmpaddr + i)).toNat
    let size := 2 ^ (trailingOnes (a ||| 511) 32 + 3)
    some (a * 4 / size * size, a * 4 / size * size + size)
  | _ => none

/-- The first region that covers an address. -/
def DeckCore.pmpMatch (k : DeckCore) (a : Nat) : Option Nat :=
  (List.range 16).find? fun i => match k.pmpRegion i with
    | some (lo, hi) => decide (lo ≤ a) && decide (a < hi)
    | none => false

/-- An access is allowed: in user mode where the first region that covers it grants it; in machine mode unless that region
is locked and does not. -/
def DeckCore.allows (k : DeckCore) (user : Bool) (a kind : Nat) : Bool :=
  match k.pmpMatch a with
  | none => !user
  | some i => (k.pmpCfg i).testBit kind || (!user && !(k.pmpCfg i).testBit 7)

end Sys2Proof.Machine
end

