-- ==== Sys2Proof/Machine/Halyard.lean ====
section
/-! DEFINITION. Halyard (chapter 6): exact fractions, the time counter and its ticks, the show frame grid's arithmetic,
the servo and the step, the stamp queues, and the selection of a master. -/
namespace Sys2Proof

/-! ### Exact binary fractions -/

def Dyad.ofInt (n : Int) : Dyad := ⟨n, 0⟩
/-- The numerator over a larger exponent. -/
def Dyad.at (x : Dyad) (e : Nat) : Int := x.num * 2 ^ (e - x.exp)
def Dyad.add (x y : Dyad) : Dyad := let e := max x.exp y.exp; ⟨x.at e + y.at e, e⟩
def Dyad.neg (x : Dyad) : Dyad := ⟨-x.num, x.exp⟩
def Dyad.sub (x y : Dyad) : Dyad := x.add y.neg
def Dyad.mul (x y : Dyad) : Dyad := ⟨x.num * y.num, x.exp + y.exp⟩
/-- Divide by `2 ^ n`. -/
def Dyad.shr (x : Dyad) (n : Nat) : Dyad := ⟨x.num, x.exp + n⟩
def Dyad.le (x y : Dyad) : Bool := let e := max x.exp y.exp; decide (x.at e ≤ y.at e)
def Dyad.abs (x : Dyad) : Dyad := ⟨(x.num.natAbs : Int), x.exp⟩
/-- The largest integer not above the fraction. -/
def Dyad.floor (x : Dyad) : Int := x.num / (2 ^ x.exp : Int)
def Dyad.isInt (x : Dyad) : Bool := decide (x.num % (2 ^ x.exp : Int) = 0)

/-- A fraction as a register in whole units shows it: itself when whole, else one of its neighbours, which the spec
leaves open. -/
def Dyad.shown (key : Nat) (x : Dyad) : Int :=
  if x.isInt then x.floor else x.floor + (Config.roundsUp key x.num x.exp).toNat

/-- A dataset is better than another in the order of the best-master comparison of IEEE 1588. -/
def Dataset.better (a b : Dataset) : Bool :=
  let x := [a.priority1.toNat, a.clockClass.toNat, a.accuracy.toNat, a.variance.toNat, a.priority2.toNat,
            a.identity.toNat, a.steps.toNat]
  let y := [b.priority1.toNat, b.clockClass.toNat, b.accuracy.toNat, b.variance.toNat, b.priority2.toNat,
            b.identity.toNat, b.steps.toNat]
  decide (x < y)

end Sys2Proof

namespace Sys2Proof.Machine

/-- An integer held within a signed 32-bit register's range, two's complement (P2042). -/
def clampS32 (x : Int) : Int := if x > 2147483647 then 2147483647 else if x < -2147483647 then -2147483647 else x

/-- A signed value as a 64-bit dictionary value of its width, zero-extended. -/
def ofIntW (w : Nat) (x : Int) : Wide := (BitVec.ofInt w x).setWidth 64

/-! ### The time counter (R117) -/

/-- The time clock runs: the device has left reset and is not in Furled or Struck. -/
def State.timeRuns (s : State) : Bool :=
  (s.power.phase == .boot || s.power.phase == .ready || s.power.phase == .recovery) &&
    !(s.power.sleep == .furled || s.power.sleep == .waking true)

/-- The always-on clock counts: VAO is present and the device is not in Struck (R84). -/
def State.rtcRuns (s : State) : Bool := !(s.power.phase == .unpowered || s.power.phase == .struck)

/-- One always-on period is 30,517 ns and 148/256 ns: 7,812,500 units of 1/256 ns (R83). -/
def rtcPeriod : Nat := 7812500

/-- Let `n` time-clock periods (2 ns each) pass on the always-on clock. -/
def State.rtcAdvance (s : State) (n : Nat) : State :=
  let x := s.rtcPhase + n * 512
  let s := { s with rtcPhase := x % rtcPeriod }
  if s.rtcRuns then s.wr P.RtcCount 0 (BitVec.ofNat 64 ((s.rdN P.RtcCount 0 + x / rtcPeriod) % 2 ^ 48)) else s

/-- R119: WrapPending and the wrap interrupt to DC0. -/
def State.wrapEvent (s : State) : State := (s.raise P.TimeStatus 0 0).raiseIrq 0 Irq.wrap

/-- Let `n` edges of the time clock pass: the counter adds P2040 on each. The caller gives an `n` that spans at most one
wrap. -/
def State.advance (s : State) (n : Nat) : State :=
  let s := { s with clock := s.clock + n, now := ThisClock.init }
  let s := { s with capstan := { s.capstan with nextTicket := s.capstan.nextTicket + n } }
  let s := s.rtcAdvance n
  if s.timeRuns then
    let total := s.halyard.acc.toNat + n * s.rdN P.TickIncrement 0
    let s := { s with halyard := { s.halyard with acc := BitVec.ofNat 72 total } }
    if total ≥ 2 ^ 72 then { s with halyard := { s.halyard with turns := s.halyard.turns + 1 } }.wrapEvent else s
  else s

/-- The counter with its wraps, in 2^-40 ns and in whole ns. -/
def State.counter40 (s : State) : Int := s.halyard.turns * 2 ^ 72 + (s.halyard.acc.toNat : Int)
def State.counter (s : State) : Int := s.counter40 / (2 ^ 40 : Int)
def State.setCounter40 (s : State) (x : Int) : State :=
  { s with halyard := { s.halyard with acc := BitVec.ofInt 72 x, turns := x / (2 ^ 72 : Int) } }

/-- One edge of the time clock. -/
def State.tick (s : State) : State := s.advance 1

/-! ### Time state (R120) -/

/-- P2002 codes. -/
abbrev Ts.unset : Nat := 0
abbrev Ts.locking : Nat := 1
abbrev Ts.locked : Nat := 2
abbrev Ts.holdover : Nat := 3
abbrev Ts.local : Nat := 4

def State.timeState (s : State) : Nat := s.rdN P.TimeState 0

/-- Sheet and Masthead discard, uncounted, every frame latched so far (R21, R271, R308). What a frame shows is still
evaluated and hashed (R243), and a frame that has begun to leave a port is completed. -/
def State.discardShow (s : State) : State :=
  { s with sheet := { s.sheet with contexts := s.sheet.contexts.map (fun c => { c with dropped := true })
                                   packing := s.sheet.packing.map (fun x => { x with dropped := true }) }
           ports := s.ports.map (fun (x : Nat × ShroudPort) => (x.1, { x.2 with shows := [] }))
           stay := s.stay.map (fun (x : Nat × StayPort) => (x.1, { x.2 with cascade := [] }))
           masthead := { s.masthead with waiting := [] }
           halyard := { s.halyard with grid := { s.halyard.grid with queued := [] } } }

/-- R370: a standby in step whose time is not Locked while its active's is Locked shows Resynchronising, until both are. -/
def State.holdMirror (s : State) : State :=
  let waits := s.rdN P.TimeState 0 != Ts.locked && s.twin.partnerTime.toNat == Ts.locked
  if s.role != .standby then s
  else if waits && s.fld P.TwinStatus 0 16 2 == 0 then
    (({ s with twin := { s.twin with resyncHeld := true } } : State)).setFld P.TwinStatus 0 16 2 1
  else if !waits && s.twin.resyncHeld then
    (({ s with twin := { s.twin with resyncHeld := false } } : State)).setFld P.TwinStatus 0 16 2 0
  else s

/-- Change the time state; each change sets the TimeState event (R120). -/
def State.setTimeState (s : State) (n : Nat) : State :=
  if s.timeState = n then s
  else
    let s := if n = Ts.unset then s.discardShow else s
    ((s.wr P.TimeState 0 (BitVec.ofNat 64 n)).event Ev.timeState P.TimeState 0 (BitVec.ofNat 32 n)).holdMirror

/-- Forget a pending step count. -/
def State.cancelStep (s : State) : State := (s.setBit P.TimeStatus 0 3 false).setFld P.TimeStatus 0 4 2 0

/-- The lock count starts again. -/
def State.setInLock (s : State) (n : Nat) : State := { s with halyard := { s.halyard with inLock := n } }

/-- The change of state on a write to P2003, P2020 or P2021 (Table 6.1, first row): Unset, or Local, with nothing kept
of the master that was followed. -/
def State.restartTime (s : State) : State :=
  let s := s.cancelStep.setInLock 0
  let s := { s with halyard := { s.halyard with pathDelay := none, master := none, grandmaster := none, stay := [] } }
  let s := s.wr P.SlavePort 0 0xFF
  s.setTimeState (if s.rdN P.TimeSource 0 = 1 then Ts.local else Ts.unset)

/-! ### The show frame grid (R125 to R129) -/

/-- Period numerator `a` in ns of a rate code (Table 6.2). -/
def rateA (code : Nat) : Nat :=
  if code = 0 ∨ code = 3 ∨ code = 5 ∨ code = 8 ∨ code = 0x0D ∨ code = 0x11 then 1001000000 else 1000000000

/-- Period denominator `n` of a rate code (Table 6.2). -/
def rateN (code : Nat) : Nat :=
  [24, 24, 25, 30, 30, 48, 48, 50, 60, 60, 72, 96, 100, 120, 120, 144, 200, 240, 240].getD code 60

/-- Full time of boundary `k` (R126). -/
def boundary (code : Nat) (k : Nat) : Nat := k * rateA code / rateN code

/-- T(k) of the grid in force. -/
def State.frameTime (s : State) (k : Nat) : T32 := BitVec.ofNat 32 (boundary s.halyard.grid.rate k)

/-- The blank duration `b` in ns (R189). -/
def State.blank (s : State) : Nat :=
  rateA s.halyard.grid.rate * s.lvN P.BlankPermille 0 / (1000 * rateN s.halyard.grid.rate)

/-- L(k) of R18 as a T32 value: the boundary of frame `k - λ - 1`, less the blank. -/
def State.latchTime (s : State) (k : Nat) : T32 :=
  BitVec.ofInt 32 ((boundary s.halyard.grid.rate (k - s.halyard.grid.lead - 1) : Int) - (s.blank : Int))

/-- λ·F + F + b in ns (R130), with a number of further whole frames. -/
def State.waitNs (s : State) (frames : Nat) : Nat :=
  boundary s.halyard.grid.rate (s.halyard.grid.lead + 1 + frames) + s.blank

/-- Run or Luff, or an entry that has not passed abort point 1 (Table 4.3). -/
def State.beforePoint1 (s : State) : Bool :=
  match s.power.sleep with
  | .run | .luff => true
  | .entering _ ap => ap == 0
  | _ => false

/-- The grid has a valid seed. -/
def State.seeded (s : State) : Bool := s.bit P.TimeStatus 0 1

/-- StepDone is set (R124). -/
def State.stepDone (s : State) : Bool := s.bit P.TimeStatus 0 2

/-- The grid latches frames: seeded, not Unset, no step unserviced, and before abort point 1 of any entry. -/
def State.latches (s : State) : Bool :=
  s.seeded && !s.stepDone && s.timeState != Ts.unset && s.power.phase == .ready && s.beforePoint1

/-- The frame that latches now: the next one, or the first after it whose successor's latch still lies ahead. -/
def State.latchIndex (s : State) : Nat → Nat → Nat
  | 0, k => k
  | fuel + 1, k => if due (s.latchTime (k + 1)) s.tns then State.latchIndex s fuel (k + 1) else k

/-- R19: in the clock of L(k) and after it a change belongs to frame `k + 1`, though the latch has not acted yet; none where
no latch instant has come. -/
def State.nextChange (s : State) : Option Nat :=
  let k := s.halyard.grid.nextLatch
  if s.latches && due (s.latchTime k) s.tns then some (s.latchIndex 4096 k + 1) else none

/-- The first index whose boundary lies at or after a full time in ns. -/
def indexFrom (code : Nat) (x : Int) : Nat := ((x * (rateN code : Int) + (rateA code : Int) - 1) / (rateA code : Int)).toNat

/-- The first index whose latch instant lies at or after the present, by the full time of the grid in force. -/
def State.firstAhead (s : State) : Nat :=
  indexFrom s.halyard.grid.rate (s.counter + s.halyard.grid.origin + (s.blank : Int)) + s.halyard.grid.lead + 1

/-- The next frame to latch after a seed or a wake (R128): at or above `k`, above the highest latched, its latch at or
after the present. -/
def State.chooseNext (s : State) (k : Nat) : Nat :=
  max s.firstAhead (match s.halyard.grid.highest with
    | some h => max k (h + 1)
    | none => k)

/-- How many indices below a seeded one are passed over with their latch still ahead, above the highest latched. -/
def State.sparedBelow (s : State) (k : Nat) : Nat :=
  match s.halyard.grid.highest with
  | none => 0
  | some h => k - min k (max (h + 1) s.firstAhead)

/-- Apply the seed in P2053 (R127 to R129): the rate and lead written since take effect with it. -/
def State.applySeed (s : State) : State :=
  let k := s.rdN P.GridSeed 1 * 0x100000000 + s.rdN P.GridSeed 0
  let g := s.halyard.grid
  let highest := if g.rateChanged then none else g.highest
  let g := { g with rate := s.rdN P.ShowFrameRate 0, lead := s.rdN P.Lead 0, index := k,
                    t := (s.rd P.GridSeed 2).setWidth 32, r := s.rdN P.GridSeed 3, highest := highest,
                    countFrom := if g.rateChanged then 0 else g.countFrom, rateChanged := false, freshSeed := true }
  let s := s.setGrid g
  let s := s.setLive P.ShowFrameRate 0 (s.rd P.ShowFrameRate 0)
  let s := s.setLive P.BlankPermille 0 (s.rd P.BlankPermille 0)
  let s := s.setGrid { s.halyard.grid with
    origin := (boundary g.rate k : Int) + (s.tns - s.frameTime k).toInt - s.counter }
  let s := s.setGrid { s.halyard.grid with nextLatch := s.chooseNext k, spared := s.sparedBelow k }
  let s := s.wr P.NextBoundary 0 (g.t.setWidth 64)
  s.setBit P.TimeStatus 0 1 true

/-- GRID_BOUNDARY (R126): the generator advances; frames whose T has come are presented and leave the queue. -/
def State.gridAdvance (s : State) : State :=
  let g := s.halyard.grid
  let a := rateA g.rate
  let n := rateN g.rate
  let r := g.r + a % n
  let t : T32 := g.t + BitVec.ofNat 32 (a / n)
  let (t, r) := if r ≥ n then (t + 1, r - n) else (t, r)
  let s := s.setGrid { g with t := t, r := r, index := g.index + 1,
                              queued := g.queued.filter (fun q => future q.time g.t) }
  s.wr P.NextBoundary 0 (t.setWidth 64)

/-! ### Triggers (R138 to R141) -/

def State.trigMode (s : State) (n : Nat) : Nat := s.fld P.TriggerControl n 2 2
def State.trigEnabled (s : State) (n : Nat) : Bool := s.bit P.TriggerControl n 0

/-- A firing of a comparator is held. -/
def State.holdFiring (s : State) (n : Nat) : State :=
  { s with halyard := { s.halyard with heldFirings := SMap.set 0 s.halyard.heldFirings n (SMap.get 0 s.halyard.heldFirings n + 1) } }

/-- TNS has jumped forward: a one-shot or periodic comparator whose target has passed fires once, and the firing is held; a
periodic one advances by whole periods to the first value in the future. Across a step it counts the periods passed over
(R141); R82 and R83 count none for a sleep. -/
def State.catchUp (s : State) (step : Bool) (n : Nat) : State :=
  let m := s.trigMode n
  if s.trigEnabled n && (m == 1 || m == 2) && s.bit P.TriggerControl n 1 then
    let target : T32 := (s.rd P.TriggerTarget n).setWidth 32
    if due target s.tns then
      let s := s.holdFiring n
      if m = 2 then
        let period := s.rdN P.TriggerPeriod n
        let behind := (s.tns - target).toNat
        let steps := behind / period + 1
        let s := s.wr P.TriggerTarget n ((target + BitVec.ofNat 32 (steps * period)).setWidth 64)
        if step then s.countBy P.TriggerMissCount n (steps - 1) else s
      else s
    else s
  else s

/-! ### Steering (R122) -/

/-- 2^41 held within ±1,500 ppm, rounded: `2^41 * (1 + y * 10^-9)` for the correction `y` in ppb. -/
def tickFor (y : Dyad) : Int :=
  -- numerator over 10^9 * 2^exp
  let den : Int := 1000000000 * 2 ^ y.exp
  let x : Int := 2 ^ 41 * (den + y.num)
  let q : Int := x / den
  let r : Int := x % den
  let up : Bool := decide (den < 2 * r) || (decide (2 * r = den) && Config.roundsUp (Dict.key P.TickIncrement 0) y.num y.exp)
  let v := if up then q + 1 else q
  let lim : Int := 3298534883
  if v > 2 ^ 41 + lim then 2 ^ 41 + lim else if v < 2 ^ 41 - lim then 2 ^ 41 - lim else v

/-- P2040 and P2041 for a correction of the local rate (R122). -/
def State.steer (s : State) (y : Dyad) : State :=
  let s := s.wr P.TickIncrement 0 (BitVec.ofInt 64 (tickFor y))
  s.wr P.FrequencyOffset 0 (ofIntW 32 (clampS32 (y.shown (Dict.key P.FrequencyOffset 0))))

/-! ### The step (R123, R130) -/

/-- A queued frame is not presented: nothing of it that has not begun to leave is sent or shown. -/
def State.dropFrame (s : State) (q : QueuedFrame) : State :=
  let ofFrame := fun (x : Egress) => match x.tag with
    | some t => t.frame == q.index
    | none => false
  { s with
    sheet := { s.sheet with
      contexts := s.sheet.contexts.map (fun c => { c with dropped := c.dropped || c.frame == q.index })
      packing := s.sheet.packing.map (fun x => { x with dropped := x.dropped || x.frame == q.index }) }
    ports := s.ports.map (fun (x : Nat × ShroudPort) =>
      (x.1, { x.2 with shows := x.2.shows.filter (fun f => !(f.frame == q.index && f.frames.any ofFrame)) }))
    stay := s.stay.map (fun (x : Nat × StayPort) => (x.1, { x.2 with cascade := x.2.cascade.filter (fun f => !ofFrame f) }))
    masthead := { s.masthead with waiting := s.masthead.waiting.filter (fun f => f.time != q.time) }
    kite := { s.kite with queue := s.kite.queue.filter (fun x => !(x.entry.isSome && x.tag == q.time)) } }

/-- Discard queued frames that a backward step has left too far ahead (R130); those whose T a forward step has passed wait
no longer. -/
def State.discardQueued (s : State) : State :=
  let limit := s.waitNs (s.rdN P.HoldLimit 0)
  let far := fun (q : QueuedFrame) => future q.time s.tns && decide (limit < (q.time - s.tns).toNat)
  let gone := s.halyard.grid.queued.filter far
  let s := s.setGrid { s.halyard.grid with queued := s.halyard.grid.queued.filter (fun q => !far q && future q.time s.tns) }
  let s := gone.foldl State.dropFrame s
  if gone.isEmpty then s else s.countBy P.HoldDiscardCount 0 gone.length

/-- What a delay exchange has measured before TNS moves by minus `shift` (in 2^-40 ns) counts in the new time, as all four
of its times are full times on one scale (R122). -/
def State.moveExchanges (s : State) (shift : Int) : State :=
  let move := fun (t : Int) => t - shift / 2 ^ 24
  let moved := fun (x : Nat × StayPtp) =>
    (x.1, { x.2 with syncDelta := x.2.syncDelta.map move, delayReq := x.2.delayReq.map (fun r => (r.1, move r.2)) })
  { s with halyard := { s.halyard with stay := s.halyard.stay.map moved } }

/-- A Sync, Follow_Up or Announce, which none of the ports sends while StepDone is set (R124). -/
def TxFrame.carriesTime : TxFrame → Bool
  | .sync _ _ | .followUp _ _ _ _ _ | .announce _ _ _ => true
  | _ => false

/-- Messages that carry the time before a step and have not begun to leave are not sent (R124; that they are dropped, and
not kept until StepDone clears, is the model's choice). -/
def State.dropTime (s : State) : State :=
  let kept := fun (q : List Egress) => q.filter (fun x => !x.frame.carriesTime)
  { s with ports := s.ports.map (fun (x : Nat × ShroudPort) => (x.1, { x.2 with time := kept x.2.time }))
           stay := s.stay.map (fun (x : Nat × StayPort) => (x.1, { x.2 with priority := kept x.2.priority })) }

/-! ### The era of the Kite keys (R340) -/

/-- The era of a full time. -/
def eraOf (e : Nat) : Nat := e / 2 ^ 52

/-- Neither key's era is the present one; it is told while Kite is on. -/
def State.keyExpired (s : State) : Bool :=
  s.bit P.KiteControl 0 0 && !(List.range 2).any (fun i => s.rdN P.KeyEra i == eraOf s.fullTime)

/-- KeyExpired follows the keys and the time; its onset writes one trouble-log entry. -/
def State.checkEra (s : State) : State :=
  let was := s.bit P.KiteStatus 0 4
  let expired := s.keyExpired
  let s := s.setBit P.KiteStatus 0 4 expired
  if expired && !was then s.log 0x1C 0x0090 0 (BitVec.ofNat 32 (eraOf s.fullTime)) 0 else s

/-- At a step the PWM cycle in progress ends: its length is shown, no sink conducts until the next start, and a photodiode burst
over it waits for the next whole cycle (R305, R311). -/
def State.endLampCycle (s : State) : State :=
  match s.masthead.cycle with
  | none => s
  | some c =>
    let m := s.masthead
    let s := (s.wr P.CycleLength 0 (BitVec.ofNat 64 ((s.fullTime - c) % 2 ^ 32))).wr P.ActiveTicks 0 (BitVec.ofNat 64 m.ticks)
    { s with masthead := { m with cycle := none, onTime := [], burst := false, burstWaits := m.burst || m.burstWaits } }.setBit
      P.MastheadStatus 0 0 false

/-- Move TNS by minus the offset `o` (ns), record the set values and set StepDone; `initial` is the set from Unset. The
proportional term restarts from zero and the integral keeps its value (R122). -/
def State.step (s : State) (o : Dyad) (initial : Bool) : State :=
  let full : Int := (s.fullTime : Int)
  let shift : Int := (o.mul ⟨2 ^ 40, 0⟩).floor
  let local40 : Int := full * 2 ^ 40 + ((s.halyard.acc.toNat % 2 ^ 40 : Nat) : Int)
  let master40 : Int := local40 - shift
  let masterNs : Nat := (master40 / 2 ^ 40).toNat
  let s := (s.endLampCycle.setCounter40 (s.counter40 - shift)).moveExchanges shift
  let s := s.wr P.SetSeconds 0 (BitVec.ofNat 64 (masterNs / 1000000000))
  let s := s.wr P.SetNanoseconds 0 (BitVec.ofNat 64 (masterNs % 1000000000))
  let s := s.wr P.SetTns 0 (s.tns.setWidth 64)
  let s := ((s.raise P.TimeStatus 0 2).setBit P.TimeStatus 0 0 false).dropTime.steer s.halyard.integral.neg
  let s := if initial then s else s.count P.StepCount 0
  let s := s.cancelStep.setInLock 0
  let s := if initial then s else s.discardQueued
  let s := if o.num < 0 then (List.range 16).foldl (fun s n => s.catchUp true n) s else s
  (s.setTimeState Ts.locking).checkEra

/-! ### The servo (R122) -/

/-- One servo update by the offset `o` (ns) with Sync interval `2 ^ logInterval` s. -/
def State.servo (s : State) (o : Dyad) (logInterval : Int) : State :=
  let kp : Dyad := ⟨s.rdN P.ServoKp 0, 8⟩
  let ki : Dyad := ⟨s.rdN P.ServoKi 0, 12⟩
  let interval : Dyad := if logInterval < 0 then ⟨1, logInterval.natAbs⟩ else ⟨2 ^ logInterval.toNat, 0⟩
  let i := s.halyard.integral.add ((ki.mul o).mul interval)
  let lim : Dyad := Dyad.ofInt (s.rdN P.SlewLimit 0)
  let p := kp.mul o
  let p := if lim.le p then lim else if p.le lim.neg then lim.neg else p
  let y := (i.add p).neg
  { s with halyard := { s.halyard with integral := i } }.steer y

/-- The four consecutive Syncs that lock (Table 6.1). -/
def State.lockCount (s : State) (o : Dyad) : State :=
  if s.timeState = Ts.locking then
    if o.abs.le (Dyad.ofInt (s.rdN P.LockThreshold 0)) then
      let n := s.halyard.inLock + 1
      if n ≥ 4 then (s.setInLock 0).setTimeState Ts.locked else s.setInLock n
    else s.setInLock 0
  else s

/-- A valid Sync with offset `o` (R122, R123, Table 6.1). -/
def State.validSync (s : State) (o : Dyad) (logInterval : Int) : State :=
  let s := s.wr P.LastOffset 0 (ofIntW 32 (clampS32 (o.shown (Dict.key P.LastOffset 0))))
  if s.timeState = Ts.unset then s.step o true
  else if s.timeState = Ts.local then s
  else if o.abs.le (Dyad.ofInt (s.rdN P.StepThreshold 0)) then
    let s := s.cancelStep
    let s := if s.timeState = Ts.holdover then (s.setInLock 0).setTimeState Ts.locking else s
    (s.servo o logInterval).lockCount o
  else
    let n := s.fld P.TimeStatus 0 4 2 + 1
    let s := (s.setBit P.TimeStatus 0 3 true).setFld P.TimeStatus 0 4 2 n
    let s := (s.setInLock 0).setTimeState Ts.holdover
    if n ≥ 3 then s.step o false else s

/-! ### Stamp queues (R131 to R133) -/

/-- Ingress stamps of a port, oldest first. -/
def State.ingressQ (s : State) (port : Nat) : List Stamp := SMap.get [] s.halyard.ingress port
def State.egressQ (s : State) (port : Nat) : List Stamp := SMap.get [] s.halyard.egress port
def State.setIngressQ (s : State) (port : Nat) (q : List Stamp) : State :=
  { s with halyard := { s.halyard with ingress := SMap.set [] s.halyard.ingress port q } }
def State.setEgressQ (s : State) (port : Nat) (q : List Stamp) : State :=
  { s with halyard := { s.halyard with egress := SMap.set [] s.halyard.egress port q } }

/-- Low 6 bits of a stamp's fraction are zero (R131). -/
def stampFrac (f : Byte) : Byte := f &&& 0xC0

/-- Put an ingress stamp in its queue; false when the queue is full and the stamp is not valid (R132). -/
def State.pushIngress (s : State) (port : Nat) (x : Stamp) : State × Bool :=
  if (s.ingressQ port).length ≥ 64 then (s.count P.StampIngressOverflowCount port, false)
  else (s.setIngressQ port (s.ingressQ port ++ [x]), true)

/-- Mark the newest entry Flagged. -/
def flagNewest : List Stamp → List Stamp
  | [] => []
  | [x] => [{ x with flagged := true }]
  | x :: xs => x :: flagNewest xs

/-- Put an egress stamp in its queue; false when the queue is full: the stamp is dropped and counted (R133). -/
def State.pushEgress (s : State) (port : Nat) (x : Stamp) : State × Bool :=
  if (s.egressQ port).length ≥ 64 then
    ((s.setEgressQ port (flagNewest (s.egressQ port))).count P.StampEgressDropCount port, false)
  else (s.setEgressQ port (s.egressQ port ++ [x]), true)

/-- The message engine takes the stamps of a message out of a queue. -/
def takeStamp (msgType : BitVec 4) (seq : Half) (q : List Stamp) : List Stamp :=
  q.filter (fun x => !(x.head.msgType == msgType && x.head.seq == seq))

/-- A stamp as a full time in 2^-16 ns (R119). While StepDone is set WrapCount is still to be written, and P2012 to P2014
give the full time that the new TNS represents (R123, R124). -/
def State.stampFull (s : State) (t : T32) (f : Byte) : Int :=
  let full : Int :=
    if s.stepDone then
      (s.rdN P.SetSeconds 0 * 1000000000 + s.rdN P.SetNanoseconds 0 : Nat) + (t - (s.rd P.SetTns 0).setWidth 32).toInt
    else s.fullOf t
  full * 65536 + (f.toNat : Int) * 256

/-- An origin time in 2^-16 ns. -/
def originFull (sec : BitVec 48) (ns : Word) : Int := ((sec.toNat : Int) * 1000000000 + (ns.toNat : Int)) * 65536

/-! ### Following a master (R122, R134) -/

/-- The stay port is enabled for PTP and the domain is the one followed. -/
def State.ptpPort (s : State) (port : Nat) (domain : Byte) : Bool :=
  s.bit P.StayPtpEnable 0 port && s.rd P.DomainNumber 0 == domain.setWidth 64

/-- The port is the slave port and the message comes from its current parent. -/
def State.fromParent (s : State) (port : Nat) (source : BitVec 80) : Bool :=
  s.rdN P.SlavePort 0 == 0x40 + port &&
    (match s.halyard.master with
     | some m => m.source == source
     | none => false)

/-- Use a Sync whose origin and corrections are complete: `delta` is t2 - t1 - c in 2^-16 ns. -/
def State.useSync (s : State) (port : Nat) (delta : Int) (logInterval : Int) : State :=
  let s := s.setStayPtp port { s.stayPtp port with syncDelta := some delta, awaiting := none }
  match s.halyard.pathDelay with
  | none => s
  | some d => s.validSync (Dyad.sub ⟨delta, 16⟩ d) logInterval

/-- An event message is stamped on receipt; the message engine takes the stamp of one it has no use for (R131, R132). The
result says whether the stamp was valid. -/
def State.stampUnused (s : State) (port : Nat) (head : PtpHead) (stamp : T32) (frac : Byte) : State × Bool :=
  let q := s.ingressQ port
  let (s, valid) := s.pushIngress port { head := head, stamp := stamp, frac := stampFrac frac, flagged := false }
  (s.setIngressQ port q, valid)

/-- The Sync is one that the servo follows: from the current parent on the slave port, in the domain followed, at an interval
that Table 6.5 supports. -/
def State.follows (s : State) (port : Nat) (m : SyncMsg) : Bool :=
  s.ptpPort port m.domain && s.fromParent port m.source && s.timeState != Ts.local && decide (-7 ≤ m.logInterval) &&
    decide (m.logInterval ≤ 1)

/-- A Sync interval in edges of the time clock, of 2 ns. -/
def syncTicks (logInterval : Int) : Nat :=
  if logInterval < 0 then 500000000 / 2 ^ logInterval.natAbs else 500000000 * 2 ^ logInterval.toNat

/-- A Sync whose Follow_Up has not come is not valid: its stamp is dropped. -/
def State.forgetSync (s : State) (port : Nat) : State :=
  match (s.stayPtp port).awaiting with
  | some (old, _) =>
    (s.setIngressQ (0x40 + port) (takeStamp 0 old.seq (s.ingressQ (0x40 + port)))).setStayPtp port
      { s.stayPtp port with awaiting := none }
  | none => s

/-- SYNC_RECEIVED: every Sync is stamped, and one that is followed is used at once, or with its Follow_Up. -/
def State.takeSync (s : State) (port : Nat) (m : SyncMsg) : State :=
  let head : PtpHead := ⟨0, m.domain, m.seq, m.source.setWidth 16⟩
  if !s.follows port m then
    let (s, valid) := s.stampUnused (0x40 + port) head m.stamp m.frac
    if valid then s else s.count P.SyncSkipCount 0
  else
    let s := s.forgetSync port
    let x : Stamp := { head := head, stamp := m.stamp, frac := stampFrac m.frac, flagged := false }
    let (s, valid) := s.pushIngress (0x40 + port) x
    if !valid then s.count P.SyncSkipCount 0
    else if m.twoStep then s.setStayPtp port { s.stayPtp port with awaiting := some (m, s.clock) }
    else
      let s := s.setIngressQ (0x40 + port) (takeStamp 0 m.seq (s.ingressQ (0x40 + port)))
      s.useSync port (s.stampFull m.stamp (stampFrac m.frac) - originFull m.originSec m.originNs - m.correction)
        m.logInterval

/-- FOLLOW_UP_RECEIVED: the precise origin time of the Sync that waits for it, if it comes within one Sync interval. -/
def State.takeFollowUp (s : State) (port : Nat) (f : FollowUpMsg) : State :=
  match (s.stayPtp port).awaiting with
  | none => s
  | some (m, at') =>
    if s.clock - at' > syncTicks m.logInterval then s.forgetSync port
    else if m.seq = f.seq ∧ m.source = f.source ∧ m.domain = f.domain then
      let s := s.setIngressQ (0x40 + port) (takeStamp 0 m.seq (s.ingressQ (0x40 + port)))
      s.useSync port
        (s.stampFull m.stamp (stampFrac m.frac) - originFull f.originSec f.originNs - m.correction - f.correction)
        m.logInterval
    else s

/-- One sample of the mean path delay, in ns (R122). -/
def State.delaySample (s : State) (d : Dyad) : State :=
  let outlier := match s.halyard.pathDelay with
    | none => decide (d.num < 0)
    | some m => decide (d.num < 0) || !(d.le ((m.mul ⟨2, 0⟩).add ⟨1000, 0⟩))
  if outlier then s.count P.DelayOutlierCount 0
  else
    let m := match s.halyard.pathDelay with
      | none => d
      | some m => m.add ((d.sub m).shr 4)
    let s := { s with halyard := { s.halyard with pathDelay := some m } }
    s.wr P.StayMeanPathDelay 0 (BitVec.ofInt 64 (m.shown (Dict.key P.StayMeanPathDelay 0)))

/-- DELAY_RESP_RECEIVED: the end-to-end exchange is complete. -/
def State.takeDelayResp (s : State) (port : Nat) (m : DelayRespMsg) : State :=
  if !(s.ptpPort port m.domain && s.fromParent port m.source) then s
  else
    let q := s.stayPtp port
    match q.delayReq, q.syncDelta with
    | some (seq, t3), some delta =>
      if seq = m.seq then
        let s := s.setStayPtp port { q with delayReq := none }
        let s := s.setEgressQ (0x40 + port) (takeStamp 1 seq (s.egressQ (0x40 + port)))
        let back := originFull m.receiveSec m.receiveNs - t3 - m.correction
        s.delaySample (Dyad.sub ⟨delta + back, 17⟩ (Dyad.ofInt (s.rdI P.StayAsymmetry port 32)))
      else s
    | _, _ => s

/-- The unit's own clock identity, formed from the MAC address of STAY0. -/
def ownIdentity : BitVec 64 :=
  let m := Config.stayMac 0
  (m.extractLsb' 24 24) ++ (0xFFFE : BitVec 16) ++ (m.extractLsb' 0 24)

/-- The unit's own dataset (R135). -/
def State.ownDataset (s : State) : Dataset :=
  { priority1 := (s.rd P.Priority1 0).setWidth 8, clockClass := 248, accuracy := 0xFE, variance := 0xFFFF,
    priority2 := (s.rd P.Priority2 0).setWidth 8, identity := ownIdentity, timeSource := 0xA0, steps := 0 }

/-- The port with the best foreign master, lowest number first among equals. -/
def State.bestPort (s : State) : List Nat → Option (Nat × Foreign)
  | [] => none
  | p :: ps =>
    let rest := State.bestPort s ps
    match (if s.bit P.StayPtpEnable 0 p then (s.stayPtp p).foreign else none) with
    | none => rest
    | some f =>
      match rest with
      | none => some (p, f)
      | some (q, g) => if g.dataset.better f.dataset then some (q, g) else some (p, f)

/-- Choose slave port, parent and master ports from what the ports have heard (BMCA, R134). -/
def State.runBmca (s : State) : State :=
  let best := s.bestPort (List.range 4)
  let slaveOnly := s.bit P.StaySlaveOnly 0 0
  let own := s.ownDataset
  let chosen : Option (Nat × Foreign) := match best with
    | none => none
    | some (p, f) => if !slaveOnly && own.better f.dataset then none else some (p, f)
  let heard : Option Dataset := match chosen with
    | some (_, f) => some f.dataset
    | none => s.halyard.grandmaster
  let oldPort := s.rdN P.SlavePort 0
  let newPort := match chosen with
    | some (p, _) => 0x40 + p
    | none => 0xFF
  let s := { s with halyard := { s.halyard with
    master := chosen.map Prod.snd, grandmaster := heard, pathDelay := if oldPort = newPort then s.halyard.pathDelay else none } }
  let s := s.wr P.SlavePort 0 (BitVec.ofNat 64 newPort)
  (List.range 4).foldl (fun s p =>
    let q := s.stayPtp p
    let passive := match q.foreign, chosen with
      | some f, some (c, g) => p != c && f.dataset.identity == g.dataset.identity
      | _, _ => false
    s.setStayPtp p { q with master := !slaveOnly && newPort != 0x40 + p && !passive }) s

/-- ANNOUNCE_RECEIVED. -/
def State.takeAnnounce (s : State) (port : Nat) (m : AnnounceMsg) : State :=
  if !(s.ptpPort port m.domain) || s.timeState == Ts.local then s
  else
    let q := s.stayPtp port
    let f : Foreign := { source := m.source, dataset := m.dataset, addr := m.addr, mac := m.mac }
    let keep := match q.foreign with
      | none => f
      | some g => if g.source = m.source || m.dataset.better g.dataset then f else g
    (s.setStayPtp port { q with foreign := some keep }).runBmca

/-- SYNC_TIMEOUT and ANNOUNCE_RECEIPT_TIMEOUT (Table 6.1). -/
def State.loseTime (s : State) : State :=
  if s.timeState = Ts.locking ∨ s.timeState = Ts.locked then (s.setInLock 0).setTimeState Ts.holdover else s

/-! ### The commands on received time messages -/

/-- SYNC_RECEIVED (R122, R123). -/
def execSyncReceived (port : Fin 4) (msg : SyncMsg) (s : State) : Host.Outcome State Fault Refusal :=
  done (s.takeSync port msg)

/-- FOLLOW_UP_RECEIVED (R122). -/
def execFollowUpReceived (port : Fin 4) (msg : FollowUpMsg) (s : State) : Host.Outcome State Fault Refusal :=
  done (s.takeFollowUp port msg)

/-- DELAY_RESP_RECEIVED (R122). -/
def execDelayRespReceived (port : Fin 4) (msg : DelayRespMsg) (s : State) : Host.Outcome State Fault Refusal :=
  done (s.takeDelayResp port msg)

/-- ANNOUNCE_RECEIVED (R134). -/
def execAnnounceReceived (port : Fin 4) (msg : AnnounceMsg) (s : State) : Host.Outcome State Fault Refusal :=
  done (s.takeAnnounce port msg)

/-- SYNC_TIMEOUT (R120). -/
def execSyncTimeout (s : State) : Host.Outcome State Fault Refusal := done s.loseTime

/-- ANNOUNCE_RECEIPT_TIMEOUT (R120): the port's master is forgotten. -/
def execAnnounceReceiptTimeout (port : Fin 4) (s : State) : Host.Outcome State Fault Refusal :=
  let wasSlave := s.rdN P.SlavePort 0 == 0x40 + port.val
  let s := s.setStayPtp port { s.stayPtp port with foreign := none }
  let s := if wasSlave then s.loseTime else s
  done s.runBmca

/-- TNS_WRAP (R119): the whole ticks up to the wrap pass. -/
def execTnsWrap (s : State) : Host.Outcome State Fault Refusal :=
  let inc := s.rdN P.TickIncrement 0
  if s.timeRuns && decide (0 < inc) then
    done (s.advance ((2 ^ 72 - s.halyard.acc.toNat + inc - 1) / inc))
  else done s

/-- What a unit does at an instant that a comparator names has a command of its own. In the clock in which a firing has
driven the unit, that command tells of the same event and does nothing more. -/
def State.ownCommand (s : State) (dest : Nat) (act : State → State) : State :=
  if s.now.driven.contains dest then s
  else act { s with now := { s.now with told := dest :: s.now.told } }

/-- The grid generator's boundary, with a valid seed. -/
def State.gridBoundary (s : State) : State := if s.seeded then s.gridAdvance else s

/-- GRID_BOUNDARY (R126). -/
def execGridBoundary (s : State) : Host.Outcome State Fault Refusal := done (s.ownCommand 0x01 State.gridBoundary)

end Sys2Proof.Machine
end

