-- ==== Sys2Proof/Machine/Bridle.lean ====
section
/-! DEFINITION. Bridle (chapter 10): element records, the projections of Table 10.4 with their exact arctangent, the
footprint side, the tap points, and the checks of the element table. -/
namespace Sys2Proof.Machine

/-! ### Element records (R210, R211) -/

/-- An element record (Table 10.1). -/
structure ElementRecord where
  canvas : Nat
  filter : Nat
  footprint : Nat
  profile : Nat
  port : Nat
  offset : Nat
  x : Int
  y : Int
  z : Int
  deriving DecidableEq, Repr

/-- Bits of a number from `lo`, `n` of them. -/
def bitsOf (v lo n : Nat) : Nat := (v >>> lo) % 2 ^ n

/-- A field of `n` bits read as two's complement. -/
def signedOf (n v : Nat) : Int := if v ≥ 2 ^ (n - 1) then (v : Int) - 2 ^ n else v

/-- Read a record from its 16 bytes. -/
def ElementRecord.ofBytes (b : List Byte) : ElementRecord :=
  let v := leNat b
  { canvas := bitsOf v 125 3, filter := bitsOf v 121 4, footprint := bitsOf v 111 10, profile := bitsOf v 101 10,
    port := bitsOf v 93 8, offset := bitsOf v 72 21, z := signedOf 24 (bitsOf v 48 24), y := signedOf 24 (bitsOf v 24 24),
    x := signedOf 24 (bitsOf v 0 24) }

/-- Record `e` of an element table. -/
def tableRecord (table : List Byte) (e : Nat) : ElementRecord := ElementRecord.ofBytes (sliceBytes table (16 * e) 16)

/-- Every record of a table from record `e` on, in order. -/
def tableRecords (table : List Byte) : List ElementRecord :=
  (List.range (table.length / 16)).map (tableRecord table)

/-- Records in the live element table (P6001). -/
def State.elementCount (s : State) : Nat := (s.blob P.ElementTable).length / 16

/-- Bands of a table (R199). -/
def bandsOf (elements : Nat) : Nat := (elements + 1023) / 1024

/-! ### The element table's checks (R219) -/

/-- Port codes that Table 10.3 reserves. -/
def portReserved (p : Nat) : Bool := (decide (0x41 ≤ p) && decide (p ≤ 0x47)) || (decide (0x50 ≤ p) && decide (p ≤ 0xFE))

/-- A record at fault by itself: a reserved filter or port code. -/
def ElementRecord.bad (r : ElementRecord) : Bool := decide (9 ≤ r.filter) || portReserved r.port

/-- The lowest record at fault: reserved codes, or the Port and Offset of an earlier record. `seen` holds those. -/
def firstBadRecord : List ElementRecord → Nat → List (Nat × Nat) → Option Nat
  | [], _, _ => none
  | r :: rs, e, seen =>
    if r.bad || (r.port != 0xFF && seen.contains (r.port, r.offset)) then some e
    else firstBadRecord rs (e + 1) ((r.port, r.offset) :: seen)

/-- The lowest record number at fault of a staged table; none when it may go live. -/
def elementTableFault (table : List Byte) : Option Nat :=
  match firstBadRecord (tableRecords table) 0 [] with
  | some e => some e
  | none => if table.length % 16 = 0 then none else some (table.length / 16)

/-! ### Exact functions (R214) -/

/-- The square root of `n` rounded down, by binary search over `bits` bits of the root. -/
def isqrtBits : Nat → Nat → Nat → Nat
  | 0, _, root => root
  | k + 1, n, root =>
    let cand := root + 2 ^ k
    isqrtBits k n (if cand * cand ≤ n then cand else root)

/-- The floor of the square root of a number below `2 ^ 128`. -/
def isqrt (n : Nat) : Nat := isqrtBits 65 n 0

/-- Fraction bits of the fixed-point values that `atan2` works in. -/
def angleBits : Nat := 320

/-- Cosine and sine of half an angle whose cosine is given. -/
def halfAngle (c : Nat) : Nat × Nat :=
  let one := 2 ^ angleBits
  (isqrtBits (angleBits + 1) ((one + c) / 2 * one) 0, isqrtBits (angleBits + 1) ((one - c) / 2 * one) 0)

/-- The angle of `(x, y)`, both not negative, in halves of `2 ^ -24` turn rounded down: from one eighth of a turn the
vector is turned back by ever smaller angles for as long as it stays on or above the axis. `c` is the cosine of the
angle last tried, of `2 ^ k` half units. -/
def angleSteps : Nat → Nat → Int → Int → Nat → Nat
  | 0, _, _, _, acc => acc
  | k + 1, c, x, y, acc =>
    let h := halfAngle c
    let x' := x * h.1 + y * h.2
    let y' := y * h.1 - x * h.2
    if 0 ≤ y' then angleSteps k h.1 (x' / 2 ^ angleBits) (y' / 2 ^ angleBits) (acc + 2 ^ k)
    else angleSteps k h.1 x y acc

/-- The angle of `(x, y)` with both not negative, to the nearest unit of `2 ^ -24` turn. -/
def quadrantAngle (x y : Nat) : Nat :=
  if y = 0 then 0
  else if x = 0 then 2 ^ 22
  else if x = y then 2 ^ 21
  else
    let s : Int := 2 ^ angleBits
    let a := if y < x then angleSteps 23 0 (x * s) (y * s) 0 else angleSteps 23 0 (y * s) (x * s) 0
    let near := (a + 1) / 2
    if y < x then near else 2 ^ 22 - near

/-- `atan2(y, x)` in units of `2 ^ -24` turn under R214. -/
def atan2 (y x : Int) : Int :=
  if y = 0 ∧ x = 0 then 0
  else
    let a : Int := quadrantAngle x.natAbs y.natAbs
    let a := if x < 0 then 2 ^ 23 - a else a
    let a := if y < 0 then -a else a
    if a = 2 ^ 23 then -(2 ^ 23) else a

/-- A value held within the S32 range. -/
def holdS32 (v : Int) : Int := if v > 2147483647 then 2147483647 else if v < -2147483648 then -2147483648 else v

/-! ### From position to canvas point (R212 to R215) -/

/-- Coefficient of the live matrix of a canvas. -/
def State.matrixAt (s : State) (c r j : Nat) : Int := ((s.lv P.ProjectionMatrix (12 * c + 4 * r + j)).setWidth 32).toInt

/-- A live S32 value. -/
def State.lvS32 (s : State) (p e : Nat) : Int := ((s.lv p e).setWidth 32).toInt

/-- Keep the low 64 bits of a sum as a signed number (R212's arithmetic). -/
def wrap64 (v : Int) : Int := (BitVec.ofInt 64 v).toInt

/-- One row of the transform of R212. -/
def State.transformRow (s : State) (c r : Nat) (e : ElementRecord) : Int :=
  wrap64 (s.matrixAt c r 0 * e.x + s.matrixAt c r 1 * e.y + s.matrixAt c r 2 * e.z + s.matrixAt c r 3 * 256 + 32768) / 65536

/-- A mapped element: its point, whether it is out of view, and the depth `c` of R212. -/
structure Mapped where
  u : Int
  v : Int
  hidden : Bool
  depth : Int
  deriving DecidableEq, Repr

/-- The canvas point of an element (Table 10.4, R215). -/
def State.mapElement (s : State) (e : ElementRecord) : Mapped :=
  let k := e.canvas
  let a := s.transformRow k 0 e
  let b := s.transformRow k 1 e
  let c := s.transformRow k 2 e
  let at' := fun (u v : Int) => ({ u := holdS32 u, v := holdS32 v, hidden := false, depth := c } : Mapped)
  let bearing := s.lvS32 P.ProjectionOffset (2 * k) + atan2 a c * s.lvS32 P.ProjectionScale (2 * k) / 16777216
  match field (s.lv P.ProjectionControl k) 0 2 with
  | 0 => at' a b
  | 1 => at' bearing b
  | 2 =>
    let r : Int := isqrt (a * a + c * c).toNat
    at' bearing (s.lvS32 P.ProjectionOffset (2 * k + 1) + atan2 b r * s.lvS32 P.ProjectionScale (2 * k + 1) / 16777216)
  | _ =>
    if c < (s.lvN P.NearLimit k : Int) then { u := -256, v := -256, hidden := true, depth := c }
    else at' (256 * a / c) (256 * b / c)

/-- Side of the footprint in units of 2^-10 world unit (R211). -/
def ElementRecord.worldSide (e : ElementRecord) : Nat := (64 + e.footprint % 64) * 2 ^ (e.footprint / 64)

/-- The side s_c of R216 of an element of a box filter; 0 for the other filters and for an element out of view. -/
def State.boxSide (s : State) (e : ElementRecord) (m : Mapped) : Nat :=
  if e.filter < 2 ∨ m.hidden then 0
  else
    let fs := s.lvN P.FootprintScale e.canvas
    let sw := e.worldSide
    let side := if field (s.lv P.ProjectionControl e.canvas) 0 2 = 3 then
        ((sw * fs * 256 : Nat) : Int) / (m.depth * 262144)
      else ((sw * fs / 262144 : Nat) : Int)
    min side.toNat 16777215

/-- Offsets of the tap points of a box filter (Table 10.5), truncated toward zero. -/
def tapOffset (n side i : Nat) : Int := ((((2 * i + 1 : Nat) : Int) - (n : Int)) * (side : Int)).tdiv (2 * n)

/-- A point lies in the extent of its canvas (R190). -/
def State.inExtent (s : State) (c : Nat) (u v : Int) : Bool :=
  let size := s.lv P.CanvasSize c
  decide (0 ≤ u) && decide (u < (field size 16 16 * 256 : Nat)) && decide (0 ≤ v) && decide (v < (field size 0 16 * 256 : Nat))

end Sys2Proof.Machine
end

