-- ==== Sys2Proof/Machine/Crypto.lean ====
section
/-! DEFINITION. The checks over bytes that the spec names by their standards: SHA-256 (FIPS 180-4), HMAC-SHA-256
(RFC 2104), the CRC-16 of R111 and the CRC-32 of IEEE 802.3 (R243). -/
namespace Sys2Proof.Machine

/-! ### SHA-256

FIPS 180-4 defines its constants by roots of primes, and they are formed here as it defines them. The working words are a list
in the order a to h; the schedule is kept newest word first, as far back as sixteen words. -/

/-- The largest `r` whose power `r ^ e` is at most `n`, bit by bit from bit `i - 1` of `r` down. -/
def rootBelow (e n : Nat) : Nat → Nat → Nat
  | 0, r => r
  | i + 1, r => rootBelow e n i (if (r + 2 ^ i) ^ e ≤ n then r + 2 ^ i else r)

/-- The first 32 bits of the fractional part of the root of degree `e` of a prime. -/
def rootFraction (e p : Nat) : Word := BitVec.ofNat 32 (rootBelow e (p * 2 ^ (32 * e)) 37 0)

/-- The first 64 primes; the largest is 311, so no divisor above 17 matters. -/
def shaPrimes : List Nat :=
  (List.range 312).filter fun n => decide (2 ≤ n) && [2, 3, 5, 7, 11, 13, 17].all (fun d => n == d || n % d != 0)

/-- Round constants: cube roots of the 64 primes. -/
def shaCubes : List Word := shaPrimes.map (rootFraction 3)

/-- Hash value before the first block: square roots of the first eight. -/
def shaSeed : List Word := (shaPrimes.take 8).map (rootFraction 2)

/-- Exclusive or of a word rotated right by each of some distances. -/
def spin (distances : List Nat) (x : Word) : Word := distances.foldl (fun acc d => acc ^^^ x.rotateRight d) 0

/-- A word of the hash value or of the schedule, by its place. -/
def hashWord (ws : List Word) (i : Nat) : Word := ws.getD i 0

/-- The next word of a schedule kept newest first. -/
def scheduleWord (ws : List Word) : Word :=
  let near := hashWord ws 1
  let far := hashWord ws 14
  hashWord ws 15 + (spin [7, 18] far ^^^ far >>> 3) + hashWord ws 6 + (spin [17, 19] near ^^^ near >>> 10)

/-- Mix one sum of round constant and schedule word into the working words: all move one place on, and the first and the
fifth are new. -/
def mixWord (v : List Word) (input : Word) : List Word :=
  let x := hashWord v
  let fromE := spin [6, 11, 25] (x 4) + (x 6 ^^^ (x 4 &&& (x 5 ^^^ x 6)))
  let fromA := spin [2, 13, 22] (x 0) + ((x 0 &&& (x 1 ||| x 2)) ||| (x 1 &&& x 2))
  let add := x 7 + fromE + input
  [add + fromA, x 0, x 1, x 2, x 3 + add, x 4, x 5, x 6]

/-- The rounds of one block: the first sixteen take the block's words, which `ahead` still holds, the others the schedule. -/
def mixBlock (v : List Word) : List Word → List Word → List Word → List Word
  | [], _, _ => v
  | k :: ks, ahead, before =>
    let w := ahead.headD (scheduleWord before)
    mixBlock (mixWord v (k + w)) ks (ahead.drop 1) (w :: before.take 15)

/-- The hash value after one block of 64 bytes. -/
def hashBlock (v : List Word) (block : List Byte) : List Word :=
  let words := (List.range 16).map fun i => BitVec.ofNat 32 (beNat (sliceBytes block (4 * i) 4))
  List.zipWith (· + ·) v (mixBlock v shaCubes words [])

/-- A message with its end mark, zeros to a whole number of blocks, and its length in bits. -/
def shaMessage (m : List Byte) : List Byte :=
  m ++ [0x80] ++ List.replicate (63 - (m.length + 8) % 64) 0 ++ beBytes 8 (8 * m.length)

/-- SHA-256 of a message, 32 bytes. -/
def sha256 (m : List Byte) : List Byte :=
  let p := shaMessage m
  let v := (List.range (p.length / 64)).foldl (fun v i => hashBlock v (sliceBytes p (64 * i) 64)) shaSeed
  v.flatMap fun w => beBytes 4 w.toNat

/-- HMAC-SHA-256. -/
def hmac (key msg : List Byte) : List Byte :=
  let k := if key.length > 64 then sha256 key else key
  let k := k ++ List.replicate (64 - k.length) 0
  sha256 (k.map (· ^^^ 0x5C) ++ sha256 (k.map (· ^^^ 0x36) ++ msg))

/-! ### CRCs -/

/-- One bit step of the CRC-16 with polynomial 1021h. -/
def crc16Bits : Nat → Half → Half
  | 0, c => c
  | n + 1, c => crc16Bits n (if c.getLsbD 15 then (c <<< 1) ^^^ 0x1021 else c <<< 1)

/-- CRC-16 of R111: polynomial 1021h, initial value FFFFh, no reflection, no final XOR. -/
def crc16 (bs : List Byte) : Half :=
  bs.foldl (fun c b => crc16Bits 8 (c ^^^ ((b.setWidth 16 : Half) <<< (8 : Nat)))) 0xFFFF

/-- Eight bit steps of the reflected CRC-32. -/
def crc32Bits : Nat → Word → Word
  | 0, c => c
  | n + 1, c => crc32Bits n (if c.getLsbD 0 then (c >>> 1) ^^^ 0xEDB88320 else c >>> 1)

/-- CRC-32 of IEEE 802.3. -/
def crc32 (bs : List Byte) : Word :=
  ~~~(bs.foldl (fun c b => crc32Bits 8 (c ^^^ b.setWidth 32)) 0xFFFFFFFF)

end Sys2Proof.Machine
end

