-- ==== Sys2Proof/Machine/Net.lean ====
section
/-! DEFINITION. Addresses and groups of the ports (R134, R149, R150, R163, R257, R276): what a frame is sent with, the multicast
groups a stay port is to have joined, and the reports by which it joins and leaves them. -/
namespace Sys2Proof.Machine

/-! ### Addresses -/

/-- Link-local address formed from a MAC address by the modified EUI-64 method (R150, R276). -/
def eui64 (m : BitVec 48) : BitVec 128 :=
  let hi : BitVec 24 := m.extractLsb' 24 24 ^^^ (0x020000 : BitVec 24)
  (0xFE80 : BitVec 16) ++ (0 : BitVec 48) ++ hi ++ (0xFFFE : BitVec 16) ++ m.extractLsb' 0 24

/-- An IPv4 address as it is held here. -/
def ip4 (a : Word) : BitVec 128 := (0 : BitVec 96) ++ a

/-- A multicast address of IPv6 from its flag and scope octet and its low 32 bits. -/
def ip6Group (scope : Byte) (low : Word) : BitVec 128 := (0xFF : Byte) ++ scope ++ (0 : BitVec 80) ++ low

/-- An address that is not an IPv4 address in the low 32 bits. -/
def isV6 (a : BitVec 128) : Bool := decide (2 ^ 32 ≤ a.toNat)

/-- The MAC address a multicast group is sent to: 33-33 and 32 bits of an IPv6 group, 01-00-5E and 23 bits of an IPv4 one. -/
def groupMac (g : BitVec 128) : BitVec 48 :=
  if isV6 g then (0x3333 : BitVec 16) ++ g.extractLsb' 0 32 else (0x01005E : BitVec 24) ++ (0 : BitVec 1) ++ g.extractLsb' 0 23

/-- Four words of a parameter as an address, most significant first. -/
def State.addr128 (s : State) (param first : Nat) : BitVec 128 :=
  let w := fun i => (s.rd param (first + i)).setWidth 32
  w 0 ++ w 1 ++ w 2 ++ w 3

/-- Link-local, configured IPv6 and IPv4 address of a stay port (R150). -/
def linkLocal (p : Nat) : BitVec 128 := eui64 (Config.stayMac p)
def State.stayIp6 (s : State) (p : Nat) : BitVec 128 := s.addr128 P.StayIpv6 (4 * p)
def State.stayIp4 (s : State) (p : Nat) : BitVec 128 := ip4 ((s.rd P.StayIpv4 p).setWidth 32)

/-- The stay port has an IPv4 address; else its messages go over IPv6. -/
def State.stayV6 (s : State) (p : Nat) : Bool := s.rdN P.StayIpv4 p == 0

/-- The address a stay port sends from. -/
def State.staySource (s : State) (p : Nat) (v6 : Bool) : BitVec 128 :=
  if !v6 then s.stayIp4 p else if s.stayIp6 p = 0 then linkLocal p else s.stayIp6 p

/-- The 802.1Q tag of a stay port: the priority and VLAN ID of P3008, none for VLAN ID 0 (R150). -/
def State.stayTag (s : State) (p : Nat) : Option Half :=
  let v := s.rdN P.StayVlan p
  if v % 4096 = 0 then none else some (BitVec.ofNat 16 (v / 4096 % 8 * 8192 + v % 4096))

/-- What a frame of a stay port to a MAC and IP address is sent with. -/
def State.stayHead (s : State) (p : Nat) (mac : BitVec 48) (dst : BitVec 128) (srcPort dstPort : Half) : NetHead :=
  { dstMac := mac, srcMac := Config.stayMac p, tag := s.stayTag p, v6 := isV6 dst, src := s.staySource p (isV6 dst),
    dst := dst, srcPort := srcPort, dstPort := dstPort }

/-- The same, to a group. -/
def State.stayGroupHead (s : State) (p : Nat) (group : BitVec 128) (port : Half) : NetHead :=
  s.stayHead p (groupMac group) group port port

/-- What a frame of a shroud port to an IPv6 link-local group is sent with, untagged, from its link-local address
(Table 13.2). -/
def shroudHead (p : Nat) (group : BitVec 128) (port : Half) : NetHead :=
  { dstMac := groupMac group, srcMac := Config.shroudMac p, tag := none, v6 := true, src := eui64 (Config.shroudMac p),
    dst := group, srcPort := port, dstPort := port }

/-- Groups of chapter 6: PTP on a stay port over IPv4 (Annex C), and over IPv6 (Annex D) with the scope the model chooses; on a
shroud port Sync, Follow_Up and Announce, and the peer-delay messages (Table 6.5). -/
def ptpGroup (v6 : Bool) : BitVec 128 := if v6 then ip6Group 0x0E 0x181 else ip4 0xE0000181
def shroudPtpGroup : BitVec 128 := ip6Group 0x02 0x181
def shroudPeerGroup : BitVec 128 := ip6Group 0x02 0x6B

/-- The group of Shroud frames from a hub (Table 13.2). -/
def shroudGroup : BitVec 128 := ip6Group 0x02 0x2A5

/-- E1.31 multicast group of a universe or synchronisation address (R163, R257, R261). -/
def sacnGroup (v6 : Bool) (u : Half) : BitVec 128 :=
  if v6 then (0xFF18 : BitVec 16) ++ (0 : BitVec 80) ++ (0x8300 : BitVec 16) ++ u else ip4 ((0xEFFF : BitVec 16) ++ u)

/-- Stay pennant group of R362. -/
def State.pennantGroup (s : State) : BitVec 128 :=
  if s.rdN P.StayGroupV4 0 ≠ 0 then ip4 ((s.rd P.StayGroupV4 0).setWidth 32)
  else
    let g := s.addr128 P.StayGroupV6 0
    if g = 0 then ip6Group 0x02 0x2A6 else g

/-- Group and source address of one leg of a stream (R160). -/
def State.legAddr (s : State) (v4 v6 n leg : Nat) : BitVec 128 :=
  if s.bit P.StreamControl n 7 then s.addr128 v6 (8 * n + 4 * leg) else ip4 ((s.rd v4 (2 * n + leg)).setWidth 32)

/-- The stay port of a leg. -/
def State.legPort (s : State) (n leg : Nat) : Nat :=
  if leg = 0 then s.fld P.StreamControl n 2 2 else s.fld P.StreamControl n 4 2

/-- The universes of the live universe table. -/
def State.universes (s : State) : List Half :=
  let b := s.blob P.SacnUniverseTable
  (List.range (b.length / 2)).map (fun i => BitVec.ofNat 16 (leNat (sliceBytes b (2 * i) 2)))

/-! ### Bytes on the wire (Table 13.2) -/

/-- Sum of the 16-bit words of a list of bytes, an odd last byte padded with zero. -/
def wordSum : List Byte → Nat
  | [] => 0
  | [a] => a.toNat * 256
  | a :: b :: rest => a.toNat * 256 + b.toNat + wordSum rest

/-- Octets of an IP address. -/
def NetHead.octets (h : NetHead) (a : BitVec 128) : List Byte :=
  if h.v6 then beBytes 16 a.toNat else beBytes 4 (a.setWidth 32).toNat

/-- UDP checksum over the pseudo-header and a datagram whose checksum field is zero; never zero. -/
def NetHead.checksum (h : NetHead) (udp : List Byte) : Nat :=
  65535 - (wordSum (h.octets h.src) + wordSum (h.octets h.dst) + 17 + udp.length + wordSum udp) % 65535

/-- UDP header and data of a datagram. -/
def NetHead.datagram (h : NetHead) (data : List Byte) : List Byte :=
  let head := beBytes 2 h.srcPort.toNat ++ beBytes 2 h.dstPort.toNat ++ beBytes 2 (8 + data.length)
  head ++ beBytes 2 (h.checksum (head ++ [0, 0] ++ data)) ++ data

/-- The frame of Table 13.2 around a UDP payload, untagged and over IPv6, from destination address to FCS; padding follows the
payload (R147, R276), and a frame that is to be dropped carries its FCS inverted (R287). -/
def NetHead.frame (h : NetHead) (data : List Byte) (stomped : Bool) : List Byte :=
  let udp := h.datagram data
  let body := beBytes 6 h.dstMac.toNat ++ beBytes 6 h.srcMac.toNat ++ beBytes 2 0x86DD ++ beBytes 4 0x60000000 ++
    beBytes 2 udp.length ++ [17, 255] ++ h.octets h.src ++ h.octets h.dst ++ udp
  let body := body ++ List.replicate (60 - body.length) 0
  let check := crc32 body
  body ++ leBytes 4 (if stomped then ~~~check else check).toNat

/-- The UDP payload of a Shroud frame, and whether it leaves with an inverted FCS. -/
def TxFrame.shroudPayload : TxFrame → Option (List Byte × Bool)
  | .shroud _ _ bytes => some (bytes, false)
  | .express _ stomped bytes => some (bytes, stomped)
  | .bulk _ _ bytes => some (bytes, false)
  | _ => none

/-- The bytes of a Shroud frame as a shroud port sends it (R276). -/
def Egress.wire (x : Egress) : Option (List Byte) :=
  match x.net, x.frame.shroudPayload with
  | some h, some (bytes, stomped) => some (h.frame bytes stomped)
  | _, _ => none

/-! ### Groups a stay port joins (R149, R150) -/

/-- A stay port is enabled. -/
def State.stayEnabled (s : State) (p : Nat) : Bool := s.bit P.StayControl p 0

/-- Groups of the universes, over the IP versions of P3202 (R163). -/
def State.sacnGroups (s : State) (p : Nat) : List (BitVec 128 × BitVec 128) :=
  if s.rdN P.SacnEnable 0 = 1 ∧ s.bit P.SacnPortMask 0 p then
    let mode := s.rdN P.SacnIpMode 0
    s.universes.flatMap fun u =>
      (if mode = 1 then [] else [(sacnGroup false u, 0)]) ++ (if mode = 0 then [] else [(sacnGroup true u, 0)])
  else []

/-- Groups of the enabled streams' legs on the port, with the source where one is configured (R160). -/
def State.streamGroups (s : State) (p : Nat) : List (BitVec 128 × BitVec 128) :=
  (List.range 8).flatMap fun n => (List.range 2).flatMap fun leg =>
    let g := s.legAddr P.StreamGroupV4 P.StreamGroupV6 n leg
    if s.bit P.StreamControl n 0 && (leg == 0 || s.bit P.StreamControl n 1) && s.legPort n leg == p && g != 0 then
      [(g, s.legAddr P.StreamSourceV4 P.StreamSourceV6 n leg)]
    else []

/-- Every group the port is to have joined, each once. -/
def State.wantedGroups (s : State) (p : Nat) : List (BitVec 128 × BitVec 128) :=
  if !s.stayEnabled p then []
  else
    let ptp := if s.bit P.StayPtpEnable 0 p then [(ptpGroup (s.stayV6 p), 0)] else []
    let g4 := ip4 ((s.rd P.ExpressGroupV4 0).setWidth 32)
    let g6 := s.addr128 P.ExpressGroupV6 0
    let express := if s.rdN P.ExpressEnable 0 = 1 then ([g4, g6].filter (· != 0)).map (·, 0) else []
    let pennant := if s.bit P.TwinControl 0 0 && s.bit P.TwinControl 0 1 && s.bit P.TwinControl 0 (4 + p) then [(s.pennantGroup, 0)] else []
    (ptp ++ express ++ pennant ++ s.streamGroups p).eraseDups ++ s.sacnGroups p

/-- The groups of the port are held. -/
def State.holdsGroup (s : State) (p : Nat) (g : BitVec 128) : Bool := (s.stayPort p).joined.any (fun x => x.1 == g)

/-! ### Membership reports (IGMPv3, MLDv2) -/

/-- The record types of IGMPv3 and MLDv2: a state for a query, a change of state, and a change of sources. -/
def joinRecord (x : BitVec 128 × BitVec 128) : GroupRecord := if x.2 = 0 then ⟨4, x.1, []⟩ else ⟨5, x.1, [x.2]⟩
def leaveRecord (x : BitVec 128 × BitVec 128) : GroupRecord := if x.2 = 0 then ⟨3, x.1, []⟩ else ⟨6, x.1, [x.2]⟩
def stateRecord (x : BitVec 128 × BitVec 128) : GroupRecord := if x.2 = 0 then ⟨2, x.1, []⟩ else ⟨1, x.1, [x.2]⟩

/-- Bytes of a record. -/
def GroupRecord.len (v6 : Bool) (r : GroupRecord) : Nat := if v6 then 20 + 16 * r.sources.length else 8 + 4 * r.sources.length

/-- Cut records into reports of at most `n` records. -/
def cutRecords (n : Nat) : Nat → List GroupRecord → List (List GroupRecord)
  | 0, _ => []
  | fuel + 1, rs => if rs.isEmpty then [] else rs.take n :: cutRecords n fuel (rs.drop n)

/-- The reports that carry records over one IP version, each within P3002. How they are cut is the model's choice. -/
def State.reports (s : State) (p : Nat) (v6 : Bool) (records : List GroupRecord) : List Egress :=
  let rs := records.filter (fun r => isV6 r.group == v6)
  let fixed := 14 + (if (s.stayTag p).isSome then 4 else 0) + (if v6 then 48 else 24) + 8 + 4
  let n := max 1 ((s.rdN P.StayMaxFrame p - fixed) / (if v6 then 36 else 12))
  let dst := if v6 then ip6Group 0x02 0x16 else ip4 0xE0000016
  (cutRecords n rs.length rs).map fun part =>
    { frame := .groupReport v6 part, len := max 64 (fixed + (part.map (GroupRecord.len v6)).foldl (· + ·) 0),
      net := some (s.stayHead p (groupMac dst) dst 0 0) }

end Sys2Proof.Machine
end

