-- ==== Sys2Proof/Machine/Stay.lean ====
section
/-! DEFINITION. The stay ports (R144 to R151): links and module signals, frame checks and classification, the receive
buffer, the egress queues, the control responder's answers, and the PTP messages a stay port sends. -/
namespace Sys2Proof.Machine

/-! ### Ports and links -/

/-- SPLL of the port is locked (P3001 bit 6). -/
def State.spllLocked (s : State) (p : Nat) : Bool := s.bit P.StayStatus p 6

/-- LinkUp of a stay port (P3001 bit 0). -/
def State.stayUp (s : State) (p : Nat) : Bool := s.bit P.StayStatus p 0

/-- The stay ports transmit and receive: Run or Luff of a served device, and an entry up to abort point 2 (Table 4.3). -/
def State.stayActive (s : State) : Bool :=
  s.serving && (match s.power.sleep with
    | .run | .luff => true
    | .entering _ ap => decide (ap < 2)
    | _ => false)

/-- TX_DISABLE of a cage (R145). -/
def State.txDisable (s : State) (p : Nat) : Bool :=
  !(s.stayActive && s.stayEnabled p && !(s.bit P.StayStatus p 5) && (s.stayPort p).faultStage != 1)

/-- The port's rate is 25 Gb/s. -/
def State.stayFast (s : State) (p : Nat) : Bool := s.bit P.StayControl p 1

/-- RS0 and RS1 of a cage: driven per the port's rate in Run and Luff, else low (R145, Table 2.10). -/
def State.rateSelect (s : State) (p : Nat) : Bool := s.pinColumn == .run && s.stayFast p

/-- TX_FAULT, MOD_ABS and RX_LOS are read; in Furled and Struck they are ignored (Table 2.10). -/
def State.sidebandRead (s : State) : Bool := match s.pinColumn with
  | .unpowered | .furled | .struck => false
  | _ => true

/-- Take a stay link down; each fall of LinkUp counts (R145). -/
def State.stayDown (s : State) (p : Nat) : State :=
  let up := s.stayUp p
  let s := s.setBit P.StayStatus p 0 false
  let s := s.setBit P.StayStatus p 4 false
  if up then s.count P.LinkDownCount_P302C p else s

/-! ### Egress (R151) -/

/-- Bytes of a frame of `payload` UDP bytes from a stay port: Ethernet, tag where configured, IP, UDP, FCS, padded to
64 bytes (R147). -/
def State.stayUdpLen (s : State) (p : Nat) (v6 : Bool) (payload : Nat) : Nat :=
  let tag := if s.rdN P.StayVlan p % 4096 = 0 then 0 else 4
  max 64 (14 + tag + (if v6 then 40 else 20) + 8 + payload + 4)

/-- A frame started now on a link of `rate` Gb/s sends its last bit at or before `close`. -/
def State.fits (s : State) (len rate : Nat) (close : T32) : Bool :=
  let need := ((8 + len) * 8 + rate - 1) / rate
  decide ((close - s.tns).toNat < 2 ^ 31) && decide (need ≤ (close - s.tns).toNat)

/-- Count `n` frames of show frame `frame` that destination `d` drops as late (R248). -/
def State.countLate (s : State) (d frame n : Nat) : State :=
  let s := s.countBy P.LateDropCount d n
  let s := if SMap.get none s.sheet.late d = some frame then s
    else { s.count P.LateFrameCount d with sheet := { s.sheet with late := SMap.set none s.sheet.late d (some frame) } }
  let s := if d < 64 then
      ((s.setBit P.PortStatus d 5 true).wr P.PortMargin d 0).wr P.PortMinMargin d 0
    else s
  s.event Ev.lateOrUnderrun P.LateFrameCount d (BitVec.ofNat 32 n)

/-- Frames of one show frame and destination. -/
def Egress.sameShow (t : ShowTag) (x : Egress) : Bool := match x.tag with
  | some u => u.frame == t.frame && u.dest == t.dest
  | none => false

/-- Drop from the cascade queue, and count, the show frames whose first frame cannot finish by its window's close. -/
def State.dropLateCascade (s : State) (p : Nat) : Nat → State
  | 0 => s
  | fuel + 1 =>
    let q := s.stayPort p
    match q.cascade with
    | [] => s
    | x :: _ =>
      match x.tag with
      | none => s
      | some t =>
        if s.fits x.len (if s.stayFast p then 25 else 10) t.close then s
        else
          let (gone, kept) := q.cascade.partition (Egress.sameShow t)
          State.dropLateCascade ((s.setStayPort p { q with cascade := kept }).countLate t.dest t.frame gone.length) p fuel

/-- Start the next frame by strict priority when nothing is in progress and the link is up. A cascade frame starts only
if it will end by the close of its window (R248). -/
def State.stayServe (s : State) (p : Nat) : State :=
  let q := s.stayPort p
  if q.sending.isSome || !s.stayUp p then s
  else
    let s := if q.priority.isEmpty then s.dropLateCascade p q.cascade.length else s
    let q := s.stayPort p
    match q.priority, q.cascade, q.general with
    | x :: xs, _, _ => s.setStayPort p { q with sending := some x, priority := xs }
    | [], x :: xs, _ =>
      let s := s.setStayPort p { q with sending := some x, cascade := xs }
      match x.tag with
      | some t => (s.traffic P.TxShowFrameCount t.dest 1).traffic P.TxShowByteCount t.dest x.len
      | none => s
    | [], [], x :: xs => s.setStayPort p { q with sending := some x, general := xs }
    | [], [], [] => s

/-- Bytes waiting in a queue. -/
def queuedBytes (q : List Egress) : Nat := q.foldl (fun n x => n + x.len) 0

/-- Queue a frame on the priority queue, 16 frames deep. -/
def State.sendPriority (s : State) (p : Nat) (x : Egress) : State :=
  let q := s.stayPort p
  if q.priority.length ≥ 16 then s.count P.TxQueueDropCount p
  else (s.setStayPort p { q with priority := q.priority ++ [x] }).stayServe p

/-- Queue a frame on the general queue, 64 KiB deep. -/
def State.sendGeneral (s : State) (p : Nat) (x : Egress) : State :=
  let q := s.stayPort p
  if queuedBytes q.general + x.len > 65536 then s.count P.TxQueueDropCount p
  else (s.setStayPort p { q with general := q.general ++ [x] }).stayServe p

/-- Queue a cascade Shroud frame. -/
def State.sendCascade (s : State) (p : Nat) (x : Egress) : State :=
  let q := s.stayPort p
  (s.setStayPort p { q with cascade := q.cascade ++ [x] }).stayServe p

/-- The frame in progress on a stay port ends. -/
def State.stayFrameDone (s : State) (p : Nat) : State :=
  match (s.stayPort p).sending with
  | none => s
  | some x =>
    let s := s.setStayPort p { s.stayPort p with sending := none }
    let s := (s.traffic P.TxFrameCount_P3022 p 1).traffic P.TxByteCount_P3023 p x.len
    s.stayServe p

/-- A PTP message of known length to the PTP group, from and to a UDP port. -/
def State.stayPtpFrame (s : State) (p : Nat) (f : TxFrame) (port : Half) (payload : Nat) : Egress :=
  { frame := f, len := s.stayUdpLen p (s.stayV6 p) payload, net := some (s.stayGroupHead p (ptpGroup (s.stayV6 p)) port) }

/-! ### Group membership (R150) -/

/-- Membership reports leave by the general queue, while the port's link is up. -/
def State.sendReports (s : State) (p : Nat) (records : List GroupRecord) : State :=
  if s.stayActive && s.stayUp p then
    (s.reports p false records ++ s.reports p true records).foldl (fun s x => s.sendGeneral p x) s
  else s

/-- The port joins and leaves what has changed of the groups it is to have joined. -/
def State.syncGroups (s : State) (p : Nat) : State :=
  let old := (s.stayPort p).joined
  let new := s.wantedGroups p
  if old = new then s
  else
    let left := old.filter (fun x => !new.contains x)
    let come := new.filter (fun x => !old.contains x)
    (s.setStayPort p { s.stayPort p with joined := new }).sendReports p (left.map leaveRecord ++ come.map joinRecord)

def State.syncAllGroups (s : State) : State := (List.range 4).foldl State.syncGroups s

/-! ### PTP messages sent on a stay port (R134, R135) -/

/-- Seconds and nanoseconds of a full time. -/
def ptpSeconds (e : Nat) : BitVec 48 := BitVec.ofNat 48 (e / 1000000000)
def ptpNanos (e : Nat) : Word := BitVec.ofNat 32 (e % 1000000000)

/-- A Delay_Req: to the PTP group, or to the parent where P2029 asks for it and the profile is ST 2059-2, which permits it
(Table 6.5). -/
def State.delayReqFrame (s : State) (p : Nat) (domain : Byte) (seq : Half) : Egress :=
  let parent := match s.halyard.master with
    | some m => if s.rdN P.DelayReqMode 0 = 1 ∧ s.rdN P.Profile 0 = 1 then some m else none
    | none => none
  match parent with
  | some m =>
    { frame := .delayReq domain seq true, len := s.stayUdpLen p (isV6 m.addr) 44,
      net := some (s.stayHead p m.mac m.addr 319 319) }
  | none => s.stayPtpFrame p (.delayReq domain seq false) 319 44

/-- DELAY_REQ_INTERVAL: the slave port sends a Delay_Req whose egress stamp is given. A request still unanswered is
given up. -/
def State.sendDelayReq (s : State) (p : Nat) (stamp : T32) (frac : Byte) : State :=
  let slave := s.rdN P.SlavePort 0 == 0x40 + p
  if !(slave && s.bit P.StayPtpEnable 0 p && s.stayActive) || s.timeState == Ts.local then s
  else
    let q := s.stayPtp p
    let s := match q.delayReq with
      | some (old, _) => s.setEgressQ (0x40 + p) (takeStamp 1 old (s.egressQ (0x40 + p)))
      | none => s
    let seq := q.delaySeq
    let domain : Byte := (s.rd P.DomainNumber 0).setWidth 8
    let x : Stamp := { head := ⟨1, domain, seq, BitVec.ofNat 16 (p + 1)⟩, stamp := stamp, frac := stampFrac frac, flagged := false }
    let (s, valid) := s.pushEgress (0x40 + p) x
    let s := s.setStayPtp p { q with
      delayReq := if valid then some (seq, s.stampFull stamp (stampFrac frac)) else none, delaySeq := seq + 1 }
    s.sendPriority p (s.delayReqFrame p domain seq)

/-- STAY_MASTER_SYNC_INTERVAL: a port in the master state sends two-step Sync, Follow_Up and Announce. -/
def State.sendStaySync (s : State) (p : Nat) (stamp : T32) (frac : Byte) : State :=
  let q := s.stayPtp p
  if !(q.master && s.bit P.StayPtpEnable 0 p && s.stayActive) || s.stepDone || s.timeState == Ts.local then s
  else
    let domain : Byte := (s.rd P.DomainNumber 0).setWidth 8
    let x : Stamp := { head := ⟨0, domain, q.syncSeq, BitVec.ofNat 16 (p + 1)⟩, stamp := stamp, frac := stampFrac frac, flagged := false }
    let (s, valid) := s.pushEgress (0x40 + p) x
    let s := s.setStayPtp p { q with syncSeq := q.syncSeq + 1, announceSeq := q.announceSeq + 1 }
    let s := s.sendPriority p (s.stayPtpFrame p (.sync domain q.syncSeq) 319 44)
    let e := s.fullOf stamp
    let s := if valid then
        (s.setEgressQ (0x40 + p) (takeStamp 0 q.syncSeq (s.egressQ (0x40 + p)))).sendPriority p
          (s.stayPtpFrame p (.followUp domain q.syncSeq (ptpSeconds e) (ptpNanos e) ((stampFrac frac).toNat * 256)) 320 44)
      else s
    let ds := match s.halyard.master with
      | some m => { m.dataset with steps := m.dataset.steps + 1 }
      | none => s.ownDataset
    s.sendPriority p (s.stayPtpFrame p (.announce domain q.announceSeq ds) 320 64)

/-- DELAY_REQ_INTERVAL (R134). -/
def execDelayReqInterval (port : Fin 4) (stamp : T32) (frac : Byte) (s : State) : Host.Outcome State Fault Refusal :=
  done (s.sendDelayReq port stamp frac)

/-- STAY_MASTER_SYNC_INTERVAL (R134). -/
def execStayMasterSyncInterval (port : Fin 4) (stamp : T32) (frac : Byte) (s : State) :
    Host.Outcome State Fault Refusal :=
  done (s.sendStaySync port stamp frac)

/-! ### Module and link events (R145) -/

/-- MODULE_INSERTED: MOD_ABS falls. -/
def execModuleInserted (port : Fin 4) (s : State) : Host.Outcome State Fault Refusal :=
  if s.sidebandRead then done (s.setBit P.StayStatus port 1 true) else done s

/-- MODULE_ID_READ: bytes 0 to 95 of the module's A0h page, while a module is present and the bus controller runs. -/
def execModuleIdRead (port : Fin 4) (page : List Byte) (s : State) : Host.Outcome State Fault Refusal :=
  if s.pinColumn == .run && s.bit P.StayStatus port 1 then done (s.setBlob (P.ModuleId0 + port.val) (page.take 96)) else done s

/-- MODULE_REMOVED: MOD_ABS rises; the link goes down at once. -/
def execModuleRemoved (port : Fin 4) (s : State) : Host.Outcome State Fault Refusal :=
  if s.sidebandRead then done ((s.setBit P.StayStatus port 1 false).stayDown port) else done s

/-- TX_FAULT_RISE: counted, and TX_DISABLE high for 10 ms. -/
def execTxFaultRise (port : Fin 4) (s : State) : Host.Outcome State Fault Refusal :=
  if s.sidebandRead then
    let s := (s.setBit P.StayStatus port 3 true).count P.TxFaultCount port
    done (s.setStayPort port { s.stayPort port with faultStage := 1 })
  else done s

/-- TX_FAULT_RETRY: after 10 ms TX_DISABLE is driven low again. -/
def execTxFaultRetry (port : Fin 4) (s : State) : Host.Outcome State Fault Refusal :=
  if (s.stayPort port).faultStage = 1 then done (s.setStayPort port { s.stayPort port with faultStage := 2 }) else done s

/-- TX_FAULT_CHECK: 100 ms later; `high` is the level of TX_FAULT. -/
def execTxFaultCheck (port : Fin 4) (high : Bool) (s : State) : Host.Outcome State Fault Refusal :=
  if (s.stayPort port).faultStage = 2 ∧ s.sidebandRead then
    let s := s.setStayPort port { s.stayPort port with faultStage := 0 }
    let s := s.setBit P.StayStatus port 3 high
    if high then done (s.setBit P.StayStatus port 5 true) else done s
  else done s

/-- STAY_LINK_FAULT: RX_LOS or a PCS fault takes the link down. -/
def execStayLinkFault (port : Fin 4) (los : Bool) (s : State) : Host.Outcome State Fault Refusal :=
  if s.sidebandRead then
    let s := if los then s.setBit P.StayStatus port 2 true else s
    done (s.stayDown port)
  else done s

/-- STAY_LINK_UP: after 1 ms free of faults, with lock, on an enabled port with a module, the link is up. -/
def execStayLinkUp (port : Fin 4) (s : State) : Host.Outcome State Fault Refusal :=
  if s.stayActive && s.stayEnabled port && s.bit P.StayStatus port 1 && s.spllLocked port &&
      !(s.bit P.StayStatus port 5) then
    let fec := s.bit P.StayControl port 2 && s.bit P.StayControl port 1
    let s := (s.setBit P.StayStatus port 2 false).setBit P.StayStatus port 4 fec
    let s := s.setBit P.StayStatus port 0 true
    done ((s.sendReports port ((s.stayPort port).joined.map joinRecord)).stayServe port)
  else done s

/-! ### Receiving a frame (R147 to R149) -/

/-- The stay receive buffer of one port (R148). -/
def rxBufferSize : Nat := 524288

/-- Bytes held in a port's receive buffer. -/
def StayPort.rxUsed (q : StayPort) : Nat := q.rxHeld.foldl (fun n x => n + x.2) 0

/-- The oldest frame held for a destination leaves the buffer. -/
def dropFirst (d : RxDest) : List (RxDest × Nat) → List (RxDest × Nat)
  | [] => []
  | x :: xs => if x.1 = d then xs else x :: dropFirst d xs

/-- The consumer of a held frame takes it out of the buffer. -/
def State.releaseRx (s : State) (p : Nat) (d : RxDest) : State :=
  let q := s.stayPort p
  s.setStayPort p { q with rxHeld := dropFirst d q.rxHeld }

/-- The checks of R147 in their order: the counter that takes a failing frame, if any. -/
def State.frameFault (s : State) (p : Nat) (f : RxFrame) : Option Nat :=
  if f.len < 64 then some P.RxRuntCount_P3024
  else if f.len > s.rdN P.StayMaxFrame p then some P.RxOversizeCount_P3025
  else if !f.fcsOk then some P.RxFcsErrorCount_P3026
  else none

/-- The frame's tag is the one R150 accepts on the port. -/
def State.vlanOk (s : State) (p : Nat) (f : RxFrame) : Bool :=
  let vid := s.rdN P.StayVlan p % 4096
  !f.stacked && (match f.vid with
    | none => vid == 0
    | some v => vid != 0 && v.toNat == vid)

/-- A datagram's destination and source match an enabled leg of a video stream on this port. -/
def State.videoMatch (s : State) (p : Nat) (v6 : Bool) (dst : IpDst) (src : BitVec 128) (port : Half) : Bool :=
  (List.range 8).any fun n => s.bit P.StreamControl n 0 && (s.bit P.StreamControl n 7 == v6) &&
    (List.range 2).any fun leg =>
      (leg == 0 || s.bit P.StreamControl n 1) && s.legPort n leg == p &&
      s.rd P.StreamUdpPort (2 * n + leg) == port.setWidth 64 &&
      (s.legAddr P.StreamSourceV4 P.StreamSourceV6 n leg == 0 ||
        s.legAddr P.StreamSourceV4 P.StreamSourceV6 n leg == src) &&
      (match dst with
       | .group g => s.legAddr P.StreamGroupV4 P.StreamGroupV6 n leg == g
       | .unicast => s.legAddr P.StreamGroupV4 P.StreamGroupV6 n leg == 0
       | .broadcast => false)

/-- Fields of a Shroud header at the start of a UDP payload to port 49230 (Table 13.3). -/
def shroudVersion (data : List Byte) : Nat := (data.getD 0 0).toNat / 16
def shroudClass (data : List Byte) : Nat := (data.getD 0 0).toNat % 16
def shroudFormat (data : List Byte) : Nat := (data.getD 2 0).toNat
def shroudStream (data : List Byte) : Nat := beNat (sliceBytes data 4 2)

/-- A Shroud frame that an enabled cascade input takes (R167). No parameter names the group it comes to, so the model takes
that group as joined (its choice). -/
def State.toCascade (s : State) (port : Half) (data : List Byte) : Bool :=
  port == 49230 && shroudClass data == 1 &&
    (List.range 8).any (fun n => s.bit P.CascadeControl n 0 && s.rdN P.CascadeStream n == shroudStream data)

/-- Where an accepted frame goes (Table 7.3). -/
inductive RxClass
  | ptpEvent (head : PtpHead) (stamp : T32) (frac : Byte)
  | halyard
  | express (data : List Byte)
  | wdp (src : BitVec 128) (srcPort : Half) (unicast fragment : Bool) (data : List Byte)
  | held (d : RxDest)
  | answer (f : TxFrame) (len : Nat)
  | query (v6 : Bool)
  | silent
  | unclassified
  deriving DecidableEq, Repr

/-- Classify an accepted frame by the first row of Table 7.3 that matches. -/
def State.classify (s : State) (p : Nat) (f : RxFrame) : RxClass :=
  match f.payload with
  | .ptpEvent h t x => .ptpEvent h t x
  | .ptpGeneral => .halyard
  | .udp v6 dst src sp dp frag data =>
    if dp = 319 ∨ dp = 320 then .halyard
    else if dp = 49230 then
      if shroudClass data = 3 ∧ s.rdN P.ExpressEnable 0 = 1 then .express data
      else if s.toCascade dp data then .held .cascade
      else .unclassified
    else if dp = 49231 then .wdp src sp (dst == .unicast) frag data
    else if dp = 49232 ∧ dst = .group s.pennantGroup then .held .pennant
    else if dp = 5568 then .held .sacn
    else if s.videoMatch p v6 dst src dp then .held .video
    else .unclassified
  | .arp target =>
    if target.setWidth 64 = s.rd P.StayIpv4 p ∧ target ≠ 0 then .answer (.arpReply target) 64 else .silent
  | .solicit target =>
    if target = s.stayIp6 p ∨ target = linkLocal p then .answer (.neighbourAdvert target) 90 else .silent
  | .echo v6 own => if own then .answer (.echoReply v6) f.len else .silent
  | .groupQuery v6 => .query v6
  | .pause => .silent
  | .other => .unclassified

/-- A group frame is one of a group the port has joined: of PTP, of a datagram's group, of the solicited-node groups of its own
addresses, or of all hosts, to which membership queries come. -/
def State.inGroup (s : State) (p : Nat) : RxPayload → Bool
  | .ptpEvent _ _ _ | .ptpGeneral => s.holdsGroup p (ptpGroup false) || s.holdsGroup p (ptpGroup true)
  | .udp _ (.group g) _ _ dp _ data => s.holdsGroup p g || s.toCascade dp data
  | .solicit target =>
    let low := fun (a : BitVec 128) => a.extractLsb' 0 24
    low target == low (s.stayIp6 p) || low target == low (linkLocal p)
  | .groupQuery _ => true
  | .udp _ _ _ _ _ _ _ | .arp _ | .echo _ _ | .pause | .other => false

/-- The frame is addressed to this port (R149): to its own address, broadcast, or to a group it has joined. -/
def State.accepts (s : State) (p : Nat) (f : RxFrame) : Bool :=
  match f.mac with
  | .own | .broadcast => true
  | .multicast => s.inGroup p f.payload
  | .other => false

/-- Hold a frame in the receive buffer if the whole frame fits (R148). -/
def State.holdRx (s : State) (p : Nat) (d : RxDest) (len : Nat) : State :=
  let q := s.stayPort p
  if q.rxUsed + len > rxBufferSize then s.count P.RxOverflowCount_P3027 p
  else s.setStayPort p { q with rxHeld := q.rxHeld ++ [(d, len)] }

end Sys2Proof.Machine
end

