-- ==== Sys2Proof/Machine/Video.lean ====
section
/-! DEFINITION. Video ingest (R152 to R162): the seamless merge, placement into the ring of three slots, and the
selection at the latch. The slot rules serve cascade inputs too. -/
namespace Sys2Proof.Machine

/-! ### Rings of three slots (R155, R156) -/

/-- Cover an extent: extents stay rising, disjoint and joined where they touch. -/
def coverAdd (a b : Nat) : List (Nat × Nat) → List (Nat × Nat)
  | [] => if a < b then [(a, b)] else []
  | (x, y) :: rest =>
    if b < x then (if a < b then (a, b) :: (x, y) :: rest else (x, y) :: rest)
    else if y < a then (x, y) :: coverAdd a b rest
    else coverAdd (min a x) (max b y) rest

/-- Slot roles differ from S and N: the lowest-numbered slot that is neither. -/
def Ring.freeSlot (r : Ring) : Fin 3 :=
  let used := fun (i : Fin 3) => (r.selected.map (·.1)) == some i || (r.newest.map (·.1)) == some i
  if !used 0 then 0 else if !used 1 then 1 else 2

/-- Open a frame of time stamp `u` in the writing slot. -/
def Ring.openFrame (r : Ring) (u : Word) : Ring := { r with writing := some (r.freeSlot, u), cover := [] }

/-- The frame being written covers all of its `total` bytes. -/
def Ring.complete (r : Ring) (total : Nat) : Bool := r.cover == [(0, total)]

/-- Close the frame being written in a clock: complete frames become N. -/
def Ring.closeFrame (r : Ring) (total clock : Nat) : Ring × Bool :=
  match r.writing with
  | none => (r, false)
  | some w =>
    if r.complete total then
      ({ r with writing := none, cover := [], newest := some w, completed := clock,
                before := if r.completed = clock then r.before else r.newest }, true)
    else ({ r with writing := none, cover := [] }, false)

/-- The frame that may be selected at a latch in a clock: N, but not one that has become complete in that clock (R158). -/
def Ring.candidate (r : Ring) (clock : Nat) : Option (Fin 3 × Word) := if r.completed = clock then r.before else r.newest

/-- `u` is newer than `v`: `(u - v) mod 2^32` from 1 to `2^31 - 1`. -/
def newer (u v : Word) : Bool := future u v

/-! ### Stream geometry (Table 7.4, R154) -/

/-- Octets and pixels of a pgroup of a stream format. -/
def pgroup (format : Nat) : Nat × Nat := if format = 0 then (5, 2) else if format = 1 then (15, 4) else (9, 2)

/-- Payload bytes of a line. -/
def State.lineBytes (s : State) (n : Nat) : Nat :=
  let (o, px) := pgroup (s.rdN P.StreamFormat n)
  s.rdN P.StreamWidth n / px * o

/-- Round up to a multiple. -/
def roundUp (x m : Nat) : Nat := (x + m - 1) / m * m

/-- Line stride of a stream's ring. -/
def State.stride (s : State) (n : Nat) : Nat := roundUp (s.lineBytes n) 256

/-- P310E SlotSize. -/
def State.slotSize (s : State) (n : Nat) : Nat := roundUp (s.stride n * s.rdN P.StreamHeight n) 4096

/-- Bytes of the active picture. -/
def State.pictureBytes (s : State) (n : Nat) : Nat := s.lineBytes n * s.rdN P.StreamHeight n

/-! ### Placement (R154, R155) -/

/-- Close the frame being written of a stream, with its counts. -/
def State.closeVideo (s : State) (n : Nat) : State :=
  let v := s.vid n
  if v.ring.writing.isNone then s
  else
    let (r, ok) := v.ring.closeFrame (s.pictureBytes n) s.clock
    let s := s.setVid n { v with ring := r }
    if ok then s.traffic P.CompleteFrameCount n 1 else s.count P.IncompleteFrameCount n

/-- Write one segment, or count it as a format error. -/
def State.placeSrd (s : State) (n : Nat) (d : Srd) : State :=
  let (oct, px) := pgroup (s.rdN P.StreamFormat n)
  let groups := d.bytes.length / oct
  if d.row ≥ s.rdN P.StreamHeight n ∨ d.offset + groups * px > s.rdN P.StreamWidth n ∨ d.bytes.length % oct ≠ 0 ∨
      d.offset % px ≠ 0 then
    s.count P.FormatErrorCount n
  else
    let v := s.vid n
    match v.ring.writing with
    | none => s
    | some (w, _) =>
      let x := d.offset / px * oct
      let s := s.setDram (s.rdN P.RingBase n + w.val * s.slotSize n + d.row * s.stride n + x) d.bytes
      let a := d.row * s.lineBytes n + x
      s.setVid n { v with ring := { v.ring with cover := coverAdd a (a + d.bytes.length) v.ring.cover } }

/-- VIDEO_PLACEMENT: a released packet is placed (R154). -/
def State.placeVideo (s : State) (n : Nat) (p : RtpPacket) : State :=
  let s := s.traffic P.StreamPacketCount n 1
  if p.field then s.count P.FormatErrorCount n
  else
    let cur := (s.vid n).ring.writing.map (·.2)
    let older := match cur with
      | some c => p.timestamp != c && !newer p.timestamp c
      | none => false
    if older then s.count P.LatePacketCount n
    else
      let s := if cur = some p.timestamp then s
        else
          let s := s.closeVideo n
          s.setVid n { s.vid n with ring := (s.vid n).ring.openFrame p.timestamp }
      let s := (p.srds.take 3).foldl (fun s d => s.placeSrd n d) s
      if p.marker then s.closeVideo n else s

/-! ### Seamless merge (R160) -/

/-- The held packet of a sequence, if any. -/
def Video.heldAt (v : Video) (seq : Word) : Option RtpPacket := v.held.find? (fun p => p.seq == seq)

/-- Release held packets while the next sequence is held. -/
def State.releaseRun (s : State) (n : Nat) : Nat → State
  | 0 => s
  | fuel + 1 =>
    let v := s.vid n
    match v.highest with
    | none => s
    | some h =>
      match v.heldAt (h + 1) with
      | none => s
      | some p =>
        let s := s.setVid n { v with highest := some (h + 1), seenCount := min 32768 (v.seenCount + 1),
                                     held := v.held.filter (fun q => q.seq != h + 1) }
        State.releaseRun (s.placeVideo n p) n fuel

/-- The oldest held packet has waited long enough: every sequence missing before it is lost, and release goes on. -/
def State.expireHold (s : State) (n : Nat) : Nat → State
  | 0 => s
  | fuel + 1 =>
    let v := s.vid n
    match v.highest, v.held with
    | some h, oldest :: _ =>
      -- the held packet that comes next in sequence order
      let next := v.held.foldl (fun (m : RtpPacket) q => if q.seq - h < m.seq - h then q else m) oldest
      let missing := (next.seq - h).toNat - 1
      let s := if missing = 0 then s else s.countBy P.LostPacketCount n missing
      let v := s.vid n
      let s := s.setVid n { v with highest := some (next.seq - 1), seenCount := min 32768 (v.seenCount + missing) }
      let s := s.releaseRun n (v.held.length)
      -- the loop goes on until the packet that waited has been released
      match (s.vid n).heldAt oldest.seq with
      | some _ => State.expireHold s n fuel
      | none => s
    | _, _ => s

/-- Payload bytes of a packet. -/
def packetBytes (p : RtpPacket) : Nat := p.srds.foldl (fun n d => n + d.bytes.length) 0

/-- Payload bytes in the reorder store of 6 MiB that all streams share (R161). -/
def State.reorderUsed (s : State) : Nat := s.video.foldl (fun n x => x.2.held.foldl (fun n p => n + packetBytes p) n) 0
def reorderSize : Nat := 6291456

/-- The packet is not one that waits: it is next in sequence, or the reorder store has room for it. One that finds no room is
lost, as if its leg had not delivered it (the model's choice). -/
def State.reorderFits (s : State) (v : Video) (h : Word) (p : RtpPacket) : Bool :=
  p.seq == h + 1 || (v.heldAt p.seq).isSome || decide (s.reorderUsed + packetBytes p ≤ reorderSize)

/-- One leg delivers a packet first. -/
def State.legFirst (s : State) (n leg : Nat) (p : RtpPacket) : State :=
  let v := s.vid n
  let s := { s with now := { s.now with first := (n, leg, p.seq, v.legBFirst) :: s.now.first } }
  let v := if leg = 0 then { v with legAFirst := some s.clock } else { v with legBFirst := some s.clock }
  (s.setVid n v).traffic P.LegFirstCount (2 * n + leg) 1

/-- Leg A's copy comes in the clock of leg B's: leg A's packet is the one taken (R160). The two are identical, so what changes
is the leg that is counted. -/
def State.preferA (s : State) (n : Nat) (p : RtpPacket) (before : Option Nat) : State :=
  let s := s.wr P.LegFirstCount (2 * n + 1) (s.rd P.LegFirstCount (2 * n + 1) - 1)
  (s.setVid n { s.vid n with legBFirst := before }).legFirst n 0 p

/-- The merge procedure of R160 for one packet of a leg. -/
def State.mergePacket (s : State) (n leg : Nat) (p : RtpPacket) : State :=
  let v := s.vid n
  let h := v.highest.getD (p.seq - 1)
  let v := { v with highest := some h }
  let d := (p.seq - h).toNat
  let back := (h - p.seq).toNat
  if d = 0 ∨ (2 ^ 32 - 32767 ≤ d ∧ back < v.seenCount) then
    (s.setVid n v).count P.DuplicateCount_P3121 n
  else if 2 ^ 31 ≤ d then
    let s := (s.setVid n { v with late := v.late + 1 }).count P.LatePacketCount n
    if v.late + 1 = 64 then
      (s.setVid n { s.vid n with highest := some (p.seq - 1), seenCount := 0, late := v.late + 1 }).count
        P.ResyncCount_P3128 n
    else s
  else
    let v := { v with late := 0 }
    if (v.heldAt p.seq).isSome ∨ !s.reorderFits v h p then s.setVid n v
    else
      let v := { v with held := v.held ++ [p] }
      ((s.setVid n v).legFirst n leg p).releaseRun n v.held.length

/-- The procedure, with the rule for copies of one packet that come from both legs in one clock. -/
def State.mergeLegs (s : State) (n leg : Nat) (p : RtpPacket) : State :=
  match s.now.first.find? (fun x => x.1 == n && x.2.1 != leg && x.2.2.1 == p.seq) with
  | none => s.mergePacket n leg p
  | some x =>
    let s := s.count P.DuplicateCount_P3121 n
    if leg = 0 then s.preferA n p x.2.2.2 else s

/-- A leg's packet reaches its stream: the stream is enabled and uses the leg, and the payload type is its own. -/
def State.takeRtp (s : State) (n leg : Nat) (p : RtpPacket) : State :=
  let s := s.releaseRx (s.legPort n leg) .video
  if !(s.bit P.StreamControl n 0) || (leg == 1 && !(s.bit P.StreamControl n 1)) then s
  else if p.payloadType.setWidth 64 ≠ s.rd P.StreamPayloadType n then s.count P.FormatErrorCount n
  else s.mergeLegs n leg p

/-- RTP_PACKET (R160). -/
def execRtpPacket (stream : Fin 8) (leg : Fin 2) (packet : RtpPacket) (s : State) : Host.Outcome State Fault Refusal :=
  done (s.takeRtp stream leg packet)

/-- MERGE_HOLD_EXPIRY (R160). -/
def execMergeHoldExpiry (stream : Fin 8) (s : State) : Host.Outcome State Fault Refusal :=
  done (s.expireHold stream ((s.vid stream).held.length))

/-! ### Selection at the latch (R157 to R159) -/

/-- The 90 kHz media clock at a full time in ns (R157). -/
def mediaClock (e : Nat) : Word := BitVec.ofNat 32 (e * 9 / 100000)

/-- Take a selection into the ring: S is the slot chosen, or none; a repeat is the same frame as before. -/
def Ring.take (r : Ring) (x : Option (Fin 3 × Word)) : Ring :=
  { r with selected := x, hasSelected := r.hasSelected || x.isSome, inUse := x.isSome }

/-- VIDEO_SELECT of one stream at L(k). -/
def State.selectVideo (s : State) (n k : Nat) : State :=
  let v := s.vid n
  if field (s.lv P.StreamControl n) 0 1 = 0 ∨ !(s.bit P.StreamControl n 0) then s.setVid n { v with ring := v.ring.take none }
  else
    let timed := field (s.lv P.StreamControl n) 6 1 = 1
    let e := boundary s.halyard.grid.rate (k - s.halyard.grid.lead - 1) - s.blank - s.lvN P.SelectOffset n
    let q := mediaClock e
    let choice := match v.ring.candidate s.clock with
      | none => none
      | some (i, u) =>
        if !timed || decide ((q - u).toNat < 2 ^ 31) then some (i, u)
        else if v.ring.hasSelected then v.ring.selected else none
    let rep := choice.isSome && choice == v.ring.selected
    let s := s.setVid n { v with ring := v.ring.take choice }
    if rep then s.count P.RepeatCount n else s

/-- The stream starts afresh when it is enabled. -/
def State.startVideo (s : State) (n : Nat) : State :=
  s.setVid n { Video.init with ring := { Ring.init with inUse := (s.vid n).ring.inUse } }

/-- A ring keeps its memory and loses its frames across Reefed and Furled (R159). -/
def Ring.loseFrames (_r : Ring) : Ring := Ring.init

/-- A return to Run: frames completed and selections made before it no longer count (R157, R168). -/
def Ring.forget (r : Ring) : Ring := { r with selected := none, newest := none, before := none, hasSelected := false }

end Sys2Proof.Machine
end

