-- ==== Sys2Proof/Machine/Canvas.lean ====
section
/-! DEFINITION. Canvas (chapter 9): working values, image and generator layers, blending, the commits with their
replacement, the status of layers and the release of clip frames. -/
namespace Sys2Proof.Machine

/-! ### Working values (R191) -/

/-- A working colour with alpha: U2.16 components and U1.16 alpha. -/
structure Rgba where
  r : Int
  g : Int
  b : Int
  a : Int
  deriving DecidableEq, Repr

/-- The largest component, 262,143. -/
def compMax : Int := 262143

/-- R191's product: halves round upward. -/
def mul16 (x f : Int) : Int := (x * f + 32768) / 65536

/-- A component held within its range. -/
def clampComp (x : Int) : Int := if x < 0 then 0 else if x > compMax then compMax else x

/-- The working value of a colour word. -/
def colourWord (w : Wide) : Rgba :=
  { r := field w 48 16 * 4, g := field w 32 16 * 4, b := field w 16 16 * 4, a := (min (field w 0 16) 16384) * 4 }

/-- `x + mul(y - x, f)` in every component, alpha included. -/
def Rgba.mix (x y : Rgba) (f : Int) : Rgba :=
  { r := x.r + mul16 (y.r - x.r) f, g := x.g + mul16 (y.g - x.g) f, b := x.b + mul16 (y.b - x.b) f,
    a := x.a + mul16 (y.a - x.a) f }

/-- One blend step on one component (Table 9.3). -/
def blendComp (mode : Nat) (d x f : Int) : Int :=
  clampComp (match mode with
    | 0 => d + mul16 (x - d) f
    | 1 => min (d + mul16 x f) compMax
    | 2 => d + mul16 (mul16 d x - d) f
    | 3 => d + mul16 (max d x - d) f
    | _ => d + mul16 (min d x - d) f)

/-- A blend step of a sample with a layer's opacity over what lies beneath (R196). -/
def Rgba.blend (mode : Nat) (opacity : Nat) (d x : Rgba) : Rgba :=
  let f := mul16 x.a (4 * opacity)
  { d with r := blendComp mode d.r x.r f, g := blendComp mode d.g x.g f, b := blendComp mode d.b x.b f }

/-! ### Generators (R197, R198) -/

/-- The 16-bit lattice value of the noise generator. -/
def noiseHash (seed : Word) (x y t : Int) : Nat :=
  let h := seed ^^^ (BitVec.ofInt 32 x * 0x9E3779B1) ^^^ (BitVec.ofInt 32 y * 0x85EBCA77) ^^^ (BitVec.ofInt 32 t * 0xC2B2AE3D)
  let h := h ^^^ (h >>> 15)
  let h := h * 0x2C1B3C6D
  let h := h ^^^ (h >>> 12)
  let h := h * 0x297A2D39
  let h := h ^^^ (h >>> 15)
  (h >>> 16).toNat

/-- The noise factor at a point (R198). -/
def noiseFactor (seed : Word) (du dv : Int) (cell : Nat) (t : Int) : Int :=
  let c : Int := cell
  let x := du / c
  let y := dv / c
  let fx := (du - x * c) * 65536 / c
  let fy := (dv - y * c) * 65536 / c
  let n := fun (i j : Int) => ((noiseHash seed (x + i) (y + j) t : Nat) : Int)
  let a := n 0 0 + mul16 (n 1 0 - n 0 0) fx
  let b := n 0 1 + mul16 (n 1 1 - n 0 1) fx
  a + mul16 (b - a) fy

/-- GenSpeed as noise and strobe use it. -/
def heldSpeed (v : Int) : Int := if v < 1 then 1 else if v > 65535 then 65535 else v

/-- The factor t of generator `g` (8 × canvas + generator) at a point in frame `k32` (Table 9.4); its sums are signed 64-bit ones. -/
def State.genFactor (s : State) (g : Nat) (u v : Int) (k32 : Nat) : Int :=
  let du := u - s.lvS32 P.GenOriginU g
  let dv := v - s.lvS32 P.GenOriginV g
  let p := wrap64 (du * s.lvS32 P.GenVectorU g + dv * s.lvS32 P.GenVectorV g) / 256
  let ctl := s.lv P.GenControl g
  let shape := s.lv P.GenShape g
  let speed := s.lvS32 P.GenSpeed g
  match field ctl 0 3 with
  | 1 =>
    match field ctl 6 2 with
    | 0 => if p < 0 then 0 else if p > 65536 then 65536 else p
    | 1 => p % 65536
    | _ => let q := p % 131072; if q ≤ 65536 then q else 131072 - q
  | 2 => noiseFactor ((s.lv P.GenSeed g).setWidth 32) du dv (s.lvN P.GenCell g) ((k32 : Int) / heldSpeed speed)
  | 3 =>
    let q := wrap64 (p - (k32 : Int) * speed) % 65536
    let w : Int := field shape 0 16
    let e : Int := field shape 16 16
    let x : Int := if q < w then 65536 else if q < w + e then 65536 - ((q - w) * 65536) / e else 0
    65536 - x
  | _ =>
    let phase : Int := field shape 16 16
    let on : Int := field shape 0 16
    if ((k32 : Int) + phase) % heldSpeed speed < on then 0 else 65536

/-- The output of a generator at a point. -/
def State.genSample (s : State) (g : Nat) (u v : Int) (k32 : Nat) : Rgba :=
  (colourWord (s.lv P.GenColourA g)).mix (colourWord (s.lv P.GenColourB g)) (s.genFactor g u v k32)

/-! ### Image sources (R192 to R195) -/

/-- A component held in 8 bits of a linear or alpha channel. -/
def linear8 (b : Byte) : Int := (b.toNat * 65536 + 127) / 255

/-- A pixel of a format of Table 9.2 from its bytes. -/
def clipPixel (format : Nat) (b : List Byte) : Rgba :=
  let x := fun i => b.getD i 0
  match format with
  | 0 => { r := min (Config.srgbCurve (x 0).toNat) 262143, g := min (Config.srgbCurve (x 1).toNat) 262143,
           b := min (Config.srgbCurve (x 2).toNat) 262143, a := linear8 (x 3) }
  | 1 => { r := linear8 (x 0), g := linear8 (x 1), b := linear8 (x 2), a := linear8 (x 3) }
  | _ =>
    let h := fun i => leNat (sliceBytes b (2 * i) 2)
    { r := h 0 * 4, g := h 1 * 4, b := h 2 * 4, a := (min (h 3) 16384) * 4 }

/-- Bytes per pixel of a format of Table 9.2. -/
def clipPixelBytes (format : Nat) : Nat := if format = 2 then 8 else 4

/-- Sample `i` of a pgroup, most significant bit first. -/
def pgroupSample (bits : Nat) (b : List Byte) (i : Nat) : Nat :=
  beNat b / 2 ^ (8 * b.length - bits * (i + 1)) % 2 ^ bits

/-- The bytes of the pgroup that holds pixel `x` of row `y` of a stream's slot. -/
def State.streamGroup (s : State) (n slot x y : Nat) : List Byte :=
  let (oct, px) := pgroup (s.rdN P.StreamFormat n)
  s.getDram (s.rdN P.RingBase n + slot * s.slotSize n + y * s.stride n + x / px * oct) oct

/-- Chroma of the even pixel `x`: Cb and Cr of its pgroup (Cb, Y0, Cr, Y1). -/
def State.chromaAt (s : State) (n slot x y : Nat) : Nat × Nat :=
  let b := s.streamGroup n slot x y
  (pgroupSample 10 b 0, pgroupSample 10 b 2)

/-- Chroma of any pixel of a 4:2:2 row: odd pixels take the mean of their even neighbours, the last pixel its left
neighbour's (R195). -/
def State.chroma (s : State) (n slot x y : Nat) : Nat × Nat :=
  let left := s.chromaAt n slot (x - x % 2) y
  if x % 2 = 0 ∨ x + 1 ≥ s.rdN P.StreamWidth n then left
  else
    let right := s.chromaAt n slot (x + 1) y
    ((left.1 + right.1 + 1) / 2, (left.2 + right.2 + 1) / 2)

/-- The 12-bit narrow-range codes of the nominal peak and of 75 % signal, 16 times those of 8 bits. -/
abbrev peakCode : Nat := 3760
abbrev hlgWhiteCode : Nat := 2884

/-- A 12-bit code through the transfer LUT of P5040: SDR maps the nominal peak, and HLG 75 % signal, to 1.0; what else P5040 holds
is not stated (R195). Results above 262,143 are clamped. -/
def lutValue (transfer reference code : Nat) : Nat :=
  if (transfer = 0 ∧ code = peakCode) ∨ (transfer = 2 ∧ code = hlgWhiteCode) then 65536
  else min (Config.transferLut transfer reference code) 262143

/-- A video tap as a working value (R195). -/
def State.videoPixel (s : State) (n slot x y : Nat) : Rgba :=
  let colour := s.rd P.StreamColorimetry n
  let transfer := field colour 0 2
  let b := s.streamGroup n slot x y
  let code : Nat × Nat × Nat := match s.rdN P.StreamFormat n with
    | 0 =>
      let c := s.chroma n slot x y
      Config.colourMatrix (field colour 4 1) 10 (pgroupSample 10 b (1 + 2 * (x % 2)), c.1, c.2)
    | 1 => (Config.scaleTo12 10 (pgroupSample 10 b (3 * (x % 4))), Config.scaleTo12 10 (pgroupSample 10 b (3 * (x % 4) + 1)),
            Config.scaleTo12 10 (pgroupSample 10 b (3 * (x % 4) + 2)))
    | _ => (pgroupSample 12 b (3 * (x % 2)), pgroupSample 12 b (3 * (x % 2) + 1), pgroupSample 12 b (3 * (x % 2) + 2))
  let t := fun (v : Nat) => ((lutValue transfer (s.lvN P.PqReference 0) v : Nat) : Int)
  { r := t code.1, g := t code.2.1, b := t code.2.2, a := 65536 }

/-- The frame a layer samples (Table 9.1). -/
inductive SourceFrame
  | video (stream slot : Nat)
  | raster (base width height stride format : Nat)
  deriving DecidableEq, Repr

/-- Row stride, height and slot size of a cascade ring (R167). -/
def State.cascadeStride (s : State) (n : Nat) : Nat := roundUp (s.rdN P.CascadeWidth n * 8) 256
def State.cascadeHeight (s : State) (n : Nat) : Nat :=
  let w := s.rdN P.CascadeWidth n
  (s.rdN P.CascadeElements n + w - 1) / w
def State.cascadeSlot (s : State) (n : Nat) : Nat := roundUp (s.cascadeStride n * s.cascadeHeight n) 4096

/-- The image frame of a layer (16 × canvas + layer); none where its source has no frame or is a generator. -/
def State.layerFrame (s : State) (l : Nat) : Option SourceFrame :=
  let ctl := s.lv P.LayerControl l
  let i := field ctl 20 3
  match field ctl 16 2 with
  | 0 => (s.vid i).ring.selected.map (fun x => .video i x.1.val)
  | 1 => (s.casc i).ring.selected.map (fun x =>
      .raster (s.rdN P.CascadeRingBase i + x.1.val * s.cascadeSlot i) (s.rdN P.CascadeWidth i) (s.cascadeHeight i)
        (s.cascadeStride i) 2)
  | 2 =>
    let a := s.lvN P.LayerClipAddress l
    let g := s.lv P.LayerClipGeometry l
    if a = 0 then none
    else some (.raster a (field g 16 16) (field g 0 16) (s.lvN P.LayerClipStride l) (s.lvN P.LayerClipFormat l))
  | _ => none

/-- Width and height of a source frame. -/
def State.frameSize (s : State) : SourceFrame → Nat × Nat
  | .video n _ => (s.rdN P.StreamWidth n, s.rdN P.StreamHeight n)
  | .raster _ w h _ _ => (w, h)

/-- One pixel of a source frame. -/
def State.framePixel (s : State) (f : SourceFrame) (x y : Nat) : Rgba :=
  match f with
  | .video n slot => s.videoPixel n slot x y
  | .raster base _ _ stride format =>
    clipPixel format (s.getDram (base + y * stride + x * clipPixelBytes format) (clipPixelBytes format))

/-- A tap coordinate clamped to the pixels whose centres lie in the source rectangle, and of those to the pixels of the
frame; where the rectangle holds none of the frame's pixels, to the frame alone (R192). -/
def clampTap (rectLo rectSize : Int) (size : Nat) (i : Int) : Nat :=
  let lo := (rectLo - 128 + 255) / 256
  let hi := (rectLo + rectSize - 128 + 255) / 256 - 1
  let flo := max lo 0
  let fhi := min hi ((size : Int) - 1)
  if fhi < flo then (min (max i 0) ((size : Int) - 1)).toNat else (min (max i flo) fhi).toNat

/-- The pixel of a layer's source at integer pixel coordinates, clamped and converted. -/
def State.tap (s : State) (l : Nat) (f : SourceFrame) (x y : Int) : Rgba :=
  let (w, h) := s.frameSize f
  s.framePixel f (clampTap (s.lvS32 P.LayerSrcX l) (s.lvN P.LayerSrcW l) w x)
    (clampTap (s.lvS32 P.LayerSrcY l) (s.lvN P.LayerSrcH l) h y)

/-- The source position of a canvas point in one axis (R192). -/
def sourcePos (dst dstSize src srcSize u : Int) : Int := src + ((u - dst) * (srcSize * 65536 / dstSize)) / 65536

def State.sourceX (s : State) (l : Nat) (u : Int) : Int :=
  sourcePos (s.lvS32 P.LayerDstX l) (s.lvN P.LayerDstW l) (s.lvS32 P.LayerSrcX l) (s.lvN P.LayerSrcW l) u

def State.sourceY (s : State) (l : Nat) (v : Int) : Int :=
  sourcePos (s.lvS32 P.LayerDstY l) (s.lvN P.LayerDstH l) (s.lvS32 P.LayerSrcY l) (s.lvN P.LayerSrcH l) v

/-- The nearest tap of a canvas point. -/
def State.nearest (s : State) (l : Nat) (f : SourceFrame) (u v : Int) : Rgba :=
  s.tap l f (s.sourceX l u / 256) (s.sourceY l v / 256)

/-- The sum of samples in every component. -/
def Rgba.add (x y : Rgba) : Rgba := { r := x.r + y.r, g := x.g + y.g, b := x.b + y.b, a := x.a + y.a }

/-- The filtered sample of an image layer (Table 10.5). -/
def State.imageSample (s : State) (l : Nat) (f : SourceFrame) (filter side : Nat) (u v : Int) : Rgba :=
  match filter with
  | 0 => s.nearest l f u v
  | 1 =>
    let sx := s.sourceX l u - 128
    let sy := s.sourceY l v - 128
    let x0 := sx / 256
    let y0 := sy / 256
    let fx := 256 * (sx % 256)
    let fy := 256 * (sy % 256)
    let top := (s.tap l f x0 y0).mix (s.tap l f (x0 + 1) y0) fx
    let bottom := (s.tap l f x0 (y0 + 1)).mix (s.tap l f (x0 + 1) (y0 + 1)) fx
    top.mix bottom fy
  | n =>
    let sum := (List.range (n * n)).foldl (fun (acc : Rgba) i =>
      acc.add (s.nearest l f (u + tapOffset n side (i % n)) (v + tapOffset n side (i / n)))) ⟨0, 0, 0, 0⟩
    let n2 : Int := n * n
    let avg := fun (x : Int) => (x + n2 / 2) / n2
    { r := avg sum.r, g := avg sum.g, b := avg sum.b, a := avg sum.a }

/-! ### The stack at one point (R190, R192, R196, R199) -/

/-- The point lies in the destination rectangle of a layer. -/
def State.inDst (s : State) (l : Nat) (u v : Int) : Bool :=
  let x := s.lvS32 P.LayerDstX l
  let y := s.lvS32 P.LayerDstY l
  decide (x ≤ u) && decide (u < x + s.lvN P.LayerDstW l) && decide (y ≤ v) && decide (v < y + s.lvN P.LayerDstH l)

/-- Lane clocks of an image layer by filter (Table 9.6). -/
def imageCost (filter : Nat) : Nat := if filter ≤ 2 then 1 else (filter * filter + 3) / 4

/-- The sample of a layer at a point with its lane cost, where the layer takes part. -/
def State.layerSample (s : State) (canvas layer : Nat) (e : ElementRecord) (side : Nat) (u v : Int) (k32 : Nat) :
    Option (Rgba × Nat) :=
  let l := 16 * canvas + layer
  let ctl := s.lv P.LayerControl l
  if field ctl 0 1 = 0 ∨ !(s.inDst l u v) then none
  else if field ctl 16 2 = 3 then
    let g := 8 * canvas + field ctl 20 3
    let type := field (s.lv P.GenControl g) 0 3
    if type = 0 then none else some (s.genSample g u v k32, if type = 2 then 2 else 1)
  else (s.layerFrame l).map (fun f => (s.imageSample l f e.filter side u v, imageCost e.filter))

/-- The stack of a canvas at a point: the colour and the lane clocks of its layers. -/
def State.stackAt (s : State) (e : ElementRecord) (side : Nat) (u v : Int) (k32 : Nat) : Rgba × Nat :=
  (List.range 16).foldl (fun (acc : Rgba × Nat) layer =>
    match s.layerSample e.canvas layer e side u v k32 with
    | none => acc
    | some (x, c) =>
      let l := 16 * e.canvas + layer
      (Rgba.blend (field (s.lv P.LayerControl l) 8 3) (s.lvN P.LayerOpacity l) acc.1 x, acc.2 + c))
    (colourWord (s.lv P.CanvasBackground e.canvas), 0)

/-- The working colour of an element and the lane clocks charged for it (R190, R199, R207). -/
def State.evalElement (s : State) (e : ElementRecord) (m : Mapped) (k32 : Nat) : Rgba × Nat :=
  if field (s.lv P.CanvasControl e.canvas) 0 1 = 0 then (⟨0, 0, 0, 0⟩, 1)
  else if !(s.inExtent e.canvas m.u m.v) then (colourWord (s.lv P.CanvasBackground e.canvas), 1)
  else
    let (d, c) := s.stackAt e (s.boxSide e m) m.u m.v k32
    (d, c + 1)

/-! ### Layer status (Table 9.12) and release (R204) -/

/-- A layer's live source has no frame. -/
def State.noFrame (s : State) (l : Nat) : Bool :=
  let ctl := s.lv P.LayerControl l
  if field ctl 16 2 = 3 then field (s.lv P.GenControl (8 * (l / 16) + field ctl 20 3)) 0 3 == 0 else (s.layerFrame l).isNone

/-- The ring slot a layer samples; 3 for none. -/
def State.layerSlot (s : State) (l : Nat) : Nat :=
  let ctl := s.lv P.LayerControl l
  let i := field ctl 20 3
  let sel := match field ctl 16 2 with
    | 0 => (s.vid i).ring.selected
    | 1 => (s.casc i).ring.selected
    | _ => none
  match sel with
  | some x => x.1.val
  | none => 3

/-- LayerStatus as it stands after a latch; ReleaseState is kept. -/
def State.showLayer (s : State) (l : Nat) : State :=
  let ctl := s.lv P.LayerControl l
  let release := s.fld P.LayerStatus l 24 2
  s.wr P.LayerStatus l (BitVec.ofNat 64 (release * 2 ^ 24 + (s.noFrame l).toNat * 2 ^ 23 + field ctl 0 1 * 2 ^ 22 +
    field ctl 16 2 * 2 ^ 20 + field ctl 20 3 * 2 ^ 16 + s.layerSlot l))

/-- A change from one pair of LayerControl and clip address to another retires the old address (R204): the address
changes, the source moves away from clip, or Enable clears. Address 0 names no frame. -/
def retires (ctl addr ctl' addr' : Wide) : Bool :=
  addr != 0 && (addr != addr' || (field ctl 16 2 == 2 && field ctl' 16 2 != 2) || (field ctl 0 1 == 1 && field ctl' 0 1 == 0))

/-! ### Commits (R201 to R203, R218) -/

/-- Parameters of a layer, of the canvas settings, of a generator and of a projection. -/
def layerParams : List Nat := (List.range 14).map (0x5100 + ·)
def canvasParams : List Nat := [0x5010, 0x5011, 0x5012]
def genParams : List Nat := (List.range 11).map (0x5200 + ·)

/-- Register keys that an item of a canvas takes: layers 0 to 15, settings 16, generators 24 to 31, projection 32. -/
def itemKeys (c item : Nat) : List Nat :=
  if item < 16 then layerParams.map (fun p => Dict.key p (16 * c + item))
  else if item = 16 then canvasParams.map (fun p => Dict.key p c)
  else if item < 32 then genParams.map (fun p => Dict.key p (8 * c + (item - 24)))
  else
    [Dict.key 0x6100 c, Dict.key 0x6104 c, Dict.key 0x6105 c, Dict.key 0x6102 (2 * c), Dict.key 0x6102 (2 * c + 1),
      Dict.key 0x6103 (2 * c), Dict.key 0x6103 (2 * c + 1)] ++ (List.range 12).map (fun j => Dict.key 0x6101 (12 * c + j))

/-- The shadow value of a register key. -/
def State.shadow (s : State) (key : Nat) : Wide := SMap.get (Dict.dflt key) s.regs key

/-- The committed value of a key that awaits its latch, or else its live value. -/
def State.committedOr (s : State) (key : Nat) : Wide :=
  (SMap.find s.render.committed key).getD (SMap.get (Dict.dflt key) s.live key)

def State.setRender (s : State) (r : Render) : State := { s with render := r }

/-- The item has a commit that awaits its latch. -/
def State.itemPending (s : State) (c item : Nat) : Bool :=
  s.render.items.any (fun x => x.canvas == c && x.item == item)

/-- The frame from which a commit written now applies: the frame it is timed to, or the next to latch. -/
def State.commitTarget (s : State) (frame : Option Nat) : Nat := frame.getD s.halyard.grid.nextLatch

/-- Take a snapshot of the keys of an item into the pending copy. -/
def State.commitKeys (s : State) (c item : Nat) (keys : List Nat) (frame : Option Nat) : State :=
  let counter := if item = 32 then P.ProjectionReplaceCount else P.CommitReplaceCount
  let s := if s.itemPending c item then s.count counter 0 else s
  let r := s.render
  let committed := keys.foldl (fun m k => SMap.insert m k (s.shadow k)) r.committed
  s.setRender { r with committed := committed,
                       items := r.items.filter (fun x => !(x.canvas == c && x.item == item)) ++ [⟨c, item, frame⟩] }

/-- ReleaseState after a commit of a layer: pending where the commit will retire the live address, else 0 (R204). -/
def State.markRelease (s : State) (l : Nat) : State :=
  let kc := Dict.key P.LayerControl l
  let ka := Dict.key P.LayerClipAddress l
  let r := retires (s.lv P.LayerControl l) (s.lv P.LayerClipAddress l) (s.committedOr kc) (s.committedOr ka)
  s.setFld P.LayerStatus l 24 2 r.toNat

/-- P5124 CommitTarget: the frame from which the last commit that is pending applies, with no pending one the frame from which the
last applied (R202). -/
def State.shownTarget (s : State) : Nat :=
  match s.render.items.getLast? with
  | some x => max (s.commitTarget x.frame) s.halyard.grid.nextLatch % 2 ^ 32
  | none => s.rdN P.CommitTarget 0

/-- CommitPending and ProjectionPending as the pending items give them. -/
def State.showPending (s : State) : State :=
  let bits := fun (c : Nat) => s.render.items.foldl (fun (n : Nat) x => if x.canvas = c ∧ x.item < 32 then n ||| 2 ^ x.item else n) 0
  let s := (List.range 8).foldl (fun s c => s.wr P.CommitPending c (BitVec.ofNat 64 (bits c))) s
  s.wr P.ProjectionPending 0 (BitVec.ofNat 64
    (s.render.items.foldl (fun (n : Nat) x => if x.item = 32 then n ||| 2 ^ x.canvas else n) 0))

/-- A layer is at fault for a commit: its source is clip and its stride is below its line (R194). -/
def State.strideBad (s : State) (l : Nat) : Bool :=
  s.fld P.LayerControl l 16 2 == 2 &&
    decide (s.rdN P.LayerClipStride l < s.fld P.LayerClipGeometry l 16 16 * clipPixelBytes (s.rdN P.LayerClipFormat l))

/-- LAYER_COMMIT (R201): false, and nothing committed, where R194 refuses it. -/
def State.commitLayers (s : State) (c : Nat) (v : Nat) (frame : Option Nat) : State × Bool :=
  let layers := (List.range 16).filter (fun l => v.testBit l)
  if layers.any (fun l => s.strideBad (16 * c + l)) then (s, false)
  else
    let items := layers ++ (if v.testBit 16 then [16] else []) ++ ((List.range 8).filter (fun g => v.testBit (24 + g))).map (24 + ·)
    let s := items.foldl (fun s i => s.commitKeys c i (itemKeys c i) frame) s
    let s := layers.foldl (fun s l => s.markRelease (16 * c + l)) s
    let s := s.showPending
    ((if items.isEmpty then s else s.wr P.CommitTarget 0 (BitVec.ofNat 64 (s.commitTarget frame % 2 ^ 32))), true)

/-- FRAME_COMMIT (R201): only the clip addresses of the layers named. -/
def State.commitFrames (s : State) (c : Nat) (v : Nat) (frame : Option Nat) : State :=
  let layers := (List.range 16).filter (fun l => v.testBit l)
  let s := layers.foldl (fun s l => s.commitKeys c l [Dict.key P.LayerClipAddress (16 * c + l)] frame) s
  let s := layers.foldl (fun s l => s.markRelease (16 * c + l)) s
  let s := s.showPending
  if layers.isEmpty then s else s.wr P.CommitTarget 0 (BitVec.ofNat 64 (s.commitTarget frame % 2 ^ 32))

/-- PROJECTION_COMMIT (R218). Where AutoCommit is live a commit has no effect of its own. -/
def State.commitProjections (s : State) (v : Nat) (frame : Option Nat) : State :=
  let cs := (List.range 8).filter (fun c => v.testBit c && field (s.lv P.ProjectionControl c) 8 1 == 0)
  (cs.foldl (fun s c => s.commitKeys c 32 (itemKeys c 32) frame) s).showPending

/-- Put a value in force by its register key. -/
def State.putLive (s : State) (key : Nat) (v : Wide) : State := { s with live := SMap.set (Dict.dflt key) s.live key v }

/-- An item's committed values become live. -/
def State.applyItem (s : State) (x : PendingItem) : State :=
  let keys := (itemKeys x.canvas x.item).filter (fun k => (SMap.find s.render.committed k).isSome)
  let s := keys.foldl (fun s k => s.putLive k (s.committedOr k)) s
  s.setRender { s.render with committed := keys.foldl (fun m k => SMap.erase m k) s.render.committed }

/-- The retirement of a layer's address by a latch: `old` is the pair that was live. -/
def State.retireAt (s : State) (l : Nat) (old : Wide × Wide) : State :=
  if retires old.1 old.2 (s.lv P.LayerControl l) (s.lv P.LayerClipAddress l) then
    (s.setFld P.LayerStatus l 24 2 2).wr P.ReleaseAddress l old.2
  else s

/-- The commits due at the latch of frame `k`, AutoCommit projections with them (R202, R204, R218). -/
def State.applyCommits (s : State) (k : Nat) : State :=
  let auto := (List.range 8).filter (fun c => field (s.lv P.ProjectionControl c) 8 1 = 1)
  let due := s.render.items.filter (fun x => match x.frame with
    | none => true
    | some f => decide (f ≤ k))
  let layers := (due.filter (fun x => decide (x.item < 16))).map (fun x => 16 * x.canvas + x.item)
  let old := layers.map (fun l => (l, s.lv P.LayerControl l, s.lv P.LayerClipAddress l))
  let s := due.foldl State.applyItem s
  let s := if due.isEmpty then s else s.wr P.CommitTarget 0 (BitVec.ofNat 64 (k % 2 ^ 32))
  let s := s.setRender { s.render with items := s.render.items.filter (fun x => !due.contains x) }
  let s := auto.foldl (fun s c => (itemKeys c 32).foldl (fun s key =>
    s.putLive key ((SMap.find s.now.shadowed key).getD (s.shadow key))) s) s
  let s := old.foldl (fun s x => s.retireAt x.1 x.2) s
  s.showPending

end Sys2Proof.Machine
end

