-- ==== Sys2Proof/Machine/Cascade.lean ====
section
/-! DEFINITION. Cascade inputs (R167, R168): the checks and the dedup rule of chapter 13 on the frames of an upstream unit,
their placement in the input's ring, and the selection at the latch. -/
namespace Sys2Proof.Machine

/-- The element bytes of a cascade frame at DRAM: 8 bytes for each element below P3303, in rows of P3304. -/
def State.placeElements (s : State) (n slot first : Nat) : Nat → List Byte → State
  | 0, _ => s
  | k + 1, bs =>
    let w := s.rdN P.CascadeWidth n
    let s := if first < s.rdN P.CascadeElements n then
        s.setDram (s.rdN P.CascadeRingBase n + slot * s.cascadeSlot n + first / w * s.cascadeStride n + first % w * 8) (bs.take 8)
      else s
    State.placeElements s n slot (first + 1) k (bs.drop 8)

/-- A frame opens: its slot, with the pixels of the last row beyond the elements written zero. -/
def State.openCascade (s : State) (n : Nat) (t : T32) : State :=
  let r := (s.casc n).ring.openFrame t
  let slot := r.freeSlot.val
  let w := s.rdN P.CascadeWidth n
  let e := s.rdN P.CascadeElements n
  let spare := s.cascadeHeight n * w - e
  let at' := s.rdN P.CascadeRingBase n + slot * s.cascadeSlot n + e / w * s.cascadeStride n + e % w * 8
  let s := s.setDram at' (List.replicate (8 * spare) 0)
  s.setCasc n { s.casc n with ring := r }

/-- The frame being written is closed by a newer one: it was not complete. -/
def State.closeCascade (s : State) (n : Nat) : State :=
  let c := s.casc n
  if c.ring.writing.isSome then
    (s.setCasc n { c with ring := { c.ring with writing := none, cover := [] } }).count P.CascadeIncompleteCount n
  else s

/-- Elements are written into the frame in progress, which becomes N once it holds them all. -/
def State.fillCascade (s : State) (n slot : Nat) (m : ShroudMsg) : State :=
  let first := m.offset.toNat
  let last := min (first + m.count.toNat) (s.rdN P.CascadeElements n)
  let s := s.placeElements n slot first m.count.toNat m.payload
  let c := s.casc n
  let r := { c.ring with cover := coverAdd first last c.ring.cover }
  let (r, whole) := if r.complete (s.rdN P.CascadeElements n) then r.closeFrame (s.rdN P.CascadeElements n) s.clock else (r, false)
  let s := s.setCasc n { c with ring := r }
  if whole then s.traffic P.CascadeFrameCount n 1 else s

/-- A frame that the dedup rule accepted is placed by its T. -/
def State.placeCascade (s : State) (n : Nat) (m : ShroudMsg) : State :=
  let r := (s.casc n).ring
  let behind := match r.newest with
    | some (_, u) => r.writing.isNone && !newer m.time u
    | none => false
  match r.writing with
  | some (slot, u) =>
    if newer m.time u then
      let s := (s.closeCascade n).openCascade n m.time
      match (s.casc n).ring.writing with
      | some (i, _) => s.fillCascade n i m
      | none => s
    else if m.time = u then s.fillCascade n slot m
    else s.count P.CascadeLateCount n
  | none =>
    if behind then
      if (r.newest.map (·.2)) = some m.time then s else s.count P.CascadeLateCount n
    else
      let s := s.openCascade n m.time
      match (s.casc n).ring.writing with
      | some (i, _) => s.fillCascade n i m
      | none => s

/-- A show-class frame of the input's stream (R167). -/
def State.cascadeNamed (s : State) (n : Nat) (m : ShroudMsg) : Bool :=
  m.cls == 1 && s.rdN P.CascadeStream n == m.stream.toNat

/-- The format code and payload length are ones the input implements: its raster format (R167, R280). -/
def State.cascadeTakes (s : State) (n : Nat) (m : ShroudMsg) : Bool :=
  m.format.toNat == s.fld P.CascadeControl n 8 8 && m.format == 0x20 && m.payload.length == 8 * m.count.toNat

/-- The dedup rule (R281), then placement. -/
def State.takeCascade (s : State) (n : Nat) (m : ShroudMsg) : State :=
  let c := s.casc n
  match c.lastSeq with
  | some q =>
    if newer m.seq q then (s.setCasc n { c with lastSeq := some m.seq }).placeCascade n m
    else s.count P.CascadeDuplicateCount n
  | none => (s.setCasc n { c with lastSeq := some m.seq }).placeCascade n m

/-- A frame at an enabled input in the order of R280: malformed, unsupported, then the dedup rule. -/
def State.receiveCascade (s : State) (n : Nat) (m : ShroudMsg) : State :=
  let c := s.casc n
  if !s.bit P.CascadeControl n 0 then s
  else if m.version != 1 || !m.checkOk then s.setCasc n { c with malformed := c.malformed + 1 }
  else if !s.cascadeNamed n m then s
  else if !s.cascadeTakes n m then s.setCasc n { c with unsupported := c.unsupported + 1 }
  else s.takeCascade n m

/-- CASCADE_FRAME: a held frame reaches its cascade input. -/
def execCascadeFrame (input : Fin 8) (port : Fin 4) (msg : ShroudMsg) (s : State) : Host.Outcome State Fault Refusal :=
  if !s.stayActive || !s.stayEnabled port then done s
  else
    done ((s.releaseRx port .cascade).receiveCascade input msg)

/-- The input starts afresh when it is enabled, and forgets its sequence when it is disabled. -/
def State.startCascade (s : State) (n : Nat) : State :=
  s.setCasc n { s.casc n with lastSeq := none, ring := { Ring.init with inUse := (s.casc n).ring.inUse } }

/-- CASCADE_SELECT of one input at L(k) (R168). -/
def State.selectCascade (s : State) (n k : Nat) : State :=
  let c := s.casc n
  if field (s.lv P.CascadeControl n) 0 1 = 0 ∨ !(s.bit P.CascadeControl n 0) then s.setCasc n { c with ring := c.ring.take none }
  else
    let instant : T32 := s.frameTime k - BitVec.ofNat 32 (boundary s.halyard.grid.rate (s.lvN P.CascadeLag n))
    let choice := match c.ring.candidate s.clock with
      | none => none
      | some (i, u) => if due u instant then some (i, u) else if c.ring.hasSelected then c.ring.selected else none
    s.setCasc n { c with ring := c.ring.take choice }

end Sys2Proof.Machine
end

