-- ==== Sys2Proof/Machine/Aes.lean ====
section
/-! DEFINITION. AES-128 (FIPS 197) and the CCM* mode of IEEE 802.15.4 that secures Kite frames (R334, R337, R345). -/
namespace Sys2Proof.Machine

/-- The S-box. -/
def aesBox : List Byte :=
  [0x63, 0x7c, 0x77, 0x7b, 0xf2, 0x6b, 0x6f, 0xc5, 0x30, 0x01, 0x67, 0x2b, 0xfe, 0xd7, 0xab, 0x76,
   0xca, 0x82, 0xc9, 0x7d, 0xfa, 0x59, 0x47, 0xf0, 0xad, 0xd4, 0xa2, 0xaf, 0x9c, 0xa4, 0x72, 0xc0,
   0xb7, 0xfd, 0x93, 0x26, 0x36, 0x3f, 0xf7, 0xcc, 0x34, 0xa5, 0xe5, 0xf1, 0x71, 0xd8, 0x31, 0x15,
   0x04, 0xc7, 0x23, 0xc3, 0x18, 0x96, 0x05, 0x9a, 0x07, 0x12, 0x80, 0xe2, 0xeb, 0x27, 0xb2, 0x75] ++
  [0x09, 0x83, 0x2c, 0x1a, 0x1b, 0x6e, 0x5a, 0xa0, 0x52, 0x3b, 0xd6, 0xb3, 0x29, 0xe3, 0x2f, 0x84,
   0x53, 0xd1, 0x00, 0xed, 0x20, 0xfc, 0xb1, 0x5b, 0x6a, 0xcb, 0xbe, 0x39, 0x4a, 0x4c, 0x58, 0xcf,
   0xd0, 0xef, 0xaa, 0xfb, 0x43, 0x4d, 0x33, 0x85, 0x45, 0xf9, 0x02, 0x7f, 0x50, 0x3c, 0x9f, 0xa8,
   0x51, 0xa3, 0x40, 0x8f, 0x92, 0x9d, 0x38, 0xf5, 0xbc, 0xb6, 0xda, 0x21, 0x10, 0xff, 0xf3, 0xd2] ++
  [0xcd, 0x0c, 0x13, 0xec, 0x5f, 0x97, 0x44, 0x17, 0xc4, 0xa7, 0x7e, 0x3d, 0x64, 0x5d, 0x19, 0x73,
   0x60, 0x81, 0x4f, 0xdc, 0x22, 0x2a, 0x90, 0x88, 0x46, 0xee, 0xb8, 0x14, 0xde, 0x5e, 0x0b, 0xdb,
   0xe0, 0x32, 0x3a, 0x0a, 0x49, 0x06, 0x24, 0x5c, 0xc2, 0xd3, 0xac, 0x62, 0x91, 0x95, 0xe4, 0x79,
   0xe7, 0xc8, 0x37, 0x6d, 0x8d, 0xd5, 0x4e, 0xa9, 0x6c, 0x56, 0xf4, 0xea, 0x65, 0x7a, 0xae, 0x08] ++
  [0xba, 0x78, 0x25, 0x2e, 0x1c, 0xa6, 0xb4, 0xc6, 0xe8, 0xdd, 0x74, 0x1f, 0x4b, 0xbd, 0x8b, 0x8a,
   0x70, 0x3e, 0xb5, 0x66, 0x48, 0x03, 0xf6, 0x0e, 0x61, 0x35, 0x57, 0xb9, 0x86, 0xc1, 0x1d, 0x9e,
   0xe1, 0xf8, 0x98, 0x11, 0x69, 0xd9, 0x8e, 0x94, 0x9b, 0x1e, 0x87, 0xe9, 0xce, 0x55, 0x28, 0xdf,
   0x8c, 0xa1, 0x89, 0x0d, 0xbf, 0xe6, 0x42, 0x68, 0x41, 0x99, 0x2d, 0x0f, 0xb0, 0x54, 0xbb, 0x16]

def aesSub (b : Byte) : Byte := aesBox.getD b.toNat 0

/-- Doubling in the field of AES. -/
def aesDouble (b : Byte) : Byte := (b <<< 1) ^^^ (if b.getLsbD 7 then 0x1B else 0)

/-- Byte-wise exclusive or of two lists. -/
def xorBytes (a b : List Byte) : List Byte := (a.zip b).map (fun x => x.1 ^^^ x.2)

/-- The next round key from the one before it, with its round constant. -/
def aesNextKey (k : List Byte) (rcon : Byte) : List Byte :=
  let w := fun i => sliceBytes k (4 * i) 4
  let r := ((w 3).drop 1 ++ (w 3).take 1).map aesSub
  let t := match r with
    | b :: bs => (b ^^^ rcon) :: bs
    | [] => []
  let a := xorBytes (w 0) t
  let b := xorBytes (w 1) a
  let c := xorBytes (w 2) b
  a ++ b ++ c ++ xorBytes (w 3) c

/-- The row shift of a state held column by column. -/
def aesShift (x : List Byte) : List Byte := (List.range 16).map (fun i => x.getD ((i + 4 * (i % 4)) % 16) 0)

/-- The column mix. -/
def aesMix (x : List Byte) : List Byte :=
  (List.range 16).map fun i =>
    let at' := fun j => x.getD (i / 4 * 4 + (i + j) % 4) 0
    aesDouble (at' 0) ^^^ (aesDouble (at' 1) ^^^ at' 1) ^^^ at' 2 ^^^ at' 3

/-- The rounds after the first key addition: round constants still to use, the last without a column mix. -/
def aesRounds : List Byte → List Byte → List Byte → List Byte
  | [], _, x => x
  | c :: cs, k, x =>
    let k' := aesNextKey k c
    let y := aesShift (x.map aesSub)
    aesRounds cs k' (xorBytes (if cs.isEmpty then y else aesMix y) k')

/-- AES-128 of one block. -/
def aes128 (key block : List Byte) : List Byte :=
  aesRounds [0x01, 0x02, 0x04, 0x08, 0x10, 0x20, 0x40, 0x80, 0x1B, 0x36] key (xorBytes block key)

/-- Pad with zeros to a multiple of 16. -/
def pad16 (l : List Byte) : List Byte := l ++ List.replicate ((16 - l.length % 16) % 16) 0

/-- CBC-MAC over the blocks of a list. -/
def cbcMac (key : List Byte) : Nat → List Byte → List Byte → List Byte
  | 0, x, _ => x
  | n + 1, x, bs => if bs.isEmpty then x else cbcMac key n (aes128 key (xorBytes x (bs.take 16))) (bs.drop 16)

/-- The authentication value of CCM* before its encryption: header `a`, message `m`, a tag of `n` bytes, length field 2. -/
def ccmAuth (key nonce a m : List Byte) (n : Nat) : List Byte :=
  let flags : Byte := BitVec.ofNat 8 (64 + 8 * ((n - 2) / 2) + 1)
  let bs := [flags] ++ nonce ++ beBytes 2 m.length ++ pad16 (beBytes 2 a.length ++ a) ++ pad16 m
  (cbcMac key (bs.length / 16) (List.replicate 16 0) bs).take n

/-- Key stream block `i`. -/
def ccmStream (key nonce : List Byte) (i : Nat) : List Byte := aes128 key ([1] ++ nonce ++ beBytes 2 i)

/-- Encrypt or decrypt a message. -/
def ccmCrypt (key nonce m : List Byte) : List Byte :=
  xorBytes m ((List.range ((m.length + 15) / 16)).flatMap (fun i => ccmStream key nonce (i + 1)))

/-- Secure a message: its ciphertext and its encrypted tag. -/
def ccmSeal (key nonce a m : List Byte) (n : Nat) : List Byte :=
  ccmCrypt key nonce m ++ xorBytes (ccmAuth key nonce a m n) (ccmStream key nonce 0)

/-- Open a secured message; none when the tag fails. -/
def ccmOpen (key nonce a c : List Byte) (n : Nat) : Option (List Byte) :=
  if c.length < n then none
  else
    let m := ccmCrypt key nonce (c.take (c.length - n))
    if xorBytes (ccmAuth key nonce a m n) (ccmStream key nonce 0) = c.drop (c.length - n) then some m else none

/-- The FCS of IEEE 802.15.4: the reflected CRC-16 with initial value 0, sent least significant octet first. -/
def fcsBits : Nat → Half → Half
  | 0, r => r
  | n + 1, r => fcsBits n (if r.getLsbD 0 then (r >>> 1) ^^^ 0x8408 else r >>> 1)

def fcs16 (bs : List Byte) : Half := bs.foldl (fun (r : Half) b => fcsBits 8 (r ^^^ b.setWidth 16)) 0

end Sys2Proof.Machine
end

