-- ==== Sys2Proof/Machine/Ports.lean ====
section
/-! DEFINITION. The egress side of the 64 shroud ports (R274, R283, R284): the four queues served by strict priority, the
show traffic with its lateness check, and the counts of what leaves. -/
namespace Sys2Proof.Machine

def State.port (s : State) (p : Nat) : ShroudPort := SMap.get ShroudPort.init s.ports p
def State.setPort (s : State) (p : Nat) (x : ShroudPort) : State := { s with ports := SMap.set ShroudPort.init s.ports p x }

/-- LinkUp of a shroud port (P9004 bit 0). -/
def State.shroudUp (s : State) (p : Nat) : Bool := s.bit P.LinkStatus p 0

/-- Enable of a shroud port (P9001 bit 0). -/
def State.shroudEnabled (s : State) (p : Nat) : Bool := s.bit P.PhyControl p 0

/-- The port blocks run: Run or Luff of a served device, and an entry up to abort point 2 (Table 4.3). -/
def State.portsRun (s : State) : Bool := s.stayActive

/-- Wire time in ns of a frame at 1 Gb/s with its 20 bytes of preamble and gap (R249). -/
def wireNs (len : Nat) : Nat := (len + 20) * 8

/-- Count a frame of show traffic as it starts (or is discarded by its MAC), with its kind. -/
def State.countShow (s : State) (p : Nat) (x : Egress) : State :=
  let s := (s.traffic P.TxShowFrameCount p 1).traffic P.TxShowByteCount p x.len
  match x.frame with
  | .sacnData _ _ => s.traffic P.SacnPacketCount_P810B p 1
  | .shroud format _ _ => if format = 0x01 then s.traffic P.HoldFrameCount p 1 else s
  | _ => s

/-- A data packet of a show frame leaves the port: its frame will be synchronised (R261), and its universe's stream has
been sent, or taken up again, with that frame (R262). -/
def State.noteData (s : State) (p : Nat) (x : Egress) : State :=
  match x.frame, x.tag with
  | .sacnData u _, some t =>
    let s := { s with sheet := { s.sheet with
      lastSent := SMap.set none s.sheet.lastSent (65536 * p + u.toNat) (some t.frame)
      resume := s.sheet.resume.filter (fun r => !(r.port == p && r.univ == u)) } }
    let l := SMap.get [] s.sheet.dataFrame p
    if l.contains t.frame then s
    else { s with sheet := { s.sheet with dataFrame := SMap.set [] s.sheet.dataFrame p (l ++ [t.frame]) } }
  | _, _ => s

/-- The last frame of a show frame has left a port: PortWireTime, PortMargin and its minimum (R249). -/
def State.showDone (s : State) (p : Nat) (f : ShowFrame) : State :=
  let margin := if future f.close s.tns then (f.close - s.tns).toNat else 0
  let s := s.wr P.PortWireTime p (BitVec.ofNat 64 f.wire)
  let s := s.wr P.PortMargin p (BitVec.ofNat 64 margin)
  s.wr P.PortMinMargin p (BitVec.ofNat 64 (min margin (s.rdN P.PortMinMargin p)))

/-- Bring the head of the show traffic to a frame that may start: frames that cannot finish by the close of their window
are dropped and counted, and a show frame with nothing left makes way for the next (R247, R248). -/
def State.trimShow (s : State) (p : Nat) : Nat → State
  | 0 => s
  | fuel + 1 =>
    let q := s.port p
    match q.shows with
    | [] => s
    | f :: fs =>
      match f.frames with
      | [] => State.trimShow (s.setPort p { q with shows := fs }) p fuel
      | x :: _ =>
        if x.tag.isNone || s.fits x.len 1 f.close then s
        else
          let s := s.setPort p { q with shows := fs }
          let s := s.wr P.PortWireTime p (BitVec.ofNat 64 f.wire)
          State.trimShow (s.countLate p f.frame f.frames.length) p fuel

/-- While the link is down the MAC discards and counts what it is handed (R274). -/
def State.discardPort (s : State) (p : Nat) : State :=
  let q := s.port p
  let shows := q.shows.flatMap (·.frames)
  let n := q.express.length + q.time.length + shows.length + q.bulk.length
  let s := s.setPort p { q with express := [], time := [], shows := [], bulk := [], sending := none }
  let s := shows.foldl (fun s x => s.countShow p x) s
  if n = 0 then s else s.countBy P.TxDiscardCount p n

/-- HPLL is locked: the shroud transmitters run (Table 3.3). -/
def State.hpllLocked (s : State) : Bool := s.bit P.PllLockStatus 0 1

/-- The port asks for low-power idle: static, allowed, capable, and nothing queued (R265, R274). -/
def State.enterLpi (s : State) (p : Nat) : State :=
  let q := s.port p
  let quiet := q.express.isEmpty && q.time.isEmpty && q.shows.isEmpty && q.bulk.isEmpty && q.sending.isNone
  let capable := s.bit P.PhyControl p 7
  if quiet && s.bit P.PortStatus p 7 && s.bit P.LpiEnable 0 p && capable && s.shroudUp p then
    (s.setBit P.PortStatus p 8 true).setBit P.LinkStatus p 5 true
  else s

/-- A terminating packet leaves the port: the instant from which R262 counts is that of the last one sent. -/
def State.noteTerminated (s : State) (p : Nat) (x : Egress) : State :=
  match x.frame, x.tag with
  | .sacnData u _, none =>
    { s with sheet := { s.sheet with
      resume := s.sheet.resume.map (fun r => if r.port == p && r.univ == u then { r with instant := s.fullTime } else r) } }
  | _, _ => s

/-- Start the next frame by strict priority Q3, Q2, Q1, Q0 when none is in progress (R283), and ask for low-power idle where
none waits. -/
def State.servePort (s : State) (p : Nat) : State :=
  if !s.shroudUp p then s.discardPort p
  else if (s.port p).sending.isSome || !s.hpllLocked then s
  else
    let q := s.port p
    match q.express, q.time with
    | x :: xs, _ => (s.setPort p { q with sending := some x, express := xs }).traffic P.ExpressForwardCount 0 1
    | [], x :: xs =>
      let s := s.setPort p { q with sending := some x, time := xs }
      match x.frame, x.tag with
      | .sacnSync _, some t =>
        if due t.close s.tns && decide (100 < (s.tns - t.close).toNat) then s.count P.SyncDelayedCount p else s
      | _, _ => s
    | [], [] =>
      let s := s.trimShow p (q.shows.length + 1)
      let q := s.port p
      match q.shows, q.bulk with
      | f :: fs, _ =>
        match f.frames with
        | x :: xs =>
          let s := s.setPort p { q with sending := some x, shows := { f with frames := xs, sent := f.sent + 1 } :: fs }
          ((s.countShow p x).noteData p x).noteTerminated p x
        | [] => s
      | [], x :: xs => s.setPort p { q with sending := some x, bulk := xs }
      | [], [] => s.enterLpi p

/-- The port's transmitter is no longer asked for low-power idle (R265). -/
def State.wakeLpi (s : State) (p : Nat) : State := (s.setBit P.PortStatus p 8 false).setBit P.LinkStatus p 5 false

/-- Queue an express frame on Q3, 4 frames deep. -/
def State.sendExpress (s : State) (p : Nat) (x : Egress) : State :=
  let q := s.port p
  if q.express.length ≥ 4 then s.count P.ExpressDropCount p
  else ((s.wakeLpi p).setPort p { q with express := q.express ++ [x] }).servePort p

/-- Queue a frame on Q2, 8 frames deep; false when it is dropped (R133 then applies to its stamp). -/
def State.sendTime (s : State) (p : Nat) (x : Egress) : State × Bool :=
  let q := s.port p
  if q.time.length ≥ 8 then (s.count P.TimeDropCount p, false)
  else (((s.wakeLpi p).setPort p { q with time := q.time ++ [x] }).servePort p, true)

/-- Add the wire time of a frame to the show frame in progress, and close that show frame when its last frame has left. -/
def State.addWire (s : State) (p : Nat) (x : Egress) : State :=
  let q := s.port p
  match q.shows with
  | [] => s
  | f :: fs =>
    let own := match x.tag with
      | some t => t.frame == f.frame && t.dest == p
      | none => false
    let bulk := match x.frame with
      | .bulk _ _ _ => true
      | _ => false
    let f := if own || (decide (0 < f.sent) && !bulk) then { f with wire := f.wire + wireNs x.len } else f
    if own && f.frames.isEmpty then (s.setPort p { q with shows := fs }).showDone p f
    else s.setPort p { q with shows := f :: fs }

/-- The frame in progress on a shroud port ends, and the next is served (R283). -/
def State.portFrameDone (s : State) (p : Nat) : State :=
  match (s.port p).sending with
  | none => s
  | some x =>
    let s := s.setPort p { s.port p with sending := none }
    let s := (s.traffic P.TxFrameCount_P9012 p 1).traffic P.TxByteCount_P9013 p x.len
    (s.addWire p x).servePort p

/-- EGRESS_FRAME_DONE: ports 0 to 63 are shroud ports, 64 to 67 stay ports. -/
def execEgressFrameDone (port : Fin 68) (s : State) : Host.Outcome State Fault Refusal :=
  if port.val < 64 then done (s.portFrameDone port.val) else done (s.stayFrameDone (port.val - 64))

/-- LPI_WAKE_LEAD (R265). -/
def execLpiWakeLead (port : Fin 64) (s : State) : Host.Outcome State Fault Refusal := done (s.wakeLpi port)

/-- SHEET_WINDOW_CLOSE (R248): what of a show frame has not started by the close of its window is dropped as late.
Destinations 64 to 71 are the cascade outputs, whose frames wait on the stay ports. -/
def State.closeWindow (s : State) (d : Nat) : State :=
  if d < 64 then
    let q := s.port d
    let isOver := fun (f : ShowFrame) => due f.close s.tns && f.frames.any (fun x => x.tag.isSome)
    let late := q.shows.filter isOver
    let s := s.setPort d { q with shows := q.shows.filter (fun f => !isOver f) }
    late.foldl (fun s f => (s.wr P.PortWireTime d (BitVec.ofNat 64 f.wire)).countLate d f.frame f.frames.length) s
  else
    (List.range 4).foldl (fun s p =>
      let q := s.stayPort p
      let isOver := fun (x : Egress) => match x.tag with
        | some t => t.dest == d && due t.close s.tns
        | none => false
      let gone := q.cascade.filter isOver
      let s := s.setStayPort p { q with cascade := q.cascade.filter (fun x => !isOver x) }
      match gone with
      | [] => s
      | x :: _ => s.countLate d ((x.tag.map (·.frame)).getD 0) gone.length) s

def execSheetWindowClose (port : Fin 72) (s : State) : Host.Outcome State Fault Refusal := done (s.closeWindow port)

end Sys2Proof.Machine
end

