-- ==== Sys2Proof/Machine/Merge.lean ====
section
/-! DEFINITION. sACN ingest (R163 to R166) and the channel merge (R170 to R179): sequence checks, synchronisation holds,
sources and their loss, and the merged state formed at a latch. -/
namespace Sys2Proof.Machine

/-! ### Applying a packet to the input state -/

/-- Is this the source of a universe with this CID. -/
def Source.is (x : Source) (u : Half) (cid : BitVec 128) : Bool := x.univ == u && x.cid == cid

/-- The source of a pair. -/
def State.source (s : State) (u : Half) (cid : BitVec 128) : Option Source :=
  s.sacn.sources.find? (fun x => x.is u cid)

/-- Replace the source of a pair. -/
def State.setSource (s : State) (x : Source) : State :=
  { s with sacn := { s.sacn with sources := s.sacn.sources.map (fun y => if y.is x.univ x.cid then x else y) } }

/-- The channels, from 0, in which a packet differs from the value last sent; first values change nothing (R177). -/
def changedChannels : Nat → List Byte → List Byte → List Nat
  | _, [], _ => []
  | _, _ :: _, [] => []
  | i, b :: bs, v :: vs => if b = v then changedChannels (i + 1) bs vs else i :: changedChannels (i + 1) bs vs

/-- A packet updates the input state of its source. -/
def State.applySacn (s : State) (p : SacnPacket) : State :=
  match s.source p.univ p.cid with
  | none => s
  | some x =>
    s.setSource { x with slots := p.slots, baseline := p.slots ++ x.baseline.drop p.slots.length, applied := true,
                         changed := x.changed ++ changedChannels 0 x.baseline p.slots }

/-- Every packet held for an address updates the input state. -/
def State.releaseHeld (s : State) (a : Half) : State :=
  let mine := s.sacn.held.filter (fun h => h.2.1 == a)
  let s := { s with sacn := { s.sacn with held := s.sacn.held.filter (fun h => h.2.1 != a) } }
  mine.foldl (fun s h => s.applySacn h.2.2) s

/-! ### Receiving (R163 to R165, R172, R173) -/

/-- The packet's start is one that R163 discards. -/
def sacnIgnored (p : SacnPacket) (table : List Half) : Bool :=
  p.discovery || p.preview || p.startCode != 0 || !(table.contains p.univ)

/-- R164: behind or equal to the last by less than 20. -/
def sequenceBehind (new last : Byte) : Bool :=
  let d := (new - last).toInt
  decide (-19 ≤ d) && decide (d ≤ 0)

/-- A source leaves its universe: its pair is released, and what is held from it goes with it. -/
def State.dropSource (s : State) (u : Half) (cid : BitVec 128) : State :=
  { s with sacn := { s.sacn with
      sources := s.sacn.sources.filter (fun x => !x.is u cid)
      held := s.sacn.held.filter (fun h => !(h.1 == u && h.2.2.cid == cid)) } }

/-- A tracked synchronisation address and whether its 2.5 s has passed. -/
def State.tracked (s : State) (a : Half) : Option Bool :=
  (s.sacn.tracked.find? (fun t => t.1 == a)).map (·.2)

/-- Hold a packet for its universe; a newer held packet replaces an older one. -/
def State.holdSacn (s : State) (p : SacnPacket) : State :=
  { s with sacn := { s.sacn with
      held := s.sacn.held.filter (fun h => h.1 != p.univ) ++ [(p.univ, p.syncAddr, p)] } }

/-- Route an accepted packet to the input state or to a hold (R165). -/
def State.routeSacn (s : State) (p : SacnPacket) : State :=
  let apply := fun (s : State) =>
    ({ s with sacn := { s.sacn with
        held := s.sacn.held.filter (fun h => !(h.1 == p.univ && h.2.2.cid == p.cid)) } }).applySacn p
  if p.syncAddr = 0 then apply s
  else
    match s.tracked p.syncAddr with
    | some true => apply s
    | some false => s.holdSacn p
    | none =>
      if s.sacn.tracked.length < 64 then
        ({ s with sacn := { s.sacn with tracked := s.sacn.tracked ++ [(p.syncAddr, false)] } }).holdSacn p
      else (apply s).count P.SacnSyncLimitCount 0

/-- SACN_DATA_PACKET. -/
def State.takeSacn (s : State) (port : Nat) (p : SacnPacket) : State :=
  let s := s.releaseRx port .sacn
  if s.rdN P.SacnEnable 0 = 0 ∨ !(s.bit P.SacnPortMask 0 port) then s
  else if sacnIgnored p s.universes then s.count P.SacnIgnoredCount 0
  else
    match s.source p.univ p.cid with
    | some x =>
      if sequenceBehind p.seq x.seq then s.count P.SacnSequenceDiscardCount 0
      else
        let s := s.traffic P.SacnPacketCount_P3210 0 1
        if p.terminated then (s.dropSource p.univ p.cid).count P.TerminatedCount 0
        else
          let prio : Byte := if p.priority > 200 then 200 else p.priority
          (s.setSource { x with seq := p.seq, priority := prio }).routeSacn p
    | none =>
      if (s.sacn.sources.filter (fun (x : Source) => x.univ == p.univ)).length ≥ 8 then s.count P.SourceLimitCount 0
      else if s.sacn.sources.length ≥ 65536 then s.count P.SacnPairLimitCount 0
      else
        let s := s.traffic P.SacnPacketCount_P3210 0 1
        if p.terminated then s
        else
          let x : Source :=
            { cid := p.cid, univ := p.univ, seq := p.seq, priority := if p.priority > 200 then 200 else p.priority,
              slots := [], baseline := [], changed := [], applied := false, isNew := true }
          ({ s with sacn := { s.sacn with sources := s.sacn.sources ++ [x] } }).routeSacn p

/-- SACN_DATA_PACKET (R163 to R165). -/
def execSacnDataPacket (port : Fin 4) (packet : SacnPacket) (s : State) : Host.Outcome State Fault Refusal :=
  done (s.takeSacn port packet)

/-- SACN_SYNC_PACKET (R165): the packets held for the address update the input state. -/
def State.takeSacnSync (s : State) (port : Nat) (a : Half) : State :=
  let s := s.releaseRx port .sacn
  if s.rdN P.SacnEnable 0 = 0 ∨ !(s.bit P.SacnPortMask 0 port) then s
  else
    let s := { s with sacn := { s.sacn with tracked := s.sacn.tracked.map (fun (t : Half × Bool) => if t.1 = a then (a, false) else t) } }
    s.releaseHeld a

def execSacnSyncPacket (port : Fin 4) (address : Half) (s : State) : Host.Outcome State Fault Refusal :=
  done (s.takeSacnSync port address)

/-- SYNC_ADDRESS_IDLE (R165): the address is untracked and what is held for it is applied. -/
def execSyncAddressIdle (address : Half) (s : State) : Host.Outcome State Fault Refusal :=
  done (({ s with sacn := { s.sacn with tracked := s.sacn.tracked.filter (fun t => t.1 != address) } }).releaseHeld address)

/-- SACN_SYNC_TIMEOUT (R165): once for each time a tracked address goes without synchronisation packets. -/
def execSacnSyncTimeout (address : Half) (s : State) : Host.Outcome State Fault Refusal :=
  match s.tracked address with
  | some false =>
    let s := { s with sacn := { s.sacn with
      tracked := s.sacn.tracked.map (fun (t : Half × Bool) => if t.1 = address then (address, true) else t) } }
    done ((s.releaseHeld address).count P.SacnSyncTimeoutCount 0)
  | _ => done s

/-- SOURCE_TIMEOUT (R173). -/
def execSourceTimeout (univ : Half) (cid : BitVec 128) (s : State) : Host.Outcome State Fault Refusal :=
  match s.source univ cid with
  | some _ => done ((s.dropSource univ cid).count P.SourceLostCount 0)
  | none => done s

/-! ### The merge at the latch (R174 to R178) -/

/-- Entry `i` of the live MergeTable: input universe, profile and loss action. -/
def State.mergeEntry (s : State) (i : Nat) : Half × Nat × Nat :=
  let b := sliceBytes (s.blob P.MergeTable) (4 * i) 4
  (BitVec.ofNat 16 (leNat (b.take 2)), (b.getD 2 0).toNat, (b.getD 3 0).toNat % 4)

/-- Number of entries of the live table. -/
def State.mergeCount (s : State) : Nat := (s.blob P.MergeTable).length / 4

/-- Merge code of channel `c`, from 0, of a profile (R171). -/
def State.mergeCode (s : State) (profile c : Nat) : Nat :=
  ((s.blob P.MergeProfiles).getD (128 * profile + c / 4) 0).toNat >>> (2 * (c % 4)) % 4

/-- The highest priority among sources. -/
def topPriority (l : List Source) : Nat := l.foldl (fun m x => max m x.priority.toNat) 0

/-- The top set of a universe (R175), in ascending CID. -/
def insertCid (x : Source) : List Source → List Source
  | [] => [x]
  | y :: ys => if x.cid < y.cid then x :: y :: ys else y :: insertCid x ys

def topSet (l : List Source) : List Source :=
  (l.filter (fun x => x.priority.toNat == topPriority l)).foldl (fun acc x => insertCid x acc) []

/-- The HTP value of a channel (R176). -/
def htp (top : List Source) (c : Nat) : Byte :=
  top.foldl (fun (m : Byte) x => match x.slots[c]? with
    | some v => if m < v then v else m
    | none => m) 0

/-- The HTP16 value of a pair (R176): the top source whose 16-bit value is highest. -/
def htp16 (top : List Source) (c : Nat) : Byte × Byte :=
  top.foldl (fun (m : Byte × Byte) x => match x.slots[c]?, x.slots[c + 1]? with
    | some a, some b => if m.1.toNat * 256 + m.2.toNat < a.toNat * 256 + b.toNat then (a, b) else m
    | _, _ => m) (0, 0)

/-- The LTP value of a channel (R177). `fresh`: the top set shares no member with the last. -/
def ltp (top : List Source) (fresh : Bool) (last : Byte) (c : Nat) : Byte :=
  let carriers := top.filter (fun x => decide (c < x.slots.length))
  let pick := if fresh then carriers else carriers.filter (fun x => x.changed.contains c)
  match pick with
  | [] => last
  | x :: _ => x.slots.getD c 0

/-- The merged values from channel `c` on, for `n` more channels. -/
def State.mergeChannels (s : State) (profile : Nat) (top : List Source) (fresh : Bool) (last : List Byte) :
    Nat → Nat → List Byte
  | 0, _ => []
  | n + 1, c =>
    let one := fun (v : Byte) => v :: State.mergeChannels s profile top fresh last n (c + 1)
    match s.mergeCode profile c with
    | 0 => one (ltp top fresh (last.getD c 0) c)
    | 1 => one (htp top c)
    | 2 =>
      match n with
      | 0 => one (htp top c)
      | m + 1 => (htp16 top c).1 :: (htp16 top c).2 :: State.mergeChannels s profile top fresh last m (c + 2)
    | _ => one 0

/-- The merged state of one entry at a latch. -/
def State.mergeEntryAt (s : State) (i : Nat) : State :=
  let (u, profile, action) := s.mergeEntry i
  let m := s.mergedAt i
  if u = 0 ∨ s.lvN P.MergeEnable 0 = 0 then s.setMerged i Merged.init
  else
    let sources := s.sacn.sources.filter (fun x => x.univ == u && x.applied)
    let top := topSet sources
    let cids := top.map (·.cid)
    let fresh := !(top.any (fun (x : Source) => !x.isNew && m.topSet.contains x.cid))
    if top.isEmpty then
      match m.state with
      | .noSource => s.setMerged i { Merged.init with topChanged := fresh }
      | .live | .holding => s.setMerged i { m with state := .holding, topSet := [], topPriority := 0, topChanged := fresh, sends := true }
      | .ended => s.setMerged i { m with topSet := [], topPriority := 0, topChanged := fresh,
                                         values := if action = 1 then List.replicate 512 0 else m.values,
                                         sends := decide (action = 1) }
    else
      let fresh := fresh || m.state != .live
      s.setMerged i { state := .live, values := s.mergeChannels profile top fresh m.values 512 0, topSet := cids,
                      topPriority := BitVec.ofNat 8 (topPriority sources), topChanged := fresh, sends := true }

/-- P4021 UniverseStatus of the selected entry (Table 8.8). -/
def State.showUniverse (s : State) : State :=
  let i := s.rdN P.StatusSelect 0
  let m := s.mergedAt i
  let (u, _, _) := s.mergeEntry i
  let live := if u = 0 then 0 else (s.sacn.sources.filter (fun x => x.univ == u)).length
  let code := match m.state with
    | .noSource => 0
    | .live => 1
    | .holding => 2
    | .ended => 3
  s.wr P.UniverseStatus 0 (BitVec.ofNat 64
    (m.topPriority.toNat * 2 ^ 24 + live * 2 ^ 20 + m.topSet.length * 2 ^ 16 + code * 2 ^ 14 + m.topChanged.toNat * 2 ^ 13))

/-- MERGE_AT_LATCH: every entry is merged, and the changes counted since the last latch are used up. -/
def State.mergeAtLatch (s : State) : State :=
  let s := (List.range s.mergeCount).foldl State.mergeEntryAt s
  let s := { s with sacn := { s.sacn with sources := s.sacn.sources.map (fun (x : Source) => { x with changed := [], isNew := false }) } }
  s.showUniverse

/-- A new MergeTable goes live: entries that it changes return to NoSource (Table 8.3). -/
def State.swapMergeTable (s : State) (body : List Byte) : State :=
  let old := s.blob P.MergeTable
  let n := max (old.length / 4) (body.length / 4)
  let s := (List.range n).foldl (fun s i =>
    if sliceBytes old (4 * i) 4 = sliceBytes body (4 * i) 4 then s else s.setMerged i Merged.init) s
  s.setBlob P.MergeTable body

/-- LOSS_HOLD_EXPIRY (R178): a Holding universe with LossAction Zero or Release enters Ended. -/
def execLossHoldExpiry (entry : Nat) (s : State) : Host.Outcome State Fault Refusal :=
  let m := s.mergedAt entry
  let (_, _, action) := s.mergeEntry entry
  if m.state = .holding ∧ (action = 1 ∨ action = 2) then done (s.setMerged entry { m with state := .ended }) else done s

/-! ### Content checks of the tables (R163, R170, R171) -/

/-- Strictly ascending universe numbers from 1 to 63,999. -/
def ascendingUniverses : Nat → List Half → Bool
  | _, [] => true
  | lo, u :: us => decide (lo < u.toNat) && decide (u.toNat ≤ 63999) && ascendingUniverses u.toNat us

/-- U16 values of a body, least significant byte first. -/
def halves (b : List Byte) : List Half :=
  (List.range (b.length / 2)).map (fun i => BitVec.ofNat 16 (leNat (sliceBytes b (2 * i) 2)))

def universeTableOk (b : List Byte) : Bool := b.length % 2 == 0 && ascendingUniverses 0 (halves b)

def mergeTableOk (b : List Byte) (profiles : Nat) : Bool :=
  b.length % 4 == 0 && (List.range (b.length / 4)).all fun i =>
    let e := sliceBytes b (4 * i) 4
    let u := leNat (e.take 2)
    decide (u ≤ 63999) && (u == 0 || (decide ((e.getD 2 0).toNat < profiles) && (e.getD 3 0).toNat % 4 != 3))

def mergeProfilesOk (b table : List Byte) : Bool :=
  b.length % 128 == 0 && (List.range (table.length / 4)).all fun i =>
    let e := sliceBytes table (4 * i) 4
    leNat (e.take 2) == 0 || decide ((e.getD 2 0).toNat < b.length / 128)

end Sys2Proof.Machine
end

