-- ==== Sys2Proof/Machine/Cue.lean ====
section
/-! DEFINITION. The Cue Queue (R180 to R184): assembly of cues in their writers' buffers, admission, the read-out
order, and what the kernel works out of a cue (its target frame, whether it must be discarded, its ramps). -/
namespace Sys2Proof.Machine

/-! ### Words (Tables 8.5 and 8.6) -/

def Cw.ends (w : Wide) : Bool := w.getLsbD 63
def Cw.header (w : Wide) : Bool := w.getLsbD 62
def Cw.priority (w : Wide) : Nat := field w 48 8
def Cw.source (w : Wide) : Nat := field w 32 8
def Cw.level (w : Wide) : Nat := field w 58 2
def Cw.tag (w : Wide) : T32 := w.setWidth 32
def Cw.op (w : Wide) : Nat := field w 56 5
def Cw.param (w : Wide) : Nat := field w 40 16
def Cw.elem (w : Wide) : Nat := field w 32 8
def Cw.value (w : Wide) : Word := w.setWidth 32

/-- A header as admitted: Valid, Source and Level filled in, reserved bits zero. -/
def Cw.fillHeader (w : Wide) (source level : Nat) : Wide :=
  putField (putField (putField (putField (putField w 61 1 1) 60 1 0) 58 2 level) 56 2 0) 32 8 source

/-- An action word as admitted: Valid set. -/
def Cw.fillAction (w : Wide) : Wide := putField w 61 1 1

/-- Words of a cue as admitted. -/
def fillCue (source level : Nat) : List Wide → List Wide
  | [] => []
  | h :: as => Cw.fillHeader h source level :: as.map Cw.fillAction

/-! ### The queue (R182, R183) -/

/-- Words in the queue. -/
def State.cueWords (s : State) : Nat := s.cue.queue.foldl (fun n c => n + c.words.length) 0

/-- Insert behind every cue of the same or a higher priority; the cue in service stays first. -/
def insertCue (x : QueuedCue) (keep : Bool) : List QueuedCue → List QueuedCue
  | [] => [x]
  | y :: ys => if keep || decide (x.priority ≤ y.priority) then y :: insertCue x false ys else x :: y :: ys

/-- Place an admitted cue in the queue. -/
def State.enqueueCue (s : State) (x : QueuedCue) : State :=
  { s with cue := { s.cue with queue := insertCue x (s.cue.inService && !s.cue.queue.isEmpty) s.cue.queue } }

/-- CUE_ADMIT: a whole cue is admitted, or discarded when the queue lacks room; true when it was admitted. -/
def State.admitCue (s : State) (words : List Wide) : State × Bool :=
  if s.cueWords + words.length > 16384 then (s.count P.CueOverflowCount 0, false)
  else
    let n := s.cue.nextAdmission
    let x : QueuedCue := { priority := Cw.priority (words.getD 0 0), admission := n, words := words }
    let s := (s.enqueueCue x).traffic P.CueAdmittedCount 0 1
    ({ s with cue := { s.cue with nextAdmission := n + 1 }, now := { s.now with admitted := n :: s.now.admitted } }, true)

/-- Assembly buffer of a writer, and its replacement. -/
def State.cueBuffer (s : State) (b : Nat) : List Wide := SMap.get [] s.cue.assembly b
def State.setCueBuffer (s : State) (b : Nat) (ws : List Wide) : State :=
  { s with cue := { s.cue with assembly := SMap.set [] s.cue.assembly b ws } }

/-- One word enters a writer's buffer (R181). The result names a completed cue, if this word ended one. -/
def State.cueWord (s : State) (b : Nat) (w : Wide) : State × Option (List Wide) :=
  let buf := s.cueBuffer b
  if Cw.header w then
    let s := if buf.isEmpty then s else s.count P.CueMalformedCount 0
    if Cw.ends w then (s.setCueBuffer b [], some [w]) else (s.setCueBuffer b [w], none)
  else if buf.isEmpty then (s.count P.CueMalformedCount 0, none)
  else if buf.length ≥ 16 then ((s.setCueBuffer b []).count P.CueMalformedCount 0, none)
  else if Cw.ends w then (s.setCueBuffer b [], some (buf ++ [w]))
  else (s.setCueBuffer b (buf ++ [w]), none)

/-- Over WDP and Bosun a cue still partial when its request ends is discarded (R181). -/
def State.endCueRequest (s : State) (b : Nat) : State :=
  if 4 ≤ b ∧ !(s.cueBuffer b).isEmpty then (s.setCueBuffer b []).count P.CueMalformedCount 0 else s

/-- The cues that a read finds: those admitted in this clock are not yet there (R183). -/
def State.readableCues (s : State) : List QueuedCue := s.cue.queue.filter (fun c => !s.now.admitted.contains c.admission)

/-- A read of the low word of P4410: one word leaves the queue (R183, R184). -/
def State.readCueWord (s : State) : Wide × State :=
  match s.readableCues with
  | [] => (0, { s with cue := { s.cue with readHigh := 0 } }.count P.CueEmptyReadCount 0)
  | x :: _ =>
    let xs := s.cue.queue.filter (fun c => c.admission != x.admission)
    match x.words with
    | [] => (0, { s with cue := { s.cue with queue := xs, inService := false } })
    | w :: ws =>
      let s := { s with cue := { s.cue with readHigh := (w >>> 32).setWidth 32 } }
      if ws.isEmpty then (w, { s with cue := { s.cue with queue := xs, inService := false } })
      else (w, { s with cue := { s.cue with queue := { x with words := ws } :: xs, inService := true } })

/-- Read words until a whole cue has been read; at most `fuel` words. -/
def State.readCue (s : State) : Nat → List Wide → List Wide × State
  | 0, acc => (acc, s)
  | fuel + 1, acc =>
    let (w, s) := s.readCueWord
    if Cw.ends w then (acc ++ [w], s) else State.readCue s fuel (acc ++ [w])

/-! ### Target frames (R185, R187, R368) -/

/-- The lowest frame whose boundary is at or after a full time. -/
def frameAt (rate e : Nat) : Nat := (e * rateN rate + rateA rate - 1) / rateA rate

/-- What must lie between the present and L(k): CueMargin, and MirrorLead while a partner is heard (R368), in ns. -/
def State.cueLead (s : State) : Nat :=
  s.rdN P.CueMargin 0 * 1000 +
    (if s.role == .active && s.twin.partnerHeard then s.rdN P.MirrorLead 0 * 1000 else 0)

/-- The first frame whose L(k) less the lead lies `ahead` ns ahead or more. -/
def State.frameOpenIn (s : State) (ahead : Nat) : Nat :=
  frameAt s.halyard.grid.rate (s.fullTime + s.blank + s.cueLead + ahead) + s.halyard.grid.lead + 1

/-- The first frame whose L(k) less the lead still lies ahead. -/
def State.firstOpenFrame (s : State) : Nat := s.frameOpenIn 1

/-- Target frame of a tag read now, and whether the cue is late: a past tag, or one read after L(k) less the lead of its frame. -/
def State.cueTarget (s : State) (tag : T32) : Nat × Bool :=
  if future tag s.tns then
    let k := frameAt s.halyard.grid.rate (s.fullTime + (tag - s.tns).toNat)
    if k < s.frameOpenIn 0 then (s.firstOpenFrame, true) else (k, false)
  else (s.firstOpenFrame, true)

/-- CUE_POLL: while the grid is seeded the kernel of a deciding unit reads the queue, and works out each target. -/
def State.pollCues (s : State) : Nat → State
  | 0 => s
  | fuel + 1 =>
    match s.readableCues with
    | [] => s
    | x :: _ =>
      let (ws, s) := s.readCue 16 []
      match ws with
      | [] => s
      | h :: as =>
        let (k, late) := s.cueTarget (Cw.tag h)
        let s := if late then s.count P.CueLateCount 0 else s
        let c : KernelCue := { admission := x.admission, header := h, actions := as, target := k, late := late }
        State.pollCues { s with cue := { s.cue with kernel := s.cue.kernel ++ [c] } } fuel

/-- The kernel takes what lies in the bulk receive store (R399). -/
def State.emptyBulk (s : State) : State := { s with capstan := { s.capstan with bulkStore := [] } }

/-- CUE_POLL (R184, R185). The kernel's round also empties the bulk receive store. -/
def execCuePoll (s : State) : Host.Outcome State Fault Refusal :=
  if !s.serving then done s
  else if s.seeded && s.commands then done (s.emptyBulk.pollCues s.cue.queue.length)
  else done s.emptyBulk

/-- The next cue to execute: lowest target, then tag order, then read order (R185). -/
def nextKernelCue : List KernelCue → Option KernelCue
  | [] => none
  | x :: xs =>
    match nextKernelCue xs with
    | none => some x
    | some y =>
      if y.target < x.target ∨ (y.target = x.target ∧ newer (Cw.tag x.header) (Cw.tag y.header)) then some y else some x

/-! ### Discards and ramps (R186) -/

/-- A type a Ramp may act on. -/
def PType.ramps : PType → Bool
  | .u8 | .u16 | .u32 | .s16 | .s32 => true
  | _ => false

/-- A cue at this level may write this element. -/
def cueWrites (level p e : Nat) : Bool :=
  match Dict.row p with
  | some r => decide (e < r.elems) && decide (r.writeLevel ≤ level) && r.acc != Access.ro
  | none => false

/-- The cause that discards a cue before its writes, if any: 1 undefined op, 2 Ramp without a Span of 1 to 65,535,
3 Ramp on a wrong type, 4 Write on a STR or BLOB. `handled` tells the applet ops with a running handler. -/
def cueFault (level : Nat) (handled : Nat → Bool) : List Wide → Option Nat
  | [] => none
  | w :: ws =>
    let judged : Option PType := if cueWrites level (Cw.param w) (Cw.elem w) then (Dict.row (Cw.param w)).map (·.ty) else none
    match Cw.op w with
    | 0 => match judged with
      | some .str => some 4
      | some .blob => some 4
      | _ => cueFault level handled ws
    | 1 | 3 => cueFault level handled ws
    | 2 =>
      match ws with
      | [] => some 2
      | x :: rest =>
        if Cw.op x = 3 ∧ field x 0 16 ≠ 0 then
          match judged with
          | some t => if t.ramps then cueFault level handled rest else some 3
          | none => cueFault level handled rest
        else some 2
    | n => if 16 ≤ n ∧ handled n then cueFault level handled ws else some 1

/-- The value that a Ramp of a word gives an element of a type: the bits at the type's width. -/
def PType.rampValue (t : PType) (w : Word) : Int :=
  match t with
  | .u8 => (w.toNat % 2 ^ 8 : Nat)
  | .u16 => (w.toNat % 2 ^ 16 : Nat)
  | .s16 => (w.setWidth 16).toInt
  | .s32 => w.toInt
  | _ => (w.toNat : Int)

/-- The value an element has now, as a number of its type: the value in force of a content-affecting one. -/
def State.rampNow (s : State) (p e : Nat) : Int :=
  match Dict.row p with
  | none => 0
  | some r => r.ty.rampValue ((if r.content then s.lv p e else s.rd p e).setWidth 32)

/-- A write of an element by a cue for frame `k` ends, from that frame, the ramps of it that began no later. -/
def State.endRamps (s : State) (p e k : Nat) : State :=
  { s with cue := { s.cue with ramps := s.cue.ramps.map (fun (r : Ramp) =>
      if r.param = p ∧ r.elem = e ∧ r.first ≤ k then { r with ends := some (min k (r.ends.getD k)) } else r) } }

/-- A Ramp and its Span begin for frame `k`. -/
def State.startRamp (s : State) (rq : Requester) (level k : Nat) (w span : Wide) : State :=
  let p := Cw.param w
  let e := Cw.elem w
  let s := if cueWrites level p e then s.endRamps p e k else s
  let stop := match Dict.row p with
    | some r => r.ty.rampValue (Cw.value w)
    | none => ((Cw.value w).toNat : Int)
  let r : Ramp := { param := p, elem := e, rq := rq, level := level, start := s.rampNow p e, stop := stop,
                    span := field span 0 16, first := k, ends := none }
  { s with cue := { s.cue with ramps := s.cue.ramps ++ [r] } }

/-- What a cue's action words do to the ramps alone, as a standby carries them on (R368). -/
def State.followRamps (s : State) (rq : Requester) (level k : Nat) : List Wide → State
  | [] => s
  | w :: ws =>
    let t := match Cw.op w, ws with
      | 0, _ => if cueWrites level (Cw.param w) (Cw.elem w) then s.endRamps (Cw.param w) (Cw.elem w) k else s
      | 2, x :: _ => if Cw.op x = 3 then s.startRamp rq level k w x else s
      | _, _ => s
    State.followRamps t rq level k ws

/-- The requester that a header's Source names; a cue mirrored from the twin is the kernel's own (Table 8.5). -/
def cueSource (source : Nat) : Requester :=
  if source < 4 then { path := .window (Fin.ofNat 4 source) true, session := 0, addr := 0, udp := 0 }
  else if source = 4 then { path := .bosun, session := 0, addr := 0, udp := 0 }
  else if 16 ≤ source ∧ source ≤ 32 then { path := .stay 0, session := Fin.ofNat 17 (source - 16), addr := 0, udp := 0 }
  else { path := .window 0 true, session := 0, addr := 0, udp := 0 }

/-- The value of a ramp `j` frames after its first: `v0 + trunc((stop - v0) * j / n)` (R186). -/
def Ramp.valueAt (r : Ramp) (j : Nat) : Int :=
  if j ≥ r.span then r.stop else r.start + Int.tdiv ((r.stop - r.start) * (j : Int)) (r.span : Int)

/-! ### A change of rate (R129) -/

/-- A seed has applied another rate, whose indices count other periods: cues that the kernel holds are targeted anew by
their tags, ramps go on by one step per frame, and what waits for a frame of the old rate waits for the next latch.
`before` is the frame that was next to latch. -/
def State.regrid (s : State) (before : Nat) : State :=
  let next := s.halyard.grid.nextLatch
  let kernel := s.cue.kernel.map (fun (c : KernelCue) =>
    if c.late then { c with target := max next s.firstOpenFrame } else { c with target := (s.cueTarget (Cw.tag c.header)).1 })
  let moved := fun (k : Nat) => next + k - before
  let ramps := s.cue.ramps.map (fun (r : Ramp) => { r with first := moved r.first, ends := r.ends.map moved })
  { s with cue := { s.cue with kernel := kernel, ramps := ramps }
           content := s.content.map (fun (x : ContentWrite) => { x with frame := none })
           blobWrites := s.blobWrites.map (fun (x : BlobWrite) => { x with frame := none })
           render := { s.render with items := s.render.items.map (fun (x : PendingItem) => { x with frame := none }) }
           twin := { s.twin with handOver := s.twin.handOver.map (fun (h : Nat × Word) => (next, h.2))
                                 resyncFrame := s.twin.resyncFrame.map (fun _ => next) } }

/-- Apply the seed in P2053 (R127), with what a change of rate moves. -/
def State.seedGrid (s : State) : State :=
  let g := s.halyard.grid
  let t := s.applySeed
  if g.rateChanged then t.regrid g.nextLatch else t

end Sys2Proof.Machine
end

