-- ==== Sys2Proof/Machine/Twin.lean ====
section
/-! DEFINITION. Twin-mast redundancy (chapter 17), first part: roles and the role epoch, the two pennant paths, the
pennant header, and the making of mirror records. What a received record does stands in Mirror. -/
namespace Sys2Proof.Machine

/-! ### Roles and epochs (R357, R359) -/

def Role.code : Role → Nat
  | .solo => 0
  | .joining => 1
  | .standby => 2
  | .active => 3

def Role.ofCode : Nat → Role
  | 0 => .solo
  | 1 => .joining
  | 2 => .standby
  | _ => .active

def MirrorState.code : MirrorState → Nat
  | .inSync => 0
  | .resynchronising => 1
  | .stale => 2
  | .none => 3

def MirrorState.ofCode : Nat → MirrorState
  | 0 => .inSync
  | 1 => .resynchronising
  | 2 => .stale
  | _ => .none

/-- PairEnable. -/
def State.paired (s : State) : Bool := s.bit P.TwinControl 0 0
/-- The unit letter: true for unit B. -/
def State.unitB (s : State) : Bool := s.power.straps.unitB
/-- This unit's role epoch (PD001 6:0). -/
def State.epoch (s : State) : BitVec 7 := BitVec.ofNat 7 (s.fld P.TwinStatus 0 0 7)
/-- MirrorState (PD001 17:16). -/
def State.mirrorState (s : State) : MirrorState := MirrorState.ofCode (s.fld P.TwinStatus 0 16 2)
def State.setMirrorState (s : State) (m : MirrorState) : State := s.setFld P.TwinStatus 0 16 2 m.code
def State.setTwin (s : State) (t : Twin) : State := { s with twin := t }

/-- R359: epoch `x` ranks above `y`; at equal epochs unit A ranks above unit B. `b` tells that `x` is unit B's. -/
def epochAbove (x y : BitVec 7) (b : Bool) : Bool :=
  let d := (x.toNat + 127 - y.toNat % 127) % 127
  if d = 0 then !b else decide (1 ≤ d) && decide (d ≤ 63)

/-- The epoch a unit takes on assuming Active: `(e mod 127) + 1`. -/
def nextEpoch (e : Option (BitVec 7)) : BitVec 7 :=
  match e with
  | none => 1
  | some x => BitVec.ofNat 7 (x.toNat % 127 + 1)

/-- Remember an epoch held or received when it ranks above the one remembered. -/
def State.noteEpoch (s : State) (e : BitVec 7) : State :=
  if e = 0 then s
  else
    match s.twin.lastEpoch with
    | none => s.setTwin { s.twin with lastEpoch := some e }
    | some x => if x ≠ e ∧ epochAbove e x true then s.setTwin { s.twin with lastEpoch := some e } else s

/-- Change role or epoch; each change sets TwinRole (R357). -/
def State.setRole (s : State) (r : Role) (e : BitVec 7) : State :=
  if s.role = r ∧ s.epoch = e then s
  else
    let s := (s.setFld P.TwinStatus 0 24 2 r.code).setFld P.TwinStatus 0 0 7 e.toNat
    let s := s.noteEpoch e
    s.event Ev.twinRole P.TwinStatus 0 (BitVec.ofNat 32 (r.code * 128 + e.toNat))

/-- Show output of the unit stops, or waits for the next latch. -/
def State.setOutput (s : State) (b : Bool) : State := s.setTwin { s.twin with output := b }

/-- The DualActive bit clears when either unit steps down (R375). -/
def State.clearDual (s : State) : State :=
  (s.setBit P.TwinStatus 0 22 false).setTwin { s.twin with dualRun := 0, splitCounted := false }

/-! ### Commits that wait for the standby (R369) -/

/-- Where the body of a transfer slot is staged: 32 MiB of the reserved DRAM for each slot (Table 18.4). -/
def slotArea (slot : Nat) : Nat := 0x0E000000 + slot * 0x2000000

/-- The table area that does not hold the live element table, which takes a staged one (R219, R222). -/
def State.stagedArea (s : State) : Nat := if s.render.upperArea then 0 else 0x2000000

/-- Where the body of a transfer is staged: an element table in its area, every other body in the slot's. -/
def State.stagingBase (s : State) (slot param : Nat) : Nat := if param = P.ElementTable then s.stagedArea else slotArea slot

/-- The staged body of a slot. -/
def State.stagedBody (s : State) (slot : Nat) : List Byte := s.getDram (s.stagingBase slot (s.xfer slot).param) (s.xfer slot).total

/-- A body waits for its latch, that of a frame it is timed to or the one R19 gives it; its commit is answered OK (R104,
Table 5.10). -/
def State.placeAtLatch (s : State) (slot : Nat) (frame : Option Nat) : State :=
  let x := s.xfer slot
  let w : BlobWrite := { param := x.param, body := s.stagedBody slot, slot := some slot, frame := frame.or s.nextChange }
  let s := { s with blobWrites := s.blobWrites ++ [w] }
  (s.setXfer slot { x with state := .latchPending, result := some 0 }).event Ev.blockDone x.param 0 0

/-- The commits that wait go on without the partner. -/
def State.proceedAlone (s : State) : State :=
  s.twin.blobCommit.foldl (fun s c => s.placeAtLatch c.1 none) (s.setTwin { s.twin with blobCommit := [] })

/-- A unit that no longer decides ends the commits that wait, as R93 ends a write to a mirrored parameter. -/
def State.endCommits (s : State) : State :=
  s.twin.blobCommit.foldl (fun s c =>
    let x := s.xfer c.1
    (s.setXfer c.1 { x with state := .free, result := some 0x0C }).event Ev.blockDone x.param 0 0x0C)
    (s.setTwin { s.twin with blobCommit := [] })

/-- Nothing of the partner's records is kept: no expected sequence, no resynchronisation, nothing staged (R366). -/
def Twin.forget (t : Twin) : Twin :=
  { t with expected := none, waiting := [], resyncing := false, resyncFrame := none, resyncHeld := false, staging := [],
           verifying := [], verified := [], mismatched := [], resent := [], unacked := [], sent := 0, bodies := [],
           nextRecord := 1 }

/-- MirrorState becomes Stale on a standby (R366, R371). -/
def State.goStale (s : State) : State := (s.setMirrorState .stale).setTwin s.twin.forget

/-- Take a cue out of the queue by its admission number: its words, if it was there. -/
def State.takeCue (s : State) (n : Word) : Option (List Wide) × State :=
  match s.cue.queue.find? (fun c => c.admission == n) with
  | none => (none, s)
  | some c =>
    let first := s.cue.queue.head?.map (·.admission) == some n
    (some c.words, { s with cue := { s.cue with queue := s.cue.queue.filter (fun c => c.admission != n)
                                                inService := s.cue.inService && !first } })

/-- The frame index a record names, the one of those with its low 32 bits that lies nearest the next latch. -/
def State.fullFrame (s : State) (target : Word) : Nat :=
  let n := s.halyard.grid.nextLatch
  let d := (target - BitVec.ofNat 32 n).toInt
  ((n : Int) + d).toNat

/-- A cue done for frame `k` on the active leaves the standby's queue, and its ramps go on from there (R368). -/
def State.cueDone (s : State) (n : Word) (k : Nat) : State :=
  let (ws, s) := s.takeCue n
  match ws with
  | some (h :: as) => s.followRamps (cueSource (Cw.source h)) (Cw.level h) k as
  | _ => s

/-- The admission number of a CueDone or CueAdmit record. -/
def MirrorRecord.admission (r : MirrorRecord) : Word := BitVec.ofNat 32 (beNat (r.data.take 4))

/-- Records up to the last CueDone: writes of a group whose CueDone has not come are not kept (R368). -/
def heldGroups (l : List MirrorRecord) : List MirrorRecord :=
  (l.reverse.dropWhile (fun r => r.kind == 1)).reverse

/-- The unit assumes Active: a new epoch, control under Table 17.2, no mirror state of its own. Groups that it holds
whole still act at their latch, and their cues are done. `next` is the sequence of its first record. -/
def State.becomeActive (s : State) (next : Word) : State :=
  let shows := s.twin.output && (s.role == .standby) && s.mirrorState == .inSync
  let groups := heldGroups s.twin.waiting
  let s := groups.foldl (fun (s : State) r => if r.kind = 3 then s.cueDone r.admission (s.fullFrame r.target) else s) s
  let s := s.setRole .active (nextEpoch s.twin.lastEpoch)
  let s := s.setMirrorState .none
  s.setTwin { s.twin.forget with handOver := none, roleAtLatch := none, nextRecord := next, ack := 0, waiting := groups,
                                 output := shows }

/-- Cues that the kernel has read and not executed go back to the queue of a unit that no longer executes any. -/
def State.returnCues (s : State) : State :=
  let ks := s.cue.kernel
  let s := { s with cue := { s.cue with kernel := [] } }
  ks.foldl (fun (s : State) c =>
    s.enqueueCue { priority := Cw.priority c.header, admission := c.admission, words := c.header :: c.actions }) s

/-- The unit becomes Standby, Stale. -/
def State.becomeStale (s : State) : State :=
  let s := s.endCommits.returnCues.setRole .standby s.epoch
  let s := s.goStale.clearDual
  s.setTwin { s.twin with handOver := none, roleAtLatch := none, output := false }

/-- At a hand-over the unit becomes Standby, InSync, and expects the record that follows its HandOver (R366). -/
def State.handOverTo (s : State) (seq : Word) : State :=
  let s := s.endCommits.returnCues.setRole .standby s.epoch
  let s := (s.setMirrorState .inSync).clearDual
  s.setTwin { s.twin.forget with expected := some (seq + 1), ack := seq, handOver := none, roleAtLatch := none }

/-- The unit becomes Solo: epoch 0. -/
def State.becomeSolo (s : State) : State :=
  let s := s.proceedAlone.setRole .solo 0
  let s := (s.setMirrorState .none).clearDual
  s.setTwin { s.twin.forget with roleAtLatch := none, handOver := none, output := true }

/-- A paired unit starts to join: show output stops (Table 17.7). -/
def State.becomeJoining (s : State) : State :=
  let s := s.setRole .joining s.epoch
  (s.setMirrorState .stale).setOutput false

/-! ### Paths (R363) -/

def State.pennantAlive (s : State) : Bool := s.bit P.TwinStatus 0 18
def State.stayAlive (s : State) : Bool := s.bit P.TwinStatus 0 19

/-- PathAlarm, PartnerLost and the partner-heard flag follow the two paths. -/
def State.pathFlags (s : State) : State :=
  let a := s.pennantAlive
  let b := s.stayAlive
  let s := s.setBit P.TwinStatus 0 20 (s.paired && (a != b))
  let s := s.setBit P.TwinStatus 0 21 (s.paired && !a && !b)
  s.setTwin { s.twin with partnerHeard := a || b }

/-- H in time-clock ticks. -/
def State.heartbeatTicks (s : State) : Nat := s.rdN P.HeartbeatInterval 0 * 500

/-- How many consecutive intervals have brought a valid pennant; `again` tells that this one is a copy, on another stay
port, of the last. -/
def State.runAfter (s : State) (last : Option Nat) (run : Nat) (again : Bool) : Nat :=
  match last with
  | none => 1
  | some t => if 2 * s.heartbeatTicks < s.clock - t then 1 else if again then run else run + 1

/-- A valid pennant arrived on a path (0 Pennant, 1 stay): a lost path is alive again at the third interval. -/
def State.pathHeard (s : State) (path : Nat) (seq : Word) : State :=
  let t := s.twin
  if path = 0 then
    let run := s.runAfter t.pennantAt t.pennantRun (t.pennantSeq == some seq)
    let s := s.setTwin { t with pennantAt := some s.clock, pennantRun := run, pennantSeq := some seq }
    (if run ≥ 3 then s.setBit P.TwinStatus 0 18 true else s).pathFlags
  else
    let run := s.runAfter t.stayAt t.stayRun (t.staySeq == some seq)
    let s := s.setTwin { t with stayAt := some s.clock, stayRun := run, staySeq := some seq }
    (if run ≥ 3 then s.setBit P.TwinStatus 0 19 true else s).pathFlags

/-- A role change that Table 17.7 times to a latch, as it takes effect. -/
def State.takeRole (s : State) (r : Role) : State :=
  match r with
  | .standby => s.becomeStale
  | .active => s.becomeActive s.twin.nextRecord
  | .solo => s.becomeSolo
  | .joining => s.becomeJoining

/-- It takes effect at once while the grid has no seed (R372). -/
def State.roleAt (s : State) (r : Role) : State :=
  if s.seeded then s.setTwin { s.twin with roleAtLatch := some r } else s.takeRole r

/-- A standby takes Active on losing its partner, unless a strap conflict holds it back (Table 17.7, R364). -/
def State.takeOver (s : State) : State :=
  if s.bit P.TwinStatus 0 23 then s
  else (s.becomeActive (s.twin.expected.getD s.twin.nextRecord)).count P.TakeoverCount 0

/-- What the loss of the partner does (Table 17.7, R369, R373). -/
def State.partnerLost (s : State) : State :=
  let s := s.setTwin { s.twin with partnerSeq := none }
  match s.role with
  | .standby => s.takeOver
  | .active =>
    let s := s.proceedAlone
    s.setTwin { s.twin with handOver := none, dualRun := 0, resyncing := false }
  | _ => s

/-- PATH_LOSS: a path's age exceeded 3H. -/
def State.losePath (s : State) (path : Nat) : State :=
  let bitNo := 18 + path
  if s.bit P.TwinStatus 0 bitNo then
    let s := s.setBit P.TwinStatus 0 bitNo false
    let s := s.setTwin (if path = 0 then { s.twin with pennantRun := 0 } else { s.twin with stayRun := 0 })
    let s := (s.count P.PathLossCount path).log 0x1D 0x0050 path 0 0
    let s := s.pathFlags
    let s := if path = 0 ∧ s.role = .standby then s.goStale
      else if path = 0 then s.setTwin { s.twin with resyncing := false }
      else s
    if s.bit P.TwinStatus 0 21 then s.partnerLost else s
  else s

/-- PATH_LOSS (R363). -/
def execPathLoss (path : Fin 2) (s : State) : Host.Outcome State Fault Refusal := done (s.losePath path)

/-- STRAP_CONFLICT_CLEAR (R364): a standby whose partner is lost may now take Active. -/
def execStrapConflictClear (s : State) : Host.Outcome State Fault Refusal :=
  let s := s.setBit P.TwinStatus 0 23 false
  done (if s.role == .standby && s.bit P.TwinStatus 0 21 then s.takeOver else s)

/-- A pennant that names this unit's own letter (R363, R364). -/
def State.strapConflict (s : State) (partnerRole : Nat) : State :=
  let first := !(s.bit P.TwinStatus 0 23)
  let s := (s.count P.StrapConflictCount 0).setBit P.TwinStatus 0 23 true
  if first then (s.log 0x1D 0x0053 partnerRole 0 0).event Ev.twinRole P.TwinStatus 0 0 else s

/-! ### Making records (R366 to R370) -/

/-- The unit mirrors to its partner: Active, paired, partner heard. -/
def State.mirroring (s : State) : Bool := s.role == .active && s.paired && s.twin.partnerHeard

/-- Add a record to those to be sent. -/
def State.emit (s : State) (r : MirrorRecord) : State :=
  let t := s.twin
  s.setTwin { t with unacked := t.unacked ++ [(t.nextRecord, r)], nextRecord := t.nextRecord + 1 }

/-- A Write record (Table 17.6). -/
def writeRecord (p e : Nat) (ty : PType) (v : Wide) (flags : Byte) (target : Word) : MirrorRecord :=
  { kind := 1, flags := flags, target := target,
    data := beBytes 2 p ++ [BitVec.ofNat 8 e, ty.code] ++ beBytes 8 v.toNat }

def cueAdmitRecord (n : Word) (words : List Wide) : MirrorRecord :=
  { kind := 2, flags := 0, target := 0, data := beBytes 4 n.toNat ++ words.flatMap (fun w => beBytes 8 w.toNat) }

def cueDoneRecord (n target : Word) : MirrorRecord :=
  { kind := 3, flags := 5, target := target, data := beBytes 4 n.toNat }

/-- A body in BlobData records of at most 1,024 bytes, closed by its BlobEnd. -/
def blobRecords (p : Nat) : Nat → Nat → List Byte → List MirrorRecord
  | 0, _, _ => []
  | fuel + 1, off, bs =>
    if bs.isEmpty then []
    else
      { kind := 4, flags := 0, target := 0, data := beBytes 2 p ++ [0, 0] ++ beBytes 4 off ++ bs.take 1024 } ::
        blobRecords p fuel (off + 1024) (bs.drop 1024)

def blobEndRecord (p : Nat) (body : List Byte) : MirrorRecord :=
  { kind := 5, flags := 0, target := 0, data := beBytes 2 p ++ [0, 0] ++ beBytes 4 body.length ++ sha256 body }

/-- Send a body to the standby (R369); `commit` tells that a commit waits for the answer. -/
def State.emitBlob (s : State) (p : Nat) (body : List Byte) (commit : Bool) : State :=
  let s := (blobRecords p (body.length / 1024 + 1) 0 body).foldl State.emit s
  let s := s.emit (blobEndRecord p body)
  s.setTwin { s.twin with bodies := s.twin.bodies ++ [(p, commit)] }

/-- The first frame whose L(k) lies at least MirrorLead ahead. -/
def State.mirrorFrame (s : State) : Nat :=
  frameAt s.halyard.grid.rate (s.fullTime + s.blank + s.rdN P.MirrorLead 0 * 1000) + s.halyard.grid.lead + 1

/-- A Time record (R370): its seed is the one that the grid would take now, the next boundary's. -/
def State.timeRecord (s : State) : MirrorRecord :=
  { kind := 7, flags := 0, target := 0,
    data := beBytes 8 (s.rdN P.WrapCount 0) ++ beBytes 8 s.halyard.grid.index ++ beBytes 4 s.halyard.grid.t.toNat ++
      beBytes 4 s.halyard.grid.r ++ beBytes 4 (s.rdN P.FrequencyOffset 0) }

/-- Send a Time record. -/
def State.emitTime (s : State) : State :=
  let s := s.emit s.timeRecord
  s.setTwin { s.twin with timeSent := some s.clock }

/-- Write records for every element of every mirrored scalar. -/
def State.scalarRecords (s : State) : List MirrorRecord :=
  (allRows.filter (fun r => r.mirrored && r.ty != .blob && r.ty != .str)).flatMap fun r =>
    (List.range r.elems).map fun e => writeRecord r.num e r.ty (s.rd r.num e) 0 0

/-- The body a mirrored parameter has once every commit that is already answered has become live. -/
def State.latestBody (s : State) (p : Nat) : List Byte :=
  (s.blobWrites.filter (fun w => w.param == p)).foldl (fun _ w => w.body) (s.blob p)

/-- A full resynchronisation (R371): scalars, bodies, every cue admitted and not yet executed, the time, and the frame.
The bodies of commits that wait for the standby follow it. -/
def State.startResync (s : State) : State :=
  let k := s.mirrorFrame
  let blobs := (allRows.filter (fun r => r.mirrored && (r.ty == .blob || r.ty == .str))).map (·.num)
  let s := s.setTwin { s.twin with unacked := [], sent := 0, resyncing := true, expected := none, ack := 0, bodies := [] }
  let s := s.wr P.ResyncProgress 0 0
  let s := s.emit { kind := 8, flags := 0, target := 0, data := [] }
  let s := s.scalarRecords.foldl State.emit s
  let s := blobs.foldl (fun (s : State) p => s.emitBlob p (s.latestBody p) false) s
  let s := s.cue.kernel.foldl (fun (s : State) c => s.emit (cueAdmitRecord c.admission (c.header :: c.actions))) s
  let s := s.cue.queue.foldl (fun (s : State) c => s.emit (cueAdmitRecord c.admission c.words)) s
  let s := s.emitTime
  let s := s.emit { kind := 9, flags := 4, target := BitVec.ofNat 32 k, data := [] }
  let s := s.twin.blobCommit.foldl (fun (s : State) c => s.emitBlob (s.xfer c.1).param (s.stagedBody c.1) true) s
  s.count P.ResyncCount_PD027 0

/-! ### The pennant (R360 to R362, Table 17.3) -/

/-- Destinations hashed for the frame of destination 00h, and the XOR of their hashes. -/
def State.hashSummary (s : State) : Word :=
  let i := s.rd P.FrameHashIndex 0
  (List.range 0x41).foldl (fun (x : Word) d =>
    if s.rd P.FrameHashIndex d = i then x ^^^ (s.rd P.FrameHash d).setWidth 32 else x) 0

/-- The 32-byte header. -/
def State.pennantHeader (s : State) (kind count : Nat) (next : Word) : List Byte :=
  beBytes 2 0x5044 ++ [BitVec.ofNat 8 (0x10 + kind), BitVec.ofNat 8 (s.unitB.toNat * 128 + s.epoch.toNat),
    BitVec.ofNat 8 (s.role.code * 64 + s.mirrorState.code * 16 + s.pennantAlive.toNat * 8 + s.stayAlive.toNat * 4),
    BitVec.ofNat 8 s.timeState] ++ beBytes 2 count ++ beBytes 4 s.twin.sequence.toNat ++ beBytes 4 s.tns.toNat ++
    beBytes 4 next.toNat ++ beBytes 4 s.twin.ack.toNat ++ beBytes 4 (s.rdN P.FrameHashIndex 0) ++
    beBytes 4 s.hashSummary.toNat

/-- A record as it leaves (Table 17.5). -/
def MirrorRecord.bytes (r : MirrorRecord) : List Byte :=
  [r.kind, r.flags] ++ beBytes 2 r.data.length ++ beBytes 4 r.target.toNat ++ r.data

/-- The records that fit in a budget of bytes. -/
def takeRecords : Nat → List (Word × MirrorRecord) → List (Word × MirrorRecord)
  | _, [] => []
  | budget, x :: xs =>
    let n := 8 + x.2.data.length
    if n ≤ budget then x :: takeRecords (budget - n) xs else []

/-- Bytes of records a burst may carry: `(H/2 - 20 µs) × 12.5`, less preamble, header and CRC (R360). -/
def State.burstBudget (s : State) : Nat := (s.rdN P.HeartbeatInterval 0 - 40) * 25 / 4 - 44

/-- PENNANT_BURST_START: the burst on the link and the stay pennants. -/
def State.sendPennant (s : State) : State :=
  let t := s.twin
  let rs := takeRecords s.burstBudget (t.unacked.drop t.sent)
  let next : Word := match rs with
    | x :: _ => x.1
    | [] => t.nextRecord
  let body := s.pennantHeader 0 rs.length next ++ rs.flatMap (fun x => x.2.bytes)
  let burst := List.replicate 7 (0x55 : Byte) ++ [0xD5] ++ body ++ beBytes 4 (crc32 body).toNat
  let stayHead := s.pennantHeader 1 0 t.nextRecord
  let stayMsg := stayHead ++ (hmac (s.blob P.PairKey) stayHead).take 16
  let s := s.setTwin { t with sequence := t.sequence + 1, sent := t.sent + rs.length, lastBurst := burst }
  let s := if rs.isEmpty then s else s.traffic P.MirrorRecordCount 0 rs.length
  let sentBytes := rs.foldl (fun (n : Nat) (x : Word × MirrorRecord) => n + 8 + x.2.data.length) 0
  let s := if s.twin.resyncing && s.role == .active then
      s.wr P.ResyncProgress 0 (s.rd P.ResyncProgress 0 + BitVec.ofNat 64 sentBytes)
    else s
  if s.bit P.TwinControl 0 1 then
    (List.range 4).foldl (fun s p =>
      if s.bit P.TwinControl 0 (4 + p) && s.stayEnabled p then
        s.sendPriority p { frame := .stayPennant stayMsg, len := s.stayUdpLen p (isV6 s.pennantGroup) 48,
                            net := some (s.stayGroupHead p s.pennantGroup 49232) }
      else s) s
  else s

/-- The Time record of each second (R370). -/
def State.keepTime (s : State) : State :=
  if s.mirroring && s.seeded then
    match s.twin.timeSent with
    | some t => if t + 500000000 ≤ s.clock then s.emitTime else s
    | none => s.emitTime
  else s

/-- A paired unit in service sends its pennants. -/
def State.heartbeat (s : State) : State := if s.stayActive && s.paired then s.keepTime.sendPennant else s

/-- PENNANT_BURST_START (R360). -/
def execPennantBurstStart (s : State) : Host.Outcome State Fault Refusal := done (s.ownCommand 0x08 State.heartbeat)

/-- Show output follows the role (R358): a standby sends while it is InSync, a joining unit sends nothing. -/
def State.sendsOutput (s : State) : Bool :=
  s.twin.output && s.role != .joining && (s.role != .standby || s.mirrorState == .inSync)

/-- MIRROR_RESEND (R366): from the lowest unacknowledged sequence. -/
def execMirrorResend (s : State) : Host.Outcome State Fault Refusal := done (s.setTwin { s.twin with sent := 0 })

/-- ROLE_REQUEST: 5Ah schedules a hand-over (R373, R374); the status of the write. -/
def State.requestRole (s : State) (v : Byte) : State × Byte :=
  if v ≠ 0x5A then (s, 0)
  else if s.role = .active ∧ s.seeded ∧ s.twin.partnerHeard ∧ s.twin.partnerRole = .standby ∧
      s.twin.partnerMirror = .inSync then
    let k := s.mirrorFrame
    let s := s.setTwin { s.twin with handOver := some (k, s.twin.nextRecord) }
    (s.emit { kind := 0x0A, flags := 4, target := BitVec.ofNat 32 k, data := [] }, 0)
  else (s, 2)

end Sys2Proof.Machine
end

