-- ==== Sys2Proof/Machine/Reset.lean ====
section
/-! DEFINITION. Resets, the boot sequence, the life cycle and the PLLs (chapter 3), the choice of an image slot at boot
(R405, R406, R409), and the watchdog. -/
namespace Sys2Proof.Machine

/-! ### Resets (R54 to R58) -/

/-- Bits of P1010 ResetCause (Table 3.5). -/
abbrev Cause.powerOn : Nat := 0
abbrev Cause.resetPin : Nat := 1
abbrev Cause.brownout : Nat := 2
abbrev Cause.watchdog : Nat := 3
abbrev Cause.clockFault : Nat := 4
abbrev Cause.commanded : Nat := 5
abbrev Cause.lifeCycle : Nat := 6
abbrev Cause.struckWake : Nat := 7

/-- What a full reset keeps of the machine: the fuses, identity area and flash, the waiting commands, the model's own
counters, and in the always-on domain P1010, P1012 and the real-time clock (R58). A flash activity that it cuts short
leaves its slot or bank unfinished (R408, R414). -/
def State.cleared (s : State) : State :=
  let keep := State.reset
  let s' := { keep with pending := s.pending, clock := s.clock, rtcPhase := s.rtcPhase, freeCount := s.freeCount, nv := s.nv }
  let s' := s'.wr P.ResetCause 0 (s.rd P.ResetCause 0)
  let s' := s'.wr P.BrownoutRails 0 (s.rd P.BrownoutRails 0)
  s'.wr P.RtcCount 0 (s.rd P.RtcCount 0)

/-- A full reset with its cause: every block returns to its reset state and the device is held in reset (R54, R57). What
the machine was before the first reset of the clock decides which further sources act in it. -/
def State.fullReset (s : State) (cause : Nat) : State :=
  ({ s.cleared with now := { ThisClock.init with beforeReset := some (s.now.beforeReset.getD s.power) } }).raise
    P.ResetCause 0 cause

/-- The power record as a source of this clock finds it: two sources of one clock both set their bits (R57). -/
def State.inClock (s : State) : Power := s.now.beforeReset.getD s.power

/-- Terminating packets of R41 still wait or are leaving on a port whose link is up. -/
def State.announcing (s : State) : Bool :=
  s.sheet.stopping && s.ports.any (fun x => s.shroudUp x.1 && (!x.2.shows.isEmpty || (match x.2.sending with
    | some y => match y.frame with
      | .sacnData _ _ => true
      | _ => false
    | none => false)))

/-- Step 2 of a confirmed life-cycle change: its announcements are complete, its fuses not yet (R64). -/
def State.fusing (s : State) : Bool := s.power.lifeChange.isSome && !s.announcing

/-- The programming of a fuse pair is cut short: at least one fuse of the pair is blown, so that the new state is reached,
and which of them is a free value (R65). -/
def State.cutFuses (s : State) : State :=
  match s.power.lifeChange with
  | none => s
  | some t =>
    if s.fusing then
      let (v, s) := s.free
      { s with nv := { s.nv with fuses := (List.range 3).map fun i =>
        let x := s.nv.fuses.getD i (false, false)
        if i + 1 = t.toNat then (x.1 || v.getLsbD 0 || !v.getLsbD 1, x.2 || v.getLsbD 1) else x } }
    else s

/-- The causes of resets that waited are recorded with the reset that comes (R57, R64). -/
def State.withDeferred (s : State) (causes : BitVec 8) : State :=
  s.wr P.ResetCause 0 (s.rd P.ResetCause 0 ||| causes.setWidth 64)

/-- A reset source acts: during the programming of a fuse pair RESET_N and the watchdog wait until it is complete (R64);
any other source cuts it short. -/
def State.resetBy (s : State) (cause : Nat) : State :=
  if s.power.phase = .unpowered then s
  else if s.fusing ∧ (cause = Cause.resetPin ∨ cause = Cause.watchdog) then
    { s with power := { s.power with deferredCauses := s.power.deferredCauses ||| BitVec.ofNat 8 (2 ^ cause) } }
  else (s.cutFuses.fullReset cause).withDeferred s.power.deferredCauses

/-- POWER_ON: VAO rises; all cause bits but PowerOn clear, the RTC count starts at 0 (Tables 3.5 and 4.7). -/
def execPowerOn (s : State) : Host.Outcome State Fault Refusal :=
  done { State.reset with pending := s.pending, clock := s.clock, freeCount := s.freeCount, nv := s.nv }

/-- BROWNOUT: a rail other than VAO and VSCN fell below its threshold; P1012 names it, VAO at bit 12 to VSCN at bit 0. The
operand counts the rails VCORE to VKITE from 0. In Struck the rails may be absent (R51). -/
def execBrownout (rail : Fin 12) (s : State) : Host.Outcome State Fault Refusal :=
  if s.power.phase = .unpowered ∨ s.power.phase = .struck ∨ rail = 11 then done s
  else done ((s.resetBy Cause.brownout).raise P.BrownoutRails 0 (11 - rail.val))

/-- RESET_PIN (R54, R55): ignored in Struck (Table 2.10). -/
def execResetPin (s : State) : Host.Outcome State Fault Refusal :=
  if s.power.phase = .struck then done s else done (s.resetBy Cause.resetPin)

/-- WATCHDOG_EXPIRY (R54): the watchdog counts in Run and Luff. -/
def execWatchdogExpiry (s : State) : Host.Outcome State Fault Refusal :=
  if s.inClock.watchdog = .running then done (s.resetBy Cause.watchdog) else done s

/-- The watchdog starts again from its full timeout. -/
def State.serviceWatchdog (s : State) : State := { s with power := { s.power with serviced := s.clock } }

/-- Start, pause or stop the watchdog (R56). -/
def State.setWatchdog (s : State) (m : WatchdogMode) : State :=
  { s with power := { s.power with watchdog := m, serviced := s.clock } }

/-- Bit of a PLL in P1030 (CPLL at bit 6 to KPLL at bit 0); the reference has none. -/
def HardClock.bit : HardClock → Option Nat
  | .cpll => some 6
  | .fpll => some 5
  | .tpll => some 4
  | .dpll => some 3
  | .reference => none

/-- The 50 MHz reference runs: core rails present, and neither Furled, nor Struck, nor the last steps to them (R52,
Table 4.3). -/
def State.referenceRuns (s : State) : Bool :=
  !(s.power.phase == .unpowered || s.power.phase == .struck) &&
    (match s.power.sleep with
      | .furled | .waking true => false
      | .entering t ap => decide (ap < 3) || decide (t.toNat = 2)
      | _ => true)

/-- CLOCK_FAULT (R53): a stop of the reference while it runs, or the loss of a PLL that is locked. -/
def execClockFault (source : HardClock) (s : State) : Host.Outcome State Fault Refusal :=
  let runs := match HardClock.bit source with
    | some n => s.bit P.PllLockStatus 0 n
    | none => s.referenceRuns
  if runs then done (s.resetBy Cause.clockFault) else done s

/-- Bit of a PLL in P1030 (CPLL at bit 6 to KPLL at bit 0). -/
def SoftPll.bit : SoftPll → Nat
  | .spll => 2
  | .hpll => 1
  | .kpll => 0

/-- The lock bit of a PLL changes; SPLL is shown by every stay port too. -/
def State.setLock (s : State) (n : Nat) (b : Bool) : State :=
  let s := s.setBit P.PllLockStatus 0 n b
  if n = 2 then (List.range 4).foldl (fun s p => s.setBit P.StayStatus p 6 (b && s.stayEnabled p)) s else s

/-- PLL_LOSS_OF_LOCK (R53): counted and logged; the ports of SPLL lose their links. -/
def execPllLossOfLock (pll : SoftPll) (s : State) : Host.Outcome State Fault Refusal :=
  let n := SoftPll.bit pll
  if s.bit P.PllLockStatus 0 n then
    let s := ((s.setLock n false).count P.PllLossCount 0).log 0x11 0x0010 n 0 0
    if n = 2 then done ((List.range 4).foldl State.stayDown s) else done s
  else done s

/-- What the test access port reaches (Table 3.7). -/
inductive TestReach | boundaryScan | deckCoreDebug
  deriving DecidableEq, Repr

/-- What the test access port reaches in the life-cycle state; `answered` tells that the Rigger challenge-response over the
port has succeeded, which Sealed asks for deck-core debug (R60). -/
def State.testAccess (s : State) (answered : Bool) : List TestReach :=
  .boundaryScan :: (if s.lifeCycle = 0 || (s.lifeCycle = 1 && answered) then [.deckCoreDebug] else [])

/-- VAO_LOSS (R57): the device is unpowered; nothing but fuses, identity area and flash survives. -/
def execVaoLoss (s : State) : Host.Outcome State Fault Refusal :=
  let s := s.cutFuses
  let s' := { State.reset with pending := s.pending, clock := s.clock, freeCount := s.freeCount, nv := s.nv }
  done ({ s' with power := { s'.power with phase := .unpowered } }.wr P.ResetCause 0 0)

/-! ### Commanded reset (R41, R56) -/

/-- COMMANDED_RESET: the instant of an accepted request. -/
def execCommandedReset (s : State) : Host.Outcome State Fault Refusal :=
  if s.inClock.resetPending then done (s.resetBy Cause.commanded) else done s

/-! ### Life cycle (R60 to R66) -/

/-- LIFE_CYCLE_CONFIRM_TIMEOUT (R63). -/
def execLifeCycleConfirmTimeout (s : State) : Host.Outcome State Fault Refusal :=
  done { s with power := { s.power with lifeRequest := none } }

/-- Blow both fuses of a state beyond Open. -/
def blowPair (n : Nat) (fs : List (Bool × Bool)) : List (Bool × Bool) :=
  (List.range 3).map (fun i => if i + 1 = n then (true, true) else fs.getD i (false, false))

/-- FUSE_PROGRAMMING_DONE (R64): a reset with cause LifeCycle, and with the causes that waited. -/
def execFuseProgrammingDone (s : State) : Host.Outcome State Fault Refusal :=
  match s.inClock.lifeChange with
  | none => done s
  | some t =>
    let s := { s with nv := { s.nv with fuses := blowPair t.toNat s.nv.fuses } }
    done ((s.fullReset Cause.lifeCycle).withDeferred s.power.deferredCauses)

/-- RETIRED_ERASE_DONE (R66): settings banks, session keys and identity secret are gone. -/
def execRetiredEraseDone (s : State) : Host.Outcome State Fault Refusal :=
  if s.power.phase = .erasing then
    let s := { s with nv := { s.nv with bank0 := Bank.empty, bank1 := Bank.empty, helmKey := none, riggerKey := none,
                                        yardKey := none, identitySecret := false } }
    done { s with power := { s.power with phase := .retired } }
  else done s

/-! ### Image slots (R405, R406) -/

/-- A mark counts as set when any of its bits is 0. -/
def markSet (w : Word) : Bool := w != 0xFFFFFFFF

/-- State code of a slot (Table 19.3). -/
def Slot.code (x : Slot) : Nat :=
  if markSet x.rejected then 4 else if markSet x.confirmed then 3 else if markSet x.trial then 2
  else if markSet x.written then 1 else 0

/-- Slot A or B. -/
def State.slotOf (s : State) (i : Fin 2) : Slot := if i = 0 then s.nv.slotA else s.nv.slotB
def State.setSlot (s : State) (i : Fin 2) (x : Slot) : State :=
  if i = 0 then { s with nv := { s.nv with slotA := x } } else { s with nv := { s.nv with slotB := x } }

/-- R406: `x` ranks above `y`. -/
def Slot.above (x y : Slot) : Bool :=
  if x.code = 0 then false else if y.code = 0 then true else newer x.generation y.generation

/-- Header fields of an image (Table 19.2). -/
def Slot.version (x : Slot) : Nat := leNat (sliceBytes x.image 6 2)
def Slot.format (x : Slot) : Half := BitVec.ofNat 16 (leNat (sliceBytes x.image 8 2))
def Slot.bodyLength (x : Slot) : Nat := leNat (sliceBytes x.image 12 4)

/-- The signature is needed: every life-cycle state but Open without a programmed key hash (Table 3.7). -/
def State.signedOnly (s : State) : Bool := s.lifeCycle != 0 || s.nv.keyHash.isSome

/-- R67: the first step that fails, 0 when every step passes. A header of the wrong magic or version fails step 1. -/
def State.verifyStep (s : State) (x : Slot) : Nat :=
  let body := sliceBytes x.image 256 x.bodyLength
  let digest := sha256 (x.image.take 16 ++ body)
  let key := sliceBytes x.image 48 64
  if leNat (x.image.take 4) ≠ 0x5A494D31 ∨ leNat (sliceBytes x.image 4 2) ≠ 1 ∨ body.length ≠ x.bodyLength ∨
      digest ≠ sliceBytes x.image 16 32 then 1
  else if s.signedOnly ∧ some (sha256 key) ≠ s.nv.keyHash then 2
  else if s.signedOnly ∧ !(Config.ecdsaVerify key digest (sliceBytes x.image 112 64)) then 3
  else if s.lifeCycle = 2 ∧ x.version < s.nv.floor.toNat then 4
  else 0

/-- Slots in the order of R409: not Empty, those not Rejected first, by rank. -/
def State.slotOrder (s : State) : List (Fin 2) :=
  let a := s.nv.slotA
  let b := s.nv.slotB
  let pair : List (Fin 2) :=
    if (a.code = 4) ≠ (b.code = 4) then (if a.code = 4 then [1, 0] else [0, 1])
    else if b.above a then [1, 0] else [0, 1]
  pair.filter (fun i => (s.slotOf i).code != 0)

/-- Set Rejected on a slot, for the log at ready, and FallbackBoot (R409). -/
def State.rejectSlot (s : State) (i : Fin 2) (cause step : Nat) : State :=
  let s := s.setSlot i { s.slotOf i with rejected := 0 }
  let b := s.power.boot
  let s := { s with power := { s.power with boot := { b with rejected := b.rejected ++ [(i, cause, step)] } } }
  s.setBit P.UpdateStatus 0 3 true

/-- Boot a slot: it is the running slot, marked unverified where no signature was asked of it (R60). -/
def State.bootSlot (s : State) (i : Fin 2) : State :=
  let s := s.setFld P.UpdateStatus 0 0 1 i.val
  let s := { s with update := { s.update with format := (s.slotOf i).format } }
  { s with power := { s.power with boot := { s.power.boot with image := some i, unverified := !s.signedOnly } } }

/-- SLOT_CHOICE: the slots in turn, each once (R409). -/
def State.chooseSlot (s : State) : List (Fin 2) → State
  | [] => s
  | i :: rest =>
    let x := s.slotOf i
    match x.code with
    | 2 => State.chooseSlot (s.rejectSlot i 1 0) rest
    | 1 =>
      if s.verifyStep x = 0 then (s.setSlot i { x with trial := 0 }).bootSlot i
      else State.chooseSlot (s.rejectSlot i 2 (s.verifyStep x)) rest
    | 3 =>
      if s.verifyStep x = 0 then s.bootSlot i else State.chooseSlot (s.rejectSlot i 2 (s.verifyStep x)) rest
    | _ =>
      -- Rejected, taken last
      if s.verifyStep x = 0 then (s.bootSlot i).setBit P.UpdateStatus 0 10 true
      else State.chooseSlot (s.rejectSlot i 2 (s.verifyStep x)) rest

/-! ### Boot (R59, Table 3.6) -/

/-- Change the boot record. -/
def State.setBoot (s : State) (b : Boot) : State := { s with power := { s.power with boot := b } }

/-- RESET_RELEASE: straps latched; in Retired the erasure begins, else the boot ROM starts. A high TEST_EN keeps the
device in reset (R36). The other fuse of a reached state is blown (R65). -/
def execResetRelease (straps : Straps) (s : State) : Host.Outcome State Fault Refusal :=
  if s.power.phase = .held then
    if straps.testEn then done s
    else
      let n := s.lifeCycle
      let s := { s with nv := { s.nv with fuses := (List.range 3).map (fun i =>
        let x := s.nv.fuses.getD i (false, false)
        if x.1 || x.2 then (true, true) else x) } }
      let s := { s with power := { s.power with straps := straps } }
      let s := s.wr P.PllLockStatus 0 0x7B
      if n = 3 then
        done { s with power := { s.power with phase := if s.nv.identitySecret then .erasing else .retired } }
      else
        let s := { s with power := { s.power with phase := .boot, boot := Boot.init } }
        done (s.setCore 0 { s.core 0 with released := true })
  else done s

/-- SRAM_WIPE_DONE. -/
def execSramWipeDone (s : State) : Host.Outcome State Fault Refusal :=
  if s.power.phase = .boot then done { s.setBoot { s.power.boot with sramWiped := true } with sram := [] } else done s

/-- DRAM_TRAINED. -/
def execDramTrained (s : State) : Host.Outcome State Fault Refusal :=
  if s.power.phase = .boot then done (s.setBoot { s.power.boot with dramTrained := true }) else done s

/-- DRAM_WIPE_DONE, once the DRAM has been trained. -/
def execDramWipeDone (s : State) : Host.Outcome State Fault Refusal :=
  if s.power.phase = .boot ∧ s.power.boot.dramTrained then
    done { s.setBoot { s.power.boot with dramWiped := true } with dram := [] }
  else done s

/-- RECOVERY_ENTRY (R68). -/
def State.enterRecovery (s : State) : State :=
  let s := s.wr P.DeviceState 0 2
  { s.setFld P.UpdateStatus 0 0 1 0 with power := { s.power with phase := .recovery } }

/-- IMAGE_VERIFY: slots are chosen and checked once the SRAM is wiped; with none accepted the device enters Recovery. -/
def execImageVerify (s : State) : Host.Outcome State Fault Refusal :=
  if s.power.phase = .boot ∧ s.power.boot.sramWiped ∧ !s.power.boot.imageChecked then
    let s := s.chooseSlot s.slotOrder
    let s := s.setBoot { s.power.boot with imageChecked := true }
    if s.power.boot.image.isSome then done s else done s.enterRecovery
  else done s

/-- BOOT_HANDOVER (R386): cores, sequencer and radio core released, code locked, boot ROM unmapped. -/
def execBootHandover (s : State) : Host.Outcome State Fault Refusal :=
  if s.power.phase = .boot ∧ s.power.boot.image.isSome ∧ s.power.boot.dramWiped then
    let s := (List.range 4).foldl (fun s c => s.setCore c { s.core c with released := true }) s
    let s := { s with capstan := { s.capstan with bootRom := false, codeLocked := true } }
    done (s.setBoot { s.power.boot with handed := true })
  else done s

end Sys2Proof.Machine
end

