-- ==== Sys2Proof/Machine/Power.lean ====
section
/-! DEFINITION. Power states (chapter 4): requests, the wait instruction, the entry with its abort points, the retention
handshake, wakes, the pending request, and what sleep does to time and to the blocks; with the pin states of
Table 2.10. -/
namespace Sys2Proof.Machine

/-! ### Requests (R72, R80) -/

/-- Target codes: 0 Run, 2 Reefed, 3 Furled, 4 Struck. -/
abbrev Tg.reefed : Nat := 2
abbrev Tg.furled : Nat := 3
abbrev Tg.struck : Nat := 4

/-- A wake source of Table 4.2 is enabled for a target; WAKE in Struck cannot be disabled. -/
def wakePossible (enable target : Nat) : Bool :=
  match target with
  | 2 => decide (enable % 16 ≠ 0)
  | 3 => decide (enable / 4 % 8 ≠ 0)
  | 4 => true
  | _ => false

/-- An entry or wake is in progress. -/
def State.inTransition (s : State) : Bool := s.bit P.PowerStatus 0 3

/-- A write of the Target field; the status of the write. -/
def State.requestPower (s : State) (t : Nat) : State × Byte :=
  if t = 1 ∨ 5 ≤ t then
    ((s.setFld P.PowerStateRequest 0 0 3 0).log 0x11 0x0012 t 0 0, 2)
  else if t ≠ 0 ∧ !(wakePossible (s.rdN P.WakeEnable 0) t) then
    ((s.setFld P.PowerStateRequest 0 0 3 0).log 0x11 0x0012 t 0 0, 2)
  else if s.inTransition then
    let s :=
      if s.bit P.PowerStatus 0 10 then
        let old := s.fld P.PowerStatus 0 7 3
        ((s.raise P.PowerStatus 0 11).count P.SupersededCount 0).log 0x11 0x0013 0 (BitVec.ofNat 32 old)
          (BitVec.ofNat 32 t)
      else s
    ((s.setBit P.PowerStatus 0 10 true).setFld P.PowerStatus 0 7 3 t, 0)
  else (s.setFld P.PowerStateRequest 0 0 3 t, 0)

/-! ### Entering (R74, R75) -/

def State.setSleep (s : State) (x : Sleep) : State := { s with power := { s.power with sleep := x } }
def State.setWakeLatch (s : State) (x : Option WakeSource) : State := { s with power := { s.power with wakeLatch := x } }

/-- All four deck cores execute the wait instruction. -/
def State.allWaiting (s : State) : Bool := (List.range 4).all (fun c => (s.core c).waiting)

/-- An enabled interrupt is pending at a core. -/
def State.irqReady (s : State) (c : Nat) : Bool := (s.core c).irqPending &&& (s.core c).irqEnable != 0

/-- R71: with IdleLuff set and every deck core waiting on no pending interrupt the clocks of the cores stop; with IdleLuff
clear they run. -/
def State.settleLuff (s : State) : State :=
  if !s.bit P.PowerStateRequest 0 3 then s.leaveLuff
  else if s.serving && s.power.sleep == .run && s.allWaiting && !(List.range 4).any s.irqReady then
    ((List.range 4).foldl (fun s c => s.setCore c { s.core c with clockStopped := true }) s).setSleep .luff
  else s

/-- LUFF_WAKE (R71): the clocks of the four cores restart. -/
def execLuffWake (s : State) : Host.Outcome State Fault Refusal :=
  if s.power.sleep = .luff then
    done ((List.range 4).foldl (fun s c => s.setCore c { s.core c with waiting := false }) s.leaveLuff)
  else done s

/-! ### The pending request (R81) -/

/-- Clear the pending register. -/
def State.clearPendingRequest (s : State) : State := (s.setBit P.PowerStatus 0 10 false).setFld P.PowerStatus 0 7 3 0

/-- PENDING_REQUEST_ACTION after an abandoned entry or a wake: a sleep state goes to Target. -/
def State.actOnPending (s : State) : State :=
  if s.bit P.PowerStatus 0 10 then
    let t := s.fld P.PowerStatus 0 7 3
    let s := s.clearPendingRequest
    if t = 0 then s else s.setFld P.PowerStateRequest 0 0 3 t
  else s

/-- The frames latched from here on are not counted as skipped by the sleep (R128). -/
def State.resumeGrid (s : State) : State :=
  if s.seeded then
    let s := s.setGrid { s.halyard.grid with nextLatch := s.chooseNext s.halyard.grid.nextLatch }
    s.setGrid { s.halyard.grid with countFrom := s.halyard.grid.nextLatch }
  else s

/-- The PLLs that stop at abort point 3 of an entry: CPLL, FPLL, DPLL and SPLL, and for Furled and Struck TPLL, HPLL and
KPLL too (Table 4.3), by their bits in P1030. -/
def stoppedPlls (target : Nat) : List Nat := [6, 5, 3, 2] ++ (if target = Tg.reefed then [] else [4, 1, 0])

/-- They lock again on the way back to Run; SPLL where a stay port is enabled (Table 3.6). -/
def State.restartPlls (s : State) (target : Nat) : State :=
  (stoppedPlls target).foldl (fun s n =>
    if n = 2 && !(List.range 4).any s.stayEnabled then s else s.setLock n true) s

/-- Back in Run: dispatch and watchdog restart, DC0 resumes after its wait instruction. -/
def State.returnToRun (s : State) : State :=
  let s := { s with capstan := { s.capstan with dispatchStopped := false } }
  let s := (s.setWatchdog .running).setSleep .run
  let s := s.setBit P.PowerStatus 0 3 false
  let s := s.setFld P.PowerStatus 0 4 3 0
  let s := s.setFld P.PowerStateRequest 0 0 3 0
  let s := s.setCore 0 { s.core 0 with waiting := false }
  let s := { s with power := { s.power with alarm := false },
                    video := s.video.map (fun (x : Nat × Video) => (x.1, { x.2 with ring := x.2.ring.forget })),
                    cascadeIn := s.cascadeIn.map (fun (x : Nat × CascadeIn) => (x.1, { x.2 with ring := x.2.ring.forget })) }
  s.resumeGrid.place

/-- ENTRY_ABANDON of an entry to a target at abort point `n` (R75): what abort point 3 stopped runs again. -/
def State.abandonEntry (s : State) (target n : Nat) : State :=
  let s := s.setFld P.PowerStatus 0 12 4 n
  let s := (s.returnToRun).setWakeLatch none
  let s := if 3 ≤ n then s.restartPlls target else s
  s.actOnPending.event Ev.powerState P.PowerStatus 0 (BitVec.ofNat 32 n)

/-! ### Wakes (R73, R76, R78) -/

/-- WakeCause code of a source (Table 4.9). -/
def WakeSource.code : WakeSource → Nat
  | .shroudPattern _ => 1
  | .kite => 2
  | .bosun => 3
  | .wakePin => 4
  | .rtcAlarm => 5
  | .pendingRequest => 6

/-- Level-type sources (Table 4.2). -/
def WakeSource.level : WakeSource → Bool
  | .shroudPattern _ | .kite => false
  | _ => true

/-- The source is enabled in P1104 and wakes from the given Target state. -/
def State.wakeEnabled (s : State) (w : WakeSource) (t : Nat) : Bool :=
  let e := fun i => s.bit P.WakeEnable 0 i
  match w with
  | .shroudPattern _ => e 0 && t == Tg.reefed
  | .kite => e 1 && t == Tg.reefed
  | .bosun => e 2 && (t == Tg.reefed || t == Tg.furled)
  | .wakePin => (e 3 && (t == Tg.reefed || t == Tg.furled)) || t == Tg.struck
  | .rtcAlarm => e 4 && t == Tg.furled
  | .pendingRequest => t == Tg.reefed || t == Tg.furled

/-- A wake from a reached state begins. -/
def State.beginWake (s : State) (w : WakeSource) (furled : Bool) : State :=
  let s := (s.setBit P.PowerStatus 0 3 true).setFld P.PowerStatus 0 4 3 0
  let s := s.setFld P.PowerStatus 0 16 4 w.code
  let s := match w with
    | .shroudPattern p => s.wr P.WakePort 0 (BitVec.ofNat 64 p.val)
    | _ => s
  { s with power := { s.power with sleep := .waking furled, waking := some w, wakeLatch := none } }

/-- A wake event of a source: latched by an entry, or the start of a wake. -/
def State.wakeEvent (s : State) (w : WakeSource) : State :=
  match s.power.sleep with
  | .entering t ap =>
    if s.wakeEnabled w t.toNat && (ap < 4 || w.level) then
      match s.power.wakeLatch with
      | none => s.setWakeLatch (some w)
      | some _ => s
    else s
  | .reefed => if s.wakeEnabled w Tg.reefed then s.beginWake w false else s
  | .furled => if s.wakeEnabled w Tg.furled then s.beginWake w true else s
  | _ => s

/-- WAKE_PIN (R73, R440). -/
def execWakePin (s : State) : Host.Outcome State Fault Refusal := done (s.wakeEvent .wakePin)

/-- RTC_ALARM (R73): while RtcCount is equal to or past RtcAlarm the alarm flag is set, and the wake it is a source of. -/
def State.raiseAlarm (s : State) : State :=
  if s.rtcRuns && decide (s.rdN P.RtcAlarm 0 ≤ s.rdN P.RtcCount 0) then
    { s with power := { s.power with alarm := true } }.wakeEvent .rtcAlarm
  else s

def execRtcAlarm (s : State) : Host.Outcome State Fault Refusal := done s.raiseAlarm

/-- The level-type sources that stand as an entry begins, in the order of Table 4.2: the match flag of a transaction not yet
served, and the alarm flag. -/
def State.standing (s : State) (t : Nat) : Option WakeSource :=
  if s.power.bosunMatch && s.wakeEnabled .bosun t then some .bosun
  else if s.power.alarm && s.wakeEnabled .rtcAlarm t then some .rtcAlarm
  else none

/-- The Bosun target cannot serve a transaction at once: the window of R76, the sleep states, and a wake (R79). -/
def State.bosunAsleep (s : State) : Bool :=
  s.power.phase == .ready && (match s.power.sleep with
    | .entering _ ap => ap == 4
    | .reefed | .furled | .waking _ => true
    | _ => false)

/-- A wake follows: one is in progress, or an event kept in the window of R76 will begin it. -/
def State.willWake (s : State) : Bool := match s.power.sleep with
  | .waking _ => true
  | _ => s.power.wakeLatch.isSome

/-- BOSUN_ADDRESS_MATCH (R79): the match flag, and the wake it is a source of. Where the target cannot serve the transaction
at once it acknowledges and holds SCL under Stretch, if a wake follows, and does not acknowledge under Nack. -/
def State.addressMatch (s : State) : State :=
  match s.power.sleep with
  | .run | .luff => s
  | _ =>
    let s := { s with power := { s.power with bosunMatch := true } }.wakeEvent .bosun
    if s.bosunAsleep && s.willWake && s.rdN P.BosunWakeMode 0 == 0 then
      { s with power := { s.power with bosunHeld := true } }
    else s

def execBosunAddressMatch (s : State) : Host.Outcome State Fault Refusal := done s.addressMatch

/-- Video and cascade rings lose their frames across a sleep (R159). -/
def State.loseRings (s : State) : State :=
  { s with video := s.video.map (fun x => (x.1, { x.2 with ring := x.2.ring.loseFrames })),
           cascadeIn := s.cascadeIn.map (fun x => (x.1, { x.2 with ring := x.2.ring.loseFrames })) }

/-- RETENTION_HANDSHAKE (R74, R76, R81, R83, R84): the state is reached. An event kept in the window wakes at once; where a
pending request does so too, the wake cause is the pending request (the model's choice). -/
def State.handshake (s : State) : State :=
  match s.power.sleep with
  | .entering t ap =>
    if ap ≠ 4 then s
    else if t.toNat = Tg.struck then
      let s' := s.cleared
      let s' := { s' with power := { s'.power with phase := .struck } }
      if s.power.wakeLatch.isSome then s'.fullReset Cause.struckWake else s'
    else
      let furled := decide (t.toNat = Tg.furled)
      let s := (s.setBit P.PowerStatus 0 3 false).setFld P.PowerStatus 0 4 3 0
      let s := (s.setFld P.PowerStatus 0 12 4 0).setFld P.PowerStatus 0 0 3 t.toNat
      let s := s.setFld P.PowerStateRequest 0 0 3 0
      let s := s.setSleep (if furled then .furled else .reefed)
      let s := if furled then s.setWatchdog .stopped else s
      let s := if furled then s.wr P.FurledElapsed 0 (s.rd P.RtcCount 0) else s
      let s := s.loseRings
      if s.bit P.PowerStatus 0 10 then
        let p := s.fld P.PowerStatus 0 7 3
        let s := s.clearPendingRequest
        if p = t.toNat then
          match s.power.wakeLatch with
          | some w => s.beginWake w furled
          | none => s
        else
          let s := if p = 0 then s else s.setFld P.PowerStateRequest 0 0 3 p
          s.beginWake .pendingRequest furled
      else
        match s.power.wakeLatch with
        | some w => s.beginWake w furled
        | none => s
  | _ => s

def execRetentionHandshake (s : State) : Host.Outcome State Fault Refusal := done s.handshake

/-- FURLED_TIME_ADD (R83): the ticks since the handshake are added to TNS and its fraction; no wrap event is raised. -/
def State.furledAdd (s : State) : State :=
  let ticks := (s.rdN P.RtcCount 0 + 2 ^ 48 - s.rdN P.FurledElapsed 0) % 2 ^ 48
  let add : Nat := ticks * rtcPeriod * 2 ^ 32
  let s := s.setCounter40 (s.counter40 + (add : Int))
  (s.wr P.FurledElapsed 0 (BitVec.ofNat 64 ticks)).checkEra

/-- The end of a wake (R78, R81): Run is reached. A target already placed by the handshake's pending request stays. -/
def State.completeWake (s : State) : State :=
  match s.power.sleep with
  | .waking furled =>
    let s := if furled then (List.range 16).foldl (fun s n => s.catchUp false n) s.furledAdd else s
    let target := s.fld P.PowerStateRequest 0 0 3
    let s := s.returnToRun
    let s := if s.power.waking = some .pendingRequest then s.setFld P.PowerStateRequest 0 0 3 target else s
    let s := { s with power := { s.power with waking := none } }
    let s := s.restartPlls (if furled then Tg.furled else Tg.reefed)
    s.actOnPending.event Ev.powerState P.PowerStatus 0 0
  | _ => s

/-- STRUCK_WAKE (R54): WAKE in Struck starts a full reset. -/
def execStruckWake (s : State) : Host.Outcome State Fault Refusal :=
  if s.power.phase = .struck then done (s.fullReset Cause.struckWake) else done s

/-! ### Pins (Table 2.10, R107) -/

/-- EVENT_N is driven low: an event pending that the mask selects, in Run, Luff or Reefed (R107, Table 2.10). -/
def State.eventLow (s : State) : Bool :=
  (s.pinColumn == .run || s.pinColumn == .reefed) && (s.rd P.EventPending 0 &&& s.rd P.EventMask 0) != 0

/-- The Bosun target acknowledges its address and serves the transaction at once: ready, Recovery and Retired (R59, R61,
R68), but not while R79 holds or refuses it. -/
def State.bosunServes (s : State) : Bool :=
  match s.power.phase with
  | .ready => !s.bosunAsleep
  | .recovery | .retired => true
  | _ => false

/-- P0013 BosunAddress (R35). -/
def State.bosunAddress (s : State) : Nat := 0x48 + 2 * s.power.straps.bosunA1.toNat + s.power.straps.bosunA0.toNat

end Sys2Proof.Machine
end

