-- ==== Sys2Proof/Machine/Colour.lean ====
section
/-! DEFINITION. The colour pipeline and the power envelope (chapter 11): profiles and curves, the evaluation half, the
supply groups with their scale, the output half with its dither, and the checks of the tables. -/
namespace Sys2Proof.Machine

/-! ### Fixture profiles (R228, R229) -/

/-- A fixture profile (Table 11.1). -/
structure Profile where
  emitters : Nat
  depth : Nat
  ditherOff : Bool
  wide : Bool
  quiescent : Nat
  matrix : List Int
  coefficient : List Nat
  curve : List Nat
  deriving DecidableEq, Repr

/-- Read a profile record. -/
def Profile.ofBytes (b : List Byte) : Profile :=
  let byte := fun i => (b.getD i 0).toNat
  let half := fun i => leNat (sliceBytes b i 2)
  { emitters := byte 0 % 8, depth := byte 1, ditherOff := byte 2 % 2 == 1, wide := byte 2 / 2 % 2 == 1, quiescent := half 4,
    matrix := (List.range 18).map (fun i => signedOf 16 (half (6 + 2 * i))),
    coefficient := (List.range 6).map (fun i => half (42 + 2 * i)), curve := (List.range 6).map (fun i => byte (54 + i)) }

/-- The live profile of an index; none where no profile is loaded. -/
def State.profile (s : State) (p : Nat) : Option Profile :=
  let t := s.blob P.ProfileTable
  if 64 * p < t.length then some (Profile.ofBytes (sliceBytes t (64 * p) 64)) else none

/-- EmitterCount and Depth of an element for the frame; 3 and 8 without a profile, 4 and 16 on a cascade output. -/
def State.cellShape (s : State) (e : ElementRecord) : Nat × Nat :=
  if 0x48 ≤ e.port ∧ e.port ≤ 0x4F then (4, 16)
  else match s.profile e.profile with
    | some p => (p.emitters, p.depth)
    | none => (3, 8)

/-- Entry `i` of the live curve `n`. -/
def State.curveAt (s : State) (n i : Nat) : Nat := leNat (sliceBytes (s.blob P.CurveTable) (2048 * n + 2 * i) 2)

/-! ### The evaluation half (R230 to R232) -/

/-- An emitter value in the working scale (R230). -/
def emitterLevel (p : Profile) (x : Rgba) (j : Nat) : Nat :=
  let m := fun c => p.matrix.getD (3 * j + c) 0
  let e := (m 0 * x.r + m 1 * x.g + m 2 * x.b + 2048) / 4096
  if e < 0 then 0 else if e > 262143 then 262143 else e.toNat

/-- The drive value of a working emitter value through a curve (R231). -/
def State.curveValue (s : State) (n : Nat) (wide : Bool) (e : Nat) : Nat :=
  let sh := if wide then 8 else 6
  let e := min e (2 ^ (10 + sh) - 1)
  let i := e / 2 ^ sh
  let f : Int := e % 2 ^ sh
  let here : Int := s.curveAt n i
  let next : Int := if i = 1023 then s.curveAt n 1023 else s.curveAt n (i + 1)
  (here + ((next - here) * f + 2 ^ (sh - 1)) / 2 ^ sh).toNat

/-- The component of a cascade output (R232). -/
def cascadeComp (c : Int) : Half := BitVec.ofNat 16 (min 65535 ((c.toNat + 2) / 4))

/-- What the element output store takes for an element's working colour. -/
def State.colourElement (s : State) (e : ElementRecord) (x : Rgba) : List Half :=
  if 0x48 ≤ e.port ∧ e.port ≤ 0x4F then [cascadeComp x.r, cascadeComp x.g, cascadeComp x.b, 16384]
  else match s.profile e.profile with
    | none => [0, 0, 0]
    | some p => (List.range p.emitters).map fun j =>
        BitVec.ofNat 16 (s.curveValue (p.curve.getD j 0) p.wide (emitterLevel p x j))

/-- The store's value of emitter `j` of element `e`. -/
def Render.emitter (r : Render) (e j : Nat) : Nat := ((SMap.get [] r.store e).getD j 0).toNat

/-- Two store values agree, absent emitters counting as zero. -/
def sameCell (a b : List Half) : Bool :=
  (List.range (max a.length b.length)).all fun j => a.getD j 0 == b.getD j 0

/-! ### Supply groups (R233) -/

/-- The GroupTable entry of group `g` of destination `d`: First, Last and Budget; none where unused. -/
def State.groupEntry (s : State) (d g : Nat) : Option (Nat × Nat × Nat) :=
  let b := sliceBytes (s.blob P.GroupTable) (12 * (16 * d + g)) 12
  if b.length < 12 then none
  else
    let budget := leNat (sliceBytes b 8 4)
    if budget = 0 then none else some (leNat (sliceBytes b 0 4), leNat (sliceBytes b 4 4), budget)

/-- The supply group of an element: the lowest used group that holds its offset. -/
def State.groupOf (s : State) (e : ElementRecord) : Option Nat :=
  if e.port > 0x40 then none
  else (List.range 16).find? fun g => match s.groupEntry e.port g with
    | some (first, last, _) => decide (first ≤ e.offset) && decide (e.offset ≤ last)
    | none => false

/-- Modelled quiescent and dynamic current of an element, in units of `2 ^ -16` × 16 µA (R234). -/
def State.elementCurrent (s : State) (n : Nat) (e : ElementRecord) : Nat × Nat :=
  match s.profile e.profile with
  | none => (0, 0)
  | some p => (p.quiescent * 65536,
      (List.range p.emitters).foldl (fun (d : Nat) j => d + s.render.emitter n j * p.coefficient.getD j 0) 0)

/-- Sums Q and D of every group that has an element, by `16 * destination + group`. -/
def State.groupSums (s : State) (records : List ElementRecord) : SMap (Nat × Nat) :=
  (records.zip (List.range records.length)).foldl (fun (m : SMap (Nat × Nat)) x =>
    match s.groupOf x.1 with
    | none => m
    | some g =>
      let key := 16 * x.1.port + g
      let (q, d) := SMap.get (0, 0) m key
      let (q', d') := s.elementCurrent x.2 x.1
      SMap.insert m key (q + q', d + d')) []

/-! ### The envelope (R235 to R239) -/

/-- x of R235: the dynamic load as a fraction of the budget left. -/
def loadOf (q d budget : Nat) : Nat := min (d * 65536 / (budget * 4096000 - q)) (2 ^ 32 - 1)

/-- The allowed load y for a load x above zero. -/
def kneeLoad (knee x : Nat) : Nat :=
  if x ≤ knee then x
  else if x ≥ 131072 - knee then 65536
  else x - (x - knee) ^ 2 / (4 * (65536 - knee))

/-- The target scale of a group, and whether it is starved (R235). -/
def targetScale (knee q d budget : Nat) : Nat × Bool :=
  if budget * 4096000 ≤ q then (0, true)
  else if d = 0 then (65536, false)
  else
    let x := loadOf q d budget
    if x = 0 then (65536, false) else (kneeLoad knee x * 65536 / x, false)

/-- The scale applied in a frame (R236). -/
def appliedScale (target before step : Nat) : Nat := if target ≤ before then target else min target (before + step)

/-- The state of a group in a frame (Table 11.3). -/
def groupStateOf (knee : Nat) (q d budget target scale : Nat) (starved : Bool) : Nat :=
  if scale < target then 3
  else if starved || decide (131072 - knee ≤ (if d = 0 then 0 else loadOf q d budget)) then 2
  else if scale < 65536 then 1 else 0

/-- What a port sends has changed in this frame (R263). -/
def State.markChanged (s : State) (port : Nat) : State :=
  if port < 0x40 then { s with sheet := { s.sheet with changed := port :: s.sheet.changed.filter (· != port) } } else s

/-- Form one used group for the frame that closes: its scale, its state and its counts (R235, R236, R238). -/
def State.formGroup (s : State) (d g q dyn : Nat) (budget : Nat) : State :=
  let key := 16 * d + g
  let on := s.lvN P.EnvelopeEnable 0 = 1
  let knee := s.lvN P.KneeStart 0
  let (target, starved) := targetScale knee q dyn budget
  let bytes := sliceBytes (s.blob P.GroupTable) (12 * key) 12
  let before := if SMap.get [] s.render.entry key ≠ bytes ∨ s.render.enabled ≠ decide on then 65536
    else SMap.get 65536 s.render.sigma key
  let scale := if on then appliedScale target before (s.lvN P.ReleaseStep 0) else 65536
  let state := if on then groupStateOf knee q dyn budget target scale starved else 0
  let starvedNow := starved && decide on
  let x : GroupState := { quiescent := q, demand := dyn, target := target, scale := scale, state := state, starved := starvedNow,
                          delivered := 0, entered := decide (on ∧ before = 65536 ∧ scale < 65536) }
  let changed := SMap.get 65536 s.render.sigma key ≠ scale
  let r := s.render
  let s := s.setRender { r with sigma := SMap.set 65536 r.sigma key scale, entry := SMap.set [] r.entry key bytes,
                                group := SMap.insert r.group key x }
  let s := if changed then s.markChanged d else s
  if starvedNow then s.count P.StarvedCount d else s

/-- The modelled dynamic current of every group after scaling, before dither (P7033). -/
def State.deliveredSums (s : State) (records : List ElementRecord) : SMap Nat :=
  (records.zip (List.range records.length)).foldl (fun (m : SMap Nat) x =>
    match s.groupOf x.1, s.profile x.1.profile with
    | some g, some p =>
      let key := 16 * x.1.port + g
      let scale := SMap.get 65536 s.render.sigma key
      let d := (List.range p.emitters).foldl (fun (d : Nat) j =>
        d + s.render.emitter x.2 j * scale / 65536 * p.coefficient.getD j 0) 0
      SMap.insert m key (SMap.get 0 m key + d)
    | _, _ => m) []

/-- GroupStatus and its companions for the selected group (Table 11.9), as its entry stood in the frame of P7035. -/
def State.showGroup (s : State) : State :=
  let sel := s.rdN P.GroupSelect 0
  let used := (SMap.find s.render.group sel).isSome
  let x := SMap.get GroupState.init s.render.group sel
  let x := if used then x else GroupState.init
  let s := s.wr P.GroupStatus 0 (BitVec.ofNat 64
    (x.state * 2 ^ 30 + x.starved.toNat * 2 ^ 29 + (!used).toNat * 2 ^ 28 + x.scale))
  let s := s.wr P.GroupDemand 0 (BitVec.ofNat 64 ((x.quiescent + x.demand) / 4096000))
  let s := s.wr P.GroupDelivered 0 (BitVec.ofNat 64 ((x.quiescent + x.delivered) / 4096000))
  s.wr P.GroupTarget 0 (BitVec.ofNat 64 x.target)

/-- ENVELOPE_CLOSE: the sums of frame `k` are closed and every group's scale is formed (R234 to R239). The scale of a group that is
no longer used returns to 65,536, which changes its port (R263). -/
def State.closeEnvelope (s : State) (k : Nat) : State :=
  let records := tableRecords (s.blob P.ElementTable)
  let sums := s.groupSums records
  let keys := (List.range (16 * 65)).filter (fun key => (s.groupEntry (key / 16) (key % 16)).isSome)
  let gone := s.render.sigma.map (·.1) |>.filter (fun key => !keys.contains key)
  let r := s.render
  let s := s.setRender { r with sigma := gone.foldl (fun m key => SMap.erase m key) r.sigma,
                                entry := r.entry.filter (fun x => keys.contains x.1),
                                group := r.group.filter (fun x => keys.contains x.1) }
  let s := gone.foldl (fun s key => s.markChanged (key / 16)) s
  let s := keys.foldl (fun s key =>
    let (q, d) := SMap.get (0, 0) sums key
    match s.groupEntry (key / 16) (key % 16) with
    | some (_, _, budget) => s.formGroup (key / 16) (key % 16) q d budget
    | none => s) s
  let sent := s.deliveredSums records
  let s := s.setRender { s.render with
    enabled := decide (s.lvN P.EnvelopeEnable 0 = 1)
    group := s.render.group.map (fun (x : Nat × GroupState) => (x.1, { x.2 with delivered := SMap.get 0 sent x.1 })) }
  let entered := s.render.group.filter (fun (x : Nat × GroupState) => x.2.entered)
  let s := match entered with
    | [] => s
    | x :: _ => s.event Ev.envelope P.PortLimiting (x.1 / 16) (BitVec.ofNat 32 (x.1 % 16))
  let s := (List.range 65).foldl (fun s d =>
    let bits := (List.range 16).foldl (fun (n : Nat) g =>
      if SMap.get 65536 s.render.sigma (16 * d + g) < 65536 then n + 2 ^ g else n) 0
    let s := s.wr P.PortLimiting d (BitVec.ofNat 64 bits)
    if bits = 0 then s else s.count P.LimitedFrameCount d) s
  (s.wr P.GroupStatusFrame 0 (BitVec.ofNat 64 (k % 2 ^ 32))).showGroup

/-! ### The output half (R237, R240) -/

/-- The dither threshold of emitter `j` of element `e` in frame `k32` (R240). -/
def ditherThreshold (seed : Word) (e k32 j : Nat) : Nat :=
  let h := seed ^^^ (BitVec.ofNat 32 e * 0x9E3779B1) ^^^ (BitVec.ofNat 32 k32 * 0x85EBCA77) ^^^ (BitVec.ofNat 32 j * 0xC2B2AE3D)
  let h := h ^^^ (h >>> 15)
  let h := h * 0x2C1B3C6D
  let h := h ^^^ (h >>> 12)
  let h := h * 0x297A2D39
  let h := h ^^^ (h >>> 15)
  ((h >>> 16).toNat * 65535) / 65536

/-- A scaled value reduced to a depth with a threshold. -/
def reduceDepth (v depth t : Nat) : Nat := (v * (2 ^ depth - 1) + t) / 65535

/-- The output values of element `e` for frame `k`, by emitter (R237, R240); cascade outputs pass unchanged (R232). -/
def State.outputValues (s : State) (n : Nat) (e : ElementRecord) (k : Nat) : List Nat :=
  if 0x48 ≤ e.port ∧ e.port ≤ 0x4F then (List.range 4).map (s.render.emitter n)
  else
    let (emitters, depth) := s.cellShape e
    let off := match s.profile e.profile with
      | some p => p.ditherOff
      | none => true
    let scale := match s.groupOf e with
      | some g => SMap.get 65536 s.render.sigma (16 * e.port + g)
      | none => 65536
    (List.range emitters).map fun j =>
      let v := s.render.emitter n j * scale / 65536
      let t := if off then 32767 else ditherThreshold ((s.lv P.DitherSeed 0).setWidth 32) n (k % 2 ^ 32) j
      reduceDepth v depth t

/-- The bytes a frame hash takes of an element (R243). -/
def hashBytes (vs : List Nat) : List Byte := vs.flatMap (fun v => beBytes 2 v)

/-! ### Content checks (R229, R233) -/

/-- ColourRejectIndex of a fault: table 0 profile, 1 curve, 2 group entry. -/
def rejectIndex (table i : Nat) : Wide := BitVec.ofNat 64 (table * 2 ^ 30 + i % 65536)

/-- A profile at fault by itself. -/
def Profile.bad (p : Profile) : Bool := p.emitters == 0 || p.emitters == 7 || decide (p.depth < 8) || decide (16 < p.depth)

/-- A profile that names a curve at or above the number of curves. -/
def Profile.dangling (p : Profile) (curves : Nat) : Bool := (p.curve.take p.emitters).any (fun c => decide (curves ≤ c))

/-- The profile records of a body. -/
def profilesOf (b : List Byte) : List Profile := (List.range (b.length / 64)).map (fun i => Profile.ofBytes (sliceBytes b (64 * i) 64))

/-- The first index of a list that satisfies a test. -/
def firstIndex {α : Type} (p : α → Bool) : List α → Nat → Option Nat
  | [], _ => none
  | x :: xs, i => if p x then some i else firstIndex p xs (i + 1)

/-- The fault of a staged ProfileTable, against the number of curves of the live or a committed P7001. -/
def profileTableFault (b : List Byte) (curves : Nat) : Option Wide :=
  match firstIndex (fun (p : Profile) => p.bad || p.dangling curves) (profilesOf b) 0 with
  | some i => some (rejectIndex 0 i)
  | none => if b.length % 64 = 0 then none else some (rejectIndex 0 (b.length / 64))

/-- The fault of a staged CurveTable against the live or committed profiles. -/
def curveTableFault (b profiles : List Byte) : Option Wide :=
  if b.length % 2048 ≠ 0 then some (rejectIndex 1 (b.length / 2048))
  else (firstIndex (fun (p : Profile) => p.dangling (b.length / 2048)) (profilesOf profiles) 0).map (rejectIndex 0)

/-- The fault of a staged GroupTable. -/
def groupTableFault (b : List Byte) : Option Wide :=
  let bad := fun (i : Nat) =>
    let e := sliceBytes b (12 * i) 12
    let first := leNat (sliceBytes e 0 4)
    let last := leNat (sliceBytes e 4 4)
    let budget := leNat (sliceBytes e 8 4)
    budget != 0 && (decide (last < first) || decide (2097151 < last) || decide (1000000 < budget))
  match (List.range (b.length / 12)).find? bad with
  | some i => some (rejectIndex 2 i)
  | none => if b.length % 12 = 0 then none else some (rejectIndex 2 (b.length / 12))

end Sys2Proof.Machine
end

