-- ==== Sys2Proof/Machine/Bands.lean ====
section
/-! DEFINITION. The canvas cycle (chapter 9): the lanes and their bands, the element output store, the end of the cycle
with the bands it abandons, the probe of chapter 10, and the per-port underrun counts of chapter 12. -/
namespace Sys2Proof.Machine

/-- The content of another frame put in the place of the live one, for the passes that read it (R246). -/
def State.under (s : State) (c : FrameContext) : State := { s with live := c.live, blobs := c.blobs, merged := c.merged }

/-- The context kept for a frame, if any. -/
def State.contextOf (s : State) (k : Nat) : Option FrameContext := s.sheet.contexts.find? (fun c => c.frame == k)

/-- The state with the content of frame `k` in the place of the live one, where it is still kept. -/
def State.frameView (s : State) (k : Nat) : State :=
  match s.contextOf k with
  | some c => s.under c
  | none => s

/-! ### The active phase (R199) -/

/-- P5003 CycleStatus as it reads (Table 9.14): the blank of a cycle lasts from the latch to the start of its active phase, and
BandCount follows the live table (R221). Only AbandonedLast is held. -/
def State.cycleStatus (s : State) : Wide :=
  let r := s.render
  BitVec.ofNat 64 (r.active.toNat * 2 ^ 31 + (!r.active && r.frame.isSome).toNat * 2 ^ 30 +
    s.fld P.CycleStatus 0 16 12 * 2 ^ 16 + min (bandsOf s.elementCount) 4095)

/-- What the cycle of a frame gathers, as at its latch: nothing yet. -/
def Render.cleared (r : Render) : Render :=
  { r with active := false, next := 0, lanes := [], finished := [], evalTime := 0, cost := 0, outOfView := 0, outside := 0,
           noProfile := 0, probe := none }

/-- A lane takes the next band, or waits. -/
def State.takeBand (s : State) (lane : Nat) : State :=
  let r := s.render
  if r.next < bandsOf s.elementCount then
    s.setRender { r with next := r.next + 1, lanes := SMap.set 0 r.lanes lane (r.next + 1) }
  else s.setRender { r with lanes := SMap.set 0 r.lanes lane 0 }

/-- CANVAS_CYCLE_START: the lanes begin to take bands of the frame latched last. -/
def State.startCycle (s : State) : State :=
  match s.render.frame with
  | none => s
  | some _ =>
    if s.render.active then s
    else
      let s := s.setRender { s.render.cleared with active := true, started := s.tns, probeElement := s.rdN P.ProbeElement 0 }
      (List.range 8).foldl State.takeBand s

def execCanvasCycleStart (s : State) : Host.Outcome State Fault Refusal := done (s.ownCommand 0x03 State.startCycle)

/-- The element has no loaded profile and needs one: it is dark (R232). -/
def State.bareElement (s : State) (e : ElementRecord) : Bool :=
  (s.profile e.profile).isNone && (decide (e.port ≤ 0x40) || e.port == 0xFF)

/-- Evaluate one element of the frame and put its value into the store (R199, R227). -/
def State.renderElement (s : State) (k n : Nat) : State :=
  let e := tableRecord (s.blob P.ElementTable) n
  let m := s.mapElement e
  let (x, cost) := s.evalElement e m (k % 2 ^ 32)
  let cell := s.colourElement e x
  let r := s.render
  let moved := !(sameCell (SMap.get [] r.store n) cell)
  let s := s.setRender { r with
    store := SMap.set [] r.store n cell
    cost := r.cost + cost
    outOfView := r.outOfView + m.hidden.toNat
    outside := r.outside + (!m.hidden && !(s.inExtent e.canvas m.u m.v)).toNat
    noProfile := r.noProfile + (s.bareElement e).toNat
    probe := if n = r.probeElement then some (m.u, m.v, s.boxSide e m) else r.probe }
  if moved then s.markChanged e.port else s

/-- BAND_DONE: the band of a lane is complete; its results pass to the store and the lane takes the next (R199). -/
def State.finishBand (s : State) (lane : Nat) : State :=
  match s.render.frame, SMap.get 0 s.render.lanes lane with
  | some k, j + 1 =>
    if s.render.active then
      let last := min (1024 * (j + 1)) s.elementCount
      let s := (List.range (last - 1024 * j)).foldl (fun s i => s.renderElement k (1024 * j + i)) s
      let r := s.render
      let s := s.setRender { r with finished := r.finished ++ [j], cost := r.cost + 64,
                                    evalTime := (s.tns - r.started).toNat }
      s.takeBand lane
    else s
  | _, _ => s

def execBandDone (lane : Fin 8) (s : State) : Host.Outcome State Fault Refusal := done (s.finishBand lane)

/-! ### The end of the cycle (R200, R225, R234, R270, R310) -/

/-- Elements of the bands that a cycle has not completed. -/
def State.abandonedElements (s : State) : List Nat :=
  (List.range s.elementCount).filter (fun e => !s.render.finished.contains (e / 1024))

/-- An element's value of the frame before does not count in this one: it is new, it has no profile, or its cell's shape has
changed (R232, R234). -/
def State.startsDark (s : State) (prev : Option FrameContext) (n : Nat) : Bool :=
  s.render.fresh.contains n || s.bareElement (tableRecord (s.blob P.ElementTable) n) || match prev with
    | none => false
    | some c =>
      let e := tableRecord (s.blob P.ElementTable) n
      s.cellShape e != (s.under c).cellShape e

/-- The destinations that count lateness and underruns: a shroud port, or 40h plus a cascade output. -/
def countedPort (port : Nat) : Option Nat :=
  if port < 0x40 then some port else if 0x48 ≤ port ∧ port ≤ 0x4F then some (port - 8) else none

/-- Per-port underrun counts of a frame for its abandoned elements (R270). -/
def State.countUnderruns (s : State) (gone : List ElementRecord) : State :=
  let s := (List.range 72).foldl (fun s d =>
    let n := (gone.filter (fun e => countedPort e.port == some d)).length
    let s := s.wr P.UnderrunElementsLast d (BitVec.ofNat 64 n)
    let s := if d < 64 then s.setBit P.PortStatus d 6 (decide (n ≠ 0)) else s
    if n = 0 then s else (s.count P.UnderrunCount d).event Ev.lateOrUnderrun P.UnderrunCount d (BitVec.ofNat 32 n)) s
  if gone.any (fun e => e.port == 0x40) then
    (s.count P.MastheadUnderrunCount 0).event Ev.lateOrUnderrun P.MastheadUnderrunCount 0 0
  else s

/-- The probe at the end of a cycle (R225). -/
def State.updateProbe (s : State) (k : Nat) : State :=
  let n := s.render.probeElement
  let words := fun (s : State) (b : List Byte) (f : Nat) (u v : Int) (side : Nat) =>
    let s := (List.range 4).foldl (fun (s : State) i => s.wr P.ProbeRecord i (BitVec.ofNat 64 (leNat (sliceBytes b (4 * i) 4)))) s
    let s := s.wr P.ProbeU 0 (ofIntW 32 u)
    let s := s.wr P.ProbeV 0 (ofIntW 32 v)
    let s := s.wr P.ProbeSide 0 (BitVec.ofNat 64 side)
    s.wr P.ProbeFrame 0 (BitVec.ofNat 64 (f % 2 ^ 32))
  if n ≥ s.elementCount then words s [] 0 0 0 0
  else match s.render.probe with
    | some (u, v, side) => words s (sliceBytes (s.blob P.ElementTable) (16 * n) 16) k u v side
    | none => s

/-- An element that starts dark leaves the store; a value that was not zero changes its port's output. -/
def State.darkenElement (s : State) (n : Nat) : State :=
  let was := SMap.get [] s.render.store n
  let s := s.setRender { s.render with store := SMap.erase s.render.store n }
  if sameCell was [] then s else s.markChanged (tableRecord (s.blob P.ElementTable) n).port

/-- Bytes of the records that the cycle has read: those of its completed bands (R223). -/
def State.recordBytes (s : State) : Nat :=
  s.render.finished.foldl (fun n j => n + 16 * (min (1024 * (j + 1)) s.elementCount - 1024 * j)) 0

/-- BAND_ABANDON and ENVELOPE_CLOSE: the cycle of frame `k` ends at the start of its blank. LastFetchBytes counts the records; how
many bytes of source pixels the texel cache fetched is a free value (R208). -/
def State.closeCycle (s : State) (k : Nat) : State :=
  let bands := bandsOf s.elementCount
  let lost := bands - s.render.finished.length
  let gone := s.abandonedElements
  let prev := s.sheet.contexts.find? (fun c => decide (c.frame < k))
  let dark := gone.filter (s.startsDark prev)
  let bare := (gone.filter (fun n => s.bareElement (tableRecord (s.blob P.ElementTable) n))).length
  let records := s.recordBytes
  let r := s.render
  let s := dark.foldl State.darkenElement s
  let s := s.setRender { s.render with active := false, frame := none, lanes := [], fresh := [] }
  let s := if lost = 0 then s else (s.countBy P.AbandonedBandCount 0 lost).count P.AbandonedFrameCount 0
  let time := if lost = 0 then min r.evalTime 0xFFFFFFFE else 0xFFFFFFFF
  let s := s.wr P.LastEvalTime 0 (BitVec.ofNat 64 time)
  let s := s.wr P.PeakEvalTime 0 (BitVec.ofNat 64 (max time (s.rdN P.PeakEvalTime 0)))
  let (fetched, s) := s.free
  let s := s.wr P.LastFetchBytes 0 (BitVec.ofNat 64 (records + fetched.toNat % 2 ^ 63))
  let s := s.wr P.LastCost 0 (BitVec.ofNat 64 r.cost)
  let s := s.wr P.OutOfViewLast 0 (BitVec.ofNat 64 r.outOfView)
  let s := s.wr P.OutsideExtentLast 0 (BitVec.ofNat 64 r.outside)
  let s := s.wr P.NoProfileLast 0 (BitVec.ofNat 64 (r.noProfile + bare))
  let s := s.setFld P.CycleStatus 0 16 12 (min lost 4095)
  let s := s.updateProbe k
  let s := s.countUnderruns (gone.map (tableRecord (s.blob P.ElementTable)))
  let s := s.closeEnvelope k
  { s with sheet := { s.sheet with closed := some k, changedClosed := s.sheet.changed, changed := [] } }

end Sys2Proof.Machine
end

