-- ==== Sys2Proof/Machine/Sheet.lean ====
section
/-! DEFINITION. Sheet (chapter 12): the pack pass with its Shroud frames and E1.31 packets, static refresh reduction,
phase frames, clones, cascade outputs, the synchronisation packet, and the announcements before an orderly stop. -/
namespace Sys2Proof.Machine

/-! ### The Shroud frame (R276 to R279) -/

/-- What Sheet puts into one Shroud frame besides the fields of its stream and show frame. -/
structure SheetItem where
  format : Nat
  offset : Nat
  count : Nat
  payload : List Byte
  deriving DecidableEq, Repr

/-- Class codes of Table 13.3. -/
abbrev Cls.bulk : Nat := 0
abbrev Cls.show : Nat := 1
abbrev Cls.time : Nat := 2
abbrev Cls.express : Nat := 3

/-- The Active flag: Active role, or Solo (Table 13.3). -/
def State.activeFlag (s : State) : Bool := s.commands

/-- Bytes 0 to 31 of a Shroud header with HeaderCheck over them (Table 13.3, R278). -/
def State.shroudHeader (s : State) (cls format : Nat) (final : Bool) (stream : Nat) (seq time : Word) (offset count : Nat) :
    List Byte :=
  let head := [BitVec.ofNat 8 (0x10 + cls), BitVec.ofNat 8 (s.unitB.toNat * 128 + s.epoch.toNat), BitVec.ofNat 8 format,
    BitVec.ofNat 8 (s.activeFlag.toNat * 2 + final.toNat)] ++ beBytes 2 stream ++ beBytes 4 seq.toNat ++ beBytes 4 time.toNat ++
    beBytes 4 offset ++ beBytes 2 count
  let rest := List.replicate 10 (0 : Byte)
  head ++ beBytes 2 (crc16 (head ++ [0, 0] ++ rest)).toNat ++ rest

/-- Length on the wire of a Shroud frame on a shroud port. -/
def shroudLen (payload : Nat) : Nat := max 64 (98 + payload)

/-- The frames of one show frame on one destination from its items: sequence `k32 × 4,096 + i`, time T(k), Final on the
last (R252). -/
def State.frameItems (s : State) (k : Nat) (time close : T32) (dest stream lenExtra : Nat) (head : NetHead)
    (items : List SheetItem) : List Egress :=
  let n := items.length
  (items.zip (List.range n)).map fun (x : SheetItem × Nat) =>
    let seq := BitVec.ofNat 32 (k % 2 ^ 32 * 4096 + x.2)
    let bytes := s.shroudHeader Cls.show x.1.format (x.2 + 1 == n) stream seq time x.1.offset x.1.count ++ x.1.payload
    { frame := .shroud (BitVec.ofNat 8 x.1.format) (BitVec.ofNat 16 stream) bytes,
      len := shroudLen x.1.payload.length + lenExtra, tag := some ⟨k, dest, close⟩, net := some head }

/-! ### Elements of a destination (R250) -/

/-- One element as packing takes it: offset, emitter count, bytes of its values. -/
structure PackCell where
  offset : Nat
  emitters : Nat
  bytes : List Byte
  deriving DecidableEq, Repr

/-- Insert by rising offset. -/
def insertCell (x : PackCell) : List PackCell → List PackCell
  | [] => [x]
  | y :: ys => if x.offset < y.offset then x :: y :: ys else y :: insertCell x ys

/-- The bytes of a value in a cell: one at Depth 8, else two, the most significant first (R250); a cascade output's are
format 2 of Table 9.2, the least significant first (R269). -/
def cellBytes (port depth v : Nat) : List Byte :=
  if depth = 8 then beBytes 1 v else if 0x48 ≤ port then leBytes 2 v else beBytes 2 v

/-- The elements of a port code with their output values, by rising offset. -/
def State.portCells (s : State) (port k : Nat) : List PackCell :=
  let records := tableRecords (s.blob P.ElementTable)
  (records.zip (List.range records.length)).foldl (fun (acc : List PackCell) x =>
    if x.1.port ≠ port then acc
    else
      let (n, depth) := s.cellShape x.1
      let vs := s.outputValues x.2 x.1 k
      insertCell ⟨x.1.offset, n, vs.flatMap (cellBytes port depth)⟩ acc) []

/-- The two cells may stand side by side in one run. -/
def PackCell.joins (x y : PackCell) : Bool :=
  x.offset + 1 == y.offset && x.emitters == y.emitters && x.bytes.length == y.bytes.length

/-- Cut cells into runs. -/
def cellRuns : List PackCell → List (List PackCell)
  | [] => []
  | x :: xs =>
    match cellRuns xs with
    | [] => [[x]]
    | [] :: rs => [x] :: rs
    | (y :: ys) :: rs => if x.joins y then (x :: y :: ys) :: rs else [x] :: (y :: ys) :: rs

/-- Cut a run into pieces of `n` cells. -/
def chunks (n : Nat) : Nat → List PackCell → List (List PackCell)
  | 0, _ => []
  | fuel + 1, xs => if xs.isEmpty then [] else xs.take n :: chunks n fuel (xs.drop n)

/-- Element format code (Table 13.4). -/
def elementFormat (x : PackCell) : Nat := if x.bytes.length = x.emitters then 0x0F + x.emitters else 0x17 + x.emitters

/-- Element frames of a destination within `room` payload bytes. -/
def elementItems (raster : Bool) (room : Nat) (cells : List PackCell) : List SheetItem :=
  (cellRuns cells).flatMap fun run =>
    match run with
    | [] => []
    | x :: _ =>
      (chunks (room / x.bytes.length) run.length run).map fun c =>
        { format := if raster then 0x20 else elementFormat x, offset := (c.head?.map (·.offset)).getD 0, count := c.length,
          payload := c.flatMap (·.bytes) }

/-! ### Channel data (R251, R259) -/

/-- A ChannelTable entry (Table 12.2). -/
structure ChannelEntry where
  merge : Nat
  port : Nat
  priority : Nat
  univ : Nat
  deriving DecidableEq, Repr

/-- The entries of a ChannelTable body, in order. -/
def channelEntries (b : List Byte) : List ChannelEntry :=
  (List.range (b.length / 8)).map fun i =>
    let e := sliceBytes b (8 * i) 8
    { merge := leNat (e.take 2), port := (e.getD 2 0).toNat, priority := (e.getD 3 0).toNat, univ := leNat (sliceBytes e 4 2) }

/-- Two entries name the same port and universe. -/
def repeatsEntry : List ChannelEntry → Bool
  | [] => false
  | x :: xs => xs.any (fun y => y.port == x.port && y.univ == x.univ) || repeatsEntry xs

/-- The content check of P8030 (R259). -/
def channelTableOk (b : List Byte) : Bool :=
  b.length % 8 == 0 && (channelEntries b).all (fun e => decide (e.merge ≤ 16383) && decide (e.port ≤ 0x3F) &&
    decide (e.priority ≤ 200) && decide (1 ≤ e.univ) && decide (e.univ ≤ 63999)) && !repeatsEntry (channelEntries b)

/-- The 512 slots of a merged universe. -/
def State.mergedSlots (s : State) (i : Nat) : List Byte :=
  let v := (s.mergedAt i).values
  (v ++ List.replicate (512 - v.length) 0).take 512

/-- The live entries of a port. -/
def State.portEntries (s : State) (p : Nat) : List ChannelEntry :=
  (channelEntries (s.blob P.ChannelTable)).filter (fun e => e.port == p)

/-! ### E1.31 packets (R257, ANSI E1.31-2018) -/

/-- The ACN packet identifier. -/
def acnIdent : List Byte := [0x41, 0x53, 0x43, 0x2D, 0x45, 0x31, 0x2E, 0x31, 0x37, 0, 0, 0]

/-- Flags and length of a layer. -/
def acnLength (n : Nat) : List Byte := beBytes 2 (0x7000 + n)

/-- The CID of P8020. -/
def State.sacnCid (s : State) : List Byte := (List.range 4).flatMap (fun i => beBytes 4 (s.rdN P.SacnCid i))

/-- The source name field: 64 octets, the last always zero. -/
def State.sacnName (s : State) : List Byte :=
  let n := (s.blob P.SacnSourceName).take 63
  n ++ List.replicate (64 - n.length) 0

/-- An E1.31 data packet with start code 00h and 512 slots. -/
def State.sacnData (s : State) (univ priority seq sync : Nat) (terminated : Bool) (slots : List Byte) : List Byte :=
  beBytes 2 0x10 ++ [0, 0] ++ acnIdent ++ acnLength 622 ++ beBytes 4 4 ++ s.sacnCid ++
    acnLength 600 ++ beBytes 4 2 ++ s.sacnName ++ [BitVec.ofNat 8 priority] ++ beBytes 2 sync ++ [BitVec.ofNat 8 seq] ++
    [if terminated then 0x40 else 0] ++ beBytes 2 univ ++
    acnLength 523 ++ [0x02, 0xA1, 0, 0, 0, 1] ++ beBytes 2 513 ++ [0] ++ slots

/-- An E1.31 synchronisation packet. -/
def State.sacnSync (s : State) (seq sync : Nat) : List Byte :=
  beBytes 2 0x10 ++ [0, 0] ++ acnIdent ++ acnLength 33 ++ beBytes 4 8 ++ s.sacnCid ++
    acnLength 11 ++ beBytes 4 1 ++ [BitVec.ofNat 8 seq] ++ beBytes 2 sync ++ [0, 0]

/-- What an E1.31 packet of an sACN-mode port to the group of a universe or synchronisation address is sent with: IPv4 from
P8025 where that is not zero, else IPv6 from the link-local address (R257, R261). -/
def State.sacnHead (s : State) (p : Nat) (u : Half) : NetHead :=
  let v4 := s.rdN P.SacnSourceV4 p ≠ 0
  let h := shroudHead p (sacnGroup (!v4) u) 5568
  if v4 then { h with v6 := false, src := ip4 ((s.rd P.SacnSourceV4 p).setWidth 32) } else h

/-- Length on the wire of a UDP payload on an sACN-mode port. -/
def State.sacnLen (s : State) (p payload : Nat) : Nat :=
  max 64 (14 + (if s.rdN P.SacnSourceV4 p = 0 then 40 else 20) + 8 + payload + 4)

/-! ### Universes of an sACN-mode port (R258, R260, R262) -/

/-- One universe to be sent. -/
structure OutUniverse where
  port : Nat
  univ : Nat
  priority : Nat
  slots : List Byte
  deriving DecidableEq, Repr

/-- Lay bytes over a list at an offset. -/
def overlay (base : List Byte) (at' : Nat) (b : List Byte) : List Byte := base.take at' ++ b ++ base.drop (at' + b.length)

/-- The element universes of a port (Table 12.7), ascending, as universe and slots. -/
def State.elementUniverses (s : State) (p k : Nat) : SMap (List Byte) :=
  let lay := s.lv P.SacnElementLayout p
  let base := field lay 16 16
  let per := field lay 6 10
  let width := field lay 0 6
  if base = 0 ∨ per = 0 ∨ width = 0 then []
  else
    (s.portCells p k).foldl (fun (m : SMap (List Byte)) x =>
      let u := base + x.offset / per
      if u > 63999 then m
      else SMap.insert m u (overlay (SMap.get (List.replicate 512 0) m u) (x.offset % per * width) (x.bytes.take width))) []

/-- The priority of an entry, P8022 where it gives none. -/
def State.entryPriority (s : State) (n : Nat) : Nat := if n = 0 then s.rdN P.SacnPriority 0 else n

/-- The universes of a port in sending order: channel universes by entry, then element universes; an element universe
that an entry names is not sent. -/
def State.portUniverses (s : State) (p k : Nat) : List OutUniverse :=
  let entries := s.portEntries p
  let chans := (entries.filter (fun e => (s.mergedAt e.merge).sends)).map fun e =>
    ({ port := p, univ := e.univ, priority := s.entryPriority e.priority, slots := s.mergedSlots e.merge } : OutUniverse)
  let elems := ((s.elementUniverses p k).filter (fun x => !(entries.any (fun e => e.univ == x.1)))).map fun x =>
    ({ port := p, univ := x.1, priority := s.entryPriority 0, slots := x.2 } : OutUniverse)
  chans ++ elems

/-- A universe whose stream was terminated may be sent again in frame `k` (R262). -/
def State.mayResume (s : State) (p u k : Nat) : Bool :=
  match s.sheet.resume.find? (fun r => r.port == p && r.univ.toNat == u) with
  | none => true
  | some r =>
    let d := (k + 256 - r.last % 256) % 256
    (decide (1 ≤ d) && decide (d ≤ 236)) || decide (r.instant + 2500000000 < boundary s.halyard.grid.rate k)

/-! ### Static refresh reduction (R263, R264) -/

/-- The port is static in the frame: allowed, and unchanged for StaticAfter frames. -/
def State.isStatic (s : State) (p : Nat) : Bool :=
  (s.lv P.StaticEnable 0).getLsbD p && decide (s.lvN P.StaticAfter 0 ≤ SMap.get 0 s.sheet.unchanged p)

/-! ### Items of a Shroud-mode port (R247, R251, R256, R264, R266) -/

/-- The phase payload of Table 12.1. -/
def State.phasePayload (s : State) : List Byte :=
  let code := s.lvN P.CameraRate 0
  if code = 0xFF then List.replicate 16 0
  else
    beBytes 4 (rateA code) ++ beBytes 2 (rateN code) ++ beBytes 2 (s.lvN P.PwmMultiple 0) ++
      beBytes 4 (s.lvN P.PwmPhaseOffset 0 % 2 ^ 32) ++ [0, 0, 0, 0]

/-- A phase frame is due on the port. -/
def State.phaseDue (s : State) (p k : Nat) (changed : Bool) : Bool :=
  (s.lv P.PhaseEnable 0).getLsbD p && (k % s.lvN P.PhaseRepeatFrames 0 == 0 || changed)

/-- The items of a Shroud-mode port for frame `k`, and whether they are its full traffic. -/
def State.shroudItems (s : State) (p k : Nat) (phaseChanged : Bool) : List SheetItem × Bool :=
  let phase : List SheetItem := if s.phaseDue p k phaseChanged then
      [{ format := 0x02, offset := 0, count := 0, payload := s.phasePayload }] else []
  let full := fun (_ : Unit) =>
    let chans := ((s.portEntries p).filter (fun e => (s.mergedAt e.merge).sends)).map fun e =>
      ({ format := 0x03, offset := e.univ, count := 512, payload := s.mergedSlots e.merge } : SheetItem)
    (phase ++ chans ++ elementItems false (s.rdN P.ShroudMaxFrame p - 98) (s.portCells p k), true)
  if s.isStatic p then
    let ka := s.lvN P.KeepAliveFrames 0
    if k % ka ≠ 0 then (phase, false)
    else if k / ka % s.lvN P.RefreshKeepAlives 0 = 0 then full ()
    else
      let hold : SheetItem := { format := 0x01, offset := 0, count := 0,
                                payload := beBytes 4 (SMap.get 0 s.sheet.reference p).toNat ++ [0, 0, 0, 0] }
      (phase ++ [hold], false)
  else full ()

/-! ### Clone (R268) -/

/-- The source whose clone a port is the target of, by the entries alone. -/
def State.cloneSource (s : State) (p : Nat) : Option Nat :=
  ((List.range 16).find? (fun i => s.lvN P.CloneSource i ≠ 0xFF ∧ (s.lv P.CloneTargets i).getLsbD p)).map (s.lvN P.CloneSource)

def State.portOn (s : State) (p : Nat) : Bool := (s.lv P.PortEnable 0).getLsbD p
def State.sacnMode (s : State) (p : Nat) : Bool := s.lvN P.PortMode p == 1

/-- A write of a clone entry that R268 refuses: two entries with one target, a port both source and target. -/
def clonesOk (entries : List (Nat × Nat)) : Bool :=
  let used := entries.filter (fun e => e.1 != 0xFF)
  let targets := fun (p : Nat) => (used.filter (fun e => e.2.testBit p)).length
  (List.range 64).all (fun p => decide (targets p ≤ 1) && (targets p == 0 || !(used.any (fun e => e.1 == p))))

/-! ### The pack pass (R246) -/

/-- d_p of a port: LinkDelay, or P8005 while it is not measured (R245). -/
def State.linkDelay (s : State) (p : Nat) : Nat × Bool :=
  if s.rdN P.LinkDelay p = 0xFFFFFFFF then (s.rdN P.AssumedLinkDelay p, true) else (s.rdN P.LinkDelay p, false)

/-- The close of the window of a frame with presentation time `t` on a destination. -/
def State.windowClose (s : State) (t : T32) (d : Nat) : T32 :=
  t - BitVec.ofNat 32 (s.rdN P.Guard_P8001 0 + (if d < 64 then (s.linkDelay d).1 else 0))

/-- PortStatus of a port for a frame (Table 12.6); the Lpi and UnderrunLast bits are kept. -/
def State.showPort (s : State) (p : Nat) (sendsClone static : Bool) : State :=
  let keep := (s.rd P.PortStatus p) &&& 0x140
  let on := s.portOn p
  let phase := on && !s.sacnMode p && (s.lv P.PhaseEnable 0).getLsbD p && s.lvN P.CameraRate 0 != 0xFF
  let bits := sendsClone.toNat * 1024 + ((on || sendsClone) && (s.linkDelay p).2).toNat * 512 + (on && static).toNat * 128 + phase.toNat * 16 +
    (s.sacnMode p).toNat * 2 + on.toNat
  s.wr P.PortStatus p (keep ||| BitVec.ofNat 64 bits)

/-- Pack the Shroud traffic that the port `src` forms, for the port `p` to send. -/
def State.packShroud (s : State) (k : Nat) (c : FrameContext) (src p : Nat) : ShowFrame × Bool × Nat :=
  let (items, full) := s.shroudItems src k c.phaseChanged
  let close := s.windowClose c.time p
  ({ frame := k, close := close, frames := s.frameItems k c.time close p (s.rdN P.PortStream p) 0 (shroudHead p shroudGroup 49230) (items.take 4096),
     sent := 0, wire := 0 }, full, items.length - 4096)

/-- Pack the E1.31 data packets of a port. -/
def State.packSacn (s : State) (k : Nat) (c : FrameContext) (p : Nat) (us : List OutUniverse) : ShowFrame :=
  let close := s.windowClose c.time p
  { frame := k, close := close, sent := 0, wire := 0,
    frames := us.map fun u =>
      { frame := .sacnData (BitVec.ofNat 16 u.univ) (s.sacnData u.univ u.priority (k % 256) (s.lvN P.SacnSyncAddress p) false u.slots),
        len := s.sacnLen p 638, tag := some ⟨k, p, close⟩, net := some (s.sacnHead p (BitVec.ofNat 16 u.univ)) } }

/-- The universes a port sends in frame `k`: those due under R260 that are not waiting under R262. -/
def State.dueUniverses (s : State) (k p : Nat) : List OutUniverse :=
  if !(s.portOn p && s.sacnMode p) || (s.isStatic p && k % s.rdN P.SacnRefreshFrames 0 != 0) then []
  else (s.portUniverses p k).filter (fun u => s.mayResume p u.univ k)

/-- Insert by port, then universe. -/
def insertUniverse (x : OutUniverse) : List OutUniverse → List OutUniverse
  | [] => [x]
  | y :: ys => if x.port * 65536 + x.univ < y.port * 65536 + y.univ then x :: y :: ys else y :: insertUniverse x ys

/-- The packets of a cascade output (R269), one list for each of its stay ports, and the number beyond the 4,096th of each. -/
def State.packCascade (s : State) (k : Nat) (c : FrameContext) (o : Nat) : List (Nat × Egress) × Nat :=
  let w := fun i => (s.lv P.CascadeOutGroup (4 * o + i)).setWidth 32
  let group : BitVec 128 := w 0 ++ w 1 ++ w 2 ++ w 3
  let close := s.windowClose c.time (64 + o)
  if group = 0 then ([], 0)
  else
    let parts := ((List.range 4).filter (fun p => (s.lv P.CascadeOutPorts o).getLsbD p)).map fun p =>
      let tag := if (s.stayTag p).isSome then 4 else 0
      let items := elementItems true (s.rdN P.StayMaxFrame p - 98 - tag) (s.portCells (0x48 + o) k)
      let head := { s.stayGroupHead p group 49230 with src := linkLocal p }
      ((s.frameItems k c.time close (64 + o) (s.lvN P.CascadeOutStream o) tag head (items.take 4096)).map (fun x => (p, x)),
        items.length - 4096)
    (parts.flatMap (·.1), (parts.map (·.2)).foldl (· + ·) 0)

/-- The frame hash of each destination 00h to 40h (R243). -/
def State.frameHashes (s : State) (k : Nat) : SMap Word :=
  let records := tableRecords (s.blob P.ElementTable)
  let rows := records.zip (List.range records.length)
  (List.range 65).map fun d =>
    (d, crc32 ((rows.filter (fun x => x.1.port == d)).flatMap (fun x => hashBytes (s.outputValues x.2 x.1 k))))

/-- The 16-bit values of Masthead's elements, in element order (R304). -/
def State.lampValues (s : State) (k : Nat) : List (Nat × List Nat) :=
  let records := tableRecords (s.blob P.ElementTable)
  ((records.zip (List.range records.length)).filter (fun x => x.1.port == 0x40)).map fun x =>
    let depth := (s.cellShape x.1).2
    (x.1.offset, (s.outputValues x.2 x.1 k).map (fun o => o * 65535 / (2 ^ depth - 1)))

/-- Whether each port counts as changed in the frame, and its count of unchanged frames (R263). -/
def State.countStatic (s : State) (c : FrameContext) : State :=
  let changed := c.changed ++ s.sheet.changedClosed
  (List.range 64).foldl (fun s p =>
    let n := if changed.contains p then 0 else min 65535 (SMap.get 0 s.sheet.unchanged p + 1)
    { s with sheet := { s.sheet with unchanged := SMap.set 0 s.sheet.unchanged p n } }) s

/-- A cycle whose blank has begun with no latch in its clock, because the grid latches no frame, ends before its window
opens. -/
def State.endCycle (s : State) : State :=
  match s.sheet.closed, s.render.frame with
  | none, some k => match s.contextOf k with
    | some c => if due c.opens s.tns then s.closeCycle k else s
    | none => s
  | _, _ => s

/-- SHEET_WINDOW_OPEN: the pack pass takes the frame out of the element output store (R246). In Unset Sheet sends no show
frame (R21). -/
def State.openWindow (s : State) : State :=
  let s := s.endCycle
  match s.sheet.closed with
  | none => s
  | some k =>
    let s := { s with sheet := { s.sheet with closed := none } }
    match s.contextOf k with
    | none => s
    | some c =>
      let s := s.countStatic c
      let v := s.under c
      let sends := c.output && !c.dropped && s.sendsOutput && !s.sheet.stopping && s.timeState != Ts.unset
      let sendsClone := fun (p : Nat) => match v.cloneSource p with
        | some src => v.portOn p && v.portOn src && !v.sacnMode p && !v.sacnMode src
        | none => false
      let nothing : ShowFrame := { ShowFrame.init with frame := k }
      let all := (((List.range 64).filter (fun p => (v.cloneSource p).isNone)).flatMap (v.dueUniverses k)).foldl (fun acc u => insertUniverse u acc) []
      let within := all.take 16384
      let shroud := (List.range 64).map fun p =>
        match v.cloneSource p with
        | some src => if sendsClone p then (p, (v.packShroud k c src p).1, false, (v.packShroud k c src p).2.2)
                      else (p, nothing, false, 0)
        | none =>
          if v.sacnMode p then (p, v.packSacn k c p ((v.dueUniverses k p).filter (fun u => within.contains u)), false, 0)
          else if v.portOn p then (p, v.packShroud k c p p) else (p, nothing, false, 0)
      let outputs := (List.range 8).map (fun o => (o, v.packCascade k c o))
      let casc := outputs.flatMap (fun x => x.2.1)
      let traffic : SMap ShowFrame := if sends then
          (shroud.map (fun x => (x.1, x.2.1))) ++ (List.range 4).map (fun p =>
            (64 + p, { nothing with frames := (casc.filter (fun x => x.1 == p)).map (·.2) }))
        else []
      let packed : Packed :=
        { frame := k, time := c.time, started := s.tns, traffic := traffic, hashes := v.frameHashes k,
          masthead := v.lampValues k, dropped := c.dropped,
          overflow := if sends then shroud.map (fun x => (x.1, x.2.2.2)) ++ outputs.map (fun x => (64 + x.1, x.2.2)) else [] }
      let s := (List.range 64).foldl (fun s p =>
        let st := (v.portOn p) && v.isStatic p
        let w := (s.under c).showPort p (sends && sendsClone p) st
        { s with regs := w.regs }) s
      let s := if sends then shroud.foldl (fun (s : State) x =>
          if x.2.2.1 then { s with sheet := { s.sheet with reference := SMap.set 0 s.sheet.reference x.1 c.time } } else s) s
        else s
      let s := s.wr P.SacnOverLimitLast 0 (BitVec.ofNat 64 (all.length - 16384))
      { s with sheet := { s.sheet with packing := some packed } }

def execSheetWindowOpen (s : State) : Host.Outcome State Fault Refusal := done (s.ownCommand 0x04 State.openWindow)

/-- PACK_PASS_DONE: the hashes are placed, the old table area is free, the ports may begin the frame, and Masthead takes
its values, of which up to 4 frames wait (R222, R243, R246, R308). -/
def State.finishPack (s : State) : State :=
  match s.sheet.packing with
  | none => s
  | some x =>
    let s := { s with sheet := { s.sheet with packing := none } }
    let s := s.setRender { s.render with oldArea := false }
    let s := s.wr P.PackTime 0 (BitVec.ofNat 64 (s.tns - x.started).toNat)
    let s := x.hashes.foldl (fun (s : State) h =>
      (s.wr P.FrameHash h.1 (h.2.setWidth 64)).wr P.FrameHashIndex h.1 (BitVec.ofNat 64 (x.frame % 2 ^ 32))) s
    let m := s.masthead
    if x.dropped then s
    else
      let s := { s with masthead := { m with waiting := (m.waiting ++ [({ time := x.time, values := x.masthead } : LampFrame)]).drop (m.waiting.length + 1 - 4) } }
      if s.sheet.stopping then s
      else
        let s := x.overflow.foldl (fun (s : State) o => if o.2 = 0 then s else s.countLate o.1 x.frame o.2) s
        x.traffic.foldl (fun (s : State) t =>
          if t.1 < 64 then
            if t.2.frames.isEmpty then (s.wr P.PortWireTime t.1 0).servePort t.1
            else
              let q := s.port t.1
              ((s.wakeLpi t.1).setPort t.1 { q with shows := q.shows ++ [t.2] }).servePort t.1
          else t.2.frames.foldl (fun s f => s.sendCascade (t.1 - 64) f) s) s

def execPackPassDone (s : State) : Host.Outcome State Fault Refusal := done s.finishPack

/-! ### Synchronisation (R261) -/

/-- SACN_SYNC_SEND: at T(k) - d_p of the oldest frame in which the port sent data packets and that has had none. -/
def State.sendSync (s : State) (p : Nat) : State :=
  match SMap.get [] s.sheet.dataFrame p with
  | [] => s
  | k :: ks =>
    let s := { s with sheet := { s.sheet with dataFrame := SMap.set [] s.sheet.dataFrame p ks } }
    let v := s.frameView k
    let a := v.lvN P.SacnSyncAddress p
    if a = 0 ∨ !(v.sacnMode p) ∨ !s.portsRun then s
    else
      (s.sendTime p { frame := .sacnSync (s.sacnSync (k % 256) a), len := s.sacnLen p 49, tag := some ⟨k, p, s.tns⟩,
                      net := some (s.sacnHead p (BitVec.ofNat 16 a)) }).1

def execSacnSyncSend (port : Fin 64) (s : State) : Host.Outcome State Fault Refusal := done (s.sendSync port)

/-! ### The announcements before an orderly stop (R41, R262, R271) -/

/-- A heartbeat of the partner has come on either path within the last 3 heartbeat intervals (R262). -/
def State.heardLately (s : State) : Bool :=
  let lately := fun (x : Option Nat) => match x with
    | some t => decide (s.clock ≤ t + 3 * s.heartbeatTicks)
    | none => false
  s.paired && (lately s.twin.pennantAt || lately s.twin.stayAt)

/-- The three terminating packets of one universe. -/
def State.terminate (s : State) (p u k : Nat) : State :=
  let heard := s.heardLately
  let slots := match (s.portUniverses p k).find? (fun x => x.univ == u) with
    | some x => x
    | none => { port := p, univ := u, priority := s.entryPriority 0, slots := List.replicate 512 0 }
  let packet := fun (seq : Nat) =>
    ({ frame := .sacnData (BitVec.ofNat 16 u) (s.sacnData u slots.priority (seq % 256) (s.lvN P.SacnSyncAddress p) true slots.slots),
       len := s.sacnLen p 638, tag := none, net := some (s.sacnHead p (BitVec.ofNat 16 u)) } : Egress)
  let frames := (if heard then [k, k, k] else [k + 1, k + 2, k + 3]).map packet
  let q := s.port p
  let s := s.setPort p { q with shows := q.shows ++ [{ frame := k, close := 0, frames := frames, sent := 0, wire := 0 }] }
  if heard then s
  else
    { s with sheet := { s.sheet with
        resume := s.sheet.resume.filter (fun r => !(r.port == p && r.univ.toNat == u)) ++ [⟨p, BitVec.ofNat 16 u, k + 3, s.fullTime⟩] } }

/-- ORDERLY_STOP_ANNOUNCE: what is queued is discarded and every universe that was being sent is terminated. -/
def State.announceStop (s : State) : State :=
  if s.sheet.stopping then s
  else
    let s := { s with sheet := { s.sheet with stopping := true }
                      ports := s.ports.map (fun (x : Nat × ShroudPort) => (x.1, { x.2 with shows := [] }))
                      stay := s.stay.map (fun (x : Nat × StayPort) => (x.1, { x.2 with cascade := [] })) }
    let sent := s.sheet.lastSent
    let s := sent.foldl (fun (s : State) x => match x.2 with
      | some k => if s.portOn (x.1 / 65536) && s.sacnMode (x.1 / 65536) then s.terminate (x.1 / 65536) (x.1 % 65536) k else s
      | none => s) s
    let s := { s with sheet := { s.sheet with lastSent := [], dataFrame := [] } }
    (List.range 64).foldl (fun s p => s.servePort p) s

/-- Sheet takes up its output again with the first frame whose latch follows (R75). -/
def State.resumeShow (s : State) : State := { s with sheet := { s.sheet with stopping := false } }

end Sys2Proof.Machine
end

