-- ==== Sys2Proof/Machine/Shroud.lean ====
section
/-! DEFINITION. The shroud ports (chapter 13): links, received frames with their checks, classification and wake
patterns, the express path, the statistics snapshot and the cable test. -/
namespace Sys2Proof.Machine

/-! ### Links (R274) -/

/-- A shroud port leaves LinkUp: counted, its frames discarded, its link delay not measured (R274, R135). -/
def State.shroudDown (s : State) (p : Nat) : State :=
  if s.shroudUp p then
    let s := s.wr P.LinkStatus p (s.rd P.LinkStatus p &&& 0x80)
    let s := (s.setBit P.PortStatus p 8 false).count P.LinkDownCount_P9105 p
    let s := s.wr P.LinkDelay p 0xFFFFFFFF
    let s := s.setShroudPtp p { s.shroudPtp p with pdelayReq := none, refused := [] }
    s.discardPort p
  else s

/-- SHROUD_LINK_UP: an enabled port that is not under a cable test reaches LinkUp. Of a link that is up the command brings what
its PHY now reports (Table 13.14), the partner's low-power idle among it; its own low-power idle stands. -/
def State.shroudTrain (s : State) (p : Nat) (x : PhyStatus) : State :=
  if s.portsRun && s.shroudEnabled p && !(s.bit P.LinkStatus p 7) then
    let auto := s.bit P.PhyControl p 6
    let role := if auto then x.master else s.bit P.PhyControl p 5
    let v := (max 1 x.quality.val) * 256 + x.partnerLpi.toNat * 64 + (s.shroudUp p && s.bit P.LinkStatus p 5).toNat * 32 +
      role.toNat * 16 + (auto && x.autoNegDone).toNat * 8 + x.remoteRxOk.toNat * 4 + x.localRxOk.toNat * 2 + 1
    let s := s.wr P.LinkStatus p (BitVec.ofNat 64 v)
    if auto then s.setBit P.PhyControl p 7 x.partnerEee else s
  else s

/-- SHROUD_LINK_UP (R274). -/
def execShroudLinkUp (port : Fin 64) (status : PhyStatus) (s : State) : Host.Outcome State Fault Refusal :=
  done (s.shroudTrain port status)

/-- SHROUD_LINK_DOWN (R274). -/
def execShroudLinkDown (port : Fin 64) (s : State) : Host.Outcome State Fault Refusal := done (s.shroudDown port)

/-! ### Bytes of a received frame -/

/-- The one's-complement check over a sum that includes the checksum field. -/
def onesOk (sum : Nat) : Bool := decide (0 < sum) && decide (sum % 65535 = 0)

/-- A UDP datagram as a frame carries it. -/
structure Datagram where
  v6 : Bool
  src : BitVec 128
  dst : BitVec 128
  dstPort : Nat
  checkOk : Bool
  data : List Byte
  deriving DecidableEq, Repr

/-- The UDP header and data after an IP header, with the checksum over the pseudo-header. -/
def datagramOf (v6 : Bool) (src dst : List Byte) (u : List Byte) : Option Datagram :=
  let len := beNat (sliceBytes u 4 2)
  if u.length < 8 ∨ len < 8 ∨ u.length < len then none
  else
    let u := u.take len
    let none' := beNat (sliceBytes u 6 2) == 0
    let sum := wordSum src + wordSum dst + 17 + len + wordSum u
    some { v6 := v6, src := BitVec.ofNat 128 (beNat src), dst := BitVec.ofNat 128 (beNat dst),
           dstPort := beNat (sliceBytes u 2 2), checkOk := if none' then !v6 else onesOk sum, data := u.drop 8 }

/-- The UDP datagram of an untagged Ethernet frame; none when it carries none, or a fragment. -/
def frameDatagram (bs : List Byte) : Option Datagram :=
  let ty := beNat (sliceBytes bs 12 2)
  if ty = 0x86DD then
    if (bs.getD 14 0).toNat / 16 = 6 ∧ bs.getD 20 0 = 17 then
      datagramOf true (sliceBytes bs 22 16) (sliceBytes bs 38 16) (bs.drop 54)
    else none
  else if ty = 0x0800 then
    let ihl := (bs.getD 14 0).toNat % 16 * 4
    if (bs.getD 14 0).toNat / 16 = 4 ∧ 20 ≤ ihl ∧ bs.getD 23 0 = 17 ∧ beNat (sliceBytes bs 20 2) % 0x4000 = 0 then
      datagramOf false (sliceBytes bs 26 4) (sliceBytes bs 30 4) (bs.drop (14 + ihl))
    else none
  else none

/-- HeaderCheck of a Shroud header is correct (R278). -/
def headerCheckOk (h : List Byte) : Bool :=
  decide (32 ≤ h.length) &&
    (crc16 (h.take 20 ++ [0, 0] ++ sliceBytes h 22 10)).toNat == beNat (sliceBytes h 20 2)

/-! ### Wake patterns (R295) -/

/-- Word `i` of a pattern: 0 control, 1 to 4 the mask, 5 the CRC. -/
def State.patternWord (s : State) (port pattern i : Nat) : Wide := SMap.get 0 s.shroud.patterns (8 * (8 * port + pattern) + i)
def State.setPatternWord (s : State) (port pattern i : Nat) (v : Wide) : State :=
  { s with shroud := { s.shroud with patterns := SMap.set 0 s.shroud.patterns (8 * (8 * port + pattern) + i) v } }

/-- A frame matches one pattern. -/
def State.patternMatch (s : State) (port pattern : Nat) (bs : List Byte) : Bool :=
  let w := s.patternWord port pattern
  let off := field (w 0) 16 11
  let idx := (List.range 128).filter (fun i => (w (1 + i / 32)).getLsbD (i % 32))
  (w 0).getLsbD 0 && !idx.isEmpty && idx.all (fun i => decide (off + i < bs.length)) &&
    (crc16 (idx.map (fun i => bs.getD (off + i) 0))).setWidth 64 == w 5

/-- A frame matches the port's patterns at most once; a match is counted and may wake the device. -/
def State.checkPatterns (s : State) (port : Fin 64) (bs : List Byte) : State :=
  if (List.range 8).any (fun i => s.patternMatch port i bs) then
    let s := s.count P.WakeMatchCount port
    if s.shroudEnabled port then s.wakeEvent (.shroudPattern port) else s
  else s

/-! ### Receiving (R275, R280, R291) -/

/-- The checks of R275 in their order. -/
def State.shroudFault (s : State) (p : Nat) (len : Nat) (fcsOk : Bool) : Option Nat :=
  if len < 64 then some P.RxRuntCount_P9100
  else if len > s.rdN P.ShroudMaxFrame p then some P.RxOversizeCount_P9101
  else if !fcsOk then some P.RxFcsErrorCount_P9104
  else none

/-- Steps 1 and 2 of R280 for a bulk frame to this port: version, checks, class, format code, and the length that the WDP
message inside it gives. -/
def bulkOk (d : Datagram) : Bool :=
  let h := d.data
  let w := h.drop 32
  d.checkOk && shroudVersion h == 1 && headerCheckOk h && shroudClass h == Cls.bulk && shroudFormat h == 0x40 &&
    beNat (sliceBytes h 18 2) == 0 && decide (16 ≤ w.length) &&
    w.length == 16 + beNat (sliceBytes w 6 2) + (if (w.getD 3 0).getLsbD 0 then 16 else 0)

/-- Frames of the bulk receive store that came from one port. -/
def State.bulkShare (s : State) (p : Nat) : Nat := (s.capstan.bulkStore.filter (fun x => x.1 == p)).length

/-- A bulk frame enters the bulk receive store; the kernel takes the one a relay waits for (R399). -/
def State.takeBulk (s : State) (p : Nat) (msg : List Byte) : State :=
  if s.bulkShare p ≥ 8 then s.count P.RxOverflowCount_P9102 p
  else
    let first := s.capstan.bulkStore.isEmpty
    let relay := s.rdN P.RelayStatus 0 == 1 && s.capstan.relayPort == p
    let s := if relay then (s.setBlob P.RelayResponse msg).wr P.RelayStatus 0 2
      else { s with capstan := { s.capstan with bulkStore := s.capstan.bulkStore ++ [(p, msg)] } }
    if first then ((s.raiseIrq 0 Irq.bulk).fireEvent 0x20 (eventSource 0x20)).place else s

/-- What an answer to the sender of a received IPv6 frame is sent with; a sender with the unspecified address is answered to all
nodes. -/
def answerHead (p : Nat) (bs : List Byte) : NetHead :=
  let src : BitVec 128 := BitVec.ofNat 128 (beNat (sliceBytes bs 22 16))
  let dst := if src = 0 then ip6Group 0x02 1 else src
  { shroudHead p dst 0 with dstMac := if src = 0 then groupMac dst else BitVec.ofNat 48 (beNat (sliceBytes bs 6 6)) }

/-- Queue a frame on Q0, 16 KiB deep; false when the queue refuses it. -/
def State.sendBulk (s : State) (p : Nat) (x : Egress) : State × Bool :=
  let q := s.port p
  if queuedBytes q.bulk + x.len > 16384 then (s, false)
  else (((s.wakeLpi p).setPort p { q with bulk := q.bulk ++ [x] }).servePort p, true)

/-- Classify an accepted frame by Table 13.9; the bytes are without the FCS. The classifier empties the receive buffer as fast as
the line fills it, and a bulk frame whose share of the store is full is dropped (R399), so no frame waits in the buffer and one
of at most 2,048 bytes always fits (R291). -/
def State.shroudClassify (s : State) (p : Nat) (bs : List Byte) (stamp : T32) (frac : Byte) : State :=
  let own := eui64 (Config.shroudMac p)
  let ty := beNat (sliceBytes bs 12 2)
  if ty = 0x8808 then s
  else if ty = 0x86DD ∧ bs.getD 20 0 = 58 ∧ bs.getD 54 0 = 135 ∧ 78 ≤ bs.length then
    if beNat (sliceBytes bs 62 16) = own.toNat then (s.sendBulk p { frame := .neighbourAdvert own, len := 90, net := some (answerHead p bs) }).1
    else s.count P.RxUnclassifiedCount_P9103 p
  else
    match frameDatagram bs with
    | none => s.count P.RxUnclassifiedCount_P9103 p
    | some d =>
      if d.dstPort = 319 then
        let m : BitVec 4 := (d.data.getD 0 0).setWidth 4
        if m = 0 ∨ m = 1 then
          (s.stampUnused p ⟨m, d.data.getD 4 0, BitVec.ofNat 16 (beNat (sliceBytes d.data 30 2)),
            BitVec.ofNat 16 (beNat (sliceBytes d.data 28 2))⟩ stamp frac).1
        else s
      else if d.dstPort = 320 then s
      else if d.dstPort = 49230 ∧ d.v6 ∧ d.dst = own ∧ bulkOk d then s.takeBulk p (d.data.drop 32)
      else s.count P.RxUnclassifiedCount_P9103 p

/-- The receivers of the shroud ports run: of a served device in every power state whose clock is on, so not in Furled nor while
it wakes from there (Table 4.1, R295). -/
def State.shroudHears (s : State) : Bool :=
  s.serving && (match s.power.sleep with
    | .furled | .waking true => false
    | _ => true)

/-- SHROUD_FRAME_RECEIVED: the bytes run from the destination address to the FCS. Out of Run the ports only check and match
patterns. A partner that sends is not in low-power idle. A peer-delay message is stamped by the command that carries it. -/
def State.receiveShroud (s : State) (p : Fin 64) (bs : List Byte) (fcsOk : Bool) (stamp : T32) (frac : Byte) : State :=
  if !(s.shroudHears && s.shroudUp p) then s
  else
    let s := s.setBit P.LinkStatus p 6 false
    match s.shroudFault p bs.length fcsOk with
    | some c => s.count c p
    | none =>
      let s := (s.traffic P.RxFrameCount_P9010 p 1).traffic P.RxByteCount_P9011 p bs.length
      let runs := s.portsRun
      let s := s.checkPatterns p bs
      if runs then s.shroudClassify p (bs.take (bs.length - 4)) stamp frac else s

def execShroudFrameReceived (port : Fin 64) (bytes : List Byte) (fcsOk : Bool) (stamp : T32) (frac : Byte) (s : State) :
    Host.Outcome State Fault Refusal :=
  done (s.receiveShroud port bytes fcsOk stamp frac)

/-! ### The express path (R285 to R287) -/

/-- The express groups of P9203 and P9204. -/
def State.expressGroup (s : State) (v6 : Bool) (g : BitVec 128) : Bool :=
  if v6 then
    let w := fun i => (s.rd P.ExpressGroupV6 i).setWidth 32
    let x := w 0 ++ w 1 ++ w 2 ++ w 3
    x != 0 && g == x
  else s.rdN P.ExpressGroupV4 0 != 0 && g == (0 : BitVec 96) ++ (s.rd P.ExpressGroupV4 0).setWidth 32

/-- The shroud ports an express stream is routed to whose link is up (P9202, P9208). -/
def State.expressRoute (s : State) (stream : Nat) : List Nat :=
  let e := stream - s.rdN P.ExpressStreamBase 0
  (List.range 64).filter fun p =>
    (if p < 32 then s.bit P.ExpressRouteLow e p else s.bit P.ExpressRouteHigh e (p - 32)) && s.shroudUp p

/-- The frame meets the conditions of R285 beyond its class. -/
def State.expressTaken (s : State) (v6 : Bool) (dst : IpDst) (len : Nat) (d : List Byte) : Bool :=
  let base := s.rdN P.ExpressStreamBase 0
  (match dst with
    | .unicast => true
    | .broadcast => false
    | .group g => s.expressGroup v6 g) &&
  shroudVersion d == 1 && shroudFormat d == 0x30 && headerCheckOk d && decide (base ≤ shroudStream d) &&
  decide (shroudStream d ≤ base + 255) && decide (len ≤ 256)

/-- The copy of an express frame for this unit (R286). -/
def State.expressCopy (s : State) (d : List Byte) : List Byte :=
  let n := fun off k => beNat (sliceBytes d off k)
  s.shroudHeader Cls.express 0x30 ((d.getD 3 0).getLsbD 0) (n 4 2) (BitVec.ofNat 32 (n 6 4)) (BitVec.ofNat 32 (n 10 4))
    (n 14 4) (n 18 2) ++ d.drop 32

def State.setExpress (s : State) (port : Nat) (x : ExpressCopy) : State :=
  { s with shroud := { s.shroud with express := SMap.set ExpressCopy.init s.shroud.express port x } }

/-- EXPRESS_FRAME: the header of an express-class frame has arrived; copies are queued on every routed port. -/
def State.takeExpress (s : State) (port : Nat) (f : RxFrame) : State :=
  match f.payload with
  | .udp v6 dst _ _ dp frag d =>
    if s.stayActive && s.stayUp port && s.stayEnabled port && s.rdN P.ExpressEnable 0 == 1 && s.accepts port f && s.vlanOk port f &&
        dp == 49230 && shroudClass d == Cls.express then
      if !frag && s.expressTaken v6 dst f.len d then
        let copy := s.expressCopy d
        let ports := (s.expressRoute (shroudStream d)).filter (fun p => decide ((s.port p).express.length < 4))
        let dropped := (s.expressRoute (shroudStream d)).filter (fun p => decide (4 ≤ (s.port p).express.length))
        let x := fun (p : Nat) => ({ frame := .express port false copy, len := shroudLen (d.length - 32),
                                     net := some (shroudHead p shroudGroup 49230) } : Egress)
        let s := ports.foldl (fun s p => s.sendExpress p (x p)) s
        let s := dropped.foldl (fun s p => s.count P.ExpressDropCount p) s
        s.setExpress port { ports := ports, taken := true }
      else s.count P.ExpressRejectCount 0
    else s
  | _ => s

def execExpressFrame (port : Fin 4) (frame : RxFrame) (s : State) : Host.Outcome State Fault Refusal :=
  done (s.takeExpress port frame)

/-- The frame on the wire is a copy of the express frame now arriving on a stay port. -/
def Egress.expressOf (port : Nat) (x : Egress) : Bool := match x.frame with
  | .express q _ _ => q == port
  | _ => false

/-- The copy of the arriving frame waits in Q3: it is the last one there from its stay port, since no frame of that port follows
it before its end; one of the other stay port may. -/
def waitsExpress (port : Nat) (q : List Egress) : Bool := q.any (Egress.expressOf port)

/-- The copy has begun to leave the port. -/
def State.expressBegun (s : State) (port p : Nat) : Bool :=
  !(waitsExpress port (s.port p).express) && (match (s.port p).sending with
    | some x => x.expressOf port
    | none => false)

/-- Put what `f` gives in the place of the last frame of a queue that came from a stay port. -/
def replaceLast (port : Nat) (f : Egress → List Egress) : List Egress → List Egress
  | [] => []
  | x :: xs => if x.expressOf port && !(waitsExpress port xs) then f x ++ xs else x :: replaceLast port f xs

/-- End a copy with an inverted FCS. -/
def Egress.stomp (x : Egress) : Egress := match x.frame with
  | .express q _ b => { x with frame := .express q true b }
  | _ => x

/-- EXPRESS_INGRESS_END: a bad FCS or checksum stomps the copies when one has begun, else no copy is made. -/
def State.endExpress (s : State) (port : Nat) (ok : Bool) : State :=
  let c := SMap.get ExpressCopy.init s.shroud.express port
  if !c.taken then s
  else
    let s' := s.setExpress port ExpressCopy.init
    if ok then s'
    else if c.ports.any (fun p => s.expressBegun port p) then
      let s' := c.ports.foldl (fun (s : State) p =>
        let q := s.port p
        if waitsExpress port q.express then
          s.setPort p { q with express := replaceLast port (fun x => [x.stomp]) q.express }
        else if s.expressBegun port p then s.setPort p { q with sending := q.sending.map Egress.stomp }
        else s) s'
      s'.count P.ExpressStompCount 0
    else
      let s' := c.ports.foldl (fun (s : State) p =>
        let q := s.port p
        s.setPort p { q with express := replaceLast port (fun _ => []) q.express }) s'
      s'.count P.ExpressRejectCount 0

def execExpressIngressEnd (port : Fin 4) (ok : Bool) (s : State) : Host.Outcome State Fault Refusal :=
  done (s.endExpress port ok)

/-! ### Statistics snapshot (R292 to R294) -/

/-- Counters of Table 13.10 for a shroud port and for a stay port. -/
def shroudSlots : List Nat :=
  [P.RxFrameCount_P9010, P.RxByteCount_P9011, P.TxFrameCount_P9012, P.TxByteCount_P9013, P.RxRuntCount_P9100, P.RxOversizeCount_P9101,
   P.RxFcsErrorCount_P9104, P.RxOverflowCount_P9102, P.RxUnclassifiedCount_P9103, P.LinkDownCount_P9105, P.LateFrameCount, P.UnderrunCount,
   P.StampIngressOverflowCount, P.StampEgressDropCount, P.ExpressDropCount, P.TxShowByteCount]
def staySlots : List Nat :=
  [P.RxFrameCount_P3020, P.RxByteCount_P3021, P.TxFrameCount_P3022, P.TxByteCount_P3023, P.RxRuntCount_P3024,
   P.RxOversizeCount_P3025, P.RxFcsErrorCount_P3026, P.RxOverflowCount_P3027, P.RxUnclassifiedCount_P3028,
   P.LinkDownCount_P302C, P.FecCorrectedCount, P.FecUncorrectedCount, P.StampIngressOverflowCount,
   P.StampEgressDropCount, P.TxFaultCount]

/-- One slot of 8 bytes: a saturated 32-bit counter carries its flag in bit 63. -/
def State.slotBytes (s : State) (p e : Nat) : List Byte :=
  let v := (s.untallied p e).toNat
  let wide := match Dict.row p with
    | some r => r.ty == .u64
    | none => false
  leBytes 8 (if !wide && v == 0xFFFFFFFF then v + 2 ^ 63 else v)

/-- The records of all 68 ports. -/
def State.snapshotRecords (s : State) : List Byte :=
  ((List.range 64).flatMap fun p => shroudSlots.flatMap (fun c => s.slotBytes c p)) ++
  ((List.range 4).flatMap fun p =>
    staySlots.flatMap (fun c => s.slotBytes c (if c / 4096 = 2 then 0x40 + p else p)) ++ List.replicate 8 0)

/-- Capture the counters now, without the increments and clears of this clock (R292). -/
def State.capture (s : State) : State :=
  let head := leBytes 4 s.tns.toNat ++ leBytes 4 s.seconds.toNat
  { s with shroud := { s.shroud with captured := some (head ++ s.snapshotRecords) } }

/-- A scheduled snapshot that is pending captures when SnapshotAt is due, an instant that R10 takes for past among them. -/
def State.captureDue (s : State) : State :=
  if s.bit P.SnapshotControl 0 2 && s.shroud.captured.isNone && due ((s.rd P.SnapshotAt 0).setWidth 32) s.tns then s.capture
  else s

/-- A write of P9400 SnapshotControl. -/
def State.writeSnapshot (s : State) (v : Wide) : State × Byte :=
  let s := s.setBit P.SnapshotControl 0 1 (v.getLsbD 1)
  if v.getLsbD 0 then
    let s := { s.setBit P.SnapshotControl 0 2 true with shroud := { s.shroud with captured := none } }
    if v.getLsbD 1 then (s.captureDue, 0) else (s.capture, 0)
  else (s, 0)

/-- SNAPSHOT_DUE: SnapshotAt is due while a scheduled snapshot is pending. -/
def execSnapshotDue (s : State) : Host.Outcome State Fault Refusal := done s.captureDue

/-- SNAPSHOT_CAPTURE_DONE: SnapshotData, then SnapshotSequence; Pending clears. -/
def execSnapshotCaptureDone (s : State) : Host.Outcome State Fault Refusal :=
  match s.shroud.captured with
  | none => done s
  | some b =>
    let n := (s.rdN P.SnapshotSequence 0 + 1) % 2 ^ 32
    let s := { s with shroud := { s.shroud with captured := none } }
    let s := s.setBlob P.SnapshotData (b.take 8 ++ leBytes 4 n ++ List.replicate 4 0 ++ b.drop 8)
    done ((s.wr P.SnapshotSequence 0 (BitVec.ofNat 64 n)).setBit P.SnapshotControl 0 2 false)

/-! ### Cable test (R296, R297) -/

/-- Result codes of Table 13.15. -/
abbrev Cable.skipped : Nat := 5
abbrev Cable.aborted : Nat := 6

def State.setCable (s : State) (l : List Nat) : State := { s with shroud := { s.shroud with cable := l } }
def State.setCableResult (s : State) (p status distance : Nat) : State :=
  s.wr P.CableResult p (BitVec.ofNat 64 (status % 16 * 2 ^ 28 + distance % 65536))

/-- The test ends. -/
def State.endCable (s : State) : State :=
  let s := { s with shroud := { s.shroud with cable := [], cableAbort := false } }
  let s := (s.setBit P.CableTestControl 0 1 false).setBit P.CableTestControl 0 2 false
  (s.setFld P.CableTestControl 0 8 6 0).release Res.adc

/-- Begin the next port that is to be tested: one with its link up is skipped unless Force is set. -/
def State.nextCable (s : State) : List Nat → State
  | [] => s.endCable
  | p :: ps =>
    if s.shroudUp p && !(s.bit P.CableTestControl 0 3) then State.nextCable (s.setCableResult p Cable.skipped 0) ps
    else ((s.shroudDown p).setBit P.LinkStatus p 7 true).setFld P.CableTestControl 0 8 6 p |>.setCable (p :: ps)

/-- Ports that were not tested report Aborted, and the test ends. -/
def State.abortCable (s : State) (l : List Nat) : State :=
  let s := l.foldl (fun s p => (s.setBit P.LinkStatus p 7 false).setCableResult p Cable.aborted 0) s
  s.endCable

/-- A write of P9500 CableTestControl. -/
def State.writeCableTest (s : State) (v : Wide) : State × Byte :=
  let running := s.bit P.CableTestControl 0 1
  if v.getLsbD 0 && s.taken Res.adc then (s.refuseStart, 1)
  else
    let s := s.setBit P.CableTestControl 0 3 (v.getLsbD 3)
    let s := if v.getLsbD 2 && running then
        { s.setBit P.CableTestControl 0 2 true with shroud := { s.shroud with cableAbort := true } }
      else s
    if v.getLsbD 0 then
      let s := (s.hold Res.adc Hold.cable).setBit P.CableTestControl 0 1 true
      (s.nextCable ((List.range 64).filter (fun p => s.bit P.CableTestPorts 0 p)), 0)
    else (s, 0)

/-- CABLE_PORT_TEST_DONE: the port's result; the next port, or the end. -/
def State.cablePortDone (s : State) (status distance : Nat) : State :=
  match s.shroud.cable with
  | [] => s
  | p :: ps =>
    let s := (s.setBit P.LinkStatus p 7 false).setCableResult p status (if status = 0 then 0 else distance)
    if s.shroud.cableAbort then s.abortCable ps else s.nextCable ps

def execCablePortTestDone (status : Fin 16) (distance : Half) (s : State) : Host.Outcome State Fault Refusal :=
  done (s.cablePortDone status distance.toNat)

end Sys2Proof.Machine
end

