-- ==== Sys2Proof/Machine/Ptp.lean ====
section
/-! DEFINITION. PTP on the shroud ports (R133, R135): Sync, Follow_Up and Announce from the active unit, and the
peer-delay exchange with its link delay. -/
namespace Sys2Proof.Machine

/-- Lengths on the wire of PTP messages over IPv6 on a shroud port. -/
abbrev Ptp.syncLen : Nat := 110
abbrev Ptp.pdelayLen : Nat := 120
abbrev Ptp.announceLen : Nat := 130

/-- Halyard port number of a message this unit sends on a shroud port. -/
def Ptp.portId (p : Nat) : Half := BitVec.ofNat 16 (p + 1)

def State.domain (s : State) : Byte := (s.rd P.DomainNumber 0).setWidth 8

/-- What a PTP message of a shroud port is sent with (Table 6.5). -/
def eventHead (p : Nat) : NetHead := shroudHead p shroudPtpGroup 319
def generalHead (p : Nat) : NetHead := shroudHead p shroudPtpGroup 320
def peerHead (p : Nat) (port : Half) : NetHead := shroudHead p shroudPeerGroup port

/-- The dataset of an Announce: the unit's own in Local, else that received, also in Holdover, one step further (R135). -/
def State.shroudDataset (s : State) : Dataset :=
  match s.halyard.grandmaster with
  | some d => if s.timeState == Ts.local then s.ownDataset else { d with steps := d.steps + 1 }
  | none => s.ownDataset

/-- The Announce of a shroud port is sent with a Sync, once in each second (R135). -/
def State.sendAnnounce (s : State) (p : Nat) : State :=
  let q := s.shroudPtp p
  let interval := 128 / 2 ^ (s.rdI 16 P.LogSyncShroud 0).natAbs
  if q.announceWait > 0 then s.setShroudPtp p { q with announceWait := q.announceWait - interval }
  else
    let s := s.setShroudPtp p { q with announceSeq := q.announceSeq + 1, announceWait := 128 - interval }
    (s.sendTime p { frame := .announce s.domain q.announceSeq s.shroudDataset, len := Ptp.announceLen, net := some (generalHead p) }).1

/-- PTP_SYNC_INTERVAL: `stamp` and `frac` are the egress stamp of the Sync. A Sync that is not sent has no stamp. -/
def State.sendShroudSync (s : State) (p : Nat) (stamp : T32) (frac : Byte) : State :=
  if !(s.portsRun && s.commands && s.shroudEnabled p) || s.timeState == Ts.unset || s.stepDone then s
  else
    let q := s.shroudPtp p
    let s := s.setShroudPtp p { q with syncSeq := q.syncSeq + 1 }
    let (s, sent) := s.sendTime p { frame := .sync s.domain q.syncSeq, len := Ptp.syncLen, net := some (eventHead p) }
    let s :=
      if sent then
        let x : Stamp := { head := ⟨0, s.domain, q.syncSeq, Ptp.portId p⟩, stamp := stamp, frac := stampFrac frac, flagged := false }
        let (s, valid) := s.pushEgress p x
        if valid then
          let e := s.fullOf stamp
          let s := s.setEgressQ p (takeStamp 0 q.syncSeq (s.egressQ p))
          (s.sendTime p { frame := .followUp s.domain q.syncSeq (ptpSeconds e) (ptpNanos e) ((stampFrac frac).toNat * 256),
                          len := Ptp.syncLen, net := some (generalHead p) }).1
        else s
      else s
    s.sendAnnounce p

def execPtpSyncInterval (port : Fin 64) (stamp : T32) (frac : Byte) (s : State) : Host.Outcome State Fault Refusal :=
  done (s.sendShroudSync port stamp frac)

/-- PDELAY_INTERVAL: a Pdelay_Req leaves; one still unanswered is given up. -/
def State.sendPdelay (s : State) (p : Nat) (stamp : T32) (frac : Byte) : State :=
  if !(s.portsRun && s.shroudEnabled p) then s
  else
    let q := s.shroudPtp p
    let s := match q.pdelayReq with
      | some (old, _) => s.setEgressQ p (takeStamp 2 old (s.egressQ p))
      | none => s
    let seq := q.pdelaySeq
    let s := s.setShroudPtp p { q with pdelaySeq := seq + 1, pdelayReq := none }
    let (s, sent) := s.sendTime p { frame := .pdelayReq s.domain seq, len := Ptp.pdelayLen, net := some (peerHead p 319) }
    if sent then
      let x : Stamp := { head := ⟨2, s.domain, seq, Ptp.portId p⟩, stamp := stamp, frac := stampFrac frac, flagged := false }
      let (s, valid) := s.pushEgress p x
      if valid && s.shroudUp p then
        s.setShroudPtp p { s.shroudPtp p with pdelayReq := some (seq, s.stampFull stamp (stampFrac frac)) }
      else s
    else s

def execPdelayInterval (port : Fin 64) (stamp : T32) (frac : Byte) (s : State) : Host.Outcome State Fault Refusal :=
  done (s.sendPdelay port stamp frac)

/-- PDELAY_REQ_RECEIVED: answered two-step when its ingress stamp is valid; `sent` is the egress stamp of the answer. -/
def State.takePdelayReq (s : State) (p : Nat) (head : PtpHead) (stamp : T32) (frac : Byte) (sentAt : T32) (sentFrac : Byte) :
    State :=
  if !(s.portsRun && s.shroudUp p) then s
  else
    let (s, valid) := s.stampUnused p head stamp frac
    if !valid || head.domain != s.domain then s
    else
      let (s, sent) := s.sendTime p { frame := .pdelayResp s.domain head.seq stamp (stampFrac frac), len := Ptp.pdelayLen, net := some (peerHead p 319) }
      if sent then
        let x : Stamp := { head := ⟨3, s.domain, head.seq, Ptp.portId p⟩, stamp := sentAt, frac := stampFrac sentFrac, flagged := false }
        let (s, valid) := s.pushEgress p x
        if valid then
          let s := s.setEgressQ p (takeStamp 3 head.seq (s.egressQ p))
          (s.sendTime p { frame := .pdelayRespFollowUp s.domain head.seq sentAt (stampFrac sentFrac), len := Ptp.pdelayLen,
                          net := some (peerHead p 320) }).1
        else s
      else s

def execPdelayReqReceived (port : Fin 64) (head : PtpHead) (stamp : T32) (frac : Byte) (sent : T32) (sentFrac : Byte) (s : State) :
    Host.Outcome State Fault Refusal :=
  done (s.takePdelayReq port head stamp frac sent sentFrac)

/-- Distance of two times in 2^-16 ns. -/
def apart (x y : Int) : Nat := (x - y).natAbs

/-- Show a measured link delay in P2060, in whole ns; a negative one has no stated reading. -/
def State.setLinkDelay (s : State) (p : Nat) (d : Dyad) : State :=
  let s := s.setShroudPtp p { s.shroudPtp p with refused := [] }
  if d.num < 0 then
    let (v, s) := s.free
    s.wr P.LinkDelay p (v &&& 0xFFFFFFFF)
  else s.wr P.LinkDelay p (ofIntW 32 (d.shown (Dict.key P.LinkDelay p)))

/-- One measurement of a link delay in 2^-17 ns (R135). -/
def State.linkSample (s : State) (p : Nat) (d : Int) : State :=
  let held := s.rdN P.LinkDelay p
  if held = 0xFFFFFFFF ∨ apart d ((held : Int) * 131072) < 100 * 131072 then s.setLinkDelay p ⟨d, 17⟩
  else
    let q := s.shroudPtp p
    let l := d :: q.refused
    if l.length = 3 ∧ l.all (fun x => l.all (fun y => decide (apart x y ≤ 10 * 131072))) then s.setLinkDelay p ⟨d, 17⟩
    else s.setShroudPtp p { q with refused := (d :: q.refused).take 2 }

/-- PDELAY_RESP_RECEIVED: the exchange is complete. -/
def State.takePdelayResp (s : State) (p : Nat) (m : PdelayRespMsg) : State :=
  if !(s.portsRun && s.shroudUp p) then s
  else
    let (s, valid) := s.stampUnused p ⟨3, m.domain, m.seq, m.source.setWidth 16⟩ m.stamp m.frac
    match (s.shroudPtp p).pdelayReq with
    | some (seq, t1) =>
      if seq = m.seq ∧ m.domain = s.domain then
        let s := s.setEgressQ p (takeStamp 2 seq (s.egressQ p))
        let s := s.setShroudPtp p { s.shroudPtp p with pdelayReq := none }
        if valid then s.linkSample p (s.stampFull m.stamp (stampFrac m.frac) - t1 - m.turnaround) else s
      else s
    | none => s

def execPdelayRespReceived (port : Fin 64) (msg : PdelayRespMsg) (s : State) : Host.Outcome State Fault Refusal :=
  done (s.takePdelayResp port msg)

end Sys2Proof.Machine
end

