-- ==== Sys2Proof/Machine/Masthead.lean ====
section
/-! DEFINITION. Masthead (chapter 14): PWM cycles, what they show, the on-times of the sinks, the colour loop, thermal
derating, the lamp-board faults and the pattern engines. -/
namespace Sys2Proof.Machine

def State.setMast (s : State) (m : Masthead) : State := { s with masthead := m }

/-- Masthead drives: Run or Luff, and an entry up to abort point 1 (Table 4.3). -/
def State.lampRuns (s : State) : Bool :=
  s.serving && (match s.power.sleep with
    | .run | .luff => true
    | .entering _ ap => decide (ap = 0)
    | _ => false)

/-! ### Settings in force (R309) -/

/-- The settings that change at a cycle start: PA000, PA002 to PA009, and those of the colour loop and of derating that act
between cycle starts. The others of Table 14.6 act at cycle starts alone. -/
def cycleSetting (key : Nat) : Bool :=
  let p := key / 256
  (decide (P.GlobalCurrent ≤ p) && decide (p ≤ P.PrechargeLevel)) ||
    [P.MastheadControl, P.LoopGain, P.LoopMin, P.PdReference, P.DerateStart, P.DerateEnd, P.DerateMin, P.ShutdownTemp].contains p

/-- A setting in force. -/
def State.mset (s : State) (p e : Nat) : Wide := SMap.get (Dict.dflt (Dict.key p e)) s.masthead.inForce (Dict.key p e)

/-- A 16-bit signed setting in force. -/
def State.msetS16 (s : State) (p : Nat) : Int := ((s.mset p 0).setWidth 16).toInt

/-- PA000 in force: Enable, static mode, Source, PwmLock, LoopEnable, DerateEnable. -/
def State.lampOn (s : State) : Bool := (s.mset P.MastheadControl 0).getLsbD 0
def State.lampStatic (s : State) : Bool := (s.mset P.MastheadControl 0).getLsbD 1
def State.lampRaster (s : State) : Bool := field (s.mset P.MastheadControl 0) 2 2 == 1
def State.lampLock (s : State) : Bool := (s.mset P.MastheadControl 0).getLsbD 5
def State.loopOn (s : State) : Bool := (s.mset P.MastheadControl 0).getLsbD 6
def State.derateOn (s : State) : Bool := (s.mset P.MastheadControl 0).getLsbD 7

/-! ### Cycles (R305 to R307) -/

/-- The first start after full time `e` of the series `floor(j × a ÷ d) + off` (R305). -/
def nextLocked (a d : Nat) (off : Int) (e : Nat) : Int :=
  let x : Int := (e : Int) - off
  let j := -((-(x + 1) * (d : Int)) / (a : Int))
  (j * (a : Int)) / (d : Int) + off

/-- The cycle is locked to the camera-safe series. -/
def State.pwmLocked (s : State) : Bool := s.lampLock && s.lvN P.CameraRate 0 != 0xFF

/-- The first cycle start after full time `e`. -/
def State.nextCycle (s : State) (e : Nat) : Int :=
  if s.pwmLocked then
    nextLocked (rateA (s.lvN P.CameraRate 0)) (rateN (s.lvN P.CameraRate 0) * s.lvN P.PwmMultiple 0)
      (lvS32 s P.PwmPhaseOffset 0) e
  else
    let p : Int := ((s.mset P.PwmPeriod 0).toNat : Int)
    let off : Int := ((s.mset P.PwmOffset 0).setWidth 32).toInt
    (e : Int) + p - ((e : Int) - off) % p

/-- Row slot and active interval of a scan cycle of `l` ns (R307). -/
def State.slotTime (s : State) (l : Nat) : Nat := (l - (s.mset P.VBlankTime 0).toNat) / 16
def State.activeTime (s : State) (l : Nat) : Int :=
  (s.slotTime l : Int) - ((s.mset P.PrechargeTime 0).toNat : Int) - 80

/-- Active ticks N of a cycle of `l` ns (R306, R307). -/
def State.activeTicks (s : State) (l : Nat) : Nat :=
  if s.lampStatic then (l - 160) / 2 else (s.activeTime l).toNat / 2

/-! ### Values shown (R303, R304, R308) -/

/-- The sinks that element offset `o` drives in the mode in force, with the emitter of each: keys `48 * row + sink`. -/
def lampKeys (static : Bool) (o emitters : Nat) : List (Option Nat) :=
  (List.range emitters).map fun j =>
    if static then (if o + j < 48 then some (o + j) else none)
    else if o < 256 ∧ j < 3 then some (48 * (o / 16) + 3 * (o % 16) + j) else none

/-- Values by sink of a list of elements in element order, the lower-numbered first, and how many are not displayed. -/
def lampMap (static : Bool) : List (Nat × List Nat) → SMap Nat → Nat → SMap Nat × Nat
  | [], m, n => (m, n)
  | (o, vs) :: rest, m, n =>
    let (m, n) := ((lampKeys static o vs.length).zip vs).foldl (fun (acc : SMap Nat × Nat) (x : Option Nat × Nat) =>
      match x.1 with
      | none => (acc.1, acc.2 + 1)
      | some k => match SMap.find acc.1 k with
        | some _ => (acc.1, acc.2 + 1)
        | none => (SMap.insert acc.1 k x.2, acc.2)) (m, n)
    lampMap static rest m n

/-- The value of one sink in a raster frame. -/
def State.rasterValue (s : State) (f key : Nat) : Nat :=
  let off :=
    if s.lampStatic then 2 * key
    else 6 * (16 * (key / 48) + key % 48 / 3) + 2 * (key % 3)
  leNat (sliceBytes (s.blob P.RasterFrames) (1536 * f + off) 2)

/-- Keys of the mode in force. -/
def State.lampAll (s : State) : List Nat := List.range (if s.lampStatic then 48 else 768)

/-- The source's value of every sink; none while nothing has applied. -/
def State.sourceValues (s : State) : SMap Nat :=
  if s.lampRaster then
    match s.masthead.raster with
    | none => []
    | some f => s.lampAll.foldl (fun m k => SMap.set 0 m k (s.rasterValue f k)) []
  else
    match s.masthead.elements with
    | none => []
    | some es => (lampMap s.lampStatic es [] 0).1

/-! ### Pattern engines (R318 to R321) -/

def State.engine (s : State) (e : Nat) : Engine := SMap.get Engine.init s.masthead.engines e
def State.setEngine (s : State) (e : Nat) (x : Engine) : State :=
  s.setMast { s.masthead with engines := SMap.set Engine.init s.masthead.engines e x }

/-- First and last channel of an engine. -/
def State.engineFirst (s : State) (e : Nat) : Nat := s.fld P.EngineRange e 0 8
def State.engineLast (s : State) (e : Nat) : Nat := s.fld P.EngineRange e 8 8
def State.engineChannels (s : State) (e : Nat) : List Nat :=
  (List.range 256).filter (fun c => decide (s.engineFirst e ≤ c) && decide (c ≤ s.engineLast e))

/-- Start an engine from its entry point (R321). -/
def State.startEngine (s : State) (e : Nat) : State :=
  if s.bit P.EngineControl e 0 then
    s.setEngine e { Engine.init with running := true, pc := s.fld P.EngineControl e 8 8 }
  else s

/-- Return an engine's channels to their source from the next cycle start. -/
def State.stopEngine (s : State) (e : Nat) : State := s.setEngine e Engine.init

/-- Engines with a StartOn code. -/
def State.enginesOn (s : State) (code : Nat) : List Nat :=
  (List.range 8).filter (fun e => s.fld P.EngineControl e 2 2 == code)

/-- Instruction `i` of the program; an index beyond 255 or the program acts as End. -/
def State.instruction (s : State) (i : Nat) : Nat :=
  if i ≤ 255 ∧ 4 * i + 4 ≤ (s.blob P.PatternProgram).length then leNat (sliceBytes (s.blob P.PatternProgram) (4 * i) 4) else 0

/-- Level of a channel. -/
def Engine.level (x : Engine) (c : Nat) : Nat := SMap.get 0 x.levels c

/-- Every channel of a list to one level. -/
def Engine.setAll (x : Engine) (cs : List Nat) (v : Nat) : Engine :=
  { x with levels := cs.foldl (fun m c => SMap.set 0 m c v) x.levels }

/-- Rotate the levels of the channels `first` to `last` by one. -/
def Engine.shift (x : Engine) (cs : List Nat) (first last : Nat) (toFirst : Bool) : Engine :=
  { x with levels := cs.foldl (fun m c =>
      let from' := if toFirst then (if c = last then first else c + 1) else (if c = first then last else c - 1)
      SMap.set 0 m c (x.level from')) x.levels }

/-- Levels of a ramp `elapsed` ns after its start. -/
def Engine.rampAt (x : Engine) (r : LevelRamp) (cs : List Nat) (elapsed : Nat) : Engine :=
  { x with levels := cs.foldl (fun m c =>
      let l0 : Int := (SMap.get 0 r.base c : Nat)
      SMap.set 0 m c (l0 + Int.tdiv (((r.target : Int) - l0) * (elapsed : Int)) (r.duration : Int)).toNat) x.levels }

/-- Execute instructions at the cycle start at full time `now` (R320); true when an undefined opcode is met. -/
def State.runEngine (s : State) (e now : Nat) : Nat → Engine → Engine × Bool
  | 0, x => (x, false)
  | fuel + 1, x =>
    let w := s.instruction x.pc
    let a := w / 2 ^ 16 % 2 ^ 12
    let b := w % 2 ^ 16
    let cs := s.engineChannels e
    let next : Engine := { x with pc := x.pc + 1 }
    match w / 2 ^ 28 with
    | 0 => ({ x with running := false, ended := true }, false)
    | 1 => State.runEngine s e now fuel (next.setAll cs b)
    | 2 =>
      let c := s.engineFirst e + a
      State.runEngine s e now fuel (if c ≤ s.engineLast e then { next with levels := SMap.set 0 x.levels c b } else next)
    | 3 =>
      if a = 0 then ({ next.setAll cs b with wait := some now }, false)
      else ({ next with wait := some (now + a * 10000000),
                        ramp := some { base := x.levels, target := b, start := now, duration := a * 10000000 } }, false)
    | 4 => ({ next with wait := some (now + max 1 b * 1000000) }, false)
    | 5 => State.runEngine s e now fuel (next.shift cs (s.engineFirst e) (s.engineLast e) (a % 2 == 1))
    | 6 =>
      if a = 0 then State.runEngine s e now fuel { x with pc := b }
      else
        let n := (if x.loop = 0 then a else x.loop) - 1
        State.runEngine s e now fuel (if n = 0 then { next with loop := 0 } else { x with loop := n, pc := b })
    | 7 => State.runEngine s e now fuel { x with pc := b }
    | 8 =>
      let period := max 1 b * 1000000
      ({ next with wait := some ((now / period + 1) * period) }, false)
    | _ => ({ x with running := false, fault := true }, true)

/-- One engine at a cycle start. -/
def State.engineCycle (s : State) (now e : Nat) : State :=
  let x := s.engine e
  if !x.running then s
  else
    let cs := s.engineChannels e
    let waits := match x.wait with
      | some t => decide (now < t)
      | none => false
    if waits then
      match x.ramp with
      | some r => s.setEngine e (x.rampAt r cs (now - r.start))
      | none => s
    else
      let x := match x.ramp with
        | some r => x.setAll cs r.target
        | none => x
      let (y, bad) := s.runEngine e now 8 { x with wait := none, ramp := none }
      let s := s.setEngine e y
      if bad then s.log 0x1A 0x0033 0 (BitVec.ofNat 32 e) (BitVec.ofNat 32 y.pc) else s

/-- The engine that owns a channel: the lowest-numbered whose channels it is among. -/
def State.channelOwner (s : State) (c : Nat) : Option Nat :=
  (List.range 8).find? (fun e => let x := s.engine e
    (x.running || x.ended) && decide (s.engineFirst e ≤ c) && decide (c ≤ s.engineLast e))

/-- The value a sink shows: its engine's, or its source's. -/
def State.shownValue (s : State) (src : SMap Nat) (key : Nat) : Nat :=
  let c := if s.lampStatic then key else 16 * (key / 48) + key % 48 / 3
  match s.channelOwner c with
  | none => SMap.get 0 src key
  | some e =>
    let l := (s.engine e).level c
    if s.lampStatic then l else l * s.fld P.EngineColour e (32 - 16 * (key % 3)) 16 / 65535

/-! ### A cycle start (R304, R309) -/

/-- Colour class of a sink (R311). -/
def State.sinkClass (s : State) (key : Nat) : Nat :=
  if s.lampStatic then (s.mset P.SinkColour key).toNat % 4 else key % 3

/-- On-time of a value in ticks (R304). -/
def onTicks (v g f n : Nat) : Nat := (v * g / 32768 * f / 32768 * n + 32767) / 65535

/-- Sinks and rows that may not conduct in this cycle. -/
def State.keyOff (s : State) (key : Nat) : Bool :=
  !s.lampStatic && (s.bit P.SwitchLatched 0 (key / 48) || s.bit P.MastheadStatus 0 3 || s.bit P.MastheadStatus 0 9)

/-- On-times of the cycle that starts. -/
def State.formOnTimes (s : State) (n : Nat) : SMap Nat :=
  if !s.lampOn || s.bit P.MastheadStatus 0 5 then []
  else
    let src := s.sourceValues
    s.lampAll.foldl (fun m k =>
      if s.keyOff k then m
      else
        let g := if s.loopOn then SMap.get 29491 s.masthead.gain (s.sinkClass k) else 32768
        SMap.set 0 m k (onTicks (s.shownValue src k) g s.masthead.factor n)) []

/-- LedOpenMask after a cycle: sinks with an on-time of at least 2 µs show whether they reached their current (R317). -/
def State.updateOpen (s : State) (failed : BitVec 48) : State :=
  let long := (List.range 48).filter (fun i => s.masthead.onTime.any (fun kv => kv.1 % 48 == i && decide (1000 ≤ kv.2)))
  long.foldl (fun s i => s.setBit P.LedOpenMask 0 i (failed.getLsbD i)) s

/-- Rows that did not fault in the cycle that ends start their count again (R317). -/
def State.ageRows (s : State) : State :=
  let m := s.masthead
  s.setMast { m with rowFaults := m.rowFaults.filter (fun kv => m.rowsOff.contains kv.1), rowsOff := [] }

/-- The newest waiting frame whose time has come applies (R308). -/
def State.applyLamp (s : State) (e : T32) : State :=
  let m := s.masthead
  let ready := m.waiting.filter (fun f => due f.time e)
  match ready.getLast? with
  | none => s
  | some f =>
    let (_, n) := lampMap s.lampStatic f.values [] 0
    let s := s.setMast { m with waiting := m.waiting.filter (fun f => !due f.time e), elements := some f.values, showLost := false }
    let s := if m.showLost then (s.enginesOn 2).foldl State.stopEngine s else s
    s.wr P.IgnoredLast 0 (BitVec.ofNat 64 n)

/-- A pending raster commit applies. -/
def State.applyRaster (s : State) : State :=
  if s.bit P.RasterStatus 0 12 then
    let f := s.fld P.RasterStatus 0 8 4
    let s := s.setMast { s.masthead with raster := some f }
    s.wr P.RasterStatus 0 (BitVec.ofNat 64 (f * 16))
  else s

/-! ### Thermal limits (R314 to R316) -/

/-- A thermal event: pending, and one log entry (R316). -/
def State.thermalEvent (s : State) (kind : Nat) : State :=
  let t := (s.rd P.NtcTemperature 0).setWidth 32
  (s.log 0x1A 0x0030 kind t 0).event Ev.thermal P.NtcTemperature 0 (BitVec.ofNat 32 kind)

/-- Set or clear a status bit, an event on its setting. -/
def State.thermalBit (s : State) (i kind : Nat) (b : Bool) : State :=
  let was := s.bit P.MastheadStatus 0 i
  let s := s.setBit P.MastheadStatus 0 i b
  if b && !was then s.thermalEvent kind else s

/-- NtcOpen, NtcShort and NtcStale, reported only while Enable is in force (R314). -/
def State.reportNtc (s : State) : State :=
  let l := s.masthead.ntc
  let sum := l.foldl (· + ·) 0
  let on := s.lampOn
  let s := s.thermalBit 6 4 (on && !l.isEmpty && decide (4064 * l.length ≤ sum))
  let s := s.thermalBit 7 5 (on && !l.isEmpty && decide (sum ≤ 32 * l.length))
  s.thermalBit 8 6 (on && s.masthead.stale)

/-- Show a derating factor; Derating is its being below 32,768. -/
def State.setDerate (s : State) (f : Wide) : State := (s.wr P.DerateFactor 0 f).thermalBit 4 1 (decide (f.toNat < 32768))

/-- Shutdown begins and ends by the temperature and the limit in force; DerateFactor resumes from DerateMin (R316). -/
def State.checkShutdown (s : State) : State :=
  let t := s.rdI P.NtcTemperature 0 16
  let limit := s.msetS16 P.ShutdownTemp
  if t ≥ limit then s.thermalBit 5 2 true
  else if t ≤ limit - 80 ∧ s.bit P.MastheadStatus 0 5 then
    let s := (s.setBit P.MastheadStatus 0 5 false).setMast { s.masthead with resuming := true }
    (s.thermalEvent 3).setDerate (s.mset P.DerateMin 0)
  else s

/-- With DerateEnable clear in force the factor is 32,768, except while it resumes after a shutdown (R315). -/
def State.freeDerate (s : State) : State :=
  if s.derateOn || s.masthead.resuming || s.rdN P.DerateFactor 0 == 32768 then s else s.setDerate 32768

/-- What a cycle start puts in force (R309, R312, R315): settings, the table, the loop correction and the derating factor; the
thermal limits follow them. A burst that waits starts, but not during a Trim run (R313). -/
def State.takeSettings (s : State) : State :=
  let s := s.setMast { s.masthead with inForce := s.regs.filter (fun kv => cycleSetting kv.1), table := some (s.blob P.NtcTable) }
  let s := s.reportNtc.checkShutdown.freeDerate
  let m := s.masthead
  let start := m.burstWaits && s.trim.isNone
  s.setMast { m with
    factor := s.rdN P.DerateFactor 0, burst := start, burstWaits := m.burstWaits && !start,
    gain := (List.range 4).foldl (fun g c => SMap.set 29491 g c (s.rdN P.LoopCorrection c)) [] }

/-! ### The cycle start itself -/

/-- A cycle starts at the present time. `failed`: sinks that did not reach their current in the cycle that ends. -/
def State.startPwm (s : State) (failed : BitVec 48) : State :=
  if !s.lampRuns then s
  else
    let now := s.fullTime
    let s := match s.masthead.cycle with
      | some c =>
        let s := (s.updateOpen failed).ageRows
        (s.wr P.CycleLength 0 (BitVec.ofNat 64 ((now - c) % 2 ^ 32))).wr P.ActiveTicks 0 (BitVec.ofNat 64 s.masthead.ticks)
      | none => s.ageRows
    let s := s.takeSettings
    let s := s.setMast { s.masthead with cycle := some now }
    let s := (s.applyLamp s.tns).applyRaster
    let s := if s.masthead.showLost && s.lampRaster then
        (s.enginesOn 2).foldl State.stopEngine (s.setMast { s.masthead with showLost := false })
      else s
    let l := (s.nextCycle now - (now : Int)).toNat
    let s := s.setBit P.MastheadStatus 0 1 (s.lampLock && s.lvN P.CameraRate 0 == 0xFF)
    let s := if s.lampStatic then s else s.setBit P.MastheadStatus 0 9 (decide (s.activeTime l < 1000))
    let n := s.activeTicks l
    let s := (List.range 8).foldl (fun s e => s.engineCycle now e) s
    let on := s.formOnTimes n
    let s := s.setMast { s.masthead with length := l, ticks := n, onTime := on }
    s.setBit P.MastheadStatus 0 0 (!on.isEmpty)

/-- PWM_CYCLE_START (R305, R309). -/
def execPwmCycleStart (failed : BitVec 48) (s : State) : Host.Outcome State Fault Refusal := done (s.startPwm failed)

/-- A write of PA011 RasterCommit (R309). -/
def State.commitRaster (s : State) (f : Nat) : State :=
  let s := if s.bit P.RasterStatus 0 12 then s.count P.RasterReplaceCount 0 else s
  (s.setBit P.RasterStatus 0 12 true).setFld P.RasterStatus 0 8 4 f

/-! ### The colour loop (R311, R312) -/

/-- A sink is off its ball: a Trim run measures it, for 80 µs of each sweep (R329, R330). -/
def State.offBall (s : State) (sink now : Nat) : Bool := match s.trim with
  | none => false
  | some r =>
    let t := r.sweepStart + 80000 * sink
    r.sinks && decide (t ≤ now) && decide (now < t + 80000)

/-- A sink conducts `t` ns after the cycle start. -/
def State.conducts (s : State) (t : Nat) (kv : Nat × Nat) : Bool :=
  let start :=
    if s.lampStatic then 20 * (kv.1 % 8)
    else (s.mset P.VBlankTime 0).toNat + kv.1 / 48 * s.slotTime s.masthead.length + (s.mset P.PrechargeTime 0).toNat + 40
  decide (start ≤ t) && decide (t < start + 2 * kv.2) && !(s.offBall (kv.1 % 48) (s.masthead.cycle.getD 0 + t))

/-- Modelled current of a class `t` ns after the cycle start, in units of 1/1280 mA (R301). -/
def State.classCurrent (s : State) (c t : Nat) : Nat :=
  s.masthead.onTime.foldl (fun n kv =>
    let i := kv.1 % 48
    if s.sinkClass kv.1 == c && s.conducts t kv then
      n + (s.mset P.GlobalCurrent 0).toNat * ((s.mset P.DotCorrection i).toNat + 1)
    else n) 0

/-- Insert into a rising list. -/
def insertNat (x : Nat) : List Nat → List Nat
  | [] => [x]
  | y :: ys => if x ≤ y then x :: y :: ys else y :: insertNat x ys
def sortNat (l : List Nat) : List Nat := l.foldl (fun acc x => insertNat x acc) []

/-- The 5th percentile: the smallest value that at least a twentieth of the samples do not exceed. -/
def percentile5 (l : List Nat) : Nat := (sortNat l).getD ((l.length + 19) / 20 - 1) 0

/-- A whole number from an exact quotient, the neighbour free where the quotient is not whole. -/
def shownQuotient (key : Nat) (num : Int) (den : Nat) : Int :=
  if num % (den : Int) = 0 then num / (den : Int) else num / (den : Int) + (Config.roundsUp key num den).toNat

/-- Hold an integer within bounds. -/
def clampInt (lo hi x : Int) : Int := if x < lo then lo else if x > hi then hi else x

/-- The loop correction of a class after a burst. -/
def loopStep (g ref resp gain loopMin : Int) : Int :=
  let e := clampInt (-65536) 65536 ((ref - resp) * 65536 / ref)
  let dg := clampInt (-128) 128 (g * e * gain / 16777216)
  clampInt loopMin 32768 (g + dg)

/-- One class of a burst. -/
def State.burstClass (s : State) (c : Nat) (samples : List Nat) : State :=
  let xs := (samples.zip (List.range samples.length)).map (fun x => (x.1, s.classCurrent c (1000 * x.2)))
  let dark := xs.filter (fun x => x.2 == 0)
  let lit := xs.filter (fun x => decide (1280 ≤ x.2))
  if dark.length < 16 ∨ lit.length < 16 then (s.setBit P.MastheadStatus 0 2 true).count P.LoopHeldCount 0
  else
    let d : Int := percentile5 (dark.map (·.1))
    let num := lit.foldl (fun (n : Int) x => n + ((x.1 : Int) - d)) 0 * 65536 * 1280
    let den := lit.foldl (fun n x => n + x.2) 0
    let resp := shownQuotient (Dict.key P.PdResponse c) num den
    let (v, s) := if resp < 0 ∨ 2 ^ 32 ≤ resp then s.free else (BitVec.ofInt 64 resp, s)
    let s := s.wr P.PdResponse c (v &&& 0xFFFFFFFF)
    let ref := (s.mset P.PdReference c).toNat
    if s.loopOn && ref != 0 then
      s.wr P.LoopCorrection c (BitVec.ofInt 64 (loopStep (s.rdN P.LoopCorrection c) ref (s.rdN P.PdResponse c)
        (s.mset P.LoopGain 0).toNat (s.mset P.LoopMin 0).toNat))
    else s

/-- LOOP_BURST_END: `samples` holds the conversions of each input, the i-th taken i µs after the cycle start. -/
def State.endBurst (s : State) (samples : List (List Nat)) : State :=
  if s.masthead.burst && s.trim.isNone then
    let s := (s.setMast { s.masthead with burst := false }).setBit P.MastheadStatus 0 2 false
    (List.range 4).foldl (fun s c => s.burstClass c (samples.getD c [])) s
  else s.setMast { s.masthead with burst := false }

def execLoopBurstEnd (samples : List (List Nat)) (s : State) : Host.Outcome State Fault Refusal := done (s.endBurst samples)

/-- A trigger with destination 05h asks for a burst; one that fires during a Trim run is ignored (R311, R313). -/
def State.askBurst (s : State) : State :=
  if s.trim.isSome then s else s.setMast { s.masthead with burstWaits := true }

/-- A write of PA025 LoopCapture (R312). -/
def State.captureLoop (s : State) (v : Nat) : State :=
  (List.range 4).foldl (fun s c => if v.testBit c then s.wr P.PdReference c (s.rd P.PdResponse c) else s) s

/-! ### Thermal derating (R314 to R316) -/

/-- Entry `i` of PA030 NtcTable in force. -/
def State.ntcEntry (s : State) (i : Nat) : Int :=
  let table := s.masthead.table.getD (blobDefault P.NtcTable)
  (BitVec.ofNat 16 (leNat (sliceBytes table (2 * i) 2))).toInt

/-- An NTC conversion: the mean of the last four codes, interpolated in the table. -/
def State.ntcConvert (s : State) (code : Nat) : State :=
  let l := (code :: s.masthead.ntc).take 4
  let s := s.setMast { s.masthead with ntc := l, stale := false }
  let n := l.length
  let sum := l.foldl (· + ·) 0
  let i := min 31 (sum / (128 * n))
  let a := s.ntcEntry i
  let num : Int := a * ((128 * n : Nat) : Int) + (s.ntcEntry (i + 1) - a) * ((sum - 128 * n * i : Nat) : Int)
  let t := shownQuotient (Dict.key P.NtcTemperature 0) num (128 * n)
  (s.wr P.NtcTemperature 0 (ofIntW 16 t)).reportNtc.checkShutdown

/-- NTC_STALE: no conversion for 1 s (R314). -/
def execNtcStale (s : State) : Host.Outcome State Fault Refusal :=
  done (s.setMast { s.masthead with stale := true }).reportNtc

/-- Target factor (R315). -/
def State.derateTarget (s : State) : Int :=
  let t := s.rdI P.NtcTemperature 0 16
  let a := s.msetS16 P.DerateStart
  let b := s.msetS16 P.DerateEnd
  let m : Int := (s.mset P.DerateMin 0).toNat
  if s.fld P.MastheadStatus 0 6 3 ≠ 0 then m
  else if t ≤ a then 32768
  else if t ≥ b then m
  else (32768 * (b - a) - (32768 - m) * (t - a)) / (b - a)

/-- DERATE_STEP: every 10 ms DerateFactor moves toward its target by at most 64. With DerateEnable clear it is 32,768, to which it
climbs in the same steps after a shutdown (R315, R316). -/
def State.derateStep (s : State) : State :=
  let f : Int := s.rdN P.DerateFactor 0
  let target := if s.derateOn then s.derateTarget else 32768
  let g := if s.derateOn || s.masthead.resuming then f + clampInt (-64) 64 (target - f) else 32768
  let s := s.setMast { s.masthead with resuming := s.masthead.resuming && g != target }
  s.setDerate (BitVec.ofInt 64 g)

def execDerateStep (s : State) : Host.Outcome State Fault Refusal := if s.lampRuns then done s.derateStep else done s

/-! ### Lamp-board faults (R317) -/

/-- SCAN_SUPPLY_FAULT: every switch off at once; in scan mode the sinks stop. -/
def execScanSupplyFault (s : State) : Host.Outcome State Fault Refusal :=
  if s.bit P.MastheadStatus 0 3 then done s
  else
    let s := (s.setBit P.MastheadStatus 0 3 true).log 0x1A 0x0031 0 0 0
    if s.lampStatic then done s
    else done ((s.setMast { s.masthead with onTime := [] }).setBit P.MastheadStatus 0 0 false)

/-- SCAN_SUPPLY_RECOVERY: VSCN good for 10 ms; scanning resumes at the next cycle start. -/
def execScanSupplyRecovery (s : State) : Host.Outcome State Fault Refusal := done (s.setBit P.MastheadStatus 0 3 false)

/-- SWITCH_OVERCURRENT: the row is off for its slot, counted, and latched off after 16 consecutive cycles. -/
def State.overcurrent (s : State) (row : Nat) : State :=
  let m := s.masthead
  if m.rowsOff.contains row || s.lampStatic || s.bit P.SwitchLatched 0 row then s
  else
    let n := SMap.get 0 m.rowFaults row + 1
    let s := (s.setMast { m with rowsOff := row :: m.rowsOff, rowFaults := SMap.set 0 m.rowFaults row n }).count P.SwitchFaultCount 0
    if n ≥ 16 then (s.raise P.SwitchLatched 0 row).log 0x1A 0x0032 0 (BitVec.ofNat 32 row) 0 else s

def execSwitchOvercurrent (row : Fin 16) (s : State) : Host.Outcome State Fault Refusal :=
  if s.lampRuns then done (s.overcurrent row) else done s

/-! ### Starts and stops of engines (R321) -/

/-- A write of PA104 EngineStart; `stopped` holds the engines that a Stop of the same clock names. -/
def State.startEngines (s : State) (v stopped : Nat) : State :=
  (List.range 8).foldl (fun s e =>
    if stopped.testBit e then s.stopEngine e
    else if v.testBit e && s.fld P.EngineControl e 2 2 == 0 then s.startEngine e else s) s

/-- A write of PA105 EngineStop. -/
def State.stopEngines (s : State) (v : Nat) : State :=
  (List.range 8).foldl (fun s e => if v.testBit e then s.stopEngine e else s) s

/-- SHOW_LOSS_TIMEOUT: no element frame has applied for ShowLossTimeout while Source is Elements. -/
def execShowLossTimeout (s : State) : Host.Outcome State Fault Refusal :=
  if s.lampRuns && !s.lampRaster && !s.masthead.showLost then
    done ((s.enginesOn 2).foldl State.startEngine (s.setMast { s.masthead with showLost := true }))
  else done s

/-- A write of PA101 EngineControl: a clear of Enable stops the engine, and one that comes to be enabled with StartOn 2 while the
show is lost runs (R321). -/
def State.writeEngine (s : State) (e : Nat) (old : Wide) : State :=
  let onLoss := fun (v : Wide) => v.getLsbD 0 && field v 2 2 == 2
  let new := s.rd P.EngineControl e
  if !new.getLsbD 0 then s.stopEngine e
  else if s.masthead.showLost && onLoss new && !onLoss old then s.startEngine e
  else s

/-- Engines with StartOn 1 start at an entry to Run (R321). -/
def State.startRunEngines (s : State) : State := (s.enginesOn 1).foldl State.startEngine s

/-- Abort point 1: sinks and switches off, engines stopped (Table 4.3, R318). After a wake nothing is shown (R308). -/
def State.darkenLamp (s : State) : State :=
  let m := s.masthead
  (s.setMast { m with elements := none, raster := none, onTime := [], cycle := none, engines := [], showLost := false, burst := false,
                      burstWaits := false }).setBit P.MastheadStatus 0 0 false

/-- One element of PA106 EngineStatus. -/
def State.engineStatus (s : State) (e : Nat) : Wide :=
  let x := s.engine e
  BitVec.ofNat 64 (x.loop % 4096 * 65536 + x.pc % 256 * 256 + x.fault.toNat * 2 + x.running.toNat)

end Sys2Proof.Machine
end

