-- ==== Sys2Proof/Machine/Trim.lean ====
section
/-! DEFINITION. Trim (chapter 15): requested and automatic runs, the codes a sweep forms, their comparison, aborts and
writes of the codes. -/
namespace Sys2Proof.Machine

/-- A quotient rounded to the nearest integer, halves away from zero (R327). -/
def roundAway (num : Int) (den : Nat) : Int :=
  if num < 0 then -((2 * (-num) + (den : Int)) / (2 * (den : Int))) else (2 * num + (den : Int)) / (2 * (den : Int))

/-- Insert into a rising list of integers. -/
def insertInt (x : Int) : List Int → List Int
  | [] => [x]
  | y :: ys => if x ≤ y then x :: y :: ys else y :: insertInt x ys
def sortInt (l : List Int) : List Int := l.foldl (fun acc x => insertInt x acc) []

/-- Twice the median: the sum of the two middle values of an even count. -/
def median2 (l : List Int) : Int :=
  let s := sortInt l
  s.getD (s.length / 2 - 1) 0 + s.getD (s.length / 2) 0

/-- New codes by `64 * quantity + index`, and whether one was held at a range limit. -/
abbrev Codes := SMap Nat × Bool

/-- Add a code, held within its range. -/
def Codes.add (c : Codes) (key : Nat) (hi v : Int) : Codes :=
  (SMap.insert c.1 key (clampInt 0 hi v).toNat, c.2 || decide (v < 0) || decide (hi < v))

/-- Codes of the sinks (R327); where the median current is 0 the spec states no code and a free value stands in. -/
def State.sinkCodes (s : State) (x : TrimSweep) (free : Wide) (c : Codes) : Codes :=
  let cur := fun i => ((x.sinks.getD i 0 : Nat) : Int)
  let m := median2 ((List.range 48).map cur) / 2
  (List.range 48).foldl (fun (c : Codes) i =>
    if m ≤ 0 then c.add i 63 ((free.toNat + i) % 64 : Nat)
    else c.add i 63 ((s.rdN P.SinkTrim i : Int) - roundAway ((cur i - m) * 2000) (3 * m).toNat)) c

/-- Codes of the photodiode offsets and gains of the run's range. -/
def State.pdCodes (s : State) (range : Nat) (x : TrimSweep) (c : Codes) : Codes :=
  (List.range 4).foldl (fun (c : Codes) j =>
    let e := 4 * range + j
    let d : Int := ((sortNat (x.dark.getD j [])).getD 12 0 : Nat)
    let r2 := median2 ((x.injected.getD j []).map Int.ofNat)
    let c := c.add (64 + e) 255 ((s.rdN P.PdOffsetTrim e : Int) - roundAway ((d - 32) * 10) 32)
    c.add (128 + e) 255 ((s.rdN P.PdGainTrim e : Int) - roundAway ((r2 - 2 * d - 4096) * 2500) 4096)) c

/-- Code of the die temperature sensor. -/
def State.sensorCode (s : State) (x : TrimSweep) (c : Codes) : Codes :=
  c.add 192 255 ((s.rdN P.SensorTrim 0 : Int) + roundAway (median2 x.ratio - median2 x.trimmed) 8)

/-- The codes a sweep forms. -/
def State.sweepCodes (s : State) (r : TrimRun) (x : TrimSweep) (free : Wide) : Codes :=
  let c : Codes := ([], false)
  let c := if r.sinks then s.sinkCodes x free c else c
  let c := if r.photodiodes then s.pdCodes r.range x c else c
  if r.sensor then s.sensorCode x c else c

/-- The parameter a quantity's codes are held in. -/
def trimParam (q : Nat) : Nat := P.SinkTrim + q

/-! ### Starting (R324 to R326) -/

/-- A run begins, holding the measurement ADC; the colour loop pauses, a burst in progress among it (R313, R329). -/
def State.startTrim (s : State) (automatic : Bool) : State :=
  let c := s.rd P.TrimControl 0
  let run : TrimRun := { sensor := c.getLsbD 6, photodiodes := c.getLsbD 5, sinks := c.getLsbD 4, automatic := automatic,
                         range := s.rdN P.PdRange 0, first := none, clamped := false, sweepStart := s.fullTime }
  let s := (s.hold Res.adc Hold.trim).setFld P.TrimStatus 0 6 2 2
  let s := (s.setBit P.TrimStatus 0 5 automatic).setBit P.TrimStatus 0 2 false
  { s with trim := some run, trouble := { s.trouble with trimDeferred := false }, masthead := { s.masthead with burst := false },
           now := { s.now with trimStarted := true } }

/-- An automatic run: started, or deferred while the ADC is held (R325, R430). One that falls in the clock of a Start forms one
run with it. -/
def State.autoTrim (s : State) : State :=
  if s.fld P.TrimControl 0 4 3 = 0 ∨ s.now.trimStarted then s
  else if s.resourceFree Res.adc then s.startTrim true
  else { s.setBit P.TrimStatus 0 2 true with trouble := { s.trouble with trimDeferred := true } }

/-- Automatic runs take place in Run and Luff; they are called for while AutoEnable is set. -/
def State.autoState (s : State) : Bool := s.serving && (s.power.sleep == .run || s.power.sleep == .luff)
def State.autoAllowed (s : State) : Bool := s.autoState && s.bit P.TrimControl 0 7

/-- The run in progress is an automatic one that started in this clock: a Start of the same clock is the same run. -/
def State.autoJustBegan (s : State) : Bool := s.now.trimStarted && (match s.trim with
  | some r => r.automatic
  | none => false)

/-- RunTemperature reads none. -/
def State.noRun (s : State) : Bool := s.rdN P.RunTemperature 0 == 0x8000

/-- A conversion of the thermal ADC: DieTemperature, and the comparison of R325. -/
def State.dieConvert (s : State) (die : Half) : State :=
  let s := s.wr P.DieTemperature 0 (die.setWidth 64)
  if s.autoAllowed && !s.noRun &&
      decide (s.rdN P.TrimThreshold 0 < (s.rdI P.DieTemperature 0 16 - s.rdI P.RunTemperature 0 16).natAbs) then
    s.autoTrim
  else s

/-- TRIM_FIRST_AUTO: 10 s after ready with RunTemperature none (R326). -/
def execTrimFirstAuto (s : State) : Host.Outcome State Fault Refusal :=
  if s.autoAllowed && s.noRun then done s.autoTrim else done s

/-! ### Ending (R328) -/

/-- The end of every run, with its Result and FlagCause. -/
def State.endTrim (s : State) (result cause : Nat) : State :=
  let s := { s with trim := none }
  let s := (s.setFld P.TrimStatus 0 6 2 0).setFld P.TrimStatus 0 8 8 (result * 16 + cause)
  let s := s.setBit P.TrimControl 0 1 false
  let s := (s.wr P.RunTemperature 0 (s.rd P.DieTemperature 0)).count P.TrimRunCount 0
  s.release Res.adc

/-- A flagged run: counted, pending and logged. -/
def State.flagTrim (s : State) (cause : Nat) : State :=
  let s := s.count P.TrimFlagCount 0
  let arg := (s.rd P.LastDisagreement 0).setWidth 32
  ((s.log 0x1B 0x0040 cause arg 0).event Ev.trimFlagged P.TrimStatus 0 (BitVec.ofNat 32 cause)).endTrim 2 cause

/-- Distance of the two codes of one key. -/
def codeGap (a b : SMap Nat) (key : Nat) : Nat :=
  (((SMap.get 0 a key : Nat) : Int) - ((SMap.get 0 b key : Nat) : Int)).natAbs

/-- The key of the largest disagreement, the lowest of several equal. -/
def worstKey (a b : SMap Nat) (keys : List Nat) : Nat :=
  keys.foldl (fun w k => if codeGap a b k > codeGap a b w then k else w) (keys.headD 0)

/-- After the second sweep the codes are applied or the run is flagged. -/
def State.compareTrim (s : State) (a b : SMap Nat) (clamped : Bool) : State :=
  let keys := a.map (·.1)
  let tol := s.rdN P.TrimTolerance 0
  if keys.all (fun k => decide (codeGap a b k ≤ tol)) then
    let s := keys.foldl (fun (s : State) k =>
      s.wr (trimParam (k / 64)) (k % 64) (BitVec.ofNat 64 ((SMap.get 0 a k + SMap.get 0 b k + 1) / 2))) s
    (s.setBit P.TrimStatus 0 3 clamped).endTrim 1 0
  else
    let w := worstKey a b keys
    let v := w / 64 * 2 ^ 30 + w % 64 * 2 ^ 24 + SMap.get 0 a w * 256 + SMap.get 0 b w
    (s.wr P.LastDisagreement 0 (BitVec.ofNat 64 v)).flagTrim 1

/-- TRIM_SWEEP_DONE. -/
def State.sweepDone (s : State) (x : TrimSweep) : State :=
  match s.trim with
  | none => s
  | some r =>
    let (f, s) := s.free
    let c := s.sweepCodes r x f
    let s := if r.sinks then
        (List.range 48).foldl (fun s i => s.wr P.SinkMeasured i (BitVec.ofNat 64 (x.sinks.getD i 0 % 65536))) s
      else s
    match r.first with
    | none => { s with trim := some { r with first := some c.1, clamped := c.2, sweepStart := s.fullTime } }.setBit P.TrimStatus 0 6 true
    | some a => s.compareTrim a c.1 (r.clamped || c.2)

def execTrimSweepDone (sweep : TrimSweep) (s : State) : Host.Outcome State Fault Refusal := done (s.sweepDone sweep)

/-- TRIM_DARK_TIMEOUT: flagged with cause NoDark. -/
def execTrimDarkTimeout (s : State) : Host.Outcome State Fault Refusal :=
  match s.trim with
  | some r => if r.photodiodes then done (s.flagTrim 2) else done s
  | none => done s

/-- An abort ends a run; no DAC changes (R331). -/
def State.abortTrim (s : State) : State := if s.trim.isSome then s.endTrim 3 0 else s

/-- Abort point 1 of an entry: the run in progress is aborted, and none that is deferred starts (R325, R331). -/
def State.dropTrim (s : State) : State :=
  { s.abortTrim.setBit P.TrimStatus 0 2 false with trouble := { s.abortTrim.trouble with trimDeferred := false } }

/-! ### Writes -/

/-- A write of PB000 TrimControl (R324, R331). -/
def State.writeTrim (s : State) (v : Wide) : State × Byte :=
  if v.getLsbD 0 && field v 4 3 == 0 then (s, 2)
  else if v.getLsbD 0 && s.taken Res.adc && !s.autoJustBegan then (s.refuseStart, 1)
  else
    let s := s.setFld P.TrimControl 0 4 4 (field v 4 4)
    let s := if v.getLsbD 0 then s.startTrim false else s
    (if v.getLsbD 1 then s.abortTrim else s, 0)

/-- A write of a trim code (R332): applies at once, Busy during a run. -/
def State.writeTrimCode (s : State) (p e : Nat) (v : Wide) : State × Byte :=
  if s.trim.isSome then (s, 1) else ((s.wr p e v).wr P.RunTemperature 0 (s.rd P.DieTemperature 0), 0)

end Sys2Proof.Machine
end

