-- ==== Sys2Proof/Machine/Kite.lean ====
section
/-! DEFINITION. Kite (chapter 16): keys and eras, hub frames on air with their counters and retries, anchors, level
frames and listen windows, and the reception of partner frames. -/
namespace Sys2Proof.Machine

def State.setKite (s : State) (k : Kite) : State := { s with kite := k }

/-! ### Keys and eras (R340) -/

/-- Key of index 1 or 2. -/
def State.kiteKey (s : State) (i : Nat) : List Byte := s.blob (if i = 1 then P.KeyA else P.KeyB)

/-- The key of an index is written and its era is one of those given. -/
def State.keyIn (s : State) (i : Nat) (eras : List Nat) : Bool :=
  (s.kiteKey i).length == 16 && eras.contains (s.rdN P.KeyEra (i - 1))

/-- The index the hub sends under: that of P-C008, or the other key when its era is the present one; a key that has not been
written serves for nothing. -/
def State.txKey (s : State) : Option Nat :=
  let i := s.rdN P.TxKeyIndex 0
  let now := [eraOf s.fullTime]
  if s.keyIn i now then some i else if s.keyIn (3 - i) now then some (3 - i) else none

/-- KEY_ERA_END (R340). -/
def execKeyEraEnd (s : State) : Host.Outcome State Fault Refusal :=
  if s.bit P.KiteControl 0 0 && s.timeRuns then done s.checkEra else done s

/-! ### State of the radio -/

/-- Kite is on: Enable and KPLL locked (Table 3.3). -/
def State.kiteOn (s : State) : Bool := s.serving && s.bit P.KiteControl 0 0 && s.bit P.PllLockStatus 0 0

/-- Kite transmits and receives fully: in Run and Luff, and an entry up to abort point 2 (Table 4.3). -/
def State.kiteRuns (s : State) : Bool := s.kiteOn && s.stayActive

/-- Kite listens for Reefed, from abort point 2 of the entry until Run (R354, Table 4.3). -/
def State.kiteListens (s : State) : Bool :=
  s.kiteOn && s.bit P.KiteControl 0 1 && (match s.power.sleep with
    | .entering t ap => decide (t.toNat = Tg.reefed) && decide (2 ≤ ap)
    | .reefed | .waking false => true
    | _ => false)

/-- Kite sends nothing: standby or joining role, time state Unset, or KeyExpired (Table 16.10). -/
def State.kiteSilent (s : State) : Bool := !s.commands || s.timeState == Ts.unset || s.keyExpired

/-- A listen window is open. -/
def State.windowOpen (s : State) : Bool := match s.kite.listenEnd with
  | some t => decide (s.fullTime < t)
  | none => false

/-- PC001 KiteStatus as it reads. -/
def State.kiteStatus (s : State) : Wide :=
  let v := s.rdN P.KiteStatus 0
  let on := s.kiteRuns || s.kiteListens
  BitVec.ofNat 64 (v / 256 % 256 * 256 + s.keyExpired.toNat * 16 + s.windowOpen.toNat * 8 +
    (on && decide (s.fullTime < s.kite.airEnd)).toNat * 4 + s.kiteSilent.toNat * 2 + on.toNat)

/-! ### Hub frames (R336 to R339) -/

/-- Bytes of a MIC at a security level. -/
def micLen (level : Nat) : Nat := if level = 5 then 4 else if level = 6 then 8 else 16

/-- Air time in ns of a PSDU. -/
def airNs (psdu : Nat) : Nat := (6 + psdu) * 32000

/-- Length of the PSDU of a hub frame with a body of `n` bytes after the payload header. -/
def State.hubPsdu (s : State) (n : Nat) : Nat := 15 + 10 + n + micLen (s.rdN P.SecurityLevel 0) + 2

/-- MAC header and auxiliary security header of a hub frame. -/
def State.hubHeader (s : State) (seq : Byte) (dest : Half) (counter : Word) (key : Nat) : List Byte :=
  leBytes 2 (if dest = 0xFFFF then 0x9849 else 0x9869) ++ [seq] ++ leBytes 2 (s.rdN P.PanId 0) ++ leBytes 2 dest.toNat ++
    leBytes 2 (s.rdN P.ShortAddress 0) ++ [BitVec.ofNat 8 (8 + s.rdN P.SecurityLevel 0)] ++ leBytes 4 counter.toNat ++
    [BitVec.ofNat 8 key]

/-- The CCM* nonce. -/
def kiteNonce (ext : BitVec 64) (counter : Word) (level : Nat) : List Byte :=
  beBytes 8 ext.toNat ++ beBytes 4 counter.toNat ++ [BitVec.ofNat 8 level]

/-- The frame counter at this instant under a key (R339). -/
def State.kiteCounter (s : State) (key : Nat) : Word :=
  let c := BitVec.ofNat 32 (s.fullTime / 2 ^ 20)
  match SMap.get none s.kite.counters key with
  | some last => if c.toNat ≤ last.toNat then last + 1 else c
  | none => c

/-- A hub frame goes on air at this instant. -/
def State.putOnAir (s : State) (f : KiteOut) (key : Nat) : State :=
  let c := s.kiteCounter key
  let level := s.rdN P.SecurityLevel 0
  let head := s.hubHeader f.seq f.dest c key
  let payload := [f.kind, 0] ++ beBytes 4 s.tns.toNat ++ beBytes 4 f.tag.toNat ++ f.body
  let frame := head ++ ccmSeal (s.kiteKey key) (kiteNonce Config.hubExtended c level) head payload (micLen level)
  let k := s.kite
  let s := s.setKite { k with counters := SMap.set none k.counters key (some c),
                              onAir := frame ++ leBytes 2 (fcs16 frame).toNat,
                              airEnd := s.fullTime + airNs (frame.length + 2) }
  (s.wr P.LastCounter 0 (c.setWidth 64)).traffic P.TxFrameCount_PC040 0 1

/-! ### Anchors (R346, R347) -/

/-- Anchor period and offset in ns. -/
def State.anchorPeriod (s : State) : Nat := s.rdN P.AnchorInterval 0 * 1000000
def State.anchorOffset (s : State) : Nat := s.rdN P.AnchorOffset 0 * 1000000

/-- The first anchor instant after full time `e`. -/
def State.nextAnchor (s : State) (e : Nat) : Nat :=
  let p := s.anchorPeriod
  e + p - (e + p - s.anchorOffset % p) % p

/-- Anchors are scheduled. -/
def State.anchors (s : State) : Bool := s.kiteRuns && s.commands && s.timeState != Ts.unset

/-- The next sequence number is taken. -/
def State.nextKiteSeq (s : State) : Byte × State := (s.kite.seq, s.setKite { s.kite with seq := s.kite.seq + 1 })

/-- KITE_ANCHOR: the anchor goes on air at A, without CCA. -/
def State.sendAnchor (s : State) : State :=
  if !s.anchors then s
  else
    let s := s.checkEra
    match s.txKey with
    | none => s
    | some key =>
      let e := s.fullTime
      let (seq, s) := s.nextKiteSeq
      let body := beBytes 4 (e / 2 ^ 32) ++ beBytes 2 (s.rdN P.Guard_PC022 0) ++ beBytes 2 (s.rdN P.ListenWindow 0) ++ [0, 0]
      let f : KiteOut := { dest := 0xFFFF, kind := 1, tag := BitVec.ofNat 32 (s.nextAnchor e), body := body, seq := seq,
                           entry := none, opens := none, deadline := none, tries := 0 }
      (s.putOnAir f key).traffic P.AnchorCount 0 1

def execKiteAnchor (s : State) : Host.Outcome State Fault Refusal := done (s.ownCommand 0x07 State.sendAnchor)

/-- A transmission of `ns` from full time `e` would reach into the protected interval before an anchor, or the anchor. -/
def State.reachesAnchor (s : State) (e ns lead : Nat) : Bool :=
  let a := s.nextAnchor (e - 1)
  let last := a - s.anchorPeriod
  s.anchors && (decide (a < e + ns + lead) || decide (e < last + airNs (s.hubPsdu 10)))

/-! ### Level frames (R348 to R350) -/

/-- A KiteMap entry. -/
structure KiteEntry where
  dest : Half
  merge : Nat
  first : Nat
  slot : Nat
  count : Nat
  flags : Nat
  deriving DecidableEq, Repr

/-- The entries of a KiteMap body. -/
def kiteEntries (b : List Byte) : List KiteEntry :=
  (List.range (b.length / 12)).map fun i =>
    let w := fun o n => leNat (sliceBytes b (12 * i + o) n)
    { dest := BitVec.ofNat 16 (w 0 2), merge := w 2 2, first := w 4 2, slot := w 6 2, count := w 8 1, flags := w 9 1 }

def KiteEntry.sleeper (x : KiteEntry) : Bool := x.flags % 2 == 1

/-- The content check of PC031 (R348). -/
def kiteMapOk (b : List Byte) : Bool :=
  (kiteEntries b).all fun x => decide (x.merge ≤ 16383) && decide (1 ≤ x.first) && decide (x.first ≤ 512) &&
    decide (1 ≤ x.count) && decide (x.count ≤ 80) && decide (x.first + x.count ≤ 513) && decide (x.slot + x.count ≤ 513) &&
    decide (x.flags < 2)

/-- The slots of an entry in the merged state. -/
def State.entrySlots (s : State) (x : KiteEntry) : List Byte :=
  let v := (s.mergedAt x.merge).values
  (List.range x.count).map (fun i => v.getD (x.first - 1 + i) 0)

/-- The entry's slots differ from those last sent, or LevelRefresh has passed (R349). -/
def State.entryDue (s : State) (i : Nat) (slots : List Byte) : Bool :=
  match SMap.get none s.kite.sent i with
  | none => true
  | some (last, t) => last != slots || decide (t + s.rdN P.LevelRefresh 0 * 1000000 ≤ s.fullTime)

/-- Queue the level frames of the entries that are (or are not) sleepers, in entry order, to be sent from `opens` on. -/
def State.queueLevels (s : State) (sleepers : Bool) (tag : T32) (opens : Option T32) (deadline : T32) : State :=
  let es := kiteEntries (s.blob P.KiteMap)
  (es.zip (List.range es.length)).foldl (fun (s : State) x =>
    let slots := s.entrySlots x.1
    if x.1.sleeper == sleepers && (s.mergedAt x.1.merge).sends && s.entryDue x.2 slots then
      let (seq, s) := s.nextKiteSeq
      let f : KiteOut := { dest := x.1.dest, kind := 2, tag := tag,
                           body := beBytes 2 x.1.slot ++ [BitVec.ofNat 8 x.1.count, 0] ++ slots, seq := seq,
                           entry := some x.2, opens := opens, deadline := some deadline, tries := 0 }
      s.setKite { s.kite with queue := s.kite.queue ++ [f] }
    else s) s

/-- At L(k) the level frames of frame k are formed, to be sent from T(k) − λ·F on (R349). -/
def State.kiteAtLatch (s : State) (k : Nat) : State :=
  if s.kiteRuns && !s.kiteSilent then
    let t := s.frameTime k
    s.queueLevels false t (some (s.frameTime (k - s.halyard.grid.lead))) (t - BitVec.ofNat 32 (s.rdN P.LevelGuard 0 * 1000))
  else s

/-- KITE_LISTEN_WINDOW: the window that follows the last anchor opens and sleeper entries are queued (R350). -/
def State.openListen (s : State) : State :=
  if !s.anchors then s
  else
    let a := s.nextAnchor s.fullTime - s.anchorPeriod
    let close := a + s.rdN P.ListenWindow 0 * 1000000
    let s := s.setKite { s.kite with listenEnd := some close }
    let tag := BitVec.ofNat 32 (boundary s.halyard.grid.rate (frameAt s.halyard.grid.rate close))
    if s.kiteSilent then s else s.queueLevels true tag none (BitVec.ofNat 32 close)

def execKiteListenWindow (s : State) : Host.Outcome State Fault Refusal := done s.openListen

/-! ### Going on air, acknowledgements and retries (R343, R344, R347) -/

/-- Time a hub frame needs: its air time, and the acknowledgement wait of a unicast. -/
def State.hubNeeds (s : State) (f : KiteOut) : Nat :=
  airNs (s.hubPsdu f.body.length) + (if f.dest = 0xFFFF then 0 else 864000)

/-- The entry of a queued frame is a sleeper. -/
def State.sleeperFrame (s : State) (f : KiteOut) : Bool :=
  match f.entry with
  | some i => match (kiteEntries (s.blob P.KiteMap))[i]? with
    | some x => x.sleeper
    | none => false
  | none => false

/-- The frame can no longer end by its deadline. -/
def State.tooLate (s : State) (f : KiteOut) : Bool := match f.deadline with
  | some d => future (s.tns + BitVec.ofNat 32 (s.hubNeeds f)) d
  | none => false

/-- A level frame that cannot end in time is not started: its entry stays unsent, a retry's too. It is counted, but a sleeper's
waits for the next window (R349, R350). -/
def State.dropLevel (s : State) (f : KiteOut) : State :=
  let s := match f.entry with
    | some i => s.setKite { s.kite with sent := SMap.set none s.kite.sent i none }
    | none => s
  if s.sleeperFrame f then s else s.count P.LevelLateCount 0

/-- Drop every queued frame that cannot end in time. -/
def State.dropLateLevels (s : State) : State :=
  let late := s.kite.queue.filter s.tooLate
  late.foldl State.dropLevel (s.setKite { s.kite with queue := s.kite.queue.filter (fun f => !s.tooLate f) })

/-- The instant from which a queued frame may be sent has come. -/
def State.mayStart (s : State) (f : KiteOut) : Bool := match f.opens with
  | some t => due t s.tns
  | none => true

/-- The first frame of a queue that may be sent now, and the rest. -/
def State.pickFrame (s : State) : List KiteOut → Option (KiteOut × List KiteOut)
  | [] => none
  | f :: fs => if s.mayStart f then some (f, fs) else (State.pickFrame s fs).map (fun x => (x.1, f :: x.2))

/-- KITE_FRAME_ON_AIR: the first frame that may still be sent goes on air. -/
def State.kiteSend (s : State) : State :=
  if !s.kiteRuns || s.kite.awaiting.isSome then s
  else
    let s := s.checkEra
    if s.kiteSilent then s
    else
      let s := s.dropLateLevels
      match s.pickFrame s.kite.queue, s.txKey with
      | some (f, fs), some key =>
        if s.reachesAnchor s.fullTime (s.hubNeeds f) (s.rdN P.AnchorProtect 0 * 1000) then s
        else
          let now := s.fullTime
          let s := (s.setKite { s.kite with queue := fs }).putOnAir f key
          let s := match f.entry with
            | some i => s.setKite { s.kite with sent := SMap.set none s.kite.sent i (some (f.body.drop 4, now)) }
            | none => s
          if f.dest = 0xFFFF then s else s.setKite { s.kite with awaiting := some f }
      | _, _ => s

def execKiteFrameOnAir (s : State) : Host.Outcome State Fault Refusal := done s.kiteSend

/-- KITE_ACK_TIMEOUT (R344). -/
def State.ackTimeout (s : State) : State :=
  match s.kite.awaiting with
  | none => s
  | some f =>
    let s := s.setKite { s.kite with awaiting := none }
    if f.tries < s.rdN P.MaxRetries 0 then
      s.setKite { s.kite with queue := { f with tries := f.tries + 1 } :: s.kite.queue }
    else s.count P.RetryExhaustCount 0

def execKiteAckTimeout (s : State) : Host.Outcome State Fault Refusal := done s.ackTimeout

/-- KITE_CHANNEL_ACCESS_FAILURE: the frame that was to be sent is not (R334). -/
def execKiteChannelAccessFailure (s : State) : Host.Outcome State Fault Refusal :=
  match s.pickFrame s.kite.queue with
  | none => done s
  | some (_, fs) => if s.kiteRuns then done ((s.setKite { s.kite with queue := fs }).count P.CcaBusyCount 0) else done s

/-! ### Receiving (R342, R343, R345, R354) -/

/-- A received PSDU cut into its fields. -/
structure KiteIn where
  control : Nat
  seq : Byte
  pan : Nat
  dest : Nat
  src : Half
  secControl : Nat
  counter : Word
  key : Nat
  head : List Byte
  rest : List Byte
  deriving DecidableEq, Repr

def KiteIn.ofPsdu (b : List Byte) : KiteIn :=
  let w := fun o n => leNat (sliceBytes b o n)
  { control := w 0 2, seq := b.getD 2 0, pan := w 3 2, dest := w 5 2, src := BitVec.ofNat 16 (w 7 2), secControl := w 9 1,
    counter := BitVec.ofNat 32 (w 10 4), key := w 14 1, head := b.take 15, rest := (b.drop 15).take (b.length - 17) }

/-- A data frame whose fields up to the source address can be read: type data, frame version 2006, PAN ID compression and short
addresses (Table 16.1). Bit 7 of the frame control, reserved, is ignored (R6). -/
def KiteIn.isData (x : KiteIn) (len : Nat) : Bool :=
  decide (11 ≤ len) && x.control % 8 == 1 && x.control / 64 % 2 == 1 && x.control / 256 == 0x98

/-- A data frame of the supported subset: secured, no frame pending; AR (bit 5) is free. -/
def KiteIn.supported (x : KiteIn) (len : Nat) : Bool :=
  decide (17 ≤ len) && x.isData len && x.control / 8 % 4 == 1

/-- An acknowledgement frame of the subset. -/
def KiteIn.isAck (x : KiteIn) (len : Nat) : Bool :=
  len == 5 && x.control % 8 == 2 && x.control / 8 % 2 == 0 && x.control / 256 == 0x10

/-- Extended address of a partner (R337). -/
def State.partnerExt (s : State) (src : Half) : Option (BitVec 64) :=
  let b := s.blob P.PartnerTable
  ((List.range (b.length / 16)).find? (fun i => leNat (sliceBytes b (16 * i) 2) == src.toNat)).map
    (fun i => BitVec.ofNat 64 (leNat (sliceBytes b (16 * i + 4) 8)))

/-- Acknowledge a data frame that asks for it, before any other check (R342), unless the acknowledgement would overlap an anchor.
While Unset, and while neither key's era is present, Kite sends nothing (R340, R346). -/
def State.kiteAck (s : State) (x : KiteIn) : State :=
  let due := x.control / 32 % 2 == 1 && x.dest == s.rdN P.ShortAddress 0 && x.pan == s.rdN P.PanId 0 &&
    (s.role == .active || !s.paired) && s.timeState != Ts.unset && !s.keyExpired
  if !due then s
  else
    let e := s.fullTime + 192000
    if s.reachesAnchor e (airNs 5) 0 then s.count P.AckSkippedCount 0
    else
      let ack : List Byte := [0x02, 0x10, x.seq]
      s.setKite { s.kite with onAir := ack ++ leBytes 2 (fcs16 ack).toNat, airEnd := e + airNs 5 }

/-- 250 ms in ticks of the time clock. -/
def kiteHold : Nat := 125000000

/-- The recent-frame cache: entries aged out, and whether the pair is live in it (R343). -/
def State.cacheAged (s : State) : List (Half × Byte × Nat) := s.kite.cache.filter (fun c => decide (s.clock < c.2.2 + kiteHold))

/-- The security check of R345: the counter that a refused frame takes, or the payload. Bit 7 of the security control, reserved,
is ignored (R6). -/
def State.kiteCheck (s : State) (x : KiteIn) (reefed : Bool) : Nat ⊕ List Byte :=
  let now := eraOf s.fullTime
  let level := x.secControl % 8
  if x.secControl / 8 % 16 ≠ 1 ∨ level < 5 ∨ (x.key ≠ 1 ∧ x.key ≠ 2) then .inl P.RxDiscardCount
  else if !(s.keyIn x.key (if now = 0 then [0] else [now, now - 1])) then .inl P.RxDiscardCount
  else
    match s.partnerExt x.src with
    | none => .inl P.UnknownSourceCount
    | some ext =>
      match ccmOpen (s.kiteKey x.key) (kiteNonce ext x.counter level) x.head x.rest (micLen level) with
      | none => .inl P.MicFailCount
      | some m =>
        let tag : T32 := BitVec.ofNat 32 (beNat (sliceBytes m 6 4))
        let window := s.rdN P.AcceptWindow 0 * 1000000
        if !reefed && m.getD 0 0 == 4 && decide (window < min (tag - s.tns).toNat (s.tns - tag).toNat) then .inl P.StaleTagCount
        else .inr m

/-- The payload is of a kind the hub takes, with a length that matches it: wake or report (R338). -/
def kitePayloadOk (m : List Byte) : Bool :=
  (m.getD 0 0 == 3 && m.length == 10) || (m.getD 0 0 == 4 && decide (10 ≤ m.length) && decide (m.length ≤ 74))

/-- A data frame of the subset, addressed to the hub or broadcast in its PAN. While Kite only listens every frame but a wake frame
addressed to the hub is counted as discarded (R354). -/
def State.kiteData (s : State) (x : KiteIn) : State :=
  let reefed := !s.kiteRuns
  match s.kiteCheck x reefed with
  | .inl c => s.count c 0
  | .inr m =>
    let cache := s.cacheAged
    if cache.any (fun c => c.1 == x.src && c.2.1 == x.seq) then (s.setKite { s.kite with cache := cache }).count P.DuplicateCount_PC052 0
    else
      let s := s.setKite { s.kite with cache := ((x.src, x.seq, s.clock) :: cache).take 16 }
      if !kitePayloadOk m then s.count P.RxDiscardCount 0
      else if m.getD 0 0 == 3 && x.dest == s.rdN P.ShortAddress 0 then s.wakeEvent .kite
      else if reefed then s.count P.RxDiscardCount 0
      else s

/-- KITE_FRAME_RECEIVED: the PSDU with its FCS, as the frame ends. -/
def State.receiveKite (s : State) (b : List Byte) (fcsOk : Bool) (rssi : Byte) : State :=
  if !(s.kiteRuns || s.kiteListens) then s
  else
    let s := s.setFld P.KiteStatus 0 8 8 rssi.toNat
    if !fcsOk then s
    else
      let x := KiteIn.ofPsdu b
      let s := s.traffic P.RxFrameCount_PC041 0 1
      let s := if x.isData b.length then s.kiteAck x else s
      if x.isAck b.length && s.kiteRuns then
        match s.kite.awaiting with
        | some f => if f.seq = x.seq then s.setKite { s.kite with awaiting := none } else s
        | none => s
      else if x.supported b.length && x.pan == s.rdN P.PanId 0 && (x.dest == 0xFFFF || x.dest == s.rdN P.ShortAddress 0) then
        s.kiteData x
      else s.count P.RxDiscardCount 0

def execKiteFrameReceived (psdu : List Byte) (fcsOk : Bool) (rssi : Byte) (s : State) : Host.Outcome State Fault Refusal :=
  done (s.receiveKite psdu fcsOk rssi)

/-- A key is replaced: the counters sent under the old one no longer bound the new one's (R339, R340). -/
def State.newKiteKey (s : State) (i : Nat) : State :=
  s.setKite { s.kite with counters := SMap.set none s.kite.counters i none }

/-- Frames that wait to be sent are given up as the unit leaves Run. -/
def State.clearKite (s : State) : State :=
  s.setKite { s.kite with queue := [], awaiting := none, listenEnd := none }

end Sys2Proof.Machine
end

