-- ==== Sys2Proof/Machine/Access.lean ====
section
/-! DEFINITION. Who makes a dictionary access and at which level (R60, R61, R68, R114), what each parameter reads as,
the silent rule R89, and the Read and ReadInfo operations (R95, R446, Table 5.6). -/
namespace Sys2Proof

/-! ### Requesters -/

/-- The requester code of a trouble-log entry (R426): the core, 256 more in user mode, 4 for Bosun, 10h + s for WDP. -/
def Requester.code (rq : Requester) : Nat :=
  match rq.path with
  | .window c true => c
  | .window c false => 256 + c
  | .bosun => 4
  | .stay _ => 16 + rq.session

/-- What the first violation of a parameter is counted by (R89, R114): the session, or the core and its mode. -/
def Requester.mark (rq : Requester) : Nat :=
  match rq.path with
  | .window c true => c
  | .window c false => 256 + c
  | .bosun => if rq.session = 0 then 4 else 16 + rq.session
  | .stay _ => 16 + rq.session

/-- The access comes from DC0 in machine mode. -/
def Requester.kernelMode (rq : Requester) : Bool := rq.path == .window 0 true

/-- The access comes over the deck-core window. -/
def Requester.onWindow (rq : Requester) : Bool := match rq.path with
  | .window _ _ => true
  | _ => false

/-- Order of the requesters whose writes reach the arbiter in one clock (R91). -/
def Requester.rank (rq : Requester) : Nat :=
  match rq.path with
  | .window c _ => c.val
  | .bosun => 4
  | .stay p => 5 + p.val

/-- The access comes over Bosun. -/
def Requester.onBosun (rq : Requester) : Bool := rq.path == .bosun

end Sys2Proof

namespace Sys2Proof.Machine

/-- The level of an access (R100, R114, Table 5.4). -/
def State.level (s : State) (rq : Requester) : Nat :=
  match rq.path with
  | .window _ true => s.topLevel
  | .window _ false => min 1 s.topLevel
  | _ => if rq.session = 0 then 0 else (s.session rq.session).level

/-- The path carries accesses now: the core runs, Bosun acknowledges its address, the stay port is enabled and active. -/
def State.pathServes (s : State) (rq : Requester) : Bool :=
  match rq.path with
  | .window c _ => s.coreRuns c
  | .bosun => s.bosunServes
  | .stay p => s.stayActive && s.stayEnabled p && s.power.phase == .ready

/-- The session of a request is unlocked and bound to the request's source (R101). -/
def State.sessionBound (s : State) (rq : Requester) : Bool :=
  let x := s.session rq.session
  x.bosun == rq.onBosun && (rq.onBosun || (x.addr == rq.addr && x.udp == rq.udp))

/-- An operation of this requester may run: on the window always, elsewhere in session 0 or in an unlocked session bound
to the source. -/
def State.sessionOk (s : State) (rq : Requester) : Bool :=
  rq.onWindow || rq.session == 0 || ((s.session rq.session).state == .unlocked && s.sessionBound rq)

/-- The image-write parameters of area PF, which the boot ROM serves in Recovery (R68, R407, R408). -/
def imageParams : List Nat := [P.UpdateStatus, P.SlotStatus, P.SlotGeneration, P.ImageWrite, P.ImageWriteProgress]

/-- The parameter can be reached in this state of the device: in Retired only reads of area P0 (R61), in Recovery the
image-write parameters, and DeviceState, which reads Recovery there (R68). -/
def State.reaches (s : State) (p : Nat) (write : Bool) : Bool :=
  match s.power.phase with
  | .retired => !write && decide (p < 0x1000)
  | .recovery => imageParams.contains p || (!write && p == P.DeviceState)
  | _ => true

/-! ### The silent rule (R89) -/

/-- One violation: counted, and logged on the first of its session and parameter. -/
def State.violate (s : State) (rq : Requester) (p e : Nat) : State :=
  let s := s.count P.ViolationCount 0
  let key := (rq.mark, p)
  if s.wdp.violations.contains key then s
  else
    let s := { s with wdp := { s.wdp with violations := key :: s.wdp.violations } }
    s.log 0x10 0x0002 0 (peArg p e) (BitVec.ofNat 32 rq.code)

/-- The marks of a session end with it. -/
def State.clearMarks (s : State) (session : Nat) : State :=
  { s with wdp := { s.wdp with violations := s.wdp.violations.filter (fun v => v.1 != 16 + session) } }

/-! ### The newer settings bank (R413) -/

/-- The bank is committed: its commit word is zero and its digest matches. -/
def Bank.committed (b : Bank) : Bool :=
  b.commit == 0 && sliceBytes b.bytes 16 32 == sha256 (b.bytes.take 16 ++ b.bytes.drop 4096)

def Bank.sequence (b : Bank) : Word := BitVec.ofNat 32 (leNat (sliceBytes b.bytes 8 4))
def Bank.format (b : Bank) : Half := BitVec.ofNat 16 (leNat (sliceBytes b.bytes 4 2))

def State.bankOf (s : State) (i : Fin 2) : Bank := if i = 0 then s.nv.bank0 else s.nv.bank1
def State.setBank (s : State) (i : Fin 2) (b : Bank) : State :=
  if i = 0 then { s with nv := { s.nv with bank0 := b } } else { s with nv := { s.nv with bank1 := b } }

/-- The newer of the committed banks. -/
def State.newerBank (s : State) : Option (Fin 2) :=
  match s.nv.bank0.committed, s.nv.bank1.committed with
  | false, false => none
  | true, false => some 0
  | false, true => some 1
  | true, true => if future s.nv.bank1.sequence s.nv.bank0.sequence then some 1 else some 0

/-! ### Values that are worked out when they are read -/

/-- A Boolean as a bit of a value. -/
def bitAt (i : Nat) (b : Bool) : Nat := b.toNat * 2 ^ i

/-- Slot fields of a ring in a status word (Table 7.10 bits 6:0). -/
def Ring.status (r : Ring) : Nat :=
  let slot := fun (x : Option (Fin 3 × Word)) (none' : Nat) => match x with
    | some (i, _) => i.val
    | none => none'
  bitAt 6 r.inUse + slot r.writing 3 * 16 + slot r.selected 3 * 4 + slot r.newest 0

/-- A leg delivered a packet first within the last 10 ms. -/
def State.recent (s : State) (x : Option Nat) : Bool := match x with
  | some t => decide (s.clock < t + 5000000)
  | none => false

/-- The groups of the legs that an enabled stream uses are joined (P3101 bit 9); a unicast leg has none. -/
def State.streamJoined (s : State) (n : Nat) : Bool :=
  s.bit P.StreamControl n 0 && (List.range 2).all fun leg =>
    let g := s.legAddr P.StreamGroupV4 P.StreamGroupV6 n leg
    (leg == 1 && !s.bit P.StreamControl n 1) || g == 0 || s.holdsGroup (s.legPort n leg) g

/-- P3101 StreamStatus. -/
def State.streamStatus (s : State) (n : Nat) : Nat :=
  let v := s.vid n
  bitAt 9 (s.streamJoined n) + bitAt 8 (s.recent v.legBFirst) + bitAt 7 (s.recent v.legAFirst) + v.ring.status

/-- P2073 StampPeek: the newest entry of the selected queue, in the words of Table 6.4. -/
def State.stampPeek (s : State) (w : Nat) : Nat :=
  let sel := s.rdN P.StampSelect 0
  let q := if sel / 128 = 1 then s.egressQ (sel % 128) else s.ingressQ (sel % 128)
  match q.getLast? with
  | none => 0
  | some x =>
    if w = 0 then x.stamp.toNat
    else if w = 1 then x.frac.toNat * 2 ^ 24 + x.head.msgType.toNat * 2 ^ 20 + bitAt 16 x.flagged + x.head.seq.toNat
    else x.head.domain.toNat * 2 ^ 24 + x.head.srcPort.toNat

/-- The grid offset of TRG0 to TRG3 (R139), in ns. -/
def State.gridOffset (s : State) (n : Nat) : Int :=
  let lead : Int := (boundary s.halyard.grid.rate s.halyard.grid.lead : Int)
  let cycle : Int := (boundary s.halyard.grid.rate (s.halyard.grid.lead + 1) : Int)
  if n = 0 then 0 else if n = 1 then -(cycle + s.blank) else if n = 2 then -cycle else -lead

/-- P2080 TriggerControl of a grid comparator, read-only (R139). -/
def State.gridControl (s : State) (n : Nat) : Nat :=
  (n + 1) * 2 ^ 16 + field (s.rd P.TriggerControl n) 7 1 * 128 + 3 * 4 + bitAt 1 s.seeded + 1

/-- P4404 CueStatus (Table 8.9). -/
def State.cueStatus (s : State) : Nat :=
  let top := match s.cue.queue.drop s.cue.inService.toNat with
    | x :: _ => x.priority
    | [] => 0
  let held := (List.range 5).foldl (fun n b => n + bitAt b (!(s.cueBuffer b).isEmpty)) 0
  top * 2 ^ 24 + bitAt 16 s.cue.inService + held

/-- P0070 BlockStatus (Table 5.10). -/
def State.blockStatus (s : State) (slot : Nat) : Nat :=
  let x := s.xfer slot
  let code := match x.state with
    | .free => 0
    | .opened => 1
    | .verifying => 2
    | .latchPending => 3
    | .mismatch => 4
  if code = 0 then 0
  else x.param * 2 ^ 16 + code * 256 + (if x.owner.onWindow then 0 else x.owner.session.val)

/-- PE001 CoreStatus (Table 18.14). -/
def State.coreStatus (s : State) (c : Nat) : Nat :=
  let k := s.core c
  let prio := match k.running with
    | some n => (s.thread n).priority.toNat
    | none => 0
  bitAt 31 k.running.isNone + bitAt 30 k.user + bitAt 29 k.clockStopped + prio * 2 ^ 24 +
    (k.slot.getD 0) * 2 ^ 16 + bitAt 15 k.slot.isSome + bitAt 14 k.running.isSome + k.running.getD 0

/-- Code of a thread state (Table 18.7). -/
def ThreadState.code : ThreadState → Nat
  | .free => 0
  | .dormant => 1
  | .ready => 2
  | .slotted => 3
  | .running => 4
  | .waiting => 5

/-- A word of a thread descriptor (Table 18.6). -/
def Thread.word (t : Thread) (w : Nat) : Nat :=
  if w = 0 then
    t.state.code * 2 ^ 29 + bitAt 28 t.cancelPending + bitAt 27 t.readyAgain + bitAt 26 t.user + t.priority.toNat * 2 ^ 19 +
      t.affinity.toNat * 2 ^ 15 + bitAt 14 t.flowValid + t.flow.toNat * 2 ^ 8 + t.event.toNat
  else if w = 1 then t.entryPC.toNat
  else if w = 2 then t.context.toNat
  else t.argument.toNat

/-- A word of the trouble-log entry that PF210 selects (Table 20.1): 0 is the newest. -/
def TroubleEntry.word (x : TroubleEntry) (w : Nat) : Nat :=
  if w = 0 then x.tns.toNat
  else if w = 1 then x.seconds.toNat
  else if w = 2 then x.sequence.toNat
  else if w = 3 then x.source.toNat * 2 ^ 24 + x.aux.toNat * 2 ^ 16 + x.code.toNat
  else if w = 4 then x.arg0.toNat
  else x.arg1.toNat

/-- Microseconds since a path's last valid pennant (PD00A, PD00B); all ones where there has been none. -/
def State.pathAge (s : State) (p : Nat) (at' : Option Nat) : Nat := match at' with
  | none => 0xFFFFFFFF
  | some t => min 0xFFFFFFFF (shownQuotient (Dict.key p 0) ((s.clock - t : Nat) : Int) 500).toNat

/-- PF001 SlotStatus (Table 19.8). -/
def State.slotStatus (s : State) (i : Fin 2) : Nat :=
  let x := s.slotOf i
  if x.code = 0 then 0 else x.version * 2 ^ 16 + x.code * 2 ^ 13

/-- PF021 HealthRemaining, in seconds. -/
def State.healthRemaining (s : State) : Nat := match s.update.healthTimer with
  | none => 0
  | some t => (shownQuotient (Dict.key P.HealthRemaining 0) ((t - s.clock : Nat) : Int) 500000000).toNat

/-- PF211 TroubleEntry: word `w` of the entry of number PF210 (R423). -/
def State.troubleWord (s : State) (w : Nat) : Nat :=
  let sel : Word := (s.rd P.TroubleSelect 0).setWidth 32
  match s.trouble.ring.find? (fun x => x.sequence == sel) with
  | some x => x.word w
  | none => 0

/-- PF313 ScrubProgress: whole lines of 64 bytes at PF312 ScrubRate since the start of the scrub in progress (R428). -/
def State.scrubbed (s : State) : Nat := match s.trouble.scrubStart with
  | none => s.rdN P.ScrubProgress 0
  | some t => min dramSize ((s.clock - t) * 2 * s.rdN P.ScrubRate 0 / 1000 / 64 * 64)

/-- PF011 ImageWriteProgress: while a write runs, the bytes programmed so far. -/
def State.imageProgress (s : State) : Nat := match s.update.image with
  | none => s.rdN P.ImageWriteProgress 0
  | some (_, b) => min b.length (Config.imageProgress s.clock)

/-- PF000 UpdateStatus, with the stage of a write in progress. -/
def State.updateStatus (s : State) : Nat :=
  let v := s.rd P.UpdateStatus 0
  (if s.update.image.isSome then putField v 4 4 (1 + (Config.imageStage s.clock).val) else v).toNat

/-- The number of sessions above session 0 that are open (P0030). -/
def State.openSessions (s : State) : Nat := ((List.range 17).filter (fun n => (s.session n).state != .free)).length

/-- The number of subscriptions in force (P0062). -/
def State.openSubs (s : State) : Nat := ((List.range 8).filter (fun n => (s.sub n).active)).length

/-- Parameters of areas P0 and P1 that are worked out. -/
def State.shown01 (s : State) (p e : Nat) : Option Nat :=
  if p = P.SerialNumber then some Config.serialNumber.toNat
  else if p = P.UnitStrap then some s.power.straps.unitB.toNat
  else if p = P.BosunAddress then some s.bosunAddress
  else if p = P.LifeCycleState then some s.lifeCycle
  else if p = P.ImageVersionFloor then some s.nv.floor.toNat
  else if p = P.SessionCount then some s.openSessions
  else if p = P.SubscriptionCount then some s.openSubs
  else if p = P.BlockStatus then some (s.blockStatus e)
  else if p = P.KeyStatus_P0084 then
    some (bitAt 0 s.nv.helmKey.isSome + bitAt 1 s.nv.riggerKey.isSome + bitAt 2 s.nv.yardKey.isSome)
  else none

/-- Parameters of areas P2 and P3 that are worked out. -/
def State.shown23 (s : State) (p e : Nat) : Option Nat :=
  if p = P.TimeNow then some s.tns.toNat
  else if p = P.StampPeek then some (s.stampPeek e)
  else if p = P.StampDepth then some ((s.egressQ e).length * 256 + (s.ingressQ e).length)
  else if p = P.TriggerControl ∧ e < 4 then some (s.gridControl e)
  else if p = P.TriggerGridOffset ∧ e < 4 then some (ofIntW 32 (s.gridOffset e)).toNat
  else if p = P.StayMac then some (Config.stayMac e).toNat
  else if p = P.StreamStatus then some (s.streamStatus e)
  else if p = P.SlotSize then some (s.slotSize e)
  else if p = P.SacnUniverseCount then some ((s.blob P.SacnUniverseTable).length / 2)
  else if p = P.CascadeStatus then some (s.casc e).ring.status
  else if p = P.CascadeSlotSize then some (s.cascadeSlot e)
  else none

/-- Parameters of areas P4 to P9 that are worked out. -/
def State.shown49 (s : State) (p e : Nat) : Option Nat :=
  if p = P.MergeEntryCount then some s.mergeCount
  else if p = P.CueCount then some s.cue.queue.length
  else if p = P.CueWordsFree then some (16384 - s.cueWords)
  else if p = P.CueStatus then some s.cueStatus
  else if p = P.ElementCount then some s.elementCount
  else if p = P.CycleStatus then some s.cycleStatus.toNat
  else if p = P.CommitTarget then some s.shownTarget
  else if p = P.PortElementCount then
    some ((tableRecords (s.blob P.ElementTable)).filter (fun r => r.port == e)).length
  else if p = P.ProfileCount then some ((s.blob P.ProfileTable).length / 64)
  else if p = P.CurveCount then some ((s.blob P.CurveTable).length / 2048)
  else if p = P.ChannelEntryCount then some (channelEntries (s.blob P.ChannelTable)).length
  else if p = P.ShroudMac then some (Config.shroudMac e).toNat
  else if p = P.PortStatus then
    some ((s.rdN p e / 4) * 4 + bitAt 1 (s.lvN P.PortMode e == 1) + bitAt 0 ((s.lv P.PortEnable 0).getLsbD e))
  else if p = P.WakeControl ∨ p = P.WakeMask ∨ p = P.WakeCrc then
    let sel := s.rdN P.WakeSelect 0
    let i := if p = P.WakeControl then 0 else if p = P.WakeMask then 1 + e else 5
    some (s.patternWord (sel / 8 % 64) (sel % 8) i).toNat
  else none

/-- Parameters of areas PA to PF that are worked out. -/
def State.shownAF (s : State) (p e : Nat) : Option Nat :=
  if p = P.EngineStatus then some (s.engineStatus e).toNat
  else if p = P.KiteStatus then some s.kiteStatus.toNat
  else if p = P.HubExtended then some Config.hubExtended.toNat
  else if p = P.KeyStatus_PC012 then
    some (bitAt 0 (!(s.blob P.KeyA).isEmpty) + bitAt 1 (!(s.blob P.KeyB).isEmpty))
  else if p = P.MapEntryCount then some (kiteEntries (s.blob P.KiteMap)).length
  else if p = P.PennantAge then some (s.pathAge p s.twin.pennantAt)
  else if p = P.StayAge then some (s.pathAge p s.twin.stayAt)
  else if p = P.TwinControl then s.twin.controlPending.map (·.toNat)
  else if p = P.CoreStatus then some (s.coreStatus e)
  else if p = P.ThreadDescriptor then some ((s.thread (s.rdN P.ThreadSelect 0)).word e)
  else if p = P.ReadyThreads then some s.candidates.length
  else if p = P.UpdateStatus then some s.updateStatus
  else if p = P.ImageWriteProgress then some s.imageProgress
  else if p = P.ScrubProgress then some s.scrubbed
  else if p = P.SlotStatus then some (s.slotStatus (if e = 0 then 0 else 1))
  else if p = P.SlotGeneration then
    let x := s.slotOf (if e = 0 then 0 else 1)
    some (if x.code = 0 then 0xFFFFFFFF else x.generation.toNat)
  else if p = P.HealthRemaining then some s.healthRemaining
  else if p = P.SettingsSequence then
    some (match s.newerBank with
      | some i => (s.bankOf i).sequence.toNat
      | none => 0)
  else if p = P.SettingsFormat then some s.update.format.toNat
  else if p = P.TroubleEntry then some (s.troubleWord e)
  else none

/-- The value an element reads as: worked out where a rule gives it so, held otherwise. -/
def State.shown (s : State) (p e : Nat) : Wide :=
  let x := match p / 0x1000 with
    | 0 | 1 => s.shown01 p e
    | 2 | 3 => s.shown23 p e
    | 4 | 5 | 6 | 7 | 8 | 9 => s.shown49 p e
    | _ => s.shownAF p e
  match x with
  | some v => BitVec.ofNat 64 v
  | none => s.rd p e

/-! ### Bodies -/

/-- One 16-byte entry of the trace ring as PE201 gives it, least significant byte first (Table 18.9). -/
def TraceEntry.bytes (x : TraceEntry) : List Byte :=
  leBytes 4 x.sequence.toNat ++
  leBytes 4 (x.code * 2 ^ 24 + x.core * 2 ^ 22 + x.priority * 2 ^ 16 + x.thread * 2 ^ 8 + bitAt 7 x.flowValid + x.flow) ++
  leBytes 4 x.detail.toNat ++ leBytes 4 x.tns.toNat

/-- PE201 TraceData: the ring as held, entry i at 16 * (i mod 4096). -/
def State.traceBody (s : State) : List Byte :=
  (List.range 4096).flatMap fun i =>
    match s.capstan.trace.find? (fun x => x.sequence.toNat % 4096 == i) with
    | some x => x.bytes
    | none => List.replicate 16 0

/-- The live body of a BLOB or STR parameter. -/
def State.body (s : State) (p : Nat) : List Byte :=
  if p = P.KeyHash then s.nv.keyHash.getD (List.replicate 32 0)
  else if p = P.ConversionTables then Config.conversionTables
  else if p = P.TraceData then s.traceBody
  else if p = P.SettingsImage then
    match s.newerBank with
    | some i => (s.bankOf i).bytes
    | none => []
  else s.blob p

/-- The live length of a BLOB, as word 0 of its page and a Read of it give it (R113, R446). -/
def State.bodyLength (s : State) (p : Nat) : Nat := if p = P.TraceData then 65536 else (s.body p).length

/-! ### Reads -/

/-- A Read of one defined element: its value, and what the read itself does (R14, R118, R183). -/
def State.readElement (s : State) (rq : Requester) (p e : Nat) : Wide × State :=
  if p = P.SessionLevel then (BitVec.ofNat 64 (s.level rq), s)
  else if p = P.TimeNow then (s.shown p e, s.wr P.TimeFraction 0 (s.tnsFrac.setWidth 64))
  else if p = P.CueRead then s.readCueWord
  else (s.shown p e, s)

/-- Elements `e` to `e + n - 1` of a scalar parameter, at the width of its type; undefined ones read zero. -/
def State.readElements (s : State) (rq : Requester) (r : Row) : Nat → Nat → List Byte × State
  | _, 0 => ([], s)
  | e, n + 1 =>
    if e < r.elems then
      let (v, s) := s.readElement rq r.num e
      let (bs, s) := State.readElements s rq r (e + 1) n
      (beBytes r.ty.bytes v.toNat ++ bs, s)
    else
      let (bs, s) := State.readElements s rq r (e + 1) n
      (List.replicate r.ty.bytes 0 ++ bs, s)

/-- Zeros in place of `n` elements (R89): at the width of the type, 4 bytes for a BLOB, none for a STR. -/
def Row.zeros (r : Row) (n : Nat) : List Byte :=
  match r.ty with
  | .blob => List.replicate 4 0
  | .str => []
  | t => List.replicate (n * t.bytes) 0

/-- An element range leaves the parameter's elements; a STR or BLOB has the one element 00 (R446). -/
def Row.beyond (r : Row) (e n : Nat) : Bool :=
  match r.ty with
  | .blob | .str => decide (e ≠ 0 ∨ n ≠ 1)
  | _ => decide (r.elems < e + n)

/-- A Read of `n` elements from `e` (R88, R89, R95, R446): its data, with what the read does. -/
def State.readOp (s : State) (rq : Requester) (p e n : Nat) : List Byte × State :=
  match Dict.row p with
  | none => (List.replicate (4 * n) 0, s.violate rq p e)
  | some r =>
    if r.acc = .wo then (r.zeros n, if r.beyond e n then s.violate rq p e else s)
    else if s.level rq < r.readLevel || !s.reaches p false || (p == P.CueRead && !rq.kernelMode) then
      (r.zeros n, s.violate rq p e)
    else
      match r.ty with
      | .blob => if r.beyond e n then (r.zeros n, s.violate rq p e) else (beBytes 4 (s.bodyLength p), s)
      | .str => if r.beyond e n then (r.zeros n, s.violate rq p e) else (s.body p, s)
      | _ =>
        let (bs, s) := s.readElements rq r e n
        (bs, if r.beyond e n then s.violate rq p e else s)

/-- The 16 bytes ReadInfo gives for one element (Table 5.6). -/
def Row.info (r : Row) (e : Nat) : List Byte :=
  let flags := bitAt 0 r.content + bitAt 1 r.stored + bitAt 2 r.mirrored
  let wl := if r.acc = .ro then Config.roWriteLevel else BitVec.ofNat 8 r.writeLevel
  let d := match r.ty with
    | .str | .blob => 0
    | _ => (Dict.dflt (Dict.key r.num e)).toNat
  [r.ty.code, r.acc.code, BitVec.ofNat 8 r.readLevel, wl, BitVec.ofNat 8 (r.elems - 1), BitVec.ofNat 8 flags, 0, 0] ++
    beBytes 8 d

/-- A ReadInfo of `n` elements from `e`, subject to R89. -/
def State.infoOp (s : State) (rq : Requester) (p e n : Nat) : List Byte × State :=
  match Dict.row p with
  | none => (List.replicate (16 * n) 0, s.violate rq p e)
  | some r =>
    if s.level rq < r.readLevel || !s.reaches p false then (List.replicate (16 * n) 0, s.violate rq p e)
    else
      let bs := (List.range n).flatMap (fun i => if e + i < r.elems then r.info (e + i) else List.replicate 16 0)
      (bs, if r.beyond e n then s.violate rq p e else s)

/-! ### Limits of a response (R95, R112) -/

/-- The largest response a path carries; the window has none. -/
def State.responseLimit (s : State) (rq : Requester) : Nat :=
  match rq.path with
  | .window _ _ => 2 ^ 32
  | .bosun => 1020
  | .stay _ => s.rdN P.WdpMaxResponse 0

/-- Data padded to a multiple of 4 (Table 5.5). -/
def pad4 (b : List Byte) : List Byte := b ++ List.replicate ((4 - b.length % 4) % 4) 0

/-- The answer to a request of this one operation: TooLarge without data where it would not fit. -/
def State.answerOne (s : State) (rq : Requester) (status : Byte) (data : List Byte) : State :=
  let tag := if rq.onWindow || rq.session == 0 then 0 else 16
  if s.responseLimit rq < 24 + tag + (pad4 data).length then s.answer 9 [] else s.answer status data

/-! ### The dictionary arbiter and the deck-core window (R91, R113 to R115) -/

/-- The arbiter takes the next request. Requests of one clock come in the order of R91; one that comes before its
predecessor in that order belongs to a later clock. -/
def State.arbitrate (s : State) (rq : Requester) : State :=
  if rq.rank < s.now.rank then { s with now := { ThisClock.init with rank := rq.rank } }
  else { s with now := { s.now with rank := rq.rank } }

/-- What every single operation starts from: nothing where the path carries no access, BadSession where the session is not
open to the source, and otherwise the operation, in the arbiter's turn. -/
def State.serve (s : State) (rq : Requester) (op : State → State) : State :=
  if !s.pathServes rq then s
  else if !s.sessionOk rq then s.answer 6 []
  else op (s.arbitrate rq)

/-- First address of the dictionary window and of what lies above it (Table 18.3). -/
def windowBase : Nat := 0x40000000
def windowEnd : Nat := 0x44000000

/-- The number of an element's first word in its page: a U64 element takes two words (R113). -/
def pageWord (p e : Nat) : Nat := match Dict.row p with
  | some r => if r.ty = .u64 then 2 * e else e
  | none => e

/-- The address of word `w` of a parameter's page, with the byte offset of the access. -/
def wordAddr (rq : Requester) (p w : Nat) : Nat := windowBase + p * 0x400 + w * 4 + rq.access.offset.val

/-- An access that raises an access fault: not an aligned 32-bit one, outside the window, or not granted to its mode by the
core's protection regions (R113, R114, R384). Only the window faults. -/
def State.faults (s : State) (rq : Requester) (a : Nat) (store : Bool) : Bool :=
  match rq.path with
  | .window c m =>
    !(rq.access.offset == 0 && rq.access.width == 2) || decide (windowEnd ≤ a) ||
      !((s.core c).allows (!m) a (if store then Grant.write else Grant.read))
  | _ => false

/-- The trap that an access fault of a window access raises: cause 5 for a load, 7 for a store (R385). -/
def State.faultTrap (s : State) (rq : Requester) (a : Nat) (store : Bool) : State :=
  match rq.path with
  | .window c m => s.takeTrap c (!m) (if store then 7 else 5) (BitVec.ofNat 32 a) rq.access.pc
  | _ => s

/-- One access to an address of the window, or an operation on another path: the operation, or the access fault. -/
def State.access (s : State) (rq : Requester) (a : Nat) (store : Bool) (op : State → State) : State :=
  if s.pathServes rq && s.faults rq a store then s.faultTrap rq a store else s.serve rq op

/-- A word of a body, least significant byte first, zero beyond the body (R113). -/
def bodyWord (b : List Byte) (w : Nat) : Word := BitVec.ofNat 32 (leNat (sliceBytes b (4 * w) 4))

/-- The word a load of an element of a scalar type no wider than a word returns: zero-extended, or sign-extended (Table
5.1). -/
def Row.extend (r : Row) (v : Wide) : Word := match r.ty with
  | .s16 => (v.setWidth 16).signExtend 32
  | _ => v.setWidth 32

/-- A load of a half of a U64 element: that of the low word latches the high word, which the following load of the high word
by the same core returns (R14). -/
def State.loadHalf (s : State) (rq : Requester) (c : Nat) (p e : Nat) (high : Bool) : Word × State :=
  if high then
    match (s.core c).latch with
    | some (q, f, w) =>
      if q = p ∧ f = e then (w, s.setCore c { s.core c with latch := none })
      else (((s.shown p e) >>> 32).setWidth 32, s)
    | none => (if p = P.CueRead then s.cue.readHigh else ((s.shown p e) >>> 32).setWidth 32, s)
  else
    let (v, s) := s.readElement rq p e
    (v.setWidth 32, s.setCore c { s.core c with latch := some (p, e, (v >>> 32).setWidth 32) })

/-- What a load of word `w` of a parameter's page returns, under the silent rule (R89, R113, R114), and what it does. -/
def State.loadWord (s : State) (rq : Requester) (c p w : Nat) : Word × State :=
  match Dict.row p with
  | none => (0, s.violate rq p w)
  | some r =>
    let e := if r.ty = .u64 then w / 2 else w
    if r.acc = .wo then (0, if e < r.elems then s else s.violate rq p e)
    else if s.level rq < r.readLevel || !s.reaches p false || (p == P.CueRead && !rq.kernelMode) then (0, s.violate rq p e)
    else
      match r.ty with
      | .str => if w < 16 then (bodyWord (s.body p) w, s) else (0, s.violate rq p w)
      | .blob => (if w = 0 then BitVec.ofNat 32 (s.bodyLength p) else 0, s)
      | .u64 => if e < r.elems then s.loadHalf rq c p e (w % 2 == 1) else (0, s.violate rq p e)
      | _ =>
        if e < r.elems then
          let (v, s) := s.readElement rq p e
          (r.extend v, s)
        else (0, s.violate rq p e)

/-- A load by a deck core: one word of the window (R113), answered as its four bytes, most significant first. -/
def State.load (s : State) (rq : Requester) (p w : Nat) : State :=
  match rq.path with
  | .window c _ =>
    s.access rq (wordAddr rq p w) false fun s =>
      let (x, s) := s.loadWord rq c p w
      s.answer 0 (beBytes 4 x.toNat)
  | _ => s

/-! ### The commands that read -/

/-- READ (R95). Over the window it is a load, of the word of the element's page that follows its first one by `last`. -/
def execRead (rq : Requester) (param : Half) (elem last : Byte) (s : State) : Host.Outcome State Fault Refusal :=
  if rq.onWindow then done (s.load rq param.toNat (pageWord param.toNat elem.toNat + last.toNat))
  else done (s.serve rq fun s =>
    let (bs, s) := s.readOp rq param.toNat elem.toNat (last.toNat + 1)
    s.answerOne rq 0 bs)

/-- READ_INFO (R89, Table 5.6): a WDP operation; the window has none. -/
def execReadInfo (rq : Requester) (param : Half) (elem last : Byte) (s : State) : Host.Outcome State Fault Refusal :=
  if rq.onWindow then done s
  else done (s.serve rq fun s =>
    let (bs, s) := s.infoOp rq param.toNat elem.toNat (last.toNat + 1)
    s.answerOne rq 0 bs)

/-- TIME_NOW_READ (R118): a read of P2000 TimeNow latches the fraction into P2001. -/
def execTimeNowRead (rq : Requester) (s : State) : Host.Outcome State Fault Refusal := execRead rq 0x2000 0 0 s

/-- CUE_READ (R183, R184): a load of one word of P4410 by DC0 in machine mode. The low word takes a word of the cue in
service and latches its high word; the high word reads what was latched (R14). On any other path it reads zero: over the window a word, else the one element. -/
def execCueRead (rq : Requester) (high : Bool) (s : State) : Host.Outcome State Fault Refusal :=
  execRead rq 0x4410 0 (if high && rq.onWindow then 1 else 0) s

end Sys2Proof.Machine
end

