-- ==== Sys2Proof/Machine/Trouble.lean ====
section
/-! DEFINITION. The trouble log's firmware entries and export, the memory scrub, and deferred maintenance activities
(chapter 20). -/
namespace Sys2Proof.Machine

def State.setTrouble (s : State) (t : Trouble) : State := { s with trouble := t }

/-! ### Firmware entries (R424) -/

/-- A write of element `e` of PF203 TroubleWrite: words 3, 4 and 5 of an entry in turn, the third of which enters it. -/
def State.writeTroubleWord (s : State) (e : Nat) (v : Wide) : State :=
  let w : Word := v.setWidth 32
  if e % 4 = 2 then
    let head := SMap.get 0 s.trouble.partials (e - 2)
    let arg0 := SMap.get 0 s.trouble.partials (e - 1)
    s.log (head.toNat / 2 ^ 24) (head.toNat % 2 ^ 16) (head.toNat / 2 ^ 16 % 256) arg0 w
  else if e % 4 = 3 then s
  else s.setTrouble { s.trouble with partials := SMap.set 0 s.trouble.partials e w }

/-! ### Log export (R427) -/

/-- Bytes of an entry in the ring, least significant byte first (R421). -/
def TroubleEntry.bytes (x : TroubleEntry) : List Byte := (List.range 6).flatMap (fun w => leBytes 4 (x.word w))

/-- The export of the ring as it stands, without the entries of this clock: the header, then the entries, oldest first. -/
def State.exportBytes (s : State) : List Byte :=
  let held := s.recallEntries.2
  leBytes 4 s.tns.toNat ++ leBytes 4 s.seconds.toNat ++ leBytes 4 (held.rdN P.TroubleIndex 0) ++
    leBytes 4 held.trouble.ring.length ++ held.trouble.ring.reverse.flatMap TroubleEntry.bytes

/-- A write of PF220 ExportControl. -/
def State.writeExport (s : State) (v : Wide) : State × Byte :=
  if !v.getLsbD 0 then (s, 0)
  else if s.taken Res.scrub then (s.refuseStart, 1)
  else ((s.setTrouble { s.trouble with exporting := some s.exportBytes }).hold Res.scrub Hold.exporting, 0)

/-- LOG_EXPORT_DONE. -/
def execLogExportDone (s : State) : Host.Outcome State Fault Refusal :=
  match s.trouble.exporting with
  | none => done s
  | some b =>
    let s := (s.setTrouble { s.trouble with exporting := none }).setBlob P.TroubleExport b
    done ((s.wr P.ExportSequence 0 ((s.rd P.ExportSequence 0 + 1) &&& 0xFFFFFFFF)).release Res.scrub)

/-- An export that is aborted ends with nothing replaced (R431). -/
def State.abortExport (s : State) : State :=
  if s.trouble.exporting.isSome then (s.setTrouble { s.trouble with exporting := none }).release Res.scrub else s

/-! ### Memory scrub (R428) -/

/-- A scrub begins. -/
def State.startScrub (s : State) : State :=
  let s := s.setTrouble { s.trouble with scrubDeferred := false, scrubStart := some s.clock }
  ((s.wr P.ScrubProgress 0 0).setBit P.ScrubControl 0 1 true).hold Res.scrub Hold.scrub

/-- A scrub ends, having read `n` bytes. -/
def State.endScrub (s : State) (n : Nat) : State :=
  let s := s.setTrouble { s.trouble with scrubStart := none }
  ((s.wr P.ScrubProgress 0 (BitVec.ofNat 64 n)).setBit P.ScrubControl 0 1 false).release Res.scrub

/-- Abort: the scrub ends after the line in progress. -/
def State.abortScrub (s : State) : State := if s.trouble.scrubStart.isSome then s.endScrub s.scrubbed else s

/-- A write of PF310 ScrubControl: a refused start changes nothing (R430). -/
def State.writeScrub (s : State) (v : Wide) : State × Byte :=
  if v.getLsbD 0 && s.taken Res.scrub then (s.refuseStart, 1)
  else
    let s := s.setBit P.ScrubControl 0 3 (v.getLsbD 3)
    let s := if v.getLsbD 2 then s.abortScrub else s
    (if v.getLsbD 0 then s.startScrub else s, 0)

/-- SCRUB_PERIODIC: ScrubInterval after the last scrub ended, while Periodic is set; deferred while the engine is not free. -/
def execScrubPeriodic (s : State) : Host.Outcome State Fault Refusal :=
  if !s.serving || !s.bit P.ScrubControl 0 3 || s.trouble.scrubStart.isSome then done s
  else if s.resourceFree Res.scrub then done s.startScrub
  else done (s.setTrouble { s.trouble with scrubDeferred := true })

/-- Uncorrectable lines, by DRAM address divided by 64: each counted and logged. -/
def State.scrubLines (s : State) : List Word → State
  | [] => s
  | a :: as => State.scrubLines ((s.count P.ScrubUncorrectableCount 0).log 0x1F 0x0080 0 a 0) as

/-- SCRUB_DONE: a pass over the whole DRAM completes. -/
def execScrubDone (corrected : Nat) (uncorrectable : List Word) (s : State) : Host.Outcome State Fault Refusal :=
  if s.trouble.scrubStart.isNone then done s
  else done (((s.countBy P.ScrubCorrectedCount 0 corrected).scrubLines uncorrectable).endScrub dramSize)

/-! ### Deferred starts (R430) -/

/-- MAINTENANCE_DEFERRED_ADMIT: in the clock after the release, deferred activities whose resource is free start; an automatic
Trim run only in Run and Luff (R325). -/
def execMaintenanceDeferredAdmit (s : State) : Host.Outcome State Fault Refusal :=
  let s := if s.trouble.trimDeferred && s.resourceFree Res.adc && s.autoState then s.startTrim true else s
  done (if s.trouble.scrubDeferred && s.resourceFree Res.scrub then s.startScrub else s)

end Sys2Proof.Machine
end

