-- ==== Sys2Proof/Machine/Update.lean ====
section
/-! DEFINITION. Firmware update and the settings store (chapter 19): image writes, health confirmation, the version floor,
and the capture, writing and import of a settings bank. -/
namespace Sys2Proof.Machine

def State.setUpdate (s : State) (u : Update) : State := { s with update := u }
def State.writeState (s : State) (n : Nat) : State := s.setFld P.UpdateStatus 0 4 4 n

/-- The slot whose image runs; none in Recovery. -/
def State.runningSlot (s : State) : Option (Fin 2) :=
  if s.power.phase = .recovery then none else s.power.boot.image

/-! ### Image writes (R407, R408) -/

/-- The target: the slot that does not run; in Recovery the slot of lower rank, A when the two rank equally. -/
def State.imageTarget (s : State) : Fin 2 :=
  match s.runningSlot with
  | some i => 1 - i
  | none => if s.nv.slotA.above s.nv.slotB then 1 else 0

/-- A BlockOpen of PF010 is refused while the running slot is Trial or was booted as a last resort. -/
def State.imageLocked (s : State) : Bool :=
  match s.runningSlot with
  | some i => (s.slotOf i).code == 2 || s.bit P.UpdateStatus 0 10
  | none => false

/-- A write begins: the flash is held, and the target reads Empty from here on. -/
def State.startImage (s : State) (body : List Byte) : State :=
  let i := s.imageTarget
  let s := (s.hold Res.flash Hold.image).setSlot i Slot.empty
  (s.setUpdate { s.update with image := some (i, body) }).wr P.ImageWriteProgress 0 0

/-- The commit that waits for the write of a parameter ends with a status, kept for its poll. -/
def State.endWriting (s : State) (param : Nat) (status : Byte) : State :=
  (List.range 4).foldl (fun s n =>
    let x := s.xfer n
    if x.writing && x.param == param then
      (s.setXfer n { x with state := .free, writing := false, result := some status }).event Ev.blockDone param 0
        (BitVec.ofNat 32 status.toNat)
    else s) s

/-- IMAGE_WRITE_DONE: on a match Generation, then the Written mark; a mismatch leaves the slot Empty and is logged. -/
def execImageWriteDone (mismatch : Option Word) (s : State) : Host.Outcome State Fault Refusal :=
  match s.update.image with
  | none => done s
  | some (i, body) =>
    let s := (s.setUpdate { s.update with image := none }).wr P.ImageWriteProgress 0 (BitVec.ofNat 64 body.length)
    match mismatch with
    | some off => done ((((s.log 0x1F 0x0070 i.val off 0).writeState 5).endWriting P.ImageWrite 2).release Res.flash)
    | none =>
      let g : Word := match s.runningSlot with
        | some j => (s.slotOf j).generation + 1
        | none => 1
      let s := s.setSlot i { Slot.empty with generation := g, written := 0, image := body }
      done (((s.writeState 4).endWriting P.ImageWrite 0).release Res.flash)

/-- A write that is aborted stops after the page in progress and leaves the slot Empty (R408). -/
def State.abortImage (s : State) : State :=
  match s.update.image with
  | none => s
  | some (_, _) =>
    let s := s.wr P.ImageWriteProgress 0 (BitVec.ofNat 64 s.imageProgress)
    (((s.setUpdate { s.update with image := none }).writeState 6)).release Res.flash

/-! ### Health (R410) and the floor (R411) -/

/-- Code of the entry of an expired health timer (Table 20.3). -/
abbrev healthEntry : Nat := 0x0072

/-- The expiry of this clock is taken back with its entry: a confirmation in the clock of expiry wins (R410). `x` is the
running slot as it was. -/
def State.undoExpiry (s : State) (i : Fin 2) (x : Slot) : State :=
  let kept := s.recallEntries.1.filter (fun y => y.code.toNat != healthEntry)
  let s := s.recallEntries.2.enterEntries kept
  let s := (s.setSlot i x).setBit P.UpdateStatus 0 9 false
  { s with now := { s.now with expired := none } }

/-- A write of PF020 HealthConfirm. -/
def State.writeHealth (s : State) (v : Wide) : State × Byte :=
  if v.toNat % 2 ^ 32 ≠ 0x5AFE then (s.log 0x1F 0x0073 0 (v.setWidth 32) 0, 0)
  else
    match s.now.expired, s.runningSlot with
    | some x, some i => (s.undoExpiry i { x with confirmed := 0 }, 0)
    | _, run =>
      if s.bit P.UpdateStatus 0 9 then (s, 2)
      else match s.update.healthTimer, run with
        | some _, some i =>
          ((s.setSlot i { s.slotOf i with confirmed := 0 }).setUpdate { s.update with healthTimer := none }, 0)
        | _, _ => (s, 0)

/-- HEALTH_TIMER_EXPIRY: the running slot is Rejected, HealthExpired is set, and the device goes on. -/
def execHealthTimerExpiry (s : State) : Host.Outcome State Fault Refusal :=
  match s.update.healthTimer, s.runningSlot with
  | some _, some i =>
    let now := { s.now with expired := some (s.slotOf i) }
    let s := ({ s with now := now }.setSlot i { s.slotOf i with rejected := 0 }).setBit P.UpdateStatus 0 9 true
    done ((s.setUpdate { s.update with healthTimer := none }).log 0x1F healthEntry i.val 0 0)
  | _, _ => done s

/-- A write of PF025 FloorRequest. -/
def State.writeFloor (s : State) (v : Wide) : State × Byte :=
  let n := v.toNat % 65536
  match s.runningSlot with
  | some i =>
    if (s.slotOf i).code = 3 ∧ n ≤ (s.slotOf i).version ∧ s.nv.floor.toNat ≤ n then
      ({ s with nv := { s.nv with floor := BitVec.ofNat 16 n } }, 0)
    else (s, 2)
  | none => (s, 2)

/-! ### The settings store (R412 to R415) -/

/-- Least significant byte first, padded to a multiple of 4 (Table 19.5). -/
def settingsRecord (p e : Nat) (ty : PType) (value : List Byte) : List Byte :=
  leBytes 2 p ++ leBytes 1 e ++ [ty.code] ++ leBytes 4 value.length ++ pad4 value

/-- TRG0 to TRG3 are read-only (R139), and an unprogrammed key hash is no setting. -/
def State.storesElement (s : State) (p e : Nat) : Bool :=
  !((0x2080 ≤ p && p ≤ 0x2083 && e < 4) || (p == P.KeyHash && s.nv.keyHash.isNone))

/-- The records of one stored parameter, as it stands. -/
def State.paramRecords (s : State) (r : Row) : List Byte :=
  match r.ty with
  | .str | .blob => if s.storesElement r.num 0 then settingsRecord r.num 0 r.ty (s.body r.num) else []
  | t =>
    (List.range r.elems).flatMap fun e =>
      if s.storesElement r.num e then settingsRecord r.num e t (leBytes t.bytes (s.rdN r.num e)) else []

/-- Stored parameters in the order of their records: ascending, but tables that a content check names go first. -/
def storedRows : List Row :=
  let rows := allRows.filter (·.stored)
  let first := fun (r : Row) => r.num == P.MergeProfiles || r.num == P.CurveTable
  rows.filter first ++ rows.filter (fun r => !first r)

/-- The bytes of a bank around its records (Table 19.4): offset 0 to the end of the records. -/
def bankBytes (format : Half) (sequence : Word) (records : List Byte) : List Byte :=
  let head := leBytes 4 0x5A534554 ++ leBytes 2 format.toNat ++ [0, 0] ++ leBytes 4 sequence.toNat ++ leBytes 4 records.length
  head ++ sha256 (head ++ records) ++ List.replicate 4048 0 ++ records

/-- The sequence of the next save. -/
def State.nextSequence (s : State) : Word := match s.newerBank with
  | some i => (s.bankOf i).sequence + 1
  | none => 1

/-- The bank a save takes: the one that does not hold the newest committed save. -/
def State.saveTarget (s : State) : Fin 2 := match s.newerBank with
  | some i => 1 - i
  | none => 0

/-- A save of given records begins: its bank is erased and stays uncommitted until it ends. -/
def State.startSave (s : State) (records : List Byte) (importing : Bool) : State :=
  let i := s.saveTarget
  let bytes := bankBytes s.update.format s.nextSequence records
  let s := (s.hold Res.flash (if importing then Hold.importing else Hold.save)).setBank i Bank.empty
  (s.setUpdate { s.update with save := some (i, bytes, importing) }).setBit P.SettingsControl 0 1 true

/-- A save or import ends with a LastResult of PF101. -/
def State.endSave (s : State) (result : Nat) (status : Byte) : State :=
  let s := (s.setUpdate { s.update with save := none }).setBit P.SettingsControl 0 1 false
  ((s.setFld P.SettingsStatus 0 12 4 result).endWriting P.SettingsImage status).release Res.flash

/-- An abort before the commit word is programmed: the bank stays uncommitted. -/
def State.abortSave (s : State) : State := if s.update.save.isSome then s.endSave 2 2 else s

/-- A write of PF100 SettingsControl. -/
def State.writeSettings (s : State) (v : Wide) : State × Byte :=
  if v.getLsbD 0 && s.taken Res.flash then (s.refuseStart, 1)
  else
    let s := if v.getLsbD 0 then s.startSave (storedRows.flatMap s.paramRecords) false else s
    (if v.getLsbD 2 then s.abortSave else s, 0)

/-- SETTINGS_SAVE_DONE: the commit word is programmed last; a failed save leaves the bank uncommitted. -/
def execSettingsSaveDone (ok : Bool) (s : State) : Host.Outcome State Fault Refusal :=
  match s.update.save with
  | none => done s
  | some (i, bytes, _) =>
    if ok then done (((s.setBank i { bytes := bytes, commit := 0 }).count P.SettingsSaveCount 0).endSave 1 0)
    else done (s.endSave 3 2)

/-! ### Import (R417) -/

/-- A bank image passes: Magic, Format and Digest. -/
def State.importOk (s : State) (b : List Byte) : Bool :=
  let bank : Bank := { bytes := b, commit := 0 }
  decide (leNat (b.take 4) = 0x5A534554) && bank.format == s.update.format && decide (4096 ≤ b.length) && bank.committed

end Sys2Proof.Machine
end

