-- ==== Sys2Proof/Machine/Triggers.lean ====
section
/-! DEFINITION. The trigger comparators of Halyard (R138 to R141): firing, what a firing drives, writes of their
controls and targets, and the firings that StepDone holds. -/
namespace Sys2Proof.Machine

/-- The destination of a comparator; TRG0 to TRG3 are held to 01h to 04h (R139). -/
def State.trigDest (s : State) (n : Nat) : Nat := if n < 4 then n + 1 else s.fld P.TriggerControl n 16 8

/-- Destinations whose unit acts after the firing: 01h the grid, 02h the latch, 03h and 04h Canvas and Sheet, 07h Kite, 08h
Twin-mast. -/
def unitDests : List Nat := [0x01, 0x02, 0x03, 0x04, 0x07, 0x08]

/-- What one firing drives (Table 6.6). A unit of `unitDests` is asked here, and acts as the firing's command ends, or at the
next idle step where the firing comes of a write. -/
def State.driveTrigger (s : State) (n : Nat) (ntc die : Half) : State :=
  let s := s.raise P.TriggerControl n 7
  let dest := s.trigDest n
  if dest = 0x05 then s.askBurst
  else if dest = 0x06 then (s.ntcConvert (ntc.toNat % 4096)).dieConvert die
  else if 0x10 ≤ dest ∧ dest ≤ 0x1F then
    let code : Byte := BitVec.ofNat 8 (dest - 0x10)
    s.fireEvent code (eventSource code)
  else if unitDests.contains dest then { s with halyard := { s.halyard with drives := s.halyard.drives ++ [dest] } }
  else s

/-- What a firing does to its comparator: a periodic one adds its period, a one-shot one clears Armed, unless its target has
been written in the clock of the firing, which arms it again (R140). -/
def State.settleTrigger (s : State) (n : Nat) : State :=
  if s.trigMode n = 2 then
    let t : T32 := (s.rd P.TriggerTarget n).setWidth 32
    s.wr P.TriggerTarget n ((t + BitVec.ofNat 32 (s.rdN P.TriggerPeriod n)).setWidth 64)
  else if s.trigMode n = 1 && !s.now.written.contains n then s.setBit P.TriggerControl n 1 false
  else s

/-- The domains of every destination but none are stopped: from abort point 3 of an entry to Run (R82, Table 4.3). -/
def State.unitsStopped (s : State) : Bool := match s.power.sleep with
  | .run | .luff => false
  | .entering _ ap => ap ≥ 3
  | _ => true

/-- A firing of comparator `n` is held: StepDone is set, or the domain of its destination is stopped (R82, R141). -/
def State.holdsFiring (s : State) (n : Nat) : Bool :=
  s.stepDone || (s.unitsStopped && s.trigDest n != 0)

/-- A comparator fires. A held firing advances a periodic target, and leaves a one-shot armed until it is released. -/
def State.fireTrigger (s : State) (n : Nat) (ntc die : Half) : State :=
  let s := { s with now := { s.now with fired := n :: s.now.fired } }
  if s.holdsFiring n then (if s.trigMode n = 2 then s.settleTrigger n else s).holdFiring n
  else (s.settleTrigger n).driveTrigger n ntc die

/-- A comparator that can fire: enabled in a mode, armed, and for TRG0 to TRG3 with the grid seeded. -/
def State.triggerLive (s : State) (n : Nat) : Bool :=
  if n < 4 then s.seeded && s.timeRuns
  else s.timeRuns && s.trigEnabled n && s.trigMode n != 0 && s.bit P.TriggerControl n 1

/-- Free ADC codes for a firing that comes of a write. -/
def State.freeCodes (s : State) : Half × Half × State :=
  let (v, s) := s.free
  (v.setWidth 16, (v >>> 16).setWidth 16, s)

/-- One held firing acts. A one-shot whose target is due is done; one written in the meantime keeps its new target armed. The
grid has been seeded anew since TRG0 and TRG1 were held, so their firings set Fired alone (R128, R141). -/
def State.releaseFiring (s : State) (n : Nat) : State :=
  if n < 2 then s.raise P.TriggerControl n 7
  else
    let (ntc, die, s) := s.freeCodes
    let s := if s.trigMode n = 1 && due ((s.rd P.TriggerTarget n).setWidth 32) s.tns then s.setBit P.TriggerControl n 1 false
      else s
    s.driveTrigger n ntc die

/-- Held firings act, every one of them, in comparator order, once neither StepDone nor a stopped domain holds them (R82,
R140, R141). -/
def State.releaseFirings (s : State) : State :=
  if s.stepDone || s.unitsStopped then s
  else
    let held := s.halyard.heldFirings
    held.foldl (fun s x => (List.range x.2).foldl (fun s _ => s.releaseFiring x.1) s)
      { s with halyard := { s.halyard with heldFirings := [] } }

/-- A comparator whose target is past when it is armed or written fires at once (R140). -/
def State.firePast (s : State) (n : Nat) : State :=
  let m := s.trigMode n
  if (m == 1 || m == 2) && s.trigEnabled n && s.bit P.TriggerControl n 1 &&
      due ((s.rd P.TriggerTarget n).setWidth 32) s.tns then
    let (ntc, die, s) := s.freeCodes
    ({ s with now := { s.now with written := s.now.written.filter (· != n) } }).fireTrigger n ntc die
  else s

/-- A write of P2080 for a comparator from TRG4 on. -/
def State.writeTriggerControl (s : State) (n : Nat) (v : Wide) : State × Byte :=
  let mode := field v 2 2
  let on := v.getLsbD 0
  if on ∧ mode = 2 ∧ s.rdN P.TriggerPeriod n = 0 then (s, 2)
  else
    let before := s.rd P.TriggerControl n
    let runs := on && mode != 0
    let fresh := runs && (!before.getLsbD 0 || field before 2 2 != mode)
    let armed := runs && (fresh || before.getLsbD 1)
    let fired := before.getLsbD 7 && (!v.getLsbD 7 || (s.raisedBits P.TriggerControl n).getLsbD 7)
    let s := s.wr P.TriggerControl n
      (BitVec.ofNat 64 (field v 16 8 * 65536 + bitAt 7 fired + mode * 4 + bitAt 1 armed + bitAt 0 on))
    (if fresh then s.firePast n else s, 0)

/-- A write of P2081. An enabled comparator is armed with the written target, and fires at once where that is past; a
periodic one that has fired in the clock of the write adds its period to the written target first (R140). -/
def State.writeTriggerTarget (s : State) (n : Nat) : State :=
  let m := s.trigMode n
  if s.trigEnabled n && (m == 1 || m == 2) then
    let fired := s.now.fired.contains n
    let s := if fired && m == 2 then s.settleTrigger n else s
    (({ s with now := { s.now with written := n :: s.now.written } } : State).setBit P.TriggerControl n 1 true).firePast n
  else s

/-- Writing 1 to StepDone clears it, and the firings it held act (R124, R141). -/
def State.clearStepDone (s : State) : State := if s.stepDone then (s.setBit P.TimeStatus 0 2 false).releaseFirings else s

end Sys2Proof.Machine
end

