-- ==== Sys2Proof/Machine/Applet.lean ====
section
/-! DEFINITION. Applets and the relay to nodes (R399 to R402): image checks, start and stop, the cue mailbox, relay
requests and the bulk queues' room. -/
namespace Sys2Proof.Machine

/-! ### The applet image (Table 18.12) -/

def appletThreads (b : List Byte) : Nat := (b.getD 5 0).toNat
def appletOps (b : List Byte) : Nat := leNat (sliceBytes b 6 2)
def appletWord (b : List Byte) (i : Nat) : Nat := leNat (sliceBytes b (8 + 4 * i) 4)
def appletKey (b : List Byte) : List Byte := sliceBytes b 32 64

/-- Bytes of the applet area (R400). -/
def appletAreaSize : Nat := 2097152

/-- The content checks of a BlockCommit of PE100 (R400). -/
def State.appletImageOk (s : State) (b : List Byte) : Bool :=
  let hash := s.blob P.AppletKeyHash
  let signed := (appletKey b).any (· != 0)
  let length := 96 + 8 * appletThreads b + appletWord b 0 + appletWord b 1 + (if signed then 64 else 0)
  let before := b.take (b.length - 64)
  let sig := b.drop (b.length - 64)
  decide (leNat (b.take 4) = 0x5A415031) && b.getD 4 0 == 1 && decide (length = b.length) &&
    decide (1 ≤ appletThreads b) && decide (appletThreads b ≤ 32) &&
    decide (appletWord b 0 + appletWord b 1 + appletWord b 2 ≤ appletAreaSize) &&
    (hash.all (· == 0) || sha256 (appletKey b) == hash) &&
    (!signed || Config.ecdsaVerify (appletKey b) (sha256 before) sig)

def State.appletState (s : State) : Nat := s.rdN P.AppletState 0

/-- A verified image replaces the one in force. -/
def State.loadApplet (s : State) (b : List Byte) : State := (s.setBlob P.AppletImage b).wr P.AppletState 0 1

/-! ### Start and stop (R401) -/

/-- Applet thread `i` as the thread table gives it, within its three limits. -/
def State.appletThread (s : State) (b : List Byte) (i : Nat) : Thread :=
  let at' := fun (o : Nat) => (b.getD (96 + 8 * i + o) 0).toNat
  let entry := Config.appletArea + leNat (sliceBytes b (96 + 8 * i) 4)
  let t := s.thread (224 + i)
  { t with state := .dormant, cancelPending := false, readyAgain := false, user := true,
           priority := BitVec.ofNat 5 (min (at' 4) (s.rdN P.AppletPriorityMax 0)),
           affinity := BitVec.ofNat 4 (at' 5 / 2 % 4 * 4), flowValid := (BitVec.ofNat 8 (at' 5)).getLsbD 0,
           flow := BitVec.ofNat 6 (48 + at' 6 % 16), event := BitVec.ofNat 8 (at' 7), entryPC := BitVec.ofNat 32 entry }

/-- Set up one applet thread; a core that still runs or holds its predecessor lets it go. -/
def State.setAppletThread (s : State) (b : List Byte) (i : Nat) : State :=
  let n := 224 + i
  let s := s.releaseFlow n
  let s := (List.range 4).foldl (fun s c =>
    let k := s.core c
    s.setCore c { k with running := if k.running = some n then none else k.running,
                         slot := if k.slot = some n then none else k.slot }) s
  s.setThread n (s.appletThread b i)

/-- The protection regions that the kernel grants an applet on a core (R384, R401): region 1 the code, read and execute, to
the next boundary of 4 KiB; region 2 the rest of the applet area, read and write; region 3 the dictionary window, read, and
write unless WindowReadOnly is set. Region 0 is off and names the start of the area. Which regions the kernel takes is the
model's choice. -/
def DeckCore.grantApplet (k : DeckCore) (code : Nat) (readOnly : Bool) : DeckCore :=
  let base := Config.appletArea
  let codeEnd := base + (code + 4095) / 4096 * 4096
  let config : Nat := 0x0D * 2 ^ 8 + 0x0B * 2 ^ 16 + (if readOnly then 0x19 else 0x1B) * 2 ^ 24
  ((((k.wrCsr Csr.pmpaddr (BitVec.ofNat 32 (base / 4))).wrCsr (Csr.pmpaddr + 1) (BitVec.ofNat 32 (codeEnd / 4))).wrCsr
    (Csr.pmpaddr + 2) (BitVec.ofNat 32 ((base + appletAreaSize) / 4))).wrCsr (Csr.pmpaddr + 3) 0x107FFFFF).wrCsr
    Csr.pmpcfg (BitVec.ofNat 32 config)

/-- Grant the regions of the image in force on DC2 and DC3, the cores an applet runs on. -/
def State.grantRegions (s : State) : State :=
  [2, 3].foldl (fun s c =>
    s.setCore c ((s.core c).grantApplet (appletWord (s.blob P.AppletImage) 0) (s.bit P.AppletControl 0 2))) s

/-- The applet area is cleared and takes the code and the data. -/
def State.fillApplet (s : State) (b : List Byte) : State :=
  let base := Config.appletArea
  let clear := { s with sram := s.sram.filter (fun x => x.1 < base || base + appletAreaSize ≤ x.1) }
  clear.setSram base (sliceBytes b (96 + 8 * appletThreads b) (appletWord b 0 + appletWord b 1))

def State.startApplet (s : State) : State :=
  let b := s.blob P.AppletImage
  let n := appletThreads b
  let s := s.fillApplet b
  let s := (List.range n).foldl (fun s i => s.setAppletThread b i) s
  let s := s.grantRegions
  let s := s.wr P.AppletState 0 2
  ((List.range n).foldl (fun s i =>
    if (s.thread (224 + i)).event = 0xFF then s.makeReady (224 + i) 0 else s) s).place

/-- Stop cancels every applet thread. -/
def State.stopApplet (s : State) : State :=
  if s.appletState = 0 then s
  else { s.cancelApplet.wr P.AppletState 0 3 with now := { s.now with appletStopped := true } }

/-- A write of PE101: WindowReadOnly, which a running applet's regions follow, then Start in a state that allows it, then
Stop; a Stop of the same clock goes after the Start, whichever was written first. -/
def State.writeApplet (s : State) (v : Wide) : State :=
  let s := s.setBit P.AppletControl 0 2 (v.getLsbD 2)
  let s := if s.appletState = 2 then s.grantRegions else s
  let s := if v.getLsbD 0 ∧ (s.appletState = 1 ∨ s.appletState = 3 ∨ s.appletState = 4) then s.startApplet else s
  if v.getLsbD 1 || (v.getLsbD 0 && s.now.appletStopped) then s.stopApplet else s

/-! ### Cue ops (R402) -/

/-- An op of the running applet's OpMask. -/
def State.appletHandles (s : State) (op : Nat) : Bool :=
  s.appletState == 2 && decide (16 ≤ op) && (appletOps (s.blob P.AppletImage)).testBit (op - 16)

/-- An action word enters the mailbox, or is dropped and counted when 64 wait. -/
def State.postOp (s : State) (action : Wide) (tag : T32) (frame : Nat) : State :=
  if s.capstan.mailbox.length ≥ 64 then s.count P.AppletOpDropCount 0
  else
    let s := { s with capstan := { s.capstan with mailbox := s.capstan.mailbox ++ [(action, tag, BitVec.ofNat 32 frame)] } }
    s.fireEvent 0x40 (eventSource 0x40)

/-! ### The relay (R399) -/

/-- The sequence of the next bulk frame of a port, and the state with it held as the last. -/
def State.nextBulk (s : State) (p : Nat) : Word × State :=
  let q : Word := BitVec.ofNat 32 (s.fullTime / 524288)
  let n := match SMap.get none s.capstan.bulkSeq p with
    | none => q
    | some last => if future q last then q else last + 1
  (n, { s with capstan := { s.capstan with bulkSeq := SMap.set none s.capstan.bulkSeq p (some n) } })

/-- The kernel queues the relay's one bulk frame (R277, R399). It carries no presentation time (R284): what its header holds there
is a free value; a queue that refuses it is remembered, and takes it when it has room. -/
def State.sendRelay (s : State) (p : Nat) (body : List Byte) : State :=
  let (q, t) := s.nextBulk p
  let stream : Half := BitVec.ofNat 16 (0x8000 + 2 * p + s.power.straps.unitB.toNat)
  let (when', t) := t.free
  let head := s.shroudHeader Cls.bulk 0x40 false stream.toNat q (when'.setWidth 32) 0 0
  let (t, sent) := t.sendBulk p { frame := .bulk stream q (head ++ body), len := shroudLen body.length,
                                  net := some (shroudHead p shroudGroup 49230) }
  if sent then t
  else { s with capstan := { s.capstan with bulkRefused := p :: s.capstan.bulkRefused.filter (· != p) } }

/-- A request body written to PE301: Busy while a relay is pending. -/
def State.relay (s : State) (body : List Byte) : State × Byte :=
  if s.rdN P.RelayStatus 0 = 1 then (s, 1)
  else
    let p := s.rdN P.RelayPort 0
    let s := (s.setBlob P.RelayRequest body).wr P.RelayStatus 0 1
    let s := { s with capstan := { s.capstan with relayPort := p } }
    (s.sendRelay p body, 0)

/-- RELAY_TIMEOUT: the relay in progress has had no response. -/
def execRelayTimeout (s : State) : Host.Outcome State Fault Refusal :=
  if s.rdN P.RelayStatus 0 = 1 then done (s.wr P.RelayStatus 0 3) else done s

/-- BULK_ROOM: a queue that refused a frame has room again; event 21h fires, and a relay that waits goes out. -/
def execBulkRoom (port : Fin 64) (s : State) : Host.Outcome State Fault Refusal :=
  if !s.capstan.bulkRefused.contains port.val then done s
  else
    let s := { s with capstan := { s.capstan with bulkRefused := s.capstan.bulkRefused.filter (· != port.val) } }
    let s := if s.rdN P.RelayStatus 0 = 1 ∧ s.capstan.relayPort = port.val then s.sendRelay port (s.blob P.RelayRequest) else s
    done (s.fireEvent 0x21 (eventSource 0x21))

end Sys2Proof.Machine
end

