-- ==== Sys2Proof/Machine/Limits.lean ====
section
/-! DEFINITION. What a written value may be (R90): ranges, listed values, UTF-8 text, and the ranges that other rules
state of single parameters. -/
namespace Sys2Proof.Machine

/-- A value lies in the bounds of its row, signed types as integers. -/
def Row.inRange (r : Row) (v : Nat) : Bool :=
  let x : Int := match r.ty with
    | .s16 => (BitVec.ofNat 16 v).toInt
    | .s32 => (BitVec.ofNat 32 v).toInt
    | _ => (v : Int)
  decide (r.lo ≤ x) && decide (x ≤ r.hi)

/-- A counter takes only 0 (R13). -/
def Row.counterOk (r : Row) (v : Nat) : Bool := r.cls == .none || v == 0

/-! ### UTF-8 -/

def contByte (b : Byte) : Bool := decide (0x80 ≤ b.toNat) && decide (b.toNat ≤ 0xBF)

/-- Bounds of the second octet after a lead octet. -/
def secondOk (lead second : Byte) : Bool :=
  let x := second.toNat
  match lead.toNat with
  | 0xE0 => decide (0xA0 ≤ x) && decide (x ≤ 0xBF)
  | 0xED => decide (0x80 ≤ x) && decide (x ≤ 0x9F)
  | 0xF0 => decide (0x90 ≤ x) && decide (x ≤ 0xBF)
  | 0xF4 => decide (0x80 ≤ x) && decide (x ≤ 0x8F)
  | _ => contByte second

/-- Valid UTF-8, within `fuel` characters. -/
def utf8Ok : Nat → List Byte → Bool
  | _, [] => true
  | 0, _ :: _ => false
  | fuel + 1, b :: bs =>
    let x := b.toNat
    if x < 0x80 then utf8Ok fuel bs
    else if 0xC2 ≤ x ∧ x ≤ 0xDF then
      match bs with
      | c :: rest => contByte c && utf8Ok fuel rest
      | _ => false
    else if 0xE0 ≤ x ∧ x ≤ 0xEF then
      match bs with
      | c :: d :: rest => secondOk b c && contByte d && utf8Ok fuel rest
      | _ => false
    else if 0xF0 ≤ x ∧ x ≤ 0xF4 then
      match bs with
      | c :: d :: e :: rest => secondOk b c && contByte d && contByte e && utf8Ok fuel rest
      | _ => false
    else false

/-- A STR value: at most 64 bytes of valid UTF-8. -/
def strOk (b : List Byte) : Bool := decide (b.length ≤ 64) && utf8Ok 64 b

/-! ### Ranges stated of single parameters -/

/-- A ring or clip address of R383: 0, or in the host region, at an alignment. -/
def regionOk (v align : Nat) : Bool := v == 0 || (v % align == 0 && decide (0x40000000 ≤ v) && decide (v < dramSize))

/-- Table 12.7. -/
def layoutOk (v : Nat) : Bool :=
  let u := v / 65536
  let e := v / 64 % 1024
  let n := v % 64
  v == 0 || (decide (u ≤ 63999) && decide (1 ≤ e) && decide (e ≤ 512) && decide (1 ≤ n) && decide (n ≤ 12) && decide (e * n ≤ 512))

/-- Ranges of areas P2 to P5. -/
def State.extra25 (s : State) (p e v : Nat) : Bool :=
  if p = P.StampSelect then decide (v % 128 ≤ 0x43)
  else if p = P.StreamColorimetry then v % 4 != 3
  else if p = P.RingBase ∨ p = P.CascadeRingBase then regionOk v 4096
  else if p = P.StreamWidth then v % (pgroup (s.rdN P.StreamFormat e)).2 == 0
  else if p = P.CanvasSize ∨ p = P.LayerClipGeometry then
    decide (1 ≤ v / 65536) && decide (v / 65536 ≤ 16384) && decide (1 ≤ v % 65536) && decide (v % 65536 ≤ 16384)
  else if p = P.LayerControl then decide (v / 256 % 8 ≤ 4)
  else if p = P.LayerClipAddress then regionOk v 256
  else if p = P.LayerClipStride then v % 256 == 0
  else if p = P.GenControl then decide (v % 8 ≤ 4) && v / 64 % 4 != 3
  else true

/-- Ranges of areas P7 to PE. -/
def State.extra7E (s : State) (p v : Nat) : Bool :=
  if p = P.GroupSelect then decide (v / 16 % 128 ≤ 0x40)
  else if p = P.SacnElementLayout then layoutOk v
  else if p = P.CameraRate then decide (v ≤ 18) || v == 0xFF
  else if p = P.CloneSource then decide (v ≤ 0x3F) || v == 0xFF
  else if p = P.WakeControl then decide (v / 65536 % 2048 ≤ 1920)
  else if p = P.MastheadControl then decide (v / 4 % 4 ≤ 1)
  else if p = P.LoopCorrection then decide (s.rdN P.LoopMin 0 ≤ v) && decide (v ≤ 32768)
  else if p = P.DerateStart then decide ((BitVec.ofNat 16 v).toInt < s.rdI P.DerateEnd 0 16)
  else if p = P.DerateEnd then decide (s.rdI P.DerateStart 0 16 < (BitVec.ofNat 16 v).toInt)
  else if p = P.EngineControl then v / 4 % 4 != 3
  else if p = P.AnchorOffset then decide (v < s.rdN P.AnchorInterval 0)
  else if p = P.AnchorInterval then decide (s.rdN P.AnchorOffset 0 < v)
  else if p = P.MirrorLead then decide (2 * s.rdN P.HeartbeatInterval 0 + 500 ≤ v) && decide (v ≤ 50000)
  else if p = P.ApertureBase then v == 1 || (v % 0x8000000 == 0 && decide (v ≤ 0x1F0000000))
  else true

/-- A value may be written to an element. -/
def State.valueOk (s : State) (r : Row) (e v : Nat) : Bool :=
  r.inRange v && r.counterOk v && s.extra25 r.num e v && s.extra7E r.num v

/-- The clone groups as a write of P8050 or P8051 would leave them are in order (R268). -/
def State.clonesAfter (s : State) (p : Nat) (vs : List (Nat × Nat)) : Bool :=
  let at' := fun (q i : Nat) => match vs.find? (fun x => p == q && x.1 == i) with
    | some x => x.2
    | none => s.rdN q i
  !(p == P.CloneSource || p == P.CloneTargets) ||
    clonesOk ((List.range 16).map (fun i => (at' P.CloneSource i, at' P.CloneTargets i)))

end Sys2Proof.Machine
end

