-- ==== Sys2Proof/Machine/Write.lean ====
section
/-! DEFINITION. The dictionary's Write (R89 to R95, R446): the checks in their order, what each parameter's write does,
and what of it is mirrored to the partner (R367, R375). -/
namespace Sys2Proof.Machine

/-- How a write comes: its requester and level, the frame a cue or a mirror record times it to, and whether it is one of
these. -/
structure Via where
  rq : Requester
  level : Nat
  frame : Option Nat
  cue : Bool
  mirror : Bool
  deriving DecidableEq, Repr

/-- A request of a host, of firmware or of Bosun. -/
def State.via (s : State) (rq : Requester) : Via := { rq := rq, level := s.level rq, frame := none, cue := false, mirror := false }

/-! ### Storing and mirroring -/

/-- The frame a write is timed to: the one it came with; of a content-affecting parameter else, on an active unit whose
partner is heard and for mirrored ones, the first frame at least MirrorLead ahead (R367), or the one R19 gives it. -/
def State.timedFrame (s : State) (via : Via) (r : Row) : Option Nat :=
  match via.frame with
  | some k => some k
  | none =>
    if !r.content then none
    else if r.mirrored && s.mirroring && s.seeded && !via.mirror then some s.mirrorFrame
    else s.nextChange

/-- A value held: writable bits as written, W1C bits cleared by ones, the others as they were (R5, R6). -/
def Row.merge (r : Row) (old v : Wide) : Wide :=
  let m := BitVec.ofNat 64 r.mask
  let c := BitVec.ofNat 64 r.w1c
  (old &&& ~~~(m ||| c)) ||| (v &&& m) ||| (old &&& c &&& ~~~v)

/-- What an element holds after a write: a cleared counter keeps the increments of the same clock (R13); a W1C bit that the
device has set in this clock stays set (R5); else as `Row.merge`. -/
def State.written (s : State) (r : Row) (e : Nat) (v : Wide) : Wide :=
  if r.cls = .none then r.merge (s.rd r.num e) (v &&& ~~~(s.raisedBits r.num e &&& BitVec.ofNat 64 r.w1c))
  else BitVec.ofNat 64 (s.tallied r.num e)

/-- What a shadow value was before the writes of this clock, which an AutoCommit of this clock does not see (R218). -/
def State.noteShadow (s : State) (p e : Nat) : State :=
  let k := Dict.key p e
  if P.ProjectionControl ≤ p ∧ p < P.ProjectionCommit ∧ (SMap.find s.now.shadowed k).isNone then
    { s with now := { s.now with shadowed := SMap.insert s.now.shadowed k (s.rd p e) } }
  else s

/-- Hold a written value; a content-affecting one waits for its latch (R19). -/
def State.storeReg (s : State) (via : Via) (r : Row) (e : Nat) (v : Wide) : State :=
  let x := s.written r e v
  let s := if via.frame.isNone then s.noteShadow r.num e else s
  let s := s.wr r.num e x
  if r.content then
    { s with content := s.content ++ [{ key := Dict.key r.num e, value := x, frame := s.timedFrame via r }] }
  else s

/-- A write or a cue admission taken while the partner is lost (R375); the argument names it. -/
def State.splitWrite (s : State) (arg : Word) : State :=
  if s.role == .active && s.paired && s.bit P.TwinStatus 0 21 then
    (s.log 0x1D 0x0051 s.epoch.toNat arg 0).count P.SplitWriteCount 0
  else s

/-- Send a completed write to the partner, or note that it cannot be sent. -/
def State.mirrorWrite (s : State) (via : Via) (r : Row) (e : Nat) (v : Wide) : State :=
  if !r.mirrored || via.mirror then s
  else if s.mirroring then
    let x := if r.acc = .wo then v else s.rd r.num e
    match s.timedFrame via r with
    | some k => s.emit (writeRecord r.num e r.ty x (if via.cue then 6 else 4) (BitVec.ofNat 32 k))
    | none => s.emit (writeRecord r.num e r.ty x 0 0)
  else if via.cue then s
  else s.splitWrite (peArg r.num e)

/-! ### Writes with an effect of their own, by area -/

/-- A life-cycle change that Table 3.8 permits at a level. -/
def State.lifePermitted (s : State) (target level : Nat) : Bool :=
  match s.lifeCycle, target with
  | 0, 1 => decide (3 ≤ level) && s.nv.keyHash.isSome
  | 0, 3 => decide (3 ≤ level)
  | 1, 2 => decide (2 ≤ level) && s.runningSlot.isSome
  | 1, 3 | 2, 3 => decide (2 ≤ level)
  | _, _ => false

/-- A write of P0021 LifeCycleRequest (R62, R63). The model's choices where the rules meet: Busy comes first, and then no
entry is written for a request that Table 3.8 does not permit; a second permitted request before the confirm replaces the
first and its session; a value that P0021 does not list is Range under R90 and writes no entry (`State.writeScalars`). -/
def State.requestLife (s : State) (via : Via) (t : Nat) : State × Byte :=
  if s.power.lifeChange.isSome || s.taken Res.flash then (s, 1)
  else if s.lifePermitted t via.level then
    let s := { s with power := { s.power with lifeRequest := some (BitVec.ofNat 8 t, via.rq.path, via.rq.session) } }
    (s.event Ev.lifeCycle P.LifeCycleRequest 0 (BitVec.ofNat 32 t), 0)
  else (s.log 0x10 0x0005 t 0 0, 2)

/-- A write of P0022 LifeCycleConfirm (R63): the right value confirms in the session of the request and does nothing in
another; any other value cancels the request, whoever writes it. On the deck-core window the session of a request is the
core and its mode, as for R114's marks (the model's choice). -/
def State.confirmLife (s : State) (via : Via) (v : Wide) : State :=
  match s.power.lifeRequest with
  | none => s
  | some (t, path, session) =>
    let asker : Requester := { path := path, session := session, addr := 0, udp := 0 }
    let idle := { s with power := { s.power with lifeRequest := none } }
    if v.toNat % 2 ^ 32 ≠ Config.serialNumber.toNat % 2 ^ 32 then idle
    else if asker.mark != via.rq.mark then s
    else ({ idle with power := { idle.power with lifeChange := some t } }).announceStop

/-- A write of P1020 ResetRequest (R56). Where a reset is pending while an entry or wake is in progress both of R56's sentences
apply; the model answers Busy (its choice). -/
def State.requestReset (s : State) (v : Wide) : State × Byte :=
  if v.toNat % 2 ^ 32 ≠ 0xA55A then (s.log 0x11 0x0011 0 (v.setWidth 32) 0, 0)
  else if s.inTransition then (s, 1)
  else if s.power.resetPending then (s, 0)
  else (({ s with power := { s.power with resetPending := true } }).announceStop, 0)

/-- A write of P1100: the Target under R72 and R80, IdleLuff with a Target that is not refused. -/
def State.writePower (s : State) (v : Wide) : State × Byte :=
  let (s, status) := s.requestPower (field v 0 3)
  if status = 0 then ((s.setBit P.PowerStateRequest 0 3 (v.getLsbD 3)).settleLuff, 0) else (s, status)

/-- Areas P0 and P1. -/
def State.write01 (s : State) (via : Via) (r : Row) (e : Nat) (v : Wide) : State × Byte :=
  let p := r.num
  if p = P.LifeCycleRequest then s.requestLife via v.toNat
  else if p = P.LifeCycleConfirm then (s.confirmLife via v, 0)
  else if p = P.ResetRequest then s.requestReset v
  else if p = P.WatchdogTimeout then
    if v.toNat < 10 ∨ 10000 < v.toNat then (s, 0) else (s.storeReg via r e v, 0)
  else if p = P.WatchdogService then (s.serviceWatchdog, 0)
  else if p = P.PowerStateRequest then s.writePower v
  else (s.storeReg via r e v, 0)

/-- Area P2: time, grid and triggers. -/
def State.write2 (s : State) (via : Via) (r : Row) (e : Nat) (v : Wide) : State × Byte :=
  let p := r.num
  if p = P.TimeSource ∨ p = P.Profile ∨ p = P.DomainNumber then ((s.storeReg via r e v).restartTime, 0)
  else if p = P.TimeStatus then
    let v := v &&& ~~~(s.raisedBits P.TimeStatus 0)
    let s := if v.getLsbD 0 then s.setBit P.TimeStatus 0 0 false else s
    (if v.getLsbD 2 then s.clearStepDone else s, 0)
  else if p = P.ShowFrameRate then
    let s := s.wr p e v
    (s.setGrid { s.halyard.grid with rateChanged := decide (v.toNat ≠ s.halyard.grid.rate) }, 0)
  else if p = P.GridSeed then
    let s := s.wr p e v
    if e = 3 then
      let s := s.seedGrid
      (if s.mirroring then s.emitTime else s, 0)
    else (s, 0)
  else if p = P.TriggerControl then s.writeTriggerControl e v
  else if p = P.TriggerTarget then ((s.wr p e v).writeTriggerTarget e, 0)
  else if p = P.StayPtpEnable ∨ p = P.StaySlaveOnly ∨ p = P.Priority1 ∨ p = P.Priority2 then
    ((s.storeReg via r e v).runBmca, 0)
  else if p = P.WrapCount then ((s.storeReg via r e v).checkEra, 0)
  else (s.storeReg via r e v, 0)

/-- A write of P3000 StayControl: Rate and RsFec hold while the port is enabled; Enable clears the transmit-fault lockout
(R145) and brings up the SerDes PLL. -/
def State.writeStay (s : State) (p : Nat) (v : Wide) : State × Byte :=
  let was := s.stayEnabled p
  let any := (List.range 4).any s.stayEnabled
  let on := v.getLsbD 0
  if was && s.fld P.StayControl p 1 2 != field v 1 2 then (s, 2)
  else
    let s := s.wr P.StayControl p (BitVec.ofNat 64 (v.toNat % 8))
    if was && !on then (s.stayDown p, 0)
    else if !was && on then
      let s := s.setBit P.StayStatus p 5 false
      let s := s.setStayPort p { s.stayPort p with faultStage := 0 }
      (if any then s.setBit P.StayStatus p 6 (s.bit P.PllLockStatus 0 2) else s.setLock 2 true, 0)
    else (s, 0)

/-- Pixel rate of one stream in pixels per 1,001 s, times 1,000 under its rate code (R162). -/
def State.pixelRate (s : State) (n : Nat) : Nat :=
  let c := s.rdN P.StreamRate n
  s.rdN P.StreamWidth n * s.rdN P.StreamHeight n * rateN c * (if rateA c = 1001000000 then 1000 else 1001)

/-- The enabled streams and stream `n` together keep the pixel rate of R162. -/
def State.pixelsFit (s : State) (n : Nat) : Bool :=
  decide ((((List.range 8).filter (fun i => i == n || s.bit P.StreamControl i 0)).map s.pixelRate).foldl (· + ·) 0 ≤
    1990656000 * 1001)

/-- A stream or cascade input may not be changed: enabled, or its ring is still in use (R153). -/
def State.streamBusy (s : State) (n : Nat) : Bool := s.bit P.StreamControl n 0 || (s.vid n).ring.inUse
def State.cascadeBusy (s : State) (n : Nat) : Bool := s.bit P.CascadeControl n 0 || (s.casc n).ring.inUse

/-- A write of P3100 StreamControl (R153, R159, R162). -/
def State.writeStream (s : State) (via : Via) (r : Row) (n : Nat) (v : Wide) : State × Byte :=
  let was := s.bit P.StreamControl n 0
  let on := v.getLsbD 0
  let other := field v 1 7 != s.fld P.StreamControl n 1 7
  if s.streamBusy n && other then (s, 2)
  else if !was && on && (s.vid n).ring.inUse then (s, 1)
  else if !was && on && !s.pixelsFit n then (s, 2)
  else
    let s := s.storeReg via r n v
    (if !was && on then s.startVideo n else s, 0)

/-- A write of P3300 CascadeControl: the same rules (Table 7.6). -/
def State.writeCascade (s : State) (via : Via) (r : Row) (n : Nat) (v : Wide) : State × Byte :=
  let was := s.bit P.CascadeControl n 0
  let on := v.getLsbD 0
  if s.cascadeBusy n && field v 8 8 != s.fld P.CascadeControl n 8 8 then (s, 2)
  else if !was && on && (s.casc n).ring.inUse then (s, 1)
  else
    let s := s.storeReg via r n v
    (if !was && on then s.startCascade n else s, 0)

/-- The stream an element of a stream parameter belongs to. -/
def streamOf (p e : Nat) : Nat :=
  if p = P.StreamGroupV4 ∨ p = P.StreamSourceV4 ∨ p = P.StreamUdpPort then e / 2
  else if p = P.StreamGroupV6 ∨ p = P.StreamSourceV6 then e / 8
  else e

/-- Area P3. -/
def State.write3 (s : State) (via : Via) (r : Row) (e : Nat) (v : Wide) : State × Byte :=
  let p := r.num
  if p = P.StayControl then s.writeStay e v
  else if p = P.StreamControl then s.writeStream via r e v
  else if P.StreamGroupV4 ≤ p ∧ p ≤ P.MergeHold then
    if s.streamBusy (streamOf p e) then (s, 2) else (s.storeReg via r e v, 0)
  else if p = P.CascadeControl then s.writeCascade via r e v
  else if P.CascadeStream ≤ p ∧ p ≤ P.CascadeLag then
    if s.cascadeBusy e then (s, 2) else (s.storeReg via r e v, 0)
  else (s.storeReg via r e v, 0)

/-! ### Cue words (R181) -/

/-- Buffer and Source code of a cue's writer: the core, 4 for Bosun, 10h and the session for WDP (Table 8.5). -/
def cueWriter (rq : Requester) : Nat := rq.code % 256

/-- A completed cue: filled in, admitted, mirrored or noted; false where the queue lacks room for it (R182). -/
def State.submitCue (s : State) (via : Via) (words : List Wide) : State × Bool :=
  let ws := fillCue (cueWriter via.rq) via.level words
  let n := s.cue.nextAdmission
  let (s, ok) := s.admitCue ws
  if !ok then (s, false)
  else if s.mirroring then (s.emit (cueAdmitRecord n ws), true)
  else (s.splitWrite 0xFFFFFFFF, true)

/-- One word written to P4400; false where it ends a cue that the queue has no room for. -/
def State.writeCueWord (s : State) (via : Via) (w : Wide) : State × Bool :=
  let (s, whole) := s.cueWord (cueWriter via.rq) w
  match whole with
  | some ws => s.submitCue via ws
  | none => (s, true)

/-- The words of one Write operation, in element order: every word enters, and a cue that found no room makes the
operation answer Busy (R182). -/
def State.writeCueWords (s : State) (via : Via) : List Nat → State × Byte
  | [] => (s, 0)
  | w :: ws =>
    let (s, ok) := s.writeCueWord via (BitVec.ofNat 64 w)
    let (s, status) := State.writeCueWords s via ws
    (s, if ok then status else 1)

/-- Areas P4, P5 and P6. -/
def State.write456 (s : State) (via : Via) (r : Row) (e : Nat) (v : Wide) : State × Byte :=
  let p := r.num
  if p = P.LayerCommit then
    let (s, ok) := s.commitLayers e v.toNat (s.timedFrame via r)
    (s, if ok then 0 else 3)
  else if p = P.FrameCommit then (s.commitFrames e v.toNat (s.timedFrame via r), 0)
  else if p = P.ProjectionCommit then (s.commitProjections v.toNat (s.timedFrame via r), 0)
  else (s.storeReg via r e v, 0)

/-- A write of P9001 PhyControl: LpiCapable is not the host's under auto-negotiation; Enable to 0 takes the link down. -/
def State.writePhy (s : State) (p : Nat) (v : Wide) : State :=
  let was := s.shroudEnabled p
  let lpi := if v.getLsbD 6 then s.bit P.PhyControl p 7 else v.getLsbD 7
  let s := s.wr P.PhyControl p (BitVec.ofNat 64 (v.toNat % 128 / 16 * 16 + bitAt 7 lpi + bitAt 0 (v.getLsbD 0)))
  if was && !v.getLsbD 0 then s.shroudDown p else s

/-- Wake pattern registers of the pattern that P9300 selects. -/
def State.writePattern (s : State) (i : Nat) (v : Wide) : State :=
  let sel := s.rdN P.WakeSelect 0
  s.setPatternWord (sel / 8 % 64) (sel % 8) i v

/-- Areas P7, P8 and P9. -/
def State.write789 (s : State) (via : Via) (r : Row) (e : Nat) (v : Wide) : State × Byte :=
  let p := r.num
  if p = P.GroupSelect then ((s.storeReg via r e v).showGroup, 0)
  else if p = P.LpiEnable then
    let s := s.storeReg via r e v
    ((List.range 64).foldl (fun s i => if v.getLsbD i then s.servePort i else s.wakeLpi i) s, 0)
  else if p = P.PortMinMargin then (s.wr p e 0xFFFFFFFF, 0)
  else if p = P.PhyControl then (s.writePhy e v, 0)
  else if p = P.WakeControl then (s.writePattern 0 (v &&& 0x07FF0001), 0)
  else if p = P.WakeMask then (s.writePattern (1 + e) v, 0)
  else if p = P.WakeCrc then (s.writePattern 5 v, 0)
  else if p = P.SnapshotControl then s.writeSnapshot v
  else if p = P.SnapshotAt then ((s.storeReg via r e v).captureDue, 0)
  else if p = P.CableTestControl then s.writeCableTest v
  else (s.storeReg via r e v, 0)

/-- A write of PA042 SwitchLatched: a row released counts its faults anew. -/
def State.writeLatched (s : State) (via : Via) (r : Row) (v : Wide) : State :=
  let v := v &&& ~~~(s.raisedBits P.SwitchLatched 0)
  let s := s.storeReg via r 0 v
  (List.range 16).foldl (fun s i =>
    if v.getLsbD i then s.setMast { s.masthead with rowFaults := SMap.set 0 s.masthead.rowFaults i 0 } else s) s

/-- Areas PA, PB and PC. -/
def State.writeABC (s : State) (via : Via) (r : Row) (e : Nat) (v : Wide) : State × Byte :=
  let p := r.num
  if p = P.RasterCommit then (s.commitRaster v.toNat, 0)
  else if p = P.LoopCapture then (s.captureLoop v.toNat, 0)
  else if p = P.SwitchLatched then (s.writeLatched via r v, 0)
  else if p = P.EngineControl then
    ((s.storeReg via r e v).writeEngine e (s.rd P.EngineControl e), 0)
  else if p = P.EngineStart then (s.startEngines v.toNat 0, 0)
  else if p = P.EngineStop then (s.stopEngines v.toNat, 0)
  else if p = P.TrimControl then s.writeTrim v
  else if P.SinkTrim ≤ p ∧ p ≤ P.SensorTrim then s.writeTrimCode p e v
  else if p = P.KiteControl then
    let s := s.storeReg via r e v
    ((if v.getLsbD 0 then s else s.clearKite).checkEra, 0)
  else if p = P.KeyEra ∨ p = P.TxKeyIndex then ((s.storeReg via r e v).checkEra, 0)
  else (s.storeReg via r e v, 0)

/-- What a PD000 value does as it takes effect (Table 17.7, R379). -/
def State.applyTwinControl (s : State) (v : Word) : State :=
  let was := s.paired
  let s := s.wr P.TwinControl 0 ((v &&& 0xF3).setWidth 64)
  let s := s.setTwin { s.twin with controlPending := none }
  (if !was && s.paired then s.becomeJoining else if was && !s.paired then s.becomeSolo else s).syncAllGroups

/-- A write of PD000 TwinControl: at the next latch, or at once while the grid has no seed (R379). -/
def State.writeTwinControl (s : State) (v : Wide) : State :=
  let x : Word := v.setWidth 32 &&& 0xF3
  if s.seeded then s.setTwin { s.twin with controlPending := some x } else s.applyTwinControl x

/-- Areas PD, PE and PF. -/
def State.writeDEF (s : State) (via : Via) (r : Row) (e : Nat) (v : Wide) : State × Byte :=
  let p := r.num
  if p = P.TwinControl then (s.writeTwinControl v, 0)
  else if p = P.RoleRequest then s.requestRole (v.setWidth 8)
  else if p = P.PreemptFloor then ((s.storeReg via r e v).place, 0)
  else if p = P.AppletControl then (s.writeApplet v, 0)
  else if p = P.HealthConfirm then s.writeHealth v
  else if p = P.FloorRequest then s.writeFloor v
  else if p = P.SettingsControl then s.writeSettings v
  else if p = P.TroubleWrite then (s.writeTroubleWord e v, 0)
  else if p = P.ExportControl then s.writeExport v
  else if p = P.ScrubControl then s.writeScrub v
  else (s.storeReg via r e v, 0)

/-- Parameters that decide which multicast groups the stay ports have joined (R150). -/
def groupParams : List Nat :=
  [P.StayControl, P.StayIpv4, P.StayPtpEnable, P.StreamControl, P.SacnEnable, P.SacnIpMode, P.SacnPortMask, P.ExpressEnable,
   P.ExpressGroupV4, P.ExpressGroupV6, P.StayGroupV4, P.StayGroupV6]

/-- One element of a permitted write: its effect and its status; a completed one goes to the partner. -/
def State.writeElement (s : State) (via : Via) (r : Row) (e : Nat) (v : Wide) : State × Byte :=
  let (t, status) := match r.num / 0x1000 with
    | 0 | 1 => s.write01 via r e v
    | 2 => s.write2 via r e v
    | 3 => s.write3 via r e v
    | 4 | 5 | 6 => s.write456 via r e v
    | 7 | 8 | 9 => s.write789 via r e v
    | 10 | 11 | 12 => s.writeABC via r e v
    | _ => s.writeDEF via r e v
  let t := if groupParams.contains r.num then t.syncAllGroups else t
  if status = 0 then (t.mirrorWrite via r e v, 0) else (t, status)

/-! ### The operation -/

/-- A parameter that is RO for this access: by its row, TickIncrement outside Local, KeyHash beyond Open, PF203 outside
machine mode, PF020 on a window but DC0's. -/
def State.readOnly (s : State) (via : Via) (r : Row) : Bool :=
  r.acc == .ro || (r.num == P.TickIncrement && s.timeState != Ts.local) || (r.num == P.KeyHash && s.lifeCycle != 0) ||
    (r.num == P.TroubleWrite && !(match via.rq.path with
      | .window _ m => m
      | _ => false)) ||
    (r.num == P.HealthConfirm && via.rq.onWindow && !via.rq.kernelMode)

/-- An element that a write reaches: defined, and not of TRG0 to TRG3 (R139); every fourth element of PF203 is undefined. -/
def writable (r : Row) (e : Nat) : Bool :=
  decide (e < r.elems) && !(decide (0x2080 ≤ r.num) && decide (r.num ≤ 0x2083) && decide (e < 4)) &&
    !(r.num == P.TroubleWrite && e % 4 == 3)

/-- A write to a mirrored parameter, or to CueWrite, on a unit that does not decide (R93). -/
def State.notActive (s : State) (via : Via) (r : Row) : Bool :=
  !via.mirror && (r.mirrored || r.num == P.CueWrite) && !s.commands

/-- The elements of a write with their values, in order. -/
def splitValues (w e : Nat) : Nat → List Byte → List (Nat × Nat)
  | 0, _ => []
  | n + 1, bs => (e, beNat (bs.take w)) :: splitValues w (e + 1) n (bs.drop w)

/-- Write elements one after another; the first that is not taken answers for the whole, and undoes the rest. -/
def State.writeAll (s : State) (via : Via) (r : Row) : List (Nat × Nat) → State → State × Byte
  | [], t => (t, 0)
  | (e, v) :: xs, t =>
    let (u, status) := t.writeElement via r e (BitVec.ofNat 64 v)
    if status = 0 then State.writeAll s via r xs u
    else ((s.writeElement via r e (BitVec.ofNat 64 v)).1, status)

/-- A write of a STR parameter. -/
def State.writeStr (s : State) (via : Via) (r : Row) (data : List Byte) : State × Byte :=
  if !strOk data then (s, 3)
  else
    let s := s.setBlob r.num data
    if !r.mirrored || via.mirror then (s, 0)
    else if s.mirroring then (s.emitBlob r.num data false, 0)
    else (s.splitWrite (peArg r.num 0), 0)

/-- A write of `n` elements of a scalar parameter from `e`. -/
def State.writeScalars (s : State) (via : Via) (r : Row) (e n : Nat) (data : List Byte) : State × Byte :=
  let w := r.ty.bytes
  let vs := (splitValues w e n data).filter (fun x => writable r x.1)
  if vs.isEmpty then (s.violate via.rq r.num e, 0)
  else if data.length ≠ n * w then (s, 4)
  else
    let t := if vs.length < n then s.violate via.rq r.num e else s
    if s.notActive via r then (t, 0x0C)
    else if !(vs.all (fun x => s.valueOk r x.1 x.2)) || !s.clonesAfter r.num vs then (t, 3)
    else if r.num = P.CueWrite then t.writeCueWords via (vs.map (·.2))
    else t.writeAll via r vs t

/-- A Write operation: its status, after the checks in the order of R89, R95, R93 and R90. A Write of a mirrored BLOB on a
unit that does not decide answers NotActive before Refused (the model's choice: R93 and R446 both apply). -/
def State.writeOp (s : State) (via : Via) (p e n : Nat) (data : List Byte) : State × Byte :=
  match Dict.row p with
  | none => (s.violate via.rq p e, 0)
  | some r =>
    if s.readOnly via r || decide (via.level < r.writeLevel) || !s.reaches p true then (s.violate via.rq p e, 0)
    else
      match r.ty with
      | .str =>
        if r.beyond e n then (s.violate via.rq p e, 0)
        else if s.notActive via r then (s, 0x0C)
        else s.writeStr via r data
      | .blob =>
        if r.beyond e n then (s.violate via.rq p e, 0)
        else if s.notActive via r then (s, 0x0C)
        else (s, 2)
      | _ => s.writeScalars via r e n data

end Sys2Proof.Machine
end

