-- ==== Sys2Proof/Machine/Rows.lean ====
section
/-! DEFINITION. The commands that are one write to one parameter, each by its own row of the opcode table. -/
namespace Sys2Proof.Machine

/-- A STR as the window stores a word of it: its text padded with zeros to 16 words, a word replaced, and the zeros at its end
left away (R113). -/
def strWithWord (b : List Byte) (w : Nat) (v : Word) : List Byte :=
  let x := b ++ List.replicate (64 - b.length) 0
  ((x.take (4 * w) ++ leBytes 4 v.toNat ++ x.drop (4 * w + 4)).reverse.dropWhile (· == 0)).reverse

/-- A store by a deck core: a write of one element, or of one word of a STR. The command carries the whole value of a U64
element, of which firmware stores both words. -/
def State.store (s : State) (rq : Requester) (p e : Nat) (data : List Byte) : State :=
  s.access rq (wordAddr rq p (pageWord p e)) true fun s =>
    let isStr : Bool := match Dict.row p with
      | some r => r.ty == .str
      | none => false
    let (s, status) :=
      if isStr then
        if e < 16 then s.writeOp (s.via rq) p 0 1 (strWithWord (s.body p) e (BitVec.ofNat 32 (beNat data)))
        else (s.violate rq p e, 0)
      else s.writeOp (s.via rq) p e 1 data
    s.answer status []

/-- Stores to successive elements, in program order. -/
def State.stores (s : State) (rq : Requester) (p w : Nat) : Nat → Nat → List Byte → State
  | _, 0, _ => s
  | e, n + 1, data => State.stores (s.store rq p e (data.take w)) rq p w (e + 1) n (data.drop w)

/-- Bytes of an element as a store of it carries them. -/
def storeWidth (p : Nat) : Nat := match Dict.row p with
  | some r => match r.ty with
    | .str | .blob => 4
    | t => t.bytes
  | none => 4

/-- A write operation as a whole request: its effect, and its answer. Over the window it is a store for each element. -/
def State.serveWrite (s : State) (rq : Requester) (p e n : Nat) (data : List Byte) : State :=
  if rq.onWindow then s.stores rq p (storeWidth p) e n data
  else s.serve rq fun s =>
    let (s, status) := s.writeOp (s.via rq) p e n data
    s.answerOne rq status []

/-- One element at the width of its type. -/
def State.serveOne (s : State) (rq : Requester) (p e v : Nat) : State :=
  match Dict.row p with
  | some r => s.serveWrite rq p e 1 (beBytes r.ty.bytes v)
  | none => s.serveWrite rq p e 1 []

/-- The write reaches a defined parameter that this requester may write. -/
def State.permits (s : State) (rq : Requester) (p : Nat) : Bool :=
  match Dict.row p with
  | some r => !s.readOnly (s.via rq) r && decide (r.writeLevel ≤ s.level rq) && s.reaches p true
  | none => false

/-- An abort that meets its activity's completion in one clock: Completed, and nothing changes (R331, R431). -/
def State.serveAbort (s : State) (rq : Requester) (p v : Nat) (sameClock : Bool) : State :=
  if sameClock && s.permits rq p then
    s.access rq (wordAddr rq p (pageWord p 0)) true (fun s => s.answerOne rq 0x0D [])
  else s.serveOne rq p 0 v

/-! ### Any parameter -/

/-- A value fits the type of a row as a window word carries it: zero-extended, or sign-extended for a signed type. -/
def Row.fits (r : Row) (v : Wide) : Bool :=
  let x := v.toNat
  match r.ty with
  | .u8 | .bool | .enum => decide (x < 2 ^ 8)
  | .u16 => decide (x < 2 ^ 16)
  | .s16 => decide (x < 2 ^ 16) || (v.setWidth 32 == (v.setWidth 16).signExtend 32 && decide (x < 2 ^ 32))
  | .u32 | .s32 | .t32 => decide (x < 2 ^ 32)
  | .u64 | .str | .blob => true

/-- Bytes of a value as a STR carries them: most significant first, without leading zeros. -/
def strValue (v : Wide) : List Byte := (beBytes 8 v.toNat).dropWhile (· == 0)

/-- A write of one value to any element: a value too wide for the type is out of range (R90). -/
def State.serveValue (s : State) (rq : Requester) (p e : Nat) (v : Wide) : State :=
  match Dict.row p with
  | none => s.serveWrite rq p e 1 []
  | some r =>
    if r.ty = .str then s.serveWrite rq p e 1 (if rq.onWindow then beBytes 4 v.toNat else strValue v)
    else if !r.fits v && s.permits rq p && writable r e then
      s.access rq (wordAddr rq p (pageWord p e)) true (fun s => s.answerOne rq (if s.notActive (s.via rq) r then 0x0C else 3) [])
    else s.serveWrite rq p e 1 (beBytes r.ty.bytes v.toNat)

/-- WRITE (R95): a request of one Write operation; a cue left partial ends with it (R181). -/
def execWrite (rq : Requester) (param : Half) (elem last : Byte) (data : List Byte) (s : State) :
    Host.Outcome State Fault Refusal :=
  let s := s.serveWrite rq param.toNat elem.toNat (last.toNat + 1) data
  done (if rq.onWindow || param.toNat != P.CueWrite then s else s.endCueRequest (cueWriter rq))

/-- REGISTER_WRITE (R91); on another path than the window it is a request, with which a partial cue ends (R181). -/
def execRegisterWrite (rq : Requester) (param : Half) (elem : Byte) (value : Wide) (s : State) :
    Host.Outcome State Fault Refusal :=
  let s := s.serveValue rq param.toNat elem.toNat value
  done (if rq.onWindow || param.toNat != P.CueWrite then s else s.endCueRequest (cueWriter rq))

/-- COUNTER_CLEAR (R13). -/
def execCounterClear (rq : Requester) (param : Half) (elem : Byte) (value : Wide) (s : State) :
    Host.Outcome State Fault Refusal :=
  done (s.serveValue rq param.toNat elem.toNat value)

/-! ### Reset, life cycle and power -/

/-- WATCHDOG_SERVICE (R56). -/
def execWatchdogService (rq : Requester) (value : Word) (s : State) : Host.Outcome State Fault Refusal :=
  done (s.serveOne rq P.WatchdogService 0 value.toNat)

/-- RESET_REQUEST (R56). -/
def execResetRequest (rq : Requester) (value : Word) (s : State) : Host.Outcome State Fault Refusal :=
  done (s.serveOne rq P.ResetRequest 0 value.toNat)

/-- LIFE_CYCLE_REQUEST (R63). -/
def execLifeCycleRequest (rq : Requester) (target : Byte) (s : State) : Host.Outcome State Fault Refusal :=
  done (s.serveOne rq P.LifeCycleRequest 0 target.toNat)

/-- LIFE_CYCLE_CONFIRM (R63, R64). -/
def execLifeCycleConfirm (rq : Requester) (value : Word) (s : State) : Host.Outcome State Fault Refusal :=
  done (s.serveOne rq P.LifeCycleConfirm 0 value.toNat)

/-- POWER_STATE_REQUEST (R72, R80). -/
def execPowerStateRequest (rq : Requester) (value : Word) (s : State) : Host.Outcome State Fault Refusal :=
  done (s.serveOne rq P.PowerStateRequest 0 value.toNat)

/-! ### Time -/

/-- TIME_CONFIG_WRITE (R120): P2003, P2020 or P2021. -/
def execTimeConfigWrite (rq : Requester) (which : Fin 3) (value : Byte) (s : State) : Host.Outcome State Fault Refusal :=
  let p := if which = 0 then P.TimeSource else if which = 1 then P.Profile else P.DomainNumber
  done (s.serveOne rq p 0 value.toNat)

/-- STEP_DONE_CLEAR (R124): a 1 written to bit 2 of P2004. -/
def execStepDoneClear (rq : Requester) (s : State) : Host.Outcome State Fault Refusal :=
  done (s.serveOne rq P.TimeStatus 0 4)

/-- GRID_SEED (R127): the write of element 03. -/
def execGridSeed (rq : Requester) (remainder : Word) (s : State) : Host.Outcome State Fault Refusal :=
  done (s.serveOne rq P.GridSeed 3 remainder.toNat)

/-- TRIGGER_TARGET_WRITE (R140). -/
def execTriggerTargetWrite (rq : Requester) (period : Bool) (trigger : Fin 16) (value : Word) (s : State) :
    Host.Outcome State Fault Refusal :=
  done (s.serveOne rq (if period then P.TriggerPeriod else P.TriggerTarget) trigger value.toNat)

/-! ### Ingest, cues and commits -/

/-- STREAM_CONTROL_WRITE (R153). -/
def execStreamControlWrite (rq : Requester) (stream : Fin 8) (value : Word) (s : State) : Host.Outcome State Fault Refusal :=
  done (s.serveOne rq P.StreamControl stream value.toNat)

/-- CUE_WRITE (R181): words written to P4400 in order; `requestEnds` tells that the request is over. -/
def execCueWrite (rq : Requester) (words : List Wide) (requestEnds : Bool) (s : State) : Host.Outcome State Fault Refusal :=
  let s := if words.isEmpty then s
    else s.serveWrite rq P.CueWrite 0 words.length (words.flatMap (fun w => beBytes 8 w.toNat))
  done (if requestEnds then s.endCueRequest (cueWriter rq) else s)

/-- LAYER_COMMIT (R201). -/
def execLayerCommit (rq : Requester) (canvas : Fin 8) (value : Word) (s : State) : Host.Outcome State Fault Refusal :=
  done (s.serveOne rq P.LayerCommit canvas value.toNat)

/-- FRAME_COMMIT (R201). -/
def execFrameCommit (rq : Requester) (canvas : Fin 8) (value : Half) (s : State) : Host.Outcome State Fault Refusal :=
  done (s.serveOne rq P.FrameCommit canvas value.toNat)

/-- PROJECTION_COMMIT (R218). -/
def execProjectionCommit (rq : Requester) (value : Byte) (s : State) : Host.Outcome State Fault Refusal :=
  done (s.serveOne rq P.ProjectionCommit 0 value.toNat)

/-! ### Shroud ports and Masthead -/

/-- SNAPSHOT_TAKE (R292). -/
def execSnapshotTake (rq : Requester) (value : Word) (s : State) : Host.Outcome State Fault Refusal :=
  done (s.serveOne rq P.SnapshotControl 0 value.toNat)

/-- CABLE_TEST_START (R296). -/
def execCableTestStart (rq : Requester) (value : Word) (s : State) : Host.Outcome State Fault Refusal :=
  done (s.serveOne rq P.CableTestControl 0 value.toNat)

/-- CABLE_TEST_ABORT (R297); Force stays as it is. -/
def execCableTestAbort (rq : Requester) (sameClock : Bool) (s : State) : Host.Outcome State Fault Refusal :=
  done (s.serveAbort rq P.CableTestControl (4 + bitAt 3 (s.bit P.CableTestControl 0 3)) sameClock)

/-- RASTER_COMMIT (R309). -/
def execRasterCommit (rq : Requester) (frame : Byte) (s : State) : Host.Outcome State Fault Refusal :=
  done (s.serveOne rq P.RasterCommit 0 frame.toNat)

/-- LOOP_CAPTURE (R312). -/
def execLoopCapture (rq : Requester) (value : Byte) (s : State) : Host.Outcome State Fault Refusal :=
  done (s.serveOne rq P.LoopCapture 0 value.toNat)

/-- ENGINE_START (R321); `stopped` names the engines that a stop of the same clock takes. -/
def execEngineStart (rq : Requester) (value stopped : Byte) (s : State) : Host.Outcome State Fault Refusal :=
  let s := s.serveOne rq P.EngineStart 0 value.toNat
  done (if s.permits rq P.EngineStop && s.pathServes rq && s.sessionOk rq &&
      !s.faults rq (wordAddr rq P.EngineStop 0) true then
    s.stopEngines stopped.toNat else s)

/-- ENGINE_STOP (R321). -/
def execEngineStop (rq : Requester) (value : Byte) (s : State) : Host.Outcome State Fault Refusal :=
  done (s.serveOne rq P.EngineStop 0 value.toNat)

/-! ### Trim -/

/-- TRIM_START (R324). -/
def execTrimStart (rq : Requester) (value : Word) (s : State) : Host.Outcome State Fault Refusal :=
  done (s.serveOne rq P.TrimControl 0 value.toNat)

/-- TRIM_ABORT (R331); the targets and AutoEnable stay as they are. -/
def execTrimAbort (rq : Requester) (sameClock : Bool) (s : State) : Host.Outcome State Fault Refusal :=
  done (s.serveAbort rq P.TrimControl (2 + 16 * s.fld P.TrimControl 0 4 4) sameClock)

/-- TRIM_CODE_WRITE (R332): SinkTrim, PdOffsetTrim, PdGainTrim or SensorTrim. -/
def execTrimCodeWrite (rq : Requester) (param : Fin 4) (elem value : Byte) (s : State) : Host.Outcome State Fault Refusal :=
  done (s.serveOne rq (P.SinkTrim + param) elem.toNat value.toNat)

/-! ### Twin-mast and applets -/

/-- ROLE_REQUEST (R374). -/
def execRoleRequest (rq : Requester) (value : Byte) (s : State) : Host.Outcome State Fault Refusal :=
  done (s.serveOne rq P.RoleRequest 0 value.toNat)

/-- TWIN_CONTROL_WRITE (R379). -/
def execTwinControlWrite (rq : Requester) (value : Word) (s : State) : Host.Outcome State Fault Refusal :=
  done (s.serveOne rq P.TwinControl 0 value.toNat)

/-- First address of a core's local block-transfer port (Table 18.3). -/
def blockPortBase : Nat := 0x30000000

/-- RELAY_REQUEST (R399): a whole body for PE301, subject to the checks of any write; a deck core moves it through its
block-transfer port. -/
def execRelayRequest (rq : Requester) (body : List Byte) (s : State) : Host.Outcome State Fault Refusal :=
  done (s.access rq blockPortBase true fun s =>
    if !s.permits rq P.RelayRequest then (s.violate rq P.RelayRequest 0).answerOne rq 0 []
    else if body.length > 1400 then s.answerOne rq 3 []
    else
      let (s, status) := s.relay body
      s.answerOne rq status [])

/-- APPLET_START (R401): a write of PE101 with Start. -/
def execAppletStart (rq : Requester) (value : Word) (s : State) : Host.Outcome State Fault Refusal :=
  done (s.serveOne rq P.AppletControl 0 (value ||| 1).toNat)

/-- APPLET_STOP (R401): a write of PE101 with Stop; WindowReadOnly stays as it is. -/
def execAppletStop (rq : Requester) (s : State) : Host.Outcome State Fault Refusal :=
  done (s.serveOne rq P.AppletControl 0 (2 + bitAt 2 (s.bit P.AppletControl 0 2)))

/-! ### Update, settings and maintenance -/

/-- HEALTH_CONFIRM (R410). -/
def execHealthConfirm (rq : Requester) (value : Word) (s : State) : Host.Outcome State Fault Refusal :=
  done (s.serveOne rq P.HealthConfirm 0 value.toNat)

/-- FLOOR_REQUEST (R411). -/
def execFloorRequest (rq : Requester) (version : Half) (s : State) : Host.Outcome State Fault Refusal :=
  done (s.serveOne rq P.FloorRequest 0 version.toNat)

/-- SETTINGS_SAVE (R414): Save in PF100. -/
def execSettingsSave (rq : Requester) (s : State) : Host.Outcome State Fault Refusal :=
  done (s.serveOne rq P.SettingsControl 0 1)

/-- SETTINGS_SAVE_ABORT (R414): Abort in PF100. -/
def execSettingsSaveAbort (rq : Requester) (sameClock : Bool) (s : State) : Host.Outcome State Fault Refusal :=
  done (s.serveAbort rq P.SettingsControl 4 sameClock)

/-- TROUBLE_WRITE (R424): elements 4c, 4c + 1 and 4c + 2 of PF203 by core c in machine mode. -/
def execTroubleWrite (core : Fin 4) (source aux : Byte) (code : Half) (arg0 arg1 : Word) (s : State) :
    Host.Outcome State Fault Refusal :=
  let rq : Requester := { path := .window core true, session := 0, addr := 0, udp := 0 }
  let head := source.toNat * 2 ^ 24 + aux.toNat * 2 ^ 16 + code.toNat
  let s := s.serveOne rq P.TroubleWrite (4 * core.val) head
  let s := s.serveOne rq P.TroubleWrite (4 * core.val + 1) arg0.toNat
  done (s.serveOne rq P.TroubleWrite (4 * core.val + 2) arg1.toNat)

/-- LOG_EXPORT (R427): Start in PF220. -/
def execLogExport (rq : Requester) (s : State) : Host.Outcome State Fault Refusal :=
  done (s.serveOne rq P.ExportControl 0 1)

/-- SCRUB_START (R428): Start in PF310, with Periodic as the write gives it. -/
def execScrubStart (rq : Requester) (periodic : Bool) (s : State) : Host.Outcome State Fault Refusal :=
  done (s.serveOne rq P.ScrubControl 0 (1 + bitAt 3 periodic))

/-- SCRUB_ABORT (R428): Abort in PF310; Periodic stays as it is. -/
def execScrubAbort (rq : Requester) (sameClock : Bool) (s : State) : Host.Outcome State Fault Refusal :=
  done (s.serveAbort rq P.ScrubControl (4 + bitAt 3 (s.bit P.ScrubControl 0 3)) sameClock)

end Sys2Proof.Machine
end

