-- ==== Sys2Proof/Machine/Blocks.lean ====
section
/-! DEFINITION. Block transfers (R104 to R106): the four slots, the content checks of a committed body, what a body does as
it becomes live, and the single block operations of the opcode table. -/
namespace Sys2Proof.Machine

/-- The outcome of one operation: the state after it, its status and its data. -/
abbrev OpResult := State × Byte × List Byte

/-! ### Bodies that become live -/

/-- Records of a staged element table that differ from the live record of their number, or have none (R220). -/
def changedRecords (old new : List Byte) : List Nat :=
  (List.range (new.length / 16)).filter (fun i => sliceBytes old (16 * i) 16 != sliceBytes new (16 * i) 16)

/-- A verified element table becomes live: its area is now the live one, and the area of the old table is free unless a pack pass
of the frame before has still to read it (R219, R221, R222). -/
def State.swapElements (s : State) (b : List Byte) : State :=
  let marked := changedRecords (s.blob P.ElementTable) b
  let s := s.setDram s.stagedArea b
  let read := s.sheet.closed.isSome || s.sheet.packing.isSome
  let s := (s.setBlob P.ElementTable b).wr P.TableChangedCount 0 (BitVec.ofNat 64 marked.length)
  let s := { s with render := { s.render with fresh := marked, oldArea := read, upperArea := !s.render.upperArea } }
  s.count P.TableSwapCount 0

/-- A body replaces the live copy. The keys of R103 and R62 go to the non-volatile areas. -/
def State.installBody (s : State) (p : Nat) (b : List Byte) : State :=
  if p = P.MergeTable then s.swapMergeTable b
  else if p = P.ElementTable then s.swapElements b
  else if p = P.KeyHash then { s with nv := { s.nv with keyHash := some b } }
  else if p = P.HelmKey then { s with nv := { s.nv with helmKey := some b } }
  else if p = P.RiggerKey then { s with nv := { s.nv with riggerKey := some b } }
  else if p = P.YardKey then { s with nv := { s.nv with yardKey := some b } }
  else if p = P.KeyA then ((s.setBlob p b).newKiteKey 1).checkEra
  else if p = P.KeyB then ((s.setBlob p b).newKiteKey 2).checkEra
  else if p = P.AppletImage then s.loadApplet b
  else if p = P.SacnUniverseTable then (s.setBlob p b).syncAllGroups
  else s.setBlob p b

/-! ### Content checks (R104) -/

/-- Bytes a parameter of one fixed length must have. -/
def fixedLength (p : Nat) : Option Nat :=
  if p = P.KeyHash ∨ p = P.HelmKey ∨ p = P.RiggerKey ∨ p = P.YardKey ∨ p = P.PairKey ∨ p = P.AppletKeyHash then some 32
  else if p = P.KeyA ∨ p = P.KeyB then some 16
  else if p = P.NtcTable then some 66
  else none

/-- Number of curves a profile may name: those of the live table, or of a committed one that waits for its latch (R229). -/
def State.curvesNamed (s : State) : Nat :=
  (s.blobWrites.filter (fun w => w.param == P.CurveTable)).foldl (fun n w => max n (w.body.length / 2048))
    ((s.blob P.CurveTable).length / 2048)

/-- The fault that P7004 shows of a staged colour table. -/
def State.colourFault (s : State) (p : Nat) (b : List Byte) : Option Wide :=
  if p = P.ProfileTable then profileTableFault b s.curvesNamed
  else if p = P.CurveTable then curveTableFault b (s.blob P.ProfileTable)
  else groupTableFault b

/-- The content check of a body that matches its digest: true when it passes, and what a rejected one leaves. -/
def State.checkBody (s : State) (p : Nat) (b : List Byte) : State × Bool :=
  if p = P.ElementTable then
    match elementTableFault b with
    | some n => ((s.wr P.TableRejectElement 0 (BitVec.ofNat 64 n)).count P.TableRejectCount 0, false)
    | none => (s, true)
  else if p = P.ProfileTable ∨ p = P.CurveTable ∨ p = P.GroupTable then
    match s.colourFault p b with
    | some v => ((s.wr P.ColourRejectIndex 0 v).count P.ColourRejectCount 0, false)
    | none => (s, true)
  else if p = P.SacnUniverseTable then (s, universeTableOk b)
  else if p = P.MergeTable then (s, mergeTableOk b ((s.blob P.MergeProfiles).length / 128))
  else if p = P.MergeProfiles then (s, mergeProfilesOk b (s.blob P.MergeTable))
  else if p = P.ChannelTable then (s, channelTableOk b)
  else if p = P.KiteMap then (s, kiteMapOk b)
  else if p = P.AppletImage then (s, s.appletImageOk b)
  else if p = P.SettingsImage then (s, s.importOk b)
  else
    match fixedLength p with
    | some n => (s, decide (b.length = n))
    | none => (s, true)

/-! ### Slots -/

/-- The transfer slot belongs to this requester, on this parameter, and is in use. -/
def State.ownsSlot (s : State) (rq : Requester) (p slot : Nat) : Bool :=
  let x := s.xfer slot
  decide (slot < 4) && x.state != .free && x.owner.mark == rq.mark && x.param == p

/-- A slot is freed with the answer that a poll of its commit gets from now on. -/
def State.endSlot (s : State) (slot : Nat) (status : Byte) : State :=
  let x := s.xfer slot
  (s.setXfer slot { x with state := .free, writing := false, result := some status }).event Ev.blockDone x.param 0
    (BitVec.ofNat 32 status.toNat)

/-- A slot is freed and its staged body discarded. -/
def State.freeSlot (s : State) (slot : Nat) : State :=
  let s := s.setTwin { s.twin with blobCommit := s.twin.blobCommit.filter (fun c => c.1 != slot) }
  s.setXfer slot Xfer.free

/-- What refuses an open of a parameter for its own reasons (R104, R222, R400, R407). -/
def State.openGate (s : State) (p : Nat) : Byte :=
  if p = P.ImageWrite ∧ s.imageLocked then 2
  else if (p = P.ImageWrite ∨ p = P.SettingsImage) ∧ s.taken Res.flash then 1
  else if p = P.ElementTable ∧ s.render.oldArea then 1
  else if p = P.AppletImage ∧ s.appletState = 2 then 1
  else 0

/-- BlockOpen (R104). An open that R89 ignores names a slot that means nothing: its number is a free value. An open of a
defined parameter that is no BLOB answers Refused (the model's choice: R104 names no code). -/
def State.openBlock (s : State) (rq : Requester) (p total : Nat) : OpResult :=
  match Dict.row p with
  | none =>
    let (v, s) := (s.violate rq p 0).free
    (s, 0, [v.setWidth 8, 0, 0, 0])
  | some r =>
    if !s.permits rq p then
      let (v, s) := (s.violate rq p 0).free
      (s, 0, [v.setWidth 8, 0, 0, 0])
    else if r.ty ≠ .blob then (s, 2, [])
    else if s.notActive (s.via rq) r then (s, 0x0C, [])
    else if (List.range 4).any (fun n => (s.xfer n).state != .free && (s.xfer n).param == p) then (s, 1, [])
    else if r.size < total then (s, 3, [])
    else if s.openGate p ≠ 0 then (s, s.openGate p, [])
    else
      match (List.range 4).find? (fun n => (s.xfer n).state == .free) with
      | none => (s, 1, [])
      | some n =>
        (s.setXfer n { Xfer.free with state := .opened, param := p, owner := rq, total := total }, 0, [BitVec.ofNat 8 n, 0, 0, 0])

/-- A block operation on a parameter that the requester may not write is ignored (R89). -/
def State.onSlot (s : State) (rq : Requester) (p : Nat) (op : State → OpResult) : OpResult :=
  if s.permits rq p then op s else (s.violate rq p 0, 0, [])

/-- BlockData: a piece of the body, in any order. -/
def State.dataBlock (s : State) (rq : Requester) (p slot off : Nat) (data : List Byte) : OpResult :=
  s.onSlot rq p fun s =>
    let x := s.xfer slot
    if s.ownsSlot rq p slot && (x.state == .opened || x.state == .mismatch) && decide (off + data.length ≤ x.total) then
      ((s.setDram (s.stagingBase slot p + off) data).setXfer slot { x with state := .opened }, 0, [])
    else (s, 0x0A, [])

/-- BlockCommit: it starts the verification, or polls it. -/
def State.commitBlock (s : State) (rq : Requester) (p slot : Nat) (digest : List Byte) : OpResult :=
  s.onSlot rq p fun s =>
    let x := s.xfer slot
    let same := x.digest == digest
    let start := (s.setXfer slot { x with state := .verifying, digest := digest }, (0x0F : Byte), ([] : List Byte))
    if s.ownsSlot rq p slot then
      match x.state with
      | .verifying => (s, if same then 0x0F else 0x0A, [])
      | .latchPending => (s, if same then 0 else 0x0A, [])
      | .mismatch => if same then (s, 0x0B, []) else start
      | _ =>
        if p = P.AppletImage ∧ s.appletState = 2 then (s, 1, [])
        else if p = P.RelayRequest ∧ s.rdN P.RelayStatus 0 = 1 then (s, 1, [])
        else if x.result.isSome && same then (s.setXfer slot { x with result := none }, x.result.getD 0, [])
        else start
    else if decide (slot < 4) && x.owner.mark == rq.mark && x.param == p && same then
      match x.result with
      | some r => (s, r, [])
      | none => (s, 0x0A, [])
    else (s, 0x0A, [])

/-- The end of the hash on a match: what the parameter does with its body. -/
def State.takeBody (s : State) (slot : Nat) (body : List Byte) : State :=
  let x := s.xfer slot
  let p := x.param
  let (content, mirrored) := match Dict.row p with
    | some r => (r.content, r.mirrored)
    | none => (false, false)
  if p = P.KeyHash ∧ s.nv.keyHash.isSome then s.endSlot slot 2
  else if p = P.AppletImage ∧ s.appletState = 2 then s.endSlot slot 1
  else if (p = P.ImageWrite ∨ p = P.SettingsImage) ∧ s.taken Res.flash then
    (s.refuseStart.setXfer slot { x with state := .opened, result := some 1 }).event Ev.blockDone p 0 1
  else if p = P.ImageWrite then (s.setXfer slot { x with writing := true }).startImage body
  else if p = P.SettingsImage then (s.setXfer slot { x with writing := true }).startSave (body.drop 4096) true
  else if p = P.RelayRequest then
    let (s, status) := s.relay body
    s.endSlot slot status
  else if mirrored && s.mirroring then
    (s.setTwin { s.twin with blobCommit := s.twin.blobCommit ++ [(slot, 0)] }).emitBlob p body true
  else
    let s := if mirrored then s.splitWrite (peArg p 0) else s
    if content then s.placeAtLatch slot none else (s.installBody p body).endSlot slot 0

/-- BLOCK_COMMIT_VERIFIED: the hash of a slot's staged body is done. -/
def State.verifySlot (s : State) (slot : Nat) : State :=
  let x := s.xfer slot
  if x.state = .verifying ∧ !x.writing ∧ !(s.twin.blobCommit.any (fun c => c.1 == slot)) then
    let body := s.stagedBody slot
    if sha256 body ≠ x.digest then (s.setXfer slot { x with state := .mismatch }).event Ev.blockDone x.param 0 0x0B
    else
      let (s, ok) := s.checkBody x.param body
      if ok then s.takeBody slot body else s.endSlot slot 3
  else s

/-- BlockAbort: completion wins over an abort of its own clock (R105). An image or settings write that runs is stopped. -/
def State.abortBlock (s : State) (rq : Requester) (p slot : Nat) (sameClock : Bool) : OpResult :=
  s.onSlot rq p fun s =>
    let x := s.xfer slot
    if sameClock || (s.ownsSlot rq p slot && x.state == .latchPending) then (s, 0x0D, [])
    else if !s.ownsSlot rq p slot then (s, 0x0A, [])
    else if x.writing && p == P.ImageWrite then (s.abortImage.freeSlot slot, 0, [])
    else if x.writing then (s.abortSave.freeSlot slot, 0, [])
    else (s.freeSlot slot, 0, [])

/-- BlockRead: bytes of the live copy that exist (R106); none of a WO body. -/
def State.readBlock (s : State) (rq : Requester) (p off len : Nat) : OpResult :=
  match Dict.row p with
  | none => (s.violate rq p 0, 0, [])
  | some r =>
    if r.ty ≠ .blob || decide (s.level rq < r.readLevel) || !s.reaches p false then (s.violate rq p 0, 0, [])
    else if r.acc = .wo then (s, 0, [])
    else (s, 0, sliceBytes (s.body p) off len)

/-- A slot on which no block operation arrives for 30 s is abandoned; one that waits for its latch or runs is not idle. -/
def State.idleSlot (s : State) (slot : Nat) : State :=
  let x := s.xfer slot
  if x.state = .free ∨ x.state = .latchPending ∨ x.writing then s
  else (s.log 0x10 0x0006 slot (BitVec.ofNat 32 x.param) 0).freeSlot slot

/-- The transfers of a session that ends are abandoned (R102); what waits for its latch or is being written stands. -/
def State.abandonSlots (s : State) (session : Nat) : State :=
  (List.range 4).foldl (fun s n =>
    let x := s.xfer n
    if x.state ≠ .free ∧ x.state ≠ .latchPending ∧ !x.writing ∧ x.owner.mark = 16 + session then s.freeSlot n else s) s

/-! ### The commands -/

/-- An operation with an answer of its own, as a request of it alone; the window carries loads and stores only. -/
def State.serveOp (s : State) (rq : Requester) (op : State → OpResult) : State :=
  if rq.onWindow then s
  else s.serve rq fun s =>
    let (s, status, data) := op s
    s.answerOne rq status data

/-- BLOCK_OPEN (R104). -/
def execBlockOpen (rq : Requester) (param : Half) (total : Word) (s : State) : Host.Outcome State Fault Refusal :=
  done (s.serveOp rq fun s => s.openBlock rq param.toNat total.toNat)

/-- BLOCK_DATA (R104). -/
def execBlockData (rq : Requester) (param : Half) (slot : Byte) (offset : Word) (data : List Byte) (s : State) :
    Host.Outcome State Fault Refusal :=
  done (s.serveOp rq fun s => s.dataBlock rq param.toNat slot.toNat offset.toNat data)

/-- BLOCK_COMMIT (R104). -/
def execBlockCommit (rq : Requester) (param : Half) (slot : Byte) (digest : List Byte) (s : State) :
    Host.Outcome State Fault Refusal :=
  done (s.serveOp rq fun s => s.commitBlock rq param.toNat slot.toNat digest)

/-- BLOCK_COMMIT_VERIFIED (R104). -/
def execBlockCommitVerified (slot : Fin 4) (s : State) : Host.Outcome State Fault Refusal := done (s.verifySlot slot)

/-- BLOCK_ABORT (R105). -/
def execBlockAbort (rq : Requester) (param : Half) (slot : Byte) (sameClock : Bool) (s : State) :
    Host.Outcome State Fault Refusal :=
  done (s.serveOp rq fun s => s.abortBlock rq param.toNat slot.toNat sameClock)

/-- BLOCK_READ (R106). -/
def execBlockRead (rq : Requester) (param : Half) (offset length : Word) (s : State) : Host.Outcome State Fault Refusal :=
  done (s.serveOp rq fun s => s.readBlock rq param.toNat offset.toNat length.toNat)

/-- BLOCK_SLOT_IDLE_TIMEOUT (R105). -/
def execBlockSlotIdleTimeout (slot : Fin 4) (s : State) : Host.Outcome State Fault Refusal := done (s.idleSlot slot)

end Sys2Proof.Machine
end

