-- ==== Sys2Proof/Machine/Bt.lean ====
section
/-! DEFINITION. The local block-transfer ports of the deck cores (R398): copies between firmware SRAM and DRAM, and the
blob operations at the core's level. Each command is a store to Control with the registers as firmware has set them. -/
namespace Sys2Proof.Machine

/-- The requester that a core's port is: the core in its present mode. -/
def State.btRequester (s : State) (c : Fin 4) : Requester :=
  { path := .window c (!(s.core c).user), session := 0, addr := 0, udp := 0 }

def State.setBt (s : State) (c : Nat) (b : BtPort) : State := s.setCore c { s.core c with bt := b }

/-- The Control word of an operation: Parameter, Slot and Op; Start reads zero. -/
def btControl (param slot op : Nat) : Word := BitVec.ofNat 32 (param * 65536 + slot * 4096 + op * 16)

/-- Start an operation, whose effect `op` takes its answer as the status that BT_DONE will show. While another one runs it
is refused with Busy, and a core that does not run stores nothing. -/
def State.startBt (s : State) (c : Fin 4) (regs : BtPort → BtPort) (op : State → State × Byte) : State :=
  let k := s.core c
  if !s.coreRuns c then s
  else if k.bt.running then s.setBt c { k.bt with status := 1 }
  else
    let (s, status) := op (s.setBt c { regs k.bt with running := true })
    s.setBt c { (s.core c).bt with result := status }

/-- An extent of firmware SRAM. -/
def sramExtent (a n : Nat) : Bool := decide (sramBase ≤ a) && decide (a + n ≤ sramBase + sramSize)

/-- Firmware must keep its extents inside the memories, and those of Copy aligned (R398): of an operation that does not,
only its end is known, and its status is a free value. -/
def State.strayBt (s : State) : State × Byte :=
  let (v, s) := s.free
  (s, v.setWidth 8)

/-- BT_COPY: bytes between firmware SRAM and DRAM. -/
def State.copyBt (s : State) (a n d : Nat) (toDram : Bool) : State × Byte :=
  if a % 4 = 0 ∧ n % 4 = 0 ∧ d % 4 = 0 ∧ sramExtent a n ∧ d + n ≤ dramSize then
    (if toDram then s.setDram d (s.getSram a n) else s.setSram a (s.getDram d n), 0)
  else s.strayBt

/-- BT_COPY (R398). -/
def execBtCopy (core : Fin 4) (sram length dramLow dramHigh : Word) (toDram : Bool) (s : State) :
    Host.Outcome State Fault Refusal :=
  done (s.startBt core
    (fun b => { b with control := btControl 0 0 0, sram := sram, length := length, dramLow := dramLow, dramHigh := dramHigh })
    (fun s => s.copyBt sram.toNat length.toNat (dramHigh.toNat * 2 ^ 32 + dramLow.toNat) toDram))

/-- BT_OPEN (R398): the slot of a successful open stands in Control. -/
def execBtOpen (core : Fin 4) (param : Half) (length : Word) (s : State) : Host.Outcome State Fault Refusal :=
  done (s.startBt core
    (fun b => { b with control := btControl param.toNat 0 1, length := length })
    (fun s =>
      let (s, status, data) := s.openBlock (s.btRequester core) param.toNat length.toNat
      match data with
      | n :: _ =>
        (s.setBt core { (s.core core).bt with control := btControl param.toNat (n.toNat % 16) 1 }, status)
      | [] => (s, status)))

/-- BT_DATA (R398): the piece is taken from firmware SRAM. -/
def execBtData (core : Fin 4) (param : Half) (slot : BitVec 4) (sram length offset : Word) (s : State) :
    Host.Outcome State Fault Refusal :=
  done (s.startBt core
    (fun b => { b with control := btControl param.toNat slot.toNat 2, sram := sram, length := length, dramLow := offset })
    (fun s =>
      if sramExtent sram.toNat length.toNat then
        let (s, status, _) := s.dataBlock (s.btRequester core) param.toNat slot.toNat offset.toNat
          (s.getSram sram.toNat length.toNat)
        (s, status)
      else s.strayBt))

/-- BT_COMMIT (R398): the digest is taken from firmware SRAM. -/
def execBtCommit (core : Fin 4) (param : Half) (slot : BitVec 4) (digest : Word) (s : State) :
    Host.Outcome State Fault Refusal :=
  done (s.startBt core
    (fun b => { b with control := btControl param.toNat slot.toNat 3, digest := digest })
    (fun s =>
      if sramExtent digest.toNat 32 then
        let (s, status, _) := s.commitBlock (s.btRequester core) param.toNat slot.toNat (s.getSram digest.toNat 32)
        (s, status)
      else s.strayBt))

/-- BT_ABORT (R398). -/
def execBtAbort (core : Fin 4) (param : Half) (slot : BitVec 4) (sameClock : Bool) (s : State) :
    Host.Outcome State Fault Refusal :=
  done (s.startBt core
    (fun b => { b with control := btControl param.toNat slot.toNat 4 })
    (fun s =>
      let (s, status, _) := s.abortBlock (s.btRequester core) param.toNat slot.toNat sameClock
      (s, status)))

/-- BT_READ (R398): the bytes that exist are put into firmware SRAM. -/
def execBtRead (core : Fin 4) (param : Half) (sram length offset : Word) (s : State) : Host.Outcome State Fault Refusal :=
  done (s.startBt core
    (fun b => { b with control := btControl param.toNat 0 5, sram := sram, length := length, dramLow := offset })
    (fun s =>
      if sramExtent sram.toNat length.toNat then
        let (s, status, data) := s.readBlock (s.btRequester core) param.toNat offset.toNat length.toNat
        (s.setSram sram.toNat data, status)
      else s.strayBt))

/-- BT_DONE (R398): the operation ends and its status is set. -/
def execBtDone (core : Fin 4) (s : State) : Host.Outcome State Fault Refusal :=
  let b := (s.core core).bt
  if b.running then done (s.setBt core { b with running := false, status := b.result }) else done s

end Sys2Proof.Machine
end

