-- ==== Sys2Proof/Machine/CueRun.lean ====
section
/-! DEFINITION. The kernel's execution of cues for their target frames (R185, R186), and the ramps that go on from frame to
frame. -/
namespace Sys2Proof.Machine

/-! ### Action words -/

/-- How the writes of a cue for frame `k` come: its writer, at its header's Level. -/
def cueVia (rq : Requester) (level k : Nat) : Via :=
  { rq := rq, level := level, frame := some k, cue := true, mirror := false }

/-- The data of a Write: the value at the type's width from bit 0; WriteHigh supplies the high word of a U64. -/
def cueData (t : PType) (high : Nat) (v : Word) : List Byte :=
  match t with
  | .u64 => beBytes 4 high ++ beBytes 4 v.toNat
  | t => beBytes t.bytes (v.toNat % 2 ^ (8 * t.bytes))

/-- The high word given for an element, and the words left for others. -/
def takeHigh (p e : Nat) (l : List (Nat × Nat × Nat)) : Nat × List (Nat × Nat × Nat) :=
  match l.find? (fun x => x.1 == p && x.2.1 == e) with
  | some x => (x.2.2, l.filter (fun x => !(x.1 == p && x.2.1 == e)))
  | none => (0, l)

/-- A Write of a cue. -/
def State.cueStore (s : State) (via : Via) (k high : Nat) (w : Wide) : State :=
  let p := Cw.param w
  let e := Cw.elem w
  match Dict.row p with
  | none => (s.writeOp via p e 1 []).1
  | some r =>
    let (t, status) := s.writeOp via p e 1 (cueData r.ty high (Cw.value w))
    if status = 0 && cueWrites via.level p e then t.endRamps p e k else t

/-- The action words in order (R186). -/
def State.runActions (s : State) (rq : Requester) (level k : Nat) (tag : T32) :
    List (Nat × Nat × Nat) → List Wide → State
  | _, [] => s
  | highs, w :: ws =>
    let p := Cw.param w
    let e := Cw.elem w
    match Cw.op w with
    | 0 =>
      let (h, highs) := takeHigh p e highs
      State.runActions (s.cueStore (cueVia rq level k) k h w) rq level k tag highs ws
    | 1 => State.runActions s rq level k tag ((p, e, (Cw.value w).toNat) :: (takeHigh p e highs).2) ws
    | 2 =>
      let t := match ws with
        | x :: _ => s.startRamp rq level k w x
        | [] => s
      State.runActions t rq level k tag highs ws
    | 3 => State.runActions s rq level k tag highs ws
    | _ => State.runActions (s.postOp w tag k) rq level k tag highs ws

/-! ### Execution -/

/-- The kernel executes a cue for frame `k` as one group, or discards it before any of its writes (R186, R368). -/
def State.runCue (s : State) (c : KernelCue) (k : Nat) : State :=
  let level := Cw.level c.header
  let source := Cw.source c.header
  match cueFault level s.appletHandles c.actions with
  | some cause =>
    (s.count P.CueDiscardCount 0).log 0x14 0x0020 cause (Cw.tag c.header) (BitVec.ofNat 32 source)
  | none =>
    let s := s.runActions (cueSource source) level k (Cw.tag c.header) [] c.actions
    if s.mirroring then s.emit (cueDoneRecord c.admission (BitVec.ofNat 32 k)) else s

/-- A cue leaves those the kernel holds. -/
def State.dropKernelCue (s : State) (c : KernelCue) : State :=
  { s with cue := { s.cue with kernel := s.cue.kernel.erase c } }

/-- CUE_EXECUTE: the next cue in the order of R185. One whose target has been latched goes to the first open frame, and
counts as late unless it has counted already. -/
def State.executeCue (s : State) : State :=
  match nextKernelCue s.cue.kernel with
  | none => s
  | some c =>
    let s := s.dropKernelCue c
    if c.target < s.halyard.grid.nextLatch then
      let s := if c.late then s else s.count P.CueLateCount 0
      s.runCue c (max s.firstOpenFrame s.halyard.grid.nextLatch)
    else s.runCue c c.target

/-- CUE_EXECUTE (R185). -/
def execCueExecute (s : State) : Host.Outcome State Fault Refusal :=
  if s.serving && s.seeded && s.commands then done s.executeCue else done s

/-! ### Ramps (R186) -/

/-- How a ramp's write comes: for its frame, and not sent to the partner, which carries the ramp on by itself (R368). -/
def rampVia (r : Ramp) (k : Nat) : Via := { rq := r.rq, level := r.level, frame := some k, cue := true, mirror := true }

/-- The data of a ramp's value at the width of its type. -/
def rampData (t : PType) (x : Int) : List Byte := beBytes t.bytes (BitVec.ofInt (8 * t.bytes) x).toNat

/-- One ramp's write for frame `k`. -/
def State.stepRamp (s : State) (r : Ramp) (k : Nat) : State :=
  match Dict.row r.param with
  | none => (s.writeOp (rampVia r k) r.param r.elem 1 []).1
  | some row => (s.writeOp (rampVia r k) r.param r.elem 1 (rampData row.ty (r.valueAt (k - r.first)))).1

/-- A ramp as frame `k` takes it: v0 is read at its first frame, whose latch has not acted yet. -/
def State.rampFor (s : State) (k : Nat) (r : Ramp) : Ramp :=
  if r.first = k then { r with start := s.rampNow r.param r.elem } else r

/-- The ramps that act at the latch of frame `k`: begun, and not ended by a later cue. -/
def rampsAt (k : Nat) (l : List Ramp) : List Ramp :=
  l.filter (fun r => decide (r.first ≤ k) && (match r.ends with
    | some e => decide (k < e)
    | none => true))

/-- Ramps kept after the latch of frame `k`. -/
def rampsAfter (k : Nat) (l : List Ramp) : List Ramp :=
  l.filter (fun r => decide (k < r.first + r.span) && (match r.ends with
    | some e => decide (k < e)
    | none => true))

/-- Every ramp gives its element the value of frame `k`. -/
def State.stepRamps (s : State) (k : Nat) : State :=
  let ramps := s.cue.ramps.map (s.rampFor k)
  let s := { s with cue := { s.cue with ramps := rampsAfter k ramps } }
  (rampsAt k ramps).foldl (fun s r => s.stepRamp r k) s

end Sys2Proof.Machine
end

