-- ==== Sys2Proof/Machine/Sessions.lean ====
section
/-! DEFINITION. Sessions and event subscriptions of WDP (R100 to R103, R108, R109): opening, proving and ending a session,
and the messages that carry event records. -/
namespace Sys2Proof.Machine

/-! ### WDP messages (Tables 5.4 and 5.5) -/

/-- A message of a kind with a body of `ops` records, tagged where a key is given (R101). -/
def wdpMessage (kind session transaction status ops : Nat) (body : List Byte) (key : Option (List Byte)) : List Byte :=
  let head := beBytes 2 0x5744 ++ [BitVec.ofNat 8 (16 + kind), BitVec.ofNat 8 key.isSome.toNat] ++ beBytes 2 session ++
    beBytes 2 body.length ++ beBytes 4 transaction ++ beBytes 2 status ++ beBytes 2 ops
  match key with
  | some k => head ++ body ++ (hmac k (head ++ body)).take 16
  | none => head ++ body

/-- Ks of an unlocked session; none while it is not unlocked. -/
def State.sessionKey (s : State) (n : Nat) : Option (List Byte) :=
  if (s.session n).state = .unlocked then some (s.session n).key else none

/-! ### Keys and proofs (R100, R103) -/

/-- The key a SessionOpen of a level is proved with; none where the level cannot be reached or its key is not written. -/
def State.levelKey (s : State) (rq : Requester) (level : Nat) : Option (List Byte) :=
  if s.topLevel < level then none
  else if level = 1 then s.nv.helmKey
  else if level = 2 then s.nv.riggerKey
  else match s.nv.yardKey with
    | some k => some k
    | none => if rq.onBosun then some (List.replicate 32 0) else none

/-- The proof of step 2: over "WDP1", the level, the session, both nonces and the serial number. -/
def sessionProof (key : List Byte) (level session : Nat) (host device : BitVec 128) : List Byte :=
  hmac key ([0x57, 0x44, 0x50, 0x31] ++ beBytes 1 level ++ beBytes 2 session ++ beBytes 16 host.toNat ++
    beBytes 16 device.toNat ++ beBytes 8 Config.serialNumber.toNat)

/-- Ks of step 3: over "KEY1" and both nonces. -/
def sessionKs (key : List Byte) (host device : BitVec 128) : List Byte :=
  hmac key ([0x4B, 0x45, 0x59, 0x31] ++ beBytes 16 device.toNat ++ beBytes 16 host.toNat)

/-- SessionOpen: the lowest free session is bound to the request's source and waits for its proof. A level that is none of 1
to 3 answers Range: R100 names no code for it (the model's choice). -/
def State.openSession (s : State) (rq : Requester) (level : Nat) (host : BitVec 128) : OpResult :=
  if rq.onWindow || rq.session != 0 then (s, 2, [])
  else if level = 0 ∨ 3 < level then (s, 3, [])
  else if s.wdp.lockout then (s, 0x0E, [])
  else
    match s.levelKey rq level, ((List.range 16).map (· + 1)).find? (fun n => (s.session n).state == .free) with
    | none, _ => (s, 2, [])
    | _, none => (s, 0x0E, [])
    | some key, some n =>
      let nonce := Config.nonce s.freeCount
      let x : Session :=
        { state := .opening, level := level, bosun := rq.onBosun, addr := rq.addr, udp := rq.udp, hostNonce := host,
          deviceNonce := nonce, key := key, lastTransaction := 0, cached := none }
      ({ s with freeCount := s.freeCount + 1 }.setSession n x, 0, beBytes 2 n ++ [0, 0] ++ beBytes 16 nonce.toNat)

/-- A life-cycle request that awaits its confirm in a session that ends can be confirmed no more (R63). -/
def State.dropLifeRequest (s : State) (n : Nat) : State :=
  match s.power.lifeRequest with
  | some (_, .window _ _, _) => s
  | some (_, _, m) => if m.val = n then { s with power := { s.power with lifeRequest := none } } else s
  | none => s

/-- A session ends: its transfers are abandoned and its subscriptions end (R102), and with it a life-cycle request made in
it. -/
def State.endSession (s : State) (n : Nat) : State :=
  if (s.session n).state = .free then s
  else
    let s := ((s.abandonSlots n).clearMarks n).dropLifeRequest n
    let s := (List.range 8).foldl (fun s i =>
      if (s.sub i).active && (s.sub i).session == n then s.setSub i Subscription.free else s) s
    s.setSession n Session.free

/-- A failed proof: counted and logged; the fifth within 60 s begins the lockout (R102). The model's choices: the recorded
failures are forgotten as the lockout begins, and a failed proof during the lockout does not prolong it. -/
def State.failProof (s : State) (level session : Nat) : State :=
  let s := (s.count P.UnlockFailCount 0).log 0x10 0x0004 level (BitVec.ofNat 32 session) 0
  let fails := s.clock :: s.wdp.fails.filter (fun t => decide (s.clock < t + 30000000000))
  if 5 ≤ fails.length ∧ !s.wdp.lockout then
    { s with wdp := { s.wdp with fails := [], lockout := true } }.event Ev.lockout P.UnlockFailCount 0 0
  else { s with wdp := { s.wdp with fails := fails } }

/-- SessionProve in session `n`: a correct proof unlocks the session, a wrong one frees it. -/
def State.proveSession (s : State) (rq : Requester) (proof : List Byte) (transaction : Word) : OpResult :=
  let n : Nat := rq.session
  let x := s.session n
  if n = 0 ∨ x.state = .free ∨ !s.sessionBound rq then (s, 6, [])
  else if x.state = .unlocked then (s, 2, [])
  else if proof = sessionProof x.key x.level n x.hostNonce x.deviceNonce then
    (s.setSession n { x with state := .unlocked, key := sessionKs x.key x.hostNonce x.deviceNonce,
                             lastTransaction := transaction, cached := none }, 0, [])
  else ((s.failProof x.level n).endSession n, 2, [])

/-- SessionClose. -/
def State.closeSession (s : State) (rq : Requester) : OpResult :=
  if rq.session = 0 then (s, 6, []) else (s.endSession rq.session, 0, [])

/-- SESSION_OPEN (R100). -/
def execSessionOpen (rq : Requester) (level : Byte) (hostNonce : BitVec 128) (s : State) :
    Host.Outcome State Fault Refusal :=
  done (s.serveOp rq fun s => s.openSession rq level.toNat hostNonce)

/-- SESSION_PROVE (R100): a request of its own, in a session that is not unlocked yet. -/
def execSessionProve (rq : Requester) (proof : List Byte) (transaction : Word) (s : State) :
    Host.Outcome State Fault Refusal :=
  if !s.pathServes rq || rq.onWindow then done s
  else
    let (s, status, data) := s.proveSession rq proof transaction
    done (s.answer status data)

/-- SESSION_CLOSE (R102). -/
def execSessionClose (rq : Requester) (s : State) : Host.Outcome State Fault Refusal :=
  if rq.onWindow then done s else done (s.serveOp rq fun s => s.closeSession rq)

/-- SESSION_PROVE_TIMEOUT (R100): 5 s without a proof free the session. -/
def execSessionProveTimeout (session : Fin 17) (s : State) : Host.Outcome State Fault Refusal :=
  if session ≠ 0 ∧ (s.session session).state = .opening then done (s.endSession session) else done s

/-- SESSION_IDLE_TIMEOUT (R102). -/
def execSessionIdleTimeout (session : Fin 17) (s : State) : Host.Outcome State Fault Refusal :=
  if session ≠ 0 ∧ (s.session session).state = .unlocked then done (s.endSession session) else done s

/-- UNLOCK_LOCKOUT_END (R102). -/
def execUnlockLockoutEnd (s : State) : Host.Outcome State Fault Refusal :=
  done { s with wdp := { s.wdp with lockout := false } }

/-! ### Subscriptions (R108, R109) -/

/-- Subscribe: over a stay port only, since Bosun carries no event messages (R112). -/
def State.subscribe (s : State) (rq : Requester) (mask : Word) (udp lease : Half) : OpResult :=
  match rq.path with
  | .stay p =>
    if lease.toNat = 0 ∨ 3600 < lease.toNat then (s, 3, [])
    else
      let same := (List.range 8).find? fun n => (s.sub n).active && (s.sub n).addr == rq.addr && (s.sub n).udp == udp
      match same with
      | some n =>
        (s.setSub n { s.sub n with mask := mask, lease := lease.toNat, session := rq.session, port := p, mac := rq.mac }, 0,
          [BitVec.ofNat 8 n, 0, 0, 0])
      | none =>
        match (List.range 8).find? (fun n => !(s.sub n).active) with
        | none => (s, 0x0E, [])
        | some n =>
          (s.setSub n { Subscription.free with active := true, mask := mask, addr := rq.addr, udp := udp, mac := rq.mac, port := p,
                                               session := rq.session, lease := lease.toNat }, 0, [BitVec.ofNat 8 n, 0, 0, 0])
  | _ => (s, 2, [])

/-- Unsubscribe: by the source that subscribed. -/
def State.unsubscribe (s : State) (rq : Requester) (number : Nat) : OpResult :=
  let x := s.sub number
  if number < 8 ∧ x.active ∧ !rq.onWindow ∧ !rq.onBosun ∧ x.addr = rq.addr ∧ x.session = rq.session then
    (s.setSub number Subscription.free, 0, [])
  else (s, 2, [])

/-- SUBSCRIBE (R108). -/
def execSubscribe (rq : Requester) (mask : Word) (udp lease : Half) (s : State) : Host.Outcome State Fault Refusal :=
  done (s.serveOp rq fun s => s.subscribe rq mask udp lease)

/-- UNSUBSCRIBE (R108). -/
def execUnsubscribe (rq : Requester) (number : Byte) (s : State) : Host.Outcome State Fault Refusal :=
  done (s.serveOp rq fun s => s.unsubscribe rq number.toNat)

/-- SUBSCRIPTION_LEASE_EXPIRY (R108). -/
def execSubscriptionLeaseExpiry (number : Fin 8) (s : State) : Host.Outcome State Fault Refusal :=
  done (s.setSub number Subscription.free)

/-- The 16 bytes of a record. -/
def EventRecord.bytes (r : EventRecord) : List Byte :=
  beBytes 1 r.cls ++ beBytes 1 r.elem ++ beBytes 2 r.param ++ beBytes 4 r.tns.toNat ++ beBytes 4 r.seconds.toNat ++
    beBytes 4 r.arg.toNat

/-- The body of an event message. The count of records lost is held at 65,535, the largest its field carries (the model's
choice). -/
def Subscription.body (x : Subscription) (n : Nat) : List Byte :=
  beBytes 1 n ++ [0] ++ beBytes 2 (min 65535 x.lost) ++ beBytes 2 x.records.length ++ [0, 0] ++ x.records.flatMap EventRecord.bytes

/-- A WDP message leaves a stay port by its general queue (R94, R150, R151). -/
def State.sendWdp (s : State) (p : Nat) (mac : BitVec 48) (addr : BitVec 128) (udp : Half) (bytes : List Byte) : State :=
  s.sendGeneral p { frame := .wdp addr udp bytes, len := s.stayUdpLen p (isV6 addr) bytes.length,
                    net := some (s.stayHead p mac addr 49231 udp) }

/-- The longest WDP message a stay port may send to an address: P0034, and a frame within P3002 (R147). -/
def State.wdpLimit (s : State) (p : Nat) (addr : BitVec 128) : Nat :=
  min (s.rdN P.WdpMaxResponse 0) (s.rdN P.StayMaxFrame p - (s.stayUdpLen p (isV6 addr) 64 - 64))

/-- One event message with the records that wait, and the count of those lost. -/
def State.sendEvents (s : State) (n : Nat) : State :=
  let x := s.sub n
  if x.active && s.stayActive && s.stayEnabled x.port && (!x.records.isEmpty || x.lost != 0) then
    let m := wdpMessage 2 x.session x.sequence.toNat 0 0 (x.body n) (s.sessionKey x.session)
    let s := s.setSub n { x with sequence := x.sequence + 1, records := [], lost := 0 }
    s.sendWdp x.port x.mac x.addr x.udp m
  else s

/-- EVENT_MESSAGE_SEND (R109). -/
def execEventMessageSend (number : Fin 8) (s : State) : Host.Outcome State Fault Refusal := done (s.sendEvents number)

end Sys2Proof.Machine
end

