-- ==== Sys2Proof/Machine/Wdp.lean ====
section
/-! DEFINITION. WDP requests as bytes (R94 to R98, R101): what a datagram or a Bosun transfer holds, the checks in their
order, the operations it executes and the response; and where a frame received on a stay port goes (R147 to R150). -/
namespace Sys2Proof.Machine

/-! ### Operation records (Table 5.5) -/

/-- One operation of a request. -/
structure WdpOp where
  opcode : Nat
  param : Nat
  elem : Nat
  last : Nat
  data : List Byte
  deriving DecidableEq, Repr

/-- Exactly `n` records in a body; none where the body does not agree with its count. -/
def parseOps : Nat → List Byte → Option (List WdpOp)
  | 0, [] => some []
  | 0, _ :: _ => none
  | n + 1, b =>
    let len := beNat (sliceBytes b 6 2)
    let size := 8 + (len + 3) / 4 * 4
    if b.length < 8 ∨ b.length < size then none
    else
      let x : WdpOp :=
        { opcode := (b.getD 0 0).toNat, param := beNat (sliceBytes b 2 2), elem := (b.getD 4 0).toNat,
          last := (b.getD 5 0).toNat, data := sliceBytes b 8 len }
      (parseOps n (b.drop size)).map (x :: ·)

/-- The answer record of an operation. -/
def WdpOp.answer (x : WdpOp) (status : Byte) (data : List Byte) : List Byte :=
  [BitVec.ofNat 8 x.opcode, status] ++ beBytes 2 x.param ++ [BitVec.ofNat 8 x.elem, BitVec.ofNat 8 x.last] ++
    beBytes 2 data.length ++ pad4 data

/-! ### Malformed traffic (R97) -/

/-- One trouble-log entry for malformed traffic per source address per second. -/
def State.logMalformed (s : State) (addr : BitVec 128) (aux : Nat) : State :=
  let recent := s.wdp.malformedLogged.filter (fun x => decide (s.clock < x.2 + 500000000))
  if recent.any (fun x => x.1 == addr) then { s with wdp := { s.wdp with malformedLogged := recent } }
  else
    { s with wdp := { s.wdp with malformedLogged := (addr, s.clock) :: recent } }.log 0x10 0x0003 aux (addr.setWidth 32) 0

/-- A malformed message is counted; true while it may still be answered, 100 times a second for each source address. -/
def State.malformed (s : State) (addr : BitVec 128) : State × Bool :=
  let s := s.count P.WdpMalformedCount 0
  let recent := s.wdp.malformedAnswers.filter (fun x => decide (s.clock < x.2.1 + 500000000))
  let (start, n) := match recent.find? (fun x => x.1 == addr) with
    | some x => x.2
    | none => (s.clock, 0)
  let answered := decide (n < 100)
  let kept := (addr, start, n + 1) :: recent.filter (fun x => x.1 != addr)
  let s := { s with wdp := { s.wdp with malformedAnswers := kept } }
  (s.logMalformed addr (if answered then 4 else 0xFF), answered)

/-! ### Operations (Table 5.6) -/

/-- The data of a request of fixed length. -/
def WdpOp.sized (x : WdpOp) (n : Nat) (s : State) (op : State → OpResult) : OpResult :=
  if x.data.length = n then op s else (s, 4, [])

/-- A Read or ReadInfo carries no data; where R89 has the operation, its data is not looked at. -/
def State.plainRead (s : State) (rq : Requester) (x : WdpOp) (op : State → OpResult) : OpResult :=
  match Dict.row x.param with
  | none => op s
  | some r =>
    if !x.data.isEmpty && decide (x.elem < r.elems) && decide (r.readLevel ≤ s.level rq) && s.reaches x.param false then (s, 4, [])
    else op s

/-- One operation of a request: its effect, its status and its data. -/
def State.runOp (s : State) (rq : Requester) (transaction : Word) (x : WdpOp) : OpResult :=
  let d := x.data
  match x.opcode with
  | 0x01 => s.plainRead rq x fun s =>
    let (bs, s) := s.readOp rq x.param x.elem (x.last + 1)
    (s, 0, bs)
  | 0x02 =>
    let (s, status) := s.writeOp (s.via rq) x.param x.elem (x.last + 1) d
    (s, status, [])
  | 0x03 => s.plainRead rq x fun s =>
    let (bs, s) := s.infoOp rq x.param x.elem (x.last + 1)
    (s, 0, bs)
  | 0x10 => x.sized 20 s fun s => s.openSession rq (d.getD 0 0).toNat (BitVec.ofNat 128 (beNat (d.drop 4)))
  | 0x11 => x.sized 32 s fun s => s.proveSession rq d transaction
  | 0x12 => x.sized 0 s fun s => s.closeSession rq
  | 0x20 => x.sized 4 s fun s => s.openBlock rq x.param (beNat d)
  | 0x21 => if d.length < 4 then (s, 4, []) else s.dataBlock rq x.param x.elem (beNat (d.take 4)) (d.drop 4)
  | 0x22 => x.sized 32 s fun s => s.commitBlock rq x.param x.elem d
  | 0x23 => x.sized 0 s fun s => s.abortBlock rq x.param x.elem false
  | 0x24 => x.sized 8 s fun s => s.readBlock rq x.param (beNat (d.take 4)) (beNat (d.drop 4))
  | 0x30 => x.sized 8 s fun s =>
    s.subscribe rq (BitVec.ofNat 32 (beNat (d.take 4))) (BitVec.ofNat 16 (beNat (sliceBytes d 4 2)))
      (BitVec.ofNat 16 (beNat (sliceBytes d 6 2)))
  | 0x31 => x.sized 4 s fun s => s.unsubscribe rq (d.getD 0 0).toNat
  | _ => ((s.count P.WdpMalformedCount 0).logMalformed rq.addr 5, 5, [])

/-- The operations in record order, with the answer records; `size` counts the response so far (R95). -/
def State.runOps (s : State) (rq : Requester) (transaction : Word) (limit : Nat) : Nat → List WdpOp → State × List Byte
  | _, [] => (s, [])
  | size, x :: xs =>
    let (s, status, data) := s.runOp rq transaction x
    let fits := decide (size + 8 + (pad4 data).length ≤ limit)
    let record := if fits then x.answer status data else x.answer 9 []
    let (s, rest) := State.runOps s rq transaction limit (size + record.length) xs
    (s, record ++ rest)

/-- A request whose checks have passed: it is executed and answered, and a partial cue ends with it (R181). -/
def State.executeOps (s : State) (rq : Requester) (transaction : Word) (limit : Nat) (ops : List WdpOp) : State × List Byte :=
  let key := s.sessionKey rq.session
  let s := (s.arbitrate rq).traffic P.WdpRequestCount 0 1
  let (s, body) := s.runOps rq transaction limit (16 + 16 * key.isSome.toNat) ops
  let s := s.endCueRequest (cueWriter rq)
  let m := wdpMessage 1 rq.session transaction.toNat 0 ops.length body key
  let x := s.session rq.session
  let s := if key.isSome ∧ x.state = .unlocked then
      s.setSession rq.session { x with lastTransaction := transaction, cached := some m }
    else s
  (s, m)

/-! ### Requests -/

/-- The request of an opening session: an untagged SessionProve as its only operation (R100). -/
def State.opening (s : State) (rq : Requester) (transaction : Word) (tagged : Bool) (ops : List WdpOp) : State × List Byte :=
  let bad := wdpMessage 1 rq.session transaction.toNat 6 0 [] none
  match tagged, ops with
  | false, [x] =>
    if x.opcode = 0x11 then
      let s := s.traffic P.WdpRequestCount 0 1
      let (s, status, _) := s.proveSession rq x.data transaction
      (s, wdpMessage 1 rq.session transaction.toNat 0 1 (x.answer status []) (s.sessionKey rq.session))
    else (s, bad)
  | _, _ => (s, bad)

/-- A request message from a source: the state after it, and the response if one is sent. A request of session 0 has no key:
its Tagged flag only lengthens it by the tag, which is not looked at (the model's choice). -/
def State.request (s : State) (path : Path) (mac : BitVec 48) (addr : BitVec 128) (udp : Half) (limit : Nat) (m : List Byte) :
    State × Option (List Byte) :=
  let t : Word := if m.length < 12 then 0 else BitVec.ofNat 32 (beNat (sliceBytes m 8 4))
  let say := fun (n status : Nat) (key : Option (List Byte)) => wdpMessage 1 n t.toNat status 0 [] key
  let spoilt := fun (s : State) (n : Nat) (key : Option (List Byte)) =>
    let (s, answered) := s.malformed addr
    (s, if answered then some (say n 4 key) else none)
  if m.length < 16 ∨ beNat (m.take 2) ≠ 0x5744 ∨ m.getD 2 0 ≠ 0x10 then spoilt s 0 none
  else
    let tagged := (m.getD 3 0).getLsbD 0
    let n := beNat (sliceBytes m 4 2)
    let len := beNat (sliceBytes m 6 2)
    let count := beNat (sliceBytes m 14 2)
    let rq : Requester := { path := path, session := if h : n < 17 then ⟨n, h⟩ else 0, addr := addr, udp := udp,
                            mac := mac }
    let x := s.session n
    let key := s.sessionKey n
    if n ≠ 0 ∧ (16 < n ∨ x.state = .free ∨ !s.sessionBound rq) then (s, some (say n 6 none))
    else if 16 + len + 16 * tagged.toNat ≠ m.length then spoilt s n key
    else
      let body := sliceBytes m 16 len
      let open' := x.state = .opening
      let badTag := n ≠ 0 ∧ x.state = .unlocked ∧
        (!tagged ∨ m.drop (16 + len) ≠ (hmac x.key (m.take (16 + len))).take 16)
      let d := (t - x.lastTransaction).toNat
      if badTag then (s, some (say n 7 key))
      else if n ≠ 0 ∧ x.state = .unlocked ∧ d = 0 ∧ x.cached.isSome then (s, x.cached)
      else if n ≠ 0 ∧ x.state = .unlocked ∧ (d = 0 ∨ 2 ^ 31 ≤ d) then (s, some (say n 8 key))
      else if 64 < count then (s, some (say n 9 key))
      else
        match parseOps count body with
        | none => spoilt s n key
        | some ops =>
          let (s, r) := if n ≠ 0 ∧ open' then s.opening rq t tagged ops else s.executeOps rq t limit ops
          (s, some r)

/-! ### The stay transport (R94) -/

/-- A datagram to port 49231. -/
def State.datagram (s : State) (p : Fin 4) (mac : BitVec 48) (src : BitVec 128) (srcPort : Half) (unicast fragment : Bool)
    (data : List Byte) : State :=
  if !unicast || fragment then s.count P.WdpMalformedCount 0
  else
    let (s, response) := s.request (.stay p) mac src srcPort (s.wdpLimit p src) data
    match response with
    | some r => s.sendWdp p mac src srcPort r
    | none => s

/-! ### Bosun (R111, R112) -/

/-- A write transfer that has ended. -/
def State.bosunRequest (s : State) (bytes : List Byte) : State :=
  let t := if bytes.length < 12 then 0 else beNat (sliceBytes bytes 8 4)
  let refuse := fun (status : Nat) => some (wdpMessage 1 0 t status 0 [] none)
  let s := { s with power := { s.power with bosunMatch := false } }
  let (s, response) :=
    if 1024 < bytes.length then (s, refuse 9)
    else if bytes.length < 2 ∨ beNat (bytes.drop (bytes.length - 2)) ≠ (crc16 (bytes.take (bytes.length - 2))).toNat then
      (s.count P.BosunCrcErrorCount 0, refuse 4)
    else s.request .bosun 0 0 0 1020 (bytes.take (bytes.length - 2))
  { s with wdp := { s.wdp with bosunResponse := response } }

/-- The first `count` bytes of a read transfer; it leaves the response in place. -/
def State.bosunBytes (s : State) (count : Nat) : List Byte :=
  let r := s.wdp.bosunResponse.getD []
  let b := beBytes 2 r.length ++ r
  let all := b ++ beBytes 2 (crc16 b).toNat
  all.take count ++ List.replicate (count - all.length) 0xFF

/-- BOSUN_WRITE_TRANSFER (R111); one that the target holds by stretching waits for Run (R79). -/
def execBosunWriteTransfer (bytes : List Byte) (s : State) : Host.Outcome State Fault Refusal :=
  if s.bosunServes then done (s.bosunRequest bytes)
  else if s.power.bosunHeld then done { s with power := { s.power with heldTransfer := some bytes } }
  else done s

/-- BOSUN_READ (R112). -/
def execBosunRead (count : Nat) (s : State) : Host.Outcome State Fault Refusal :=
  if s.bosunServes then
    done ({ s with power := { s.power with bosunMatch := false } }.answer 0 (s.bosunBytes count))
  else done s

/-! ### Frames received on a stay port (R147 to R150) -/

/-- A PTP event message: a Sync is stamped by the command that carries it; a Delay_Req on a port in the master state is
answered; the message engine has no use for another. -/
def State.stayEvent (s : State) (p : Nat) (head : PtpHead) (stamp : T32) (frac : Byte) : State :=
  if head.msgType = 0 then s
  else
    let q := s.stayPtp p
    if head.msgType = 1 && q.master && s.ptpPort p head.domain && s.timeState != Ts.local then
      let x : Stamp := { head := head, stamp := stamp, frac := stampFrac frac, flagged := false }
      let (s, valid) := s.pushIngress (0x40 + p) x
      if valid then
        (s.setIngressQ (0x40 + p) (takeStamp 1 head.seq (s.ingressQ (0x40 + p)))).sendPriority p
          (s.stayPtpFrame p (.delayResp head.domain head.seq stamp (stampFrac frac)) 320 54)
      else s
    else (s.stampUnused (0x40 + p) head stamp frac).1

/-- A frame that passes the buffer on the way to a consumer at once. -/
def State.throughRx (s : State) (p : Nat) (len : Nat) (take : State → State) : State :=
  if (s.stayPort p).rxUsed + len > rxBufferSize then s.count P.RxOverflowCount_P3027 p else take s

/-- Codewords that RS-FEC has corrected, and those beyond correction (P3029, P302A). -/
def State.countFec (s : State) (p : Nat) (f : RxFrame) : State :=
  if s.bit P.StayStatus p 4 then
    let s := if f.corrected = 0 then s else s.countBy P.FecCorrectedCount p f.corrected
    if f.uncorrected = 0 then s else s.countBy P.FecUncorrectedCount p f.uncorrected
  else s

/-- A received frame: checked, counted, and passed to what Table 7.3 names. -/
def State.receiveStay (s : State) (p : Fin 4) (f : RxFrame) : State :=
  if !(s.stayActive && s.stayEnabled p && s.stayUp p) then s
  else
    let s := s.countFec p f
    match s.frameFault p f with
    | some c => s.count c p
    | none =>
      if !(s.accepts p f && (f.stacked || s.vlanOk p f)) then s
      else
        let s := (s.traffic P.RxFrameCount_P3020 p 1).traffic P.RxByteCount_P3021 p f.len
        match (if f.stacked then .unclassified else s.classify p f) with
        | .ptpEvent h t x => s.stayEvent p h t x
        | .express _ => s
        | .halyard | .silent => s.throughRx p f.len id
        | .wdp src srcPort unicast fragment data => s.throughRx p f.len (fun s => s.datagram p f.srcMac src srcPort unicast fragment data)
        | .held d => s.holdRx p d f.len
        | .answer r len =>
          s.throughRx p f.len (fun s => s.sendGeneral p { frame := r, len := len, net := some (s.stayHead p f.srcMac 0 0 0) })
        | .query v6 => s.throughRx p f.len (fun s =>
          (s.reports p v6 ((s.stayPort p).joined.map stateRecord)).foldl (fun s x => s.sendGeneral p x) s)
        | .unclassified => s.throughRx p f.len (fun s => s.count P.RxUnclassifiedCount_P3028 p)

/-- STAY_FRAME_RECEIVED (R149). An express frame's copies are made by EXPRESS_FRAME as it arrives. -/
def execStayFrameReceived (port : Fin 4) (frame : RxFrame) (s : State) : Host.Outcome State Fault Refusal :=
  done (s.receiveStay port frame)

end Sys2Proof.Machine
end

