-- ==== Sys2Proof/Machine/Ready.lean ====
section
/-! DEFINITION. The last steps to ready (R59, R409, R410, R416), the abort points of an entry and the end of a wake
(R74, R75, R78, R82), and the relock of a PLL (R53). -/
namespace Sys2Proof.Machine

/-! ### The settings bank (R416, Tables 19.4 and 19.5) -/

/-- One settings record. -/
structure SettingsRecord where
  param : Nat
  elem : Nat
  value : List Byte
  deriving DecidableEq, Repr

/-- The records of a bank, back to back; what does not hold a whole record ends them. -/
def parseRecords : Nat → List Byte → List SettingsRecord
  | 0, _ => []
  | fuel + 1, b =>
    let len := leNat (sliceBytes b 4 4)
    let size := 8 + (len + 3) / 4 * 4
    if b.length < 8 ∨ b.length < 8 + len then []
    else
      let x : SettingsRecord :=
        { param := leNat (b.take 2), elem := (b.getD 2 0).toNat, value := sliceBytes b 8 len }
      x :: parseRecords fuel (b.drop size)

/-- How the kernel's records come: at Yard level, through R89 and R90 and no other check. -/
def Via.settings : Via := { rq := Requester.kernel, level := 3, frame := none, cue := false, mirror := true }

/-- A stored body of the bank: checked as a committed one is, and in force at once. -/
def State.applyBody (s : State) (r : Row) (b : List Byte) : State × Byte :=
  if !r.stored ∨ s.readOnly Via.settings r ∨ (r.num = P.KeyHash ∧ s.nv.keyHash.isSome) then (s, 2)
  else if r.size < b.length then (s, 3)
  else
    let (s, ok) := s.checkBody r.num b
    if ok then (s.installBody r.num b, 0) else (s, 3)

/-- One record; true when it is skipped: undefined, or refused by a check of range or length. -/
def State.applyRecord (s : State) (x : SettingsRecord) : State × Bool :=
  match Dict.row x.param with
  | none => (s, true)
  | some r =>
    if r.elems ≤ x.elem then (s, true)
    else
      let (s, status) := match r.ty with
        | .blob => s.applyBody r x.value
        | .str => s.writeOp Via.settings x.param x.elem 1 x.value
        | _ => s.writeOp Via.settings x.param x.elem 1 x.value.reverse
      (s, status == 3 || status == 4)

/-- The records in turn; the number skipped. -/
def State.applyRecords (s : State) : List SettingsRecord → State × Nat
  | [] => (s, 0)
  | x :: xs =>
    let (s, skipped) := s.applyRecord x
    let (s, n) := State.applyRecords s xs
    (s, n + skipped.toNat)

/-- No frame has been latched: what was applied is in force. -/
def State.settleContent (s : State) : State :=
  { s.content.foldl (fun s w => s.putLive w.key w.value) s with content := [] }

/-- The kernel selects the newer committed bank and applies its records, or keeps the defaults. -/
def State.applySettings (s : State) : State :=
  let source := fun (s : State) (n skipped : Nat) =>
    (s.setFld P.SettingsStatus 0 10 2 n).setFld P.SettingsStatus 0 16 16 (min 65535 skipped)
  match s.newerBank with
  | none => source s 3 0
  | some i =>
    let bank := s.bankOf i
    if bank.format ≠ s.update.format then source s 2 0
    else
      let records := sliceBytes bank.bytes 4096 (leNat (sliceBytes bank.bytes 12 4))
      let (s, skipped) := s.applyRecords (parseRecords records.length records)
      source s.settleContent i.val skipped

/-- SETTINGS_APPLY (R416), once, after the hand-over. -/
def execSettingsApply (s : State) : Host.Outcome State Fault Refusal :=
  if s.power.phase = .boot ∧ s.power.boot.handed ∧ !s.power.boot.settingsApplied then
    let s := s.applySettings
    done (s.setBoot { s.power.boot with settingsApplied := true })
  else done s

/-! ### Ready (R59) -/

/-- The entries that the kernel writes at ready (R409, R416). -/
def State.logReady (s : State) : State :=
  let s := s.power.boot.rejected.foldl (fun s x =>
    s.log 0x1F 0x0071 x.1.val (BitVec.ofNat 32 x.2.1) (BitVec.ofNat 32 x.2.2)) s
  let source := s.fld P.SettingsStatus 0 10 2
  let skipped := s.fld P.SettingsStatus 0 16 16
  let format : Nat := match s.newerBank with
    | some i => (s.bankOf i).format.toNat
    | none => 0
  let s := if 2 ≤ source then s.log 0x1F 0x0074 source (BitVec.ofNat 32 format) 0 else s
  if skipped = 0 then s else s.log 0x1F 0x0075 0 (BitVec.ofNat 32 skipped) 0

/-- The health timer of R410: 300 s on the always-on clock for an image in Trial or booted as the last resort. -/
def State.startHealth (s : State) : State :=
  match s.power.boot.image with
  | some i =>
    if (s.slotOf i).code = 2 ∨ s.bit P.UpdateStatus 0 10 then
      s.setUpdate { s.update with healthTimer := some (s.clock + 150000000000) }
    else s
  | none => s

/-- The device serves from here on. -/
def State.reachReady (s : State) : State :=
  let s := { s with power := { s.power with phase := .ready } }
  let s := s.wr P.DeviceState 0 (BitVec.ofNat 64 s.power.boot.unverified.toNat)
  (s.setWatchdog .running).logReady.startHealth.startRunEngines.place

/-- DEVICE_READY (R59). -/
def execDeviceReady (s : State) : Host.Outcome State Fault Refusal :=
  if s.power.phase = .boot ∧ s.power.boot.settingsApplied then done s.reachReady else done s

/-! ### The wait instruction and the start of an entry (R71, R72, R74) -/

/-- SLEEP_ENTRY_BEGIN (Table 4.3, instant w): InTransition set, DC1 to DC3 halt (no core runs in an entry), dispatch stops,
the watchdog pauses, and the announcements of R41 are put in the queues, to be complete by abort point 1. A level-type
wake source that stands is latched at once. -/
def State.beginEntry (s : State) (t : Nat) : State :=
  let s := (s.setBit P.PowerStatus 0 3 true).setFld P.PowerStatus 0 4 3 t
  let s := { s with capstan := { s.capstan with dispatchStopped := true } }
  let s := (s.setWatchdog .paused).setWakeLatch (s.standing t)
  (s.setSleep (.entering (BitVec.ofNat 3 t) 0)).announceStop

/-- WAIT_FOR_INTERRUPT (R71, R72). -/
def State.waitInstr (s : State) (c : Nat) : State :=
  if !(s.serving && s.coreRuns c) then s
  else
    let t := s.fld P.PowerStateRequest 0 0 3
    let waits := s.setCore c { s.core c with waiting := true }
    if c = 0 ∧ t ≠ 0 then waits.beginEntry t
    else if s.irqReady c then s
    else waits.settleLuff

def execWaitForInterrupt (core : Fin 4) (s : State) : Host.Outcome State Fault Refusal := done (s.waitInstr core)

/-! ### Abort points (Table 4.3) -/

/-- Every maintenance activity in progress is aborted (R431). -/
def State.abortActivities (s : State) : State :=
  let s := if s.shroud.cable.isEmpty then s else s.abortCable s.shroud.cable
  let s := s.dropTrim.abortScrub.abortExport.abortSave
  s.abortImage.endWriting P.ImageWrite 2

/-- Abort point 1: the announcements are complete; no later frame is latched; sinks and switches off. -/
def State.passPoint1 (s : State) : State :=
  let s := s.discardShow.darkenLamp
  s.setGrid { s.halyard.grid with queued := [] } |>.abortActivities

/-- Abort point 2: the egress queues are empty, the stay transmitters idle, the radio off or listening, time held over. -/
def State.passPoint2 (s : State) (target : Nat) : State :=
  let s := (List.range 4).foldl (fun s p =>
    let s := s.stayDown p
    s.setStayPort p { s.stayPort p with rxHeld := [], priority := [], cascade := [], general := [], sending := none }) s
  let s := (List.range 64).foldl (fun s p =>
    let s := s.setPort p ShroudPort.init
    if target = Tg.reefed ∧ s.shroudUp p ∧ s.bit P.PhyControl p 7 then
      (s.setBit P.PortStatus p 8 true).setBit P.LinkStatus p 5 true
    else s) s
  let s := s.clearKite.setInLock 0
  if target ≠ Tg.struck ∧ (s.timeState = Ts.locked ∨ s.timeState = Ts.locking) then s.setTimeState Ts.holdover else s

/-- Abort point 3: the clocks that the target state does not run are stopped, and with them the canvas cycle and the pack pass. -/
def State.passPoint3 (s : State) (target : Nat) : State :=
  let s := { s with render := { s.render.cleared with frame := none, oldArea := false },
                    sheet := { s.sheet with packing := none, closed := none } }
  (stoppedPlls target).foldl (fun s n => s.setLock n false) s

/-- What a return to Run restores of the steps passed: the shroud links leave low-power idle, Sheet resumes. -/
def State.undoEntry (s : State) : State :=
  ((List.range 64).foldl (fun s p => s.wakeLpi p) s).resumeShow

/-- An entry step completes; a latched wake abandons the entry (R75). -/
def State.reachPoint (s : State) (n : Nat) : State :=
  match s.power.sleep with
  | .entering t ap =>
    if s.power.phase = .ready ∧ n = ap + 1 ∧ n ≤ 4 then
      let s := if n = 1 then s.passPoint1 else if n = 2 then s.passPoint2 t.toNat else if n = 3 then s.passPoint3 t.toNat else s
      if s.power.wakeLatch.isSome then (s.abandonEntry t.toNat n).undoEntry.releaseFirings else s.setSleep (.entering t n)
    else s
  | _ => s

/-- ABORT_POINT (R74, R75). -/
def execAbortPoint (point : Fin 5) (s : State) : Host.Outcome State Fault Refusal := done (s.reachPoint point)

/-- The Bosun target releases SCL in Run and serves the transfer it held (R79). -/
def State.serveHeld (s : State) : State :=
  let held := s.power.heldTransfer
  let s := { s with power := { s.power with bosunHeld := false, heldTransfer := none } }
  match held with
  | some bytes => s.bosunRequest bytes
  | none => s

/-- WAKE_COMPLETE (R78): the first frame after it starts from unity scale and a dark lamp, and engines start at Run. -/
def State.wake (s : State) : State :=
  match s.power.sleep with
  | .waking _ =>
    let s := s.completeWake.undoEntry
    { s with render := { s.render with entry := [] } }.startRunEngines.releaseFirings.serveHeld
  | _ => s

def execWakeComplete (s : State) : Host.Outcome State Fault Refusal := done s.wake

/-! ### Relock (R53) -/

/-- A PLL of which a relock is attempted: its clock is wanted in the device's state (Tables 3.6, 4.1 and 4.3). -/
def State.pllWanted (s : State) (pll : SoftPll) : Bool :=
  s.referenceRuns && s.power.phase != .held && (pll != .spll || (List.range 4).any s.stayEnabled) &&
    (pll != .spll || (match s.power.sleep with
      | .reefed | .waking _ => false
      | .entering _ ap => decide (ap < 3)
      | _ => true))

/-- PLL_RELOCK_ATTEMPT: the attempt locks or does not; the shroud transmitters then go on. -/
def execPllRelockAttempt (pll : SoftPll) (locked : Bool) (s : State) : Host.Outcome State Fault Refusal :=
  if locked && s.pllWanted pll then
    let s := s.setLock (SoftPll.bit pll) true
    done ((List.range 64).foldl (fun s p => s.servePort p) s)
  else done s

end Sys2Proof.Machine
end

