-- ==== Sys2Proof/Machine/Mirror.lean ====
section
/-! DEFINITION. Twin-mast redundancy (chapter 17), second part: pennants received on either path, what they do to the
roles, the mirror records that a standby takes, and the answers that an active unit takes. -/
namespace Sys2Proof.Machine

/-! ### The pennant header (R361) -/

/-- A received header. -/
structure PennantHead where
  unitB : Bool
  epoch : BitVec 7
  role : Role
  mirror : MirrorState
  time : Byte
  count : Nat
  seq : Word
  next : Word
  ack : Word
  hashIndex : Word
  hashSum : Word
  deriving DecidableEq, Repr

def wordAt (b : List Byte) (i : Nat) : Word := BitVec.ofNat 32 (beNat (sliceBytes b i 4))

/-- The header of a pennant of one kind: magic and version must stand in it (R363). -/
def parsePennant (kind : Nat) (b : List Byte) : Option PennantHead :=
  if b.length < 32 ∨ beNat (b.take 2) ≠ 0x5044 ∨ (b.getD 2 0).toNat ≠ 0x10 + kind then none
  else
    let three := b.getD 3 0
    let four := (b.getD 4 0).toNat
    some { unitB := three.getLsbD 7, epoch := three.setWidth 7, role := Role.ofCode (four / 64),
           mirror := MirrorState.ofCode (four / 16 % 4), time := b.getD 5 0, count := beNat (sliceBytes b 6 2), seq := wordAt b 8,
           next := wordAt b 16, ack := wordAt b 20, hashIndex := wordAt b 24, hashSum := wordAt b 28 }

/-- The records that follow a header, at most `n`. -/
def parseMirror : Nat → List Byte → List MirrorRecord
  | 0, _ => []
  | n + 1, b =>
    let len := beNat (sliceBytes b 2 2)
    if b.length < 8 + len then []
    else
      { kind := b.getD 0 0, flags := b.getD 1 0, target := wordAt b 4, data := sliceBytes b 8 len } ::
        parseMirror n (b.drop (8 + len))

/-- Records with their sequences. -/
def numberRecords (q : Word) : List MirrorRecord → List (Word × MirrorRecord)
  | [] => []
  | r :: rs => (q, r) :: numberRecords (q + 1) rs

/-! ### Records on the standby (R366 to R371) -/

/-- How a mirrored write comes. -/
def mirrorVia (frame : Option Nat) : Via := { rq := Requester.kernel, level := 3, frame := frame, cue := false, mirror := true }

def MirrorRecord.timed (r : MirrorRecord) : Bool := r.flags.getLsbD 2
def MirrorRecord.inGroup (r : MirrorRecord) : Bool := r.flags.getLsbD 1
def MirrorRecord.param (r : MirrorRecord) : Nat := beNat (r.data.take 2)
def MirrorRecord.elem (r : MirrorRecord) : Nat := (r.data.getD 2 0).toNat
def MirrorRecord.value (r : MirrorRecord) : Nat := beNat (sliceBytes r.data 4 8)
/-- The frame a timed record names. -/
def State.recordFrame (s : State) (r : MirrorRecord) : Option Nat := if r.timed then some (s.fullFrame r.target) else none

/-- A Write record takes effect as the write it mirrors (R367). -/
def State.mirrorStore (s : State) (r : MirrorRecord) (frame : Option Nat) : State :=
  match Dict.row r.param with
  | none => s
  | some row =>
    if row.mirrored then (s.writeOp (mirrorVia frame) r.param r.elem 1 (beBytes row.ty.bytes r.value)).1 else s

/-- A Write record of a resynchronisation: the value is held until ResyncEnd puts it in force; one that is not
content-affecting takes its effect, unless it brings no change. -/
def State.resyncStore (s : State) (r : MirrorRecord) : State :=
  let v : Wide := BitVec.ofNat 64 r.value
  let p := r.param
  let e := r.elem
  match Dict.row p with
  | none => s
  | some row =>
    if !row.mirrored || row.acc == .wo || decide (row.elems ≤ e) || s.rd p e == v then s
    else if p = P.StreamControl ∨ p = P.CascadeControl then
      let starts := !s.bit p e 0 && v.getLsbD 0
      let s := s.wr p e v
      if !starts then s else if p = P.StreamControl then s.startVideo e else s.startCascade e
    else if row.content && p != P.ShowFrameRate then s.wr p e v
    else (s.writeElement (mirrorVia none) row e v).1

/-- The words of a CueAdmit record, with Source 30h in its header (R368, Table 8.5). -/
def MirrorRecord.words (r : MirrorRecord) : List Wide :=
  let ws := (List.range ((r.data.length - 4) / 8)).map (fun i => BitVec.ofNat 64 (beNat (sliceBytes r.data (4 + 8 * i) 8)))
  match ws with
  | [] => []
  | h :: as => putField h 32 8 0x30 :: as

/-- A mirrored cue enters the standby's queue under its admission number (R368). -/
def State.takeAdmit (s : State) (r : MirrorRecord) : State :=
  let n := r.admission
  let ws := r.words
  let s := if s.twin.resyncing then s.setTwin { s.twin with resent := n :: s.twin.resent } else s
  if ws.isEmpty || s.cue.queue.any (fun c => c.admission == n) then s
  else if s.cueWords + ws.length > 16384 then (s.count P.CueOverflowCount 0).goStale
  else
    let s := s.enqueueCue { priority := Cw.priority (ws.getD 0 0), admission := n, words := ws }
    let s := s.traffic P.CueAdmittedCount 0 1
    { s with cue := { s.cue with nextAdmission := n + 1 } }

/-- A piece of a body enters its staging area; offset 0 begins a body anew. -/
def State.takeBlobData (s : State) (r : MirrorRecord) : State :=
  let p := r.param
  let off := beNat (sliceBytes r.data 4 4)
  let bytes := r.data.drop 8
  let old := if off = 0 then [] else SMap.get [] s.twin.staging p
  let body := old.take off ++ List.replicate (off - old.length) 0 ++ bytes ++ old.drop (off + bytes.length)
  s.setTwin { s.twin with staging := SMap.set [] s.twin.staging p body }

/-- BlobEnd: the body is whole and its hash begins. -/
def State.takeBlobEnd (s : State) (r : MirrorRecord) : State :=
  let t := s.twin
  let b : MirrorBody :=
    { param := r.param, resync := t.resyncing && t.resyncFrame.isNone,
      body := (SMap.get [] t.staging r.param).take (beNat (sliceBytes r.data 4 4)), digest := sliceBytes r.data 8 32 }
  s.setTwin { t with staging := SMap.set [] t.staging r.param [], verifying := t.verifying ++ [b] }

/-- BlobLive: the body found good becomes live at its latch. -/
def State.takeBlobLive (s : State) (r : MirrorRecord) : State :=
  match s.twin.verified.find? (fun b => b.param == r.param && !b.resync) with
  | none => s
  | some b =>
    let w : BlobWrite := { param := b.param, body := b.body, slot := none, frame := s.recordFrame r }
    let s := s.setTwin { s.twin with verified := s.twin.verified.erase b }
    { s with blobWrites := s.blobWrites ++ [w] }

/-- A boundary of the grid in force as a position in `1 / n` ns, modulo 2^32 ns. -/
def State.gridPosition (s : State) (k : Nat) : Int :=
  let g := s.halyard.grid
  (((g.t.toNat * rateN g.rate + g.r : Nat) : Int) + ((k : Int) - (g.index : Int)) * (rateA g.rate : Int)) %
    ((2 ^ 32 * rateN g.rate : Nat) : Int)

/-- A Time record (R370): WrapCount is taken over, and the grid is seeded anew where it would give the record's boundary
another index, or has no seed of its own. -/
def State.takeTime (s : State) (r : MirrorRecord) : State :=
  let wrap := beNat (r.data.take 8)
  let k := beNat (sliceBytes r.data 8 8)
  let t := beNat (sliceBytes r.data 16 4)
  let rem := beNat (sliceBytes r.data 20 4)
  let g := s.halyard.grid
  let s := if s.rdN P.WrapCount 0 = wrap then s else (s.wr P.WrapCount 0 (BitVec.ofNat 64 wrap)).checkEra
  if s.seeded && !g.rateChanged && s.gridPosition k == ((t * rateN g.rate + rem : Nat) : Int) then s
  else
    ((((s.wr P.GridSeed 0 (BitVec.ofNat 64 (k % 2 ^ 32))).wr P.GridSeed 1 (BitVec.ofNat 64 (k / 2 ^ 32))).wr P.GridSeed 2
      (BitVec.ofNat 64 t)).wr P.GridSeed 3 (BitVec.ofNat 64 rem)).seedGrid

/-- ResyncBegin: a new count and a new resynchronisation (R366, R371). -/
def State.beginResync (s : State) : State :=
  let s := s.setMirrorState .resynchronising
  s.setTwin { s.twin with resyncing := true, resyncFrame := none, resyncHeld := false, resent := [], staging := [],
                          verifying := [], verified := [], mismatched := [], waiting := [], unacked := [], sent := 0 }

/-- A parameter whose value in force is not the value that a write of it holds: content-affecting, or a shadow. -/
def Row.latched (r : Row) : Bool :=
  (r.content && r.num != P.ShowFrameRate) || layerParams.contains r.num || canvasParams.contains r.num ||
    genParams.contains r.num || (decide (0x6100 ≤ r.num) && decide (r.num ≤ 0x6105))

/-- Register keys of every mirrored scalar that a latch puts in force. -/
def mirroredKeys : List Nat :=
  (allRows.filter (fun r => r.mirrored && r.acc != .wo && r.ty != .blob && r.ty != .str && r.latched)).flatMap fun r =>
    (List.range r.elems).map (Dict.key r.num)

/-- ResyncEnd: the values received are in force from frame `k`, and nothing that waited before them is. -/
def State.endResync (s : State) (k : Nat) : State :=
  let news := mirroredKeys.map (fun key => ({ key := key, value := s.shadow key, frame := some k } : ContentWrite))
  let kept := s.content.filter (fun x => !mirroredKeys.contains x.key)
  let s := { s with content := kept ++ news }
  let s := (s.setRender { s.render with items := [], committed := [] }).showPending
  s.setTwin { s.twin with resyncFrame := some k }

/-- The first frame whose latch instant is still to come: the one that the next latch fixes, or the one after it (R19). -/
def State.openFrame (s : State) : Nat := s.nextChange.getD s.halyard.grid.nextLatch

/-- A timed record that comes in the clock of L(k) or later acts at the next latch, and is counted (R367). -/
def State.retimed (s : State) (r : MirrorRecord) : State × MirrorRecord :=
  match s.recordFrame r with
  | some k =>
    if s.seeded && decide (k < s.openFrame) then
      (s.count P.MirrorLateCount 0, { r with target := BitVec.ofNat 32 s.openFrame })
    else (s, r)
  | none => (s, r)

/-- One record in its turn. -/
def State.actRecord (s : State) (q : Word) (r : MirrorRecord) : State :=
  let (s, r) := s.retimed r
  let k := s.recordFrame r
  let receiving := s.twin.resyncing && s.twin.resyncFrame.isNone
  match r.kind.toNat with
  | 1 =>
    if r.inGroup then s.setTwin { s.twin with waiting := s.twin.waiting ++ [r] }
    else if receiving then s.resyncStore r
    else s.mirrorStore r k
  | 2 => s.takeAdmit r
  | 3 => s.setTwin { s.twin with waiting := s.twin.waiting ++ [r] }
  | 4 => s.takeBlobData r
  | 5 => s.takeBlobEnd r
  | 6 => s.takeBlobLive r
  | 7 => s.takeTime r
  | 8 => s.beginResync
  | 9 => if receiving then s.endResync (s.fullFrame r.target) else s
  | 10 => s.setTwin { s.twin with handOver := some (s.fullFrame r.target, q) }
  | _ => s

/-- Records of a burst in sequence order: without an expected sequence all but a ResyncBegin are discarded, and otherwise
everything from the first that is out of turn (R366). -/
def State.takeRecords (s : State) : List (Word × MirrorRecord) → State
  | [] => s
  | (q, r) :: rs =>
    let accept := match s.twin.expected with
      | none => r.kind == 8
      | some x => q == x
    if accept then
      let s := s.setTwin { s.twin with expected := some (q + 1), ack := q }
      State.takeRecords ((s.traffic P.MirrorRecordCount 0 1).actRecord q r) rs
    else if s.twin.expected.isNone then State.takeRecords s rs
    else s

/-! ### Answers on the active unit (R369) -/

/-- A body that the standby holds becomes live on both units from the first frame at least MirrorLead ahead; the commit
is answered. While the grid has no seed it waits for one. -/
def State.commitLive (s : State) (slot : Nat) : State :=
  let others := s.twin.blobCommit.filter (fun c => c.1 != slot)
  if s.seeded then
    let k := s.mirrorFrame
    let s := s.emit { kind := 6, flags := 4, target := BitVec.ofNat 32 k, data := beBytes 2 (s.xfer slot).param ++ [0, 0] }
    (s.setTwin { s.twin with blobCommit := others }).placeAtLatch slot (some k)
  else s.setTwin { s.twin with blobCommit := others ++ [(slot, 2)] }

/-- Commits that wait only for a seed go on once the grid has one. -/
def State.liveCommits (s : State) : State :=
  if s.role == .active then
    (s.twin.blobCommit.filter (fun c => c.2 == 2)).foldl (fun (s : State) c => s.commitLive c.1) s
  else s

/-- A mismatch: the body is sent once more, and after a second one the active goes on alone. -/
def State.commitMismatch (s : State) (slot stage : Nat) : State :=
  let others := s.twin.blobCommit.filter (fun c => c.1 != slot)
  if stage = 0 then
    (s.setTwin { s.twin with blobCommit := others ++ [(slot, 1)] }).emitBlob (s.xfer slot).param (s.stagedBody slot) true
  else (s.setTwin { s.twin with blobCommit := others }).placeAtLatch slot none

/-- A BlobAck record answers the oldest body of its parameter. -/
def State.takeBlobAck (s : State) (r : MirrorRecord) : State :=
  let p := r.param
  let bad := r.data.getD 2 0 != 0
  match s.twin.bodies.find? (fun b => b.1 == p) with
  | none => s
  | some b =>
    let s := s.setTwin { s.twin with bodies := s.twin.bodies.erase b }
    if !b.2 then (if bad && !s.twin.resyncing then s.emitBlob p (s.latestBody p) false else s)
    else
      match s.twin.blobCommit.find? (fun c => (s.xfer c.1).param == p && decide (c.2 < 2)) with
      | none => s
      | some c => if bad then s.commitMismatch c.1 c.2 else s.commitLive c.1

/-- Records that an active unit takes from its standby: BlobAck alone, in sequence order. -/
def State.takeAnswers (s : State) : List (Word × MirrorRecord) → State
  | [] => s
  | (q, r) :: rs =>
    let accept := match s.twin.expected with
      | none => true
      | some x => q == x
    if accept then
      let s := s.setTwin { s.twin with expected := some (q + 1), ack := q }
      let s := s.traffic P.MirrorRecordCount 0 1
      State.takeAnswers (if r.kind = 0x0B then s.takeBlobAck r else s) rs
    else s

/-- MirrorAck: records up to it need not be sent again (R366). -/
def State.takeAck (s : State) (ack : Word) : State :=
  let left := s.twin.unacked.filter (fun x => decide (2 ^ 31 ≤ (ack - x.1).toNat))
  s.setTwin { s.twin with unacked := left, sent := s.twin.sent - (s.twin.unacked.length - left.length) }

/-! ### Roles as pennants show the partner (R359, R371, R372, R375) -/

/-- Both units Active: the split is shown and counted once, and the lower-ranking one steps down after 3 consecutive
intervals. -/
def State.bothActive (s : State) (h : PennantHead) (run : Nat) : State :=
  let s := if s.twin.splitCounted then s
    else (s.count P.DualActiveCount 0).setTwin { (s.count P.DualActiveCount 0).twin with splitCounted := true }
  let s := (s.setBit P.TwinStatus 0 22 true).setTwin { s.twin with dualRun := run }
  if run ≥ 3 ∧ epochAbove h.epoch s.epoch h.unitB ∧ s.twin.roleAtLatch.isNone then s.roleAt .standby else s

/-- A commit whose body has failed once goes on alone when the standby falls back to Stale (R369). -/
def State.dropCommits (s : State) : State :=
  (s.twin.blobCommit.filter (fun c => c.2 == 1)).foldl (fun (s : State) c =>
    (s.setTwin { s.twin with blobCommit := s.twin.blobCommit.filter (fun d => d.1 != c.1) }).placeAtLatch c.1 none) s

/-- A Stale standby on a live Pennant path gets a full resynchronisation, one for each time it is found Stale (R371). -/
def State.watchStandby (s : State) (h : PennantHead) (wasStale : Bool) : State :=
  if h.role != .standby then s.setTwin { s.twin with resyncing := false }
  else if h.mirror == .stale then
    if s.pennantAlive && s.seeded && (!s.twin.resyncing || !wasStale) then s.dropCommits.startResync else s
  else if h.mirror == .inSync then s.setTwin { s.twin with resyncing := false }
  else s

/-- What a newer pennant of the partner does to this unit's role. `run` counts the consecutive intervals in which the
partner was heard as Active. -/
def State.judgePartner (s : State) (h : PennantHead) (run : Nat) (wasStale : Bool) : State :=
  match s.role with
  | .joining =>
    if s.bit P.TwinStatus 0 23 || s.twin.roleAtLatch.isSome || !s.twin.partnerHeard then s
    else match h.role with
      | .active | .standby => s.becomeStale
      | .joining => if s.unitB then s.becomeStale else s.roleAt .active
      | .solo => s
  | .active => if h.role = .active then s.bothActive h run else s.clearDual.watchStandby h wasStale
  | _ => s

/-- R378: while the pair is in step and shows the same frame, the summaries must agree. -/
def State.compareHash (s : State) (h : PennantHead) : State :=
  let inStep := (s.role == .active && h.role == .standby && h.mirror == .inSync) ||
    (s.role == .standby && s.mirrorState == .inSync && h.role == .active)
  if inStep && h.hashIndex.toNat == s.rdN P.FrameHashIndex 0 && h.hashSum != s.hashSummary then
    let second := s.clock / 500000000
    let s := s.count P.HashMismatchCount 0
    if s.twin.hashLogged = some second then s
    else (s.log 0x1D 0x0052 0 h.hashIndex h.hashSum).setTwin { s.twin with hashLogged := some second }
  else s

/-- The pair's epoch is held by both units (R359). -/
def State.adoptEpoch (s : State) (e : BitVec 7) : State :=
  let s := s.noteEpoch e
  match s.role, s.twin.lastEpoch with
  | .standby, some x => s.setRole .standby x
  | .joining, some x => s.setRole .joining x
  | _, _ => s

/-- A valid pennant of the partner on a path. One that a newer pennant has overtaken on the other path only shows that
its path is alive. -/
def State.hearPartner (s : State) (path : Nat) (h : PennantHead) : State :=
  let s := (s.traffic P.PennantCount 0 1).pathHeard path h.seq
  let s := (s.setFld P.TwinStatus 0 14 2 h.role.code).setFld P.TwinStatus 0 7 7 h.epoch.toNat
  let s := s.adoptEpoch h.epoch
  let ahead : Word := match s.twin.partnerSeq with
    | none => 1
    | some q => h.seq - q
  if ahead.getLsbD 31 then s
  else
    let t := s.twin
    let run := if h.role != .active then 0 else if ahead = 0 then max t.dualRun 1 else if ahead = 1 then t.dualRun + 1 else 1
    let wasStale := t.partnerRole == .standby && t.partnerMirror == .stale
    let s := s.setTwin { t with partnerSeq := some h.seq, partnerEpoch := h.epoch, partnerRole := h.role,
                                partnerMirror := h.mirror, partnerTime := h.time, partnerHashIndex := h.hashIndex,
                                partnerHash := h.hashSum }
    let s := (s.judgePartner h run wasStale).holdMirror
    if ahead = 0 then s else s.compareHash h

/-- A pennant whose check has passed. -/
def State.takePennant (s : State) (path : Nat) (h : PennantHead) : State :=
  if h.unitB == s.unitB then s.strapConflict h.role.code else s.hearPartner path h

/-- Acknowledgement and records of a burst. -/
def State.takeMirror (s : State) (h : PennantHead) (rs : List MirrorRecord) : State :=
  if h.unitB == s.unitB then s
  else
    let inUse := (s.role == .active && h.role == .standby && h.mirror != .stale) || (s.role == .standby && h.role == .active)
    if !inUse then s
    else
      let s := s.takeAck h.ack
      let l := numberRecords h.next rs
      if s.role == .active then s.takeAnswers l else s.takeRecords l

/-- A burst as received: eight preamble bytes, header, records and the CRC-32 over both (R360, R363). -/
def State.takeBurst (s : State) (bytes : List Byte) : State :=
  let b := (bytes.drop 8).take (bytes.length - 12)
  if bytes.length < 44 ∨ beBytes 4 (crc32 b).toNat ≠ bytes.drop (bytes.length - 4) then s.count P.PennantCrcErrorCount 0
  else
    match parsePennant 0 b with
    | none => s
    | some h => (s.takePennant 0 h).takeMirror h (parseMirror h.count (b.drop 32))

/-- PENNANT_BURST_RECEIVED (R363). -/
def execPennantBurstReceived (bytes : List Byte) (s : State) : Host.Outcome State Fault Refusal :=
  if s.stayActive && s.paired then done (s.takeBurst bytes) else done s

/-- A stay pennant: header and tag (R362). -/
def State.takeStayPennant (s : State) (bytes : List Byte) : State :=
  let head := bytes.take 32
  if bytes.length ≠ 48 ∨ (hmac (s.blob P.PairKey) head).take 16 ≠ bytes.drop 32 then s.count P.StayTagFailCount 0
  else
    match parsePennant 1 head with
    | none => s
    | some h => (s.takePennant 1 h).takeMirror h []

/-- STAY_PENNANT_RECEIVED (R362); the stay path counts only while it is used (Table 17.12). -/
def execStayPennantReceived (port : Fin 4) (bytes : List Byte) (s : State) : Host.Outcome State Fault Refusal :=
  if !s.stayActive || !s.stayEnabled port then done s
  else
    let s := s.releaseRx port .pennant
    if s.paired && s.bit P.TwinControl 0 1 then done (s.takeStayPennant bytes) else done s

/-- JOIN_WAIT_EXPIRY (Table 17.7): no partner for JoinWait. -/
def execJoinWaitExpiry (s : State) : Host.Outcome State Fault Refusal :=
  if s.role == .joining && s.paired && !s.twin.partnerHeard && !s.bit P.TwinStatus 0 23 && s.twin.roleAtLatch.isNone then
    done (s.roleAt .active)
  else done s

/-! ### The end of a mirrored body's hash (R369) -/

/-- A BlobAck record. -/
def blobAckRecord (p : Nat) (status : Byte) : MirrorRecord :=
  { kind := 0x0B, flags := 0, target := 0, data := beBytes 2 p ++ [status, 0] }

/-- A body that matches waits for BlobLive or ResyncEnd; a STR takes effect at once. -/
def State.bodyGood (s : State) (b : MirrorBody) : State :=
  let s := s.setTwin { s.twin with mismatched := s.twin.mismatched.filter (· != b.param) }
  match Dict.row b.param with
  | some r =>
    if r.ty = .str ∧ !b.resync then s.setBlob b.param b.body
    else s.setTwin { s.twin with verified := s.twin.verified ++ [b] }
  | none => s

/-- A mismatch is answered; a second one, or one of a resynchronisation, makes the standby Stale. -/
def State.bodyBad (s : State) (b : MirrorBody) : State :=
  if b.resync || s.twin.mismatched.contains b.param then s.goStale
  else s.setTwin { s.twin with mismatched := b.param :: s.twin.mismatched }

/-- The hash of the oldest body of a parameter is done. -/
def State.verifyMirror (s : State) (p : Nat) : State :=
  match s.twin.verifying.find? (fun b => b.param == p) with
  | none => s
  | some b =>
    let s := s.setTwin { s.twin with verifying := s.twin.verifying.erase b }
    let good := sha256 b.body == b.digest
    (if good then s.bodyGood b else s.bodyBad b).emit (blobAckRecord p (if good then 0 else 1))

/-- MIRROR_BLOB_VERIFIED (R369). -/
def execMirrorBlobVerified (param : Half) (s : State) : Host.Outcome State Fault Refusal :=
  if s.serving && s.role == .standby then done (s.verifyMirror param.toNat) else done s

end Sys2Proof.Machine
end

