-- ==== Sys2Proof/Machine/Latch.lean ====
section
/-! DEFINITION. The latch (R18, R19): at L(k) the cycle before it ends, changes of role take effect, and all content for
frame k is fixed: mirrored groups, ramps, content-affecting writes, bodies, commits, the selections and the merge. -/
namespace Sys2Proof.Machine

/-! ### Roles and resynchronisation at the latch (R371, R372) -/

/-- The hand-over of frame `k` or earlier takes place: the two units exchange roles. -/
def State.latchHandOver (s : State) (k : Nat) : State :=
  match s.twin.handOver with
  | none => s
  | some (f, q) =>
    if k < f then s
    else match s.role with
      | .standby => s.becomeActive (q + 1)
      | .active => s.handOverTo q
      | _ => s.setTwin { s.twin with handOver := none }

/-- A change of role that waited for the latch. -/
def State.latchRole (s : State) : State :=
  match s.twin.roleAtLatch with
  | none => s
  | some r =>
    let s := s.setTwin { s.twin with roleAtLatch := none }
    match r, s.role with
    | .standby, .active => s.takeRole .standby
    | .active, .joining => s.takeRole .active
    | _, _ => s

/-- A written PD000 value takes effect (R379). -/
def State.latchControl (s : State) : State :=
  match s.twin.controlPending with
  | none => s
  | some v => s.applyTwinControl v

/-- The resynchronisation is complete: bodies are live, cues not sent again are gone, and the standby is InSync (R371). -/
def State.finishResync (s : State) : State :=
  let bodies := s.twin.verified.filter (·.resync)
  let s := bodies.foldl (fun (s : State) b => s.installBody b.param b.body) s
  let kept := s.cue.queue.filter (fun c => s.twin.resent.contains c.admission)
  let serving := s.cue.inService && s.cue.queue.head?.map (·.admission) == kept.head?.map (·.admission)
  let s := { s with cue := { s.cue with queue := kept, inService := serving } }
  let s := s.setTwin { s.twin with verified := s.twin.verified.filter (fun b => !b.resync), resent := [], resyncing := false,
                                   resyncFrame := none, output := true }
  (s.setMirrorState .inSync).holdMirror

/-- ResyncEnd acts at L(k) of the frame it names, once every body sent before it has been verified. -/
def State.latchResync (s : State) (k : Nat) : State :=
  match s.twin.resyncFrame with
  | none => s
  | some f => if k < f ∨ s.twin.verifying.any (·.resync) then s else s.finishResync

/-- Output begins with this frame where the role gives it (Table 17.7). -/
def State.latchOutput (s : State) : State := if s.commands then s.setOutput true else s

/-- Every change of role that takes effect at the latch of frame `k`. -/
def State.latchTwin (s : State) (k : Nat) : State := (((s.latchControl.latchHandOver k).latchRole).latchResync k).latchOutput

/-! ### Content (R19, R104, R366 to R369) -/

/-- A frame that a change is timed to has come. -/
def frameDue (k : Nat) (frame : Option Nat) : Bool :=
  match frame with
  | none => true
  | some f => decide (f ≤ k)

/-- Mirrored groups in order: one whose CueDone names a frame that has come is applied and its cue is done; the rest is
kept, as are writes whose CueDone has not come. -/
def State.applyGroups (s : State) (k : Nat) : List MirrorRecord → List MirrorRecord → List MirrorRecord → State
  | group, kept, [] => s.setTwin { s.twin with waiting := kept ++ group }
  | group, kept, r :: rs =>
    if r.kind ≠ 3 then State.applyGroups s k (group ++ [r]) kept rs
    else if s.fullFrame r.target ≤ k then
      let t := group.foldl (fun (s : State) w => s.mirrorStore w (some k)) s
      State.applyGroups (t.cueDone r.admission (s.fullFrame r.target)) k [] kept rs
    else State.applyGroups s k [] (kept ++ group ++ [r]) rs

/-- Content-affecting writes that are due become live, oldest first. -/
def State.applyContent (s : State) (k : Nat) : State :=
  let due := s.content.filter (fun x => frameDue k x.frame)
  let s := { s with content := s.content.filter (fun x => !frameDue k x.frame) }
  due.foldl (fun (s : State) x => s.putLive x.key x.value) s

/-- One body becomes live; the slot that held it is freed. -/
def State.latchBody (s : State) (w : BlobWrite) : State :=
  let s := s.installBody w.param w.body
  match w.slot with
  | none => s
  | some n => s.setXfer n { s.xfer n with state := .free, writing := false }

/-- Bodies that are due become live, oldest first. -/
def State.applyBodies (s : State) (k : Nat) : State :=
  let due := s.blobWrites.filter (fun w => frameDue k w.frame)
  let s := { s with blobWrites := s.blobWrites.filter (fun w => !frameDue k w.frame) }
  due.foldl State.latchBody s

/-- VIDEO_SELECT and CASCADE_SELECT (R157, R168). -/
def State.selectAll (s : State) (k : Nat) : State :=
  (List.range 8).foldl (fun (s : State) n => (s.selectVideo n k).selectCascade n k) s

/-- LayerStatus of every layer. -/
def State.showLayers (s : State) : State := (List.range 128).foldl State.showLayer s

/-! ### The content of the frame as Sheet keeps it (R246, R263, R266) -/

/-- What the latch fixes of one port: P8002, P8003 and P8026 whole, and the clone entries that name it (R263). -/
def State.portConfig (s : State) (p : Nat) : List Nat :=
  [s.lvN P.PortEnable 0] ++ (List.range 64).map (fun q => s.lvN P.PortMode q) ++
    (List.range 64).map (fun q => s.lvN P.SacnElementLayout q) ++
    (List.range 16).flatMap fun i =>
      if s.lvN P.CloneSource i = p ∨ (s.lv P.CloneTargets i).getLsbD p then [s.lvN P.CloneSource i, s.lvN P.CloneTargets i]
      else [255, 0]

/-- What a port's channel universes carry, and whether they are sent. -/
def State.portChannels (s : State) (p : Nat) : List (Bool × List Byte) :=
  (s.portEntries p).map (fun e => ((s.mergedAt e.merge).sends, s.mergedSlots e.merge))

/-- Ports that the latch or the merge changed against the frame before (R263). -/
def State.changedPorts (s : State) (k : Nat) : List Nat :=
  match s.sheet.contexts with
  | [] => List.range 64
  | c :: _ =>
    let v := s.under c
    let tables := [P.ElementTable, P.ProfileTable, P.CurveTable, P.ChannelTable]
    if c.frame + 1 ≠ k ∨ tables.any (fun p => s.blob p != v.blob p) then List.range 64
    else (List.range 64).filter (fun p => s.portConfig p != v.portConfig p || s.portChannels p != v.portChannels p)

/-- The latch that began in state `t` changed any of P8040 to P8043 (R266). -/
def State.phaseChanges (s t : State) : Bool :=
  [P.CameraRate, P.PwmMultiple, P.PwmPhaseOffset, P.PhaseEnable].any (fun p => s.lv p 0 != t.lv p 0)

/-- Keep the content of frame `k` until its pack pass; `t` is the state in which its latch began. -/
def State.keepContext (s t : State) (k : Nat) : State :=
  let c : FrameContext :=
    { frame := k, time := s.frameTime k, opens := s.frameTime (k - s.halyard.grid.lead), live := s.live, blobs := s.blobs,
      merged := s.merged,
      phaseChanged := s.phaseChanges t, changed := s.changedPorts k, output := s.twin.output, dropped := false }
  { s with sheet := { s.sheet with contexts := (c :: s.sheet.contexts).take 8 } }

/-! ### The grid (R128) -/

/-- Indices passed over between the highest latched and frame `k` because their latch lay in the past, without those of a
sleep. -/
def State.skippedBefore (s : State) (k : Nat) : Nat :=
  match s.halyard.grid.highest with
  | none => 0
  | some h => k - max (h + 1) s.halyard.grid.countFrom - s.halyard.grid.spared

/-- Frame `k` is latched: it waits for its presentation, and the next index follows. -/
def State.advanceGrid (s : State) (k : Nat) : State :=
  let n := s.skippedBefore k
  let s := if n = 0 then s else s.countBy P.SkippedFrameCount 0 n
  let g := s.halyard.grid
  let s := s.setGrid { g with nextLatch := k + 1, highest := some k, spared := 0, freshSeed := false,
                              queued := g.queued ++ [{ index := k, time := s.frameTime k }] }
  s.wr P.ShowFrameIndex 0 (BitVec.ofNat 64 k)

/-! ### The command -/

/-- The cycle of the frame latched before ends in the same clock (R200). -/
def State.closeRunning (s : State) : State :=
  match s.render.frame with
  | none => s
  | some j => s.closeCycle j

/-- What frame `k` shows is fixed, in this order: groups, ramps, writes, bodies, commits, selections, the merge. -/
def State.fixContent (s : State) (k : Nat) : State :=
  let s := s.applyGroups k [] [] s.twin.waiting
  let s := s.stepRamps k
  let s := (s.applyContent k).applyBodies k
  let s := s.applyCommits k
  (s.selectAll k).mergeAtLatch.showLayers

/-- LATCH of frame `k`. -/
def State.latchFrame (s : State) (k : Nat) : State :=
  let t := (s.closeRunning.latchTwin k).liveCommits
  let s := (t.fixContent k).keepContext s k
  let s := s.setRender { s.render.cleared with frame := some k, probeElement := s.rdN P.ProbeElement 0 }
  (s.advanceGrid k).kiteAtLatch k

/-- The latch instant (R18). A grid without a valid seed, in Unset, across a step or in a sleep latches no frame. -/
def State.latchNow (s : State) : State :=
  if s.latches then s.latchFrame (s.latchIndex 4096 s.halyard.grid.nextLatch) else s

/-- LATCH (R18). -/
def execLatch (s : State) : Host.Outcome State Fault Refusal := done (s.ownCommand 0x02 State.latchNow)

/-! ### Units that a comparator drives (R138) -/

/-- A unit acts as a firing drives it, once in a clock (`unitDests`). -/
def State.actUnit (s : State) (dest : Nat) : State :=
  if s.now.driven.contains dest || s.now.told.contains dest then s
  else
    let s := { s with now := { s.now with driven := dest :: s.now.driven } }
    match dest with
    | 0x01 => s.gridBoundary
    | 0x02 => s.latchNow
    | 0x03 => s.startCycle
    | 0x04 => s.openWindow
    | 0x07 => s.sendAnchor
    | 0x08 => s.heartbeat
    | _ => s

/-- The units that firings have driven act, in the order of the firings. -/
def State.driveUnits (s : State) : State :=
  s.halyard.drives.foldl State.actUnit { s with halyard := { s.halyard with drives := [] } }

/-- TRIGGER_FIRE: the command's instant is the comparator's. The ADC codes matter to the thermal destination only. -/
def execTriggerFire (trigger : Fin 16) (ntc die : Half) (s : State) : Host.Outcome State Fault Refusal :=
  if s.triggerLive trigger then done (s.fireTrigger trigger ntc die).driveUnits else done s

/-- An idle step: an edge of the time clock passes, and units that firings of writes have driven act, within 2 ns of the
write (R140). -/
def State.idle (s : State) : State := s.tick.driveUnits

end Sys2Proof.Machine
end

