-- ==== Sys2Proof/Machine/Dispatch.lean ====
section
/-! DEFINITION. One arm for each command of the opcode table: the meaning it calls. -/
namespace Sys2Proof.Machine

/-- The effect of a command on everything but the queue. -/
def exec (i : Instr) (s : State) : Host.Outcome State Fault Refusal :=
  match i with
  | .powerOn => Sys2Proof.Machine.execPowerOn s
  | .brownout rail => Sys2Proof.Machine.execBrownout rail s
  | .resetPin => Sys2Proof.Machine.execResetPin s
  | .watchdogExpiry => Sys2Proof.Machine.execWatchdogExpiry s
  | .watchdogService rq value => Sys2Proof.Machine.execWatchdogService rq value s
  | .clockFault source => Sys2Proof.Machine.execClockFault source s
  | .pllLossOfLock pll => Sys2Proof.Machine.execPllLossOfLock pll s
  | .pllRelockAttempt pll locked => Sys2Proof.Machine.execPllRelockAttempt pll locked s
  | .resetRequest rq value => Sys2Proof.Machine.execResetRequest rq value s
  | .commandedReset => Sys2Proof.Machine.execCommandedReset s
  | .lifeCycleRequest rq target => Sys2Proof.Machine.execLifeCycleRequest rq target s
  | .lifeCycleConfirm rq value => Sys2Proof.Machine.execLifeCycleConfirm rq value s
  | .lifeCycleConfirmTimeout => Sys2Proof.Machine.execLifeCycleConfirmTimeout s
  | .fuseProgrammingDone => Sys2Proof.Machine.execFuseProgrammingDone s
  | .resetRelease straps => Sys2Proof.Machine.execResetRelease straps s
  | .sramWipeDone => Sys2Proof.Machine.execSramWipeDone s
  | .dramTrained => Sys2Proof.Machine.execDramTrained s
  | .imageVerify => Sys2Proof.Machine.execImageVerify s
  | .dramWipeDone => Sys2Proof.Machine.execDramWipeDone s
  | .bootHandover => Sys2Proof.Machine.execBootHandover s
  | .settingsApply => Sys2Proof.Machine.execSettingsApply s
  | .deviceReady => Sys2Proof.Machine.execDeviceReady s
  | .retiredEraseDone => Sys2Proof.Machine.execRetiredEraseDone s
  | .powerStateRequest rq value => Sys2Proof.Machine.execPowerStateRequest rq value s
  | .waitForInterrupt core => Sys2Proof.Machine.execWaitForInterrupt core s
  | .luffWake => Sys2Proof.Machine.execLuffWake s
  | .abortPoint point => Sys2Proof.Machine.execAbortPoint point s
  | .retentionHandshake => Sys2Proof.Machine.execRetentionHandshake s
  | .wakePin => Sys2Proof.Machine.execWakePin s
  | .rtcAlarm => Sys2Proof.Machine.execRtcAlarm s
  | .bosunAddressMatch => Sys2Proof.Machine.execBosunAddressMatch s
  | .wakeComplete => Sys2Proof.Machine.execWakeComplete s
  | .struckWake => Sys2Proof.Machine.execStruckWake s
  | .read rq param elem last => Sys2Proof.Machine.execRead rq param elem last s
  | .write rq param elem last data => Sys2Proof.Machine.execWrite rq param elem last data s
  | .readInfo rq param elem last => Sys2Proof.Machine.execReadInfo rq param elem last s
  | .sessionOpen rq level hostNonce => Sys2Proof.Machine.execSessionOpen rq level hostNonce s
  | .sessionProve rq proof transaction => Sys2Proof.Machine.execSessionProve rq proof transaction s
  | .sessionClose rq => Sys2Proof.Machine.execSessionClose rq s
  | .sessionProveTimeout session => Sys2Proof.Machine.execSessionProveTimeout session s
  | .sessionIdleTimeout session => Sys2Proof.Machine.execSessionIdleTimeout session s
  | .unlockLockoutEnd => Sys2Proof.Machine.execUnlockLockoutEnd s
  | .blockOpen rq param total => Sys2Proof.Machine.execBlockOpen rq param total s
  | .blockData rq param slot offset data => Sys2Proof.Machine.execBlockData rq param slot offset data s
  | .blockCommit rq param slot digest => Sys2Proof.Machine.execBlockCommit rq param slot digest s
  | .blockCommitVerified slot => Sys2Proof.Machine.execBlockCommitVerified slot s
  | .blockAbort rq param slot sameClock => Sys2Proof.Machine.execBlockAbort rq param slot sameClock s
  | .blockRead rq param offset length => Sys2Proof.Machine.execBlockRead rq param offset length s
  | .blockSlotIdleTimeout slot => Sys2Proof.Machine.execBlockSlotIdleTimeout slot s
  | .subscribe rq mask udp lease => Sys2Proof.Machine.execSubscribe rq mask udp lease s
  | .unsubscribe rq number => Sys2Proof.Machine.execUnsubscribe rq number s
  | .subscriptionLeaseExpiry number => Sys2Proof.Machine.execSubscriptionLeaseExpiry number s
  | .eventMessageSend number => Sys2Proof.Machine.execEventMessageSend number s
  | .bosunRead count => Sys2Proof.Machine.execBosunRead count s
  | .registerWrite rq param elem value => Sys2Proof.Machine.execRegisterWrite rq param elem value s
  | .counterClear rq param elem value => Sys2Proof.Machine.execCounterClear rq param elem value s
  | .timeNowRead rq => Sys2Proof.Machine.execTimeNowRead rq s
  | .tnsWrap => Sys2Proof.Machine.execTnsWrap s
  | .timeConfigWrite rq which value => Sys2Proof.Machine.execTimeConfigWrite rq which value s
  | .syncReceived port msg => Sys2Proof.Machine.execSyncReceived port msg s
  | .followUpReceived port msg => Sys2Proof.Machine.execFollowUpReceived port msg s
  | .delayRespReceived port msg => Sys2Proof.Machine.execDelayRespReceived port msg s
  | .delayReqInterval port stamp frac => Sys2Proof.Machine.execDelayReqInterval port stamp frac s
  | .announceReceived port msg => Sys2Proof.Machine.execAnnounceReceived port msg s
  | .syncTimeout => Sys2Proof.Machine.execSyncTimeout s
  | .announceReceiptTimeout port => Sys2Proof.Machine.execAnnounceReceiptTimeout port s
  | .stepDoneClear rq => Sys2Proof.Machine.execStepDoneClear rq s
  | .gridSeed rq remainder => Sys2Proof.Machine.execGridSeed rq remainder s
  | .gridBoundary => Sys2Proof.Machine.execGridBoundary s
  | .latch => Sys2Proof.Machine.execLatch s
  | .canvasCycleStart => Sys2Proof.Machine.execCanvasCycleStart s
  | .bandDone lane => Sys2Proof.Machine.execBandDone lane s
  | .triggerFire trigger ntc die => Sys2Proof.Machine.execTriggerFire trigger ntc die s
  | .triggerTargetWrite rq period trigger value => Sys2Proof.Machine.execTriggerTargetWrite rq period trigger value s
  | .ptpSyncInterval port stamp frac => Sys2Proof.Machine.execPtpSyncInterval port stamp frac s
  | .pdelayInterval port stamp frac => Sys2Proof.Machine.execPdelayInterval port stamp frac s
  | .pdelayReqReceived port head stamp frac sent sentFrac => Sys2Proof.Machine.execPdelayReqReceived port head stamp frac sent sentFrac s
  | .pdelayRespReceived port msg => Sys2Proof.Machine.execPdelayRespReceived port msg s
  | .stayFrameReceived port frame => Sys2Proof.Machine.execStayFrameReceived port frame s
  | .moduleInserted port => Sys2Proof.Machine.execModuleInserted port s
  | .moduleIdRead port page => Sys2Proof.Machine.execModuleIdRead port page s
  | .moduleRemoved port => Sys2Proof.Machine.execModuleRemoved port s
  | .txFaultRise port => Sys2Proof.Machine.execTxFaultRise port s
  | .txFaultRetry port => Sys2Proof.Machine.execTxFaultRetry port s
  | .txFaultCheck port high => Sys2Proof.Machine.execTxFaultCheck port high s
  | .stayLinkFault port los => Sys2Proof.Machine.execStayLinkFault port los s
  | .stayLinkUp port => Sys2Proof.Machine.execStayLinkUp port s
  | .rtpPacket stream leg packet => Sys2Proof.Machine.execRtpPacket stream leg packet s
  | .mergeHoldExpiry stream => Sys2Proof.Machine.execMergeHoldExpiry stream s
  | .streamControlWrite rq stream value => Sys2Proof.Machine.execStreamControlWrite rq stream value s
  | .sacnDataPacket port packet => Sys2Proof.Machine.execSacnDataPacket port packet s
  | .sacnSyncPacket port address => Sys2Proof.Machine.execSacnSyncPacket port address s
  | .syncAddressIdle address => Sys2Proof.Machine.execSyncAddressIdle address s
  | .sacnSyncTimeout address => Sys2Proof.Machine.execSacnSyncTimeout address s
  | .sourceTimeout univ cid => Sys2Proof.Machine.execSourceTimeout univ cid s
  | .lossHoldExpiry entry => Sys2Proof.Machine.execLossHoldExpiry entry s
  | .cascadeFrame input port msg => Sys2Proof.Machine.execCascadeFrame input port msg s
  | .cueWrite rq words requestEnds => Sys2Proof.Machine.execCueWrite rq words requestEnds s
  | .cueRead rq high => Sys2Proof.Machine.execCueRead rq high s
  | .cuePoll => Sys2Proof.Machine.execCuePoll s
  | .cueExecute => Sys2Proof.Machine.execCueExecute s
  | .layerCommit rq canvas value => Sys2Proof.Machine.execLayerCommit rq canvas value s
  | .frameCommit rq canvas value => Sys2Proof.Machine.execFrameCommit rq canvas value s
  | .projectionCommit rq value => Sys2Proof.Machine.execProjectionCommit rq value s
  | .sheetWindowOpen => Sys2Proof.Machine.execSheetWindowOpen s
  | .packPassDone => Sys2Proof.Machine.execPackPassDone s
  | .sheetWindowClose port => Sys2Proof.Machine.execSheetWindowClose port s
  | .egressFrameDone port => Sys2Proof.Machine.execEgressFrameDone port s
  | .sacnSyncSend port => Sys2Proof.Machine.execSacnSyncSend port s
  | .lpiWakeLead port => Sys2Proof.Machine.execLpiWakeLead port s
  | .shroudLinkUp port status => Sys2Proof.Machine.execShroudLinkUp port status s
  | .shroudLinkDown port => Sys2Proof.Machine.execShroudLinkDown port s
  | .shroudFrameReceived port bytes fcsOk stamp frac => Sys2Proof.Machine.execShroudFrameReceived port bytes fcsOk stamp frac s
  | .expressFrame port frame => Sys2Proof.Machine.execExpressFrame port frame s
  | .expressIngressEnd port ok => Sys2Proof.Machine.execExpressIngressEnd port ok s
  | .snapshotTake rq value => Sys2Proof.Machine.execSnapshotTake rq value s
  | .snapshotDue => Sys2Proof.Machine.execSnapshotDue s
  | .snapshotCaptureDone => Sys2Proof.Machine.execSnapshotCaptureDone s
  | .cableTestStart rq value => Sys2Proof.Machine.execCableTestStart rq value s
  | .cablePortTestDone status distance => Sys2Proof.Machine.execCablePortTestDone status distance s
  | .cableTestAbort rq sameClock => Sys2Proof.Machine.execCableTestAbort rq sameClock s
  | .pwmCycleStart failed => Sys2Proof.Machine.execPwmCycleStart failed s
  | .rasterCommit rq frame => Sys2Proof.Machine.execRasterCommit rq frame s
  | .loopBurstEnd samples => Sys2Proof.Machine.execLoopBurstEnd samples s
  | .loopCapture rq value => Sys2Proof.Machine.execLoopCapture rq value s
  | .ntcStale => Sys2Proof.Machine.execNtcStale s
  | .derateStep => Sys2Proof.Machine.execDerateStep s
  | .scanSupplyFault => Sys2Proof.Machine.execScanSupplyFault s
  | .scanSupplyRecovery => Sys2Proof.Machine.execScanSupplyRecovery s
  | .switchOvercurrent row => Sys2Proof.Machine.execSwitchOvercurrent row s
  | .engineStart rq value stopped => Sys2Proof.Machine.execEngineStart rq value stopped s
  | .engineStop rq value => Sys2Proof.Machine.execEngineStop rq value s
  | .showLossTimeout => Sys2Proof.Machine.execShowLossTimeout s
  | .trimStart rq value => Sys2Proof.Machine.execTrimStart rq value s
  | .trimFirstAuto => Sys2Proof.Machine.execTrimFirstAuto s
  | .trimSweepDone sweep => Sys2Proof.Machine.execTrimSweepDone sweep s
  | .trimDarkTimeout => Sys2Proof.Machine.execTrimDarkTimeout s
  | .trimAbort rq sameClock => Sys2Proof.Machine.execTrimAbort rq sameClock s
  | .trimCodeWrite rq param elem value => Sys2Proof.Machine.execTrimCodeWrite rq param elem value s
  | .kiteFrameReceived psdu fcsOk rssi => Sys2Proof.Machine.execKiteFrameReceived psdu fcsOk rssi s
  | .kiteFrameOnAir => Sys2Proof.Machine.execKiteFrameOnAir s
  | .kiteAckTimeout => Sys2Proof.Machine.execKiteAckTimeout s
  | .kiteAnchor => Sys2Proof.Machine.execKiteAnchor s
  | .kiteListenWindow => Sys2Proof.Machine.execKiteListenWindow s
  | .keyEraEnd => Sys2Proof.Machine.execKeyEraEnd s
  | .pennantBurstStart => Sys2Proof.Machine.execPennantBurstStart s
  | .pennantBurstReceived bytes => Sys2Proof.Machine.execPennantBurstReceived bytes s
  | .stayPennantReceived port bytes => Sys2Proof.Machine.execStayPennantReceived port bytes s
  | .pathLoss path => Sys2Proof.Machine.execPathLoss path s
  | .strapConflictClear => Sys2Proof.Machine.execStrapConflictClear s
  | .mirrorResend => Sys2Proof.Machine.execMirrorResend s
  | .joinWaitExpiry => Sys2Proof.Machine.execJoinWaitExpiry s
  | .roleRequest rq value => Sys2Proof.Machine.execRoleRequest rq value s
  | .twinControlWrite rq value => Sys2Proof.Machine.execTwinControlWrite rq value s
  | .schedReady core thread => Sys2Proof.Machine.execSchedReady core thread s
  | .capstanEvent code => Sys2Proof.Machine.execCapstanEvent code s
  | .schedCancel core thread => Sys2Proof.Machine.execSchedCancel core thread s
  | .schedAlloc core => Sys2Proof.Machine.execSchedAlloc core s
  | .schedFree core thread => Sys2Proof.Machine.execSchedFree core thread s
  | .schedNext core => Sys2Proof.Machine.execSchedNext core s
  | .schedYield core => Sys2Proof.Machine.execSchedYield core s
  | .schedDone core => Sys2Proof.Machine.execSchedDone core s
  | .schedWait core event => Sys2Proof.Machine.execSchedWait core event s
  | .threadPriorityWrite core thread word value => Sys2Proof.Machine.execThreadPriorityWrite core thread word value s
  | .semaphoreTake core semaphore => Sys2Proof.Machine.execSemaphoreTake core semaphore s
  | .semaphoreRelease core semaphore => Sys2Proof.Machine.execSemaphoreRelease core semaphore s
  | .trap core cause value pc => Sys2Proof.Machine.execTrap core cause value pc s
  | .environmentCall core pc => Sys2Proof.Machine.execEnvironmentCall core pc s
  | .btCopy core sram length dramLow dramHigh toDram => Sys2Proof.Machine.execBtCopy core sram length dramLow dramHigh toDram s
  | .btOpen core param length => Sys2Proof.Machine.execBtOpen core param length s
  | .btData core param slot sram length offset => Sys2Proof.Machine.execBtData core param slot sram length offset s
  | .btCommit core param slot digest => Sys2Proof.Machine.execBtCommit core param slot digest s
  | .btAbort core param slot sameClock => Sys2Proof.Machine.execBtAbort core param slot sameClock s
  | .btRead core param sram length offset => Sys2Proof.Machine.execBtRead core param sram length offset s
  | .btDone core => Sys2Proof.Machine.execBtDone core s
  | .bulkRoom port => Sys2Proof.Machine.execBulkRoom port s
  | .relayRequest rq body => Sys2Proof.Machine.execRelayRequest rq body s
  | .relayTimeout => Sys2Proof.Machine.execRelayTimeout s
  | .appletStart rq value => Sys2Proof.Machine.execAppletStart rq value s
  | .appletStop rq => Sys2Proof.Machine.execAppletStop rq s
  | .imageWriteDone mismatch => Sys2Proof.Machine.execImageWriteDone mismatch s
  | .healthConfirm rq value => Sys2Proof.Machine.execHealthConfirm rq value s
  | .healthTimerExpiry => Sys2Proof.Machine.execHealthTimerExpiry s
  | .floorRequest rq version => Sys2Proof.Machine.execFloorRequest rq version s
  | .settingsSave rq => Sys2Proof.Machine.execSettingsSave rq s
  | .settingsSaveAbort rq sameClock => Sys2Proof.Machine.execSettingsSaveAbort rq sameClock s
  | .settingsSaveDone ok => Sys2Proof.Machine.execSettingsSaveDone ok s
  | .troubleWrite core source aux code arg0 arg1 => Sys2Proof.Machine.execTroubleWrite core source aux code arg0 arg1 s
  | .logExport rq => Sys2Proof.Machine.execLogExport rq s
  | .logExportDone => Sys2Proof.Machine.execLogExportDone s
  | .scrubStart rq periodic => Sys2Proof.Machine.execScrubStart rq periodic s
  | .scrubPeriodic => Sys2Proof.Machine.execScrubPeriodic s
  | .scrubAbort rq sameClock => Sys2Proof.Machine.execScrubAbort rq sameClock s
  | .scrubDone corrected uncorrectable => Sys2Proof.Machine.execScrubDone corrected uncorrectable s
  | .maintenanceDeferredAdmit => Sys2Proof.Machine.execMaintenanceDeferredAdmit s
  | .vaoLoss => Sys2Proof.Machine.execVaoLoss s
  | .bosunWriteTransfer bytes => Sys2Proof.Machine.execBosunWriteTransfer bytes s
  | .stayMasterSyncInterval port stamp frac => Sys2Proof.Machine.execStayMasterSyncInterval port stamp frac s
  | .kiteChannelAccessFailure => Sys2Proof.Machine.execKiteChannelAccessFailure s
  | .mirrorBlobVerified param => Sys2Proof.Machine.execMirrorBlobVerified param s

end Sys2Proof.Machine
end

