-- ==== Sys2Proof/Safety.lean ====
section
/-! DEFINITION. The terms in which claims are made: what a command leaves as it was, when it completes, and what every
step keeps. -/
namespace Sys2Proof.Machine

/-! ### What a command leaves as it was -/

/-- The parts of the state that a frame can name, beside the dictionary's values: a command's frame lists those it may
change. `grid`, `sessions`, `transfers` and `answer` are parts of larger fields. -/
inductive Part
  | clock | free | live | content | bodies | bodyWrites | memory | power | nonVolatile
  | sessions | transfers | answer | wdp | trouble | grid | time | stay | video | cascadeIn | sacn | merged | cue | twin
  | capstan | update | render | sheet | shroud | ports | masthead | trim | kite
  deriving DecidableEq, Repr

/-- The parameters that the event and log machinery of R107, R420 and R397 keeps: pending events, lost records, the
trouble log's indices and the trace's index. Any command may raise an event, write an entry or record a decision. -/
def housekeeping : List Nat :=
  [P.EventPending, P.EventLostCount, P.TroubleIndex, P.TroubleOverwriteCount, P.TroubleDropCount, P.TraceIndex]

/-- `t` holds the values of `s` for every element of every parameter but those of `ps`, the elements of `es` and the
housekeeping of events and logs. -/
def SameRegs (ps : List Nat) (es : List (Nat × Nat)) (s t : State) : Prop :=
  ∀ p e, e < 256 → p ∉ housekeeping → p ∉ ps → (p, e) ∉ es → t.rd p e = s.rd p e

/-- What the WDP state holds beside its sessions, transfers, subscriptions and answer. -/
def Wdp.rest (w : Wdp) : Wdp := { w with sessions := [], xfers := [], subs := [], answer := ⟨0, []⟩ }

/-- What the trouble log holds beside its ring and the writer's queue. -/
def Trouble.rest (x : Trouble) : Trouble := { x with ring := [], queue := [] }

/-- What Capstan holds beside the scheduling trace. -/
def Capstan.rest (x : Capstan) : Capstan := { x with trace := [], decisions := [] }

/-- What Halyard holds beside the grid. -/
def Halyard.rest (x : Halyard) : Halyard := { x with grid := Grid.init }

/-- Every part of `t` but those of `fs` is as in `s`: every memory byte, every queue, buffer and block. The model's own note of
what has happened since the last clock edge (`now`) is no part of the machine and stands outside. -/
structure SameParts (fs : List Part) (s t : State) : Prop where
  pending : t.pending = s.pending
  clock : .clock ∉ fs → t.clock = s.clock ∧ t.rtcPhase = s.rtcPhase
  free : .free ∉ fs → t.freeCount = s.freeCount
  live : .live ∉ fs → t.live = s.live
  content : .content ∉ fs → t.content = s.content
  bodies : .bodies ∉ fs → t.blobs = s.blobs
  bodyWrites : .bodyWrites ∉ fs → t.blobWrites = s.blobWrites
  dram : .memory ∉ fs → t.dram = s.dram
  sram : .memory ∉ fs → t.sram = s.sram
  power : .power ∉ fs → t.power = s.power
  nonVolatile : .nonVolatile ∉ fs → t.nv = s.nv
  sessions : .sessions ∉ fs → t.wdp.sessions = s.wdp.sessions
  transfers : .transfers ∉ fs → t.wdp.xfers = s.wdp.xfers
  answer : .answer ∉ fs → t.wdp.answer = s.wdp.answer
  wdp : .wdp ∉ fs → t.wdp.rest = s.wdp.rest
  trouble : .trouble ∉ fs → t.trouble.rest = s.trouble.rest
  grid : .grid ∉ fs → t.halyard.grid = s.halyard.grid
  time : .time ∉ fs → t.halyard.rest = s.halyard.rest
  stay : .stay ∉ fs → t.stay = s.stay
  video : .video ∉ fs → t.video = s.video
  cascadeIn : .cascadeIn ∉ fs → t.cascadeIn = s.cascadeIn
  sacn : .sacn ∉ fs → t.sacn = s.sacn
  merged : .merged ∉ fs → t.merged = s.merged
  cue : .cue ∉ fs → t.cue = s.cue
  twin : .twin ∉ fs → t.twin = s.twin
  capstan : .capstan ∉ fs → t.capstan.rest = s.capstan.rest
  update : .update ∉ fs → t.update = s.update
  render : .render ∉ fs → t.render = s.render
  sheet : .sheet ∉ fs → t.sheet = s.sheet
  shroud : .shroud ∉ fs → t.shroud = s.shroud
  ports : .ports ∉ fs → t.ports = s.ports
  masthead : .masthead ∉ fs → t.masthead = s.masthead
  trim : .trim ∉ fs → t.trim = s.trim
  kite : .kite ∉ fs → t.kite = s.kite

/-- The frame of a command: what it leaves of the dictionary's values and of the parts of the state. -/
def Frame (ps : List Nat) (es : List (Nat × Nat)) (fs : List Part) (s t : State) : Prop :=
  SameRegs ps es s t ∧ SameParts fs s t

/-- The parameters that frames leaving a port may change beside those a command names: drops, late counts, show traffic and
margins, low-power idle and its link bit. -/
def egressParams : List Nat :=
  [P.TxQueueDropCount, P.LateDropCount, P.LateFrameCount, P.PortStatus, P.PortMargin, P.PortMinMargin, P.PortWireTime,
   P.TxShowFrameCount, P.TxShowByteCount, P.SacnPacketCount_P810B, P.HoldFrameCount, P.TxDiscardCount,
   P.ExpressForwardCount, P.SyncDelayedCount, P.TimeDropCount, P.LinkStatus, P.StampEgressDropCount]

/-! ### Completion -/

/-- The command answers a next state, and `Q` holds of it. -/
def Completes (c : Instr) (s : State) (Q : State → Prop) : Prop := ∃ t, exec c s = .next t ∧ Q t

/-! ### Resets -/

/-- `t` is the machine after a full reset that began in `s` (R54, R58): every block at its reset state, both memories
empty, every value at its default but P1010 ResetCause, P1012 BrownoutRails and the real-time clock, which keeps its
count; the fuses, identity area and flash, the waiting commands and the model's own counters stand. -/
def WasReset (s t : State) : Prop :=
  t = { State.reset with pending := s.pending, clock := s.clock, now := t.now, rtcPhase := s.rtcPhase, freeCount := s.freeCount,
                         nv := s.nv, regs := t.regs } ∧
  SameRegs [P.ResetCause, P.BrownoutRails, P.RtcCount] [] State.reset t ∧
  (∀ p ∈ housekeeping, t.rd p 0 = State.reset.rd p 0) ∧ t.rd P.RtcCount 0 = s.rd P.RtcCount 0

/-- Of the bits of element `e` of `p`, those of `bits` are set and every other is as it was. -/
def BitsSet (p e : Nat) (bits : List Nat) (s t : State) : Prop :=
  ∀ i < 64, t.bit p e i = (s.bit p e i || bits.contains i)

/-! ### A write that is carried out -/

/-- A store to element `e` of `p` raises an access fault: over the window alone, where the access is not an aligned 32-bit
one or the core's protection regions do not grant it (R113, R114). -/
def State.storeFaults (s : State) (rq : Requester) (p e : Nat) : Bool := s.faults rq (wordAddr rq p (pageWord p e)) true

/-- A single write of `v` to element `e` of `p` by `rq` passes every check that stands before the parameter's own effect:
the path carries it, its session is open to its source, no access fault stops a store (R113, R114), the requester's level
and the device's state reach the parameter (R89), the element is one a write reaches, the value is in range (R90), a mirrored parameter is written on a unit that
decides (R93), and its answer fits the response. -/
def State.grants (s : State) (rq : Requester) (p e v : Nat) : Bool :=
  match Dict.row p with
  | none => false
  | some r =>
    s.pathServes rq && s.sessionOk rq && !s.storeFaults rq p e && s.permits rq p && writable r e && s.valueOk r e v &&
      s.clonesAfter p [(e, v)] && !s.notActive (s.via rq) r && decide (v < 2 ^ (8 * r.ty.bytes)) &&
      decide (40 ≤ s.responseLimit rq)

/-- An operation of `rq` is carried out and its answer, with `n` bytes of data, fits the response: the path carries it, the
session is open to its source, and the response has room (R89, R95, R101). -/
def State.hears (s : State) (rq : Requester) (n : Nat) : Bool :=
  s.pathServes rq && s.sessionOk rq && decide (43 + n ≤ s.responseLimit rq)

/-- Parameters whose write does more than hold the value: each has a rule of its own for it. -/
def actingParams : List Nat :=
  [P.LifeCycleRequest, P.LifeCycleConfirm, P.ResetRequest, P.WatchdogTimeout, P.WatchdogService, P.PowerStateRequest,
   P.TimeSource, P.Profile, P.DomainNumber, P.TimeStatus, P.StayPtpEnable, P.StaySlaveOnly, P.Priority1, P.Priority2,
   P.WrapCount, P.ShowFrameRate, P.GridSeed, P.TriggerControl, P.TriggerTarget,
   P.TriggerPeriod, P.StayControl, P.StreamControl, P.CascadeControl, P.CueWrite, P.LayerCommit, P.FrameCommit,
   P.ProjectionCommit, P.GroupSelect] ++
  [P.LpiEnable, P.PortMinMargin, P.PhyControl, P.WakeControl, P.WakeMask, P.WakeCrc, P.SnapshotControl, P.CableTestControl,
   P.RasterCommit, P.LoopCapture, P.SwitchLatched, P.EngineControl, P.EngineStart, P.EngineStop, P.TrimControl, P.SinkTrim,
   P.PdOffsetTrim, P.PdGainTrim, P.SensorTrim, P.KiteControl, P.KeyEra, P.TxKeyIndex, P.TwinControl, P.RoleRequest,
   P.PreemptFloor, P.AppletControl, P.HealthConfirm, P.FloorRequest, P.SettingsControl, P.TroubleWrite, P.ExportControl,
   P.ScrubControl]

/-- A write of parameter `p` does more than hold the value, or depends on a stream or cascade input being in use (R153). -/
def acts (p : Nat) : Bool :=
  actingParams.contains p || (decide (P.StreamGroupV4 ≤ p) && decide (p ≤ P.MergeHold)) ||
    (decide (P.CascadeStream ≤ p) && decide (p ≤ P.CascadeLag))

/-! ### The invariant of every step -/

/-- Between commands the log writer's queue is empty (R422: it takes every entry in the clock it is given) and every
scheduling decision has been entered in the trace or left out (R397). -/
structure Settled (s : State) : Prop where
  log : s.trouble.queue = []
  trace : s.capstan.decisions = []

/-- DRAM, firmware SRAM and the dictionary's values stand in their canonical form: keys strictly rising, no entry equal to
what an unlisted one reads as. -/
def State.memoryOk (s : State) : Bool :=
  SMap.wf (fun _ => 0) s.dram && SMap.wf (fun _ => 0) s.sram && SMap.wf Dict.dflt s.regs

/-- The grid's next boundary lies on the line of R126: the T32 value of floor(k × a / n), and its remainder. -/
def Grid.OnLine (g : Grid) : Prop :=
  g.t = BitVec.ofNat 32 (boundary g.rate g.index) ∧ g.r = g.index * rateA g.rate % rateN g.rate

end Sys2Proof.Machine
end

