-- ==== Sys2Proof/Certificates/Slice0/Obligations.lean ====
section
/-! DEFINITION. The statements for the provers. `Completes c s Q` says that the command answers a next state and what holds
of it; `Frame` says what stays as it was. -/
open Sys2Proof Sys2Proof.Machine

/-- For every state and command, a step with that command at the front of the queue is exec of it on the state with
the queue's rest. Beyond the cited rules it rests on the model's own choices: log entries 2, 170. Rules: R91,
95_what_each_step_holds.md. -/
def Obligations.StepRunsFrontCommand : Prop :=
  ∀ (s : State) (c : Instr) (cs : List Instr), step { s with pending := c :: cs } = exec c { s with pending := cs }

/-- A step on an empty queue is one edge of the 500 MHz time clock: elapsed time grows by one edge, and while the time
clock runs the 72-bit register of R117 grows by P2040 TickIncrement, else it stands. A wrap of TNS sets WrapPending
and raises the wrap interrupt to DC0. Nothing but the always-on count, TimeStatus and the parts for the clock, time,
DC0 and the end of Luff may change. Beyond the cited rules it rests on the model's own choices: log entries 1, 19,
201. Rules: R117, R119. -/
def Obligations.IdleStepIsOneClockEdge : Prop :=
  ∀ s : State, s.pending = [] → s.halyard.drives = [] → ∃ t, step s = .next t ∧ t.clock = s.clock + 1 ∧ (s.timeRuns = false → t.now = ThisClock.init) ∧
    (s.timeRuns = true → t.halyard.acc = s.halyard.acc + BitVec.ofNat 72 (s.rdN P.TickIncrement 0)) ∧
    (s.timeRuns = false → t.halyard.acc = s.halyard.acc) ∧
    (s.timeRuns = true → 2 ^ 72 ≤ s.halyard.acc.toNat + s.rdN P.TickIncrement 0 →
      t.bit P.TimeStatus 0 0 = true ∧ (t.core 0).irqPending.getLsbD Irq.wrap = true) ∧
    Frame [] [(P.RtcCount, 0), (P.TimeStatus, 0)] [.clock, .time, .capstan, .power] s t

/-- Every step that answers a next state answers one in which the trouble log's input queue is empty and every
scheduling decision has been entered or left out. Beyond the cited rules it rests on the model's own choices: log
entries 2, 156. Rules: R422, R397. -/
def Obligations.EveryStepSettles : Prop := ∀ s t : State, step s = .next t → Settled t

/-- The machine right after reset is settled, and its memories and dictionary stand in their canonical form. Beyond
the cited rules it rests on the model's own choices: log entries 5, 9. Rules: R58, R422, R397. -/
def Obligations.ResetHoldsTheInvariants : Prop := Settled State.reset ∧ State.reset.memoryOk = true

/-- For every command and every state exec answers a next state; no command ends in a fault or a refusal. Beyond the
cited rules it rests on the model's own choices: log entries 3, 11. Rules: R89, R97, 00_scope.md. -/
def Obligations.NoCommandStopsTheBlock : Prop := ∀ (c : Instr) (s : State), ∃ t, exec c s = .next t

/-- A brownout of a rail, the reset pin, the watchdog, a clock fault, a commanded reset whose instant has come and the
wake from Struck each perform one full reset: every value at its default but P1010, P1012 and the real-time count,
memories empty, the device held; the cause bit of the source is set with those of sources that waited, and the other
bits stay; a brownout also sets the rail's bit of P1012, and no other source changes P1012. A clock fault during the
programming of a fuse pair leaves at least one fuse of the pair blown and every other pair as it was. Beyond the cited
rules it rests on the model's own choices: log entries 21, 22, 23. Rules: R51, R53, R54, R55, R56, R57, R58, R64. -/
def Obligations.FullResets : Prop :=
  (∀ (s : State) (rail : Fin 12), s.power.phase ≠ .unpowered ∧ s.power.phase ≠ .struck ∧ rail ≠ 11 ∧
    s.fusing = false → Completes (.brownout rail) s fun t => WasReset s t ∧
    (∀ i < 64, t.bit P.ResetCause 0 i = (s.bit P.ResetCause 0 i || i == 2 || s.power.deferredCauses.getLsbD i)) ∧
    BitsSet P.BrownoutRails 0 [11 - rail.val] s t) ∧
  (∀ (s : State), s.power.phase ≠ .unpowered ∧ s.power.phase ≠ .struck ∧ s.fusing = false →
    Completes (.resetPin) s fun t => WasReset s t ∧
    (∀ i < 64, t.bit P.ResetCause 0 i = (s.bit P.ResetCause 0 i || i == 1 || s.power.deferredCauses.getLsbD i)) ∧
    BitsSet P.BrownoutRails 0 [] s t) ∧
  (∀ (s : State), s.power.phase ≠ .unpowered ∧ s.inClock.watchdog = .running ∧ s.fusing = false →
    Completes (.watchdogExpiry) s fun t => WasReset s t ∧
    (∀ i < 64, t.bit P.ResetCause 0 i = (s.bit P.ResetCause 0 i || i == 3 || s.power.deferredCauses.getLsbD i)) ∧
    BitsSet P.BrownoutRails 0 [] s t) ∧
  (∀ (s : State) (source : HardClock) (n : Nat), s.power.phase ≠ .unpowered ∧ s.fusing = false ∧
    HardClock.bit source = some n ∧ s.bit P.PllLockStatus 0 n = true → Completes (.clockFault source) s fun t =>
    WasReset s t ∧
    (∀ i < 64, t.bit P.ResetCause 0 i = (s.bit P.ResetCause 0 i || i == 4 || s.power.deferredCauses.getLsbD i)) ∧
    BitsSet P.BrownoutRails 0 [] s t) ∧
  (∀ (s : State), s.power.phase ≠ .unpowered ∧ s.fusing = false ∧ s.referenceRuns = true →
    Completes (.clockFault .reference) s fun t => WasReset s t ∧
    (∀ i < 64, t.bit P.ResetCause 0 i = (s.bit P.ResetCause 0 i || i == 4 || s.power.deferredCauses.getLsbD i)) ∧
    BitsSet P.BrownoutRails 0 [] s t) ∧
  (∀ (s : State) (source : HardClock) (n : Byte) (b : Nat), s.power.phase ≠ .unpowered ∧ s.fusing = true ∧
    s.power.lifeChange = some n ∧ 1 ≤ n.toNat ∧ n.toNat ≤ 3 ∧ HardClock.bit source = some b ∧
    s.bit P.PllLockStatus 0 b = true → Completes (.clockFault source) s fun t =>
    WasReset { s with nv := t.nv, freeCount := t.freeCount } t ∧
    (∀ i < 64, t.bit P.ResetCause 0 i = (s.bit P.ResetCause 0 i || i == 4 || s.power.deferredCauses.getLsbD i)) ∧
    t.nv = { s.nv with fuses := t.nv.fuses } ∧
    ((t.nv.fuses.getD (n.toNat - 1) (false, false)).1 || (t.nv.fuses.getD (n.toNat - 1) (false, false)).2) = true ∧
    (∀ i < 3, i + 1 ≠ n.toNat → t.nv.fuses.getD i (false, false) = s.nv.fuses.getD i (false, false)) ∧
    BitsSet P.BrownoutRails 0 [] s t) ∧
  (∀ (s : State), s.power.phase ≠ .unpowered ∧ s.inClock.resetPending = true ∧ s.fusing = false →
    Completes (.commandedReset) s fun t => WasReset s t ∧
    (∀ i < 64, t.bit P.ResetCause 0 i = (s.bit P.ResetCause 0 i || i == 5 || s.power.deferredCauses.getLsbD i)) ∧
    BitsSet P.BrownoutRails 0 [] s t) ∧
  (∀ (s : State), s.power.phase = .struck → Completes (.struckWake) s fun t => WasReset s t ∧
    BitsSet P.ResetCause 0 [7] s t ∧ BitsSet P.BrownoutRails 0 [] s t)

/-- Power-on gives the reset machine with only the PowerOn cause; loss of VAO leaves it unpowered with P1010 clear;
both keep the fuses, identity area and flash. The end of fuse programming blows both fuses of the requested state,
keeps the others, and performs a full reset whose cause bits gain LifeCycle and those of RESET_N and the watchdog that
waited. During the programming those two sources only wait. The erasure of Retired empties both settings banks and
erases the keys and the identity secret. The confirm timeout cancels the request and does nothing else. Beyond the
cited rules it rests on the model's own choices: log entries 21, 24, 28. Rules: R57, R63, R64, R65, R66. -/
def Obligations.SupplyAndLifeCycleChange : Prop :=
  (∀ (s : State), Completes (.powerOn) s fun t =>
    t = { State.reset with pending := s.pending, clock := s.clock, freeCount := s.freeCount, nv := s.nv }) ∧
  (∀ (s : State), s.fusing = false → Completes (.vaoLoss) s fun t => t.power.phase = .unpowered ∧
    t.rd P.ResetCause 0 = 0 ∧ t.nv = s.nv ∧ t.dram = [] ∧ t.sram = [] ∧ SameRegs [P.ResetCause] [] State.reset t ∧
    t.pending = s.pending) ∧
  (∀ (s : State) (n : Byte), s.inClock.lifeChange = some n → Completes (.fuseProgrammingDone) s fun t =>
    WasReset { s with nv := t.nv } t ∧ t.nv = { s.nv with fuses := t.nv.fuses } ∧
    (∀ i < 3, t.nv.fuses.getD i (false, false) = if i + 1 = n.toNat then (true, true) else s.nv.fuses.getD i
    (false, false)) ∧
    (∀ i < 64, t.bit P.ResetCause 0 i = (s.bit P.ResetCause 0 i || i == 6 || s.power.deferredCauses.getLsbD i)) ∧
    BitsSet P.BrownoutRails 0 [] s t) ∧
  (∀ (s : State), s.power.phase ≠ .unpowered ∧ s.power.phase ≠ .struck ∧ s.fusing = true →
    Completes (.resetPin) s fun t => t.power = { s.power with deferredCauses := s.power.deferredCauses ||| 2 } ∧
    Frame [] [] [.power] s t) ∧
  (∀ (s : State), s.power.phase ≠ .unpowered ∧ s.inClock.watchdog = .running ∧ s.fusing = true →
    Completes (.watchdogExpiry) s fun t => t.power = { s.power with deferredCauses := s.power.deferredCauses ||| 8 } ∧
    Frame [] [] [.power] s t) ∧
  (∀ (s : State), s.power.phase = .erasing → Completes (.retiredEraseDone) s fun t =>
    t.power = { s.power with phase := .retired } ∧
    t.nv = { s.nv with bank0 := Bank.empty, bank1 := Bank.empty, helmKey := none, riggerKey := none, yardKey := none,
                       identitySecret := false } ∧ Frame [] [] [.power, .nonVolatile] s t) ∧
  (∀ (s : State), Completes (.lifeCycleConfirmTimeout) s fun t => t.power = { s.power with lifeRequest := none } ∧
    Frame [] [] [.power] s t)

/-- Reset release latches the straps, blows the other fuse of a reached state and starts the boot ROM on DC0, or the
erasure in Retired; with TEST_EN high nothing changes. The wipes empty their memory. Image verification takes a
Confirmed or Written slot that passes as the first in rank order, setting Trial on a Written one, and enters Recovery
when no slot is there. The hand-over releases the four cores, locks the code and unmaps the boot ROM. Without a
committed bank the settings keep their defaults with source 3. At ready the device serves, its state is Ready or Ready
with unverified image, and the watchdog runs from its full timeout. Beyond the cited rules it rests on the model's own
choices: log entries 23, 26, 27, 34. Rules: R35, R36, R58, R59, R65, R67, R68, R386, R405, R409, R416. -/
def Obligations.BootSequence : Prop :=
  (∀ (s : State) (straps : Straps), s.power.phase = .held ∧ straps.testEn = false ∧ s.lifeCycle ≠ 3 →
    Completes (.resetRelease straps) s fun t =>
    t.power = { s.power with phase := .boot, straps := straps, boot := Boot.init } ∧ t.rd P.PllLockStatus 0 = 0x7B ∧
    (t.core 0).released = true ∧
    (∀ i < 3, t.nv.fuses.getD i (false, false) = if (s.nv.fuses.getD i (false, false)).1 ||
    (s.nv.fuses.getD i (false, false)).2 then (true, true) else (false, false)) ∧
    Frame [] [(P.PllLockStatus, 0)] [.power, .capstan, .nonVolatile] s t) ∧
  (∀ (s : State) (straps : Straps), s.power.phase = .held ∧ straps.testEn = false ∧ s.lifeCycle = 3 →
    Completes (.resetRelease straps) s fun t =>
    t.power = { s.power with phase := if s.nv.identitySecret then .erasing else .retired, straps := straps } ∧
    t.rd P.PllLockStatus 0 = 0x7B ∧ Frame [] [(P.PllLockStatus, 0)] [.power, .nonVolatile] s t) ∧
  (∀ (s : State) (straps : Straps), straps.testEn = true → Completes (.resetRelease straps) s fun t =>
    t.power = s.power ∧ Frame [] [] [] s t) ∧
  (∀ (s : State), s.power.phase = .boot → Completes (.sramWipeDone) s fun t => t.sram = [] ∧ t.dram = s.dram ∧
    t.power = { s.power with boot := { s.power.boot with sramWiped := true } } ∧ Frame [] [] [.memory, .power] s t) ∧
  (∀ (s : State), s.power.phase = .boot → Completes (.dramTrained) s fun t =>
    t.power = { s.power with boot := { s.power.boot with dramTrained := true } } ∧ Frame [] [] [.power] s t) ∧
  (∀ (s : State), s.power.phase = .boot ∧ s.power.boot.dramTrained = true → Completes (.dramWipeDone) s fun t =>
    t.dram = [] ∧ t.sram = s.sram ∧ t.power = { s.power with boot := { s.power.boot with dramWiped := true } } ∧
    Frame [] [] [.memory, .power] s t) ∧
  (∀ (s : State) (i : Fin 2) (rest : List (Fin 2)), s.power.phase = .boot ∧ s.power.boot.sramWiped = true ∧
    s.power.boot.imageChecked = false ∧ s.slotOrder = i :: rest ∧ (s.slotOf i).code = 3 ∧
    s.verifyStep (s.slotOf i) = 0 → Completes (.imageVerify) s fun t => t.power.phase = .boot ∧
    t.power.boot.image = some i ∧ t.power.boot.imageChecked = true ∧ t.fld P.UpdateStatus 0 0 1 = i.val ∧
    t.update.format = (s.slotOf i).format ∧ t.nv = s.nv ∧ Frame [] [(P.UpdateStatus, 0)] [.power, .update] s t) ∧
  (∀ (s : State) (i : Fin 2) (rest : List (Fin 2)), s.power.phase = .boot ∧ s.power.boot.sramWiped = true ∧
    s.power.boot.imageChecked = false ∧ s.slotOrder = i :: rest ∧ (s.slotOf i).code = 1 ∧
    s.verifyStep (s.slotOf i) = 0 → Completes (.imageVerify) s fun t => t.power.phase = .boot ∧
    t.power.boot.image = some i ∧ (t.slotOf i).trial = 0 ∧
    Frame [] [(P.UpdateStatus, 0)] [.power, .update, .nonVolatile] s t) ∧
  (∀ (s : State), s.power.phase = .boot ∧ s.power.boot.sramWiped = true ∧ s.power.boot.imageChecked = false ∧
    s.power.boot.image = none ∧ s.slotOrder = [] → Completes (.imageVerify) s fun t => t.power.phase = .recovery ∧
    t.power.boot.imageChecked = true ∧ t.rd P.DeviceState 0 = 2 ∧
    Frame [] [(P.UpdateStatus, 0), (P.DeviceState, 0)] [.power] s t) ∧
  (∀ (s : State), s.power.phase = .boot ∧ s.power.boot.image.isSome = true ∧ s.power.boot.dramWiped = true →
    Completes (.bootHandover) s fun t => (∀ c < 4, (t.core c).released = true) ∧ t.capstan.bootRom = false ∧
    t.capstan.codeLocked = true ∧ t.power = { s.power with boot := { s.power.boot with handed := true } } ∧
    Frame [] [] [.power, .capstan] s t) ∧
  (∀ (s : State), s.power.phase = .boot ∧ s.power.boot.handed = true ∧ s.power.boot.settingsApplied = false ∧
    s.newerBank = none → Completes (.settingsApply) s fun t => t.fld P.SettingsStatus 0 10 2 = 3 ∧
    t.fld P.SettingsStatus 0 16 16 = 0 ∧
    t.power = { s.power with boot := { s.power.boot with settingsApplied := true } } ∧
    Frame [] [(P.SettingsStatus, 0)] [.power] s t) ∧
  (∀ (s : State), s.power.phase = .boot ∧ s.power.boot.settingsApplied = true → Completes (.deviceReady) s fun t =>
    t.power = { s.power with phase := .ready, watchdog := .running, serviced := s.clock } ∧
    t.rd P.DeviceState 0 = (if s.power.boot.unverified then 1 else 0) ∧ t.dram = s.dram ∧ t.sram = s.sram ∧
    t.nv = s.nv)

/-- A granted write of P1041 services the watchdog. 0000A55Ah in P1020 makes a reset pending and stops the show
output, during a power transition it is answered Busy, and a second one or another value changes nothing. A permitted
target in P0021 awaits its confirm, one not permitted is Refused, and one during a change or with the flash taken is
Busy. The confirm begins the change on the serial number in the session of the request, which over the window is the
core and its mode (the model's choice), and does nothing with it in another; another value cancels the request,
whoever writes it. Of a reset pending during a transition both of R56's sentences speak; the model answers Busy (its
choice). Beyond the cited rules it rests on the model's own choices: log entries 20, 24, 174, 175, 176. Rules: R56,
R63, R64. -/
def Obligations.ResetAndLifeCycleRequests : Prop :=
  (∀ (s : State) (rq : Requester) (value : Word), s.grants rq P.WatchdogService 0 (value.toNat) = true →
    Completes (.watchdogService rq value) s fun t => t.wdp.answer = ⟨0, []⟩ ∧
    t.power = { s.power with serviced := s.clock } ∧ Frame [] [] [.power, .answer] s t) ∧
  (∀ (s : State) (rq : Requester), s.grants rq P.ResetRequest 0 (0xA55A) = true ∧ s.inTransition = false ∧
    s.power.resetPending = false ∧ s.sheet.stopping = false → Completes (.resetRequest rq 0xA55A) s fun t =>
    t.wdp.answer = ⟨0, []⟩ ∧ t.power = { s.power with resetPending := true } ∧ t.sheet.stopping = true ∧
    t.sheet.lastSent = [] ∧ SameParts [.answer, .power, .sheet, .ports, .free, .stay, .capstan, .time] s t) ∧
  (∀ (s : State) (rq : Requester) (value : Word), s.grants rq P.ResetRequest 0 (value.toNat) = true ∧
    (value ≠ 0xA55A ∨ s.inTransition = true ∨ s.power.resetPending = true) →
    Completes (.resetRequest rq value) s fun t =>
    t.wdp.answer = ⟨if value = 0xA55A ∧ s.inTransition then 1 else 0, []⟩ ∧ Frame [] [] [.answer] s t) ∧
  (∀ (s : State) (rq : Requester) (target : Byte), s.grants rq P.LifeCycleRequest 0 (target.toNat) = true ∧
    s.power.lifeChange = none ∧ (s.arbitrate rq).taken Res.flash = false ∧
    s.lifePermitted target.toNat (s.level rq) = true → Completes (.lifeCycleRequest rq target) s fun t =>
    t.wdp.answer = ⟨0, []⟩ ∧ t.power = { s.power with lifeRequest := some (target, rq.path, rq.session) } ∧
    Frame [] [] [.answer, .power, .wdp] s t) ∧
  (∀ (s : State) (rq : Requester) (target : Byte), s.grants rq P.LifeCycleRequest 0 (target.toNat) = true ∧
    (s.power.lifeChange.isSome = true ∨ (s.arbitrate rq).taken Res.flash = true ∨ s.lifePermitted target.toNat
    (s.level rq) = false) → Completes (.lifeCycleRequest rq target) s fun t =>
    t.wdp.answer = ⟨if s.power.lifeChange.isSome ∨ (s.arbitrate rq).taken Res.flash then 1 else 2, []⟩ ∧
    Frame [] [] [.answer] s t) ∧
  (∀ (s : State) (rq : Requester) (target : Byte) (value : Word), s.grants rq P.LifeCycleConfirm 0 (value.toNat) =
    true ∧ s.power.lifeRequest = some (target, rq.path, rq.session) ∧ value = Config.serialNumber.setWidth 32 →
    Completes (.lifeCycleConfirm rq value) s fun t => t.wdp.answer = ⟨0, []⟩ ∧
    t.power = { s.power with lifeRequest := none, lifeChange := some target } ∧ t.sheet.stopping = true ∧ t.nv = s.nv) ∧
  (∀ (s : State) (rq : Requester) (target : Byte) (value : Word) (path : Path) (session : Fin 17), s.grants rq
    P.LifeCycleConfirm 0 (value.toNat) = true ∧ s.power.lifeRequest = some (target, path, session) ∧
    value ≠ Config.serialNumber.setWidth 32 → Completes (.lifeCycleConfirm rq value) s fun t =>
    t.wdp.answer = ⟨0, []⟩ ∧ t.power = { s.power with lifeRequest := none } ∧ Frame [] [] [.answer, .power] s t) ∧
  (∀ (s : State) (rq : Requester) (target : Byte) (value : Word) (path : Path) (session : Fin 17), s.grants rq
    P.LifeCycleConfirm 0 (value.toNat) = true ∧ s.power.lifeRequest = some (target, path, session) ∧
    ({ path := path, session := session, addr := 0, udp := 0 } : Requester).mark ≠ rq.mark ∧
    value = Config.serialNumber.setWidth 32 → Completes (.lifeCycleConfirm rq value) s fun t =>
    t.wdp.answer = ⟨0, []⟩ ∧ Frame [] [] [.answer] s t) ∧
  (∀ (s : State) (rq : Requester) (value : Word), s.grants rq P.LifeCycleConfirm 0 (value.toNat) = true ∧
    s.power.lifeRequest = none → Completes (.lifeCycleConfirm rq value) s fun t => t.wdp.answer = ⟨0, []⟩ ∧
    Frame [] [] [.answer] s t)

/-- Through a granted write of P1100, an undefined state or one without an enabled wake source is Refused and clears
Target. During an entry or a wake the request goes to the pending register, and one that replaces another sets
Superseded and counts. Otherwise Target takes it. A request that is not refused also sets IdleLuff as written:
clearing it in Luff restarts the clocks of the four cores, and setting it while all four wait with no enabled
interrupt pending stops them. Rules: R72, R80. -/
def Obligations.PowerStateRequests : Prop :=
  (∀ (s : State) (rq : Requester) (value : Word), s.grants rq P.PowerStateRequest 0 (value.toNat) = true ∧
    (value.toNat % 8 = 1 ∨ 5 ≤ value.toNat % 8 ∨ (value.toNat % 8 = 2 ∧ s.rdN P.WakeEnable 0 % 16 = 0) ∨
    (value.toNat % 8 = 3 ∧ s.rdN P.WakeEnable 0 / 4 % 8 = 0)) → Completes (.powerStateRequest rq value) s fun t =>
    t.wdp.answer = ⟨2, []⟩ ∧ t.fld P.PowerStateRequest 0 0 3 = 0 ∧
    t.bit P.PowerStateRequest 0 3 = s.bit P.PowerStateRequest 0 3 ∧ Frame [] [(P.PowerStateRequest, 0)] [.answer] s t) ∧
  (∀ (s : State) (rq : Requester) (value : Word), s.grants rq P.PowerStateRequest 0 (value.toNat) = true ∧
    s.inTransition = false ∧ value.toNat % 8 ≠ 1 ∧ value.toNat % 8 < 5 ∧
    (value.toNat % 8 = 2 → s.rdN P.WakeEnable 0 % 16 ≠ 0) ∧ (value.toNat % 8 = 3 → s.rdN P.WakeEnable 0 / 4 % 8 ≠ 0) →
    Completes (.powerStateRequest rq value) s fun t => t.wdp.answer = ⟨0, []⟩ ∧
    t.fld P.PowerStateRequest 0 0 3 = value.toNat % 8 ∧ t.bit P.PowerStateRequest 0 3 = value.getLsbD 3 ∧
    (value.getLsbD 3 = true →
    (s.power.phase = .ready ∧ s.power.sleep = .run ∧ ∀ d < 4, (s.core d).waiting = true ∧ s.irqReady d = false) →
    t.power = { s.power with sleep := .luff } ∧ ∀ d < 4, t.core d = { s.core d with clockStopped := true }) ∧
    (value.getLsbD 3 = false → s.power.sleep = .luff → t.power = { s.power with sleep := .run } ∧
    ∀ d < 4, t.core d = { s.core d with clockStopped := false }) ∧
    (¬ (value.getLsbD 3 = true ∧
    (s.power.phase = .ready ∧ s.power.sleep = .run ∧ ∀ d < 4, (s.core d).waiting = true ∧ s.irqReady d = false)) →
    ¬ (value.getLsbD 3 = false ∧ s.power.sleep = .luff) → t.power = s.power ∧ t.capstan.rest = s.capstan.rest) ∧
    Frame [] [(P.PowerStateRequest, 0)] [.answer, .power, .capstan] s t) ∧
  (∀ (s : State) (rq : Requester) (value : Word), s.grants rq P.PowerStateRequest 0 (value.toNat) = true ∧
    s.inTransition = true ∧ value.toNat % 8 ≠ 1 ∧ value.toNat % 8 < 5 ∧
    (value.toNat % 8 = 2 → s.rdN P.WakeEnable 0 % 16 ≠ 0) ∧ (value.toNat % 8 = 3 → s.rdN P.WakeEnable 0 / 4 % 8 ≠ 0) →
    Completes (.powerStateRequest rq value) s fun t => t.wdp.answer = ⟨0, []⟩ ∧ t.bit P.PowerStatus 0 10 = true ∧
    t.fld P.PowerStatus 0 7 3 = value.toNat % 8 ∧
    t.bit P.PowerStatus 0 11 = (s.bit P.PowerStatus 0 11 || s.bit P.PowerStatus 0 10) ∧
    t.fld P.PowerStateRequest 0 0 3 = s.fld P.PowerStateRequest 0 0 3 ∧
    t.bit P.PowerStateRequest 0 3 = value.getLsbD 3 ∧
    (value.getLsbD 3 = true →
    (s.power.phase = .ready ∧ s.power.sleep = .run ∧ ∀ d < 4, (s.core d).waiting = true ∧ s.irqReady d = false) →
    t.power = { s.power with sleep := .luff } ∧ ∀ d < 4, t.core d = { s.core d with clockStopped := true }) ∧
    (value.getLsbD 3 = false → s.power.sleep = .luff → t.power = { s.power with sleep := .run } ∧
    ∀ d < 4, t.core d = { s.core d with clockStopped := false }) ∧
    (¬ (value.getLsbD 3 = true ∧
    (s.power.phase = .ready ∧ s.power.sleep = .run ∧ ∀ d < 4, (s.core d).waiting = true ∧ s.irqReady d = false)) →
    ¬ (value.getLsbD 3 = false ∧ s.power.sleep = .luff) → t.power = s.power ∧ t.capstan.rest = s.capstan.rest) ∧
    (s.bit P.PowerStatus 0 10 = false → t.rd P.SupersededCount 0 = s.rd P.SupersededCount 0) ∧
    Frame [] [(P.PowerStateRequest, 0), (P.PowerStatus, 0), (P.SupersededCount, 0)] [.answer, .wdp, .power, .capstan]
    s t)

/-- Of a served device, a core whose clock runs and that executes the wait instruction without a Target goes on if an
enabled interrupt is pending at it, and otherwise waits; with IdleLuff set, the fourth core to wait stops the clocks
of all four, unless an enabled interrupt is pending at one of them. When DC0 executes it with a Target, pending
interrupt or not, the entry begins: InTransition and the target are shown, dispatch stops, the watchdog pauses, a
level-type source that stands is latched and the show output stops. A core whose clock does not run executes nothing.
The end of Luff restarts the clocks and ends every wait. Beyond the cited rules it rests on the model's own choices:
log entries 29, 177. Rules: R71, R72, R74. -/
def Obligations.WaitAndLuff : Prop :=
  (∀ (s : State) (c : Fin 4), s.power.phase = .ready ∧ s.coreRuns c = true ∧ s.irqReady c = true ∧
    (c ≠ 0 ∨ s.fld P.PowerStateRequest 0 0 3 = 0) → Completes (.waitForInterrupt c) s fun t => Frame [] [] [] s t ∧
    (t.core c).waiting = (s.core c).waiting) ∧
  (∀ (s : State) (c : Fin 4), s.power.phase = .ready ∧ s.coreRuns c = true ∧ s.irqReady c = false ∧
    (c ≠ 0 ∨ s.fld P.PowerStateRequest 0 0 3 = 0) ∧
    (s.bit P.PowerStateRequest 0 3 = false ∨ ¬
    (∀ d < 4, d ≠ c.val → (s.core d).waiting = true ∧ s.irqReady d = false)) →
    Completes (.waitForInterrupt c) s fun t => (t.core c).waiting = true ∧
    (∀ d < 4, d ≠ c.val → t.core d = s.core d) ∧ t.power = s.power ∧ Frame [] [] [.capstan] s t) ∧
  (∀ (s : State) (target : Nat), s.power.phase = .ready ∧ s.coreRuns 0 = true ∧
    s.fld P.PowerStateRequest 0 0 3 = target ∧ target ≠ 0 → Completes (.waitForInterrupt 0) s fun t =>
    t.power = { s.power with sleep := .entering (BitVec.ofNat 3 target) 0, watchdog := .paused, serviced := s.clock,
                             wakeLatch := s.standing target } ∧ t.bit P.PowerStatus 0 3 = true ∧
    t.fld P.PowerStatus 0 4 3 = target ∧ t.capstan.dispatchStopped = true ∧ t.sheet.stopping = true ∧
    (t.core 0).waiting = true ∧ (∀ d < 4, t.coreRuns d = false)) ∧
  (∀ (s : State) (c : Fin 4), s.power.phase = .ready ∧ s.coreRuns c = true ∧ s.irqReady c = false ∧
    (c ≠ 0 ∨ s.fld P.PowerStateRequest 0 0 3 = 0) ∧ s.bit P.PowerStateRequest 0 3 = true ∧
    (∀ d < 4, d ≠ c.val → (s.core d).waiting = true ∧ s.irqReady d = false) →
    Completes (.waitForInterrupt c) s fun t => t.power = { s.power with sleep := .luff } ∧
    (∀ d < 4, (t.core d).waiting = true ∧ (t.core d).clockStopped = true) ∧ Frame [] [] [.capstan, .power] s t) ∧
  (∀ (s : State) (c : Fin 4), s.power.phase ≠ .ready ∨ s.coreRuns c = false →
    Completes (.waitForInterrupt c) s fun t => Frame [] [] [] s t) ∧
  (∀ (s : State), s.power.sleep = .luff → Completes (.luffWake) s fun t => t.power = { s.power with sleep := .run } ∧
    (∀ d < 4, t.core d = { s.core d with waiting := false, clockStopped := false }) ∧
    Frame [] [] [.capstan, .power] s t)

/-- A step of an entry that completes moves it to the next abort point. Passing the first drops every frame not yet
presented and aborts the maintenance activities, the second empties the ports, puts an Energy-Efficient shroud link of
a Reefed entry in low-power idle and ends Locked time, the third ends the canvas cycle and the pack pass and takes the
lock bits of CPLL, FPLL, DPLL and SPLL away and, toward Furled and Struck, the others too; the fourth changes nothing
else. With a wake latched the entry is abandoned there: Run, AbortPoint holds the point, InTransition clears, dispatch
and watchdog restart, the stopped PLLs lock again, Target is the pending request or 0 and the pending register clears.
At the handshake of Struck the device holds only what a reset keeps, and a latched wake begins the full reset of a
wake from Struck. At that of Reefed and Furled the state is shown and Target clears; a pending request for another
state begins a wake of its own, whatever wake is latched (the model's choice), and otherwise a latched wake begins.
Beyond the cited rules it rests on the model's own choices: log entries 29, 30, 31, 32. Rules: R74, R75, R76, R81. -/
def Obligations.EntryAndAbandonment : Prop :=
  (∀ (s : State) (target : BitVec 3) (point : Fin 5) (ap : Nat), s.power.phase = .ready ∧
    s.power.sleep = .entering target ap ∧ point.val = ap + 1 ∧ 2 ≤ ap ∧ s.power.wakeLatch = none →
    Completes (.abortPoint point) s fun t => t.power = { s.power with sleep := .entering target point.val } ∧
    (∀ i < 7, t.bit P.PllLockStatus 0 i =
    (s.bit P.PllLockStatus 0 i && !(point == 3 && (stoppedPlls target.toNat).contains i))) ∧
    t.render = (if point = 3 then { s.render.cleared with frame := none, oldArea := false } else s.render) ∧
    t.sheet = (if point = 3 then { s.sheet with packing := none, closed := none } else s.sheet) ∧
    Frame [] (if point = 3 then [(P.PllLockStatus, 0), (P.StayStatus, 0), (P.StayStatus, 1), (P.StayStatus, 2),
    (P.StayStatus, 3)] else []) [.power, .render, .sheet] s t) ∧
  (∀ (s : State) (target : BitVec 3), s.power.phase = .ready ∧ s.power.sleep = .entering target 0 ∧
    s.power.wakeLatch = none → Completes (.abortPoint 1) s fun t =>
    t.power = { s.power with sleep := .entering target 1 } ∧ t.halyard.grid.queued = [] ∧ t.masthead.waiting = [] ∧
    (∀ c ∈ t.sheet.contexts, c.dropped = true) ∧ t.trim = none ∧ t.shroud.cable = [] ∧
    (∀ p < 64, (t.port p).shows = []) ∧ (∀ p < 4, (t.stayPort p).cascade = [])) ∧
  (∀ (s : State) (target : BitVec 3), s.power.phase = .ready ∧ s.power.sleep = .entering target 1 ∧
    s.power.wakeLatch = none → Completes (.abortPoint 2) s fun t =>
    t.power = { s.power with sleep := .entering target 2 } ∧
    (∀ p < 64, t.port p = ShroudPort.init ∧
    (target = 2 → s.shroudUp p = true → s.bit P.PhyControl p 7 = true → t.bit P.PortStatus p 8 = true ∧
    t.bit P.LinkStatus p 5 = true)) ∧
    (∀ p < 4, t.bit P.StayStatus p 0 = false ∧ (t.stayPort p).priority = [] ∧ (t.stayPort p).cascade = [] ∧
    (t.stayPort p).general = [] ∧ (t.stayPort p).sending = none) ∧
    (target ≠ 4 →
    t.timeState = (if s.timeState = Ts.locked ∨ s.timeState = Ts.locking then Ts.holdover else s.timeState))) ∧
  (∀ (s : State) (target : BitVec 3) (point : Fin 5) (ap : Nat) (w : WakeSource), s.power.phase = .ready ∧
    s.power.sleep = .entering target ap ∧ point.val = ap + 1 ∧ s.power.wakeLatch = some w →
    Completes (.abortPoint point) s fun t =>
    t.power = { s.power with sleep := .run, watchdog := .running, serviced := s.clock, wakeLatch := none, alarm :=
                               false } ∧ t.fld P.PowerStatus 0 12 4 = point.val ∧ t.bit P.PowerStatus 0 3 = false ∧
    t.bit P.PowerStatus 0 10 = false ∧
    t.fld P.PowerStateRequest 0 0 3 = (if s.bit P.PowerStatus 0 10 then s.fld P.PowerStatus 0 7 3 else 0) ∧
    (∀ i < 7, i ≠ 2 →
    t.bit P.PllLockStatus 0 i = (s.bit P.PllLockStatus 0 i ||
    (decide (3 ≤ point.val) && (stoppedPlls target.toNat).contains i))) ∧ t.capstan.dispatchStopped = false ∧
    (t.core 0).waiting = false ∧ t.sheet.stopping = false ∧ t.bit P.EventPending 0 3 = true) ∧
  (∀ (s : State), s.power.sleep = .entering 4 4 ∧ s.power.wakeLatch = none →
    Completes (.retentionHandshake) s fun t => t.power = { Power.init with phase := .struck } ∧ t.nv = s.nv ∧
    t.dram = [] ∧ t.sram = [] ∧ SameRegs [P.ResetCause, P.BrownoutRails, P.RtcCount] [] State.reset t ∧
    t.rd P.ResetCause 0 = s.rd P.ResetCause 0 ∧ t.rd P.BrownoutRails 0 = s.rd P.BrownoutRails 0 ∧
    t.rd P.RtcCount 0 = s.rd P.RtcCount 0) ∧
  (∀ (s : State) (w : WakeSource), s.power.sleep = .entering 4 4 ∧ s.power.wakeLatch = some w →
    Completes (.retentionHandshake) s fun t => WasReset s t ∧ BitsSet P.ResetCause 0 [7] s t ∧
    BitsSet P.BrownoutRails 0 [] s t) ∧
  (∀ (s : State) (target : BitVec 3) (other : Bool), s.power.sleep = .entering target 4 ∧ (target = 2 ∨ target = 3) ∧
    other = (s.bit P.PowerStatus 0 10 && decide (s.fld P.PowerStatus 0 7 3 ≠ target.toNat)) →
    Completes (.retentionHandshake) s fun t =>
    t.power = { s.power with sleep := (if other ∨ s.power.wakeLatch.isSome then .waking (target == 3) else if target =
                               3 then .furled else .reefed), waking :=
                               (if other then some .pendingRequest else s.power.wakeLatch.or s.power.waking),
                             wakeLatch := none, watchdog := (if target = 3 then .stopped else s.power.watchdog),
                             serviced := (if target = 3 then s.clock else s.power.serviced) } ∧
    t.fld P.PowerStatus 0 0 3 = target.toNat ∧ t.bit P.PowerStatus 0 3 = decide (other ∨ s.power.wakeLatch.isSome) ∧
    t.bit P.PowerStatus 0 10 = false ∧
    t.fld P.PowerStateRequest 0 0 3 = (if other then s.fld P.PowerStatus 0 7 3 else 0) ∧
    (other → t.fld P.PowerStatus 0 16 4 = 6) ∧
    (¬ other → ∀ w, s.power.wakeLatch = some w → t.fld P.PowerStatus 0 16 4 = w.code) ∧
    (target = 3 → t.rd P.FurledElapsed 0 = s.rd P.RtcCount 0) ∧ (∀ n < 8, (t.vid n).ring = Ring.init) ∧
    (∀ n < 4, (t.casc n).ring = Ring.init) ∧
    Frame [] [(P.PowerStatus, 0), (P.PowerStateRequest, 0), (P.FurledElapsed, 0), (P.WakePort, 0)]
    [.power, .video, .cascadeIn] s t)

/-- An enabled wake source of the target is latched by an entry in progress if none is latched, WAKE toward Struck
always, and in Reefed and Furled it begins the wake with its code shown as WakeCause; a source that is not enabled
does nothing. The RTC alarm acts while the count has reached the alarm value and the clock runs, and sets the alarm
flag. A Bosun address match in a sleep state also sets the match flag, and under Stretch the target holds the bus if a
wake follows; in Run and Luff it is nothing. The end of the wake returns the device to Run with InTransition, Target,
the hold and the alarm flag clear, the stopped PLLs locked again and, from Furled, the elapsed ticks since the
handshake counted into P1122 and TNS; a transfer that was held is then served. Beyond the cited rules it rests on the
model's own choices: log entries 32, 33, 178. Rules: R73, R76, R77, R78, R79, R83. -/
def Obligations.WakeEvents : Prop :=
  (∀ (s : State) (target : BitVec 3) (ap : Nat), s.power.sleep = .entering target ap ∧
    (target = 4 ∨ (s.bit P.WakeEnable 0 3 = true ∧ (target = 2 ∨ target = 3))) → Completes (.wakePin) s fun t =>
    t.power = { s.power with wakeLatch := some (s.power.wakeLatch.getD .wakePin) } ∧ Frame [] [] [.power] s t) ∧
  (∀ (s : State), (s.power.sleep = .reefed ∨ s.power.sleep = .furled) ∧ s.bit P.WakeEnable 0 3 = true →
    Completes (.wakePin) s fun t =>
    t.power = { s.power with sleep := .waking (s.power.sleep == .furled), waking := some .wakePin, wakeLatch := none }
    ∧ t.bit P.PowerStatus 0 3 = true ∧ t.fld P.PowerStatus 0 16 4 = 4 ∧ Frame [] [(P.PowerStatus, 0)] [.power] s t) ∧
  (∀ (s : State), s.power.sleep = .run ∨ s.power.sleep = .luff ∨ (∃ f, s.power.sleep = .waking f) ∨
    ((s.power.sleep = .reefed ∨ s.power.sleep = .furled) ∧ s.bit P.WakeEnable 0 3 = false) →
    Completes (.wakePin) s fun t => Frame [] [] [] s t) ∧
  (∀ (s : State), s.power.sleep = .furled ∧ s.bit P.WakeEnable 0 4 = true ∧ s.rtcRuns = true ∧
    s.rdN P.RtcAlarm 0 ≤ s.rdN P.RtcCount 0 → Completes (.rtcAlarm) s fun t =>
    t.power = { s.power with sleep := .waking true, waking := some .rtcAlarm, wakeLatch := none, alarm := true } ∧
    t.bit P.PowerStatus 0 3 = true ∧ t.fld P.PowerStatus 0 16 4 = 5 ∧ Frame [] [(P.PowerStatus, 0)] [.power] s t) ∧
  (∀ (s : State) (ap : Nat), s.power.sleep = .entering 3 ap ∧ s.bit P.WakeEnable 0 4 = true ∧ s.rtcRuns = true ∧
    s.rdN P.RtcAlarm 0 ≤ s.rdN P.RtcCount 0 → Completes (.rtcAlarm) s fun t =>
    t.power = { s.power with wakeLatch := some (s.power.wakeLatch.getD .rtcAlarm), alarm := true } ∧
    Frame [] [] [.power] s t) ∧
  (∀ (s : State), s.rtcRuns = false ∨ s.rdN P.RtcCount 0 < s.rdN P.RtcAlarm 0 ∨ s.power.sleep = .reefed ∨
    s.power.sleep = .run ∨ s.power.sleep = .luff ∨ s.bit P.WakeEnable 0 4 = false → Completes (.rtcAlarm) s fun t =>
    t.power = (if s.rtcRuns ∧
    s.rdN P.RtcAlarm 0 ≤ s.rdN P.RtcCount 0 then { s.power with alarm := true } else s.power) ∧
    Frame [] [] [.power] s t) ∧
  (∀ (s : State), s.power.phase = .ready ∧ (s.power.sleep = .reefed ∨ s.power.sleep = .furled) ∧
    s.bit P.WakeEnable 0 2 = true → Completes (.bosunAddressMatch) s fun t =>
    t.power = { s.power with bosunMatch := true, sleep := .waking (s.power.sleep == .furled), waking := some .bosun,
                             wakeLatch := none, bosunHeld := (s.power.bosunHeld || s.rdN P.BosunWakeMode 0 == 0) } ∧
    t.bit P.PowerStatus 0 3 = true ∧ t.fld P.PowerStatus 0 16 4 = 3 ∧ Frame [] [(P.PowerStatus, 0)] [.power] s t) ∧
  (∀ (s : State), s.power.phase = .ready ∧ (s.power.sleep = .reefed ∨ s.power.sleep = .furled) ∧
    s.bit P.WakeEnable 0 2 = false → Completes (.bosunAddressMatch) s fun t =>
    t.power = { s.power with bosunMatch := true, bosunHeld :=
                               (s.power.bosunHeld || (s.power.wakeLatch.isSome && s.rdN P.BosunWakeMode 0 == 0)) } ∧
    Frame [] [] [.power] s t) ∧
  (∀ (s : State) (f : Bool), s.power.phase = .ready ∧ s.power.sleep = .waking f →
    Completes (.bosunAddressMatch) s fun t =>
    t.power = { s.power with bosunMatch := true, bosunHeld := (s.power.bosunHeld || s.rdN P.BosunWakeMode 0 == 0) } ∧
    Frame [] [] [.power] s t) ∧
  (∀ (s : State), s.power.sleep = .run ∨ s.power.sleep = .luff → Completes (.bosunAddressMatch) s fun t =>
    Frame [] [] [] s t) ∧
  (∀ (s : State) (furled : Bool), s.power.sleep = .waking furled ∧ s.power.heldTransfer = none →
    Completes (.wakeComplete) s fun t =>
    t.power = { s.power with sleep := .run, watchdog := .running, serviced := s.clock, waking := none, alarm := false,
                             bosunHeld := false } ∧ t.bit P.PowerStatus 0 3 = false ∧
    t.bit P.PowerStatus 0 10 = false ∧
    t.fld P.PowerStateRequest 0 0 3 = (if s.bit P.PowerStatus 0 10 ∧
    s.fld P.PowerStatus 0 7 3 ≠ 0 then s.fld P.PowerStatus 0 7 3 else if s.power.waking = some .pendingRequest then
    s.fld P.PowerStateRequest 0 0 3 else 0) ∧
    (∀ i < 7, i ≠ 2 →
    t.bit P.PllLockStatus 0 i = (s.bit P.PllLockStatus 0 i || (stoppedPlls (if furled then 3 else 2)).contains i)) ∧
    t.capstan.dispatchStopped = false ∧ (t.core 0).waiting = false ∧ t.sheet.stopping = false ∧ t.render.entry = [] ∧
    t.bit P.EventPending 0 3 = true ∧
    (furled = true → t.rdN P.FurledElapsed 0 = (s.rdN P.RtcCount 0 + 2 ^ 48 - s.rdN P.FurledElapsed 0) % 2 ^ 48 ∧
    t.counter40 = s.counter40 + ((t.rdN P.FurledElapsed 0 * rtcPeriod * 2 ^ 32 : Nat) : Int))) ∧
  (∀ (s : State) (furled : Bool) (bytes : List Byte), s.power.sleep = .waking furled ∧
    s.power.heldTransfer = some bytes ∧ 1024 < bytes.length ∧ beNat (sliceBytes bytes 8 4) = 0 →
    Completes (.wakeComplete) s fun t => t.power.bosunHeld = false ∧ t.power.heldTransfer = none ∧
    t.power.bosunMatch = false ∧ t.wdp.bosunResponse = some (wdpMessage 1 0 0 9 0 [] none))

/-- A PLL that was locked and loses lock clears its bit of P1030 and counts in P1032 unless the count is full; loss of
SPLL also takes every stay link down. An attempt that locks sets the bit again where the PLL's clock is wanted; one
that does not lock, or of a PLL not wanted, changes nothing. Beyond the cited rules it rests on the model's own
choices: log entry 34. Rules: R53. -/
def Obligations.PllLockEvents : Prop :=
  (∀ (s : State), s.bit P.PllLockStatus 0 1 = true ∧ s.rdN P.PllLossCount 0 < 2 ^ 32 →
    Completes (.pllLossOfLock .hpll) s fun t =>
    (∀ i < 7, t.bit P.PllLockStatus 0 i = (s.bit P.PllLockStatus 0 i && i != 1)) ∧
    t.rdN P.PllLossCount 0 = min 0xFFFFFFFF (s.rdN P.PllLossCount 0 + 1) ∧
    Frame [] [(P.PllLockStatus, 0), (P.PllLossCount, 0)] [.wdp] s t) ∧
  (∀ (s : State), s.bit P.PllLockStatus 0 0 = true ∧ s.rdN P.PllLossCount 0 < 2 ^ 32 →
    Completes (.pllLossOfLock .kpll) s fun t =>
    (∀ i < 7, t.bit P.PllLockStatus 0 i = (s.bit P.PllLockStatus 0 i && i != 0)) ∧
    t.rdN P.PllLossCount 0 = min 0xFFFFFFFF (s.rdN P.PllLossCount 0 + 1) ∧
    Frame [] [(P.PllLockStatus, 0), (P.PllLossCount, 0)] [.wdp] s t) ∧
  (∀ (s : State), s.bit P.PllLockStatus 0 2 = true ∧ s.rdN P.PllLossCount 0 < 2 ^ 32 →
    Completes (.pllLossOfLock .spll) s fun t => t.bit P.PllLockStatus 0 2 = false ∧
    (∀ p < 4, t.bit P.StayStatus p 0 = false ∧ t.bit P.StayStatus p 6 = false) ∧
    t.rdN P.PllLossCount 0 = min 0xFFFFFFFF (s.rdN P.PllLossCount 0 + 1)) ∧
  (∀ (s : State), s.pllWanted .kpll = true → Completes (.pllRelockAttempt .kpll true) s fun t =>
    (∀ i < 7, t.bit P.PllLockStatus 0 i = (s.bit P.PllLockStatus 0 i || i == 0))) ∧
  (∀ (s : State), s.pllWanted .hpll = true → Completes (.pllRelockAttempt .hpll true) s fun t =>
    (∀ i < 7, t.bit P.PllLockStatus 0 i = (s.bit P.PllLockStatus 0 i || i == 1))) ∧
  (∀ (s : State), s.pllWanted .spll = true → Completes (.pllRelockAttempt .spll true) s fun t =>
    (∀ i < 7, t.bit P.PllLockStatus 0 i = (s.bit P.PllLockStatus 0 i || i == 2)) ∧
    (∀ p < 4, t.bit P.StayStatus p 6 = s.bit P.StayControl p 0)) ∧
  (∀ (s : State) (pll : SoftPll), s.pllWanted pll = false → Completes (.pllRelockAttempt pll true) s fun t =>
    Frame [] [] [] s t) ∧
  (∀ (s : State) (pll : SoftPll), Completes (.pllRelockAttempt pll false) s fun t => Frame [] [] [] s t)

/-- A permitted Read of defined elements of a scalar answers each at the width of its type, most significant byte
first, and changes nothing; of a BLOB it answers the length of its body, of a STR the text. A Read of an undefined
parameter answers zeros and counts one violation. ReadInfo answers 16 bytes for each element. A read of TimeNow
answers TNS and latches its fraction into P2001. BlockRead answers the bytes of the live body that exist. Over the
deck-core window a permitted, aligned 32-bit load answers one word of the parameter's page: an element of a type no
wider than a word, zero- or sign-extended; a word of a STR; of a BLOB the length and then zeros; of a U64 element the
low word, whose load latches the high word for the next load of it by the same core. An access that is not aligned or
not granted by the core's protection regions raises an access fault instead, with its cause, address and pc in the
core's trap registers; one from user mode also ends the applet, as its trap does. Beyond the cited rules it rests on
the model's own choices: log entries 36, 40, 41, 59. Rules: R14, R87, R88, R89, R95, R106, R113, R114, R115, R118,
R385, R446. -/
def Obligations.ReadsAreExact : Prop :=
  (∀ (s : State) (rq : Requester) (param : Half) (elem last : Byte) (r : Row), Dict.row param.toNat = some r ∧
    r.ty ≠ .str ∧ r.ty ≠ .blob ∧ r.acc ≠ .wo ∧ r.readLevel ≤ s.level rq ∧ s.reaches param.toNat false = true ∧
    elem.toNat + last.toNat < r.elems ∧ param.toNat ∉ [P.SessionLevel, P.TimeNow, P.CueRead] ∧
    s.hears rq (r.ty.bytes * (last.toNat + 1)) = true ∧ rq.onWindow = false →
    Completes (.read rq param elem last) s fun t =>
    t.wdp.answer = ⟨0, (List.range (last.toNat + 1)).flatMap
    (fun i => beBytes r.ty.bytes (s.shown param.toNat (elem.toNat + i)).toNat)⟩ ∧ Frame [] [] [.answer] s t) ∧
  (∀ (s : State) (rq : Requester) (param : Half) (r : Row), Dict.row param.toNat = some r ∧
    (r.ty = .str ∨ r.ty = .blob) ∧ r.acc ≠ .wo ∧ r.readLevel ≤ s.level rq ∧ s.reaches param.toNat false = true ∧
    s.hears rq ((s.body param.toNat).length + 4) = true ∧ rq.onWindow = false →
    Completes (.read rq param 0 0) s fun t =>
    t.wdp.answer = ⟨0, if r.ty = .blob then beBytes 4 (s.bodyLength param.toNat) else s.body param.toNat⟩ ∧
    Frame [] [] [.answer] s t) ∧
  (∀ (s : State) (rq : Requester) (param : Half) (elem last : Byte), Dict.row param.toNat = none ∧
    s.hears rq (4 * (last.toNat + 1)) = true ∧ rq.onWindow = false → Completes (.read rq param elem last) s fun t =>
    t.wdp.answer = ⟨0, List.replicate (4 * (last.toNat + 1)) 0⟩ ∧
    (s.rdN P.ViolationCount 0 < 0xFFFFFFFE → t.rdN P.ViolationCount 0 = s.rdN P.ViolationCount 0 + 1) ∧
    Frame [] [(P.ViolationCount, 0)] [.answer, .wdp] s t) ∧
  (∀ (s : State) (rq : Requester) (param : Half) (elem last : Byte) (r : Row), Dict.row param.toNat = some r ∧
    r.readLevel ≤ s.level rq ∧ s.reaches param.toNat false = true ∧ elem.toNat + last.toNat < r.elems ∧
    s.hears rq (16 * (last.toNat + 1)) = true ∧ rq.onWindow = false →
    Completes (.readInfo rq param elem last) s fun t =>
    t.wdp.answer = ⟨0, (List.range (last.toNat + 1)).flatMap (fun i => r.info (elem.toNat + i))⟩ ∧
    Frame [] [] [.answer] s t) ∧
  (∀ (s : State) (rq : Requester), s.power.phase = .ready ∧ s.hears rq 4 = true ∧
    s.faults rq (wordAddr rq P.TimeNow 0) false = false → Completes (.timeNowRead rq) s fun t =>
    t.wdp.answer = ⟨0, beBytes 4 s.tns.toNat⟩ ∧ t.rd P.TimeFraction 0 = s.tnsFrac.setWidth 64 ∧
    Frame [] [(P.TimeFraction, 0)] [.answer] s t) ∧
  (∀ (s : State) (rq : Requester) (param : Half) (offset length : Word) (r : Row), Dict.row param.toNat = some r ∧
    r.ty = .blob ∧ r.acc ≠ .wo ∧ r.readLevel ≤ s.level rq ∧ s.reaches param.toNat false = true ∧
    s.hears rq length.toNat = true ∧ rq.onWindow = false → Completes (.blockRead rq param offset length) s fun t =>
    t.wdp.answer = ⟨0, sliceBytes (s.body param.toNat) offset.toNat length.toNat⟩ ∧ Frame [] [] [.answer] s t) ∧
  (∀ (s : State) (rq : Requester) (c : Fin 4) (m : Bool) (param : Half) (elem last : Byte) (r : Row), rq.path =
    .window c m ∧ s.hears rq 4 = true ∧
    s.faults rq (wordAddr rq param.toNat (elem.toNat + last.toNat)) false = false ∧ Dict.row param.toNat = some r ∧
    r.acc ≠ .wo ∧ r.readLevel ≤ s.level rq ∧ s.reaches param.toNat false = true ∧ r.ty ≠ .str ∧ r.ty ≠ .blob ∧
    r.ty ≠ .u64 ∧ elem.toNat + last.toNat < r.elems ∧ param.toNat ∉ [P.SessionLevel, P.TimeNow, P.CueRead] →
    Completes (.read rq param elem last) s fun t =>
    t.wdp.answer = ⟨0, beBytes 4 (r.extend (s.shown param.toNat (elem.toNat + last.toNat))).toNat⟩ ∧
    Frame [] [] [.answer] s t) ∧
  (∀ (s : State) (rq : Requester) (c : Fin 4) (m : Bool) (param : Half) (elem : Byte) (r : Row), rq.path = .window c m
    ∧ s.hears rq 4 = true ∧ s.faults rq (wordAddr rq param.toNat (2 * elem.toNat)) false = false ∧
    Dict.row param.toNat = some r ∧ r.acc ≠ .wo ∧ r.readLevel ≤ s.level rq ∧ s.reaches param.toNat false = true ∧
    r.ty = .u64 ∧ elem.toNat < r.elems ∧ param.toNat ∉ [P.SessionLevel, P.TimeNow, P.CueRead] →
    Completes (.read rq param elem 0) s fun t =>
    t.wdp.answer = ⟨0, beBytes 4 ((s.shown param.toNat elem.toNat).toNat % 2 ^ 32)⟩ ∧
    t.core c = { s.core c with latch := some
                                 (param.toNat, elem.toNat, ((s.shown param.toNat elem.toNat) >>> 32).setWidth 32) } ∧
    (∀ d < 4, d ≠ c.val → t.core d = s.core d) ∧ Frame [] [] [.answer, .capstan] s t) ∧
  (∀ (s : State) (rq : Requester) (c : Fin 4) (m : Bool) (param : Half) (elem : Byte) (w : Word) (r : Row), rq.path =
    .window c m ∧ s.hears rq 4 = true ∧ s.faults rq (wordAddr rq param.toNat (2 * elem.toNat + 1)) false = false ∧
    Dict.row param.toNat = some r ∧ r.acc ≠ .wo ∧ r.readLevel ≤ s.level rq ∧ s.reaches param.toNat false = true ∧
    r.ty = .u64 ∧ elem.toNat < r.elems ∧ param.toNat ∉ [P.SessionLevel, P.TimeNow, P.CueRead] ∧
    (s.core c).latch = some (param.toNat, elem.toNat, w) → Completes (.read rq param elem 1) s fun t =>
    t.wdp.answer = ⟨0, beBytes 4 w.toNat⟩ ∧ t.core c = { s.core c with latch := none } ∧
    (∀ d < 4, d ≠ c.val → t.core d = s.core d) ∧ Frame [] [] [.answer, .capstan] s t) ∧
  (∀ (s : State) (rq : Requester) (c : Fin 4) (m : Bool) (param : Half) (last : Byte) (r : Row), rq.path = .window c m
    ∧ s.hears rq 4 = true ∧ s.faults rq (wordAddr rq param.toNat last.toNat) false = false ∧
    Dict.row param.toNat = some r ∧ r.acc ≠ .wo ∧ r.readLevel ≤ s.level rq ∧ s.reaches param.toNat false = true ∧
    r.ty = .str ∧ last.toNat < 16 → Completes (.read rq param 0 last) s fun t =>
    t.wdp.answer = ⟨0, beBytes 4 (bodyWord (s.body param.toNat) last.toNat).toNat⟩ ∧ Frame [] [] [.answer] s t) ∧
  (∀ (s : State) (rq : Requester) (c : Fin 4) (m : Bool) (param : Half) (last : Byte) (r : Row), rq.path = .window c m
    ∧ s.hears rq 4 = true ∧ s.faults rq (wordAddr rq param.toNat last.toNat) false = false ∧
    Dict.row param.toNat = some r ∧ r.acc ≠ .wo ∧ r.readLevel ≤ s.level rq ∧ s.reaches param.toNat false = true ∧
    r.ty = .blob → Completes (.read rq param 0 last) s fun t =>
    t.wdp.answer = ⟨0, beBytes 4 (if last = 0 then s.bodyLength param.toNat % 2 ^ 32 else 0)⟩ ∧
    Frame [] [] [.answer] s t) ∧
  (∀ (s : State) (rq : Requester) (c : Fin 4) (param : Half) (elem last : Byte), rq.path = .window c true ∧
    s.pathServes rq = true ∧
    s.faults rq (wordAddr rq param.toNat (pageWord param.toNat elem.toNat + last.toNat)) false = true →
    Completes (.read rq param elem last) s fun t => (t.core c).rdCsr Csr.mcause = 5 ∧
    (t.core c).rdCsr Csr.mtval = BitVec.ofNat 32
    (wordAddr rq param.toNat (pageWord param.toNat elem.toNat + last.toNat)) ∧
    (t.core c).rdCsr Csr.mepc = rq.access.pc ∧ t.wdp.answer = s.wdp.answer ∧
    (∀ d < 4, d ≠ c.val → t.core d = s.core d) ∧ Frame [] [(P.AccessFaultCount, c.val)] [.capstan, .wdp] s t) ∧
  (∀ (s : State) (rq : Requester) (c : Fin 4) (param : Half) (elem last : Byte), rq.path = .window c false ∧
    s.pathServes rq = true ∧
    s.faults rq (wordAddr rq param.toNat (pageWord param.toNat elem.toNat + last.toNat)) false = true →
    Completes (.read rq param elem last) s fun t => (t.core c).rdCsr Csr.mcause = 5 ∧
    (t.core c).rdCsr Csr.mtval = BitVec.ofNat 32
    (wordAddr rq param.toNat (pageWord param.toNat elem.toNat + last.toNat)) ∧
    (t.core c).rdCsr Csr.mepc = rq.access.pc ∧ t.wdp.answer = s.wdp.answer ∧
    Frame [P.PreemptCount, P.CancelCount] [(P.AccessFaultCount, c.val), (P.AppletState, 0), (P.AppletFaultInfo, 0),
    (P.AppletFaultInfo, 1), (P.AppletFaultCount, 0), (P.TraceControl, 0)] [.capstan, .wdp] s t) ∧
  (∀ (s : State) (rq : Requester) (c : Fin 4) (param : Half) (elem : Byte) (value : Wide), rq.path = .window c true ∧
    s.pathServes rq = true ∧ s.storeFaults rq param.toNat elem.toNat = true →
    Completes (.registerWrite rq param elem value) s fun t => (t.core c).rdCsr Csr.mcause = 7 ∧
    (t.core c).rdCsr Csr.mtval = BitVec.ofNat 32 (wordAddr rq param.toNat (pageWord param.toNat elem.toNat)) ∧
    (t.core c).rdCsr Csr.mepc = rq.access.pc ∧ t.wdp.answer = s.wdp.answer ∧
    (∀ d < 4, d ≠ c.val → t.core d = s.core d) ∧ Frame [] [(P.AccessFaultCount, c.val)] [.capstan, .wdp] s t) ∧
  (∀ (s : State) (rq : Requester) (c : Fin 4) (param : Half) (elem : Byte) (value : Wide), rq.path = .window c false ∧
    s.pathServes rq = true ∧ s.storeFaults rq param.toNat elem.toNat = true →
    Completes (.registerWrite rq param elem value) s fun t => (t.core c).rdCsr Csr.mcause = 7 ∧
    (t.core c).rdCsr Csr.mtval = BitVec.ofNat 32 (wordAddr rq param.toNat (pageWord param.toNat elem.toNat)) ∧
    (t.core c).rdCsr Csr.mepc = rq.access.pc ∧ t.wdp.answer = s.wdp.answer ∧
    Frame [P.PreemptCount, P.CancelCount] [(P.AccessFaultCount, c.val), (P.AppletState, 0), (P.AppletFaultInfo, 0),
    (P.AppletFaultInfo, 1), (P.AppletFaultCount, 0), (P.TraceControl, 0)] [.capstan, .wdp] s t)

/-- A write that passes every check, to a parameter without an effect of its own, holds the value: writable bits as
written, bits cleared by ones but those the device has set in the same clock, the others as they were. A
content-affecting value also waits for its latch. A mirrored parameter's write may be sent to the partner or counted
as split, a stay port may queue the group report that the value calls for, and nothing else changes. This holds of a
deck core's store, a WDP Write of one or of several elements, and a cleared counter, which then reads the number of
its increments of the same clock, else 0. Beyond the cited rules it rests on the model's own choices: log entries 36,
57, 170. Rules: R5, R6, R13, R19, R89, R90, R91, R95. -/
def Obligations.PlainWriteHoldsTheValue : Prop :=
  (∀ (s : State) (rq : Requester) (param : Half) (elem : Byte) (value : Wide) (r : Row), Dict.row param.toNat = some r
    ∧ r.ty ≠ .str ∧ r.ty ≠ .blob ∧ acts param.toNat = false ∧ s.grants rq param.toNat elem.toNat value.toNat = true →
    Completes (.registerWrite rq param elem value) s fun t => t.wdp.answer = ⟨0, []⟩ ∧
    t.rd param.toNat elem.toNat = (s.arbitrate rq).written r elem.toNat (value) ∧
    ((s.arbitrate rq).raisedBits param.toNat elem.toNat = 0 → r.cls = .none →
    t.rd param.toNat elem.toNat = r.merge (s.rd param.toNat elem.toNat) (value)) ∧
    t.content = (if r.content then s.content ++ [{ key := Dict.key param.toNat elem.toNat, value :=
                                                     (s.arbitrate rq).written r elem.toNat (value), frame :=
                                                     s.timedFrame (s.via rq) r }] else s.content) ∧
    (r.mirrored = false → t.twin = s.twin) ∧
    Frame [P.TxQueueDropCount] [(param.toNat, elem.toNat), (P.SplitWriteCount, 0)]
    [.answer, .content, .twin, .wdp, .stay] s t) ∧
  (∀ (s : State) (rq : Requester) (param : Half) (elem : Byte) (value : Nat) (r : Row), Dict.row param.toNat = some r
    ∧ r.ty ≠ .str ∧ r.ty ≠ .blob ∧ acts param.toNat = false ∧ s.grants rq param.toNat elem.toNat value = true →
    Completes (.write rq param elem 0 (beBytes r.ty.bytes value)) s fun t => t.wdp.answer = ⟨0, []⟩ ∧
    t.rd param.toNat elem.toNat = (s.arbitrate rq).written r elem.toNat (BitVec.ofNat 64 value) ∧
    ((s.arbitrate rq).raisedBits param.toNat elem.toNat = 0 → r.cls = .none →
    t.rd param.toNat elem.toNat = r.merge (s.rd param.toNat elem.toNat) (BitVec.ofNat 64 value)) ∧
    t.content = (if r.content then s.content ++ [{ key := Dict.key param.toNat elem.toNat, value :=
                                                     (s.arbitrate rq).written r elem.toNat (BitVec.ofNat 64 value),
                                                   frame := s.timedFrame (s.via rq) r }] else s.content) ∧
    (r.mirrored = false → t.twin = s.twin) ∧
    Frame [P.TxQueueDropCount] [(param.toNat, elem.toNat), (P.SplitWriteCount, 0)]
    [.answer, .content, .twin, .wdp, .stay] s t) ∧
  (∀ (s : State) (rq : Requester) (param : Half) (elem : Byte) (values : List Nat) (r : Row), Dict.row param.toNat =
    some r ∧ r.ty ≠ .str ∧ r.ty ≠ .blob ∧ acts param.toNat = false ∧ param.toNat ≠ P.CloneSource ∧
    param.toNat ≠ P.CloneTargets ∧ 1 ≤ values.length ∧ values.length ≤ 256 ∧
    (∀ i < values.length, s.grants rq param.toNat (elem.toNat + i) (values.getD i 0) = true) →
    Completes (.write rq param elem (BitVec.ofNat 8 (values.length - 1))
    (values.flatMap (fun v => beBytes r.ty.bytes v))) s fun t => t.wdp.answer = ⟨0, []⟩ ∧
    (∀ i < 256, t.rd param.toNat i = if elem.toNat ≤ i ∧
    i < elem.toNat + values.length then (s.arbitrate rq).written r i
    (BitVec.ofNat 64 (values.getD (i - elem.toNat) 0)) else s.rd param.toNat i) ∧
    Frame [param.toNat, P.SplitWriteCount, P.TxQueueDropCount] [] [.answer, .content, .twin, .wdp, .stay] s t) ∧
  (∀ (s : State) (rq : Requester) (param : Half) (elem : Byte) (r : Row), Dict.row param.toNat = some r ∧
    r.cls ≠ .none ∧ s.grants rq param.toNat elem.toNat 0 = true → Completes (.counterClear rq param elem 0) s fun t =>
    t.wdp.answer = ⟨0, []⟩ ∧
    t.rd param.toNat elem.toNat = BitVec.ofNat 64 ((s.arbitrate rq).tallied param.toNat elem.toNat) ∧
    (s.now = ThisClock.init → t.rd param.toNat elem.toNat = 0) ∧ Frame [] [(param.toNat, elem.toNat)] [.answer] s t) ∧
  (∀ (s : State) (rq : Requester) (param : Half) (elem : Byte) (value : Wide) (r : Row), Dict.row param.toNat = some r
    ∧ r.cls ≠ .none ∧ value ≠ 0 ∧ writable r elem.toNat = true ∧ s.permits rq param.toNat = true ∧
    s.storeFaults rq param.toNat elem.toNat = false ∧ s.hears rq 0 = true →
    Completes (.counterClear rq param elem value) s fun t =>
    t.wdp.answer = ⟨if s.notActive (s.via rq) r then 0x0C else 3, []⟩ ∧ Frame [] [] [.answer] s t)

/-- A write that the requester's level or the device's state does not permit, or of an undefined parameter, is
answered OK like one that is carried out; it counts one violation, over the window one for each store, and leaves
every other parameter, every body and every part of the machine as it was. Two writes of different values have the
same outcome. Beyond the cited rules it rests on the model's own choices: log entry 39. Rules: R89, R60, R114. -/
def Obligations.IgnoredWriteChangesNothing : Prop :=
  (∀ (s : State) (rq : Requester) (param : Half) (elem : Byte) (value value2 : Wide), s.permits rq param.toNat = false
    ∧ s.storeFaults rq param.toNat elem.toNat = false ∧ s.hears rq 0 = true →
    Completes (.registerWrite rq param elem value) s fun t => t.wdp.answer = ⟨0, []⟩ ∧
    (s.rdN P.ViolationCount 0 < 0xFFFFFFFE → t.rdN P.ViolationCount 0 = s.rdN P.ViolationCount 0 + 1) ∧
    Frame [] [(P.ViolationCount, 0)] [.answer, .wdp] s t ∧ exec (.registerWrite rq param elem value2) s = .next t) ∧
  (∀ (s : State) (rq : Requester) (param : Half) (elem last : Byte) (data data2 : List Byte) (n : Nat), s.permits rq
    param.toNat = false ∧ param.toNat ≠ P.CueWrite ∧ n = (if rq.onWindow then last.toNat + 1 else 1) ∧
    (∀ i < n, s.storeFaults rq param.toNat (elem.toNat + i) = false) ∧ s.hears rq 0 = true →
    Completes (.write rq param elem last data) s fun t => t.wdp.answer = ⟨0, []⟩ ∧
    (s.rdN P.ViolationCount 0 + n < 0xFFFFFFFF → t.rdN P.ViolationCount 0 = s.rdN P.ViolationCount 0 + n) ∧
    Frame [] [(P.ViolationCount, 0)] [.answer, .wdp] s t ∧ exec (.write rq param elem last data2) s = .next t)

/-- SessionOpen of a reachable level in session 0 gives the lowest free session, bound to the source and waiting for
its proof, and answers its number and the device nonce; in the lockout it is Throttled. A correct proof unlocks the
session with its derived key; a wrong one frees it and counts a failure. SessionClose, 5 s without a proof and the
idle timeout free it, and the end of the lockout clears it. Beyond the cited rules it rests on the model's own
choices: log entries 47, 48, 49, 180, 181. Rules: R98, R100, R102, R103. -/
def Obligations.SessionLife : Prop :=
  (∀ (s : State) (rq : Requester) (level : Byte) (host : BitVec 128) (n : Nat) (key : List Byte), rq.onWindow = false
    ∧ rq.session = 0 ∧ s.hears rq 20 = true ∧ 1 ≤ level.toNat ∧ level.toNat ≤ 3 ∧ s.wdp.lockout = false ∧
    s.levelKey rq level.toNat = some key ∧ 1 ≤ n ∧ n ≤ 16 ∧ (s.session n).state = .free ∧
    (∀ m < n, m = 0 ∨ (s.session m).state ≠ .free) → Completes (.sessionOpen rq level host) s fun t =>
    t.session n = { state := .opening, level := level.toNat, bosun := rq.onBosun, addr := rq.addr, udp := rq.udp,
                    hostNonce := host, deviceNonce := Config.nonce s.freeCount, key := key, lastTransaction := 0,
                    cached := none } ∧
    t.wdp.answer = ⟨0, beBytes 2 n ++ [0, 0] ++ beBytes 16 (Config.nonce s.freeCount).toNat⟩ ∧
    t.freeCount = s.freeCount + 1 ∧ (∀ m < 17, m ≠ n → t.session m = s.session m) ∧
    Frame [] [] [.answer, .sessions, .free] s t) ∧
  (∀ (s : State) (rq : Requester) (level : Byte) (host : BitVec 128), rq.onWindow = false ∧ rq.session = 0 ∧
    s.hears rq 20 = true ∧ 1 ≤ level.toNat ∧ level.toNat ≤ 3 ∧ s.wdp.lockout = true →
    Completes (.sessionOpen rq level host) s fun t => t.wdp.answer = ⟨0x0E, []⟩ ∧ Frame [] [] [.answer] s t) ∧
  (∀ (s : State) (rq : Requester) (proof : List Byte) (transaction : Word) (x : Session), rq.onWindow = false ∧
    s.pathServes rq = true ∧ rq.session ≠ 0 ∧ s.session rq.session = x ∧ x.state = .opening ∧
    s.sessionBound rq = true ∧ proof = sessionProof x.key x.level rq.session x.hostNonce x.deviceNonce →
    Completes (.sessionProve rq proof transaction) s fun t => t.wdp.answer = ⟨0, []⟩ ∧
    t.session rq.session = { x with state := .unlocked, key := sessionKs x.key x.hostNonce x.deviceNonce,
                                    lastTransaction := transaction, cached := none } ∧
    (∀ m < 17, m ≠ rq.session.val → t.session m = s.session m) ∧ Frame [] [] [.answer, .sessions] s t) ∧
  (∀ (s : State) (rq : Requester) (proof : List Byte) (transaction : Word) (x : Session), rq.onWindow = false ∧
    s.pathServes rq = true ∧ rq.session ≠ 0 ∧ s.session rq.session = x ∧ x.state = .opening ∧
    s.sessionBound rq = true ∧ proof ≠ sessionProof x.key x.level rq.session x.hostNonce x.deviceNonce →
    Completes (.sessionProve rq proof transaction) s fun t => t.wdp.answer = ⟨2, []⟩ ∧
    t.session rq.session = Session.free ∧
    (s.rdN P.UnlockFailCount 0 < 0xFFFFFFFE → t.rdN P.UnlockFailCount 0 = s.rdN P.UnlockFailCount 0 + 1) ∧
    (∀ m < 17, m ≠ rq.session.val → t.session m = s.session m) ∧
    Frame [] [(P.UnlockFailCount, 0)] [.answer, .sessions, .transfers, .twin, .wdp] s t) ∧
  (∀ (s : State) (rq : Requester), rq.onWindow = false ∧ rq.session ≠ 0 ∧ s.hears rq 0 = true →
    Completes (.sessionClose rq) s fun t => t.wdp.answer = ⟨0, []⟩ ∧ t.session rq.session = Session.free ∧
    (∀ m < 17, m ≠ rq.session.val → t.session m = s.session m) ∧
    (∀ i < 8, (t.sub i).active = true → (t.sub i).session ≠ rq.session.val) ∧
    Frame [] [] [.answer, .sessions, .transfers, .twin, .wdp] s t) ∧
  (∀ (s : State) (n : Fin 17), n ≠ 0 ∧ (s.session n).state = .opening → Completes (.sessionProveTimeout n) s fun t =>
    t.session n = Session.free ∧ (∀ m < 17, m ≠ n.val → t.session m = s.session m) ∧
    Frame [] [] [.sessions, .transfers, .twin, .wdp] s t) ∧
  (∀ (s : State) (n : Fin 17), n ≠ 0 ∧ (s.session n).state = .unlocked → Completes (.sessionIdleTimeout n) s fun t =>
    t.session n = Session.free ∧ (∀ m < 17, m ≠ n.val → t.session m = s.session m) ∧
    Frame [] [] [.sessions, .transfers, .twin, .wdp] s t) ∧
  (∀ (s : State), Completes (.unlockLockoutEnd) s fun t => t.wdp = { s.wdp with lockout := false } ∧
    Frame [] [] [.wdp] s t)

/-- A permitted BlockOpen of a BLOB that no slot holds, within its size and not held back, takes the lowest free slot.
BlockData puts its bytes into the slot's staging area. BlockCommit starts the hash. A body that does not match its
digest leaves the slot in mismatch. BlockAbort frees a slot that does not wait for its latch, and completion wins over
an abort of its own clock. An idle slot is freed. Beyond the cited rules it rests on the model's own choices: log
entries 51, 52, 185, 192. Rules: R104, R105. -/
def Obligations.BlockTransferSlots : Prop :=
  (∀ (s : State) (rq : Requester) (param : Half) (total : Word) (r : Row) (n : Nat), s.hears rq 4 = true ∧
    Dict.row param.toNat = some r ∧ r.ty = .blob ∧ rq.onWindow = false ∧ s.permits rq param.toNat = true ∧
    s.notActive (s.via rq) r = false ∧ (∀ m < 4, (s.xfer m).state ≠ .free → (s.xfer m).param ≠ param.toNat) ∧
    total.toNat ≤ r.size ∧ s.openGate param.toNat = 0 ∧ n < 4 ∧ (s.xfer n).state = .free ∧
    (∀ m < n, (s.xfer m).state ≠ .free) → Completes (.blockOpen rq param total) s fun t =>
    t.wdp.answer = ⟨0, [BitVec.ofNat 8 n, 0, 0, 0]⟩ ∧
    t.xfer n = { Xfer.free with state := .opened, param := param.toNat, owner := rq, total := total.toNat } ∧
    (∀ m < 4, m ≠ n → t.xfer m = s.xfer m) ∧ Frame [] [] [.answer, .transfers] s t) ∧
  (∀ (s : State) (rq : Requester) (param : Half) (slot : Byte) (offset : Word) (data : List Byte), s.hears rq 0 = true
    ∧ rq.onWindow = false ∧ s.permits rq param.toNat = true ∧ s.ownsSlot rq param.toNat slot.toNat = true ∧
    ((s.xfer slot.toNat).state = .opened ∨ (s.xfer slot.toNat).state = .mismatch) ∧
    offset.toNat + data.length ≤ (s.xfer slot.toNat).total ∧ (s.xfer slot.toNat).total ≤ 0x2000000 →
    Completes (.blockData rq param slot offset data) s fun t => t.wdp.answer = ⟨0, []⟩ ∧
    t.xfer slot.toNat = { s.xfer slot.toNat with state := .opened } ∧
    (∀ m < 4, m ≠ slot.toNat → t.xfer m = s.xfer m) ∧
    (∀ i < data.length, t.dramByte (s.stagingBase slot.toNat param.toNat + offset.toNat + i) = data.getD i 0) ∧
    (∀ a, (a < s.stagingBase slot.toNat param.toNat + offset.toNat ∨ s.stagingBase slot.toNat param.toNat +
    offset.toNat + data.length ≤ a) → t.dramByte a = s.dramByte a) ∧ t.sram = s.sram ∧
    Frame [] [] [.answer, .transfers, .memory] s t) ∧
  (∀ (s : State) (rq : Requester) (param : Half) (slot : Byte) (offset : Word) (data : List Byte), s.hears rq 0 = true
    ∧ rq.onWindow = false ∧ s.permits rq param.toNat = true ∧
    (s.ownsSlot rq param.toNat slot.toNat = false ∨ (s.xfer slot.toNat).total < offset.toNat + data.length) →
    Completes (.blockData rq param slot offset data) s fun t => t.wdp.answer = ⟨0x0A, []⟩ ∧ Frame [] [] [.answer] s t) ∧
  (∀ (s : State) (rq : Requester) (param : Half) (slot : Byte) (digest : List Byte), s.hears rq 0 = true ∧
    rq.onWindow = false ∧ s.permits rq param.toNat = true ∧ s.ownsSlot rq param.toNat slot.toNat = true ∧
    (s.xfer slot.toNat).state = .opened ∧ (s.xfer slot.toNat).result = none ∧ param.toNat ≠ P.AppletImage ∧
    param.toNat ≠ P.RelayRequest → Completes (.blockCommit rq param slot digest) s fun t =>
    t.wdp.answer = ⟨0x0F, []⟩ ∧ t.xfer slot.toNat = { s.xfer slot.toNat with state := .verifying, digest := digest } ∧
    (∀ m < 4, m ≠ slot.toNat → t.xfer m = s.xfer m) ∧ Frame [] [] [.answer, .transfers] s t) ∧
  (∀ (s : State) (rq : Requester) (param : Half) (slot : Byte) (digest : List Byte), s.hears rq 0 = true ∧
    rq.onWindow = false ∧ s.permits rq param.toNat = true ∧ s.ownsSlot rq param.toNat slot.toNat = true ∧
    (s.xfer slot.toNat).state = .verifying → Completes (.blockCommit rq param slot digest) s fun t =>
    t.wdp.answer = ⟨if (s.xfer slot.toNat).digest = digest then 0x0F else 0x0A, []⟩ ∧ Frame [] [] [.answer] s t) ∧
  (∀ (s : State) (slot : Fin 4), (s.xfer slot).state = .verifying ∧ (s.xfer slot).writing = false ∧
    (∀ c ∈ s.twin.blobCommit, c.1 ≠ slot.val) ∧ sha256 (s.stagedBody slot) ≠ (s.xfer slot).digest →
    Completes (.blockCommitVerified slot) s fun t => (t.xfer slot).state = .mismatch ∧
    t.bit P.EventPending 0 5 = true ∧ (∀ m < 4, m ≠ slot.val → t.xfer m = s.xfer m) ∧
    Frame [] [] [.transfers, .wdp] s t) ∧
  (∀ (s : State) (slot : Fin 4) (param : Nat), (s.xfer slot).state = .verifying ∧ (s.xfer slot).writing = false ∧
    (∀ c ∈ s.twin.blobCommit, c.1 ≠ slot.val) ∧ sha256 (s.stagedBody slot) = (s.xfer slot).digest ∧
    (s.xfer slot).param = param ∧ (param = P.PairKey ∨ param = P.AppletKeyHash) ∧ (s.stagedBody slot).length = 32 →
    Completes (.blockCommitVerified slot) s fun t => t.blob param = s.stagedBody slot ∧ (t.xfer slot).state = .free ∧
    (t.xfer slot).result = some 0 ∧ (∀ m < 4, m ≠ slot.val → t.xfer m = s.xfer m) ∧
    Frame [] [] [.transfers, .bodies, .wdp] s t) ∧
  (∀ (s : State) (rq : Requester) (param : Half) (slot : Byte), s.hears rq 0 = true ∧ rq.onWindow = false ∧
    s.permits rq param.toNat = true ∧ s.ownsSlot rq param.toNat slot.toNat = true ∧
    (s.xfer slot.toNat).state ≠ .latchPending ∧ (s.xfer slot.toNat).writing = false →
    Completes (.blockAbort rq param slot false) s fun t => t.wdp.answer = ⟨0, []⟩ ∧ t.xfer slot.toNat = Xfer.free ∧
    (∀ m < 4, m ≠ slot.toNat → t.xfer m = s.xfer m) ∧ Frame [] [] [.answer, .transfers, .twin] s t) ∧
  (∀ (s : State) (rq : Requester) (param : Half) (slot : Byte) (sameClock : Bool), s.hears rq 0 = true ∧
    rq.onWindow = false ∧ s.permits rq param.toNat = true ∧
    (sameClock = true ∨ (s.ownsSlot rq param.toNat slot.toNat = true ∧ (s.xfer slot.toNat).state = .latchPending)) →
    Completes (.blockAbort rq param slot sameClock) s fun t => t.wdp.answer = ⟨0x0D, []⟩ ∧ Frame [] [] [.answer] s t) ∧
  (∀ (s : State) (slot : Fin 4), (s.xfer slot).state ≠ .free ∧ (s.xfer slot).state ≠ .latchPending ∧
    (s.xfer slot).writing = false → Completes (.blockSlotIdleTimeout slot) s fun t => t.xfer slot = Xfer.free ∧
    (∀ m < 4, m ≠ slot.val → t.xfer m = s.xfer m) ∧ Frame [] [] [.transfers, .twin] s t)

/-- A Subscribe over a stay port with a lease of 1 to 3600 s renews the subscription of the same address and port, or
takes the lowest inactive number, which it answers; with none left it is Throttled. The source that subscribed ends it
with Unsubscribe, and the lease ends it. An event message takes the pending records and the lost count of its
subscription, which start anew, and numbers them in sequence. Beyond the cited rules it rests on the model's own
choices: log entries 50, 182. Rules: R107, R108, R109. -/
def Obligations.SubscriptionsAndEventMessages : Prop :=
  (∀ (s : State) (rq : Requester) (mask : Word) (udp lease : Half) (p : Fin 4) (n : Nat), rq.path = .stay p ∧
    s.hears rq 4 = true ∧ 1 ≤ lease.toNat ∧ lease.toNat ≤ 3600 ∧
    (∀ m < 8, (s.sub m).active = true → (s.sub m).addr ≠ rq.addr ∨ (s.sub m).udp ≠ udp) ∧ n < 8 ∧
    (s.sub n).active = false ∧ (∀ m < n, (s.sub m).active = true) →
    Completes (.subscribe rq mask udp lease) s fun t => t.wdp.answer = ⟨0, [BitVec.ofNat 8 n, 0, 0, 0]⟩ ∧
    t.sub n = { Subscription.free with active := true, mask := mask, addr := rq.addr, udp := udp, mac := rq.mac, port
                                         := p, session := rq.session, lease := lease.toNat } ∧
    (∀ m < 8, m ≠ n → t.sub m = s.sub m) ∧ Frame [] [] [.answer, .wdp] s t) ∧
  (∀ (s : State) (rq : Requester) (mask : Word) (udp lease : Half) (p : Fin 4) (n : Nat), rq.path = .stay p ∧
    s.hears rq 4 = true ∧ 1 ≤ lease.toNat ∧ lease.toNat ≤ 3600 ∧ n < 8 ∧ (s.sub n).active = true ∧
    (s.sub n).addr = rq.addr ∧ (s.sub n).udp = udp ∧
    (∀ m < n, (s.sub m).active = true → (s.sub m).addr ≠ rq.addr ∨ (s.sub m).udp ≠ udp) →
    Completes (.subscribe rq mask udp lease) s fun t => t.wdp.answer = ⟨0, [BitVec.ofNat 8 n, 0, 0, 0]⟩ ∧
    t.sub n = { s.sub n with mask := mask, lease := lease.toNat, session := rq.session, port := p, mac := rq.mac } ∧
    (∀ m < 8, m ≠ n → t.sub m = s.sub m) ∧ Frame [] [] [.answer, .wdp] s t) ∧
  (∀ (s : State) (rq : Requester) (mask : Word) (udp lease : Half) (p : Fin 4), rq.path = .stay p ∧
    s.hears rq 4 = true ∧ 1 ≤ lease.toNat ∧ lease.toNat ≤ 3600 ∧
    (∀ m < 8, (s.sub m).active = true ∧ ((s.sub m).addr ≠ rq.addr ∨ (s.sub m).udp ≠ udp)) →
    Completes (.subscribe rq mask udp lease) s fun t => t.wdp.answer = ⟨0x0E, []⟩ ∧ Frame [] [] [.answer] s t) ∧
  (∀ (s : State) (rq : Requester) (number : Byte) (p : Fin 4), rq.path = .stay p ∧ s.hears rq 0 = true ∧
    number.toNat < 8 ∧ (s.sub number.toNat).active = true ∧ (s.sub number.toNat).addr = rq.addr ∧
    (s.sub number.toNat).session = rq.session.val → Completes (.unsubscribe rq number) s fun t =>
    t.wdp.answer = ⟨0, []⟩ ∧ t.sub number.toNat = Subscription.free ∧
    (∀ m < 8, m ≠ number.toNat → t.sub m = s.sub m) ∧ Frame [] [] [.answer, .wdp] s t) ∧
  (∀ (s : State) (number : Fin 8), Completes (.subscriptionLeaseExpiry number) s fun t =>
    t.sub number = Subscription.free ∧ (∀ m < 8, m ≠ number.val → t.sub m = s.sub m) ∧ Frame [] [] [.wdp] s t) ∧
  (∀ (s : State) (number : Fin 8), (s.sub number).active = true ∧ s.stayActive = true ∧
    s.stayEnabled (s.sub number).port = true ∧ ((s.sub number).records ≠ [] ∨ (s.sub number).lost ≠ 0) →
    Completes (.eventMessageSend number) s fun t =>
    t.sub number = { s.sub number with sequence := (s.sub number).sequence + 1, records := [], lost := 0 } ∧
    (∀ m < 8, m ≠ number.val → t.sub m = s.sub m) ∧ (∀ q < 4, q ≠ (s.sub number).port → t.stayPort q = s.stayPort q) ∧
    Frame egressParams [] [.wdp, .stay, .sheet] s t)

/-- While Bosun is served, a read transfer answers the first bytes of the length-prefixed response with its CRC, then
FFh, and clears the match flag. A write transfer longer than 1,024 bytes leaves a TooLarge response, and one whose CRC
fails counts in P0037 and leaves a Malformed response; neither changes anything else. Every other write transfer is
the request that its bytes make. One that the target holds by stretching waits for Run. Beyond the cited rules it
rests on the model's own choices: log entries 45, 46. Rules: R111, R112, R79. -/
def Obligations.BosunTransfers : Prop :=
  (∀ (s : State) (count : Nat), s.bosunServes = true → Completes (.bosunRead count) s fun t =>
    t.wdp.answer = ⟨0, s.bosunBytes count⟩ ∧ (s.bosunBytes count).length = count ∧
    t.power = { s.power with bosunMatch := false } ∧ Frame [] [] [.answer, .power] s t) ∧
  (∀ (s : State) (bytes : List Byte), s.bosunServes = true ∧ 1024 < bytes.length →
    Completes (.bosunWriteTransfer bytes) s fun t =>
    t.wdp.bosunResponse = some (wdpMessage 1 0 (beNat (sliceBytes bytes 8 4)) 9 0 [] none) ∧
    t.power = { s.power with bosunMatch := false } ∧ Frame [] [] [.power, .wdp] s t) ∧
  (∀ (s : State) (bytes : List Byte), s.bosunServes = true ∧ bytes.length ≤ 1024 ∧
    (bytes.length < 2 ∨ beNat (bytes.drop (bytes.length - 2)) ≠ (crc16 (bytes.take (bytes.length - 2))).toNat) →
    Completes (.bosunWriteTransfer bytes) s fun t =>
    t.wdp.bosunResponse = some (wdpMessage 1 0 (if bytes.length < 12 then 0 else beNat (sliceBytes bytes 8 4)) 4 0 []
    none) ∧ (s.rdN P.BosunCrcErrorCount 0 < 0xFFFFFFFE →
    t.rdN P.BosunCrcErrorCount 0 = s.rdN P.BosunCrcErrorCount 0 + 1) ∧
    t.power = { s.power with bosunMatch := false } ∧ Frame [] [(P.BosunCrcErrorCount, 0)] [.power, .wdp] s t) ∧
  (∀ (s : State) (bytes : List Byte), s.bosunServes = false ∧ s.power.bosunHeld = true →
    Completes (.bosunWriteTransfer bytes) s fun t => t.power = { s.power with heldTransfer := some bytes } ∧
    Frame [] [] [.power] s t) ∧
  (∀ (s : State) (m : List Byte), s.bosunServes = true ∧ m.length + 2 ≤ 1024 →
    Completes (.bosunWriteTransfer (m ++ beBytes 2 (crc16 m).toNat)) s fun t =>
    ∃ u r, ({ s with power := { s.power with bosunMatch := false } } : State).request .bosun 0 0 0 1020 m = (u, r) ∧
    t.wdp.bosunResponse = r ∧ SameRegs [] [] u t ∧ t.wdp.sessions = u.wdp.sessions ∧ t.wdp.xfers = u.wdp.xfers ∧
    t.power = u.power ∧ t.nv = u.nv ∧ t.dram = u.dram ∧ t.twin = u.twin)

/-- The wrap brings TNS to within one tick of 0, sets WrapPending and raises the wrap interrupt to DC0. A write of
TimeSource, Profile or DomainNumber restarts time: Local or Unset, no slave port, no path delay, no step pending. A
lost Sync takes Locking and Locked to Holdover and leaves the other states. At an announce timeout the port's master
is forgotten. Writing 1 to StepDone clears it, unless the device sets it in that clock, and with no firing held
nothing else changes. Beyond the cited rules it rests on the model's own choices: log entries 67, 85. Rules: R117,
R119, R120, R124. -/
def Obligations.TimeStateChanges : Prop :=
  (∀ (s : State), s.timeRuns = true ∧ 0 < s.rdN P.TickIncrement 0 → Completes (.tnsWrap) s fun t =>
    t.halyard.acc.toNat < s.rdN P.TickIncrement 0 ∧ t.bit P.TimeStatus 0 0 = true ∧
    (t.core 0).irqPending.getLsbD Irq.wrap = true ∧
    Frame [] [(P.TimeStatus, 0), (P.RtcCount, 0)] [.clock, .time, .capstan, .power] s t) ∧
  (∀ (s : State) (rq : Requester) (which : Fin 3) (value : Byte), s.grants rq
    ([P.TimeSource, P.Profile, P.DomainNumber].getD which.val 0) 0 value.toNat = true →
    Completes (.timeConfigWrite rq which value) s fun t => t.wdp.answer = ⟨0, []⟩ ∧
    (t.rd ([P.TimeSource, P.Profile, P.DomainNumber].getD which.val 0) 0).setWidth 8 = value ∧
    t.timeState = (if t.rdN P.TimeSource 0 = 1 then Ts.local else Ts.unset) ∧ t.rdN P.SlavePort 0 = 0xFF ∧
    t.halyard.pathDelay = none ∧ t.halyard.master = none ∧ t.halyard.inLock = 0 ∧ t.bit P.TimeStatus 0 3 = false ∧
    t.halyard.acc = s.halyard.acc ∧ t.halyard.grid = { s.halyard.grid with queued := t.halyard.grid.queued } ∧
    Frame [P.TimeState, P.SlavePort, P.TimeStatus, P.TwinStatus, P.SplitWriteCount]
    [([P.TimeSource, P.Profile, P.DomainNumber].getD which.val 0, 0)]
    [.answer, .grid, .time, .stay, .ports, .sheet, .masthead, .twin, .wdp] s t) ∧
  (∀ (s : State), s.timeState = Ts.locking ∨ s.timeState = Ts.locked → Completes (.syncTimeout) s fun t =>
    t.timeState = Ts.holdover ∧ t.halyard.inLock = 0 ∧ t.halyard.acc = s.halyard.acc ∧
    Frame [] [(P.TimeState, 0), (P.TwinStatus, 0)] [.time, .wdp, .twin] s t) ∧
  (∀ (s : State), s.timeState ≠ Ts.locking ∧ s.timeState ≠ Ts.locked → Completes (.syncTimeout) s fun t =>
    Frame [] [] [] s t) ∧
  (∀ (s : State) (port : Fin 4), Completes (.announceReceiptTimeout port) s fun t => (t.stayPtp port).foreign = none ∧
    t.rdN P.SlavePort 0 ≠ 0x40 + port.val ∧ t.halyard.acc = s.halyard.acc ∧
    (s.rdN P.SlavePort 0 ≠ 0x40 + port.val → t.timeState = s.timeState) ∧
    (s.rdN P.SlavePort 0 = 0x40 + port.val → t.timeState ≠ Ts.locked ∧ t.timeState ≠ Ts.locking) ∧
    Frame [] [(P.TimeState, 0), (P.TwinStatus, 0), (P.SlavePort, 0)] [.time, .wdp, .twin] s t) ∧
  (∀ (s : State) (rq : Requester), s.grants rq P.TimeStatus 0 4 = true ∧ s.halyard.heldFirings = [] ∧
    ((s.arbitrate rq).raisedBits P.TimeStatus 0).getLsbD 2 = false → Completes (.stepDoneClear rq) s fun t =>
    t.wdp.answer = ⟨0, []⟩ ∧ t.bit P.TimeStatus 0 2 = false ∧
    (∀ i < 32, i ≠ 2 → t.bit P.TimeStatus 0 i = s.bit P.TimeStatus 0 i) ∧
    Frame [] [(P.TimeStatus, 0)] [.answer, .time] s t)

/-- A one-step Sync from the parent on the slave port in the domain, or the Follow_Up of a two-step one, whose offset
lies within the step threshold, adds Ki times offset times interval to the integral and sets TickIncrement and
FrequencyOffset from the negated sum of the integral and the proportional term, while that term is within the slew
limit; LastOffset shows the offset and TNS itself does not jump. A two-step Sync waits for its Follow_Up. Any Sync
whose stamp finds the queue full is skipped and counted, and one that is not followed leaves the queue as it was.
Beyond the cited rules it rests on the model's own choices: log entries 68, 71. Rules: R122, R132. -/
def Obligations.ServoFollowsTheMaster : Prop :=
  (∀ (s : State) (port : Fin 4) (m : SyncMsg) (delta : Int) (d o interval i p y : Dyad), m.twoStep = false ∧
    s.follows port m = true ∧ (s.ingressQ (0x40 + port)).length < 64 ∧
    delta = s.stampFull m.stamp (stampFrac m.frac) - originFull m.originSec m.originNs - m.correction ∧
    s.timeState = Ts.locked ∧ s.halyard.pathDelay = some d ∧ o = Dyad.sub ⟨delta, 16⟩ d ∧
    o.abs.le (Dyad.ofInt (s.rdN P.StepThreshold 0)) = true ∧
    interval = (if m.logInterval < 0 then ⟨1, m.logInterval.natAbs⟩ else ⟨2 ^ m.logInterval.toNat, 0⟩) ∧
    i = s.halyard.integral.add ((Dyad.mul ⟨s.rdN P.ServoKi 0, 12⟩ o).mul interval) ∧
    p = Dyad.mul ⟨s.rdN P.ServoKp 0, 8⟩ o ∧ p.abs.le (Dyad.ofInt (s.rdN P.SlewLimit 0)) = true ∧ y = (i.add p).neg →
    Completes (.syncReceived port m) s fun t => t.halyard.integral = i ∧
    t.rd P.TickIncrement 0 = BitVec.ofInt 64 (tickFor y) ∧
    t.rd P.FrequencyOffset 0 = ofIntW 32 (clampS32 (y.shown (Dict.key P.FrequencyOffset 0))) ∧
    t.rd P.LastOffset 0 = ofIntW 32 (clampS32 (o.shown (Dict.key P.LastOffset 0))) ∧ t.timeState = Ts.locked ∧
    t.bit P.TimeStatus 0 3 = false ∧ t.halyard.acc = s.halyard.acc ∧
    Frame [] [(P.TickIncrement, 0), (P.FrequencyOffset, 0), (P.LastOffset, 0), (P.TimeStatus, 0)] [.time] s t) ∧
  (∀ (s : State) (port : Fin 4) (m : SyncMsg) (arrived : Nat) (f : FollowUpMsg) (delta : Int)
    (d o interval i p y : Dyad), (s.stayPtp port).awaiting = some (m, arrived) ∧
    s.clock - arrived ≤ syncTicks m.logInterval ∧ m.seq = f.seq ∧ m.source = f.source ∧ m.domain = f.domain ∧
    delta = s.stampFull m.stamp (stampFrac m.frac) - originFull f.originSec f.originNs - m.correction - f.correction ∧
    s.timeState = Ts.locked ∧ s.halyard.pathDelay = some d ∧ o = Dyad.sub ⟨delta, 16⟩ d ∧
    o.abs.le (Dyad.ofInt (s.rdN P.StepThreshold 0)) = true ∧
    interval = (if m.logInterval < 0 then ⟨1, m.logInterval.natAbs⟩ else ⟨2 ^ m.logInterval.toNat, 0⟩) ∧
    i = s.halyard.integral.add ((Dyad.mul ⟨s.rdN P.ServoKi 0, 12⟩ o).mul interval) ∧
    p = Dyad.mul ⟨s.rdN P.ServoKp 0, 8⟩ o ∧ p.abs.le (Dyad.ofInt (s.rdN P.SlewLimit 0)) = true ∧ y = (i.add p).neg →
    Completes (.followUpReceived port f) s fun t => t.halyard.integral = i ∧
    t.rd P.TickIncrement 0 = BitVec.ofInt 64 (tickFor y) ∧
    t.rd P.FrequencyOffset 0 = ofIntW 32 (clampS32 (y.shown (Dict.key P.FrequencyOffset 0))) ∧
    t.rd P.LastOffset 0 = ofIntW 32 (clampS32 (o.shown (Dict.key P.LastOffset 0))) ∧ t.timeState = Ts.locked ∧
    t.bit P.TimeStatus 0 3 = false ∧ t.halyard.acc = s.halyard.acc ∧
    Frame [] [(P.TickIncrement, 0), (P.FrequencyOffset, 0), (P.LastOffset, 0), (P.TimeStatus, 0)] [.time] s t) ∧
  (∀ (s : State) (port : Fin 4) (m : SyncMsg), m.twoStep = true ∧ s.follows port m = true ∧
    (s.ingressQ (0x40 + port)).length < 64 → Completes (.syncReceived port m) s fun t =>
    (t.stayPtp port).awaiting = some (m, s.clock) ∧ t.halyard.acc = s.halyard.acc ∧
    t.halyard.integral = s.halyard.integral ∧ Frame [] [] [.time] s t) ∧
  (∀ (s : State) (port : Fin 4) (m : SyncMsg), 64 ≤ (s.ingressQ (0x40 + port)).length ∧
    (s.stayPtp port).awaiting = none ∧ s.rdN P.SyncSkipCount 0 < 2 ^ 32 → Completes (.syncReceived port m) s fun t =>
    t.rdN P.SyncSkipCount 0 = min 0xFFFFFFFF (s.rdN P.SyncSkipCount 0 + 1) ∧ t.halyard.acc = s.halyard.acc ∧
    t.halyard.integral = s.halyard.integral ∧
    Frame [] [(P.SyncSkipCount, 0), (P.StampIngressOverflowCount, 0x40 + port.val)] [.time, .wdp] s t) ∧
  (∀ (s : State) (port : Fin 4) (m : SyncMsg), (s.ptpPort port m.domain = false ∨ s.fromParent port m.source = false ∨
    s.timeState = Ts.local ∨ m.logInterval < -7 ∨ 1 < m.logInterval) ∧ (s.ingressQ (0x40 + port)).length < 64 →
    Completes (.syncReceived port m) s fun t => t.ingressQ (0x40 + port) = s.ingressQ (0x40 + port) ∧
    t.halyard.acc = s.halyard.acc ∧ t.halyard.integral = s.halyard.integral ∧ Frame [] [] [.time] s t)

/-- A Delay_Req of the slave port takes the next sequence and is remembered with its stamp when the stamp is valid.
Its Delay_Resp completes the exchange: the first sample becomes the mean path delay, and a later one within twice the
mean and 1000 ns moves it by a sixteenth of the difference. An Announce in the domain is remembered for its port. A
port in the master state sends its Sync and Announce in sequence; another port sends none. Beyond the cited rules it
rests on the model's own choices: log entries 69, 72, 188, 189. Rules: R122, R134. -/
def Obligations.DelayExchangeAndAnnounce : Prop :=
  (∀ (s : State) (port : Fin 4) (stamp : T32) (frac : Byte), s.rdN P.SlavePort 0 = 0x40 + port.val ∧
    s.bit P.StayPtpEnable 0 port = true ∧ s.stayActive = true ∧ s.timeState ≠ Ts.local ∧
    (s.egressQ (0x40 + port)).length < 64 → Completes (.delayReqInterval port stamp frac) s fun t =>
    (t.stayPtp port).delaySeq = (s.stayPtp port).delaySeq + 1 ∧
    (t.stayPtp port).delayReq = some ((s.stayPtp port).delaySeq, s.stampFull stamp (stampFrac frac)) ∧
    t.halyard.acc = s.halyard.acc ∧ Frame egressParams [] [.time, .stay, .sheet, .wdp] s t) ∧
  (∀ (s : State) (port : Fin 4) (msg : DelayRespMsg) (t3 delta : Int) (d : Dyad), s.ptpPort port msg.domain = true ∧
    s.fromParent port msg.source = true ∧ (s.stayPtp port).delayReq = some (msg.seq, t3) ∧
    (s.stayPtp port).syncDelta = some delta ∧ s.halyard.pathDelay = none ∧
    d = Dyad.sub ⟨delta + (originFull msg.receiveSec msg.receiveNs - t3 - msg.correction), 17⟩
    (Dyad.ofInt (s.rdI P.StayAsymmetry port 32)) ∧ 0 ≤ d.num → Completes (.delayRespReceived port msg) s fun t =>
    t.halyard.pathDelay = some d ∧ (t.stayPtp port).delayReq = none ∧
    t.rd P.StayMeanPathDelay 0 = BitVec.ofInt 64 (d.shown (Dict.key P.StayMeanPathDelay 0)) ∧
    t.halyard.acc = s.halyard.acc ∧ Frame [] [(P.StayMeanPathDelay, 0)] [.time] s t) ∧
  (∀ (s : State) (port : Fin 4) (msg : DelayRespMsg) (t3 delta : Int) (d mean : Dyad), s.ptpPort port msg.domain =
    true ∧ s.fromParent port msg.source = true ∧ (s.stayPtp port).delayReq = some (msg.seq, t3) ∧
    (s.stayPtp port).syncDelta = some delta ∧ s.halyard.pathDelay = some mean ∧
    d = Dyad.sub ⟨delta + (originFull msg.receiveSec msg.receiveNs - t3 - msg.correction), 17⟩
    (Dyad.ofInt (s.rdI P.StayAsymmetry port 32)) ∧ 0 ≤ d.num ∧ d.le ((mean.mul ⟨2, 0⟩).add ⟨1000, 0⟩) = true →
    Completes (.delayRespReceived port msg) s fun t => t.halyard.pathDelay = some (mean.add ((d.sub mean).shr 4)) ∧
    (t.stayPtp port).delayReq = none ∧ t.halyard.acc = s.halyard.acc ∧
    Frame [] [(P.StayMeanPathDelay, 0)] [.time] s t) ∧
  (∀ (s : State) (port : Fin 4) (msg : AnnounceMsg), s.ptpPort port msg.domain = true ∧ s.timeState ≠ Ts.local ∧
    ((s.stayPtp port).foreign = none ∨ ∃ g, (s.stayPtp port).foreign = some g ∧ g.source = msg.source) →
    Completes (.announceReceived port msg) s fun t =>
    (t.stayPtp port).foreign = some ⟨msg.source, msg.dataset, msg.addr, msg.mac⟩ ∧ t.halyard.acc = s.halyard.acc ∧
    t.timeState = s.timeState ∧ Frame [] [(P.SlavePort, 0)] [.time] s t) ∧
  (∀ (s : State) (port : Fin 4) (stamp : T32) (frac : Byte), (s.stayPtp port).master = true ∧
    s.bit P.StayPtpEnable 0 port = true ∧ s.stayActive = true ∧ s.stepDone = false ∧ s.timeState ≠ Ts.local →
    Completes (.stayMasterSyncInterval port stamp frac) s fun t =>
    (t.stayPtp port).syncSeq = (s.stayPtp port).syncSeq + 1 ∧
    (t.stayPtp port).announceSeq = (s.stayPtp port).announceSeq + 1 ∧ t.halyard.acc = s.halyard.acc ∧
    Frame egressParams [] [.time, .stay, .sheet, .wdp] s t) ∧
  (∀ (s : State) (port : Fin 4) (stamp : T32) (frac : Byte), (s.stayPtp port).master = false ∨ s.bit P.StayPtpEnable 0
    port = false ∨ s.timeState = Ts.local → Completes (.stayMasterSyncInterval port stamp frac) s fun t =>
    Frame [] [] [] s t)

/-- The write of element 03 of P2053 makes the seed the grid's next boundary with the rate and lead written by then,
and validates the grid. A boundary moves the grid by one frame: the quotient and remainder of the period advance, the
index grows by one, and frames due at the passed boundary leave the queue. A latch takes the next frame whose
successor's latch still lies ahead: it becomes ShowFrameIndex, waits in the queue with its T, and is the frame
rendered; a grid that latches none does nothing. Beyond the cited rules it rests on the model's own choices: log
entries 75, 78, 205. Rules: R18, R126, R127, R128, R130. -/
def Obligations.GridSeedAndLatch : Prop :=
  (∀ (s : State) (rq : Requester) (rem : Word), s.grants rq P.GridSeed 3 rem.toNat = true ∧ s.cue.kernel = [] ∧
    s.cue.ramps = [] ∧ s.content = [] ∧ s.blobWrites = [] → Completes (.gridSeed rq rem) s fun t =>
    t.wdp.answer = ⟨0, []⟩ ∧ t.halyard.grid.index = s.rdN P.GridSeed 1 * 2 ^ 32 + s.rdN P.GridSeed 0 ∧
    t.halyard.grid.t = (s.rd P.GridSeed 2).setWidth 32 ∧ t.halyard.grid.r = rem.toNat ∧
    t.halyard.grid.rate = s.rdN P.ShowFrameRate 0 ∧ t.halyard.grid.lead = s.rdN P.Lead 0 ∧
    t.halyard.grid.queued = s.halyard.grid.queued ∧ t.rdN P.GridSeed 3 = rem.toNat ∧
    t.rd P.NextBoundary 0 = (t.halyard.grid.t).setWidth 64 ∧ t.seeded = true ∧
    t.lv P.ShowFrameRate 0 = s.rd P.ShowFrameRate 0 ∧ t.lv P.BlankPermille 0 = s.rd P.BlankPermille 0 ∧
    t.halyard.rest = s.halyard.rest) ∧
  (∀ (s : State), s.seeded = true ∧ s.now.driven.contains 1 = false → Completes (.gridBoundary) s fun t =>
    t.halyard.grid = { s.halyard.grid with index := s.halyard.grid.index + 1, t := s.halyard.grid.t + BitVec.ofNat 32
                                             (rateA s.halyard.grid.rate / rateN s.halyard.grid.rate + (if rateN
                                             s.halyard.grid.rate ≤ s.halyard.grid.r + rateA s.halyard.grid.rate %
                                             rateN s.halyard.grid.rate then 1 else 0)), r := s.halyard.grid.r + rateA
                                             s.halyard.grid.rate % rateN s.halyard.grid.rate - (if rateN
                                             s.halyard.grid.rate ≤ s.halyard.grid.r + rateA s.halyard.grid.rate %
                                             rateN s.halyard.grid.rate then rateN s.halyard.grid.rate else 0), queued
                                             := s.halyard.grid.queued.filter (fun q => future q.time s.halyard.grid.t)
                                             } ∧ t.rd P.NextBoundary 0 = (t.halyard.grid.t).setWidth 64 ∧
    Frame [] [(P.NextBoundary, 0)] [.grid] s t) ∧
  (∀ (s : State), s.seeded = false ∨ s.now.driven.contains 1 = true → Completes (.gridBoundary) s fun t =>
    Frame [] [] [] s t) ∧
  (∀ (s : State) (k : Nat), s.latches = true ∧ s.now.driven.contains 2 = false ∧
    k = s.latchIndex 4096 s.halyard.grid.nextLatch ∧ s.cue.ramps = [] ∧ s.twin.waiting = [] ∧ s.twin.verified = [] →
    Completes (.latch) s fun t => t.halyard.grid.nextLatch = k + 1 ∧ t.halyard.grid.highest = some k ∧
    t.halyard.grid.queued = s.halyard.grid.queued ++ [{ index := k, time := s.frameTime k }] ∧
    t.halyard.grid.t = s.halyard.grid.t ∧ t.halyard.grid.index = s.halyard.grid.index ∧
    t.rd P.ShowFrameIndex 0 = BitVec.ofNat 64 k ∧ t.render.frame = some k ∧
    (∀ c ∈ t.sheet.contexts.take 1, c.frame = k ∧ c.live = t.live ∧ c.blobs = t.blobs) ∧
    t.content = s.content.filter (fun w => !frameDue k w.frame) ∧ t.halyard.acc = s.halyard.acc) ∧
  (∀ (s : State), s.latches = false ∨ s.now.driven.contains 2 = true → Completes (.latch) s fun t =>
    Frame [] [] [] s t)

/-- An armed one-shot comparator that fires sets Fired and loses Armed; a periodic one adds its period to its target
and stays armed. A destination of 10h to 1Fh drives its Capstan event. TRG0 to TRG3 set Fired on the seeded grid: TRG0
takes the boundary and TRG1 latches the frame, once in a clock, and a unit whose own command has told of the event
does not act again. While StepDone is set the firing is held, with the Fired bits as they were. A comparator that is
not armed or not enabled does not fire. A target or period written to an enabled comparator arms it, and a target
still ahead waits. Beyond the cited rules it rests on the model's own choices: log entries 79, 80, 81, 82, 201. Rules:
R138, R139, R140, R141. -/
def Obligations.TriggerComparators : Prop :=
  (∀ (s : State) (trigger : Fin 16) (ntc die : Half), s.halyard.drives = [] ∧ 4 ≤ trigger.val ∧ s.timeRuns = true ∧
    s.trigEnabled trigger = true ∧ s.bit P.TriggerControl trigger 1 = true ∧
    s.now.written.contains trigger.val = false ∧ s.stepDone = false ∧ s.trigMode trigger = 1 ∧
    s.fld P.TriggerControl trigger 16 8 = 0 → Completes (.triggerFire trigger ntc die) s fun t =>
    t.bit P.TriggerControl trigger 7 = true ∧ t.bit P.TriggerControl trigger 1 = false ∧
    t.fld P.TriggerControl trigger 16 8 = 0 ∧ t.rd P.TriggerTarget trigger = s.rd P.TriggerTarget trigger ∧
    Frame [] [(P.TriggerControl, trigger.val)] [] s t) ∧
  (∀ (s : State) (trigger : Fin 16) (ntc die : Half), s.halyard.drives = [] ∧ 4 ≤ trigger.val ∧ s.timeRuns = true ∧
    s.trigEnabled trigger = true ∧ s.bit P.TriggerControl trigger 1 = true ∧ s.stepDone = false ∧
    s.trigMode trigger = 2 ∧ s.fld P.TriggerControl trigger 16 8 = 0 →
    Completes (.triggerFire trigger ntc die) s fun t => t.bit P.TriggerControl trigger 7 = true ∧
    t.bit P.TriggerControl trigger 1 = true ∧
    t.rd P.TriggerTarget trigger = ((s.rd P.TriggerTarget trigger).setWidth 32 +
    (s.rd P.TriggerPeriod trigger).setWidth 32 : T32).setWidth 64 ∧
    Frame [] [(P.TriggerControl, trigger.val), (P.TriggerTarget, trigger.val)] [] s t) ∧
  (∀ (s : State) (trigger : Fin 16) (ntc die : Half) (code : Nat), s.halyard.drives = [] ∧ 4 ≤ trigger.val ∧
    s.timeRuns = true ∧ s.trigEnabled trigger = true ∧ s.bit P.TriggerControl trigger 1 = true ∧
    s.now.written.contains trigger.val = false ∧ s.now.cancelled = [] ∧ s.stepDone = false ∧ s.trigMode trigger = 1 ∧
    code < 16 ∧ s.unitsStopped = false ∧ s.fld P.TriggerControl trigger 16 8 = 16 + code ∧
    (∀ n < 256, (s.thread n).cancelPending = false) → Completes (.triggerFire trigger ntc die) s fun t =>
    t.bit P.TriggerControl trigger 7 = true ∧ t.bit P.TriggerControl trigger 1 = false ∧
    (∀ n < 256, (s.thread n).event = BitVec.ofNat 8 code → (s.thread n).state = .dormant →
    (t.thread n).state ≠ .dormant)) ∧
  (∀ (s : State) (trigger : Fin 16) (ntc die : Half), trigger.val < 4 ∧ s.seeded = true ∧ s.timeRuns = true ∧
    s.stepDone = false ∧ s.unitsStopped = false ∧ s.halyard.drives = [] ∧
    s.now.told.contains (trigger.val + 1) = true → Completes (.triggerFire trigger ntc die) s fun t =>
    t.bit P.TriggerControl trigger 7 = true ∧ Frame [] [(P.TriggerControl, trigger.val)] [.time] s t) ∧
  (∀ (s : State) (ntc die : Half), s.seeded = true ∧ s.timeRuns = true ∧ s.stepDone = false ∧ s.unitsStopped = false ∧
    s.halyard.drives = [] ∧ s.now.told.contains 1 = false ∧ s.now.driven.contains 1 = false →
    Completes (.triggerFire 0 ntc die) s fun t => t.bit P.TriggerControl 0 7 = true ∧
    t.halyard.grid.index = s.halyard.grid.index + 1 ∧ t.now.driven.contains 1 = true ∧
    Frame [] [(P.TriggerControl, 0), (P.NextBoundary, 0)] [.grid, .time] s t) ∧
  (∀ (s : State) (ntc die : Half) (k : Nat), s.seeded = true ∧ s.timeRuns = true ∧ s.stepDone = false ∧
    s.unitsStopped = false ∧ s.halyard.drives = [] ∧ s.now.told.contains 2 = false ∧ s.now.driven.contains 2 = false ∧
    s.latches = true ∧ k = s.latchIndex 4096 s.halyard.grid.nextLatch → Completes (.triggerFire 1 ntc die) s fun t =>
    t.bit P.TriggerControl 1 7 = true ∧ t.halyard.grid.highest = some k ∧
    t.rd P.ShowFrameIndex 0 = BitVec.ofNat 64 k ∧ t.now.driven.contains 2 = true) ∧
  (∀ (s : State) (trigger : Fin 16) (ntc die : Half), s.triggerLive trigger = true ∧ s.stepDone = true ∧
    s.halyard.drives = [] → Completes (.triggerFire trigger ntc die) s fun t =>
    SMap.get 0 t.halyard.heldFirings trigger = SMap.get 0 s.halyard.heldFirings trigger + 1 ∧
    t.rd P.TriggerControl trigger = s.rd P.TriggerControl trigger ∧
    Frame [] [(P.TriggerTarget, trigger.val)] [.time] s t) ∧
  (∀ (s : State) (trigger : Fin 16) (ntc die : Half), 4 ≤ trigger.val ∧
    (s.trigEnabled trigger = false ∨ s.trigMode trigger = 0 ∨ s.bit P.TriggerControl trigger 1 = false) →
    Completes (.triggerFire trigger ntc die) s fun t => Frame [] [] [] s t) ∧
  (∀ (s : State) (rq : Requester) (trigger : Fin 16) (value : Word), s.grants rq P.TriggerTarget trigger value.toNat =
    true ∧ s.trigEnabled trigger = true ∧ (s.trigMode trigger = 1 ∨ s.trigMode trigger = 2) ∧
    due value s.tns = false ∧ s.now.fired.contains trigger.val = false →
    Completes (.triggerTargetWrite rq false trigger value) s fun t => t.wdp.answer = ⟨0, []⟩ ∧
    t.rd P.TriggerTarget trigger = value.setWidth 64 ∧ t.bit P.TriggerControl trigger 1 = true ∧
    t.bit P.TriggerControl trigger 7 = s.bit P.TriggerControl trigger 7 ∧
    Frame [] [(P.TriggerTarget, trigger.val), (P.TriggerControl, trigger.val)] [.answer] s t) ∧
  (∀ (s : State) (rq : Requester) (period : Bool) (trigger : Fin 16) (value : Word), s.grants rq
    (if period then P.TriggerPeriod else P.TriggerTarget) trigger value.toNat = true ∧
    (period = true ∨ s.trigEnabled trigger = false ∨ s.trigMode trigger = 0) →
    Completes (.triggerTargetWrite rq period trigger value) s fun t => t.wdp.answer = ⟨0, []⟩ ∧
    t.rd (if period then P.TriggerPeriod else P.TriggerTarget) trigger = value.setWidth 64 ∧
    Frame [] [(if period then P.TriggerPeriod else P.TriggerTarget, trigger.val)] [.answer] s t)

/-- On an enabled port of a deciding unit with a time to give, the Sync interval sends the next Sync and Announce. The
peer-delay interval sends the next Pdelay_Req and gives up the one in flight. A Pdelay_Req of another domain leaves
nothing behind. A completed exchange whose link delay was unassumed or lies within 100 ns of the one shown sets
LinkDelay from its measurement. Nothing of another port changes. Beyond the cited rules it rests on the model's own
choices: log entry 83. Rules: R133, R135. -/
def Obligations.ShroudPortPtp : Prop :=
  (∀ (s : State) (port : Fin 64) (stamp : T32) (frac : Byte), s.portsRun = true ∧ s.commands = true ∧
    s.shroudEnabled port = true ∧ s.timeState ≠ Ts.unset ∧ s.stepDone = false →
    Completes (.ptpSyncInterval port stamp frac) s fun t =>
    (t.shroudPtp port).syncSeq = (s.shroudPtp port).syncSeq + 1 ∧
    (t.shroudPtp port).announceSeq = (s.shroudPtp port).announceSeq + 1 ∧ t.halyard.acc = s.halyard.acc ∧
    (∀ q < 64, q ≠ port.val → t.port q = s.port q ∧ t.shroudPtp q = s.shroudPtp q) ∧
    Frame egressParams [] [.time, .ports, .sheet, .wdp] s t) ∧
  (∀ (s : State) (port : Fin 64) (stamp : T32) (frac : Byte), s.commands = false ∨ s.shroudEnabled port = false ∨
    s.timeState = Ts.unset ∨ s.stepDone = true → Completes (.ptpSyncInterval port stamp frac) s fun t =>
    Frame [] [] [] s t) ∧
  (∀ (s : State) (port : Fin 64) (stamp : T32) (frac : Byte), s.portsRun = true ∧ s.shroudEnabled port = true →
    Completes (.pdelayInterval port stamp frac) s fun t =>
    (t.shroudPtp port).pdelaySeq = (s.shroudPtp port).pdelaySeq + 1 ∧
    (∀ r ∈ (t.shroudPtp port).pdelayReq, r = ((s.shroudPtp port).pdelaySeq, s.stampFull stamp (stampFrac frac))) ∧
    (s.shroudUp port = true → (s.port port).time.length < 8 → (s.egressQ port).length < 64 →
    (t.shroudPtp port).pdelayReq.isSome = true) ∧ t.halyard.acc = s.halyard.acc ∧
    (∀ q < 64, q ≠ port.val → t.port q = s.port q ∧ t.shroudPtp q = s.shroudPtp q) ∧
    Frame egressParams [] [.time, .ports, .sheet, .wdp] s t) ∧
  (∀ (s : State) (port : Fin 64) (head : PtpHead) (stamp : T32) (frac : Byte) (sentAt : T32) (sentFrac : Byte),
    s.portsRun = true ∧ s.shroudUp port = true ∧ head.domain ≠ s.domain ∧ (s.ingressQ port).length < 64 →
    Completes (.pdelayReqReceived port head stamp frac sentAt sentFrac) s fun t => t.ingressQ port = s.ingressQ port ∧
    t.halyard.acc = s.halyard.acc ∧ Frame [] [] [.time] s t) ∧
  (∀ (s : State) (port : Fin 64) (head : PtpHead) (stamp : T32) (frac : Byte) (sentAt : T32) (sentFrac : Byte),
    s.portsRun = true ∧ s.shroudUp port = true ∧ head.domain = s.domain →
    Completes (.pdelayReqReceived port head stamp frac sentAt sentFrac) s fun t => t.ingressQ port = s.ingressQ port ∧
    t.halyard.acc = s.halyard.acc ∧ (∀ q < 64, q ≠ port.val → t.port q = s.port q ∧ t.shroudPtp q = s.shroudPtp q) ∧
    Frame (P.StampIngressOverflowCount :: egressParams) [] [.time, .ports, .sheet, .wdp] s t) ∧
  (∀ (s : State) (port : Fin 64) (m : PdelayRespMsg) (t1 d : Int), s.portsRun = true ∧ s.shroudUp port = true ∧
    (s.ingressQ port).length < 64 ∧ (s.shroudPtp port).pdelayReq = some (m.seq, t1) ∧ m.domain = s.domain ∧
    d = s.stampFull m.stamp (stampFrac m.frac) - t1 - m.turnaround ∧ 0 ≤ d ∧
    (s.rdN P.LinkDelay port = 0xFFFFFFFF ∨ apart d ((s.rdN P.LinkDelay port : Int) * 131072) < 100 * 131072) →
    Completes (.pdelayRespReceived port m) s fun t => (t.shroudPtp port).pdelayReq = none ∧
    (t.shroudPtp port).refused = [] ∧
    t.rd P.LinkDelay port = ofIntW 32 (Dyad.shown (Dict.key P.LinkDelay port) ⟨d, 17⟩) ∧
    t.ingressQ port = s.ingressQ port ∧ t.halyard.acc = s.halyard.acc ∧
    (∀ q < 64, q ≠ port.val → t.port q = s.port q ∧ t.shroudPtp q = s.shroudPtp q) ∧
    Frame [] [(P.LinkDelay, port.val)] [.time] s t)

/-- An inserted module sets Present and a removed one clears it and takes the link down; the read page is held while a
module is present. A transmit fault sets TxFault, counts and holds TX_DISABLE; after the retry the check clears
TxFault or locks the transmitter out. A fault takes the link down, which counts when it was up. A link comes up on an
enabled port with a module, lock and no lockout, with FEC as configured at 25 Gb/s. In Furled and Struck the module's
pins are not read. Beyond the cited rules it rests on the model's own choices: log entry 87. Rules: R144, R145. -/
def Obligations.StayModulesAndLinks : Prop :=
  (∀ (s : State) (port : Fin 4), s.sidebandRead = true → Completes (.moduleInserted port) s fun t =>
    (∀ i < 64, t.bit P.StayStatus port i = (s.bit P.StayStatus port i || i == 1)) ∧
    Frame [] [(P.StayStatus, port.val)] [] s t) ∧
  (∀ (s : State) (port : Fin 4), s.sidebandRead = false → Completes (.moduleInserted port) s fun t =>
    Frame [] [] [] s t) ∧
  (∀ (s : State) (port : Fin 4) (page : List Byte), s.pinColumn = .run ∧ s.bit P.StayStatus port 1 = true →
    Completes (.moduleIdRead port page) s fun t => t.blob (P.ModuleId0 + port.val) = page.take 96 ∧
    Frame [] [] [.bodies] s t ∧ (∀ p, p ≠ P.ModuleId0 + port.val → t.blob p = s.blob p)) ∧
  (∀ (s : State) (port : Fin 4), s.sidebandRead = true → Completes (.moduleRemoved port) s fun t =>
    (∀ i < 64, t.bit P.StayStatus port i = (s.bit P.StayStatus port i && i != 0 && i != 1 && i != 4)) ∧
    (s.rdN P.LinkDownCount_P302C port < 2 ^ 32 →
    t.rdN P.LinkDownCount_P302C port = if s.stayUp port then min 0xFFFFFFFF (s.rdN P.LinkDownCount_P302C port + 1)
    else s.rdN P.LinkDownCount_P302C port) ∧
    Frame [] [(P.StayStatus, port.val), (P.LinkDownCount_P302C, port.val)] [.wdp] s t) ∧
  (∀ (s : State) (port : Fin 4), s.sidebandRead = true → Completes (.txFaultRise port) s fun t =>
    (∀ i < 64, t.bit P.StayStatus port i = (s.bit P.StayStatus port i || i == 3)) ∧
    t.stayPort port = { s.stayPort port with faultStage := 1 } ∧
    (s.rdN P.TxFaultCount port < 2 ^ 32 → t.rdN P.TxFaultCount port = min 0xFFFFFFFF (s.rdN P.TxFaultCount port + 1))
    ∧ t.txDisable port = true ∧ (∀ q < 4, q ≠ port.val → t.stayPort q = s.stayPort q) ∧
    Frame [] [(P.StayStatus, port.val), (P.TxFaultCount, port.val)] [.wdp, .stay] s t) ∧
  (∀ (s : State) (port : Fin 4), s.sidebandRead = false → Completes (.txFaultRise port) s fun t => Frame [] [] [] s t) ∧
  (∀ (s : State) (port : Fin 4), (s.stayPort port).faultStage = 1 → Completes (.txFaultRetry port) s fun t =>
    t.stayPort port = { s.stayPort port with faultStage := 2 } ∧
    (∀ q < 4, q ≠ port.val → t.stayPort q = s.stayPort q) ∧ Frame [] [] [.stay] s t) ∧
  (∀ (s : State) (port : Fin 4) (high : Bool), (s.stayPort port).faultStage = 2 ∧ s.sidebandRead = true →
    Completes (.txFaultCheck port high) s fun t =>
    (∀ i < 64, t.bit P.StayStatus port i =
    ((s.bit P.StayStatus port i || (high && (i == 3 || i == 5))) && (high || i != 3))) ∧
    t.stayPort port = { s.stayPort port with faultStage := 0 } ∧
    (∀ q < 4, q ≠ port.val → t.stayPort q = s.stayPort q) ∧ Frame [] [(P.StayStatus, port.val)] [.stay] s t) ∧
  (∀ (s : State) (port : Fin 4) (los : Bool), s.sidebandRead = true → Completes (.stayLinkFault port los) s fun t =>
    (∀ i < 64, t.bit P.StayStatus port i = ((s.bit P.StayStatus port i || (los && i == 2)) && i != 0 && i != 4)) ∧
    (s.rdN P.LinkDownCount_P302C port < 2 ^ 32 →
    t.rdN P.LinkDownCount_P302C port = if s.stayUp port then min 0xFFFFFFFF (s.rdN P.LinkDownCount_P302C port + 1)
    else s.rdN P.LinkDownCount_P302C port) ∧
    Frame [] [(P.StayStatus, port.val), (P.LinkDownCount_P302C, port.val)] [.wdp] s t) ∧
  (∀ (s : State) (port : Fin 4) (los : Bool), s.sidebandRead = false → Completes (.stayLinkFault port los) s fun t =>
    Frame [] [] [] s t) ∧
  (∀ (s : State) (port : Fin 4), s.stayActive = true ∧ s.stayEnabled port = true ∧ s.bit P.StayStatus port 1 = true ∧
    s.spllLocked port = true ∧ s.bit P.StayStatus port 5 = false → Completes (.stayLinkUp port) s fun t =>
    (∀ i < 64, t.bit P.StayStatus port i = ((s.bit P.StayStatus port i || i == 0 ||
    (i == 4 && s.bit P.StayControl port 2 && s.bit P.StayControl port 1)) && i != 2 &&
    (i != 4 || (s.bit P.StayControl port 2 && s.bit P.StayControl port 1)))) ∧
    (∀ q < 4, q ≠ port.val → t.stayPort q = s.stayPort q) ∧
    Frame egressParams [(P.StayStatus, port.val)] [.stay, .sheet, .wdp] s t) ∧
  (∀ (s : State) (port : Fin 4), s.stayEnabled port = false ∨ s.bit P.StayStatus port 1 = false ∨ s.spllLocked port =
    false ∨ s.bit P.StayStatus port 5 = true → Completes (.stayLinkUp port) s fun t => Frame [] [] [] s t)

/-- On an active port with its link up, a runt, an oversize frame and one with a bad FCS each count in their own
counter, in that order, and are gone. An accepted frame counts with its bytes; one that Table 7.3 names no consumer
for, or that has stacked tags, counts as unclassified; one for a buffering consumer is held in the receive buffer in
arrival order if it fits, and counts as an overflow if it does not. The PHY's corrections of the frame count in P3029
and P302A. On a port that is not active nothing happens. Beyond the cited rules it rests on the model's own choices:
log entries 62, 66, 186. Rules: R147, R148, R149, R150. -/
def Obligations.StayFrameReception : Prop :=
  (∀ (s : State) (port : Fin 4) (f : RxFrame), s.stayActive = true ∧ s.stayEnabled port = true ∧
    s.stayUp port = true ∧ f.len < 64 → Completes (.stayFrameReceived port f) s fun t =>
    (s.rdN P.RxRuntCount_P3024 port < 0xFFFFFFFE →
    t.rdN P.RxRuntCount_P3024 port = s.rdN P.RxRuntCount_P3024 port + 1) ∧
    Frame [] [(P.FecCorrectedCount, port.val), (P.FecUncorrectedCount, port.val), (P.RxRuntCount_P3024, port.val)]
    [.wdp] s t) ∧
  (∀ (s : State) (port : Fin 4) (f : RxFrame), s.stayActive = true ∧ s.stayEnabled port = true ∧
    s.stayUp port = true ∧ 64 ≤ f.len ∧ s.rdN P.StayMaxFrame port < f.len →
    Completes (.stayFrameReceived port f) s fun t =>
    (s.rdN P.RxOversizeCount_P3025 port < 0xFFFFFFFE →
    t.rdN P.RxOversizeCount_P3025 port = s.rdN P.RxOversizeCount_P3025 port + 1) ∧
    Frame [] [(P.FecCorrectedCount, port.val), (P.FecUncorrectedCount, port.val), (P.RxOversizeCount_P3025, port.val)]
    [.wdp] s t) ∧
  (∀ (s : State) (port : Fin 4) (f : RxFrame), s.stayActive = true ∧ s.stayEnabled port = true ∧
    s.stayUp port = true ∧ 64 ≤ f.len ∧ f.len ≤ s.rdN P.StayMaxFrame port ∧ f.fcsOk = false →
    Completes (.stayFrameReceived port f) s fun t =>
    (s.rdN P.RxFcsErrorCount_P3026 port < 0xFFFFFFFE →
    t.rdN P.RxFcsErrorCount_P3026 port = s.rdN P.RxFcsErrorCount_P3026 port + 1) ∧
    Frame [] [(P.FecCorrectedCount, port.val), (P.FecUncorrectedCount, port.val), (P.RxFcsErrorCount_P3026, port.val)]
    [.wdp] s t) ∧
  (∀ (s : State) (port : Fin 4) (f : RxFrame), s.stayActive = true ∧ s.stayEnabled port = true ∧
    s.stayUp port = true ∧ 64 ≤ f.len ∧ f.len ≤ s.rdN P.StayMaxFrame port ∧ f.fcsOk = true ∧ s.accepts port f = true ∧
    (f.stacked = true ∨ (s.vlanOk port f = true ∧ s.classify port f = .unclassified)) ∧
    (s.stayPort port).rxUsed + f.len ≤ rxBufferSize → Completes (.stayFrameReceived port f) s fun t =>
    t.rd P.RxFrameCount_P3020 port = s.rd P.RxFrameCount_P3020 port + 1 ∧
    t.rd P.RxByteCount_P3021 port = s.rd P.RxByteCount_P3021 port + BitVec.ofNat 64 f.len ∧
    (s.rdN P.RxUnclassifiedCount_P3028 port < 0xFFFFFFFE →
    t.rdN P.RxUnclassifiedCount_P3028 port = s.rdN P.RxUnclassifiedCount_P3028 port + 1) ∧
    Frame [] [(P.FecCorrectedCount, port.val), (P.FecUncorrectedCount, port.val), (P.RxFrameCount_P3020, port.val),
    (P.RxByteCount_P3021, port.val), (P.RxUnclassifiedCount_P3028, port.val)] [.wdp] s t) ∧
  (∀ (s : State) (port : Fin 4) (f : RxFrame) (d : RxDest), s.stayActive = true ∧ s.stayEnabled port = true ∧
    s.stayUp port = true ∧ 64 ≤ f.len ∧ f.len ≤ s.rdN P.StayMaxFrame port ∧ f.fcsOk = true ∧ s.accepts port f = true ∧
    s.vlanOk port f = true ∧ s.classify port f = .held d ∧ (s.stayPort port).rxUsed + f.len ≤ rxBufferSize →
    Completes (.stayFrameReceived port f) s fun t =>
    t.rd P.RxFrameCount_P3020 port = s.rd P.RxFrameCount_P3020 port + 1 ∧
    t.rd P.RxByteCount_P3021 port = s.rd P.RxByteCount_P3021 port + BitVec.ofNat 64 f.len ∧
    t.stayPort port = { s.stayPort port with rxHeld := (s.stayPort port).rxHeld ++ [(d, f.len)] } ∧
    (∀ q < 4, q ≠ port.val → t.stayPort q = s.stayPort q) ∧
    Frame [] [(P.FecCorrectedCount, port.val), (P.FecUncorrectedCount, port.val), (P.RxFrameCount_P3020, port.val),
    (P.RxByteCount_P3021, port.val)] [.stay] s t) ∧
  (∀ (s : State) (port : Fin 4) (f : RxFrame) (d : RxDest), s.stayActive = true ∧ s.stayEnabled port = true ∧
    s.stayUp port = true ∧ 64 ≤ f.len ∧ f.len ≤ s.rdN P.StayMaxFrame port ∧ f.fcsOk = true ∧ s.accepts port f = true ∧
    s.vlanOk port f = true ∧ s.classify port f = .held d ∧ rxBufferSize < (s.stayPort port).rxUsed + f.len →
    Completes (.stayFrameReceived port f) s fun t =>
    t.rd P.RxFrameCount_P3020 port = s.rd P.RxFrameCount_P3020 port + 1 ∧
    t.rd P.RxByteCount_P3021 port = s.rd P.RxByteCount_P3021 port + BitVec.ofNat 64 f.len ∧
    (s.rdN P.RxOverflowCount_P3027 port < 0xFFFFFFFE →
    t.rdN P.RxOverflowCount_P3027 port = s.rdN P.RxOverflowCount_P3027 port + 1) ∧
    Frame [] [(P.FecCorrectedCount, port.val), (P.FecUncorrectedCount, port.val), (P.RxFrameCount_P3020, port.val),
    (P.RxByteCount_P3021, port.val), (P.RxOverflowCount_P3027, port.val)] [.wdp] s t) ∧
  (∀ (s : State) (port : Fin 4) (f : RxFrame), s.stayActive = false ∨ s.stayEnabled port = false ∨ s.stayUp port =
    false → Completes (.stayFrameReceived port f) s fun t => Frame [] [] [] s t)

/-- A packet of an enabled stream whose sequence was seen, or that is held, counts as a duplicate and places nothing.
One that follows the highest is released and placed. One ahead of a gap is held. A packet of another payload type
counts as a format error. Of two copies in one clock leg A's is the one taken, whichever is told first. When the
oldest held packet has waited its time the missing ones count as lost. A stream that is being enabled starts afresh;
one whose ring is in use refuses another setting. Beyond the cited rules it rests on the model's own choices: log
entries 88, 90, 186. Rules: R153, R160, R155. -/
def Obligations.VideoIngest : Prop :=
  (∀ (s : State) (n : Fin 8) (leg : Fin 2) (p : RtpPacket) (h : Word), s.bit P.StreamControl n 0 = true ∧
    (leg = 0 ∨ s.bit P.StreamControl n 1 = true) ∧ p.payloadType.setWidth 64 = s.rd P.StreamPayloadType n ∧
    (s.vid n).highest = some h ∧
    (p.seq = h ∨ (1 ≤ (h - p.seq).toNat ∧ (h - p.seq).toNat ≤ 32767 ∧ (h - p.seq).toNat < (s.vid n).seenCount)) ∧
    s.now.first.find? (fun x => x.1 == n.val && x.2.1 != leg.val && x.2.2.1 == p.seq) = none →
    Completes (.rtpPacket n leg p) s fun t =>
    (s.rdN P.DuplicateCount_P3121 n < 0xFFFFFFFE →
    t.rdN P.DuplicateCount_P3121 n = s.rdN P.DuplicateCount_P3121 n + 1) ∧ (t.vid n).ring = (s.vid n).ring ∧
    (t.vid n).held = (s.vid n).held ∧ (t.vid n).highest = some h ∧ (∀ m < 8, m ≠ n.val → t.vid m = s.vid m) ∧
    t.dram = s.dram ∧ Frame [] [(P.DuplicateCount_P3121, n.val)] [.video, .stay, .wdp] s t) ∧
  (∀ (s : State) (n : Fin 8) (leg : Fin 2) (p : RtpPacket) (h : Word), s.bit P.StreamControl n 0 = true ∧
    (leg = 0 ∨ s.bit P.StreamControl n 1 = true) ∧ p.payloadType.setWidth 64 = s.rd P.StreamPayloadType n ∧
    (s.vid n).highest = some h ∧ 2 ≤ (p.seq - h).toNat ∧ (p.seq - h).toNat < 2 ^ 31 ∧
    (∀ q ∈ (s.vid n).held, q.seq ≠ p.seq ∧ q.seq ≠ h + 1) ∧
    s.now.first.find? (fun x => x.1 == n.val && x.2.1 != leg.val && x.2.2.1 == p.seq) = none ∧
    s.reorderUsed + packetBytes p ≤ reorderSize → Completes (.rtpPacket n leg p) s fun t =>
    (t.vid n).highest = some h ∧ (t.vid n).held = (s.vid n).held ++ [p] ∧ (t.vid n).late = 0 ∧
    (t.vid n).ring = (s.vid n).ring ∧ (∀ m < 8, m ≠ n.val → t.vid m = s.vid m) ∧ t.dram = s.dram ∧
    Frame [] [(P.LegFirstCount, 2 * n.val + leg.val)] [.video, .stay] s t) ∧
  (∀ (s : State) (n : Fin 8) (leg : Fin 2) (p : RtpPacket), s.bit P.StreamControl n 0 = true ∧
    (leg = 0 ∨ s.bit P.StreamControl n 1 = true) ∧ p.payloadType.setWidth 64 = s.rd P.StreamPayloadType n ∧
    (s.vid n).highest = some (p.seq - 1) ∧ (s.vid n).held = [] ∧
    s.now.first.find? (fun x => x.1 == n.val && x.2.1 != leg.val && x.2.2.1 == p.seq) = none →
    Completes (.rtpPacket n leg p) s fun t => (t.vid n).highest = some p.seq ∧ (t.vid n).held = [] ∧
    t.rd P.StreamPacketCount n = s.rd P.StreamPacketCount n + 1 ∧ (∀ m < 8, m ≠ n.val → t.vid m = s.vid m) ∧
    t.sram = s.sram ∧
    Frame [P.DuplicateCount_P3121, P.LatePacketCount, P.ResyncCount_P3128, P.LegFirstCount, P.StreamPacketCount,
    P.FormatErrorCount, P.CompleteFrameCount, P.IncompleteFrameCount, P.LostPacketCount] []
    [.video, .stay, .memory, .wdp] s t) ∧
  (∀ (s : State) (n : Fin 8) (leg : Fin 2) (p : RtpPacket), s.bit P.StreamControl n 0 = true ∧
    (leg = 0 ∨ s.bit P.StreamControl n 1 = true) ∧ p.payloadType.setWidth 64 ≠ s.rd P.StreamPayloadType n →
    Completes (.rtpPacket n leg p) s fun t =>
    (s.rdN P.FormatErrorCount n < 0xFFFFFFFE → t.rdN P.FormatErrorCount n = s.rdN P.FormatErrorCount n + 1) ∧
    Frame [] [(P.FormatErrorCount, n.val)] [.stay, .wdp] s t) ∧
  (∀ (s : State) (n : Fin 8) (p : RtpPacket) (before : Option Nat), s.bit P.StreamControl n 0 = true ∧
    p.payloadType.setWidth 64 = s.rd P.StreamPayloadType n ∧
    s.now.first.find? (fun x => x.1 == n.val && x.2.1 != 0 && x.2.2.1 == p.seq) = some (n.val, 1, p.seq, before) →
    Completes (.rtpPacket n 0 p) s fun t => t.rd P.LegFirstCount (2 * n.val) = s.rd P.LegFirstCount (2 * n.val) + 1 ∧
    t.rd P.LegFirstCount (2 * n.val + 1) = s.rd P.LegFirstCount (2 * n.val + 1) - 1 ∧
    (t.vid n).ring = (s.vid n).ring ∧ (t.vid n).held = (s.vid n).held ∧ (t.vid n).highest = (s.vid n).highest ∧
    t.dram = s.dram ∧ (∀ m < 8, m ≠ n.val → t.vid m = s.vid m) ∧
    Frame [P.LegFirstCount] [(P.DuplicateCount_P3121, n.val)] [.video, .stay, .wdp] s t) ∧
  (∀ (s : State) (n : Fin 8) (p : RtpPacket) (h : Word), (s.vid n).highest = some h ∧ (s.vid n).held = [p] ∧
    2 ≤ (p.seq - h).toNat → Completes (.mergeHoldExpiry n) s fun t => (t.vid n).highest = some p.seq ∧
    (t.vid n).held = [] ∧
    (s.rdN P.LostPacketCount n + (p.seq - h).toNat < 2 ^ 32 →
    t.rdN P.LostPacketCount n = s.rdN P.LostPacketCount n + ((p.seq - h).toNat - 1)) ∧
    t.rd P.StreamPacketCount n = s.rd P.StreamPacketCount n + 1 ∧ (∀ m < 8, m ≠ n.val → t.vid m = s.vid m) ∧
    Frame [P.DuplicateCount_P3121, P.LatePacketCount, P.ResyncCount_P3128, P.LegFirstCount, P.StreamPacketCount,
    P.FormatErrorCount, P.CompleteFrameCount, P.IncompleteFrameCount, P.LostPacketCount] []
    [.video, .stay, .memory, .wdp] s t) ∧
  (∀ (s : State) (n : Fin 8), (s.vid n).held = [] → Completes (.mergeHoldExpiry n) s fun t => Frame [] [] [] s t) ∧
  (∀ (s : State) (rq : Requester) (n : Fin 8) (value : Word), s.grants rq P.StreamControl n value.toNat = true ∧
    s.bit P.StreamControl n 0 = false ∧ value.getLsbD 0 = true ∧ (s.vid n).ring.inUse = false ∧ s.pixelsFit n = true ∧
    s.rd P.StreamControl n < 256 → Completes (.streamControlWrite rq n value) s fun t => t.wdp.answer = ⟨0, []⟩ ∧
    t.rd P.StreamControl n = value.setWidth 64 &&& 0xFF ∧
    t.vid n = { Video.init with ring := { Ring.init with inUse := (s.vid n).ring.inUse } } ∧
    (∀ m < 8, m ≠ n.val → t.vid m = s.vid m) ∧
    (∀ m < 64, m ≠ n.val → t.rd P.StreamControl m = s.rd P.StreamControl m) ∧
    Frame [P.SplitWriteCount, P.TxQueueDropCount] [(P.StreamControl, n.val)]
    [.answer, .content, .twin, .video, .wdp, .stay] s t) ∧
  (∀ (s : State) (rq : Requester) (n : Fin 8) (value : Word), s.grants rq P.StreamControl n value.toNat = true ∧
    s.streamBusy n = true ∧ value.toNat / 2 % 128 ≠ s.fld P.StreamControl n 1 7 →
    Completes (.streamControlWrite rq n value) s fun t => t.wdp.answer = ⟨2, []⟩ ∧ t.vid n = s.vid n ∧
    Frame [P.TxQueueDropCount] [] [.answer, .stay] s t)

/-- Of an enabled port, a packet of discovery, preview, another start code or a universe that is not listed counts as
ignored; one of a known source at or less than 20 behind its last sequence counts as discarded. The first packet of a
source adds it, at a priority of at most 200, and without a synchronisation address updates the input state at once. A
synchronisation packet applies what is held for its address, and so do its timeout, once, and the end of its tracking.
A source that times out leaves with what is held from it. A Holding universe with action Zero or Release ends. Beyond
the cited rules it rests on the model's own choices: log entry 93. Rules: R163, R164, R165, R172, R173, R178. -/
def Obligations.SacnIngest : Prop :=
  (∀ (s : State) (port : Fin 4) (p : SacnPacket), s.rdN P.SacnEnable 0 ≠ 0 ∧ s.bit P.SacnPortMask 0 port = true ∧
    (p.discovery = true ∨ p.preview = true ∨ p.startCode ≠ 0 ∨ s.universes.contains p.univ = false) →
    Completes (.sacnDataPacket port p) s fun t =>
    (s.rdN P.SacnIgnoredCount 0 < 0xFFFFFFFE → t.rdN P.SacnIgnoredCount 0 = s.rdN P.SacnIgnoredCount 0 + 1) ∧
    t.sacn = s.sacn ∧ Frame [] [(P.SacnIgnoredCount, 0)] [.stay, .wdp] s t) ∧
  (∀ (s : State) (port : Fin 4) (p : SacnPacket) (x : Source), s.rdN P.SacnEnable 0 ≠ 0 ∧
    s.bit P.SacnPortMask 0 port = true ∧ p.discovery = false ∧ p.preview = false ∧ p.startCode = 0 ∧
    s.universes.contains p.univ = true ∧ s.source p.univ p.cid = some x ∧ sequenceBehind p.seq x.seq = true →
    Completes (.sacnDataPacket port p) s fun t =>
    (s.rdN P.SacnSequenceDiscardCount 0 < 0xFFFFFFFE →
    t.rdN P.SacnSequenceDiscardCount 0 = s.rdN P.SacnSequenceDiscardCount 0 + 1) ∧ t.sacn = s.sacn ∧
    Frame [] [(P.SacnSequenceDiscardCount, 0)] [.stay, .wdp] s t) ∧
  (∀ (s : State) (port : Fin 4) (p : SacnPacket), s.rdN P.SacnEnable 0 ≠ 0 ∧ s.bit P.SacnPortMask 0 port = true ∧
    p.discovery = false ∧ p.preview = false ∧ p.startCode = 0 ∧ s.universes.contains p.univ = true ∧
    s.source p.univ p.cid = none ∧ (s.sacn.sources.filter (fun (y : Source) => y.univ == p.univ)).length < 8 ∧
    s.sacn.sources.length < 65536 ∧ p.terminated = false ∧ p.syncAddr = 0 →
    Completes (.sacnDataPacket port p) s fun t =>
    t.sacn.sources = s.sacn.sources ++ [{ cid := p.cid, univ := p.univ, seq := p.seq, priority := if p.priority > 200
                                            then 200 else p.priority, slots := p.slots, baseline := p.slots, changed
                                            := [], applied := true, isNew := true }] ∧
    t.rd P.SacnPacketCount_P3210 0 = s.rd P.SacnPacketCount_P3210 0 + 1 ∧ t.sacn.tracked = s.sacn.tracked ∧
    Frame [] [(P.SacnPacketCount_P3210, 0)] [.stay, .sacn] s t) ∧
  (∀ (s : State) (port : Fin 4) (p : SacnPacket), s.rdN P.SacnEnable 0 = 0 ∨ s.bit P.SacnPortMask 0 port = false →
    Completes (.sacnDataPacket port p) s fun t => t.sacn = s.sacn ∧ Frame [] [] [.stay] s t) ∧
  (∀ (s : State) (port : Fin 4) (a : Half), s.rdN P.SacnEnable 0 ≠ 0 ∧ s.bit P.SacnPortMask 0 port = true →
    Completes (.sacnSyncPacket port a) s fun t => (∀ h ∈ t.sacn.held, h.2.1 ≠ a) ∧
    (∀ x ∈ t.sacn.tracked, x.1 = a → x.2 = false) ∧ (∀ x ∈ s.sacn.held, x.2.1 ≠ a → x ∈ t.sacn.held) ∧
    Frame [] [] [.stay, .sacn] s t) ∧
  (∀ (s : State) (a : Half), Completes (.syncAddressIdle a) s fun t => (∀ h ∈ t.sacn.held, h.2.1 ≠ a) ∧
    t.sacn.tracked = s.sacn.tracked.filter (fun x => x.1 != a) ∧ Frame [] [] [.sacn] s t) ∧
  (∀ (s : State) (a : Half), s.tracked a = some false → Completes (.sacnSyncTimeout a) s fun t =>
    (∀ h ∈ t.sacn.held, h.2.1 ≠ a) ∧ t.tracked a = some true ∧
    (s.rdN P.SacnSyncTimeoutCount 0 < 0xFFFFFFFE →
    t.rdN P.SacnSyncTimeoutCount 0 = s.rdN P.SacnSyncTimeoutCount 0 + 1) ∧
    Frame [] [(P.SacnSyncTimeoutCount, 0)] [.sacn, .wdp] s t) ∧
  (∀ (s : State) (a : Half), s.tracked a ≠ some false → Completes (.sacnSyncTimeout a) s fun t => Frame [] [] [] s t) ∧
  (∀ (s : State) (univ : Half) (cid : BitVec 128), (s.source univ cid).isSome = true →
    Completes (.sourceTimeout univ cid) s fun t =>
    t.sacn = { s.sacn with sources := s.sacn.sources.filter (fun x => !x.is univ cid), held := s.sacn.held.filter
                             (fun h => !(h.1 == univ && h.2.2.cid == cid)) } ∧
    (s.rdN P.SourceLostCount 0 < 0xFFFFFFFE → t.rdN P.SourceLostCount 0 = s.rdN P.SourceLostCount 0 + 1) ∧
    Frame [] [(P.SourceLostCount, 0)] [.sacn, .wdp] s t) ∧
  (∀ (s : State) (univ : Half) (cid : BitVec 128), s.source univ cid = none →
    Completes (.sourceTimeout univ cid) s fun t => Frame [] [] [] s t) ∧
  (∀ (s : State) (entry : Nat), (s.mergedAt entry).state = .holding ∧
    ((s.mergeEntry entry).2.2 = 1 ∨ (s.mergeEntry entry).2.2 = 2) → Completes (.lossHoldExpiry entry) s fun t =>
    t.mergedAt entry = { s.mergedAt entry with state := .ended } ∧ (∀ e, e ≠ entry → t.mergedAt e = s.mergedAt e) ∧
    Frame [] [] [.merged] s t)

/-- On an enabled input, a frame that passes the input's checks and is newer than the last accepted takes its sequence
and is placed in the ring; one that is not newer counts as a duplicate and changes nothing of the input. A malformed
frame, and one of the stream whose format or length is not the input's, is counted and places nothing; one of another
stream, or of a disabled input, leaves the input as it was. Only this input and the bytes of its ring change. Beyond
the cited rules it rests on the model's own choices: log entries 105, 187, 194. Rules: R167, R280, R281. -/
def Obligations.CascadeInput : Prop :=
  (∀ (s : State) (n : Fin 8) (port : Fin 4) (m : ShroudMsg), s.stayActive = true ∧ s.stayEnabled port = true ∧
    s.bit P.CascadeControl n 0 = true ∧ m.version = 1 ∧ m.checkOk = true ∧ s.cascadeNamed n m = true ∧
    s.cascadeTakes n m = true ∧ (s.casc n).lastSeq.all (fun q => newer m.seq q) = true →
    Completes (.cascadeFrame n port m) s fun t => (t.casc n).lastSeq = some m.seq ∧
    (∀ i < 8, i ≠ n.val → t.casc i = s.casc i) ∧ t.sram = s.sram ∧
    Frame [P.CascadeFrameCount, P.CascadeIncompleteCount, P.CascadeLateCount] [] [.cascadeIn, .memory, .stay, .wdp] s
    t) ∧
  (∀ (s : State) (n : Fin 8) (port : Fin 4) (m : ShroudMsg) (q : Word), s.stayActive = true ∧
    s.stayEnabled port = true ∧ s.bit P.CascadeControl n 0 = true ∧ m.version = 1 ∧ m.checkOk = true ∧
    s.cascadeNamed n m = true ∧ s.cascadeTakes n m = true ∧ (s.casc n).lastSeq = some q ∧ newer m.seq q = false →
    Completes (.cascadeFrame n port m) s fun t =>
    (s.rdN P.CascadeDuplicateCount n < 0xFFFFFFFE →
    t.rdN P.CascadeDuplicateCount n = s.rdN P.CascadeDuplicateCount n + 1) ∧ (∀ i < 8, t.casc i = s.casc i) ∧
    Frame [] [(P.CascadeDuplicateCount, n.val)] [.stay, .wdp] s t) ∧
  (∀ (s : State) (n : Fin 8) (port : Fin 4) (m : ShroudMsg), s.bit P.CascadeControl n 0 = false ∨
    (m.version = 1 ∧ m.checkOk = true ∧ s.cascadeNamed n m = false) → Completes (.cascadeFrame n port m) s fun t =>
    (∀ i < 8, t.casc i = s.casc i) ∧ Frame [] [] [.stay] s t) ∧
  (∀ (s : State) (n : Fin 8) (port : Fin 4) (m : ShroudMsg), s.stayActive = true ∧ s.stayEnabled port = true ∧
    s.bit P.CascadeControl n 0 = true ∧ (m.version ≠ 1 ∨ m.checkOk = false) →
    Completes (.cascadeFrame n port m) s fun t => t.casc n = { s.casc n with malformed := (s.casc n).malformed + 1 } ∧
    (∀ i < 8, i ≠ n.val → t.casc i = s.casc i) ∧ Frame [] [] [.stay, .cascadeIn] s t) ∧
  (∀ (s : State) (n : Fin 8) (port : Fin 4) (m : ShroudMsg), s.stayActive = true ∧ s.stayEnabled port = true ∧
    s.bit P.CascadeControl n 0 = true ∧ m.version = 1 ∧ m.checkOk = true ∧ s.cascadeNamed n m = true ∧
    s.cascadeTakes n m = false → Completes (.cascadeFrame n port m) s fun t =>
    t.casc n = { s.casc n with unsupported := (s.casc n).unsupported + 1 } ∧
    (∀ i < 8, i ≠ n.val → t.casc i = s.casc i) ∧ Frame [] [] [.stay, .cascadeIn] s t)

/-- A cue of one word written by a requester that may write P4400 is filled in and admitted with the next admission
number behind every cue of its priority or above, when the queue has room; without room it is answered Busy and counts
as an overflow. A load of the low word of P4410 by DC0 takes the next word of the queue and latches its high word. The
poll reads every cue of the queue. Execution takes the next cue of the kernel; one that R186 discards counts and
changes nothing else. Beyond the cited rules it rests on the model's own choices: log entries 97, 99, 101, 102. Rules:
R181, R182, R183, R184, R185, R186. -/
def Obligations.CueQueueCommands : Prop :=
  (∀ (s : State) (rq : Requester) (w h : Wide), s.grants rq P.CueWrite 0 w.toNat = true ∧ Cw.header w = true ∧
    Cw.ends w = true ∧ s.cueBuffer (cueWriter rq) = [] ∧ s.cueWords + 1 ≤ 16384 ∧
    h = Cw.fillHeader w (cueWriter rq) (s.level rq) → Completes (.cueWrite rq [w] false) s fun t =>
    t.wdp.answer = ⟨0, []⟩ ∧
    t.cue.queue = insertCue ⟨Cw.priority h, s.cue.nextAdmission, [h]⟩ (s.cue.inService && !s.cue.queue.isEmpty)
    s.cue.queue ∧ t.cue.nextAdmission = s.cue.nextAdmission + 1 ∧
    t.rd P.CueAdmittedCount 0 = s.rd P.CueAdmittedCount 0 + 1 ∧ t.cueBuffer (cueWriter rq) = [] ∧
    t.cue.kernel = s.cue.kernel ∧
    Frame [P.SplitWriteCount] [(P.CueAdmittedCount, 0)] [.answer, .cue, .twin, .wdp] s t) ∧
  (∀ (s : State) (rq : Requester) (w : Wide), s.grants rq P.CueWrite 0 w.toNat = true ∧ Cw.header w = true ∧
    Cw.ends w = true ∧ s.cueBuffer (cueWriter rq) = [] ∧ 16384 < s.cueWords + 1 →
    Completes (.cueWrite rq [w] false) s fun t => t.wdp.answer = ⟨1, []⟩ ∧ t.cue.queue = s.cue.queue ∧
    t.cue.nextAdmission = s.cue.nextAdmission ∧
    (s.rdN P.CueOverflowCount 0 < 0xFFFFFFFE → t.rdN P.CueOverflowCount 0 = s.rdN P.CueOverflowCount 0 + 1) ∧
    Frame [] [(P.CueOverflowCount, 0)] [.answer, .cue, .wdp] s t) ∧
  (∀ (s : State) (rq : Requester) (x : QueuedCue) (xs : List QueuedCue) (w : Wide) (ws : List Wide), rq.path = .window
    0 true ∧ s.pathServes rq = true ∧ s.faults rq (wordAddr rq P.CueRead 0) false = false ∧ s.cue.queue = x :: xs ∧
    x.words = w :: ws → Completes (.cueRead rq false) s fun t => t.wdp.answer = ⟨0, beBytes 4 (w.toNat % 2 ^ 32)⟩ ∧
    t.cue.readHigh = (w >>> 32).setWidth 32 ∧
    t.cue.queue = (if ws.isEmpty then xs else { x with words := ws } :: xs) ∧ t.cue.inService = !ws.isEmpty ∧
    t.core 0 = { s.core 0 with latch := some (P.CueRead, 0, (w >>> 32).setWidth 32) } ∧
    (∀ d < 4, d ≠ 0 → t.core d = s.core d) ∧ Frame [] [] [.answer, .cue, .capstan] s t) ∧
  (∀ (s : State) (rq : Requester) (w : Word), rq.path = .window 0 true ∧ s.pathServes rq = true ∧
    s.faults rq (wordAddr rq P.CueRead 1) false = false ∧ (s.core 0).latch = some (P.CueRead, 0, w) →
    Completes (.cueRead rq true) s fun t => t.wdp.answer = ⟨0, beBytes 4 w.toNat⟩ ∧
    t.core 0 = { s.core 0 with latch := none } ∧ (∀ d < 4, d ≠ 0 → t.core d = s.core d) ∧
    Frame [] [] [.answer, .capstan] s t) ∧
  (∀ (s : State) (rq : Requester), rq.path = .window 0 true ∧ s.pathServes rq = true ∧
    s.faults rq (wordAddr rq P.CueRead 1) false = false ∧ (s.core 0).latch = none →
    Completes (.cueRead rq true) s fun t => t.wdp.answer = ⟨0, beBytes 4 s.cue.readHigh.toNat⟩ ∧
    Frame [] [] [.answer] s t) ∧
  (∀ (s : State) (rq : Requester) (high : Bool), rq.path ≠ .window 0 true ∧ s.hears rq 8 = true ∧
    s.faults rq (wordAddr rq P.CueRead high.toNat) false = false → Completes (.cueRead rq high) s fun t =>
    t.wdp.answer = ⟨0, List.replicate (if rq.onWindow then 4 else 8) 0⟩ ∧ t.cue = s.cue ∧
    (s.rdN P.ViolationCount 0 < 0xFFFFFFFE → t.rdN P.ViolationCount 0 = s.rdN P.ViolationCount 0 + 1) ∧
    Frame [] [(P.ViolationCount, 0)] [.answer, .wdp] s t) ∧
  (∀ (s : State) (prio : Nat) (n : Word) (h : Wide) (as : List Wide), s.serving = true ∧ s.seeded = true ∧
    s.commands = true ∧ s.cue.queue = [⟨prio, n, h :: as⟩] ∧ as.length ≤ 15 ∧
    (h :: as).dropLast.all (fun w => !Cw.ends w) = true ∧ ((h :: as).drop as.length).all Cw.ends = true →
    Completes (.cuePoll) s fun t => t.cue.queue = [] ∧
    t.cue.kernel = s.cue.kernel ++ [{ admission := n, header := h, actions := as, target :=
                                        (s.cueTarget (Cw.tag h)).1, late := (s.cueTarget (Cw.tag h)).2 }] ∧
    t.capstan.bulkStore = [] ∧
    ((s.cueTarget (Cw.tag h)).2 = true → s.rdN P.CueLateCount 0 < 0xFFFFFFFE →
    t.rdN P.CueLateCount 0 = s.rdN P.CueLateCount 0 + 1) ∧ Frame [] [(P.CueLateCount, 0)] [.cue, .capstan, .wdp] s t) ∧
  (∀ (s : State) (c : KernelCue), s.serving = true ∧ s.seeded = true ∧ s.commands = true ∧ s.cue.kernel = [c] ∧
    (cueFault (Cw.level c.header) s.appletHandles c.actions).isSome = true → Completes (.cueExecute) s fun t =>
    t.cue.kernel = [] ∧ t.cue.queue = s.cue.queue ∧ t.cue.ramps = s.cue.ramps ∧
    (s.rdN P.CueDiscardCount 0 < 0xFFFFFFFE → t.rdN P.CueDiscardCount 0 = s.rdN P.CueDiscardCount 0 + 1) ∧
    Frame [] [(P.CueDiscardCount, 0), (P.CueLateCount, 0)] [.cue, .wdp] s t) ∧
  (∀ (s : State) (c : KernelCue) (w : Wide) (p e : Nat) (r : Row), s.serving = true ∧ s.seeded = true ∧
    s.commands = true ∧ s.cue.kernel = [c] ∧ c.actions = [w] ∧ s.halyard.grid.nextLatch ≤ c.target ∧ Cw.op w = 0 ∧
    Cw.param w = p ∧ Cw.elem w = e ∧ Dict.row p = some r ∧ r.ty = .u32 ∧ acts p = false ∧ r.acc ≠ .ro ∧
    r.writeLevel ≤ Cw.level c.header ∧ writable r e = true ∧ s.valueOk r e (Cw.value w).toNat = true ∧
    s.clonesAfter p [(e, (Cw.value w).toNat)] = true ∧ p ∉ [P.TickIncrement, P.KeyHash, P.TroubleWrite] →
    Completes (.cueExecute) s fun t => t.cue.kernel = [] ∧ t.cue.queue = s.cue.queue ∧
    t.rd p e = r.merge (s.rd p e) ((Cw.value w).setWidth 64) ∧ t.rd P.CueDiscardCount 0 = s.rd P.CueDiscardCount 0 ∧
    Frame [P.SplitWriteCount, P.TxQueueDropCount] [(p, e)] [.cue, .twin, .wdp, .content, .stay] s t)

/-- A granted commit takes a snapshot of the shadow values of exactly the layers, settings and generators whose bits
are 1 into the pending copy, and they await their latch; the live values stay. A frame commit takes only the clip
addresses. A projection commit takes the projections whose bits are 1 and whose AutoCommit is not live. A layer commit
of which one layer has a clip stride below its line is Range and commits nothing. Beyond the cited rules it rests on
the model's own choices: log entries 112, 193. Rules: R194, R201, R202, R218. -/
def Obligations.CommitsWaitForTheirLatch : Prop :=
  (∀ (s : State) (rq : Requester) (canvas : Fin 8) (value : Word), s.grants rq P.LayerCommit canvas value.toNat = true
    ∧ (∀ l < 16, value.getLsbD l = true → s.strideBad (16 * canvas.val + l) = false) →
    Completes (.layerCommit rq canvas value) s fun t => t.wdp.answer = ⟨0, []⟩ ∧
    (∀ i < 32, i < 17 ∨ 24 ≤ i → value.getLsbD i = true → t.itemPending canvas i = true ∧
    (itemKeys canvas i).all (fun k => SMap.find t.render.committed k == some (s.shadow k)) = true) ∧
    (∀ i < 33, (i < 17 ∨ 24 ≤ i) → (i < 32 → value.getLsbD i = false) →
    t.itemPending canvas i = s.itemPending canvas i ∧
    (itemKeys canvas i).all (fun k => SMap.find t.render.committed k == SMap.find s.render.committed k) = true) ∧
    t.render = { s.render with committed := t.render.committed, items := t.render.items } ∧
    Frame [P.SplitWriteCount, P.CommitReplaceCount, P.CommitPending, P.ProjectionPending, P.CommitTarget,
    P.LayerStatus] [] [.answer, .render, .twin, .wdp] s t) ∧
  (∀ (s : State) (rq : Requester) (canvas : Fin 8) (value : Word) (l : Nat), s.grants rq P.LayerCommit canvas
    value.toNat = true ∧ l < 16 ∧ value.getLsbD l = true ∧ s.strideBad (16 * canvas.val + l) = true →
    Completes (.layerCommit rq canvas value) s fun t => t.wdp.answer = ⟨3, []⟩ ∧ Frame [] [] [.answer] s t) ∧
  (∀ (s : State) (rq : Requester) (canvas : Fin 8) (value : Half), s.grants rq P.FrameCommit canvas value.toNat = true
    → Completes (.frameCommit rq canvas value) s fun t => t.wdp.answer = ⟨0, []⟩ ∧
    (∀ l < 16, value.getLsbD l = true → t.itemPending canvas l = true ∧
    SMap.find t.render.committed (Dict.key P.LayerClipAddress (16 * canvas.val + l)) = some
    (s.rd P.LayerClipAddress (16 * canvas.val + l))) ∧
    (∀ l < 16, value.getLsbD l = false → t.itemPending canvas l = s.itemPending canvas l) ∧
    (∀ k < 0x10000, k / 256 ≠ P.LayerClipAddress → SMap.find t.render.committed k = SMap.find s.render.committed k) ∧
    t.render = { s.render with committed := t.render.committed, items := t.render.items } ∧
    Frame [P.SplitWriteCount, P.CommitReplaceCount, P.CommitPending, P.ProjectionPending, P.CommitTarget,
    P.LayerStatus] [] [.answer, .render, .twin, .wdp] s t) ∧
  (∀ (s : State) (rq : Requester) (value : Byte), s.grants rq P.ProjectionCommit 0 value.toNat = true →
    Completes (.projectionCommit rq value) s fun t => t.wdp.answer = ⟨0, []⟩ ∧
    (∀ c < 8, value.getLsbD c = true → field (s.lv P.ProjectionControl c) 8 1 = 0 → t.itemPending c 32 = true ∧
    (itemKeys c 32).all (fun k => SMap.find t.render.committed k == some (s.shadow k)) = true) ∧
    (∀ c < 8, value.getLsbD c = false ∨ field (s.lv P.ProjectionControl c) 8 1 = 1 →
    t.itemPending c 32 = s.itemPending c 32) ∧
    t.render = { s.render with committed := t.render.committed, items := t.render.items } ∧
    Frame (P.ProjectionReplaceCount ::
    [P.SplitWriteCount, P.CommitReplaceCount, P.CommitPending, P.ProjectionPending, P.CommitTarget, P.LayerStatus]) []
    [.answer, .render, .twin, .wdp] s t)

/-- At its start the cycle of the frame latched last becomes active and each lane takes a band, in order, while there
are bands. A band that is done puts the colours of its 1,024 elements into the store, is counted as finished, and its
lane takes the next band; elements of other bands keep their values. Without a frame, in a cycle already active, or
for a lane that waits, nothing happens. Beyond the cited rules it rests on the model's own choices: log entries 110,
114, 191. Rules: R199, R227. -/
def Obligations.CanvasCycle : Prop :=
  (∀ (s : State), s.render.frame.isSome = true ∧ s.render.active = false ∧ s.now.driven.contains 3 = false →
    Completes (.canvasCycleStart) s fun t =>
    t.render = { s.render with active := true, started := s.tns, next := min 8 (bandsOf s.elementCount), lanes :=
                                 t.render.lanes, finished := [], evalTime := 0, cost := 0, outOfView := 0, outside :=
                                 0, noProfile := 0, probeElement := s.rdN P.ProbeElement 0, probe := none } ∧
    (∀ l < 8, SMap.get 0 t.render.lanes l = if l < bandsOf s.elementCount then l + 1 else 0) ∧
    t.cycleStatus = BitVec.ofNat 64
    (2 ^ 31 + s.fld P.CycleStatus 0 16 12 * 2 ^ 16 + min (bandsOf s.elementCount) 4095) ∧ Frame [] [] [.render] s t) ∧
  (∀ (s : State), s.render.frame = none ∨ s.render.active = true ∨ s.now.driven.contains 3 = true →
    Completes (.canvasCycleStart) s fun t => Frame [] [] [] s t) ∧
  (∀ (s : State) (lane : Fin 8) (k j : Nat), s.render.frame = some k ∧ SMap.get 0 s.render.lanes lane = j + 1 ∧
    s.render.active = true → Completes (.bandDone lane) s fun t => t.render.finished = s.render.finished ++ [j] ∧
    t.render.evalTime = (s.tns - s.render.started).toNat ∧
    SMap.get 0 t.render.lanes lane = (if s.render.next < bandsOf s.elementCount then s.render.next + 1 else 0) ∧
    (∀ n < s.elementCount, n / 1024 = j →
    SMap.get [] t.render.store n = s.colourElement (tableRecord (s.blob P.ElementTable) n) (s.evalElement
    (tableRecord (s.blob P.ElementTable) n) (s.mapElement (tableRecord (s.blob P.ElementTable) n)) (k % 2 ^ 32)).1) ∧
    (∀ n < 65536, n < 1024 * j ∨ 1024 * (j + 1) ≤ n → SMap.get [] t.render.store n = SMap.get [] s.render.store n) ∧
    t.sheet = { s.sheet with changed := t.sheet.changed } ∧ Frame [] [] [.render, .sheet] s t) ∧
  (∀ (s : State) (lane : Fin 8), s.render.frame = none ∨ SMap.get 0 s.render.lanes lane = 0 ∨ s.render.active = false
    → Completes (.bandDone lane) s fun t => Frame [] [] [] s t)

/-- At the opening of the window the pack pass takes the frame that has closed, with its presentation time, its hashes
and Masthead's values; with output not to be sent it forms no traffic. When the pass is done its hashes stand with the
frame's index, the pass time is shown, the old element area is free, and Masthead's frame, unless it is not to be
presented, waits behind at most three others. At the close of a window the tagged frames of a show frame that is over
leave the queue, and no other port is touched. Beyond the cited rules it rests on the model's own choices: log entries
118, 126, 133. Rules: R222, R243, R246, R248. -/
def Obligations.PackPassAndWindows : Prop :=
  (∀ (s : State) (k : Nat) (c : FrameContext), s.sheet.closed = some k ∧ s.contextOf k = some c ∧
    s.now.driven.contains 4 = false → Completes (.sheetWindowOpen) s fun t => t.sheet.closed = none ∧
    t.sheet.packing.map (fun x => (x.frame, x.time, x.started)) = some (k, c.time, s.tns) ∧
    t.sheet.packing.map (·.hashes) = some ((s.under c).frameHashes k) ∧
    t.sheet.packing.map (·.masthead) = some ((s.under c).lampValues k) ∧
    Frame [] ((P.SacnOverLimitLast, 0) :: (List.range 64).map (fun p => (P.PortStatus, p))) [.sheet] s t) ∧
  (∀ (s : State) (k : Nat) (c : FrameContext), s.sheet.closed = some k ∧ s.contextOf k = some c ∧
    s.now.driven.contains 4 = false ∧
    (c.output = false ∨ c.dropped = true ∨ s.sendsOutput = false ∨ s.sheet.stopping = true ∨ s.timeState = Ts.unset) →
    Completes (.sheetWindowOpen) s fun t =>
    t.sheet.packing.map (fun x => (x.frame, x.traffic, x.overflow)) = some (k, [], []) ∧
    t.sheet.lastSent = s.sheet.lastSent ∧ t.sheet.resume = s.sheet.resume) ∧
  (∀ (s : State), (s.sheet.closed = none ∧ s.render.frame = none) ∨ s.now.driven.contains 4 = true →
    Completes (.sheetWindowOpen) s fun t => Frame [] [] [] s t) ∧
  (∀ (s : State) (x : Packed), s.sheet.packing = some x ∧ (x.hashes.map (·.1)).Pairwise (· < ·) ∧
    (∀ h ∈ x.hashes, h.1 < 65) → Completes (.packPassDone) s fun t => t.sheet.packing = none ∧
    t.render = { s.render with oldArea := false } ∧ t.rd P.PackTime 0 = BitVec.ofNat 64 (s.tns - x.started).toNat ∧
    x.hashes.all (fun h =>
    t.rd P.FrameHash h.1 == h.2.setWidth 64 && t.rd P.FrameHashIndex h.1 == BitVec.ofNat 64 (x.frame % 2 ^ 32)) = true
    ∧ t.masthead = (if x.dropped then s.masthead else { s.masthead with waiting := (s.masthead.waiting ++ [({ time :=
                                                                                                                x.time,
                                                                                                              values
                                                                                                                :=
                                                                                                                x.masthead
                                                                                                                } :
                                                                          LampFrame)]).drop (s.masthead.waiting.length
                                                                          + 1 - 4) }) ∧
    Frame (P.PackTime :: P.FrameHash :: P.FrameHashIndex :: egressParams) []
    [.sheet, .render, .masthead, .ports, .stay, .wdp] s t) ∧
  (∀ (s : State), s.sheet.packing = none → Completes (.packPassDone) s fun t => Frame [] [] [] s t) ∧
  (∀ (s : State) (port : Fin 64), Completes (.sheetWindowClose ⟨port.val, by omega⟩) s fun t =>
    (t.port port).shows = (s.port port).shows.filter
    (fun f => !(due f.close s.tns && f.frames.any (fun x => x.tag.isSome))) ∧
    (t.port port).time = (s.port port).time ∧ (t.port port).express = (s.port port).express ∧
    (t.port port).bulk = (s.port port).bulk ∧ (t.port port).sending = (s.port port).sending ∧
    (∀ q < 64, q ≠ port.val → t.port q = s.port q) ∧
    Frame [] ([P.LateFrameCount, P.LateDropCount, P.PortStatus, P.PortMargin, P.PortMinMargin, P.PortWireTime].map
    (fun p => (p, port.val))) [.ports, .sheet, .wdp] s t) ∧
  (∀ (s : State) (output : Fin 8), Completes (.sheetWindowClose ⟨64 + output.val, by omega⟩) s fun t =>
    (∀ p < 4, t.stayPort p = { s.stayPort p with cascade := (s.stayPort p).cascade.filter (fun x =>
                                                   !(match x.tag with | some g => g.dest == 64 + output.val && due g.close s.tns | none => false))
                                                   }) ∧
    Frame [P.LateFrameCount, P.LateDropCount] [] [.stay, .sheet, .wdp] s t)

/-- When a frame has left a shroud port it counts with its bytes and the next begins by strict priority: an express
frame first, then a time frame. While the link is down what waits is discarded and counted. A stay port counts its
frame alike. A synchronisation packet is queued for the oldest frame whose data packets have left, on a port in sACN
mode with a synchronisation address; a wake lead clears the port's low-power idle. A port that sends nothing is not
changed. Beyond the cited rules it rests on the model's own choices: log entries 65, 125. Rules: R261, R265, R274,
R283. -/
def Obligations.PortsSendByStrictPriority : Prop :=
  (∀ (s : State) (port : Fin 64) (x y : Egress) (ys : List Egress), (s.port port).sending = some x ∧
    s.shroudUp port = true ∧ s.hpllLocked = true ∧ (s.port port).express = y :: ys →
    Completes (.egressFrameDone ⟨port.val, by omega⟩) s fun t =>
    t.rd P.TxFrameCount_P9012 port = s.rd P.TxFrameCount_P9012 port + 1 ∧
    t.rd P.TxByteCount_P9013 port = s.rd P.TxByteCount_P9013 port + BitVec.ofNat 64 x.len ∧
    (t.port port).sending = some y ∧ (t.port port).express = ys ∧ (t.port port).time = (s.port port).time ∧
    (t.port port).bulk = (s.port port).bulk ∧ (∀ q < 64, q ≠ port.val → t.port q = s.port q) ∧
    Frame ([P.TxFrameCount_P9012, P.TxByteCount_P9013] ++ egressParams) [] [.ports, .sheet, .wdp] s t) ∧
  (∀ (s : State) (port : Fin 64) (x y : Egress) (ys : List Egress), (s.port port).sending = some x ∧
    s.shroudUp port = true ∧ s.hpllLocked = true ∧ (s.port port).express = [] ∧ (s.port port).time = y :: ys →
    Completes (.egressFrameDone ⟨port.val, by omega⟩) s fun t =>
    t.rd P.TxFrameCount_P9012 port = s.rd P.TxFrameCount_P9012 port + 1 ∧
    t.rd P.TxByteCount_P9013 port = s.rd P.TxByteCount_P9013 port + BitVec.ofNat 64 x.len ∧
    (t.port port).sending = some y ∧ (t.port port).express = [] ∧ (t.port port).time = ys ∧
    (t.port port).bulk = (s.port port).bulk ∧ (∀ q < 64, q ≠ port.val → t.port q = s.port q) ∧
    Frame ([P.TxFrameCount_P9012, P.TxByteCount_P9013] ++ egressParams) [] [.ports, .sheet, .wdp] s t) ∧
  (∀ (s : State) (port : Fin 64), (s.port port).sending.isSome = true ∧ s.shroudUp port = false →
    Completes (.egressFrameDone ⟨port.val, by omega⟩) s fun t =>
    t.port port = { express := [], time := [], shows := [], bulk := [], sending := none } ∧
    (∀ q < 64, q ≠ port.val → t.port q = s.port q) ∧
    Frame ([P.TxFrameCount_P9012, P.TxByteCount_P9013] ++ egressParams) [] [.ports, .sheet, .wdp] s t) ∧
  (∀ (s : State) (port : Fin 64), (s.port port).sending = none →
    Completes (.egressFrameDone ⟨port.val, by omega⟩) s fun t => Frame [] [] [] s t) ∧
  (∀ (s : State) (port : Fin 4) (x : Egress), (s.stayPort port).sending = some x →
    Completes (.egressFrameDone ⟨64 + port.val, by omega⟩) s fun t =>
    t.rd P.TxFrameCount_P3022 port = s.rd P.TxFrameCount_P3022 port + 1 ∧
    t.rd P.TxByteCount_P3023 port = s.rd P.TxByteCount_P3023 port + BitVec.ofNat 64 x.len ∧
    (∀ q < 4, q ≠ port.val → t.stayPort q = s.stayPort q) ∧
    Frame (P.TxFrameCount_P3022 :: P.TxByteCount_P3023 :: egressParams) [] [.stay, .sheet, .wdp] s t) ∧
  (∀ (s : State) (port : Fin 4), (s.stayPort port).sending = none →
    Completes (.egressFrameDone ⟨64 + port.val, by omega⟩) s fun t => Frame [] [] [] s t) ∧
  (∀ (s : State) (port : Fin 64) (k : Nat) (ks : List Nat), SMap.get [] s.sheet.dataFrame port = k :: ks ∧
    (s.frameView k).lvN P.SacnSyncAddress port ≠ 0 ∧ (s.frameView k).sacnMode port = true ∧ s.portsRun = true ∧
    s.shroudUp port = true ∧ (s.port port).sending.isSome = true ∧ (s.port port).time.length < 8 →
    Completes (.sacnSyncSend port) s fun t => SMap.get [] t.sheet.dataFrame port = ks ∧
    (t.port port).time = (s.port port).time ++ [{ frame := .sacnSync (s.sacnSync (k % 256)
                                                    ((s.frameView k).lvN P.SacnSyncAddress port)), len := s.sacnLen
                                                    port 49, tag := some ⟨k, port, s.tns⟩, net := some (s.sacnHead
                                                    port (BitVec.ofNat 16 ((s.frameView k).lvN P.SacnSyncAddress
                                                    port))) }] ∧ (∀ q < 64, q ≠ port.val → t.port q = s.port q) ∧
    Frame [] [(P.PortStatus, port.val), (P.LinkStatus, port.val)] [.sheet, .ports] s t) ∧
  (∀ (s : State) (port : Fin 64), SMap.get [] s.sheet.dataFrame port = [] → Completes (.sacnSyncSend port) s fun t =>
    Frame [] [] [] s t) ∧
  (∀ (s : State) (port : Fin 64), Completes (.lpiWakeLead port) s fun t =>
    (∀ i < 64, t.bit P.PortStatus port i = (s.bit P.PortStatus port i && i != 8)) ∧
    (∀ i < 64, t.bit P.LinkStatus port i = (s.bit P.LinkStatus port i && i != 5)) ∧
    Frame [] [(P.PortStatus, port.val), (P.LinkStatus, port.val)] [] s t)

/-- An enabled port that is not under test comes up with the status its transceiver gives, and shows what it gives
while up. A link that goes down counts, its frames are discarded and its link delay is no longer measured. A received
runt, oversize frame or frame with a bad FCS counts in its own counter, in that order, and is gone; an accepted frame
counts with its bytes. Every frame shows that the partner is not in low-power idle. Nothing is received on a port
whose link is down, nor in Furled. Beyond the cited rules it rests on the model's own choices: log entries 128, 196,
197. Rules: R274, R275, R291, R295. -/
def Obligations.ShroudLinksAndReception : Prop :=
  (∀ (s : State) (port : Fin 64) (x : PhyStatus), s.portsRun = true ∧ s.shroudEnabled port = true ∧
    s.bit P.LinkStatus port 7 = false → Completes (.shroudLinkUp port x) s fun t =>
    t.rd P.LinkStatus port = BitVec.ofNat 64 ((max 1 x.quality.val) * 256 + x.partnerLpi.toNat * 64 +
    (s.shroudUp port && s.bit P.LinkStatus port 5).toNat * 32 +
    (if s.bit P.PhyControl port 6 then x.master else s.bit P.PhyControl port 5).toNat * 16 +
    (s.bit P.PhyControl port 6 && x.autoNegDone).toNat * 8 + x.remoteRxOk.toNat * 4 + x.localRxOk.toNat * 2 + 1) ∧
    (∀ i < 64, t.bit P.PhyControl port i = if i = 7 && s.bit P.PhyControl port 6 then x.partnerEee else s.bit
    P.PhyControl port i) ∧ Frame [] [(P.LinkStatus, port.val), (P.PhyControl, port.val)] [] s t) ∧
  (∀ (s : State) (port : Fin 64) (x : PhyStatus), s.portsRun = false ∨ s.shroudEnabled port = false ∨ s.bit
    P.LinkStatus port 7 = true → Completes (.shroudLinkUp port x) s fun t => Frame [] [] [] s t) ∧
  (∀ (s : State) (port : Fin 64), s.shroudUp port = true → Completes (.shroudLinkDown port) s fun t =>
    t.rd P.LinkStatus port = s.rd P.LinkStatus port &&& 0x80 ∧
    (s.rdN P.LinkDownCount_P9105 port < 0xFFFFFFFE →
    t.rdN P.LinkDownCount_P9105 port = s.rdN P.LinkDownCount_P9105 port + 1) ∧ t.rd P.LinkDelay port = 0xFFFFFFFF ∧
    t.port port = { express := [], time := [], shows := [], bulk := [], sending := none } ∧
    (∀ q < 64, q ≠ port.val → t.port q = s.port q) ∧ (∀ q < 64, q ≠ port.val → t.shroudPtp q = s.shroudPtp q) ∧
    Frame (P.LinkDownCount_P9105 :: P.LinkDelay :: egressParams) [] [.ports, .time, .wdp] s t) ∧
  (∀ (s : State) (port : Fin 64), s.shroudUp port = false → Completes (.shroudLinkDown port) s fun t =>
    Frame [] [] [] s t) ∧
  (∀ (s : State) (port : Fin 64) (bytes : List Byte) (fcsOk : Bool) (stamp : T32) (frac : Byte), s.shroudHears = true
    ∧ s.shroudUp port = true ∧ bytes.length < 64 →
    Completes (.shroudFrameReceived port bytes fcsOk stamp frac) s fun t => t.bit P.LinkStatus port 6 = false ∧
    (s.rdN P.RxRuntCount_P9100 port < 0xFFFFFFFE →
    t.rdN P.RxRuntCount_P9100 port = s.rdN P.RxRuntCount_P9100 port + 1) ∧
    Frame [] [(P.RxRuntCount_P9100, port.val), (P.LinkStatus, port.val)] [.wdp] s t) ∧
  (∀ (s : State) (port : Fin 64) (bytes : List Byte) (fcsOk : Bool) (stamp : T32) (frac : Byte), s.shroudHears = true
    ∧ s.shroudUp port = true ∧ 64 ≤ bytes.length ∧ s.rdN P.ShroudMaxFrame port < bytes.length →
    Completes (.shroudFrameReceived port bytes fcsOk stamp frac) s fun t => t.bit P.LinkStatus port 6 = false ∧
    (s.rdN P.RxOversizeCount_P9101 port < 0xFFFFFFFE →
    t.rdN P.RxOversizeCount_P9101 port = s.rdN P.RxOversizeCount_P9101 port + 1) ∧
    Frame [] [(P.RxOversizeCount_P9101, port.val), (P.LinkStatus, port.val)] [.wdp] s t) ∧
  (∀ (s : State) (port : Fin 64) (bytes : List Byte) (fcsOk : Bool) (stamp : T32) (frac : Byte), s.shroudHears = true
    ∧ s.shroudUp port = true ∧ 64 ≤ bytes.length ∧ bytes.length ≤ s.rdN P.ShroudMaxFrame port ∧ fcsOk = false →
    Completes (.shroudFrameReceived port bytes fcsOk stamp frac) s fun t => t.bit P.LinkStatus port 6 = false ∧
    (s.rdN P.RxFcsErrorCount_P9104 port < 0xFFFFFFFE →
    t.rdN P.RxFcsErrorCount_P9104 port = s.rdN P.RxFcsErrorCount_P9104 port + 1) ∧
    Frame [] [(P.RxFcsErrorCount_P9104, port.val), (P.LinkStatus, port.val)] [.wdp] s t) ∧
  (∀ (s : State) (port : Fin 64) (bytes : List Byte) (fcsOk : Bool) (stamp : T32) (frac : Byte), s.shroudHears = true
    ∧ s.shroudUp port = true ∧ 64 ≤ bytes.length ∧ bytes.length ≤ s.rdN P.ShroudMaxFrame port ∧ fcsOk = true →
    Completes (.shroudFrameReceived port bytes fcsOk stamp frac) s fun t => t.bit P.LinkStatus port 6 = false ∧
    t.rd P.RxFrameCount_P9010 port = s.rd P.RxFrameCount_P9010 port + 1 ∧
    t.rd P.RxByteCount_P9011 port = s.rd P.RxByteCount_P9011 port + BitVec.ofNat 64 bytes.length ∧
    (∀ q < 64, q ≠ port.val → t.port q = s.port q) ∧
    Frame ([P.RxFrameCount_P9010, P.RxByteCount_P9011, P.WakeMatchCount, P.RxUnclassifiedCount_P9103,
    P.RxOverflowCount_P9102, P.StampIngressOverflowCount, P.RelayStatus, P.LinkStatus] ++ egressParams) []
    [.time, .ports, .sheet, .bodies, .capstan, .power, .wdp] s t) ∧
  (∀ (s : State) (port : Fin 64) (bytes : List Byte) (fcsOk : Bool) (stamp : T32) (frac : Byte), s.shroudUp port =
    false ∨ s.shroudHears = false → Completes (.shroudFrameReceived port bytes fcsOk stamp frac) s fun t =>
    Frame [] [] [] s t)

/-- An express frame that meets the conditions is copied behind what waits in the express queue of every routed port
with its link up and fewer than four frames waiting; a port with four counts a drop. A frame that does not meet them
is rejected and counted. At its end a good frame's copies stand; when it was bad, copies none of which has begun are
withdrawn and the frame counts as rejected. With the path disabled, or without a copied frame, nothing happens. Beyond
the cited rules it rests on the model's own choices: log entry 129. Rules: R285, R286, R287. -/
def Obligations.ExpressPath : Prop :=
  (∀ (s : State) (port : Fin 4) (f : RxFrame) (v6 : Bool) (dst : IpDst) (src : BitVec 128) (sp : Half) (frag : Bool)
    (d : List Byte), s.stayActive = true ∧ s.stayUp port = true ∧ s.stayEnabled port = true ∧
    s.rdN P.ExpressEnable 0 = 1 ∧ s.accepts port f = true ∧ s.vlanOk port f = true ∧
    f.payload = .udp v6 dst src sp 49230 frag d ∧ shroudClass d = Cls.express ∧ frag = false ∧
    s.expressTaken v6 dst f.len d = true → Completes (.expressFrame port f) s fun t =>
    SMap.get ExpressCopy.init t.shroud.express port = { ports := (s.expressRoute (shroudStream d)).filter
                                                          (fun p => decide ((s.port p).express.length < 4)), taken :=
                                                          true } ∧
    (∀ p < 64, p ∈ s.expressRoute (shroudStream d) → (s.port p).sending.isSome = true →
    (t.port p).express = if (s.port p).express.length < 4 then (s.port p).express ++ [({ frame := .express port false
                                                                                           (s.expressCopy d), len :=
                                                                                           shroudLen (d.length - 32),
                                                                                         net := some (shroudHead p
                                                                                           shroudGroup 49230) } :
    Egress)] else (s.port p).express) ∧ (∀ p < 64, p ∉ s.expressRoute (shroudStream d) → t.port p = s.port p) ∧
    Frame (P.ExpressDropCount :: egressParams) [] [.shroud, .ports, .sheet, .wdp] s t) ∧
  (∀ (s : State) (port : Fin 4) (f : RxFrame) (v6 : Bool) (dst : IpDst) (src : BitVec 128) (sp : Half) (frag : Bool)
    (d : List Byte), s.stayActive = true ∧ s.stayUp port = true ∧ s.stayEnabled port = true ∧
    s.rdN P.ExpressEnable 0 = 1 ∧ s.accepts port f = true ∧ s.vlanOk port f = true ∧
    f.payload = .udp v6 dst src sp 49230 frag d ∧ shroudClass d = Cls.express ∧
    (frag = true ∨ s.expressTaken v6 dst f.len d = false) → Completes (.expressFrame port f) s fun t =>
    (s.rdN P.ExpressRejectCount 0 < 0xFFFFFFFE → t.rdN P.ExpressRejectCount 0 = s.rdN P.ExpressRejectCount 0 + 1) ∧
    Frame [] [(P.ExpressRejectCount, 0)] [.wdp] s t) ∧
  (∀ (s : State) (port : Fin 4) (f : RxFrame), s.stayActive = false ∨ s.stayUp port = false ∨ s.stayEnabled port =
    false ∨ s.rdN P.ExpressEnable 0 ≠ 1 → Completes (.expressFrame port f) s fun t => Frame [] [] [] s t) ∧
  (∀ (s : State) (port : Fin 4), (SMap.get ExpressCopy.init s.shroud.express port).taken = true →
    Completes (.expressIngressEnd port true) s fun t =>
    SMap.get ExpressCopy.init t.shroud.express port = ExpressCopy.init ∧ Frame [] [] [.shroud] s t) ∧
  (∀ (s : State) (port : Fin 4) (l : List Nat), SMap.get ExpressCopy.init s.shroud.express port = ⟨l, true⟩ ∧
    l.Nodup ∧ (∀ p ∈ l, s.expressBegun port p = false) → Completes (.expressIngressEnd port false) s fun t =>
    SMap.get ExpressCopy.init t.shroud.express port = ExpressCopy.init ∧
    (∀ p < 64, p ∈ l → waitsExpress port (s.port p).express = true →
    (t.port p).express = replaceLast port (fun _ => []) (s.port p).express) ∧
    (∀ p < 64, p ∉ l → t.port p = s.port p) ∧
    (s.rdN P.ExpressRejectCount 0 < 0xFFFFFFFE → t.rdN P.ExpressRejectCount 0 = s.rdN P.ExpressRejectCount 0 + 1) ∧
    Frame [] [(P.ExpressRejectCount, 0)] [.shroud, .ports, .wdp] s t) ∧
  (∀ (s : State) (port : Fin 4) (l : List Nat), SMap.get ExpressCopy.init s.shroud.express port = ⟨l, true⟩ ∧
    l.Nodup ∧ l.any (fun p => s.expressBegun port p) = true → Completes (.expressIngressEnd port false) s fun t =>
    SMap.get ExpressCopy.init t.shroud.express port = ExpressCopy.init ∧
    (s.rdN P.ExpressStompCount 0 < 0xFFFFFFFE → t.rdN P.ExpressStompCount 0 = s.rdN P.ExpressStompCount 0 + 1) ∧
    (∀ p < 64, p ∉ l → t.port p = s.port p) ∧
    (∀ p < 64, p ∈ l → s.expressBegun port p = true → (t.port p).sending = (s.port p).sending.map Egress.stomp) ∧
    Frame [] [(P.ExpressStompCount, 0)] [.shroud, .ports, .wdp] s t) ∧
  (∀ (s : State) (port : Fin 4) (ok : Bool), (SMap.get ExpressCopy.init s.shroud.express port).taken = false →
    Completes (.expressIngressEnd port ok) s fun t => Frame [] [] [] s t)

/-- A write that takes a snapshot marks it pending and captures the counters of all ports with the time, at once or
when its instant is due; when the capture is written the next sequence number is given and Pending clears. A cable
test that starts holds the converters, clears the link of its first port and marks it under test; a result is shown
and the next port follows, or the test ends. A start while the converters are taken is Busy, and an abort takes effect
after the port under test. Beyond the cited rules it rests on the model's own choices: log entries 131, 132. Rules:
R292, R293, R296, R297. -/
def Obligations.SnapshotAndCableTest : Prop :=
  (∀ (s : State) (rq : Requester) (value : Word), s.grants rq P.SnapshotControl 0 value.toNat = true ∧
    value.getLsbD 0 = true ∧ value.getLsbD 1 = false → Completes (.snapshotTake rq value) s fun t =>
    t.wdp.answer = ⟨0, []⟩ ∧ t.bit P.SnapshotControl 0 2 = true ∧
    t.shroud = { s.shroud with captured := some (leBytes 4 s.tns.toNat ++ leBytes 4 s.seconds.toNat ++
                                 (s.arbitrate rq).snapshotRecords) } ∧
    Frame [P.SplitWriteCount] [(P.SnapshotControl, 0)] [.answer, .shroud, .twin, .wdp] s t) ∧
  (∀ (s : State) (rq : Requester) (value : Word), s.grants rq P.SnapshotControl 0 value.toNat = true ∧
    value.getLsbD 0 = true ∧ value.getLsbD 1 = true ∧ due ((s.rd P.SnapshotAt 0).setWidth 32) s.tns = false →
    Completes (.snapshotTake rq value) s fun t => t.wdp.answer = ⟨0, []⟩ ∧ t.bit P.SnapshotControl 0 2 = true ∧
    t.shroud = { s.shroud with captured := none } ∧
    Frame [P.SplitWriteCount] [(P.SnapshotControl, 0)] [.answer, .shroud, .twin, .wdp] s t) ∧
  (∀ (s : State) (rq : Requester) (value : Word), s.grants rq P.SnapshotControl 0 value.toNat = true ∧
    value.getLsbD 0 = true ∧ value.getLsbD 1 = true ∧ due ((s.rd P.SnapshotAt 0).setWidth 32) s.tns = true →
    Completes (.snapshotTake rq value) s fun t => t.wdp.answer = ⟨0, []⟩ ∧ t.bit P.SnapshotControl 0 2 = true ∧
    t.shroud = { s.shroud with captured := some (leBytes 4 s.tns.toNat ++ leBytes 4 s.seconds.toNat ++
                                 (s.arbitrate rq).snapshotRecords) } ∧
    Frame [P.SplitWriteCount] [(P.SnapshotControl, 0)] [.answer, .shroud, .twin, .wdp] s t) ∧
  (∀ (s : State), s.bit P.SnapshotControl 0 2 = true ∧ s.shroud.captured = none ∧
    due ((s.rd P.SnapshotAt 0).setWidth 32) s.tns = true → Completes (.snapshotDue) s fun t =>
    t.shroud = { s.shroud with captured := some
                                 (leBytes 4 s.tns.toNat ++ leBytes 4 s.seconds.toNat ++ s.snapshotRecords) } ∧
    Frame [] [] [.shroud] s t) ∧
  (∀ (s : State), s.bit P.SnapshotControl 0 2 = false ∨ s.shroud.captured.isSome = true ∨ due
    ((s.rd P.SnapshotAt 0).setWidth 32) s.tns = false → Completes (.snapshotDue) s fun t => Frame [] [] [] s t) ∧
  (∀ (s : State) (b : List Byte), s.shroud.captured = some b → Completes (.snapshotCaptureDone) s fun t =>
    t.shroud = { s.shroud with captured := none } ∧
    t.rdN P.SnapshotSequence 0 = (s.rdN P.SnapshotSequence 0 + 1) % 2 ^ 32 ∧
    t.blob P.SnapshotData = b.take 8 ++ leBytes 4 (t.rdN P.SnapshotSequence 0) ++ [0, 0, 0, 0] ++ b.drop 8 ∧
    (∀ i < 64, t.bit P.SnapshotControl 0 i = (s.bit P.SnapshotControl 0 i && i != 2)) ∧
    Frame [] [(P.SnapshotSequence, 0), (P.SnapshotControl, 0)] [.shroud, .bodies] s t) ∧
  (∀ (s : State), s.shroud.captured = none → Completes (.snapshotCaptureDone) s fun t => Frame [] [] [] s t) ∧
  (∀ (s : State) (rq : Requester) (value : Word) (p : Nat) (ps : List Nat), (s.grants rq P.CableTestControl 0
    value.toNat = true ∧ value.getLsbD 0 = true ∧ (s.arbitrate rq).taken Res.adc = false ∧ value.getLsbD 3 = true ∧
    (List.range 64).filter (fun q => s.bit P.CableTestPorts 0 q) = p :: ps) →
    Completes (.cableTestStart rq value) s fun t => t.wdp.answer = ⟨0, []⟩ ∧ t.shroud.cable = p :: ps ∧
    t.bit P.CableTestControl 0 1 = true ∧ t.fld P.CableTestControl 0 8 6 = p ∧ t.bit P.LinkStatus p 7 = true ∧
    t.shroudUp p = false ∧ t.taken Res.adc = true ∧ t.dram = s.dram ∧ t.content = s.content) ∧
  (∀ (s : State) (rq : Requester) (value : Word), (s.grants rq P.CableTestControl 0 value.toNat = true ∧
    value.getLsbD 0 = true ∧ (s.arbitrate rq).taken Res.adc = true) → Completes (.cableTestStart rq value) s fun t =>
    t.wdp.answer = ⟨1, []⟩ ∧ t.shroud = s.shroud ∧ t.rd P.CableTestControl 0 = s.rd P.CableTestControl 0) ∧
  (∀ (s : State) (rq : Requester), s.grants rq P.CableTestControl 0 (4 + bitAt 3 (s.bit P.CableTestControl 0 3)) =
    true ∧ s.bit P.CableTestControl 0 1 = true → Completes (.cableTestAbort rq false) s fun t =>
    t.shroud.cableAbort = true ∧ t.bit P.CableTestControl 0 2 = true ∧ t.shroud.cable = s.shroud.cable ∧
    Frame [P.SplitWriteCount] [(P.CableTestControl, 0)] [.answer, .shroud, .twin, .wdp] s t) ∧
  (∀ (s : State) (status : Fin 16) (distance : Half) (p : Nat), s.shroud.cable = [p] ∧ p < 64 →
    Completes (.cablePortTestDone status distance) s fun t => t.shroud.cable = [] ∧
    t.rd P.CableResult p = BitVec.ofNat 64 (status.val * 2 ^ 28 + (if status.val = 0 then 0 else distance.toNat)) ∧
    t.bit P.LinkStatus p 7 = false ∧ t.bit P.CableTestControl 0 1 = false ∧ t.bit P.CableTestControl 0 2 = false ∧
    t.fld P.CableTestControl 0 8 6 = 0 ∧ t.holder Res.adc = 0 ∧
    (∀ q < 64, q ≠ p → t.rd P.CableResult q = s.rd P.CableResult q ∧ t.rd P.LinkStatus q = s.rd P.LinkStatus q) ∧
    Frame [P.CableResult, P.LinkStatus, P.CableTestControl, P.MaintenanceStatus] [] [.shroud, .update] s t) ∧
  (∀ (s : State) (status : Fin 16) (distance : Half) (p q : Nat), s.shroud.cable = [p, q] ∧ p ≠ q ∧ p < 64 ∧ q < 64 ∧
    s.shroud.cableAbort = true → Completes (.cablePortTestDone status distance) s fun t => t.shroud.cable = [] ∧
    t.rd P.CableResult q = BitVec.ofNat 64 (Cable.aborted * 2 ^ 28) ∧ t.bit P.CableTestControl 0 1 = false) ∧
  (∀ (s : State) (status : Fin 16) (distance : Half), s.shroud.cable = [] →
    Completes (.cablePortTestDone status distance) s fun t => Frame [] [] [] s t)

/-- At a cycle start of a running Masthead the written settings come into force, with the loop corrections and the
derating factor, which is 32,768 while derating is off; a burst that waits starts unless a Trim run is in progress;
the length of the cycle that ends and its ticks are shown. Every sink that may conduct takes the on-time of R304 from
the value it shows. While Masthead is disabled or in thermal shutdown no sink has an on-time, and the status bit says
so. When Masthead does not run nothing happens. Beyond the cited rules it rests on the model's own choices: log
entries 134, 198. Rules: R303, R304, R305, R309. -/
def Obligations.PwmCycleStart : Prop :=
  (∀ (s : State) (failed : BitVec 48), s.lampRuns = true → Completes (.pwmCycleStart failed) s fun t =>
    t.masthead.cycle = some s.fullTime ∧
    (∀ p ∈ [P.MastheadControl, P.LoopGain, P.LoopMin, P.PdReference, P.DerateStart, P.DerateEnd, P.DerateMin,
    P.ShutdownTemp] ++ (List.range 8).map (P.GlobalCurrent + ·), ∀ e < 48, t.mset p e = s.rd p e) ∧
    t.masthead.table = some (s.blob P.NtcTable) ∧ t.masthead.factor = t.rdN P.DerateFactor 0 ∧
    (s.bit P.MastheadControl 0 7 = true → t.bit P.MastheadStatus 0 5 = s.bit P.MastheadStatus 0 5 →
    t.rd P.DerateFactor 0 = s.rd P.DerateFactor 0) ∧
    (s.bit P.MastheadControl 0 7 = false → s.masthead.resuming = false →
    t.bit P.MastheadStatus 0 5 = s.bit P.MastheadStatus 0 5 → t.rdN P.DerateFactor 0 = 32768) ∧
    t.masthead.burst = (s.masthead.burstWaits && s.trim.isNone) ∧
    (∀ c < 4, SMap.get 29491 t.masthead.gain c = s.rdN P.LoopCorrection c) ∧
    t.masthead.length = (t.nextCycle s.fullTime - (s.fullTime : Int)).toNat ∧
    t.masthead.ticks = t.activeTicks t.masthead.length ∧ t.bit P.MastheadStatus 0 0 = !t.masthead.onTime.isEmpty ∧
    (∀ c, s.masthead.cycle = some c → t.rdN P.CycleLength 0 = (s.fullTime - c) % 2 ^ 32 ∧
    t.rd P.ActiveTicks 0 = BitVec.ofNat 64 s.masthead.ticks) ∧
    Frame [P.MastheadStatus, P.CycleLength, P.ActiveTicks, P.LedOpenMask, P.RasterStatus, P.IgnoredLast,
    P.DerateFactor] [] [.masthead] s t) ∧
  (∀ (s : State) (failed : BitVec 48), s.lampRuns = true ∧ s.bit P.MastheadControl 0 0 = true ∧
    s.bit P.MastheadStatus 0 5 = false ∧ s.rdI P.NtcTemperature 0 16 < ((s.rd P.ShutdownTemp 0).setWidth 16).toInt →
    Completes (.pwmCycleStart failed) s fun t =>
    (∀ k ∈ t.lampAll, t.keyOff k = false →
    SMap.get 0 t.masthead.onTime k = onTicks (t.shownValue t.sourceValues k)
    (if t.loopOn then s.rdN P.LoopCorrection (t.sinkClass k) else 32768) (t.rdN P.DerateFactor 0) t.masthead.ticks) ∧
    (∀ k ∈ t.lampAll, t.keyOff k = true → SMap.get 0 t.masthead.onTime k = 0)) ∧
  (∀ (s : State) (failed : BitVec 48), s.lampRuns = true ∧
    (s.bit P.MastheadControl 0 0 = false ∨ (s.bit P.MastheadStatus 0 5 = true ∧
    ((s.rd P.ShutdownTemp 0).setWidth 16).toInt - 80 < s.rdI P.NtcTemperature 0 16)) →
    Completes (.pwmCycleStart failed) s fun t => t.masthead.onTime = [] ∧ t.bit P.MastheadStatus 0 0 = false) ∧
  (∀ (s : State) (failed : BitVec 48), s.lampRuns = false → Completes (.pwmCycleStart failed) s fun t =>
    Frame [] [] [] s t) ∧
  (∀ (s : State) (rq : Requester) (frame : Byte), s.grants rq P.RasterCommit 0 frame.toNat = true →
    Completes (.rasterCommit rq frame) s fun t => t.wdp.answer = ⟨0, []⟩ ∧ t.bit P.RasterStatus 0 12 = true ∧
    t.fld P.RasterStatus 0 8 4 = frame.toNat % 16 ∧ t.fld P.RasterStatus 0 4 4 = s.fld P.RasterStatus 0 4 4 ∧
    (s.rdN P.RasterReplaceCount 0 < 0xFFFFFFFE →
    t.rdN P.RasterReplaceCount 0 = s.rdN P.RasterReplaceCount 0 + (s.bit P.RasterStatus 0 12).toNat) ∧
    Frame [P.SplitWriteCount] [(P.RasterStatus, 0), (P.RasterReplaceCount, 0)] [.answer, .twin, .wdp] s t)

/-- A granted write of EngineStart starts from its entry point each enabled engine named whose StartOn is 0; a stop
named in the same clock prevails. A granted write of EngineStop stops each engine named and returns its channels. When
no element frame has applied for the show-loss time the engines with StartOn 2 start, once. Other engines stay as they
are. Beyond the cited rules it rests on the model's own choices: log entry 135. Rules: R318, R321. -/
def Obligations.PatternEngines : Prop :=
  (∀ (s : State) (rq : Requester) (value stopped : Byte), s.grants rq P.EngineStart 0 value.toNat = true ∧
    s.permits rq P.EngineStop = true → Completes (.engineStart rq value stopped) s fun t =>
    (∀ e < 8, t.engine e = if stopped.getLsbD e then Engine.init else if value.getLsbD e && s.fld P.EngineControl e 2
    2 == 0 && s.bit P.EngineControl e 0 then { Engine.init with running := true, pc := s.fld P.EngineControl e 8 8 }
    else s.engine e) ∧ t.masthead = { s.masthead with engines := t.masthead.engines } ∧ t.wdp.answer = ⟨0, []⟩ ∧
    Frame [P.SplitWriteCount] [] [.answer, .masthead, .twin, .wdp] s t) ∧
  (∀ (s : State) (rq : Requester) (value : Byte), s.grants rq P.EngineStop 0 value.toNat = true →
    Completes (.engineStop rq value) s fun t => t.wdp.answer = ⟨0, []⟩ ∧
    (∀ e < 8, t.engine e = if value.getLsbD e then Engine.init else s.engine e) ∧
    t.masthead = { s.masthead with engines := t.masthead.engines } ∧
    Frame [P.SplitWriteCount] [] [.answer, .masthead, .twin, .wdp] s t) ∧
  (∀ (s : State), s.lampRuns = true ∧ s.lampRaster = false ∧ s.masthead.showLost = false →
    Completes (.showLossTimeout) s fun t => t.masthead.showLost = true ∧
    (∀ e < 8, t.engine e = if s.fld P.EngineControl e 2 2 == 2 && s.bit P.EngineControl e 0 then
    { Engine.init with running := true, pc := s.fld P.EngineControl e 8 8 } else s.engine e) ∧
    t.masthead = { s.masthead with engines := t.masthead.engines, showLost := true } ∧ Frame [] [] [.masthead] s t) ∧
  (∀ (s : State), s.lampRuns = false ∨ s.lampRaster = true ∨ s.masthead.showLost = true →
    Completes (.showLossTimeout) s fun t => Frame [] [] [] s t)

/-- A burst in progress ends with its measurements; without one, or during a Trim run, only the burst is over. A
capture copies the responses named to the references. Each derating step moves the factor toward its target by at most
64, to 32,768 when derating is off, at once but after a shutdown in the same steps. The NTC faults, a stale one among
them, show while Masthead is enabled. A supply fault turns every switch off and in scan mode ends the on-times;
recovery clears it. A row's overcurrent turns it off and counts; at 16 in succession it is latched off. Beyond the
cited rules it rests on the model's own choices: log entries 136, 137. Rules: R311, R312, R314, R315, R316, R317. -/
def Obligations.LoopDeratingAndLampFaults : Prop :=
  (∀ (s : State) (samples : List (List Nat)), s.masthead.burst = true ∧ s.trim = none →
    Completes (.loopBurstEnd samples) s fun t => t.masthead = { s.masthead with burst := false } ∧
    (∀ i < 64, i ≠ 2 → t.bit P.MastheadStatus 0 i = s.bit P.MastheadStatus 0 i) ∧
    Frame [P.MastheadStatus, P.PdResponse, P.LoopCorrection, P.LoopHeldCount] [] [.masthead, .wdp, .free] s t) ∧
  (∀ (s : State) (samples : List (List Nat)), s.masthead.burst = false ∨ s.trim.isSome = true →
    Completes (.loopBurstEnd samples) s fun t => t.masthead = { s.masthead with burst := false } ∧
    Frame [] [] [.masthead] s t) ∧
  (∀ (s : State) (rq : Requester) (value : Byte), s.grants rq P.LoopCapture 0 value.toNat = true →
    Completes (.loopCapture rq value) s fun t => t.wdp.answer = ⟨0, []⟩ ∧
    (∀ c < 4, t.rd P.PdReference c = if value.getLsbD c then s.rd P.PdResponse c else s.rd P.PdReference c) ∧
    Frame [P.SplitWriteCount] [(P.PdReference, 0), (P.PdReference, 1), (P.PdReference, 2), (P.PdReference, 3)]
    [.answer, .twin, .wdp] s t) ∧
  (∀ (s : State), s.lampRuns = true → Completes (.derateStep) s fun t =>
    t.rd P.DerateFactor 0 = BitVec.ofInt 64 (if s.derateOn || s.masthead.resuming then (s.rdN P.DerateFactor 0 : Int)
    + clampInt (-64) 64 ((if s.derateOn then s.derateTarget else 32768) - (s.rdN P.DerateFactor 0 : Int)) else 32768)
    ∧ t.bit P.MastheadStatus 0 4 = decide ((if s.derateOn || s.masthead.resuming then (s.rdN P.DerateFactor 0 : Int) +
    clampInt (-64) 64 ((if s.derateOn then s.derateTarget else 32768) - (s.rdN P.DerateFactor 0 : Int)) else 32768) <
    32768) ∧ (∀ i < 64, i ≠ 4 → t.bit P.MastheadStatus 0 i = s.bit P.MastheadStatus 0 i) ∧
    t.masthead = { s.masthead with resuming := t.masthead.resuming } ∧
    Frame [] [(P.DerateFactor, 0), (P.MastheadStatus, 0)] [.masthead] s t) ∧
  (∀ (s : State), s.lampRuns = false → Completes (.derateStep) s fun t => Frame [] [] [] s t) ∧
  (∀ (s : State), Completes (.ntcStale) s fun t => t.masthead = { s.masthead with stale := true } ∧
    (∀ i < 64, t.bit P.MastheadStatus 0 i = if i = 8 then s.lampOn else if i = 6 then s.lampOn &&
    !s.masthead.ntc.isEmpty && decide (4064 * s.masthead.ntc.length ≤ s.masthead.ntc.foldl (· + ·) 0) else if i = 7
    then s.lampOn && !s.masthead.ntc.isEmpty && decide (s.masthead.ntc.foldl (· + ·) 0 ≤ 32 * s.masthead.ntc.length)
    else s.bit P.MastheadStatus 0 i) ∧ Frame [] [(P.MastheadStatus, 0)] [.masthead] s t) ∧
  (∀ (s : State), s.bit P.MastheadStatus 0 3 = false → Completes (.scanSupplyFault) s fun t =>
    t.bit P.MastheadStatus 0 3 = true ∧
    (s.lampStatic = false → t.masthead = { s.masthead with onTime := [] } ∧ t.bit P.MastheadStatus 0 0 = false) ∧
    (s.lampStatic = true → t.masthead = s.masthead ∧ t.bit P.MastheadStatus 0 0 = s.bit P.MastheadStatus 0 0) ∧
    Frame [] [(P.MastheadStatus, 0)] [.masthead] s t) ∧
  (∀ (s : State), s.bit P.MastheadStatus 0 3 = true → Completes (.scanSupplyFault) s fun t => Frame [] [] [] s t) ∧
  (∀ (s : State), Completes (.scanSupplyRecovery) s fun t =>
    (∀ i < 64, t.bit P.MastheadStatus 0 i = (s.bit P.MastheadStatus 0 i && i != 3)) ∧
    Frame [] [(P.MastheadStatus, 0)] [] s t) ∧
  (∀ (s : State) (row : Fin 16), s.lampRuns = true ∧ s.lampStatic = false ∧ row.val ∉ s.masthead.rowsOff ∧
    s.bit P.SwitchLatched 0 row = false → Completes (.switchOvercurrent row) s fun t => row.val ∈ t.masthead.rowsOff ∧
    SMap.get 0 t.masthead.rowFaults row = SMap.get 0 s.masthead.rowFaults row + 1 ∧
    (s.rdN P.SwitchFaultCount 0 < 0xFFFFFFFE → t.rdN P.SwitchFaultCount 0 = s.rdN P.SwitchFaultCount 0 + 1) ∧
    (∀ i < 64, t.bit P.SwitchLatched 0 i =
    (s.bit P.SwitchLatched 0 i || (i == row.val && decide (15 ≤ SMap.get 0 s.masthead.rowFaults row)))) ∧
    t.masthead = { s.masthead with rowsOff := t.masthead.rowsOff, rowFaults := t.masthead.rowFaults } ∧
    Frame [] [(P.SwitchFaultCount, 0), (P.SwitchLatched, 0)] [.masthead, .wdp] s t) ∧
  (∀ (s : State) (row : Fin 16), s.lampRuns = false ∨ s.lampStatic = true ∨ row.val ∈ s.masthead.rowsOff ∨ s.bit
    P.SwitchLatched 0 row = true → Completes (.switchOvercurrent row) s fun t => Frame [] [] [] s t)

/-- A granted start with a target takes the measurement converters for a run of its targets; one without a target is
refused, and one while the converters are taken is Busy. The first automatic run starts while the run temperature
reads none, or is deferred while the converters are held. The first sweep keeps its codes for the second; a second
sweep whose codes agree within the tolerance applies their means and ends the run, and one that does not flags it and
applies none. Darkness that does not come flags a photodiode run, and an abort ends a run with no code changed. Beyond
the cited rules it rests on the model's own choices: log entry 138. Rules: R324, R326, R327, R328, R329, R331. -/
def Obligations.TrimRuns : Prop :=
  (∀ (s : State) (rq : Requester) (value : Word), s.grants rq P.TrimControl 0 value.toNat = true ∧
    value.getLsbD 0 = true ∧ value.getLsbD 1 = false ∧ value.toNat / 16 % 8 ≠ 0 ∧
    (s.arbitrate rq).taken Res.adc = false → Completes (.trimStart rq value) s fun t => t.wdp.answer = ⟨0, []⟩ ∧
    t.trim = some { sweepStart := s.fullTime, sensor := value.getLsbD 6, photodiodes := value.getLsbD 5, sinks :=
                      value.getLsbD 4, automatic := false, range := s.rdN P.PdRange 0, first := none, clamped := false
                      } ∧ t.taken Res.adc = true ∧ t.masthead = { s.masthead with burst := false } ∧
    t.fld P.TrimStatus 0 6 2 = 2 ∧ t.bit P.TrimStatus 0 5 = false ∧
    t.fld P.TrimControl 0 4 4 = value.toNat / 16 % 16 ∧
    Frame [P.SplitWriteCount, P.MaintenanceStatus] [(P.TrimControl, 0), (P.TrimStatus, 0)]
    [.answer, .trim, .masthead, .trouble, .update, .twin, .wdp] s t) ∧
  (∀ (s : State) (rq : Requester) (value : Word), s.grants rq P.TrimControl 0 value.toNat = true ∧
    value.getLsbD 0 = true ∧ value.toNat / 16 % 8 = 0 → Completes (.trimStart rq value) s fun t =>
    t.wdp.answer = ⟨2, []⟩ ∧ Frame [] [] [.answer] s t) ∧
  (∀ (s : State) (rq : Requester) (value : Word), s.grants rq P.TrimControl 0 value.toNat = true ∧
    value.getLsbD 0 = true ∧ value.toNat / 16 % 8 ≠ 0 ∧ (s.arbitrate rq).taken Res.adc = true ∧
    s.autoJustBegan = false → Completes (.trimStart rq value) s fun t => t.wdp.answer = ⟨1, []⟩ ∧ t.trim = s.trim ∧
    t.rd P.TrimControl 0 = s.rd P.TrimControl 0 ∧ t.rd P.TrimStatus 0 = s.rd P.TrimStatus 0) ∧
  (∀ (s : State), s.autoAllowed = true ∧ s.noRun = true ∧ s.fld P.TrimControl 0 4 3 ≠ 0 ∧ s.now.trimStarted = false ∧
    s.resourceFree Res.adc = true → Completes (.trimFirstAuto) s fun t =>
    t.trim = some { sweepStart := s.fullTime, sensor := (s.rd P.TrimControl 0).getLsbD 6, photodiodes :=
                      (s.rd P.TrimControl 0).getLsbD 5, sinks := (s.rd P.TrimControl 0).getLsbD 4, automatic := true,
                    range := s.rdN P.PdRange 0, first := none, clamped := false } ∧ t.bit P.TrimStatus 0 5 = true ∧
    t.fld P.TrimStatus 0 6 2 = 2 ∧ t.taken Res.adc = true ∧
    Frame [P.MaintenanceStatus] [(P.TrimStatus, 0)] [.trim, .masthead, .trouble, .update] s t) ∧
  (∀ (s : State), s.autoAllowed = false ∨ s.noRun = false ∨ s.fld P.TrimControl 0 4 3 = 0 ∨ s.now.trimStarted = true →
    Completes (.trimFirstAuto) s fun t => Frame [] [] [] s t) ∧
  (∀ (s : State), s.autoAllowed = true ∧ s.noRun = true ∧ s.fld P.TrimControl 0 4 3 ≠ 0 ∧ s.now.trimStarted = false ∧
    s.resourceFree Res.adc = false → Completes (.trimFirstAuto) s fun t => t.bit P.TrimStatus 0 2 = true ∧
    t.trouble.trimDeferred = true ∧ t.trim = s.trim ∧ Frame [] [(P.TrimStatus, 0)] [.trouble] s t) ∧
  (∀ (s : State) (x : TrimSweep) (r : TrimRun), s.trim = some r ∧ r.first = none →
    Completes (.trimSweepDone x) s fun t =>
    t.trim = some { r with sweepStart := s.fullTime, first := some (s.sweepCodes r x s.free.1).1, clamped :=
                             (s.sweepCodes r x s.free.1).2 } ∧ t.bit P.TrimStatus 0 6 = true ∧
    (∀ i < 48, r.sinks = true → t.rdN P.SinkMeasured i = x.sinks.getD i 0 % 65536) ∧
    (r.sinks = false → ∀ i < 48, t.rd P.SinkMeasured i = s.rd P.SinkMeasured i) ∧
    Frame [P.SinkMeasured] [(P.TrimStatus, 0)] [.trim, .free] s t) ∧
  (∀ (s : State) (x : TrimSweep) (r : TrimRun) (a : SMap Nat), s.trim = some r ∧ r.first = some a ∧
    (a.map (·.1)).Pairwise (· < ·) ∧ (∀ k ∈ a, k.1 < 256) ∧
    (∀ k ∈ a, codeGap a (s.sweepCodes r x s.free.1).1 k.1 ≤ s.rdN P.TrimTolerance 0) →
    Completes (.trimSweepDone x) s fun t => t.trim = none ∧ t.holder Res.adc = 0 ∧
    t.rd P.RunTemperature 0 = s.rd P.DieTemperature 0 ∧
    (s.rdN P.TrimRunCount 0 < 0xFFFFFFFE → t.rdN P.TrimRunCount 0 = s.rdN P.TrimRunCount 0 + 1) ∧
    t.fld P.TrimStatus 0 6 2 = 0 ∧ t.fld P.TrimStatus 0 8 8 = 16 ∧
    a.all (fun k =>
    t.rd (trimParam (k.1 / 64)) (k.1 % 64) == BitVec.ofNat 64
    ((k.2 + SMap.get 0 (s.sweepCodes r x s.free.1).1 k.1 + 1) / 2)) = true ∧
    Frame [P.SinkMeasured, P.SinkTrim, P.PdOffsetTrim, P.PdGainTrim, P.SensorTrim]
    [(P.TrimControl, 0), (P.TrimStatus, 0), (P.RunTemperature, 0), (P.TrimRunCount, 0), (P.MaintenanceStatus, 0)]
    [.trim, .update, .wdp, .free] s t) ∧
  (∀ (s : State) (x : TrimSweep) (r : TrimRun) (a : SMap Nat), s.trim = some r ∧ r.first = some a ∧
    a.any (fun k => decide (s.rdN P.TrimTolerance 0 < codeGap a (s.sweepCodes r x s.free.1).1 k.1)) = true →
    Completes (.trimSweepDone x) s fun t => t.trim = none ∧ t.holder Res.adc = 0 ∧
    t.rd P.RunTemperature 0 = s.rd P.DieTemperature 0 ∧
    (s.rdN P.TrimRunCount 0 < 0xFFFFFFFE → t.rdN P.TrimRunCount 0 = s.rdN P.TrimRunCount 0 + 1) ∧
    t.fld P.TrimStatus 0 6 2 = 0 ∧ t.fld P.TrimStatus 0 8 8 = 33 ∧
    (s.rdN P.TrimFlagCount 0 < 0xFFFFFFFE → t.rdN P.TrimFlagCount 0 = s.rdN P.TrimFlagCount 0 + 1) ∧
    (∀ q < 4, ∀ i < 256, t.rd (trimParam q) i = s.rd (trimParam q) i) ∧
    Frame [P.SinkMeasured] [(P.LastDisagreement, 0), (P.TrimFlagCount, 0), (P.TrimControl, 0), (P.TrimStatus, 0),
    (P.RunTemperature, 0), (P.TrimRunCount, 0), (P.MaintenanceStatus, 0)] [.trim, .update, .wdp, .free] s t) ∧
  (∀ (s : State) (x : TrimSweep), s.trim = none → Completes (.trimSweepDone x) s fun t => Frame [] [] [] s t) ∧
  (∀ (s : State) (r : TrimRun), s.trim = some r ∧ r.photodiodes = true → Completes (.trimDarkTimeout) s fun t =>
    t.trim = none ∧ t.holder Res.adc = 0 ∧ t.rd P.RunTemperature 0 = s.rd P.DieTemperature 0 ∧
    (s.rdN P.TrimRunCount 0 < 0xFFFFFFFE → t.rdN P.TrimRunCount 0 = s.rdN P.TrimRunCount 0 + 1) ∧
    t.fld P.TrimStatus 0 6 2 = 0 ∧ t.fld P.TrimStatus 0 8 8 = 34 ∧
    (s.rdN P.TrimFlagCount 0 < 0xFFFFFFFE → t.rdN P.TrimFlagCount 0 = s.rdN P.TrimFlagCount 0 + 1) ∧
    Frame [] [(P.TrimFlagCount, 0), (P.TrimControl, 0), (P.TrimStatus, 0), (P.RunTemperature, 0), (P.TrimRunCount, 0),
    (P.MaintenanceStatus, 0)] [.trim, .update, .wdp] s t) ∧
  (∀ (s : State), s.trim = none ∨ s.trim.map (·.photodiodes) = some false → Completes (.trimDarkTimeout) s fun t =>
    Frame [] [] [] s t) ∧
  (∀ (s : State) (rq : Requester), s.grants rq P.TrimControl 0 (2 + 16 * s.fld P.TrimControl 0 4 4) = true ∧
    s.trim.isSome = true → Completes (.trimAbort rq false) s fun t => t.trim = none ∧ t.holder Res.adc = 0 ∧
    t.rd P.RunTemperature 0 = s.rd P.DieTemperature 0 ∧
    (s.rdN P.TrimRunCount 0 < 0xFFFFFFFE → t.rdN P.TrimRunCount 0 = s.rdN P.TrimRunCount 0 + 1) ∧
    t.fld P.TrimStatus 0 6 2 = 0 ∧ t.fld P.TrimStatus 0 8 8 = 48 ∧ t.wdp.answer = ⟨0, []⟩ ∧
    (∀ q < 4, ∀ i < 256, t.rd (trimParam q) i = s.rd (trimParam q) i) ∧
    Frame [P.SplitWriteCount] [(P.TrimControl, 0), (P.TrimStatus, 0), (P.RunTemperature, 0), (P.TrimRunCount, 0),
    (P.MaintenanceStatus, 0)] [.answer, .trim, .trouble, .update, .twin, .wdp] s t)

/-- The trim codes PB010 to PB013 are at their mid codes after reset; no settings save keeps them and none is
mirrored. A read answers them. A granted write applies at once, and the run temperature takes the present die
temperature; a write while a run is in progress is answered Busy and changes nothing. Rules: R332. -/
def Obligations.TrimCodesAreVolatile : Prop :=
  (∀ (q : Fin 4) (r : Row), Dict.row (P.SinkTrim + q.val) = some r → r.stored = false ∧ r.mirrored = false ∧
    (∀ e < 256, State.reset.rd r.num e = r.dflt) ∧ (∀ x ∈ storedRows, x.num ≠ r.num)) ∧
  (∀ (s : State) (rq : Requester) (param : Fin 4) (elem value : Byte), s.grants rq (P.SinkTrim + param.val) elem.toNat
    value.toNat = true ∧ s.trim = none → Completes (.trimCodeWrite rq param elem value) s fun t =>
    t.wdp.answer = ⟨0, []⟩ ∧ t.rd (P.SinkTrim + param.val) elem.toNat = value.setWidth 64 ∧
    t.rd P.RunTemperature 0 = s.rd P.DieTemperature 0 ∧
    Frame [P.SplitWriteCount] [(P.SinkTrim + param.val, elem.toNat), (P.RunTemperature, 0)] [.answer, .twin, .wdp] s
    t) ∧
  (∀ (s : State) (rq : Requester) (param : Fin 4) (elem value : Byte), s.grants rq (P.SinkTrim + param.val) elem.toNat
    value.toNat = true ∧ s.trim.isSome = true → Completes (.trimCodeWrite rq param elem value) s fun t =>
    t.wdp.answer = ⟨1, []⟩ ∧ Frame [] [] [.answer] s t) ∧
  (∀ (s : State) (rq : Requester) (param : Fin 4) (elem : Byte) (r : Row), s.hears rq 1 = true ∧
    s.faults rq (wordAddr rq (P.SinkTrim + param.val) elem.toNat) false = false ∧
    s.reaches (P.SinkTrim + param.val) false = true ∧ Dict.row (P.SinkTrim + param.val) = some r ∧
    elem.toNat < r.elems ∧ s.rd (P.SinkTrim + param.val) elem.toNat < 256 →
    Completes (.read rq (BitVec.ofNat 16 (P.SinkTrim + param.val)) elem 0) s fun t =>
    t.wdp.answer = ⟨0, if rq.onWindow then beBytes 4 (s.rd (P.SinkTrim + param.val) elem.toNat).toNat else
    [(s.rd (P.SinkTrim + param.val) elem.toNat).setWidth 8]⟩ ∧ Frame [] [] [.answer] s t)

/-- While anchors are scheduled and a key serves, an anchor goes on air under the hub's header with the counter of
this instant, which is above the last one sent under the key; it takes the next sequence number and is counted. The
first queued frame whose instant has come, that can end in time and does not reach an anchor, goes on air the same way
and a unicast awaits its acknowledgement. Without an acknowledgement it is tried again or counted as exhausted;
without channel access it is dropped and counted. A listen window opens and closes after its time. A key era that is
neither key's is shown, and Kite is silent. Beyond the cited rules it rests on the model's own choices: log entries
139, 141. Rules: R334, R339, R340, R343, R344, R346, R347, R350. -/
def Obligations.KiteSending : Prop :=
  (∀ (s : State) (key : Nat), s.anchors = true ∧ s.txKey = some key ∧ s.now.driven.contains 7 = false →
    Completes (.kiteAnchor) s fun t => SMap.get none t.kite.counters key = some (s.kiteCounter key) ∧
    t.rd P.LastCounter 0 = (s.kiteCounter key).setWidth 64 ∧
    t.kite.onAir.take 15 = s.hubHeader s.kite.seq 0xFFFF (s.kiteCounter key) key ∧ s.fullTime < t.kite.airEnd ∧
    t.rd P.TxFrameCount_PC040 0 = s.rd P.TxFrameCount_PC040 0 + 1 ∧ t.kite.seq = s.kite.seq + 1 ∧
    t.rd P.AnchorCount 0 = s.rd P.AnchorCount 0 + 1 ∧ t.bit P.KiteStatus 0 4 = false ∧
    t.kite = { s.kite with seq := t.kite.seq, counters := t.kite.counters, onAir := t.kite.onAir, airEnd :=
                             t.kite.airEnd } ∧
    Frame [] [(P.KiteStatus, 0), (P.LastCounter, 0), (P.TxFrameCount_PC040, 0), (P.AnchorCount, 0)] [.kite] s t) ∧
  (∀ (s : State) (key : Nat), s.anchors = true ∧ s.txKey = some key ∧ s.now.driven.contains 7 = false →
    Completes (.kiteAnchor) s fun t =>
    (∀ last : Word, SMap.get none s.kite.counters key = some last → last.toNat < 0xFFFFFFFF →
    last.toNat < t.rdN P.LastCounter 0)) ∧
  (∀ (s : State), s.anchors = true ∧ s.txKey = none ∧ s.now.driven.contains 7 = false →
    Completes (.kiteAnchor) s fun t => t.bit P.KiteStatus 0 4 = s.keyExpired ∧ Frame [] [(P.KiteStatus, 0)] [] s t) ∧
  (∀ (s : State), s.anchors = false ∨ s.now.driven.contains 7 = true → Completes (.kiteAnchor) s fun t =>
    Frame [] [] [] s t) ∧
  (∀ (s : State) (key : Nat) (f : KiteOut) (fs : List KiteOut), s.kiteRuns = true ∧ s.kite.awaiting = none ∧
    s.commands = true ∧ s.timeState ≠ Ts.unset ∧ s.txKey = some key ∧
    s.kite.queue.all (fun x => !s.tooLate x) = true ∧ s.pickFrame s.kite.queue = some (f, fs) ∧
    s.reachesAnchor s.fullTime (s.hubNeeds f) (s.rdN P.AnchorProtect 0 * 1000) = false →
    Completes (.kiteFrameOnAir) s fun t => SMap.get none t.kite.counters key = some (s.kiteCounter key) ∧
    t.rd P.LastCounter 0 = (s.kiteCounter key).setWidth 64 ∧
    t.kite.onAir.take 15 = s.hubHeader f.seq f.dest (s.kiteCounter key) key ∧ s.fullTime < t.kite.airEnd ∧
    t.rd P.TxFrameCount_PC040 0 = s.rd P.TxFrameCount_PC040 0 + 1 ∧ t.kite.queue = fs ∧
    t.kite.awaiting = (if f.dest = 0xFFFF then none else some f) ∧
    t.kite = { s.kite with queue := fs, awaiting := t.kite.awaiting, sent := t.kite.sent, counters := t.kite.counters,
                           onAir := t.kite.onAir, airEnd := t.kite.airEnd } ∧
    Frame [] [(P.KiteStatus, 0), (P.LastCounter, 0), (P.TxFrameCount_PC040, 0)] [.kite] s t) ∧
  (∀ (s : State), s.kiteRuns = false ∨ s.kite.awaiting.isSome = true → Completes (.kiteFrameOnAir) s fun t =>
    Frame [] [] [] s t) ∧
  (∀ (s : State) (f : KiteOut), s.kite.awaiting = some f ∧ f.tries < s.rdN P.MaxRetries 0 →
    Completes (.kiteAckTimeout) s fun t =>
    t.kite = { s.kite with awaiting := none, queue := { f with tries := f.tries + 1 } :: s.kite.queue } ∧
    Frame [] [] [.kite] s t) ∧
  (∀ (s : State) (f : KiteOut), s.kite.awaiting = some f ∧ s.rdN P.MaxRetries 0 ≤ f.tries →
    Completes (.kiteAckTimeout) s fun t => t.kite = { s.kite with awaiting := none } ∧
    (s.rdN P.RetryExhaustCount 0 < 0xFFFFFFFE → t.rdN P.RetryExhaustCount 0 = s.rdN P.RetryExhaustCount 0 + 1) ∧
    Frame [] [(P.RetryExhaustCount, 0)] [.kite, .wdp] s t) ∧
  (∀ (s : State), s.kite.awaiting = none → Completes (.kiteAckTimeout) s fun t => Frame [] [] [] s t) ∧
  (∀ (s : State) (f : KiteOut) (fs : List KiteOut), s.pickFrame s.kite.queue = some (f, fs) ∧ s.kiteRuns = true →
    Completes (.kiteChannelAccessFailure) s fun t => t.kite = { s.kite with queue := fs } ∧
    (s.rdN P.CcaBusyCount 0 < 0xFFFFFFFE → t.rdN P.CcaBusyCount 0 = s.rdN P.CcaBusyCount 0 + 1) ∧
    Frame [] [(P.CcaBusyCount, 0)] [.kite, .wdp] s t) ∧
  (∀ (s : State), s.pickFrame s.kite.queue = none ∨ s.kiteRuns = false →
    Completes (.kiteChannelAccessFailure) s fun t => Frame [] [] [] s t) ∧
  (∀ (s : State), s.anchors = true → Completes (.kiteListenWindow) s fun t =>
    t.kite.listenEnd = some (s.nextAnchor s.fullTime - s.anchorPeriod + s.rdN P.ListenWindow 0 * 1000000) ∧
    t.kite.queue.take s.kite.queue.length = s.kite.queue ∧
    t.kite = { s.kite with queue := t.kite.queue, seq := t.kite.seq, listenEnd := t.kite.listenEnd } ∧
    (s.kiteSilent = true → t.kite.queue = s.kite.queue) ∧ Frame [] [] [.kite] s t) ∧
  (∀ (s : State), s.anchors = false → Completes (.kiteListenWindow) s fun t => Frame [] [] [] s t) ∧
  (∀ (s : State), s.bit P.KiteControl 0 0 = true ∧ s.timeRuns = true → Completes (.keyEraEnd) s fun t =>
    (∀ i < 64, t.bit P.KiteStatus 0 i = if i = 4 then s.keyExpired else s.bit P.KiteStatus 0 i) ∧
    Frame [] [(P.KiteStatus, 0)] [] s t) ∧
  (∀ (s : State), s.bit P.KiteControl 0 0 = false ∨ s.timeRuns = false → Completes (.keyEraEnd) s fun t =>
    Frame [] [] [] s t)

/-- A frame that ends while Kite runs shows its strength; one with a good FCS counts. A data frame to the hub that
asks for it is acknowledged whatever the later checks say. An acknowledgement with the number of the frame that awaits
one ends the wait. A frame outside the subset, or for another PAN or address, counts as discarded. A data frame that
fails the security check counts in the counter of its failure; one that passes counts as a duplicate when its source
and number are in the recent-frame cache, and else enters it. While Kite neither runs nor listens nothing is received.
Beyond the cited rules it rests on the model's own choices: log entries 139, 140. Rules: R342, R343, R345. -/
def Obligations.KiteReception : Prop :=
  (∀ (s : State) (b : List Byte) (fcsOk : Bool) (rssi : Byte), s.kiteRuns = true ∧ fcsOk = true ∧
    (KiteIn.ofPsdu b).isData b.length = true ∧ (KiteIn.ofPsdu b).control / 32 % 2 = 1 ∧
    (KiteIn.ofPsdu b).dest = s.rdN P.ShortAddress 0 ∧ (KiteIn.ofPsdu b).pan = s.rdN P.PanId 0 ∧
    (s.role = .active ∨ s.paired = false) ∧ s.timeState ≠ Ts.unset ∧ s.keyExpired = false ∧
    s.reachesAnchor (s.fullTime + 192000) (airNs 5) 0 = false → Completes (.kiteFrameReceived b fcsOk rssi) s fun t =>
    t.kite.onAir = [0x02, 0x10, (KiteIn.ofPsdu b).seq] ++ leBytes 2 (fcs16 [0x02, 0x10, (KiteIn.ofPsdu b).seq]).toNat
    ∧ t.kite.airEnd = s.fullTime + 192000 + airNs 5) ∧
  (∀ (s : State) (b : List Byte) (fcsOk : Bool) (rssi : Byte), s.kiteRuns = false ∧ s.kiteListens = false →
    Completes (.kiteFrameReceived b fcsOk rssi) s fun t => Frame [] [] [] s t) ∧
  (∀ (s : State) (b : List Byte) (fcsOk : Bool) (rssi : Byte), s.kiteRuns = true ∧ fcsOk = false →
    Completes (.kiteFrameReceived b fcsOk rssi) s fun t => t.fld P.KiteStatus 0 8 8 = rssi.toNat ∧
    Frame [] [(P.KiteStatus, 0)] [] s t) ∧
  (∀ (s : State) (b : List Byte) (fcsOk : Bool) (rssi : Byte) (f : KiteOut), s.kiteRuns = true ∧ fcsOk = true ∧
    (KiteIn.ofPsdu b).isAck b.length = true ∧ s.kite.awaiting = some f →
    Completes (.kiteFrameReceived b fcsOk rssi) s fun t => t.fld P.KiteStatus 0 8 8 = rssi.toNat ∧
    t.rd P.RxFrameCount_PC041 0 = s.rd P.RxFrameCount_PC041 0 + 1 ∧
    t.kite = { s.kite with awaiting := if (KiteIn.ofPsdu b).seq = f.seq then none else some f } ∧
    Frame [] [(P.KiteStatus, 0), (P.RxFrameCount_PC041, 0)] [.kite] s t) ∧
  (∀ (s : State) (b : List Byte) (fcsOk : Bool) (rssi : Byte), s.kiteRuns = true ∧ fcsOk = true ∧
    (KiteIn.ofPsdu b).isAck b.length = false ∧ (KiteIn.ofPsdu b).supported b.length = false ∧
    ((KiteIn.ofPsdu b).isData b.length = false ∨ (KiteIn.ofPsdu b).control / 32 % 2 = 0) →
    Completes (.kiteFrameReceived b fcsOk rssi) s fun t => t.fld P.KiteStatus 0 8 8 = rssi.toNat ∧
    t.rd P.RxFrameCount_PC041 0 = s.rd P.RxFrameCount_PC041 0 + 1 ∧
    (s.rdN P.RxDiscardCount 0 < 0xFFFFFFFE → t.rdN P.RxDiscardCount 0 = s.rdN P.RxDiscardCount 0 + 1) ∧
    Frame [] [(P.KiteStatus, 0), (P.RxFrameCount_PC041, 0), (P.RxDiscardCount, 0)] [.wdp] s t) ∧
  (∀ (s : State) (b : List Byte) (fcsOk : Bool) (rssi : Byte) (c : Nat), s.kiteRuns = true ∧ fcsOk = true ∧
    b.length ≠ 5 ∧ (KiteIn.ofPsdu b).supported b.length = true ∧ (KiteIn.ofPsdu b).pan = s.rdN P.PanId 0 ∧
    ((KiteIn.ofPsdu b).dest = 0xFFFF ∨ (KiteIn.ofPsdu b).dest = s.rdN P.ShortAddress 0) ∧
    (KiteIn.ofPsdu b).control / 32 % 2 = 0 ∧ s.kiteCheck (KiteIn.ofPsdu b) false = .inl c →
    Completes (.kiteFrameReceived b fcsOk rssi) s fun t => t.fld P.KiteStatus 0 8 8 = rssi.toNat ∧
    (s.rdN c 0 < 0xFFFFFFFE → t.rdN c 0 = s.rdN c 0 + 1) ∧ t.kite = s.kite ∧
    Frame [] [(P.KiteStatus, 0), (P.RxFrameCount_PC041, 0), (c, 0)] [.wdp] s t) ∧
  (∀ (s : State) (b : List Byte) (fcsOk : Bool) (rssi : Byte) (m : List Byte), s.kiteRuns = true ∧ fcsOk = true ∧
    b.length ≠ 5 ∧ (KiteIn.ofPsdu b).supported b.length = true ∧ (KiteIn.ofPsdu b).pan = s.rdN P.PanId 0 ∧
    ((KiteIn.ofPsdu b).dest = 0xFFFF ∨ (KiteIn.ofPsdu b).dest = s.rdN P.ShortAddress 0) ∧
    (KiteIn.ofPsdu b).control / 32 % 2 = 0 ∧ s.kiteCheck (KiteIn.ofPsdu b) false = .inr m ∧
    s.cacheAged.any (fun c => c.1 == (KiteIn.ofPsdu b).src && c.2.1 == (KiteIn.ofPsdu b).seq) = true →
    Completes (.kiteFrameReceived b fcsOk rssi) s fun t => t.fld P.KiteStatus 0 8 8 = rssi.toNat ∧
    (s.rdN P.DuplicateCount_PC052 0 < 0xFFFFFFFE →
    t.rdN P.DuplicateCount_PC052 0 = s.rdN P.DuplicateCount_PC052 0 + 1) ∧
    t.kite = { s.kite with cache := s.cacheAged } ∧
    Frame [] [(P.KiteStatus, 0), (P.RxFrameCount_PC041, 0), (P.DuplicateCount_PC052, 0)] [.kite, .wdp] s t) ∧
  (∀ (s : State) (b : List Byte) (fcsOk : Bool) (rssi : Byte) (m : List Byte), s.kiteRuns = true ∧ fcsOk = true ∧
    b.length ≠ 5 ∧ (KiteIn.ofPsdu b).supported b.length = true ∧ (KiteIn.ofPsdu b).pan = s.rdN P.PanId 0 ∧
    ((KiteIn.ofPsdu b).dest = 0xFFFF ∨ (KiteIn.ofPsdu b).dest = s.rdN P.ShortAddress 0) ∧
    (KiteIn.ofPsdu b).control / 32 % 2 = 0 ∧ s.kiteCheck (KiteIn.ofPsdu b) false = .inr m ∧
    s.cacheAged.any (fun c => c.1 == (KiteIn.ofPsdu b).src && c.2.1 == (KiteIn.ofPsdu b).seq) = false →
    Completes (.kiteFrameReceived b fcsOk rssi) s fun t => t.fld P.KiteStatus 0 8 8 = rssi.toNat ∧
    t.kite = { s.kite with cache := (((KiteIn.ofPsdu b).src, (KiteIn.ofPsdu b).seq, s.clock) :: s.cacheAged).take 16 }
    ∧ (s.rdN P.RxDiscardCount 0 < 0xFFFFFFFE →
    t.rdN P.RxDiscardCount 0 = s.rdN P.RxDiscardCount 0 + (!kitePayloadOk m).toNat) ∧
    Frame [] [(P.KiteStatus, 0), (P.RxFrameCount_PC041, 0), (P.RxDiscardCount, 0)] [.kite, .power, .wdp] s t)

/-- The loss of a live path clears its bit, counts, and shows the alarms of the two paths. A standby that has lost its
partner takes Active with the next epoch, once no strap conflict holds it; a joining unit that has heard no partner
becomes Active, at the next latch where the grid has a seed. A resend begins again with the lowest unacknowledged
record. A hand-over is granted to an active unit of a pair in step, with its record, and else refused. A write of the
control takes effect at the next latch where the grid has a seed. A loss of a path not alive changes nothing. Beyond
the cited rules it rests on the model's own choices: log entries 142, 143, 151. Rules: R357, R359, R363, R364, R366,
R372, R374, R379. -/
def Obligations.TwinPathsAndRoles : Prop :=
  (∀ (s : State) (path : Fin 2), s.bit P.TwinStatus 0 (18 + path.val) = true ∧ s.role ≠ .standby →
    Completes (.pathLoss path) s fun t => t.bit P.TwinStatus 0 (18 + path.val) = false ∧
    (s.rdN P.PathLossCount path < 0xFFFFFFFE → t.rdN P.PathLossCount path = s.rdN P.PathLossCount path + 1) ∧
    t.bit P.TwinStatus 0 20 = (s.paired && s.bit P.TwinStatus 0 (19 - path.val)) ∧
    t.bit P.TwinStatus 0 21 = (s.paired && !s.bit P.TwinStatus 0 (19 - path.val)) ∧
    (∀ c < 2, c ≠ path.val → t.rd P.PathLossCount c = s.rd P.PathLossCount c) ∧
    Frame (P.PathLossCount :: P.TwinStatus :: P.TakeoverCount :: egressParams) []
    [.twin, .cue, .bodyWrites, .transfers, .wdp] s t) ∧
  (∀ (s : State) (path : Fin 2), s.bit P.TwinStatus 0 (18 + path.val) = true ∧
    s.bit P.TwinStatus 0 (19 - path.val) = false ∧ s.role = .standby ∧ s.paired = true ∧
    s.bit P.TwinStatus 0 23 = false → Completes (.pathLoss path) s fun t => t.role = .active ∧
    t.epoch = nextEpoch s.twin.lastEpoch ∧
    (s.rdN P.TakeoverCount 0 < 0xFFFFFFFE → t.rdN P.TakeoverCount 0 = s.rdN P.TakeoverCount 0 + 1) ∧
    t.bit P.TwinStatus 0 21 = true ∧ t.twin.partnerHeard = false) ∧
  (∀ (s : State) (path : Fin 2), s.bit P.TwinStatus 0 (18 + path.val) = false → Completes (.pathLoss path) s fun t =>
    Frame [] [] [] s t) ∧
  (∀ (s : State), s.role = .standby ∧ s.bit P.TwinStatus 0 21 = true → Completes (.strapConflictClear) s fun t =>
    t.bit P.TwinStatus 0 23 = false ∧ t.role = .active ∧ t.epoch = nextEpoch s.twin.lastEpoch ∧
    (s.rdN P.TakeoverCount 0 < 0xFFFFFFFE → t.rdN P.TakeoverCount 0 = s.rdN P.TakeoverCount 0 + 1)) ∧
  (∀ (s : State), s.role ≠ .standby ∨ s.bit P.TwinStatus 0 21 = false → Completes (.strapConflictClear) s fun t =>
    (∀ i < 64, t.bit P.TwinStatus 0 i = (s.bit P.TwinStatus 0 i && i != 23)) ∧ Frame [] [(P.TwinStatus, 0)] [] s t) ∧
  (∀ (s : State), s.role = .joining ∧ s.paired = true ∧ s.twin.partnerHeard = false ∧
    s.bit P.TwinStatus 0 23 = false ∧ s.twin.roleAtLatch = none ∧ s.seeded = true →
    Completes (.joinWaitExpiry) s fun t => t.twin = { s.twin with roleAtLatch := some .active } ∧
    Frame [] [] [.twin] s t) ∧
  (∀ (s : State), s.role = .joining ∧ s.paired = true ∧ s.twin.partnerHeard = false ∧
    s.bit P.TwinStatus 0 23 = false ∧ s.twin.roleAtLatch = none ∧ s.seeded = false →
    Completes (.joinWaitExpiry) s fun t => t.role = .active ∧ t.epoch = nextEpoch s.twin.lastEpoch ∧
    t.twin.handOver = none) ∧
  (∀ (s : State), s.role ≠ .joining ∨ s.paired = false ∨ s.twin.partnerHeard = true ∨ s.bit P.TwinStatus 0 23 = true ∨
    s.twin.roleAtLatch.isSome = true → Completes (.joinWaitExpiry) s fun t => Frame [] [] [] s t) ∧
  (∀ (s : State), Completes (.mirrorResend) s fun t => t.twin = { s.twin with sent := 0 } ∧ Frame [] [] [.twin] s t) ∧
  (∀ (s : State) (rq : Requester), s.grants rq P.RoleRequest 0 0x5A = true ∧ s.role = .active ∧ s.seeded = true ∧
    s.twin.partnerHeard = true ∧ s.twin.partnerRole = .standby ∧ s.twin.partnerMirror = .inSync →
    Completes (.roleRequest rq 0x5A) s fun t => t.wdp.answer = ⟨0, []⟩ ∧
    t.twin = { s.twin with handOver := some (s.mirrorFrame, s.twin.nextRecord), unacked := s.twin.unacked ++
                             [(s.twin.nextRecord, { kind := 0x0A, flags := 4, target := BitVec.ofNat 32 s.mirrorFrame,
                                                    data := [] })], nextRecord := s.twin.nextRecord + 1 } ∧
    Frame [] [] [.answer, .twin] s t) ∧
  (∀ (s : State) (rq : Requester), s.grants rq P.RoleRequest 0 0x5A = true ∧
    (s.role ≠ .active ∨ s.seeded = false ∨ s.twin.partnerHeard = false ∨ s.twin.partnerRole ≠ .standby ∨
    s.twin.partnerMirror ≠ .inSync) → Completes (.roleRequest rq 0x5A) s fun t => t.wdp.answer = ⟨2, []⟩ ∧
    Frame [] [] [.answer] s t) ∧
  (∀ (s : State) (rq : Requester) (value : Byte), value ≠ 0x5A ∧ s.grants rq P.RoleRequest 0 value.toNat = true →
    Completes (.roleRequest rq value) s fun t => Frame [] [] [.answer] s t) ∧
  (∀ (s : State) (rq : Requester) (value : Word), s.grants rq P.TwinControl 0 value.toNat = true ∧ s.seeded = true →
    Completes (.twinControlWrite rq value) s fun t => t.wdp.answer = ⟨0, []⟩ ∧
    t.twin = { s.twin with controlPending := some (value &&& 0xF3) } ∧ Frame [] [] [.answer, .twin] s t) ∧
  (∀ (s : State) (rq : Requester) (value : Word), s.grants rq P.TwinControl 0 value.toNat = true ∧ s.seeded = false →
    Completes (.twinControlWrite rq value) s fun t => t.wdp.answer = ⟨0, []⟩ ∧
    t.rd P.TwinControl 0 = (value &&& 0xF3).setWidth 64 ∧ t.twin.controlPending = none ∧
    (s.paired = false → value.getLsbD 0 = true → t.role = .joining ∧ t.mirrorState = .stale ∧ t.twin.output = false) ∧
    (s.paired = true → value.getLsbD 0 = false → t.role = .solo ∧ t.epoch = 0 ∧ t.twin.output = true))

/-- A paired unit in service sends its next numbered burst: preamble, header, records and the CRC-32 of both. A burst
whose CRC does not match, and a stay pennant whose tag does not, is counted and changes nothing else. A pennant that
names this unit's own letter counts a strap conflict and shows it. A valid one of the partner counts and shows the
partner's role and epoch. On a standby the end of a mirrored body's hash is answered by its BlobAck. An unpaired unit
neither sends nor takes a burst. Beyond the cited rules it rests on the model's own choices: log entries 148, 152,
206. Rules: R360, R361, R362, R363, R364, R369. -/
def Obligations.Pennants : Prop :=
  (∀ (s : State), s.stayActive = true ∧ s.paired = true ∧ s.now.driven.contains 8 = false →
    Completes (.pennantBurstStart) s fun t => t.twin.sequence = s.twin.sequence + 1 ∧
    t.twin.lastBurst.take 10 = List.replicate 7 0x55 ++ [0xD5, 0x50, 0x44] ∧
    t.twin.lastBurst.drop (t.twin.lastBurst.length - 4) = beBytes 4
    (crc32 ((t.twin.lastBurst.drop 8).take (t.twin.lastBurst.length - 12))).toNat ∧
    t.twin = { s.twin with sequence := t.twin.sequence, sent := t.twin.sent, lastBurst := t.twin.lastBurst, unacked :=
                             t.twin.unacked, nextRecord := t.twin.nextRecord, timeSent := t.twin.timeSent } ∧
    Frame (P.MirrorRecordCount :: P.ResyncProgress :: egressParams) [] [.twin, .stay, .wdp] s t) ∧
  (∀ (s : State), s.stayActive = false ∨ s.paired = false ∨ s.now.driven.contains 8 = true →
    Completes (.pennantBurstStart) s fun t => Frame [] [] [] s t) ∧
  (∀ (s : State) (bytes : List Byte), s.stayActive = true ∧ s.paired = true ∧
    (bytes.length < 44 ∨ beBytes 4 (crc32 ((bytes.drop 8).take (bytes.length - 12))).toNat ≠ bytes.drop
    (bytes.length - 4)) → Completes (.pennantBurstReceived bytes) s fun t =>
    (s.rdN P.PennantCrcErrorCount 0 < 0xFFFFFFFE →
    t.rdN P.PennantCrcErrorCount 0 = s.rdN P.PennantCrcErrorCount 0 + 1) ∧
    Frame [] [(P.PennantCrcErrorCount, 0)] [.wdp] s t) ∧
  (∀ (s : State) (bytes : List Byte) (h : PennantHead), s.stayActive = true ∧ s.paired = true ∧ 44 ≤ bytes.length ∧
    beBytes 4 (crc32 ((bytes.drop 8).take (bytes.length - 12))).toNat = bytes.drop (bytes.length - 4) ∧
    parsePennant 0 ((bytes.drop 8).take (bytes.length - 12)) = some h ∧ h.unitB = s.unitB →
    Completes (.pennantBurstReceived bytes) s fun t =>
    (s.rdN P.StrapConflictCount 0 < 0xFFFFFFFE → t.rdN P.StrapConflictCount 0 = s.rdN P.StrapConflictCount 0 + 1) ∧
    t.bit P.TwinStatus 0 23 = true ∧ t.twin = s.twin ∧
    Frame [] [(P.StrapConflictCount, 0), (P.TwinStatus, 0)] [.wdp] s t) ∧
  (∀ (s : State) (bytes : List Byte) (h : PennantHead), s.stayActive = true ∧ s.paired = true ∧ 44 ≤ bytes.length ∧
    beBytes 4 (crc32 ((bytes.drop 8).take (bytes.length - 12))).toNat = bytes.drop (bytes.length - 4) ∧
    parsePennant 0 ((bytes.drop 8).take (bytes.length - 12)) = some h ∧ h.unitB ≠ s.unitB ∧ h.count = 0 →
    Completes (.pennantBurstReceived bytes) s fun t => t.rd P.PennantCount 0 = s.rd P.PennantCount 0 + 1 ∧
    t.fld P.TwinStatus 0 14 2 = h.role.code ∧ t.fld P.TwinStatus 0 7 7 = h.epoch.toNat ∧
    t.twin.pennantAt = some s.clock ∧
    Frame (P.TwinStatus :: P.PennantCount :: P.DualActiveCount :: P.HashMismatchCount :: P.ResyncCount_PD027 ::
    P.ResyncProgress :: P.MirrorRecordCount :: P.SplitWriteCount :: egressParams) []
    [.twin, .cue, .bodyWrites, .transfers, .wdp, .stay] s t) ∧
  (∀ (s : State) (bytes : List Byte), s.stayActive = false ∨ s.paired = false →
    Completes (.pennantBurstReceived bytes) s fun t => Frame [] [] [] s t) ∧
  (∀ (s : State) (port : Fin 4) (bytes : List Byte), s.stayActive = true ∧ s.stayEnabled port = true ∧
    s.paired = true ∧ s.bit P.TwinControl 0 1 = true ∧
    (bytes.length ≠ 48 ∨ (hmac (s.blob P.PairKey) (bytes.take 32)).take 16 ≠ bytes.drop 32) →
    Completes (.stayPennantReceived port bytes) s fun t =>
    (s.rdN P.StayTagFailCount 0 < 0xFFFFFFFE → t.rdN P.StayTagFailCount 0 = s.rdN P.StayTagFailCount 0 + 1) ∧
    t.twin = s.twin ∧ Frame [] [(P.StayTagFailCount, 0)] [.stay, .wdp] s t) ∧
  (∀ (s : State) (port : Fin 4) (bytes : List Byte) (h : PennantHead), s.stayActive = true ∧
    s.stayEnabled port = true ∧ s.paired = true ∧ s.bit P.TwinControl 0 1 = true ∧ bytes.length = 48 ∧
    (hmac (s.blob P.PairKey) (bytes.take 32)).take 16 = bytes.drop 32 ∧ parsePennant 1 (bytes.take 32) = some h ∧
    h.unitB ≠ s.unitB → Completes (.stayPennantReceived port bytes) s fun t =>
    t.rd P.PennantCount 0 = s.rd P.PennantCount 0 + 1 ∧ t.fld P.TwinStatus 0 14 2 = h.role.code ∧
    t.fld P.TwinStatus 0 7 7 = h.epoch.toNat ∧ t.twin.stayAt = some s.clock ∧
    Frame (P.TwinStatus :: P.PennantCount :: P.DualActiveCount :: P.HashMismatchCount :: P.ResyncCount_PD027 ::
    P.ResyncProgress :: P.MirrorRecordCount :: P.SplitWriteCount :: egressParams) []
    [.twin, .cue, .bodyWrites, .transfers, .wdp, .stay] s t) ∧
  (∀ (s : State) (port : Fin 4) (bytes : List Byte), s.stayActive = false ∨ s.stayEnabled port = false →
    Completes (.stayPennantReceived port bytes) s fun t => Frame [] [] [] s t) ∧
  (∀ (s : State) (param : Half) (b : MirrorBody), s.serving = true ∧ s.role = .standby ∧
    s.twin.verifying.find? (fun x => x.param == param.toNat) = some b →
    Completes (.mirrorBlobVerified param) s fun t =>
    t.twin.unacked.getLast? = some (t.twin.nextRecord - 1, blobAckRecord param.toNat
    (if sha256 b.body == b.digest then 0 else 1)) ∧ Frame (P.TwinStatus :: egressParams) [] [.twin, .bodies] s t) ∧
  (∀ (s : State) (param : Half), s.serving = false ∨ s.role ≠ .standby ∨ s.twin.verifying.find?
    (fun x => x.param == param.toNat) = none → Completes (.mirrorBlobVerified param) s fun t => Frame [] [] [] s t)

/-- A ready makes a Dormant or Waiting thread Ready, or Slotted at once, at the tail of its list; of one that is Ready
or Slotted it counts a merge, and of a Running one it is noted for its end. A cancel makes a Ready, Waiting or Slotted
thread Dormant, and of a Running one it is noted; each of these is counted, and any other cancel changes nothing. An
event readies exactly the threads bound to it. Alloc answers the lowest free thread, Free gives a Dormant one back,
and a semaphore answers whether it was held. No other thread changes but for its place between its list and a slot. A
core that does not run does none of it. Beyond the cited rules it rests on the model's own choices: log entries 154,
155, 200, 202. Rules: R387, R389, R394. -/
def Obligations.ReadyCancelAndEvents : Prop :=
  (∀ (s : State) (core : Fin 4) (thread : Byte) (n : Nat), s.coreRuns core = true ∧ n = thread.toNat ∧
    ((s.thread n).state = .dormant ∨ (s.thread n).state = .waiting) ∧ (∀ x ∈ s.now.cancelled, x.1 ≠ n) →
    Completes (.schedReady core thread) s fun t => ((t.thread n).state = .ready ∨ (t.thread n).state = .slotted) ∧
    (t.thread n).ticket = s.capstan.nextTicket ∧
    { t.thread n with state := (s.thread n).state, ticket := (s.thread n).ticket } = s.thread n ∧
    t.capstan.nextTicket = s.capstan.nextTicket ∧
    (∀ m < 256, m ≠ n → { t.thread m with state := (s.thread m).state } = s.thread m) ∧
    (∀ m < 256, m ≠ n → (s.thread m).state ≠ .ready → (s.thread m).state ≠ .slotted → t.thread m = s.thread m) ∧
    Frame [P.PreemptCount] [] [.capstan, .power] s t) ∧
  (∀ (s : State) (core : Fin 4) (thread : Byte) (n : Nat), s.coreRuns core = true ∧ n = thread.toNat ∧
    ((s.thread n).state = .dormant ∨ (s.thread n).state = .waiting) ∧ (∃ x ∈ s.now.cancelled, x.1 = n) →
    Completes (.schedReady core thread) s fun t => t.thread n = s.thread n ∧
    t.capstan.nextTicket = s.capstan.nextTicket ∧
    (∀ m < 256, m ≠ n → { t.thread m with state := (s.thread m).state } = s.thread m) ∧
    (∀ m < 256, m ≠ n → (s.thread m).state ≠ .ready → (s.thread m).state ≠ .slotted → t.thread m = s.thread m) ∧
    Frame [P.PreemptCount] [(P.CancelCount, 0)] [.capstan, .power, .wdp] s t) ∧
  (∀ (s : State) (core : Fin 4) (thread : Byte) (n : Nat), s.coreRuns core = true ∧ n = thread.toNat ∧
    ((s.thread n).state = .ready ∨ (s.thread n).state = .slotted) → Completes (.schedReady core thread) s fun t =>
    { t.thread n with state := (s.thread n).state } = s.thread n ∧
    ((t.thread n).state = .ready ∨ (t.thread n).state = .slotted) ∧ t.capstan.nextTicket = s.capstan.nextTicket ∧
    (s.rdN P.MergeCount 0 < 0xFFFFFFFE → t.rdN P.MergeCount 0 = s.rdN P.MergeCount 0 + 1) ∧
    (∀ m < 256, m ≠ n → { t.thread m with state := (s.thread m).state } = s.thread m) ∧
    (∀ m < 256, m ≠ n → (s.thread m).state ≠ .ready → (s.thread m).state ≠ .slotted → t.thread m = s.thread m) ∧
    Frame [P.PreemptCount] [(P.MergeCount, 0)] [.capstan, .power, .wdp] s t) ∧
  (∀ (s : State) (core : Fin 4) (thread : Byte) (n : Nat), s.coreRuns core = true ∧ n = thread.toNat ∧
    (s.thread n).state = .running ∧ (∀ c < 4, (s.core c).slot ≠ some n) →
    Completes (.schedReady core thread) s fun t =>
    t.thread n = { s.thread n with readyAgain := !(s.thread n).cancelPending || (s.thread n).readyAgain } ∧
    t.capstan.nextTicket = s.capstan.nextTicket ∧
    (∀ m < 256, m ≠ n → { t.thread m with state := (s.thread m).state } = s.thread m) ∧
    (∀ m < 256, m ≠ n → (s.thread m).state ≠ .ready → (s.thread m).state ≠ .slotted → t.thread m = s.thread m) ∧
    Frame [P.PreemptCount] [] [.capstan, .power] s t) ∧
  (∀ (s : State) (core : Fin 4) (thread : Byte) (n : Nat), s.coreRuns core = true ∧ n = thread.toNat ∧
    (s.thread n).state = .free → Completes (.schedReady core thread) s fun t => t.thread n = s.thread n ∧
    (∀ m < 256, m ≠ n → { t.thread m with state := (s.thread m).state } = s.thread m) ∧
    (∀ m < 256, m ≠ n → (s.thread m).state ≠ .ready → (s.thread m).state ≠ .slotted → t.thread m = s.thread m) ∧
    Frame [P.PreemptCount] [] [.capstan, .power] s t) ∧
  (∀ (s : State) (core : Fin 4) (thread : Byte) (n : Nat), s.coreRuns core = true ∧ n = thread.toNat ∧
    ((s.thread n).state = .ready ∨ (s.thread n).state = .waiting ∨ (s.thread n).state = .slotted) →
    Completes (.schedCancel core thread) s fun t => t.thread n = { s.thread n with state := .dormant } ∧
    (s.rdN P.CancelCount 0 < 0xFFFFFFFE → t.rdN P.CancelCount 0 = s.rdN P.CancelCount 0 + 1) ∧
    (∀ m < 256, m ≠ n → { t.thread m with state := (s.thread m).state } = s.thread m) ∧
    (∀ m < 256, m ≠ n → (s.thread m).state ≠ .ready → (s.thread m).state ≠ .slotted → t.thread m = s.thread m) ∧
    Frame [P.PreemptCount] [(P.CancelCount, 0)] [.capstan, .power, .wdp] s t) ∧
  (∀ (s : State) (core : Fin 4) (thread : Byte) (n : Nat), s.coreRuns core = true ∧ n = thread.toNat ∧
    (s.thread n).state = .running ∧ (s.thread n).cancelPending = false →
    Completes (.schedCancel core thread) s fun t => t.thread n = { s.thread n with cancelPending := true } ∧
    (s.rdN P.CancelCount 0 < 0xFFFFFFFE → t.rdN P.CancelCount 0 = s.rdN P.CancelCount 0 + 1) ∧
    (∀ m < 256, m ≠ n → { t.thread m with state := (s.thread m).state } = s.thread m) ∧
    (∀ m < 256, m ≠ n → (s.thread m).state ≠ .ready → (s.thread m).state ≠ .slotted → t.thread m = s.thread m) ∧
    Frame [P.PreemptCount] [(P.CancelCount, 0)] [.capstan, .power, .wdp] s t) ∧
  (∀ (s : State) (core : Fin 4) (thread : Byte) (n : Nat), s.coreRuns core = true ∧ n = thread.toNat ∧
    ((s.thread n).state = .dormant ∨ (s.thread n).state = .free ∨
    ((s.thread n).state = .running ∧ (s.thread n).cancelPending = true)) →
    Completes (.schedCancel core thread) s fun t => t.thread n = s.thread n ∧
    (∀ m < 256, m ≠ n → { t.thread m with state := (s.thread m).state } = s.thread m) ∧
    (∀ m < 256, m ≠ n → (s.thread m).state ≠ .ready → (s.thread m).state ≠ .slotted → t.thread m = s.thread m) ∧
    Frame [P.PreemptCount] [] [.capstan, .power] s t) ∧
  (∀ (s : State) (code : Byte), (s.capstan.threads.map (·.1)).Pairwise (· < ·) →
    Completes (.capstanEvent code) s fun t =>
    (∀ m < 256, ((s.thread m).event = code ∧ ((s.thread m).state = .dormant ∨ (s.thread m).state = .waiting)) →
    m ∈ s.capstan.threads.map (·.1) →
    if ∃ x ∈ s.now.cancelled, x.1 = m then t.thread m = s.thread m else
    ((t.thread m).state = .ready ∨ (t.thread m).state = .slotted) ∧ (t.thread m).ticket = s.capstan.nextTicket) ∧
    (∀ m < 256, ¬((s.thread m).event = code ∧ ((s.thread m).state = .dormant ∨ (s.thread m).state = .waiting)) →
    { t.thread m with state := (s.thread m).state } = s.thread m) ∧
    Frame [P.PreemptCount, P.CancelCount] [] [.capstan, .power, .wdp] s t) ∧
  (∀ (s : State) (core : Fin 4) (n : Nat), s.coreRuns core = true ∧ n < 224 ∧ (s.thread n).state = .free ∧
    (∀ m < n, (s.thread m).state ≠ .free) → Completes (.schedAlloc core) s fun t => t.wdp.answer = ⟨0, leBytes 4 n⟩ ∧
    t.thread n = { s.thread n with state := .dormant } ∧ (∀ m < 256, m ≠ n → t.thread m = s.thread m) ∧
    Frame [] [] [.answer, .capstan] s t) ∧
  (∀ (s : State) (core : Fin 4), s.coreRuns core = true ∧ (∀ m < 224, (s.thread m).state ≠ .free) →
    Completes (.schedAlloc core) s fun t => t.wdp.answer = ⟨0, leBytes 4 0xFFFFFFFF⟩ ∧ Frame [] [] [.answer] s t) ∧
  (∀ (s : State) (core : Fin 4) (thread : Byte), s.coreRuns core = true ∧ (s.thread thread.toNat).state = .dormant →
    Completes (.schedFree core thread) s fun t =>
    t.thread thread.toNat = { s.thread thread.toNat with state := .free } ∧
    (∀ m < 256, m ≠ thread.toNat → t.thread m = s.thread m) ∧ Frame [] [] [.capstan] s t) ∧
  (∀ (s : State) (core : Fin 4) (thread : Byte), s.coreRuns core = true ∧ (s.thread thread.toNat).state ≠ .dormant →
    Completes (.schedFree core thread) s fun t => Frame [] [] [] s t) ∧
  (∀ (s : State) (core : Fin 4) (n : Fin 64), s.coreRuns core = true → Completes (.semaphoreTake core n) s fun t =>
    t.wdp.answer = ⟨0, leBytes 4 (s.capstan.semaphores.getLsbD n).toNat⟩ ∧
    (∀ i < 64, t.capstan.semaphores.getLsbD i = (s.capstan.semaphores.getLsbD i || i == n.val)) ∧
    t.capstan.threads = s.capstan.threads ∧ t.capstan.cores = s.capstan.cores ∧ Frame [] [] [.answer, .capstan] s t) ∧
  (∀ (s : State) (core : Fin 4) (n : Fin 64), s.coreRuns core = true → Completes (.semaphoreRelease core n) s fun t =>
    (∀ i < 64, t.capstan.semaphores.getLsbD i = (s.capstan.semaphores.getLsbD i && i != n.val)) ∧
    t.capstan.threads = s.capstan.threads ∧ t.capstan.cores = s.capstan.cores ∧ Frame [] [] [.capstan] s t) ∧
  (∀ (s : State) (core : Fin 4) (thread : Byte), s.coreRuns core = false →
    Completes (.schedReady core thread) s fun t => Frame [] [] [] s t) ∧
  (∀ (s : State) (core : Fin 4) (thread : Byte), s.coreRuns core = false →
    Completes (.schedCancel core thread) s fun t => Frame [] [] [] s t) ∧
  (∀ (s : State) (core : Fin 4), s.coreRuns core = false → Completes (.schedAlloc core) s fun t => Frame [] [] [] s t) ∧
  (∀ (s : State) (core : Fin 4) (thread : Byte), s.coreRuns core = false →
    Completes (.schedFree core thread) s fun t => Frame [] [] [] s t) ∧
  (∀ (s : State) (core : Fin 4) (n : Fin 64), s.coreRuns core = false → Completes (.semaphoreTake core n) s fun t =>
    Frame [] [] [] s t) ∧
  (∀ (s : State) (core : Fin 4) (n : Fin 64), s.coreRuns core = false →
    Completes (.semaphoreRelease core n) s fun t => Frame [] [] [] s t)

/-- Next answers the thread in the core's slot, which becomes Running with its entry, context and argument taken; with
an empty slot it answers all ones. The Running thread leaves the core by Yield to the tail of its list, by Done to
Dormant, or to the tail of its list where a ready came while it ran, and by Wait to Waiting on its event; a cancel
that is pending makes it Dormant in each case. The priority and the event of a descriptor are written at once, its
other fields only while the thread is Free or Dormant. A core that does not run does none of it. Beyond the cited
rules it rests on the model's own choices: log entry 154. Rules: R388, R390, R392, R393, R394, R395. -/
def Obligations.DispatchAndTheRunningThread : Prop :=
  (∀ (s : State) (core : Fin 4) (n : Nat), s.coreRuns core = true ∧ s.capstan.dispatchStopped = false ∧
    s.now.emptied.contains core.val = false ∧ (s.core core).slot = some n ∧ n < 256 ∧ (s.core core).running ≠ some n →
    Completes (.schedNext core) s fun t => t.wdp.answer = ⟨0, leBytes 4 n⟩ ∧ (t.core core).running = some n ∧
    (t.thread n).state = .running ∧
    (t.core core).taken = [(s.thread n).entryPC, (s.thread n).context, (s.thread n).argument] ∧
    t.rd P.DispatchCount core = s.rd P.DispatchCount core + 1 ∧
    (∀ m < 256, m ≠ n → (s.core core).running ≠ some m → { t.thread m with state := (s.thread m).state } = s.thread m)
    ∧ (∀ c < 4, c ≠ core.val → (t.core c).running = (s.core c).running) ∧
    Frame [P.PreemptCount] [(P.DispatchCount, core.val)] [.capstan, .power, .answer] s t) ∧
  (∀ (s : State) (core : Fin 4), s.coreRuns core = true ∧
    (s.capstan.dispatchStopped = true ∨ s.now.emptied.contains core.val = true ∨ (s.core core).slot = none) →
    Completes (.schedNext core) s fun t => t.wdp.answer = ⟨0, leBytes 4 0xFFFFFFFF⟩ ∧ Frame [] [] [.answer] s t) ∧
  (∀ (s : State) (core : Fin 4) (n : Nat), s.coreRuns core = true ∧ (s.core core).running = some n ∧ n < 256 ∧
    (s.thread n).state = .running ∧ (s.thread n).cancelPending = false → Completes (.schedYield core) s fun t =>
    (t.core core).running = none ∧ (∀ m < 256, m ≠ n → { t.thread m with state := (s.thread m).state } = s.thread m) ∧
    (∀ c < 4, c ≠ core.val → (t.core c).running = (s.core c).running) ∧
    (t.core core).yielded = some (s.thread n).priority.toNat ∧
    ((t.thread n).state = .ready ∨ (t.thread n).state = .slotted) ∧ (t.thread n).ticket = s.capstan.nextTicket ∧
    Frame [P.PreemptCount] [] [.capstan, .power] s t) ∧
  (∀ (s : State) (core : Fin 4) (n : Nat), s.coreRuns core = true ∧ (s.core core).running = some n ∧ n < 256 ∧
    (s.thread n).state = .running ∧ (s.thread n).cancelPending = false ∧ (s.thread n).readyAgain = false →
    Completes (.schedDone core) s fun t => (t.core core).running = none ∧
    (∀ m < 256, m ≠ n → { t.thread m with state := (s.thread m).state } = s.thread m) ∧
    (∀ c < 4, c ≠ core.val → (t.core c).running = (s.core c).running) ∧
    t.thread n = { s.thread n with state := .dormant } ∧ Frame [P.PreemptCount] [] [.capstan, .power] s t) ∧
  (∀ (s : State) (core : Fin 4) (n : Nat), s.coreRuns core = true ∧ (s.core core).running = some n ∧ n < 256 ∧
    (s.thread n).state = .running ∧ (s.thread n).cancelPending = false ∧ (s.thread n).readyAgain = true →
    Completes (.schedDone core) s fun t => (t.core core).running = none ∧
    (∀ m < 256, m ≠ n → { t.thread m with state := (s.thread m).state } = s.thread m) ∧
    (∀ c < 4, c ≠ core.val → (t.core c).running = (s.core c).running) ∧
    ((t.thread n).state = .ready ∨ (t.thread n).state = .slotted) ∧ (t.thread n).readyAgain = false ∧
    (t.thread n).ticket = s.capstan.nextTicket ∧ Frame [P.PreemptCount] [] [.capstan, .power] s t) ∧
  (∀ (s : State) (core : Fin 4) (event : Byte) (n : Nat), s.coreRuns core = true ∧ (s.core core).running = some n ∧
    n < 256 ∧ (s.thread n).state = .running ∧ (s.thread n).cancelPending = false →
    Completes (.schedWait core event) s fun t => (t.core core).running = none ∧
    (∀ m < 256, m ≠ n → { t.thread m with state := (s.thread m).state } = s.thread m) ∧
    (∀ c < 4, c ≠ core.val → (t.core c).running = (s.core c).running) ∧
    t.thread n = { s.thread n with state := .waiting, event := event } ∧
    Frame [P.PreemptCount] [] [.capstan, .power] s t) ∧
  (∀ (s : State) (core : Fin 4) (n : Nat), s.coreRuns core = true ∧ (s.core core).running = some n ∧ n < 256 ∧
    (s.thread n).state = .running ∧ (s.thread n).cancelPending = true → Completes (.schedYield core) s fun t =>
    (t.core core).running = none ∧ (∀ m < 256, m ≠ n → { t.thread m with state := (s.thread m).state } = s.thread m) ∧
    t.thread n = { s.thread n with state := .dormant, cancelPending := false, readyAgain := false } ∧
    Frame [P.PreemptCount] [] [.capstan, .power] s t) ∧
  (∀ (s : State) (core : Fin 4) (n : Nat), s.coreRuns core = true ∧ (s.core core).running = some n ∧ n < 256 ∧
    (s.thread n).state = .running ∧ (s.thread n).cancelPending = true → Completes (.schedDone core) s fun t =>
    (t.core core).running = none ∧ (∀ m < 256, m ≠ n → { t.thread m with state := (s.thread m).state } = s.thread m) ∧
    t.thread n = { s.thread n with state := .dormant, cancelPending := false, readyAgain := false } ∧
    Frame [P.PreemptCount] [] [.capstan, .power] s t) ∧
  (∀ (s : State) (core : Fin 4) (event : Byte) (n : Nat), s.coreRuns core = true ∧ (s.core core).running = some n ∧
    n < 256 ∧ (s.thread n).state = .running ∧ (s.thread n).cancelPending = true →
    Completes (.schedWait core event) s fun t => (t.core core).running = none ∧
    (∀ m < 256, m ≠ n → { t.thread m with state := (s.thread m).state } = s.thread m) ∧
    t.thread n = { s.thread n with state := .dormant, cancelPending := false, readyAgain := false } ∧
    Frame [P.PreemptCount] [] [.capstan, .power] s t) ∧
  (∀ (s : State) (core : Fin 4) (thread : Byte) (value : Word) (n : Nat), s.coreRuns core = true ∧ n = thread.toNat →
    Completes (.threadPriorityWrite core thread 0 value) s fun t => (t.thread n).priority = value.extractLsb' 19 5 ∧
    (t.thread n).event = value.extractLsb' 0 8 ∧
    (if (s.thread n).state = .free ∨ (s.thread n).state = .dormant then (t.thread n).user = value.getLsbD 26 ∧
    (t.thread n).affinity = value.extractLsb' 15 4 ∧ (t.thread n).flowValid = value.getLsbD 14 ∧
    (t.thread n).flow = value.extractLsb' 8 6 else (t.thread n).user = (s.thread n).user ∧
    (t.thread n).affinity = (s.thread n).affinity ∧ (t.thread n).flowValid = (s.thread n).flowValid ∧
    (t.thread n).flow = (s.thread n).flow) ∧
    (∀ m < 256, m ≠ n → { t.thread m with state := (s.thread m).state } = s.thread m) ∧
    (∀ m < 256, m ≠ n → (s.thread m).state ≠ .ready → (s.thread m).state ≠ .slotted → t.thread m = s.thread m) ∧
    Frame [P.PreemptCount] [] [.capstan, .power] s t) ∧
  (∀ (s : State) (core : Fin 4) (thread : Byte) (word : Fin 4) (value : Word), s.coreRuns core = true ∧ word ≠ 0 ∧
    ((s.thread thread.toNat).state = .free ∨ (s.thread thread.toNat).state = .dormant) →
    Completes (.threadPriorityWrite core thread word value) s fun t =>
    t.thread thread.toNat = (if word = 1 then { s.thread thread.toNat with entryPC := value } else if word = 2 then
    { s.thread thread.toNat with context := value } else { s.thread thread.toNat with argument := value }) ∧
    (∀ m < 256, m ≠ thread.toNat → t.thread m = s.thread m) ∧ Frame [] [] [.capstan] s t) ∧
  (∀ (s : State) (core : Fin 4) (thread : Byte) (word : Fin 4) (value : Word), s.coreRuns core = true ∧ word ≠ 0 ∧
    (s.thread thread.toNat).state ≠ .free ∧ (s.thread thread.toNat).state ≠ .dormant →
    Completes (.threadPriorityWrite core thread word value) s fun t => Frame [] [] [] s t) ∧
  (∀ (s : State) (core : Fin 4), s.coreRuns core = false → Completes (.schedNext core) s fun t => Frame [] [] [] s t) ∧
  (∀ (s : State) (core : Fin 4), s.coreRuns core = false → Completes (.schedYield core) s fun t => Frame [] [] [] s t) ∧
  (∀ (s : State) (core : Fin 4), s.coreRuns core = false → Completes (.schedDone core) s fun t => Frame [] [] [] s t) ∧
  (∀ (s : State) (core : Fin 4) (event : Byte), s.coreRuns core = false → Completes (.schedWait core event) s fun t =>
    Frame [] [] [] s t) ∧
  (∀ (s : State) (core : Fin 4) (thread : Byte) (word : Fin 4) (value : Word), s.coreRuns core = false →
    Completes (.threadPriorityWrite core thread word value) s fun t => Frame [] [] [] s t)

/-- A trap saves the pc, the cause and the value, notes the mode it came from, enters machine mode and goes to the
trap vector; the register layout is that of the RISC-V privileged architecture, which the spec names and the model
takes from outside it. In machine mode the access fault is counted; in user mode the applet is in Faulted, with the
cause and the pc shown and the fault counted, and every applet thread that waited is Dormant. A running trace stops.
An environment call enters the same way and changes nothing else. A core that does not run takes no trap. Beyond the
cited rules it rests on the model's own choices: log entries 153, 199. Rules: R381, R382, R385. -/
def Obligations.TrapsAndEnvironmentCalls : Prop :=
  (∀ (s : State) (core : Fin 4) (cause value pc : Word), s.coreRuns core = true ∧ (s.core core).user = false →
    Completes (.trap core cause value pc) s fun t => (t.core core).csr = ((s.core core).trap cause value pc).csr ∧
    (t.core core).rdCsr Csr.mepc = pc ∧ (t.core core).rdCsr Csr.mcause = cause ∧
    (t.core core).rdCsr Csr.mtval = value ∧ (t.core core).pc = (s.core core).rdCsr Csr.mtvec &&& ~~~(3 : Word) ∧
    (t.core core).user = false ∧
    (s.rdN P.AccessFaultCount core < 0xFFFFFFFE → t.rdN P.AccessFaultCount core = s.rdN P.AccessFaultCount core + 1) ∧
    (s.bit P.TraceControl 0 0 = true → t.bit P.TraceControl 0 1 = true) ∧
    (∀ c < 4, c ≠ core.val → t.core c = s.core c) ∧ t.capstan.threads = s.capstan.threads ∧
    Frame [] [(P.AccessFaultCount, core.val), (P.TraceControl, 0)] [.capstan, .wdp] s t) ∧
  (∀ (s : State) (core : Fin 4) (cause value pc : Word), s.coreRuns core = true ∧ (s.core core).user = true →
    Completes (.trap core cause value pc) s fun t => (t.core core).csr = ((s.core core).trap cause value pc).csr ∧
    (t.core core).rdCsr Csr.mepc = pc ∧ (t.core core).rdCsr Csr.mcause = cause ∧
    (t.core core).rdCsr Csr.mtval = value ∧ (t.core core).pc = (s.core core).rdCsr Csr.mtvec &&& ~~~(3 : Word) ∧
    (t.core core).user = false ∧ t.rdN P.AppletState 0 = 4 ∧ t.rd P.AppletFaultInfo 0 = cause.setWidth 64 ∧
    t.rd P.AppletFaultInfo 1 = pc.setWidth 64 ∧
    (s.rdN P.AppletFaultCount 0 < 0xFFFFFFFE → t.rdN P.AppletFaultCount 0 = s.rdN P.AppletFaultCount 0 + 1) ∧
    (∀ i < 32, (s.thread (224 + i)).state = .ready ∨ (s.thread (224 + i)).state = .slotted ∨
    (s.thread (224 + i)).state = .waiting → (t.thread (224 + i)).state = .dormant) ∧
    (∀ m < 224, { t.thread m with state := (s.thread m).state } = s.thread m) ∧
    Frame [P.PreemptCount, P.CancelCount]
    [(P.AppletState, 0), (P.AppletFaultInfo, 0), (P.AppletFaultInfo, 1), (P.AppletFaultCount, 0), (P.TraceControl, 0)]
    [.capstan, .wdp] s t) ∧
  (∀ (s : State) (core : Fin 4) (pc : Word), s.coreRuns core = true → Completes (.environmentCall core pc) s fun t =>
    (t.core core).csr = ((s.core core).trap (if (s.core core).user then 8 else 11) 0 pc).csr ∧
    (t.core core).rdCsr Csr.mepc = pc ∧ (t.core core).rdCsr Csr.mcause = (if (s.core core).user then 8 else 11) ∧
    (t.core core).rdCsr Csr.mtval = 0 ∧ (t.core core).pc = (s.core core).rdCsr Csr.mtvec &&& ~~~(3 : Word) ∧
    (t.core core).user = false ∧ (∀ c < 4, c ≠ core.val → t.core c = s.core c) ∧
    t.capstan.threads = s.capstan.threads ∧ Frame [] [] [.capstan] s t) ∧
  (∀ (s : State) (core : Fin 4) (cause value pc : Word), s.coreRuns core = false →
    Completes (.trap core cause value pc) s fun t => Frame [] [] [] s t) ∧
  (∀ (s : State) (core : Fin 4) (pc : Word), s.coreRuns core = false → Completes (.environmentCall core pc) s fun t =>
    Frame [] [] [] s t)

/-- A copy with its extents inside the memories and aligned moves exactly its bytes between firmware SRAM and DRAM and
shows running until it is done; nothing else of either memory changes. Open, data, commit, abort and read do at the
core's level what the block operations do, with their bytes and digests in firmware SRAM, and keep their answer until
the end, which shows it. A start while an operation runs shows Busy and nothing else; a core that does not run starts
none. Beyond the cited rules it rests on the model's own choices: log entry 157. Rules: R398, R104, R105, R106. -/
def Obligations.LocalBlockTransferPorts : Prop :=
  (∀ (s : State) (core : Fin 4) (sram length dramLow dramHigh : Word), s.coreRuns core = true ∧
    (s.core core).bt.running = false ∧ sram.toNat % 4 = 0 ∧ length.toNat % 4 = 0 ∧ dramLow.toNat % 4 = 0 ∧
    sramExtent sram.toNat length.toNat = true ∧ (dramHigh.toNat * 2 ^ 32 + dramLow.toNat) + length.toNat ≤ dramSize →
    Completes (.btCopy core sram length dramLow dramHigh true) s fun t =>
    (t.core core).bt = { (s.core core).bt with control := btControl 0 0 0, sram := sram, length := length, dramLow :=
                                                 dramLow, dramHigh := dramHigh, running := true, result := 0 } ∧
    { t.core core with bt := (s.core core).bt } = s.core core ∧ (∀ c < 4, c ≠ core.val → t.core c = s.core c) ∧
    t.capstan.threads = s.capstan.threads ∧
    (∀ i < length.toNat, t.dramByte ((dramHigh.toNat * 2 ^ 32 + dramLow.toNat) + i) = if dramReserved
    ((dramHigh.toNat * 2 ^ 32 + dramLow.toNat) + i) then 0 else s.sramByte (sram.toNat + i)) ∧
    (∀ a, a < (dramHigh.toNat * 2 ^ 32 + dramLow.toNat) ∨ (dramHigh.toNat * 2 ^ 32 + dramLow.toNat) + length.toNat ≤ a
    → t.dramByte a = s.dramByte a) ∧ t.sram = s.sram ∧ Frame [] [] [.capstan, .memory] s t) ∧
  (∀ (s : State) (core : Fin 4) (sram length dramLow dramHigh : Word), s.coreRuns core = true ∧
    (s.core core).bt.running = false ∧ sram.toNat % 4 = 0 ∧ length.toNat % 4 = 0 ∧ dramLow.toNat % 4 = 0 ∧
    sramExtent sram.toNat length.toNat = true ∧ (dramHigh.toNat * 2 ^ 32 + dramLow.toNat) + length.toNat ≤ dramSize →
    Completes (.btCopy core sram length dramLow dramHigh false) s fun t =>
    (t.core core).bt = { (s.core core).bt with control := btControl 0 0 0, sram := sram, length := length, dramLow :=
                                                 dramLow, dramHigh := dramHigh, running := true, result := 0 } ∧
    { t.core core with bt := (s.core core).bt } = s.core core ∧ (∀ c < 4, c ≠ core.val → t.core c = s.core c) ∧
    t.capstan.threads = s.capstan.threads ∧
    (∀ i < length.toNat, t.sramByte (sram.toNat + i) = s.dramByte ((dramHigh.toNat * 2 ^ 32 + dramLow.toNat) + i)) ∧
    (∀ a, a < sram.toNat ∨ sram.toNat + length.toNat ≤ a → t.sramByte a = s.sramByte a) ∧ t.dram = s.dram ∧
    Frame [] [] [.capstan, .memory] s t) ∧
  (∀ (s : State) (core : Fin 4) (sram length dramLow dramHigh : Word) (toDram : Bool), s.coreRuns core = true ∧
    (s.core core).bt.running = true → Completes (.btCopy core sram length dramLow dramHigh toDram) s fun t =>
    (t.core core).bt = { (s.core core).bt with status := 1 } ∧ (∀ c < 4, c ≠ core.val → t.core c = s.core c) ∧
    t.capstan.threads = s.capstan.threads ∧ Frame [] [] [.capstan] s t) ∧
  (∀ (s : State) (core : Fin 4) (sram length dramLow dramHigh : Word) (toDram : Bool), s.coreRuns core = false →
    Completes (.btCopy core sram length dramLow dramHigh toDram) s fun t => Frame [] [] [] s t) ∧
  (∀ (s : State) (core : Fin 4) (param : Half) (total : Word) (r : Row) (n : Nat), s.coreRuns core = true ∧
    (s.core core).bt.running = false ∧ Dict.row param.toNat = some r ∧ r.ty = .blob ∧
    s.permits (s.btRequester core) param.toNat = true ∧ s.notActive (s.via (s.btRequester core)) r = false ∧
    (∀ m < 4, (s.xfer m).state ≠ .free → (s.xfer m).param ≠ param.toNat) ∧ total.toNat ≤ r.size ∧
    s.openGate param.toNat = 0 ∧ n < 4 ∧ (s.xfer n).state = .free ∧ (∀ m < n, (s.xfer m).state ≠ .free) →
    Completes (.btOpen core param total) s fun t =>
    (t.core core).bt = { (s.core core).bt with control := btControl param.toNat n 1, length := total, running := true,
                                               result := 0 } ∧
    { t.core core with bt := (s.core core).bt } = s.core core ∧ (∀ c < 4, c ≠ core.val → t.core c = s.core c) ∧
    t.capstan.threads = s.capstan.threads ∧
    t.xfer n = { Xfer.free with state := .opened, param := param.toNat, owner := (s.btRequester core), total :=
                                  total.toNat } ∧ (∀ m < 4, m ≠ n → t.xfer m = s.xfer m) ∧
    Frame [] [] [.capstan, .transfers] s t) ∧
  (∀ (s : State) (core : Fin 4) (param : Half) (slot : BitVec 4) (sram length offset : Word), s.coreRuns core = true ∧
    (s.core core).bt.running = false ∧ sramExtent sram.toNat length.toNat = true ∧
    s.permits (s.btRequester core) param.toNat = true ∧
    s.ownsSlot (s.btRequester core) param.toNat slot.toNat = true ∧ (s.xfer slot.toNat).state = .opened ∧
    offset.toNat + length.toNat ≤ (s.xfer slot.toNat).total ∧ (s.xfer slot.toNat).total ≤ 0x2000000 →
    Completes (.btData core param slot sram length offset) s fun t =>
    (t.core core).bt = { (s.core core).bt with control := btControl param.toNat slot.toNat 2, sram := sram, length :=
                                                 length, dramLow := offset, running := true, result := 0 } ∧
    { t.core core with bt := (s.core core).bt } = s.core core ∧ (∀ c < 4, c ≠ core.val → t.core c = s.core c) ∧
    t.capstan.threads = s.capstan.threads ∧ t.xfer slot.toNat = { s.xfer slot.toNat with state := .opened } ∧
    (∀ m < 4, m ≠ slot.toNat → t.xfer m = s.xfer m) ∧
    (∀ i < length.toNat, t.dramByte (s.stagingBase slot.toNat param.toNat + offset.toNat + i) = s.sramByte
    (sram.toNat + i)) ∧
    (∀ a, a < s.stagingBase slot.toNat param.toNat + offset.toNat ∨ s.stagingBase slot.toNat param.toNat +
    offset.toNat + length.toNat ≤ a → t.dramByte a = s.dramByte a) ∧ t.sram = s.sram ∧
    Frame [] [] [.capstan, .transfers, .memory] s t) ∧
  (∀ (s : State) (core : Fin 4) (param : Half) (slot : BitVec 4) (digest : Word), s.coreRuns core = true ∧
    (s.core core).bt.running = false ∧ sramExtent digest.toNat 32 = true ∧
    s.permits (s.btRequester core) param.toNat = true ∧
    s.ownsSlot (s.btRequester core) param.toNat slot.toNat = true ∧ (s.xfer slot.toNat).state = .opened ∧
    (s.xfer slot.toNat).result = none ∧ param.toNat ≠ P.AppletImage ∧ param.toNat ≠ P.RelayRequest →
    Completes (.btCommit core param slot digest) s fun t =>
    (t.core core).bt = { (s.core core).bt with control := btControl param.toNat slot.toNat 3, digest := digest,
                                               running := true, result := 0x0F } ∧
    { t.core core with bt := (s.core core).bt } = s.core core ∧ (∀ c < 4, c ≠ core.val → t.core c = s.core c) ∧
    t.capstan.threads = s.capstan.threads ∧
    t.xfer slot.toNat = { s.xfer slot.toNat with state := .verifying, digest := s.getSram digest.toNat 32 } ∧
    (∀ m < 4, m ≠ slot.toNat → t.xfer m = s.xfer m) ∧ Frame [] [] [.capstan, .transfers] s t) ∧
  (∀ (s : State) (core : Fin 4) (param : Half) (slot : BitVec 4), s.coreRuns core = true ∧
    (s.core core).bt.running = false ∧ s.permits (s.btRequester core) param.toNat = true ∧
    s.ownsSlot (s.btRequester core) param.toNat slot.toNat = true ∧ (s.xfer slot.toNat).state ≠ .latchPending ∧
    (s.xfer slot.toNat).writing = false → Completes (.btAbort core param slot false) s fun t =>
    (t.core core).bt = { (s.core core).bt with control := btControl param.toNat slot.toNat 4, running := true, result
                                                 := 0 } ∧ { t.core core with bt := (s.core core).bt } = s.core core ∧
    (∀ c < 4, c ≠ core.val → t.core c = s.core c) ∧ t.capstan.threads = s.capstan.threads ∧
    t.xfer slot.toNat = Xfer.free ∧ (∀ m < 4, m ≠ slot.toNat → t.xfer m = s.xfer m) ∧
    Frame [] [] [.capstan, .transfers, .twin] s t) ∧
  (∀ (s : State) (core : Fin 4) (param : Half) (slot : BitVec 4), s.coreRuns core = true ∧
    (s.core core).bt.running = false ∧ s.permits (s.btRequester core) param.toNat = true →
    Completes (.btAbort core param slot true) s fun t =>
    (t.core core).bt = { (s.core core).bt with control := btControl param.toNat slot.toNat 4, running := true, result
                                                 := 0x0D } ∧
    { t.core core with bt := (s.core core).bt } = s.core core ∧ (∀ c < 4, c ≠ core.val → t.core c = s.core c) ∧
    t.capstan.threads = s.capstan.threads ∧ Frame [] [] [.capstan] s t) ∧
  (∀ (s : State) (core : Fin 4) (param : Half) (sram length offset : Word) (r : Row), s.coreRuns core = true ∧
    (s.core core).bt.running = false ∧ sramExtent sram.toNat length.toNat = true ∧ Dict.row param.toNat = some r ∧
    r.ty = .blob ∧ r.acc ≠ .wo ∧ r.readLevel ≤ s.level (s.btRequester core) ∧ s.reaches param.toNat false = true →
    Completes (.btRead core param sram length offset) s fun t =>
    (t.core core).bt = { (s.core core).bt with control := btControl param.toNat 0 5, sram := sram, length := length,
                                               dramLow := offset, running := true, result := 0 } ∧
    { t.core core with bt := (s.core core).bt } = s.core core ∧ (∀ c < 4, c ≠ core.val → t.core c = s.core c) ∧
    t.capstan.threads = s.capstan.threads ∧
    (∀ i < (sliceBytes (s.body param.toNat) offset.toNat length.toNat).length, t.sramByte (sram.toNat + i) =
    (sliceBytes (s.body param.toNat) offset.toNat length.toNat).getD i 0) ∧
    (∀ a, a < sram.toNat ∨ sram.toNat + length.toNat ≤ a → t.sramByte a = s.sramByte a) ∧ t.dram = s.dram ∧
    Frame [] [] [.capstan, .memory] s t) ∧
  (∀ (s : State) (core : Fin 4), (s.core core).bt.running = true → Completes (.btDone core) s fun t =>
    (t.core core).bt = { (s.core core).bt with running := false, status := (s.core core).bt.result } ∧
    (∀ c < 4, c ≠ core.val → t.core c = s.core c) ∧ t.capstan.threads = s.capstan.threads ∧
    Frame [] [] [.capstan] s t) ∧
  (∀ (s : State) (core : Fin 4), (s.core core).bt.running = false → Completes (.btDone core) s fun t =>
    Frame [] [] [] s t)

/-- A permitted request body of at most 1,400 bytes starts a relay when none is pending, and holds the port; one that
is pending makes it Busy, and a longer body is Range. A relay without a response times out. Room in a queue that
refused a frame fires its event, once. A start in Loaded, Stopped or Faulted clears the applet area and fills it, sets
up the applet's threads in user mode within their limits, and runs; a stop makes its waiting threads Dormant. Threads
of the system keep their descriptors. Beyond the cited rules it rests on the model's own choices: log entries 159,
160, 195, 204. Rules: R399, R400, R401. -/
def Obligations.RelayAndApplets : Prop :=
  (∀ (s : State) (rq : Requester) (body : List Byte), s.storeFaults rq P.RelayRequest 0 = false ∧
    s.permits rq P.RelayRequest = true ∧ s.hears rq 0 = true ∧ body.length ≤ 1400 ∧ s.rdN P.RelayStatus 0 ≠ 1 →
    Completes (.relayRequest rq body) s fun t => t.wdp.answer = ⟨0, []⟩ ∧ t.rdN P.RelayStatus 0 = 1 ∧
    t.blob P.RelayRequest = body ∧ t.capstan.relayPort = s.rdN P.RelayPort 0 ∧
    (∀ q < 64, q ≠ s.rdN P.RelayPort 0 → t.port q = s.port q) ∧ t.capstan.threads = s.capstan.threads ∧
    t.capstan.cores = s.capstan.cores ∧
    Frame (P.RelayStatus :: egressParams) [] [.answer, .bodies, .capstan, .ports, .sheet, .wdp, .free] s t) ∧
  (∀ (s : State) (rq : Requester) (body : List Byte), s.storeFaults rq P.RelayRequest 0 = false ∧
    s.permits rq P.RelayRequest = true ∧ s.hears rq 0 = true ∧ (1400 < body.length ∨ s.rdN P.RelayStatus 0 = 1) →
    Completes (.relayRequest rq body) s fun t => t.wdp.answer = ⟨if 1400 < body.length then 3 else 1, []⟩ ∧
    Frame [] [] [.answer] s t) ∧
  (∀ (s : State), s.rdN P.RelayStatus 0 = 1 → Completes (.relayTimeout) s fun t => t.rdN P.RelayStatus 0 = 3 ∧
    Frame [] [(P.RelayStatus, 0)] [] s t) ∧
  (∀ (s : State), s.rdN P.RelayStatus 0 ≠ 1 → Completes (.relayTimeout) s fun t => Frame [] [] [] s t) ∧
  (∀ (s : State) (port : Fin 64), s.capstan.bulkRefused.contains port.val = true ∧
    (s.rdN P.RelayStatus 0 ≠ 1 ∨ s.capstan.relayPort ≠ port.val) → Completes (.bulkRoom port) s fun t =>
    t.capstan.bulkRefused = s.capstan.bulkRefused.filter (· != port.val) ∧ t.ports = s.ports ∧
    Frame [P.PreemptCount] [] [.capstan, .power] s t) ∧
  (∀ (s : State) (port : Fin 64), s.capstan.bulkRefused.contains port.val = true ∧ s.rdN P.RelayStatus 0 = 1 ∧
    s.capstan.relayPort = port.val → Completes (.bulkRoom port) s fun t =>
    (∀ q < 64, q ≠ port.val → t.port q = s.port q) ∧
    (∀ q < 64, q ≠ port.val → (t.capstan.bulkRefused.contains q = s.capstan.bulkRefused.contains q)) ∧
    Frame (P.PreemptCount :: egressParams) [] [.capstan, .power, .ports, .sheet, .wdp, .free] s t) ∧
  (∀ (s : State) (port : Fin 64), s.capstan.bulkRefused.contains port.val = false →
    Completes (.bulkRoom port) s fun t => Frame [] [] [] s t) ∧
  (∀ (s : State) (rq : Requester) (value : Word), s.grants rq P.AppletControl 0 (value ||| 1).toNat = true ∧
    value.getLsbD 1 = false ∧ (s.arbitrate rq).now.appletStopped = false ∧
    (s.appletState = 1 ∨ s.appletState = 3 ∨ s.appletState = 4) ∧ appletThreads (s.blob P.AppletImage) ≤ 32 ∧
    appletWord (s.blob P.AppletImage) 0 + appletWord (s.blob P.AppletImage) 1 ≤ appletAreaSize →
    Completes (.appletStart rq value) s fun t => t.wdp.answer = ⟨0, []⟩ ∧ t.rdN P.AppletState 0 = 2 ∧
    t.bit P.AppletControl 0 2 = value.getLsbD 2 ∧
    (List.range (appletThreads (s.blob P.AppletImage))).all (fun i =>
    (t.thread (224 + i)).user && decide ((t.thread (224 + i)).priority.toNat ≤ s.rdN P.AppletPriorityMax 0) &&
    !(t.thread (224 + i)).affinity.getLsbD 0 && !(t.thread (224 + i)).affinity.getLsbD 1 && decide
    (48 ≤ (t.thread (224 + i)).flow.toNat) && (t.thread (224 + i)).event == BitVec.ofNat 8
    ((s.blob P.AppletImage).getD (96 + 8 * i + 7) 0).toNat) = true ∧
    (∀ m < 224, { t.thread m with state := (s.thread m).state } = s.thread m) ∧
    (∀ a, a < Config.appletArea ∨ Config.appletArea + appletAreaSize ≤ a → t.sramByte a = s.sramByte a) ∧
    t.dram = s.dram ∧
    Frame [P.PreemptCount, P.CancelCount, P.MergeCount, P.SplitWriteCount] [(P.AppletState, 0), (P.AppletControl, 0)]
    [.answer, .capstan, .power, .twin, .wdp, .memory, .free] s t) ∧
  (∀ (s : State) (rq : Requester) (value : Word), s.grants rq P.AppletControl 0 (value ||| 1).toNat = true ∧
    (value.getLsbD 1 = true ∨ (s.arbitrate rq).now.appletStopped = true) ∧ s.appletState ≠ 0 →
    Completes (.appletStart rq value) s fun t => t.wdp.answer = ⟨0, []⟩ ∧ t.rdN P.AppletState 0 = 3 ∧
    t.bit P.AppletControl 0 2 = value.getLsbD 2 ∧
    (∀ m < 224, { t.thread m with state := (s.thread m).state } = s.thread m) ∧ t.dram = s.dram ∧
    Frame [P.PreemptCount, P.CancelCount, P.MergeCount, P.SplitWriteCount] [(P.AppletState, 0), (P.AppletControl, 0)]
    [.answer, .capstan, .power, .twin, .wdp, .memory, .free] s t) ∧
  (∀ (s : State) (rq : Requester), s.grants rq P.AppletControl 0 (2 + bitAt 2 (s.bit P.AppletControl 0 2)) = true ∧
    s.appletState ≠ 0 → Completes (.appletStop rq) s fun t => t.wdp.answer = ⟨0, []⟩ ∧ t.rdN P.AppletState 0 = 3 ∧
    (∀ i < 32, (s.thread (224 + i)).state = .ready ∨ (s.thread (224 + i)).state = .slotted ∨
    (s.thread (224 + i)).state = .waiting → (t.thread (224 + i)).state = .dormant) ∧
    (∀ m < 224, { t.thread m with state := (s.thread m).state } = s.thread m) ∧
    Frame [P.PreemptCount, P.CancelCount, P.MergeCount, P.SplitWriteCount] [(P.AppletState, 0), (P.AppletControl, 0)]
    [.answer, .capstan, .power, .twin, .wdp] s t) ∧
  (∀ (s : State) (rq : Requester), s.grants rq P.AppletControl 0 (2 + bitAt 2 (s.bit P.AppletControl 0 2)) = true ∧
    s.appletState = 0 → Completes (.appletStop rq) s fun t => t.wdp.answer = ⟨0, []⟩ ∧
    Frame [P.SplitWriteCount] [(P.AppletControl, 0)] [.answer, .twin, .wdp] s t)

/-- An image write that matches leaves the slot with its next generation, written and unconfirmed; one that does not
leaves the slot as the start of the write left it. Both free the flash. The health word confirms the running slot
while its timer runs, and is Refused once the timer has expired, which rejects the slot; in the clock of the expiry it
confirms all the same, and nothing of the expiry stays. The floor rises to a version of the confirmed running image
and never falls. A save holds the flash with the bank erased; its end commits the bank and counts, a failure or an
abort leaves it uncommitted. A save while the flash is held is Busy. Beyond the cited rules it rests on the model's
own choices: log entries 161, 164, 166, 203. Rules: R408, R410, R411, R412, R413, R414. -/
def Obligations.ImagesHealthAndSettings : Prop :=
  (∀ (s : State) (i : Fin 2) (body : List Byte), s.update.image = some (i, body) →
    Completes (.imageWriteDone none) s fun t =>
    t.slotOf i = { Slot.empty with generation :=
                                     (match s.runningSlot with | some j => (s.slotOf j).generation + 1 | none => 1),
                                   written := 0, image := body } ∧ t.slotOf (1 - i) = s.slotOf (1 - i) ∧
    t.update = { s.update with image := none } ∧ t.fld P.UpdateStatus 0 4 4 = 4 ∧
    t.rd P.ImageWriteProgress 0 = BitVec.ofNat 64 body.length ∧ t.holder Res.flash = 0 ∧
    t.nv = { s.nv with slotA := t.nv.slotA, slotB := t.nv.slotB } ∧
    Frame [] [(P.UpdateStatus, 0), (P.ImageWriteProgress, 0), (P.MaintenanceStatus, 0)]
    [.update, .nonVolatile, .transfers, .wdp] s t) ∧
  (∀ (s : State) (off : Word) (i : Fin 2) (body : List Byte), s.update.image = some (i, body) →
    Completes (.imageWriteDone (some off)) s fun t => t.nv = s.nv ∧ t.update = { s.update with image := none } ∧
    t.fld P.UpdateStatus 0 4 4 = 5 ∧ t.holder Res.flash = 0 ∧
    Frame [] [(P.UpdateStatus, 0), (P.ImageWriteProgress, 0), (P.MaintenanceStatus, 0)] [.update, .transfers, .wdp] s
    t) ∧
  (∀ (s : State) (mismatch : Option Word), s.update.image = none → Completes (.imageWriteDone mismatch) s fun t =>
    Frame [] [] [] s t) ∧
  (∀ (s : State) (rq : Requester) (value : Word) (i : Fin 2) (r : Row), s.grants rq P.HealthConfirm 0 value.toNat =
    true ∧ value = 0x5AFE ∧ s.now.expired = none ∧ s.bit P.UpdateStatus 0 9 = false ∧
    s.update.healthTimer.isSome = true ∧ s.runningSlot = some i ∧
    (s.readOnly (s.via rq) r = false ∧ Dict.row P.HealthConfirm = some r) →
    Completes (.healthConfirm rq value) s fun t => t.wdp.answer = ⟨0, []⟩ ∧
    t.update = { s.update with healthTimer := none } ∧ t.slotOf i = { s.slotOf i with confirmed := 0 } ∧
    t.slotOf (1 - i) = s.slotOf (1 - i) ∧
    Frame [P.SplitWriteCount] [] [.answer, .update, .nonVolatile, .twin, .wdp] s t) ∧
  (∀ (s : State) (rq : Requester) (value : Word), s.grants rq P.HealthConfirm 0 value.toNat = true ∧ value = 0x5AFE ∧
    s.now.expired = none ∧ s.bit P.UpdateStatus 0 9 = true → Completes (.healthConfirm rq value) s fun t =>
    t.wdp.answer = ⟨2, []⟩ ∧ Frame [] [] [.answer] s t) ∧
  (∀ (s : State) (rq : Requester) (value : Word) (i : Fin 2) (x : Slot) (r : Row), s.grants rq P.HealthConfirm 0
    value.toNat = true ∧ value = 0x5AFE ∧ (s.arbitrate rq).now.expired = some x ∧ s.trouble.queue = [] ∧
    s.runningSlot = some i ∧ (s.readOnly (s.via rq) r = false ∧ Dict.row P.HealthConfirm = some r) →
    Completes (.healthConfirm rq value) s fun t => t.wdp.answer = ⟨0, []⟩ ∧ t.slotOf i = { x with confirmed := 0 } ∧
    t.slotOf (1 - i) = s.slotOf (1 - i) ∧ t.bit P.UpdateStatus 0 9 = false ∧ t.update = s.update ∧
    (∀ y ∈ t.trouble.ring.take t.now.logged, y.code.toNat ≠ healthEntry) ∧
    Frame [P.SplitWriteCount] [(P.UpdateStatus, 0)] [.answer, .nonVolatile, .trouble, .twin, .wdp] s t) ∧
  (∀ (s : State) (rq : Requester) (value : Word), s.grants rq P.HealthConfirm 0 value.toNat = true ∧ value ≠ 0x5AFE →
    Completes (.healthConfirm rq value) s fun t => t.wdp.answer = ⟨0, []⟩ ∧ t.nv = s.nv ∧ t.update = s.update ∧
    Frame [P.SplitWriteCount] [] [.answer, .twin, .wdp] s t) ∧
  (∀ (s : State) (i : Fin 2), s.update.healthTimer.isSome = true ∧ s.runningSlot = some i →
    Completes (.healthTimerExpiry) s fun t => t.update = { s.update with healthTimer := none } ∧
    t.slotOf i = { s.slotOf i with rejected := 0 } ∧ t.slotOf (1 - i) = s.slotOf (1 - i) ∧
    t.bit P.UpdateStatus 0 9 = true ∧ Frame [] [(P.UpdateStatus, 0)] [.update, .nonVolatile] s t) ∧
  (∀ (s : State), s.update.healthTimer = none ∨ s.runningSlot = none → Completes (.healthTimerExpiry) s fun t =>
    Frame [] [] [] s t) ∧
  (∀ (s : State) (rq : Requester) (version : Half) (i : Fin 2), s.grants rq P.FloorRequest 0 version.toNat = true ∧
    s.runningSlot = some i ∧ (s.slotOf i).code = 3 ∧ version.toNat ≤ (s.slotOf i).version ∧
    s.nv.floor.toNat ≤ version.toNat → Completes (.floorRequest rq version) s fun t => t.wdp.answer = ⟨0, []⟩ ∧
    t.nv = { s.nv with floor := version } ∧ s.nv.floor.toNat ≤ t.nv.floor.toNat ∧
    Frame [P.SplitWriteCount] [] [.answer, .nonVolatile, .twin, .wdp] s t) ∧
  (∀ (s : State) (rq : Requester) (version : Half), s.grants rq P.FloorRequest 0 version.toNat = true ∧
    version.toNat < s.nv.floor.toNat → Completes (.floorRequest rq version) s fun t => t.wdp.answer = ⟨2, []⟩ ∧
    Frame [] [] [.answer] s t) ∧
  (∀ (s : State) (rq : Requester), s.grants rq P.SettingsControl 0 1 = true ∧
    (s.arbitrate rq).taken Res.flash = false → Completes (.settingsSave rq) s fun t => t.wdp.answer = ⟨0, []⟩ ∧
    t.update = { s.update with save := some (s.saveTarget, bankBytes s.update.format s.nextSequence
                                 (storedRows.flatMap s.paramRecords), false) } ∧ t.bankOf s.saveTarget = Bank.empty ∧
    t.bankOf (1 - s.saveTarget) = s.bankOf (1 - s.saveTarget) ∧ t.taken Res.flash = true ∧
    t.bit P.SettingsControl 0 1 = true ∧
    Frame [P.SplitWriteCount] [(P.SettingsControl, 0), (P.MaintenanceStatus, 0)]
    [.answer, .update, .nonVolatile, .twin, .wdp] s t) ∧
  (∀ (s : State) (rq : Requester), s.grants rq P.SettingsControl 0 1 = true ∧
    (s.arbitrate rq).taken Res.flash = true → Completes (.settingsSave rq) s fun t => t.wdp.answer = ⟨1, []⟩ ∧
    (s.rdN P.ArbiterBusyCount 0 < 0xFFFFFFFE → t.rdN P.ArbiterBusyCount 0 = s.rdN P.ArbiterBusyCount 0 + 1) ∧
    t.nv = s.nv ∧ t.update = s.update ∧ Frame [] [(P.ArbiterBusyCount, 0)] [.answer, .wdp] s t) ∧
  (∀ (s : State) (rq : Requester), s.grants rq P.SettingsControl 0 4 = true ∧ s.update.save.isSome = true →
    Completes (.settingsSaveAbort rq false) s fun t => t.wdp.answer = ⟨0, []⟩ ∧
    t.update = { s.update with save := none } ∧ t.nv = s.nv ∧ t.bit P.SettingsControl 0 1 = false ∧
    t.fld P.SettingsStatus 0 12 4 = 2 ∧ t.holder Res.flash = 0 ∧
    Frame [P.SplitWriteCount] [(P.SettingsControl, 0), (P.SettingsStatus, 0), (P.MaintenanceStatus, 0)]
    [.answer, .update, .transfers, .twin, .wdp] s t) ∧
  (∀ (s : State) (rq : Requester), s.permits rq P.SettingsControl = true ∧
    s.storeFaults rq P.SettingsControl 0 = false ∧ s.hears rq 0 = true →
    Completes (.settingsSaveAbort rq true) s fun t => t.wdp.answer = ⟨0x0D, []⟩ ∧ Frame [] [] [.answer] s t) ∧
  (∀ (s : State) (i : Fin 2) (bytes : List Byte) (importing : Bool), s.update.save = some (i, bytes, importing) →
    Completes (.settingsSaveDone true) s fun t => t.bankOf i = { bytes := bytes, commit := 0 } ∧
    t.bankOf (1 - i) = s.bankOf (1 - i) ∧ t.update = { s.update with save := none } ∧
    (s.rdN P.SettingsSaveCount 0 < 0xFFFFFFFE → t.rdN P.SettingsSaveCount 0 = s.rdN P.SettingsSaveCount 0 + 1) ∧
    t.fld P.SettingsStatus 0 12 4 = 1 ∧ t.bit P.SettingsControl 0 1 = false ∧ t.holder Res.flash = 0 ∧
    Frame [] [(P.SettingsSaveCount, 0), (P.SettingsControl, 0), (P.SettingsStatus, 0), (P.MaintenanceStatus, 0)]
    [.update, .nonVolatile, .transfers, .wdp] s t) ∧
  (∀ (s : State), s.update.save.isSome = true → Completes (.settingsSaveDone false) s fun t => t.nv = s.nv ∧
    t.update = { s.update with save := none } ∧ t.fld P.SettingsStatus 0 12 4 = 3 ∧
    t.bit P.SettingsControl 0 1 = false ∧ t.holder Res.flash = 0 ∧
    Frame [] [(P.SettingsControl, 0), (P.SettingsStatus, 0), (P.MaintenanceStatus, 0)] [.update, .transfers, .wdp] s
    t) ∧
  (∀ (s : State) (ok : Bool), s.update.save = none → Completes (.settingsSaveDone ok) s fun t => Frame [] [] [] s t)

/-- The three words that a core writes in machine mode enter one entry, newest first, with the time and the next
index. An export captures the log as it stands, holds the scrub engine until it is done, and then numbers its bytes. A
scrub started, or due while Periodic is set and the engine is free, runs from line 0; while the engine is held the
periodic one is deferred and a start is Busy. Its end counts what it corrected and shows all of DRAM read; an abort
ends it. A deferred activity whose resource is free starts. Beyond the cited rules it rests on the model's own
choices: log entries 162, 163, 167. Rules: R420, R424, R427, R428, R430, R431. -/
def Obligations.TroubleLogScrubAndDeferredStarts : Prop :=
  (∀ (s : State) (core : Fin 4) (source aux : Byte) (code : Half) (arg0 arg1 : Word), s.trouble.queue = [] ∧
    s.now.logged = 0 ∧ s.trouble.ring.length < 4096 ∧
    (∀ j < 3, s.grants { path := .window core true, session := 0, addr := 0, udp := 0 } P.TroubleWrite
    (4 * core.val + j) 0 = true) → Completes (.troubleWrite core source aux code arg0 arg1) s fun t =>
    t.trouble.ring = (({ tns := s.tns, seconds := s.seconds, sequence := (s.rd P.TroubleIndex 0).setWidth 32, source
                           := source, aux := aux, code := code, arg0 := arg0, arg1 := arg1 } : TroubleEntry) ::
    s.trouble.ring).take 4096 ∧ t.rd P.TroubleIndex 0 = (s.rd P.TroubleIndex 0 + 1) &&& 0xFFFFFFFF ∧
    Frame [P.SplitWriteCount, P.TroubleOverwriteCount] [] [.answer, .trouble, .twin, .wdp] s t) ∧
  (∀ (s : State) (rq : Requester), s.grants rq P.ExportControl 0 1 = true ∧ (s.arbitrate rq).taken Res.scrub = false →
    Completes (.logExport rq) s fun t => t.wdp.answer = ⟨0, []⟩ ∧
    t.trouble.rest = ({ s.trouble with exporting := some (s.arbitrate rq).exportBytes } : Trouble).rest ∧
    t.holder Res.scrub = Hold.exporting ∧
    Frame [P.SplitWriteCount] [(P.MaintenanceStatus, 0)] [.answer, .trouble, .update, .twin, .wdp] s t) ∧
  (∀ (s : State) (rq : Requester), s.grants rq P.ExportControl 0 1 = true ∧ (s.arbitrate rq).taken Res.scrub = true →
    Completes (.logExport rq) s fun t => t.wdp.answer = ⟨1, []⟩ ∧
    (s.rdN P.ArbiterBusyCount 0 < 0xFFFFFFFE → t.rdN P.ArbiterBusyCount 0 = s.rdN P.ArbiterBusyCount 0 + 1) ∧
    Frame [] [(P.ArbiterBusyCount, 0)] [.answer, .wdp] s t) ∧
  (∀ (s : State) (b : List Byte), s.trouble.exporting = some b → Completes (.logExportDone) s fun t =>
    t.blob P.TroubleExport = b ∧ t.rd P.ExportSequence 0 = (s.rd P.ExportSequence 0 + 1) &&& 0xFFFFFFFF ∧
    t.holder Res.scrub = 0 ∧ t.trouble.exporting = none ∧
    Frame [] [(P.ExportSequence, 0), (P.MaintenanceStatus, 0)] [.bodies, .trouble, .update] s t) ∧
  (∀ (s : State), s.trouble.exporting = none → Completes (.logExportDone) s fun t => Frame [] [] [] s t) ∧
  (∀ (s : State) (rq : Requester) (periodic : Bool), s.grants rq P.ScrubControl 0 (1 + bitAt 3 periodic) = true ∧
    (s.arbitrate rq).taken Res.scrub = false → Completes (.scrubStart rq periodic) s fun t => t.wdp.answer = ⟨0, []⟩ ∧
    t.trouble.rest = ({ s.trouble with scrubDeferred := false, scrubStart := some s.clock } : Trouble).rest ∧
    t.rdN P.ScrubProgress 0 = 0 ∧ t.bit P.ScrubControl 0 1 = true ∧ t.holder Res.scrub = Hold.scrub ∧
    t.bit P.ScrubControl 0 3 = periodic ∧
    Frame [P.SplitWriteCount] [(P.ScrubProgress, 0), (P.ScrubControl, 0), (P.MaintenanceStatus, 0)]
    [.answer, .trouble, .update, .twin, .wdp] s t) ∧
  (∀ (s : State) (rq : Requester) (periodic : Bool), s.grants rq P.ScrubControl 0 (1 + bitAt 3 periodic) = true ∧
    (s.arbitrate rq).taken Res.scrub = true → Completes (.scrubStart rq periodic) s fun t => t.wdp.answer = ⟨1, []⟩ ∧
    (s.rdN P.ArbiterBusyCount 0 < 0xFFFFFFFE → t.rdN P.ArbiterBusyCount 0 = s.rdN P.ArbiterBusyCount 0 + 1) ∧
    Frame [] [(P.ArbiterBusyCount, 0)] [.answer, .wdp] s t) ∧
  (∀ (s : State), s.serving = true ∧ s.bit P.ScrubControl 0 3 = true ∧ s.trouble.scrubStart = none ∧
    s.resourceFree Res.scrub = true → Completes (.scrubPeriodic) s fun t =>
    t.trouble.rest = ({ s.trouble with scrubDeferred := false, scrubStart := some s.clock } : Trouble).rest ∧
    t.rdN P.ScrubProgress 0 = 0 ∧ t.bit P.ScrubControl 0 1 = true ∧ t.holder Res.scrub = Hold.scrub ∧
    Frame [] [(P.ScrubProgress, 0), (P.ScrubControl, 0), (P.MaintenanceStatus, 0)] [.trouble, .update] s t) ∧
  (∀ (s : State), s.serving = true ∧ s.bit P.ScrubControl 0 3 = true ∧ s.trouble.scrubStart = none ∧
    s.resourceFree Res.scrub = false → Completes (.scrubPeriodic) s fun t =>
    t.trouble.rest = ({ s.trouble with scrubDeferred := true } : Trouble).rest ∧ Frame [] [] [.trouble] s t) ∧
  (∀ (s : State), s.serving = false ∨ s.bit P.ScrubControl 0 3 = false ∨ s.trouble.scrubStart.isSome = true →
    Completes (.scrubPeriodic) s fun t => Frame [] [] [] s t) ∧
  (∀ (s : State) (rq : Requester), s.grants rq P.ScrubControl 0 (4 + bitAt 3 (s.bit P.ScrubControl 0 3)) = true ∧
    s.trouble.scrubStart.isSome = true → Completes (.scrubAbort rq false) s fun t => t.wdp.answer = ⟨0, []⟩ ∧
    t.trouble.scrubStart = none ∧ t.rdN P.ScrubProgress 0 = s.scrubbed ∧ t.bit P.ScrubControl 0 1 = false ∧
    t.holder Res.scrub = 0 ∧
    Frame [P.SplitWriteCount] [(P.ScrubProgress, 0), (P.ScrubControl, 0), (P.MaintenanceStatus, 0)]
    [.answer, .trouble, .update, .twin, .wdp] s t) ∧
  (∀ (s : State) (rq : Requester), s.permits rq P.ScrubControl = true ∧ s.storeFaults rq P.ScrubControl 0 = false ∧
    s.hears rq 0 = true → Completes (.scrubAbort rq true) s fun t => t.wdp.answer = ⟨0x0D, []⟩ ∧
    Frame [] [] [.answer] s t) ∧
  (∀ (s : State) (corrected : Nat) (uncorrectable : List Word), s.trouble.scrubStart.isSome = true →
    Completes (.scrubDone corrected uncorrectable) s fun t => t.trouble.scrubStart = none ∧
    t.rdN P.ScrubProgress 0 = dramSize ∧ t.bit P.ScrubControl 0 1 = false ∧ t.holder Res.scrub = 0 ∧
    (s.rdN P.ScrubCorrectedCount 0 + corrected < 0xFFFFFFFF →
    t.rdN P.ScrubCorrectedCount 0 = s.rdN P.ScrubCorrectedCount 0 + corrected) ∧
    (s.rdN P.ScrubUncorrectableCount 0 + uncorrectable.length < 0xFFFFFFFF →
    t.rdN P.ScrubUncorrectableCount 0 = s.rdN P.ScrubUncorrectableCount 0 + uncorrectable.length) ∧
    Frame [] [(P.ScrubCorrectedCount, 0), (P.ScrubUncorrectableCount, 0), (P.ScrubProgress, 0), (P.ScrubControl, 0),
    (P.MaintenanceStatus, 0)] [.trouble, .update, .wdp] s t) ∧
  (∀ (s : State) (corrected : Nat) (uncorrectable : List Word), s.trouble.scrubStart = none →
    Completes (.scrubDone corrected uncorrectable) s fun t => Frame [] [] [] s t) ∧
  (∀ (s : State), s.trouble.scrubDeferred = true ∧ s.resourceFree Res.scrub = true ∧
    (s.trouble.trimDeferred = false ∨ s.resourceFree Res.adc = false ∨ s.autoState = false) →
    Completes (.maintenanceDeferredAdmit) s fun t =>
    t.trouble.rest = ({ s.trouble with scrubDeferred := false, scrubStart := some s.clock } : Trouble).rest ∧
    t.rdN P.ScrubProgress 0 = 0 ∧ t.bit P.ScrubControl 0 1 = true ∧ t.holder Res.scrub = Hold.scrub ∧
    t.trim = s.trim ∧
    Frame [] [(P.ScrubProgress, 0), (P.ScrubControl, 0), (P.MaintenanceStatus, 0)] [.trouble, .update] s t) ∧
  (∀ (s : State), s.trouble.trimDeferred = true ∧ s.resourceFree Res.adc = true ∧ s.autoState = true →
    Completes (.maintenanceDeferredAdmit) s fun t => t.trim.map (·.automatic) = some true ∧
    t.holder Res.adc = Hold.trim ∧ t.trouble.trimDeferred = false ∧
    Frame [] [(P.TrimStatus, 0), (P.ScrubProgress, 0), (P.ScrubControl, 0), (P.MaintenanceStatus, 0)]
    [.trim, .trouble, .update, .masthead] s t) ∧
  (∀ (s : State), (s.trouble.trimDeferred = false ∨ s.resourceFree Res.adc = false ∨ s.autoState = false) ∧
    (s.trouble.scrubDeferred = false ∨ s.resourceFree Res.scrub = false) →
    Completes (.maintenanceDeferredAdmit) s fun t => Frame [] [] [] s t)

/-- From every seeded grid whose next boundary is that of its index on the line of R126, the boundary moves the grid
to the boundary of the next index on the same line: the T32 value is floor(k × a / n) modulo 2^32 and the remainder (k
× a) mod n. Rules: R126. -/
def Obligations.GridHoldsItsLine : Prop :=
  (∀ (s : State), s.seeded = true ∧ s.halyard.grid.OnLine ∧ s.now.driven.contains 1 = false →
    Completes (.gridBoundary) s fun t => t.halyard.grid.OnLine ∧ t.halyard.grid.index = s.halyard.grid.index + 1 ∧
    t.halyard.grid.rate = s.halyard.grid.rate ∧
    t.rd P.NextBoundary 0 = BitVec.ofNat 64 (boundary s.halyard.grid.rate (s.halyard.grid.index + 1) % 2 ^ 32))

/-- A T32 value v is compared with the present time n by d = (v − n) mod 2^32: with d from 1 to 2^31 − 1 it is in the
future, and otherwise, d = 0 included, it is due. Rules: R9. -/
def Obligations.T32Comparison : Prop :=
  ∀ v n : T32,
    (future v n = true ↔ 1 ≤ ((v.toNat : Int) - (n.toNat : Int)) % 2 ^ 32 ∧
      ((v.toNat : Int) - (n.toNat : Int)) % 2 ^ 32 ≤ 2 ^ 31 - 1) ∧
    (due v n = true ↔ ¬(1 ≤ ((v.toNat : Int) - (n.toNat : Int)) % 2 ^ 32 ∧
      ((v.toNat : Int) - (n.toNat : Int)) % 2 ^ 32 ≤ 2 ^ 31 - 1))

/-- Of the threads that are Ready (or hold a slot, from which a better one returns them to Ready) and are not held
back by their flow, the one chosen for a core has the core in its affinity and the highest priority, and among equals
it was made ready first; none is chosen only where none is eligible. Among those made ready in the same clock it is
the lowest-numbered: threads that one event readies share the ticket of the clock, which an edge of the clock moves
on. Rules: R390. -/
def Obligations.BestEligibleThread : Prop :=
  (∀ (s : State) (c n : Nat) (u : Thread), bestFor c (s.candidates.filter (fun x => s.flowAllows x.1 x.2)) = some
    (n, u) → (n, u) ∈ s.capstan.threads ∧ (u.state = .ready ∨ u.state = .slotted) ∧ u.affinity.getLsbD c = true ∧
    s.flowAllows n u = true ∧
    (∀ x ∈ s.capstan.threads, (x.2.state = .ready ∨ x.2.state = .slotted) → s.flowAllows x.1 x.2 = true →
    x.2.affinity.getLsbD c = true →
    x.2.priority < u.priority ∨ (x.2.priority = u.priority ∧
    (u.ticket < x.2.ticket ∨ (u.ticket = x.2.ticket ∧ n ≤ x.1))))) ∧
  (∀ (s : State) (c : Nat), bestFor c (s.candidates.filter (fun x => s.flowAllows x.1 x.2)) = none →
    (∀ x ∈ s.capstan.threads, (x.2.state = .ready ∨ x.2.state = .slotted) → s.flowAllows x.1 x.2 = true →
    x.2.affinity.getLsbD c = false)) ∧
  (∀ s : State, s.pending = [] ∧ s.halyard.drives = [] → ∃ t, step s = .next t ∧
    t.capstan.nextTicket = s.capstan.nextTicket + 1) ∧
  (∀ (s : State) (code : Byte), (s.capstan.threads.map (·.1)).Pairwise (· < ·) →
    Completes (.capstanEvent code) s fun t => ∀ m < 256, ∀ j < m, j ∈ s.capstan.threads.map (·.1) →
    m ∈ s.capstan.threads.map (·.1) → (s.thread j).event = code → (s.thread m).event = code →
    ((s.thread j).state = .dormant ∨ (s.thread j).state = .waiting) →
    ((s.thread m).state = .dormant ∨ (s.thread m).state = .waiting) → (∀ x ∈ s.now.cancelled, x.1 ≠ j ∧ x.1 ≠ m) →
    (t.thread j).ticket = s.capstan.nextTicket ∧ (t.thread m).ticket = s.capstan.nextTicket)

/-- From every state whose DRAM, firmware SRAM and dictionary values are listed in their canonical form (keys strictly
rising, no entry equal to what an unlisted one reads as) every step answers a state with the same form. The form, and
that unwritten memory reads as zero, is the model's own. Beyond the cited rules it rests on the model's own choices:
log entries 9, 10. Rules: R4, R382. -/
def Obligations.EveryStepKeepsTheMemoryForm : Prop :=
  ∀ s t : State, s.memoryOk = true → step s = .next t → t.memoryOk = true
end

