-- ==== Sys2Proof/Laws/SMap.lean ====
section
/-! SUPPORT. The laws of the sparse store: a read after a write, a write elsewhere, and the canonical form. -/
namespace Sys2Proof.Machine

variable {V : Type}

/-! ### Find after insert and erase -/

@[simp] theorem SMap.find_insert_same (m : SMap V) (k : Nat) (v : V) : SMap.find (SMap.insert m k v) k = some v := by
  induction m with
  | nil => simp [SMap.insert, SMap.find]
  | cons x m ih =>
    obtain ⟨a, b⟩ := x
    by_cases h1 : k < a
    · simp [SMap.insert, SMap.find, h1]
    · by_cases h2 : a = k
      · simp [SMap.insert, SMap.find, h2]
      · have h3 : ¬k = a := fun e => h2 e.symm
        simp [SMap.insert, SMap.find, h1, h2, h3, ih]

theorem SMap.find_insert_other (m : SMap V) (k j : Nat) (v : V) (h : j ≠ k) :
    SMap.find (SMap.insert m k v) j = SMap.find m j := by
  induction m with
  | nil => simp [SMap.insert, SMap.find, Ne.symm h]
  | cons x m ih =>
    obtain ⟨a, b⟩ := x
    simp only [SMap.insert]
    split
    · simp [SMap.find, Ne.symm h]
    · split
      · rename_i e
        subst e
        simp [SMap.find, Ne.symm h]
      · simp [SMap.find, ih]

@[simp] theorem SMap.find_erase_same (m : SMap V) (k : Nat) : SMap.find (SMap.erase m k) k = none := by
  induction m with
  | nil => rfl
  | cons x m ih =>
    obtain ⟨a, b⟩ := x
    simp only [SMap.erase]
    split
    · exact ih
    · rename_i h
      simp [SMap.find, h, ih]

theorem SMap.find_erase_other (m : SMap V) (k j : Nat) (h : j ≠ k) : SMap.find (SMap.erase m k) j = SMap.find m j := by
  induction m with
  | nil => rfl
  | cons x m ih =>
    obtain ⟨a, b⟩ := x
    simp only [SMap.erase]
    split
    · rename_i e
      subst e
      simp [SMap.find, Ne.symm h, ih]
    · simp [SMap.find, ih]

/-! ### Get after set -/

@[simp] theorem SMap.get_set_same [DecidableEq V] (d : V) (m : SMap V) (k : Nat) (v : V) : SMap.get d (SMap.set d m k v) k = v := by
  unfold SMap.get SMap.set
  split <;> rename_i h <;> split at h <;> simp_all

theorem SMap.get_set_other [DecidableEq V] (d e : V) (m : SMap V) (k j : Nat) (v : V) (h : j ≠ k) :
    SMap.get d (SMap.set e m k v) j = SMap.get d m j := by
  unfold SMap.get
  rw [show SMap.find (SMap.set e m k v) j = SMap.find m j by
    unfold SMap.set
    split
    · exact SMap.find_erase_other m k j h
    · exact SMap.find_insert_other m k j v h]

/-! ### The canonical form -/

/-- Raising no bound keeps a list above it. -/
theorem SMap.above_weaken (m : SMap V) (k : Nat) (h : SMap.above (some k) m = true) : SMap.above none m = true := by
  cases m with
  | nil => rfl
  | cons x m => simp_all [SMap.above]

theorem SMap.above_insert (m : SMap V) (k : Nat) (v : V) (lo : Option Nat) (h : SMap.above lo m = true)
    (hk : ∀ b, lo = some b → b < k) : SMap.above lo (SMap.insert m k v) = true := by
  induction m generalizing lo with
  | nil => cases lo <;> simp_all [SMap.insert, SMap.above]
  | cons x m ih =>
    obtain ⟨a, w⟩ := x
    simp only [SMap.insert]
    simp only [SMap.above, Bool.and_eq_true] at h
    split
    · cases lo <;> simp_all [SMap.above]
    · split
      · rename_i e
        subst e
        cases lo <;> simp_all [SMap.above]
      · rename_i h1 h2
        simp only [SMap.above, Bool.and_eq_true]
        refine ⟨h.1, ih (some a) h.2 ?_⟩
        intro b hb
        cases hb
        omega

theorem SMap.above_lower (m : SMap V) (a b : Nat) (hab : a ≤ b) (h : SMap.above (some b) m = true) :
    SMap.above (some a) m = true := by
  cases m with
  | nil => rfl
  | cons x m =>
    simp only [SMap.above, Bool.and_eq_true, decide_eq_true_eq] at h ⊢
    exact ⟨by omega, h.2⟩

theorem SMap.above_erase (m : SMap V) (k : Nat) (lo : Option Nat) (h : SMap.above lo m = true) :
    SMap.above lo (SMap.erase m k) = true := by
  induction m generalizing lo with
  | nil => exact h
  | cons x m ih =>
    obtain ⟨a, w⟩ := x
    simp only [SMap.above, Bool.and_eq_true] at h
    simp only [SMap.erase]
    split
    · cases lo with
      | none => exact ih none (SMap.above_weaken m a h.2)
      | some b =>
        have hb : b < a := by simpa using h.1
        exact ih (some b) (SMap.above_lower m b a (by omega) h.2)
    · simp only [SMap.above, Bool.and_eq_true]
      exact ⟨h.1, ih (some a) h.2⟩

/-- A write keeps the canonical form over a default function that gives the written key its default. -/
theorem SMap.wf_set [DecidableEq V] (dflt : Nat → V) (m : SMap V) (k : Nat) (v : V) (h : SMap.wf dflt m = true) :
    SMap.wf dflt (SMap.set (dflt k) m k v) = true := by
  unfold SMap.wf at h ⊢
  simp only [Bool.and_eq_true, List.all_eq_true, decide_eq_true_eq] at h ⊢
  unfold SMap.set
  split
  · refine ⟨SMap.above_erase m k none h.1, ?_⟩
    intro x hx
    apply h.2
    clear h
    induction m with
    | nil => exact hx
    | cons y m ih =>
      obtain ⟨a, w⟩ := y
      simp only [SMap.erase] at hx
      split at hx
      · exact List.mem_cons_of_mem _ (ih hx)
      · rcases List.mem_cons.mp hx with h | h
        · exact h ▸ List.mem_cons_self
        · exact List.mem_cons_of_mem _ (ih h)
  · rename_i hv
    refine ⟨SMap.above_insert m k v none h.1 (by simp), ?_⟩
    have mem : ∀ x, x ∈ SMap.insert m k v → x = (k, v) ∨ x ∈ m := by
      clear h
      intro x hx
      induction m with
      | nil => exact Or.inl (by simpa [SMap.insert] using hx)
      | cons y m ih =>
        obtain ⟨a, w⟩ := y
        simp only [SMap.insert] at hx
        split at hx
        · rcases List.mem_cons.mp hx with h | h
          · exact Or.inl h
          · exact Or.inr h
        · split at hx
          · rename_i e
            subst e
            rcases List.mem_cons.mp hx with h | h
            · exact Or.inl h
            · exact Or.inr (List.mem_cons_of_mem _ h)
          · rcases List.mem_cons.mp hx with h | h
            · exact Or.inr (h ▸ List.mem_cons_self)
            · rcases ih h with h | h
              · exact Or.inl h
              · exact Or.inr (List.mem_cons_of_mem _ h)
    intro x hx
    rcases mem x hx with h1 | h1
    · subst h1; exact hv
    · exact h.2 x h1

end Sys2Proof.Machine
end

