-- ==== Sys2Proof/Laws/Memory.lean ====
section
/-! SUPPORT. Every operation that writes memory or the dictionary keeps the canonical form. -/
namespace Sys2Proof.Machine

/-- Both memories are empty after reset, and so in form. -/
theorem reset_dram_wf : SMap.wf (fun _ => (0 : Byte)) State.reset.dram = true := rfl
theorem reset_sram_wf : SMap.wf (fun _ => (0 : Byte)) State.reset.sram = true := rfl

/-- The three parts of the form. -/
theorem memoryOk_iff (s : State) : s.memoryOk = true ↔ SMap.wf (fun _ => 0) s.dram = true ∧
    SMap.wf (fun _ => 0) s.sram = true ∧ SMap.wf Dict.dflt s.regs = true := by
  simp [State.memoryOk, Bool.and_eq_true, and_assoc]

/-- What leaves both memories and the dictionary as they are keeps the form. -/
theorem memoryOk_of_same {s t : State} (hd : t.dram = s.dram) (hs : t.sram = s.sram) (hr : t.regs = s.regs)
    (h : s.memoryOk = true) : t.memoryOk = true := by
  rw [memoryOk_iff] at *
  rw [hd, hs, hr]
  exact h

theorem wr_memoryOk (s : State) (p e : Nat) (v : Wide) (h : s.memoryOk = true) : (s.wr p e v).memoryOk = true := by
  rw [memoryOk_iff] at *
  exact ⟨h.1, h.2.1, SMap.wf_set _ _ _ _ h.2.2⟩

theorem setFld_memoryOk (s : State) (p e lo n x : Nat) (h : s.memoryOk = true) : (s.setFld p e lo n x).memoryOk = true :=
  wr_memoryOk _ _ _ _ h

theorem setBit_memoryOk (s : State) (p e i : Nat) (b : Bool) (h : s.memoryOk = true) : (s.setBit p e i b).memoryOk = true :=
  wr_memoryOk _ _ _ _ h

theorem setDramByte_memoryOk (s : State) (a : Nat) (b : Byte) (h : s.memoryOk = true) :
    (s.setDramByte a b).memoryOk = true := by
  unfold State.setDramByte
  split
  · exact h
  · rw [memoryOk_iff] at *
    exact ⟨SMap.wf_set (fun _ => 0) _ _ _ h.1, h.2⟩

theorem setDram_memoryOk (bs : List Byte) : ∀ (s : State) (a : Nat), s.memoryOk = true → (s.setDram a bs).memoryOk = true := by
  induction bs with
  | nil => exact fun _ _ h => h
  | cons b bs ih => exact fun s a h => ih _ _ (setDramByte_memoryOk s a b h)

theorem setSram_memoryOk (bs : List Byte) : ∀ (s : State) (a : Nat), s.memoryOk = true → (s.setSram a bs).memoryOk = true := by
  induction bs with
  | nil => exact fun _ _ h => h
  | cons b bs ih =>
    intro s a h
    refine ih _ _ ?_
    split
    · rw [memoryOk_iff] at *
      exact ⟨h.1, SMap.wf_set (fun _ => 0) _ _ _ h.2.1, h.2.2⟩
    · exact h

/-- Keys that rise above a bound go on rising when some are left out. -/
theorem SMap.above_filter {V : Type} (f : Nat × V → Bool) (m : SMap V) : ∀ lo, SMap.above lo m = true →
    SMap.above lo (m.filter f) = true := by
  induction m with
  | nil => exact fun _ h => h
  | cons x m ih =>
    obtain ⟨k, v⟩ := x
    intro lo h
    have hm : SMap.above (some k) m = true := by
      simp only [SMap.above, Bool.and_eq_true] at h
      exact h.2
    rw [List.filter_cons]
    split
    · simp only [SMap.above, Bool.and_eq_true] at h ⊢
      exact ⟨h.1, ih _ hm⟩
    · refine ih _ ?_
      cases lo with
      | none => exact SMap.above_weaken _ _ hm
      | some b =>
        simp only [SMap.above, Bool.and_eq_true, decide_eq_true_eq] at h
        exact SMap.above_lower _ _ _ (Nat.le_of_lt h.1) hm

/-- Clearing an area of a store keeps its form. -/
theorem SMap.wf_filter {V : Type} [DecidableEq V] (dflt : Nat → V) (f : Nat × V → Bool) (m : SMap V)
    (h : SMap.wf dflt m = true) : SMap.wf dflt (m.filter f) = true := by
  simp only [SMap.wf, Bool.and_eq_true, List.all_eq_true] at *
  exact ⟨SMap.above_filter f m none h.1, fun x hx => h.2 x (List.mem_filter.mp hx).1⟩

end Sys2Proof.Machine
end

