-- ==== Sys2Proof/Laws/State.lean ====
section
/-! SUPPORT. The small laws of the basic updates of the state: what each leaves of every other field (one lemma for each
field, true by definition), and the values that registers, fields, bits and bodies read after a write. -/
namespace Sys2Proof.Machine

/-! ### wr -/

@[simp] theorem State.wr_pending (s : State) (p e : Nat) (v : Wide) : (s.wr p e v).pending = s.pending := rfl
@[simp] theorem State.wr_clock (s : State) (p e : Nat) (v : Wide) : (s.wr p e v).clock = s.clock := rfl
@[simp] theorem State.wr_now (s : State) (p e : Nat) (v : Wide) : (s.wr p e v).now = s.now := rfl
@[simp] theorem State.wr_rtcPhase (s : State) (p e : Nat) (v : Wide) : (s.wr p e v).rtcPhase = s.rtcPhase := rfl
@[simp] theorem State.wr_freeCount (s : State) (p e : Nat) (v : Wide) : (s.wr p e v).freeCount = s.freeCount := rfl
@[simp] theorem State.wr_live (s : State) (p e : Nat) (v : Wide) : (s.wr p e v).live = s.live := rfl
@[simp] theorem State.wr_content (s : State) (p e : Nat) (v : Wide) : (s.wr p e v).content = s.content := rfl
@[simp] theorem State.wr_blobs (s : State) (p e : Nat) (v : Wide) : (s.wr p e v).blobs = s.blobs := rfl
@[simp] theorem State.wr_blobWrites (s : State) (p e : Nat) (v : Wide) : (s.wr p e v).blobWrites = s.blobWrites := rfl
@[simp] theorem State.wr_dram (s : State) (p e : Nat) (v : Wide) : (s.wr p e v).dram = s.dram := rfl
@[simp] theorem State.wr_sram (s : State) (p e : Nat) (v : Wide) : (s.wr p e v).sram = s.sram := rfl
@[simp] theorem State.wr_power (s : State) (p e : Nat) (v : Wide) : (s.wr p e v).power = s.power := rfl
@[simp] theorem State.wr_nv (s : State) (p e : Nat) (v : Wide) : (s.wr p e v).nv = s.nv := rfl
@[simp] theorem State.wr_wdp (s : State) (p e : Nat) (v : Wide) : (s.wr p e v).wdp = s.wdp := rfl
@[simp] theorem State.wr_trouble (s : State) (p e : Nat) (v : Wide) : (s.wr p e v).trouble = s.trouble := rfl
@[simp] theorem State.wr_halyard (s : State) (p e : Nat) (v : Wide) : (s.wr p e v).halyard = s.halyard := rfl
@[simp] theorem State.wr_stay (s : State) (p e : Nat) (v : Wide) : (s.wr p e v).stay = s.stay := rfl
@[simp] theorem State.wr_video (s : State) (p e : Nat) (v : Wide) : (s.wr p e v).video = s.video := rfl
@[simp] theorem State.wr_cascadeIn (s : State) (p e : Nat) (v : Wide) : (s.wr p e v).cascadeIn = s.cascadeIn := rfl
@[simp] theorem State.wr_sacn (s : State) (p e : Nat) (v : Wide) : (s.wr p e v).sacn = s.sacn := rfl
@[simp] theorem State.wr_merged (s : State) (p e : Nat) (v : Wide) : (s.wr p e v).merged = s.merged := rfl
@[simp] theorem State.wr_cue (s : State) (p e : Nat) (v : Wide) : (s.wr p e v).cue = s.cue := rfl
@[simp] theorem State.wr_twin (s : State) (p e : Nat) (v : Wide) : (s.wr p e v).twin = s.twin := rfl
@[simp] theorem State.wr_capstan (s : State) (p e : Nat) (v : Wide) : (s.wr p e v).capstan = s.capstan := rfl
@[simp] theorem State.wr_update (s : State) (p e : Nat) (v : Wide) : (s.wr p e v).update = s.update := rfl
@[simp] theorem State.wr_render (s : State) (p e : Nat) (v : Wide) : (s.wr p e v).render = s.render := rfl
@[simp] theorem State.wr_sheet (s : State) (p e : Nat) (v : Wide) : (s.wr p e v).sheet = s.sheet := rfl
@[simp] theorem State.wr_shroud (s : State) (p e : Nat) (v : Wide) : (s.wr p e v).shroud = s.shroud := rfl
@[simp] theorem State.wr_ports (s : State) (p e : Nat) (v : Wide) : (s.wr p e v).ports = s.ports := rfl
@[simp] theorem State.wr_masthead (s : State) (p e : Nat) (v : Wide) : (s.wr p e v).masthead = s.masthead := rfl
@[simp] theorem State.wr_trim (s : State) (p e : Nat) (v : Wide) : (s.wr p e v).trim = s.trim := rfl
@[simp] theorem State.wr_kite (s : State) (p e : Nat) (v : Wide) : (s.wr p e v).kite = s.kite := rfl

/-! ### setFld -/

@[simp] theorem State.setFld_pending (s : State) (p e lo n x : Nat) : (s.setFld p e lo n x).pending = s.pending := rfl
@[simp] theorem State.setFld_clock (s : State) (p e lo n x : Nat) : (s.setFld p e lo n x).clock = s.clock := rfl
@[simp] theorem State.setFld_now (s : State) (p e lo n x : Nat) : (s.setFld p e lo n x).now = s.now := rfl
@[simp] theorem State.setFld_rtcPhase (s : State) (p e lo n x : Nat) : (s.setFld p e lo n x).rtcPhase = s.rtcPhase := rfl
@[simp] theorem State.setFld_freeCount (s : State) (p e lo n x : Nat) : (s.setFld p e lo n x).freeCount = s.freeCount := rfl
@[simp] theorem State.setFld_live (s : State) (p e lo n x : Nat) : (s.setFld p e lo n x).live = s.live := rfl
@[simp] theorem State.setFld_content (s : State) (p e lo n x : Nat) : (s.setFld p e lo n x).content = s.content := rfl
@[simp] theorem State.setFld_blobs (s : State) (p e lo n x : Nat) : (s.setFld p e lo n x).blobs = s.blobs := rfl
@[simp] theorem State.setFld_blobWrites (s : State) (p e lo n x : Nat) : (s.setFld p e lo n x).blobWrites = s.blobWrites := rfl
@[simp] theorem State.setFld_dram (s : State) (p e lo n x : Nat) : (s.setFld p e lo n x).dram = s.dram := rfl
@[simp] theorem State.setFld_sram (s : State) (p e lo n x : Nat) : (s.setFld p e lo n x).sram = s.sram := rfl
@[simp] theorem State.setFld_power (s : State) (p e lo n x : Nat) : (s.setFld p e lo n x).power = s.power := rfl
@[simp] theorem State.setFld_nv (s : State) (p e lo n x : Nat) : (s.setFld p e lo n x).nv = s.nv := rfl
@[simp] theorem State.setFld_wdp (s : State) (p e lo n x : Nat) : (s.setFld p e lo n x).wdp = s.wdp := rfl
@[simp] theorem State.setFld_trouble (s : State) (p e lo n x : Nat) : (s.setFld p e lo n x).trouble = s.trouble := rfl
@[simp] theorem State.setFld_halyard (s : State) (p e lo n x : Nat) : (s.setFld p e lo n x).halyard = s.halyard := rfl
@[simp] theorem State.setFld_stay (s : State) (p e lo n x : Nat) : (s.setFld p e lo n x).stay = s.stay := rfl
@[simp] theorem State.setFld_video (s : State) (p e lo n x : Nat) : (s.setFld p e lo n x).video = s.video := rfl
@[simp] theorem State.setFld_cascadeIn (s : State) (p e lo n x : Nat) : (s.setFld p e lo n x).cascadeIn = s.cascadeIn := rfl
@[simp] theorem State.setFld_sacn (s : State) (p e lo n x : Nat) : (s.setFld p e lo n x).sacn = s.sacn := rfl
@[simp] theorem State.setFld_merged (s : State) (p e lo n x : Nat) : (s.setFld p e lo n x).merged = s.merged := rfl
@[simp] theorem State.setFld_cue (s : State) (p e lo n x : Nat) : (s.setFld p e lo n x).cue = s.cue := rfl
@[simp] theorem State.setFld_twin (s : State) (p e lo n x : Nat) : (s.setFld p e lo n x).twin = s.twin := rfl
@[simp] theorem State.setFld_capstan (s : State) (p e lo n x : Nat) : (s.setFld p e lo n x).capstan = s.capstan := rfl
@[simp] theorem State.setFld_update (s : State) (p e lo n x : Nat) : (s.setFld p e lo n x).update = s.update := rfl
@[simp] theorem State.setFld_render (s : State) (p e lo n x : Nat) : (s.setFld p e lo n x).render = s.render := rfl
@[simp] theorem State.setFld_sheet (s : State) (p e lo n x : Nat) : (s.setFld p e lo n x).sheet = s.sheet := rfl
@[simp] theorem State.setFld_shroud (s : State) (p e lo n x : Nat) : (s.setFld p e lo n x).shroud = s.shroud := rfl
@[simp] theorem State.setFld_ports (s : State) (p e lo n x : Nat) : (s.setFld p e lo n x).ports = s.ports := rfl
@[simp] theorem State.setFld_masthead (s : State) (p e lo n x : Nat) : (s.setFld p e lo n x).masthead = s.masthead := rfl
@[simp] theorem State.setFld_trim (s : State) (p e lo n x : Nat) : (s.setFld p e lo n x).trim = s.trim := rfl
@[simp] theorem State.setFld_kite (s : State) (p e lo n x : Nat) : (s.setFld p e lo n x).kite = s.kite := rfl

/-! ### setBit -/

@[simp] theorem State.setBit_pending (s : State) (p e i : Nat) (b : Bool) : (s.setBit p e i b).pending = s.pending := rfl
@[simp] theorem State.setBit_clock (s : State) (p e i : Nat) (b : Bool) : (s.setBit p e i b).clock = s.clock := rfl
@[simp] theorem State.setBit_now (s : State) (p e i : Nat) (b : Bool) : (s.setBit p e i b).now = s.now := rfl
@[simp] theorem State.setBit_rtcPhase (s : State) (p e i : Nat) (b : Bool) : (s.setBit p e i b).rtcPhase = s.rtcPhase := rfl
@[simp] theorem State.setBit_freeCount (s : State) (p e i : Nat) (b : Bool) : (s.setBit p e i b).freeCount = s.freeCount := rfl
@[simp] theorem State.setBit_live (s : State) (p e i : Nat) (b : Bool) : (s.setBit p e i b).live = s.live := rfl
@[simp] theorem State.setBit_content (s : State) (p e i : Nat) (b : Bool) : (s.setBit p e i b).content = s.content := rfl
@[simp] theorem State.setBit_blobs (s : State) (p e i : Nat) (b : Bool) : (s.setBit p e i b).blobs = s.blobs := rfl
@[simp] theorem State.setBit_blobWrites (s : State) (p e i : Nat) (b : Bool) : (s.setBit p e i b).blobWrites = s.blobWrites := rfl
@[simp] theorem State.setBit_dram (s : State) (p e i : Nat) (b : Bool) : (s.setBit p e i b).dram = s.dram := rfl
@[simp] theorem State.setBit_sram (s : State) (p e i : Nat) (b : Bool) : (s.setBit p e i b).sram = s.sram := rfl
@[simp] theorem State.setBit_power (s : State) (p e i : Nat) (b : Bool) : (s.setBit p e i b).power = s.power := rfl
@[simp] theorem State.setBit_nv (s : State) (p e i : Nat) (b : Bool) : (s.setBit p e i b).nv = s.nv := rfl
@[simp] theorem State.setBit_wdp (s : State) (p e i : Nat) (b : Bool) : (s.setBit p e i b).wdp = s.wdp := rfl
@[simp] theorem State.setBit_trouble (s : State) (p e i : Nat) (b : Bool) : (s.setBit p e i b).trouble = s.trouble := rfl
@[simp] theorem State.setBit_halyard (s : State) (p e i : Nat) (b : Bool) : (s.setBit p e i b).halyard = s.halyard := rfl
@[simp] theorem State.setBit_stay (s : State) (p e i : Nat) (b : Bool) : (s.setBit p e i b).stay = s.stay := rfl
@[simp] theorem State.setBit_video (s : State) (p e i : Nat) (b : Bool) : (s.setBit p e i b).video = s.video := rfl
@[simp] theorem State.setBit_cascadeIn (s : State) (p e i : Nat) (b : Bool) : (s.setBit p e i b).cascadeIn = s.cascadeIn := rfl
@[simp] theorem State.setBit_sacn (s : State) (p e i : Nat) (b : Bool) : (s.setBit p e i b).sacn = s.sacn := rfl
@[simp] theorem State.setBit_merged (s : State) (p e i : Nat) (b : Bool) : (s.setBit p e i b).merged = s.merged := rfl
@[simp] theorem State.setBit_cue (s : State) (p e i : Nat) (b : Bool) : (s.setBit p e i b).cue = s.cue := rfl
@[simp] theorem State.setBit_twin (s : State) (p e i : Nat) (b : Bool) : (s.setBit p e i b).twin = s.twin := rfl
@[simp] theorem State.setBit_capstan (s : State) (p e i : Nat) (b : Bool) : (s.setBit p e i b).capstan = s.capstan := rfl
@[simp] theorem State.setBit_update (s : State) (p e i : Nat) (b : Bool) : (s.setBit p e i b).update = s.update := rfl
@[simp] theorem State.setBit_render (s : State) (p e i : Nat) (b : Bool) : (s.setBit p e i b).render = s.render := rfl
@[simp] theorem State.setBit_sheet (s : State) (p e i : Nat) (b : Bool) : (s.setBit p e i b).sheet = s.sheet := rfl
@[simp] theorem State.setBit_shroud (s : State) (p e i : Nat) (b : Bool) : (s.setBit p e i b).shroud = s.shroud := rfl
@[simp] theorem State.setBit_ports (s : State) (p e i : Nat) (b : Bool) : (s.setBit p e i b).ports = s.ports := rfl
@[simp] theorem State.setBit_masthead (s : State) (p e i : Nat) (b : Bool) : (s.setBit p e i b).masthead = s.masthead := rfl
@[simp] theorem State.setBit_trim (s : State) (p e i : Nat) (b : Bool) : (s.setBit p e i b).trim = s.trim := rfl
@[simp] theorem State.setBit_kite (s : State) (p e i : Nat) (b : Bool) : (s.setBit p e i b).kite = s.kite := rfl

/-! ### traffic -/

@[simp] theorem State.traffic_pending (s : State) (p e n : Nat) : (s.traffic p e n).pending = s.pending := rfl
@[simp] theorem State.traffic_clock (s : State) (p e n : Nat) : (s.traffic p e n).clock = s.clock := rfl
@[simp] theorem State.traffic_rtcPhase (s : State) (p e n : Nat) : (s.traffic p e n).rtcPhase = s.rtcPhase := rfl
@[simp] theorem State.traffic_freeCount (s : State) (p e n : Nat) : (s.traffic p e n).freeCount = s.freeCount := rfl
@[simp] theorem State.traffic_live (s : State) (p e n : Nat) : (s.traffic p e n).live = s.live := rfl
@[simp] theorem State.traffic_content (s : State) (p e n : Nat) : (s.traffic p e n).content = s.content := rfl
@[simp] theorem State.traffic_blobs (s : State) (p e n : Nat) : (s.traffic p e n).blobs = s.blobs := rfl
@[simp] theorem State.traffic_blobWrites (s : State) (p e n : Nat) : (s.traffic p e n).blobWrites = s.blobWrites := rfl
@[simp] theorem State.traffic_dram (s : State) (p e n : Nat) : (s.traffic p e n).dram = s.dram := rfl
@[simp] theorem State.traffic_sram (s : State) (p e n : Nat) : (s.traffic p e n).sram = s.sram := rfl
@[simp] theorem State.traffic_power (s : State) (p e n : Nat) : (s.traffic p e n).power = s.power := rfl
@[simp] theorem State.traffic_nv (s : State) (p e n : Nat) : (s.traffic p e n).nv = s.nv := rfl
@[simp] theorem State.traffic_wdp (s : State) (p e n : Nat) : (s.traffic p e n).wdp = s.wdp := rfl
@[simp] theorem State.traffic_trouble (s : State) (p e n : Nat) : (s.traffic p e n).trouble = s.trouble := rfl
@[simp] theorem State.traffic_halyard (s : State) (p e n : Nat) : (s.traffic p e n).halyard = s.halyard := rfl
@[simp] theorem State.traffic_stay (s : State) (p e n : Nat) : (s.traffic p e n).stay = s.stay := rfl
@[simp] theorem State.traffic_video (s : State) (p e n : Nat) : (s.traffic p e n).video = s.video := rfl
@[simp] theorem State.traffic_cascadeIn (s : State) (p e n : Nat) : (s.traffic p e n).cascadeIn = s.cascadeIn := rfl
@[simp] theorem State.traffic_sacn (s : State) (p e n : Nat) : (s.traffic p e n).sacn = s.sacn := rfl
@[simp] theorem State.traffic_merged (s : State) (p e n : Nat) : (s.traffic p e n).merged = s.merged := rfl
@[simp] theorem State.traffic_cue (s : State) (p e n : Nat) : (s.traffic p e n).cue = s.cue := rfl
@[simp] theorem State.traffic_twin (s : State) (p e n : Nat) : (s.traffic p e n).twin = s.twin := rfl
@[simp] theorem State.traffic_capstan (s : State) (p e n : Nat) : (s.traffic p e n).capstan = s.capstan := rfl
@[simp] theorem State.traffic_update (s : State) (p e n : Nat) : (s.traffic p e n).update = s.update := rfl
@[simp] theorem State.traffic_render (s : State) (p e n : Nat) : (s.traffic p e n).render = s.render := rfl
@[simp] theorem State.traffic_sheet (s : State) (p e n : Nat) : (s.traffic p e n).sheet = s.sheet := rfl
@[simp] theorem State.traffic_shroud (s : State) (p e n : Nat) : (s.traffic p e n).shroud = s.shroud := rfl
@[simp] theorem State.traffic_ports (s : State) (p e n : Nat) : (s.traffic p e n).ports = s.ports := rfl
@[simp] theorem State.traffic_masthead (s : State) (p e n : Nat) : (s.traffic p e n).masthead = s.masthead := rfl
@[simp] theorem State.traffic_trim (s : State) (p e n : Nat) : (s.traffic p e n).trim = s.trim := rfl
@[simp] theorem State.traffic_kite (s : State) (p e n : Nat) : (s.traffic p e n).kite = s.kite := rfl

/-! ### tally -/

@[simp] theorem State.tally_pending (s : State) (p e n : Nat) : (s.tally p e n).pending = s.pending := rfl
@[simp] theorem State.tally_clock (s : State) (p e n : Nat) : (s.tally p e n).clock = s.clock := rfl
@[simp] theorem State.tally_rtcPhase (s : State) (p e n : Nat) : (s.tally p e n).rtcPhase = s.rtcPhase := rfl
@[simp] theorem State.tally_freeCount (s : State) (p e n : Nat) : (s.tally p e n).freeCount = s.freeCount := rfl
@[simp] theorem State.tally_regs (s : State) (p e n : Nat) : (s.tally p e n).regs = s.regs := rfl
@[simp] theorem State.tally_live (s : State) (p e n : Nat) : (s.tally p e n).live = s.live := rfl
@[simp] theorem State.tally_content (s : State) (p e n : Nat) : (s.tally p e n).content = s.content := rfl
@[simp] theorem State.tally_blobs (s : State) (p e n : Nat) : (s.tally p e n).blobs = s.blobs := rfl
@[simp] theorem State.tally_blobWrites (s : State) (p e n : Nat) : (s.tally p e n).blobWrites = s.blobWrites := rfl
@[simp] theorem State.tally_dram (s : State) (p e n : Nat) : (s.tally p e n).dram = s.dram := rfl
@[simp] theorem State.tally_sram (s : State) (p e n : Nat) : (s.tally p e n).sram = s.sram := rfl
@[simp] theorem State.tally_power (s : State) (p e n : Nat) : (s.tally p e n).power = s.power := rfl
@[simp] theorem State.tally_nv (s : State) (p e n : Nat) : (s.tally p e n).nv = s.nv := rfl
@[simp] theorem State.tally_wdp (s : State) (p e n : Nat) : (s.tally p e n).wdp = s.wdp := rfl
@[simp] theorem State.tally_trouble (s : State) (p e n : Nat) : (s.tally p e n).trouble = s.trouble := rfl
@[simp] theorem State.tally_halyard (s : State) (p e n : Nat) : (s.tally p e n).halyard = s.halyard := rfl
@[simp] theorem State.tally_stay (s : State) (p e n : Nat) : (s.tally p e n).stay = s.stay := rfl
@[simp] theorem State.tally_video (s : State) (p e n : Nat) : (s.tally p e n).video = s.video := rfl
@[simp] theorem State.tally_cascadeIn (s : State) (p e n : Nat) : (s.tally p e n).cascadeIn = s.cascadeIn := rfl
@[simp] theorem State.tally_sacn (s : State) (p e n : Nat) : (s.tally p e n).sacn = s.sacn := rfl
@[simp] theorem State.tally_merged (s : State) (p e n : Nat) : (s.tally p e n).merged = s.merged := rfl
@[simp] theorem State.tally_cue (s : State) (p e n : Nat) : (s.tally p e n).cue = s.cue := rfl
@[simp] theorem State.tally_twin (s : State) (p e n : Nat) : (s.tally p e n).twin = s.twin := rfl
@[simp] theorem State.tally_capstan (s : State) (p e n : Nat) : (s.tally p e n).capstan = s.capstan := rfl
@[simp] theorem State.tally_update (s : State) (p e n : Nat) : (s.tally p e n).update = s.update := rfl
@[simp] theorem State.tally_render (s : State) (p e n : Nat) : (s.tally p e n).render = s.render := rfl
@[simp] theorem State.tally_sheet (s : State) (p e n : Nat) : (s.tally p e n).sheet = s.sheet := rfl
@[simp] theorem State.tally_shroud (s : State) (p e n : Nat) : (s.tally p e n).shroud = s.shroud := rfl
@[simp] theorem State.tally_ports (s : State) (p e n : Nat) : (s.tally p e n).ports = s.ports := rfl
@[simp] theorem State.tally_masthead (s : State) (p e n : Nat) : (s.tally p e n).masthead = s.masthead := rfl
@[simp] theorem State.tally_trim (s : State) (p e n : Nat) : (s.tally p e n).trim = s.trim := rfl
@[simp] theorem State.tally_kite (s : State) (p e n : Nat) : (s.tally p e n).kite = s.kite := rfl

/-! ### setLive -/

@[simp] theorem State.setLive_pending (s : State) (p e : Nat) (v : Wide) : (s.setLive p e v).pending = s.pending := rfl
@[simp] theorem State.setLive_clock (s : State) (p e : Nat) (v : Wide) : (s.setLive p e v).clock = s.clock := rfl
@[simp] theorem State.setLive_now (s : State) (p e : Nat) (v : Wide) : (s.setLive p e v).now = s.now := rfl
@[simp] theorem State.setLive_rtcPhase (s : State) (p e : Nat) (v : Wide) : (s.setLive p e v).rtcPhase = s.rtcPhase := rfl
@[simp] theorem State.setLive_freeCount (s : State) (p e : Nat) (v : Wide) : (s.setLive p e v).freeCount = s.freeCount := rfl
@[simp] theorem State.setLive_regs (s : State) (p e : Nat) (v : Wide) : (s.setLive p e v).regs = s.regs := rfl
@[simp] theorem State.setLive_content (s : State) (p e : Nat) (v : Wide) : (s.setLive p e v).content = s.content := rfl
@[simp] theorem State.setLive_blobs (s : State) (p e : Nat) (v : Wide) : (s.setLive p e v).blobs = s.blobs := rfl
@[simp] theorem State.setLive_blobWrites (s : State) (p e : Nat) (v : Wide) : (s.setLive p e v).blobWrites = s.blobWrites := rfl
@[simp] theorem State.setLive_dram (s : State) (p e : Nat) (v : Wide) : (s.setLive p e v).dram = s.dram := rfl
@[simp] theorem State.setLive_sram (s : State) (p e : Nat) (v : Wide) : (s.setLive p e v).sram = s.sram := rfl
@[simp] theorem State.setLive_power (s : State) (p e : Nat) (v : Wide) : (s.setLive p e v).power = s.power := rfl
@[simp] theorem State.setLive_nv (s : State) (p e : Nat) (v : Wide) : (s.setLive p e v).nv = s.nv := rfl
@[simp] theorem State.setLive_wdp (s : State) (p e : Nat) (v : Wide) : (s.setLive p e v).wdp = s.wdp := rfl
@[simp] theorem State.setLive_trouble (s : State) (p e : Nat) (v : Wide) : (s.setLive p e v).trouble = s.trouble := rfl
@[simp] theorem State.setLive_halyard (s : State) (p e : Nat) (v : Wide) : (s.setLive p e v).halyard = s.halyard := rfl
@[simp] theorem State.setLive_stay (s : State) (p e : Nat) (v : Wide) : (s.setLive p e v).stay = s.stay := rfl
@[simp] theorem State.setLive_video (s : State) (p e : Nat) (v : Wide) : (s.setLive p e v).video = s.video := rfl
@[simp] theorem State.setLive_cascadeIn (s : State) (p e : Nat) (v : Wide) : (s.setLive p e v).cascadeIn = s.cascadeIn := rfl
@[simp] theorem State.setLive_sacn (s : State) (p e : Nat) (v : Wide) : (s.setLive p e v).sacn = s.sacn := rfl
@[simp] theorem State.setLive_merged (s : State) (p e : Nat) (v : Wide) : (s.setLive p e v).merged = s.merged := rfl
@[simp] theorem State.setLive_cue (s : State) (p e : Nat) (v : Wide) : (s.setLive p e v).cue = s.cue := rfl
@[simp] theorem State.setLive_twin (s : State) (p e : Nat) (v : Wide) : (s.setLive p e v).twin = s.twin := rfl
@[simp] theorem State.setLive_capstan (s : State) (p e : Nat) (v : Wide) : (s.setLive p e v).capstan = s.capstan := rfl
@[simp] theorem State.setLive_update (s : State) (p e : Nat) (v : Wide) : (s.setLive p e v).update = s.update := rfl
@[simp] theorem State.setLive_render (s : State) (p e : Nat) (v : Wide) : (s.setLive p e v).render = s.render := rfl
@[simp] theorem State.setLive_sheet (s : State) (p e : Nat) (v : Wide) : (s.setLive p e v).sheet = s.sheet := rfl
@[simp] theorem State.setLive_shroud (s : State) (p e : Nat) (v : Wide) : (s.setLive p e v).shroud = s.shroud := rfl
@[simp] theorem State.setLive_ports (s : State) (p e : Nat) (v : Wide) : (s.setLive p e v).ports = s.ports := rfl
@[simp] theorem State.setLive_masthead (s : State) (p e : Nat) (v : Wide) : (s.setLive p e v).masthead = s.masthead := rfl
@[simp] theorem State.setLive_trim (s : State) (p e : Nat) (v : Wide) : (s.setLive p e v).trim = s.trim := rfl
@[simp] theorem State.setLive_kite (s : State) (p e : Nat) (v : Wide) : (s.setLive p e v).kite = s.kite := rfl

/-! ### putLive -/

@[simp] theorem State.putLive_pending (s : State) (key : Nat) (v : Wide) : (s.putLive key v).pending = s.pending := rfl
@[simp] theorem State.putLive_clock (s : State) (key : Nat) (v : Wide) : (s.putLive key v).clock = s.clock := rfl
@[simp] theorem State.putLive_now (s : State) (key : Nat) (v : Wide) : (s.putLive key v).now = s.now := rfl
@[simp] theorem State.putLive_rtcPhase (s : State) (key : Nat) (v : Wide) : (s.putLive key v).rtcPhase = s.rtcPhase := rfl
@[simp] theorem State.putLive_freeCount (s : State) (key : Nat) (v : Wide) : (s.putLive key v).freeCount = s.freeCount := rfl
@[simp] theorem State.putLive_regs (s : State) (key : Nat) (v : Wide) : (s.putLive key v).regs = s.regs := rfl
@[simp] theorem State.putLive_content (s : State) (key : Nat) (v : Wide) : (s.putLive key v).content = s.content := rfl
@[simp] theorem State.putLive_blobs (s : State) (key : Nat) (v : Wide) : (s.putLive key v).blobs = s.blobs := rfl
@[simp] theorem State.putLive_blobWrites (s : State) (key : Nat) (v : Wide) : (s.putLive key v).blobWrites = s.blobWrites := rfl
@[simp] theorem State.putLive_dram (s : State) (key : Nat) (v : Wide) : (s.putLive key v).dram = s.dram := rfl
@[simp] theorem State.putLive_sram (s : State) (key : Nat) (v : Wide) : (s.putLive key v).sram = s.sram := rfl
@[simp] theorem State.putLive_power (s : State) (key : Nat) (v : Wide) : (s.putLive key v).power = s.power := rfl
@[simp] theorem State.putLive_nv (s : State) (key : Nat) (v : Wide) : (s.putLive key v).nv = s.nv := rfl
@[simp] theorem State.putLive_wdp (s : State) (key : Nat) (v : Wide) : (s.putLive key v).wdp = s.wdp := rfl
@[simp] theorem State.putLive_trouble (s : State) (key : Nat) (v : Wide) : (s.putLive key v).trouble = s.trouble := rfl
@[simp] theorem State.putLive_halyard (s : State) (key : Nat) (v : Wide) : (s.putLive key v).halyard = s.halyard := rfl
@[simp] theorem State.putLive_stay (s : State) (key : Nat) (v : Wide) : (s.putLive key v).stay = s.stay := rfl
@[simp] theorem State.putLive_video (s : State) (key : Nat) (v : Wide) : (s.putLive key v).video = s.video := rfl
@[simp] theorem State.putLive_cascadeIn (s : State) (key : Nat) (v : Wide) : (s.putLive key v).cascadeIn = s.cascadeIn := rfl
@[simp] theorem State.putLive_sacn (s : State) (key : Nat) (v : Wide) : (s.putLive key v).sacn = s.sacn := rfl
@[simp] theorem State.putLive_merged (s : State) (key : Nat) (v : Wide) : (s.putLive key v).merged = s.merged := rfl
@[simp] theorem State.putLive_cue (s : State) (key : Nat) (v : Wide) : (s.putLive key v).cue = s.cue := rfl
@[simp] theorem State.putLive_twin (s : State) (key : Nat) (v : Wide) : (s.putLive key v).twin = s.twin := rfl
@[simp] theorem State.putLive_capstan (s : State) (key : Nat) (v : Wide) : (s.putLive key v).capstan = s.capstan := rfl
@[simp] theorem State.putLive_update (s : State) (key : Nat) (v : Wide) : (s.putLive key v).update = s.update := rfl
@[simp] theorem State.putLive_render (s : State) (key : Nat) (v : Wide) : (s.putLive key v).render = s.render := rfl
@[simp] theorem State.putLive_sheet (s : State) (key : Nat) (v : Wide) : (s.putLive key v).sheet = s.sheet := rfl
@[simp] theorem State.putLive_shroud (s : State) (key : Nat) (v : Wide) : (s.putLive key v).shroud = s.shroud := rfl
@[simp] theorem State.putLive_ports (s : State) (key : Nat) (v : Wide) : (s.putLive key v).ports = s.ports := rfl
@[simp] theorem State.putLive_masthead (s : State) (key : Nat) (v : Wide) : (s.putLive key v).masthead = s.masthead := rfl
@[simp] theorem State.putLive_trim (s : State) (key : Nat) (v : Wide) : (s.putLive key v).trim = s.trim := rfl
@[simp] theorem State.putLive_kite (s : State) (key : Nat) (v : Wide) : (s.putLive key v).kite = s.kite := rfl

/-! ### setBlob -/

@[simp] theorem State.setBlob_pending (s : State) (p : Nat) (b : List Byte) : (s.setBlob p b).pending = s.pending := rfl
@[simp] theorem State.setBlob_clock (s : State) (p : Nat) (b : List Byte) : (s.setBlob p b).clock = s.clock := rfl
@[simp] theorem State.setBlob_now (s : State) (p : Nat) (b : List Byte) : (s.setBlob p b).now = s.now := rfl
@[simp] theorem State.setBlob_rtcPhase (s : State) (p : Nat) (b : List Byte) : (s.setBlob p b).rtcPhase = s.rtcPhase := rfl
@[simp] theorem State.setBlob_freeCount (s : State) (p : Nat) (b : List Byte) : (s.setBlob p b).freeCount = s.freeCount := rfl
@[simp] theorem State.setBlob_regs (s : State) (p : Nat) (b : List Byte) : (s.setBlob p b).regs = s.regs := rfl
@[simp] theorem State.setBlob_live (s : State) (p : Nat) (b : List Byte) : (s.setBlob p b).live = s.live := rfl
@[simp] theorem State.setBlob_content (s : State) (p : Nat) (b : List Byte) : (s.setBlob p b).content = s.content := rfl
@[simp] theorem State.setBlob_blobWrites (s : State) (p : Nat) (b : List Byte) : (s.setBlob p b).blobWrites = s.blobWrites := rfl
@[simp] theorem State.setBlob_dram (s : State) (p : Nat) (b : List Byte) : (s.setBlob p b).dram = s.dram := rfl
@[simp] theorem State.setBlob_sram (s : State) (p : Nat) (b : List Byte) : (s.setBlob p b).sram = s.sram := rfl
@[simp] theorem State.setBlob_power (s : State) (p : Nat) (b : List Byte) : (s.setBlob p b).power = s.power := rfl
@[simp] theorem State.setBlob_nv (s : State) (p : Nat) (b : List Byte) : (s.setBlob p b).nv = s.nv := rfl
@[simp] theorem State.setBlob_wdp (s : State) (p : Nat) (b : List Byte) : (s.setBlob p b).wdp = s.wdp := rfl
@[simp] theorem State.setBlob_trouble (s : State) (p : Nat) (b : List Byte) : (s.setBlob p b).trouble = s.trouble := rfl
@[simp] theorem State.setBlob_halyard (s : State) (p : Nat) (b : List Byte) : (s.setBlob p b).halyard = s.halyard := rfl
@[simp] theorem State.setBlob_stay (s : State) (p : Nat) (b : List Byte) : (s.setBlob p b).stay = s.stay := rfl
@[simp] theorem State.setBlob_video (s : State) (p : Nat) (b : List Byte) : (s.setBlob p b).video = s.video := rfl
@[simp] theorem State.setBlob_cascadeIn (s : State) (p : Nat) (b : List Byte) : (s.setBlob p b).cascadeIn = s.cascadeIn := rfl
@[simp] theorem State.setBlob_sacn (s : State) (p : Nat) (b : List Byte) : (s.setBlob p b).sacn = s.sacn := rfl
@[simp] theorem State.setBlob_merged (s : State) (p : Nat) (b : List Byte) : (s.setBlob p b).merged = s.merged := rfl
@[simp] theorem State.setBlob_cue (s : State) (p : Nat) (b : List Byte) : (s.setBlob p b).cue = s.cue := rfl
@[simp] theorem State.setBlob_twin (s : State) (p : Nat) (b : List Byte) : (s.setBlob p b).twin = s.twin := rfl
@[simp] theorem State.setBlob_capstan (s : State) (p : Nat) (b : List Byte) : (s.setBlob p b).capstan = s.capstan := rfl
@[simp] theorem State.setBlob_update (s : State) (p : Nat) (b : List Byte) : (s.setBlob p b).update = s.update := rfl
@[simp] theorem State.setBlob_render (s : State) (p : Nat) (b : List Byte) : (s.setBlob p b).render = s.render := rfl
@[simp] theorem State.setBlob_sheet (s : State) (p : Nat) (b : List Byte) : (s.setBlob p b).sheet = s.sheet := rfl
@[simp] theorem State.setBlob_shroud (s : State) (p : Nat) (b : List Byte) : (s.setBlob p b).shroud = s.shroud := rfl
@[simp] theorem State.setBlob_ports (s : State) (p : Nat) (b : List Byte) : (s.setBlob p b).ports = s.ports := rfl
@[simp] theorem State.setBlob_masthead (s : State) (p : Nat) (b : List Byte) : (s.setBlob p b).masthead = s.masthead := rfl
@[simp] theorem State.setBlob_trim (s : State) (p : Nat) (b : List Byte) : (s.setBlob p b).trim = s.trim := rfl
@[simp] theorem State.setBlob_kite (s : State) (p : Nat) (b : List Byte) : (s.setBlob p b).kite = s.kite := rfl

/-! ### setSession -/

@[simp] theorem State.setSession_pending (s : State) (n : Nat) (x : Session) : (s.setSession n x).pending = s.pending := rfl
@[simp] theorem State.setSession_clock (s : State) (n : Nat) (x : Session) : (s.setSession n x).clock = s.clock := rfl
@[simp] theorem State.setSession_now (s : State) (n : Nat) (x : Session) : (s.setSession n x).now = s.now := rfl
@[simp] theorem State.setSession_rtcPhase (s : State) (n : Nat) (x : Session) : (s.setSession n x).rtcPhase = s.rtcPhase := rfl
@[simp] theorem State.setSession_freeCount (s : State) (n : Nat) (x : Session) : (s.setSession n x).freeCount = s.freeCount := rfl
@[simp] theorem State.setSession_regs (s : State) (n : Nat) (x : Session) : (s.setSession n x).regs = s.regs := rfl
@[simp] theorem State.setSession_live (s : State) (n : Nat) (x : Session) : (s.setSession n x).live = s.live := rfl
@[simp] theorem State.setSession_content (s : State) (n : Nat) (x : Session) : (s.setSession n x).content = s.content := rfl
@[simp] theorem State.setSession_blobs (s : State) (n : Nat) (x : Session) : (s.setSession n x).blobs = s.blobs := rfl
@[simp] theorem State.setSession_blobWrites (s : State) (n : Nat) (x : Session) : (s.setSession n x).blobWrites = s.blobWrites := rfl
@[simp] theorem State.setSession_dram (s : State) (n : Nat) (x : Session) : (s.setSession n x).dram = s.dram := rfl
@[simp] theorem State.setSession_sram (s : State) (n : Nat) (x : Session) : (s.setSession n x).sram = s.sram := rfl
@[simp] theorem State.setSession_power (s : State) (n : Nat) (x : Session) : (s.setSession n x).power = s.power := rfl
@[simp] theorem State.setSession_nv (s : State) (n : Nat) (x : Session) : (s.setSession n x).nv = s.nv := rfl
@[simp] theorem State.setSession_trouble (s : State) (n : Nat) (x : Session) : (s.setSession n x).trouble = s.trouble := rfl
@[simp] theorem State.setSession_halyard (s : State) (n : Nat) (x : Session) : (s.setSession n x).halyard = s.halyard := rfl
@[simp] theorem State.setSession_stay (s : State) (n : Nat) (x : Session) : (s.setSession n x).stay = s.stay := rfl
@[simp] theorem State.setSession_video (s : State) (n : Nat) (x : Session) : (s.setSession n x).video = s.video := rfl
@[simp] theorem State.setSession_cascadeIn (s : State) (n : Nat) (x : Session) : (s.setSession n x).cascadeIn = s.cascadeIn := rfl
@[simp] theorem State.setSession_sacn (s : State) (n : Nat) (x : Session) : (s.setSession n x).sacn = s.sacn := rfl
@[simp] theorem State.setSession_merged (s : State) (n : Nat) (x : Session) : (s.setSession n x).merged = s.merged := rfl
@[simp] theorem State.setSession_cue (s : State) (n : Nat) (x : Session) : (s.setSession n x).cue = s.cue := rfl
@[simp] theorem State.setSession_twin (s : State) (n : Nat) (x : Session) : (s.setSession n x).twin = s.twin := rfl
@[simp] theorem State.setSession_capstan (s : State) (n : Nat) (x : Session) : (s.setSession n x).capstan = s.capstan := rfl
@[simp] theorem State.setSession_update (s : State) (n : Nat) (x : Session) : (s.setSession n x).update = s.update := rfl
@[simp] theorem State.setSession_render (s : State) (n : Nat) (x : Session) : (s.setSession n x).render = s.render := rfl
@[simp] theorem State.setSession_sheet (s : State) (n : Nat) (x : Session) : (s.setSession n x).sheet = s.sheet := rfl
@[simp] theorem State.setSession_shroud (s : State) (n : Nat) (x : Session) : (s.setSession n x).shroud = s.shroud := rfl
@[simp] theorem State.setSession_ports (s : State) (n : Nat) (x : Session) : (s.setSession n x).ports = s.ports := rfl
@[simp] theorem State.setSession_masthead (s : State) (n : Nat) (x : Session) : (s.setSession n x).masthead = s.masthead := rfl
@[simp] theorem State.setSession_trim (s : State) (n : Nat) (x : Session) : (s.setSession n x).trim = s.trim := rfl
@[simp] theorem State.setSession_kite (s : State) (n : Nat) (x : Session) : (s.setSession n x).kite = s.kite := rfl

/-! ### setXfer -/

@[simp] theorem State.setXfer_pending (s : State) (n : Nat) (x : Xfer) : (s.setXfer n x).pending = s.pending := rfl
@[simp] theorem State.setXfer_clock (s : State) (n : Nat) (x : Xfer) : (s.setXfer n x).clock = s.clock := rfl
@[simp] theorem State.setXfer_now (s : State) (n : Nat) (x : Xfer) : (s.setXfer n x).now = s.now := rfl
@[simp] theorem State.setXfer_rtcPhase (s : State) (n : Nat) (x : Xfer) : (s.setXfer n x).rtcPhase = s.rtcPhase := rfl
@[simp] theorem State.setXfer_freeCount (s : State) (n : Nat) (x : Xfer) : (s.setXfer n x).freeCount = s.freeCount := rfl
@[simp] theorem State.setXfer_regs (s : State) (n : Nat) (x : Xfer) : (s.setXfer n x).regs = s.regs := rfl
@[simp] theorem State.setXfer_live (s : State) (n : Nat) (x : Xfer) : (s.setXfer n x).live = s.live := rfl
@[simp] theorem State.setXfer_content (s : State) (n : Nat) (x : Xfer) : (s.setXfer n x).content = s.content := rfl
@[simp] theorem State.setXfer_blobs (s : State) (n : Nat) (x : Xfer) : (s.setXfer n x).blobs = s.blobs := rfl
@[simp] theorem State.setXfer_blobWrites (s : State) (n : Nat) (x : Xfer) : (s.setXfer n x).blobWrites = s.blobWrites := rfl
@[simp] theorem State.setXfer_dram (s : State) (n : Nat) (x : Xfer) : (s.setXfer n x).dram = s.dram := rfl
@[simp] theorem State.setXfer_sram (s : State) (n : Nat) (x : Xfer) : (s.setXfer n x).sram = s.sram := rfl
@[simp] theorem State.setXfer_power (s : State) (n : Nat) (x : Xfer) : (s.setXfer n x).power = s.power := rfl
@[simp] theorem State.setXfer_nv (s : State) (n : Nat) (x : Xfer) : (s.setXfer n x).nv = s.nv := rfl
@[simp] theorem State.setXfer_trouble (s : State) (n : Nat) (x : Xfer) : (s.setXfer n x).trouble = s.trouble := rfl
@[simp] theorem State.setXfer_halyard (s : State) (n : Nat) (x : Xfer) : (s.setXfer n x).halyard = s.halyard := rfl
@[simp] theorem State.setXfer_stay (s : State) (n : Nat) (x : Xfer) : (s.setXfer n x).stay = s.stay := rfl
@[simp] theorem State.setXfer_video (s : State) (n : Nat) (x : Xfer) : (s.setXfer n x).video = s.video := rfl
@[simp] theorem State.setXfer_cascadeIn (s : State) (n : Nat) (x : Xfer) : (s.setXfer n x).cascadeIn = s.cascadeIn := rfl
@[simp] theorem State.setXfer_sacn (s : State) (n : Nat) (x : Xfer) : (s.setXfer n x).sacn = s.sacn := rfl
@[simp] theorem State.setXfer_merged (s : State) (n : Nat) (x : Xfer) : (s.setXfer n x).merged = s.merged := rfl
@[simp] theorem State.setXfer_cue (s : State) (n : Nat) (x : Xfer) : (s.setXfer n x).cue = s.cue := rfl
@[simp] theorem State.setXfer_twin (s : State) (n : Nat) (x : Xfer) : (s.setXfer n x).twin = s.twin := rfl
@[simp] theorem State.setXfer_capstan (s : State) (n : Nat) (x : Xfer) : (s.setXfer n x).capstan = s.capstan := rfl
@[simp] theorem State.setXfer_update (s : State) (n : Nat) (x : Xfer) : (s.setXfer n x).update = s.update := rfl
@[simp] theorem State.setXfer_render (s : State) (n : Nat) (x : Xfer) : (s.setXfer n x).render = s.render := rfl
@[simp] theorem State.setXfer_sheet (s : State) (n : Nat) (x : Xfer) : (s.setXfer n x).sheet = s.sheet := rfl
@[simp] theorem State.setXfer_shroud (s : State) (n : Nat) (x : Xfer) : (s.setXfer n x).shroud = s.shroud := rfl
@[simp] theorem State.setXfer_ports (s : State) (n : Nat) (x : Xfer) : (s.setXfer n x).ports = s.ports := rfl
@[simp] theorem State.setXfer_masthead (s : State) (n : Nat) (x : Xfer) : (s.setXfer n x).masthead = s.masthead := rfl
@[simp] theorem State.setXfer_trim (s : State) (n : Nat) (x : Xfer) : (s.setXfer n x).trim = s.trim := rfl
@[simp] theorem State.setXfer_kite (s : State) (n : Nat) (x : Xfer) : (s.setXfer n x).kite = s.kite := rfl

/-! ### setSub -/

@[simp] theorem State.setSub_pending (s : State) (n : Nat) (x : Subscription) : (s.setSub n x).pending = s.pending := rfl
@[simp] theorem State.setSub_clock (s : State) (n : Nat) (x : Subscription) : (s.setSub n x).clock = s.clock := rfl
@[simp] theorem State.setSub_now (s : State) (n : Nat) (x : Subscription) : (s.setSub n x).now = s.now := rfl
@[simp] theorem State.setSub_rtcPhase (s : State) (n : Nat) (x : Subscription) : (s.setSub n x).rtcPhase = s.rtcPhase := rfl
@[simp] theorem State.setSub_freeCount (s : State) (n : Nat) (x : Subscription) : (s.setSub n x).freeCount = s.freeCount := rfl
@[simp] theorem State.setSub_regs (s : State) (n : Nat) (x : Subscription) : (s.setSub n x).regs = s.regs := rfl
@[simp] theorem State.setSub_live (s : State) (n : Nat) (x : Subscription) : (s.setSub n x).live = s.live := rfl
@[simp] theorem State.setSub_content (s : State) (n : Nat) (x : Subscription) : (s.setSub n x).content = s.content := rfl
@[simp] theorem State.setSub_blobs (s : State) (n : Nat) (x : Subscription) : (s.setSub n x).blobs = s.blobs := rfl
@[simp] theorem State.setSub_blobWrites (s : State) (n : Nat) (x : Subscription) : (s.setSub n x).blobWrites = s.blobWrites := rfl
@[simp] theorem State.setSub_dram (s : State) (n : Nat) (x : Subscription) : (s.setSub n x).dram = s.dram := rfl
@[simp] theorem State.setSub_sram (s : State) (n : Nat) (x : Subscription) : (s.setSub n x).sram = s.sram := rfl
@[simp] theorem State.setSub_power (s : State) (n : Nat) (x : Subscription) : (s.setSub n x).power = s.power := rfl
@[simp] theorem State.setSub_nv (s : State) (n : Nat) (x : Subscription) : (s.setSub n x).nv = s.nv := rfl
@[simp] theorem State.setSub_trouble (s : State) (n : Nat) (x : Subscription) : (s.setSub n x).trouble = s.trouble := rfl
@[simp] theorem State.setSub_halyard (s : State) (n : Nat) (x : Subscription) : (s.setSub n x).halyard = s.halyard := rfl
@[simp] theorem State.setSub_stay (s : State) (n : Nat) (x : Subscription) : (s.setSub n x).stay = s.stay := rfl
@[simp] theorem State.setSub_video (s : State) (n : Nat) (x : Subscription) : (s.setSub n x).video = s.video := rfl
@[simp] theorem State.setSub_cascadeIn (s : State) (n : Nat) (x : Subscription) : (s.setSub n x).cascadeIn = s.cascadeIn := rfl
@[simp] theorem State.setSub_sacn (s : State) (n : Nat) (x : Subscription) : (s.setSub n x).sacn = s.sacn := rfl
@[simp] theorem State.setSub_merged (s : State) (n : Nat) (x : Subscription) : (s.setSub n x).merged = s.merged := rfl
@[simp] theorem State.setSub_cue (s : State) (n : Nat) (x : Subscription) : (s.setSub n x).cue = s.cue := rfl
@[simp] theorem State.setSub_twin (s : State) (n : Nat) (x : Subscription) : (s.setSub n x).twin = s.twin := rfl
@[simp] theorem State.setSub_capstan (s : State) (n : Nat) (x : Subscription) : (s.setSub n x).capstan = s.capstan := rfl
@[simp] theorem State.setSub_update (s : State) (n : Nat) (x : Subscription) : (s.setSub n x).update = s.update := rfl
@[simp] theorem State.setSub_render (s : State) (n : Nat) (x : Subscription) : (s.setSub n x).render = s.render := rfl
@[simp] theorem State.setSub_sheet (s : State) (n : Nat) (x : Subscription) : (s.setSub n x).sheet = s.sheet := rfl
@[simp] theorem State.setSub_shroud (s : State) (n : Nat) (x : Subscription) : (s.setSub n x).shroud = s.shroud := rfl
@[simp] theorem State.setSub_ports (s : State) (n : Nat) (x : Subscription) : (s.setSub n x).ports = s.ports := rfl
@[simp] theorem State.setSub_masthead (s : State) (n : Nat) (x : Subscription) : (s.setSub n x).masthead = s.masthead := rfl
@[simp] theorem State.setSub_trim (s : State) (n : Nat) (x : Subscription) : (s.setSub n x).trim = s.trim := rfl
@[simp] theorem State.setSub_kite (s : State) (n : Nat) (x : Subscription) : (s.setSub n x).kite = s.kite := rfl

/-! ### answer -/

@[simp] theorem State.answer_pending (s : State) (a : Byte) (d : List Byte) : (s.answer a d).pending = s.pending := rfl
@[simp] theorem State.answer_clock (s : State) (a : Byte) (d : List Byte) : (s.answer a d).clock = s.clock := rfl
@[simp] theorem State.answer_now (s : State) (a : Byte) (d : List Byte) : (s.answer a d).now = s.now := rfl
@[simp] theorem State.answer_rtcPhase (s : State) (a : Byte) (d : List Byte) : (s.answer a d).rtcPhase = s.rtcPhase := rfl
@[simp] theorem State.answer_freeCount (s : State) (a : Byte) (d : List Byte) : (s.answer a d).freeCount = s.freeCount := rfl
@[simp] theorem State.answer_regs (s : State) (a : Byte) (d : List Byte) : (s.answer a d).regs = s.regs := rfl
@[simp] theorem State.answer_live (s : State) (a : Byte) (d : List Byte) : (s.answer a d).live = s.live := rfl
@[simp] theorem State.answer_content (s : State) (a : Byte) (d : List Byte) : (s.answer a d).content = s.content := rfl
@[simp] theorem State.answer_blobs (s : State) (a : Byte) (d : List Byte) : (s.answer a d).blobs = s.blobs := rfl
@[simp] theorem State.answer_blobWrites (s : State) (a : Byte) (d : List Byte) : (s.answer a d).blobWrites = s.blobWrites := rfl
@[simp] theorem State.answer_dram (s : State) (a : Byte) (d : List Byte) : (s.answer a d).dram = s.dram := rfl
@[simp] theorem State.answer_sram (s : State) (a : Byte) (d : List Byte) : (s.answer a d).sram = s.sram := rfl
@[simp] theorem State.answer_power (s : State) (a : Byte) (d : List Byte) : (s.answer a d).power = s.power := rfl
@[simp] theorem State.answer_nv (s : State) (a : Byte) (d : List Byte) : (s.answer a d).nv = s.nv := rfl
@[simp] theorem State.answer_trouble (s : State) (a : Byte) (d : List Byte) : (s.answer a d).trouble = s.trouble := rfl
@[simp] theorem State.answer_halyard (s : State) (a : Byte) (d : List Byte) : (s.answer a d).halyard = s.halyard := rfl
@[simp] theorem State.answer_stay (s : State) (a : Byte) (d : List Byte) : (s.answer a d).stay = s.stay := rfl
@[simp] theorem State.answer_video (s : State) (a : Byte) (d : List Byte) : (s.answer a d).video = s.video := rfl
@[simp] theorem State.answer_cascadeIn (s : State) (a : Byte) (d : List Byte) : (s.answer a d).cascadeIn = s.cascadeIn := rfl
@[simp] theorem State.answer_sacn (s : State) (a : Byte) (d : List Byte) : (s.answer a d).sacn = s.sacn := rfl
@[simp] theorem State.answer_merged (s : State) (a : Byte) (d : List Byte) : (s.answer a d).merged = s.merged := rfl
@[simp] theorem State.answer_cue (s : State) (a : Byte) (d : List Byte) : (s.answer a d).cue = s.cue := rfl
@[simp] theorem State.answer_twin (s : State) (a : Byte) (d : List Byte) : (s.answer a d).twin = s.twin := rfl
@[simp] theorem State.answer_capstan (s : State) (a : Byte) (d : List Byte) : (s.answer a d).capstan = s.capstan := rfl
@[simp] theorem State.answer_update (s : State) (a : Byte) (d : List Byte) : (s.answer a d).update = s.update := rfl
@[simp] theorem State.answer_render (s : State) (a : Byte) (d : List Byte) : (s.answer a d).render = s.render := rfl
@[simp] theorem State.answer_sheet (s : State) (a : Byte) (d : List Byte) : (s.answer a d).sheet = s.sheet := rfl
@[simp] theorem State.answer_shroud (s : State) (a : Byte) (d : List Byte) : (s.answer a d).shroud = s.shroud := rfl
@[simp] theorem State.answer_ports (s : State) (a : Byte) (d : List Byte) : (s.answer a d).ports = s.ports := rfl
@[simp] theorem State.answer_masthead (s : State) (a : Byte) (d : List Byte) : (s.answer a d).masthead = s.masthead := rfl
@[simp] theorem State.answer_trim (s : State) (a : Byte) (d : List Byte) : (s.answer a d).trim = s.trim := rfl
@[simp] theorem State.answer_kite (s : State) (a : Byte) (d : List Byte) : (s.answer a d).kite = s.kite := rfl

/-! ### setCore -/

@[simp] theorem State.setCore_pending (s : State) (c : Nat) (x : DeckCore) : (s.setCore c x).pending = s.pending := rfl
@[simp] theorem State.setCore_clock (s : State) (c : Nat) (x : DeckCore) : (s.setCore c x).clock = s.clock := rfl
@[simp] theorem State.setCore_now (s : State) (c : Nat) (x : DeckCore) : (s.setCore c x).now = s.now := rfl
@[simp] theorem State.setCore_rtcPhase (s : State) (c : Nat) (x : DeckCore) : (s.setCore c x).rtcPhase = s.rtcPhase := rfl
@[simp] theorem State.setCore_freeCount (s : State) (c : Nat) (x : DeckCore) : (s.setCore c x).freeCount = s.freeCount := rfl
@[simp] theorem State.setCore_regs (s : State) (c : Nat) (x : DeckCore) : (s.setCore c x).regs = s.regs := rfl
@[simp] theorem State.setCore_live (s : State) (c : Nat) (x : DeckCore) : (s.setCore c x).live = s.live := rfl
@[simp] theorem State.setCore_content (s : State) (c : Nat) (x : DeckCore) : (s.setCore c x).content = s.content := rfl
@[simp] theorem State.setCore_blobs (s : State) (c : Nat) (x : DeckCore) : (s.setCore c x).blobs = s.blobs := rfl
@[simp] theorem State.setCore_blobWrites (s : State) (c : Nat) (x : DeckCore) : (s.setCore c x).blobWrites = s.blobWrites := rfl
@[simp] theorem State.setCore_dram (s : State) (c : Nat) (x : DeckCore) : (s.setCore c x).dram = s.dram := rfl
@[simp] theorem State.setCore_sram (s : State) (c : Nat) (x : DeckCore) : (s.setCore c x).sram = s.sram := rfl
@[simp] theorem State.setCore_power (s : State) (c : Nat) (x : DeckCore) : (s.setCore c x).power = s.power := rfl
@[simp] theorem State.setCore_nv (s : State) (c : Nat) (x : DeckCore) : (s.setCore c x).nv = s.nv := rfl
@[simp] theorem State.setCore_wdp (s : State) (c : Nat) (x : DeckCore) : (s.setCore c x).wdp = s.wdp := rfl
@[simp] theorem State.setCore_trouble (s : State) (c : Nat) (x : DeckCore) : (s.setCore c x).trouble = s.trouble := rfl
@[simp] theorem State.setCore_halyard (s : State) (c : Nat) (x : DeckCore) : (s.setCore c x).halyard = s.halyard := rfl
@[simp] theorem State.setCore_stay (s : State) (c : Nat) (x : DeckCore) : (s.setCore c x).stay = s.stay := rfl
@[simp] theorem State.setCore_video (s : State) (c : Nat) (x : DeckCore) : (s.setCore c x).video = s.video := rfl
@[simp] theorem State.setCore_cascadeIn (s : State) (c : Nat) (x : DeckCore) : (s.setCore c x).cascadeIn = s.cascadeIn := rfl
@[simp] theorem State.setCore_sacn (s : State) (c : Nat) (x : DeckCore) : (s.setCore c x).sacn = s.sacn := rfl
@[simp] theorem State.setCore_merged (s : State) (c : Nat) (x : DeckCore) : (s.setCore c x).merged = s.merged := rfl
@[simp] theorem State.setCore_cue (s : State) (c : Nat) (x : DeckCore) : (s.setCore c x).cue = s.cue := rfl
@[simp] theorem State.setCore_twin (s : State) (c : Nat) (x : DeckCore) : (s.setCore c x).twin = s.twin := rfl
@[simp] theorem State.setCore_update (s : State) (c : Nat) (x : DeckCore) : (s.setCore c x).update = s.update := rfl
@[simp] theorem State.setCore_render (s : State) (c : Nat) (x : DeckCore) : (s.setCore c x).render = s.render := rfl
@[simp] theorem State.setCore_sheet (s : State) (c : Nat) (x : DeckCore) : (s.setCore c x).sheet = s.sheet := rfl
@[simp] theorem State.setCore_shroud (s : State) (c : Nat) (x : DeckCore) : (s.setCore c x).shroud = s.shroud := rfl
@[simp] theorem State.setCore_ports (s : State) (c : Nat) (x : DeckCore) : (s.setCore c x).ports = s.ports := rfl
@[simp] theorem State.setCore_masthead (s : State) (c : Nat) (x : DeckCore) : (s.setCore c x).masthead = s.masthead := rfl
@[simp] theorem State.setCore_trim (s : State) (c : Nat) (x : DeckCore) : (s.setCore c x).trim = s.trim := rfl
@[simp] theorem State.setCore_kite (s : State) (c : Nat) (x : DeckCore) : (s.setCore c x).kite = s.kite := rfl

/-! ### setThread -/

@[simp] theorem State.setThread_pending (s : State) (n : Nat) (x : Thread) : (s.setThread n x).pending = s.pending := rfl
@[simp] theorem State.setThread_clock (s : State) (n : Nat) (x : Thread) : (s.setThread n x).clock = s.clock := rfl
@[simp] theorem State.setThread_now (s : State) (n : Nat) (x : Thread) : (s.setThread n x).now = s.now := rfl
@[simp] theorem State.setThread_rtcPhase (s : State) (n : Nat) (x : Thread) : (s.setThread n x).rtcPhase = s.rtcPhase := rfl
@[simp] theorem State.setThread_freeCount (s : State) (n : Nat) (x : Thread) : (s.setThread n x).freeCount = s.freeCount := rfl
@[simp] theorem State.setThread_regs (s : State) (n : Nat) (x : Thread) : (s.setThread n x).regs = s.regs := rfl
@[simp] theorem State.setThread_live (s : State) (n : Nat) (x : Thread) : (s.setThread n x).live = s.live := rfl
@[simp] theorem State.setThread_content (s : State) (n : Nat) (x : Thread) : (s.setThread n x).content = s.content := rfl
@[simp] theorem State.setThread_blobs (s : State) (n : Nat) (x : Thread) : (s.setThread n x).blobs = s.blobs := rfl
@[simp] theorem State.setThread_blobWrites (s : State) (n : Nat) (x : Thread) : (s.setThread n x).blobWrites = s.blobWrites := rfl
@[simp] theorem State.setThread_dram (s : State) (n : Nat) (x : Thread) : (s.setThread n x).dram = s.dram := rfl
@[simp] theorem State.setThread_sram (s : State) (n : Nat) (x : Thread) : (s.setThread n x).sram = s.sram := rfl
@[simp] theorem State.setThread_power (s : State) (n : Nat) (x : Thread) : (s.setThread n x).power = s.power := rfl
@[simp] theorem State.setThread_nv (s : State) (n : Nat) (x : Thread) : (s.setThread n x).nv = s.nv := rfl
@[simp] theorem State.setThread_wdp (s : State) (n : Nat) (x : Thread) : (s.setThread n x).wdp = s.wdp := rfl
@[simp] theorem State.setThread_trouble (s : State) (n : Nat) (x : Thread) : (s.setThread n x).trouble = s.trouble := rfl
@[simp] theorem State.setThread_halyard (s : State) (n : Nat) (x : Thread) : (s.setThread n x).halyard = s.halyard := rfl
@[simp] theorem State.setThread_stay (s : State) (n : Nat) (x : Thread) : (s.setThread n x).stay = s.stay := rfl
@[simp] theorem State.setThread_video (s : State) (n : Nat) (x : Thread) : (s.setThread n x).video = s.video := rfl
@[simp] theorem State.setThread_cascadeIn (s : State) (n : Nat) (x : Thread) : (s.setThread n x).cascadeIn = s.cascadeIn := rfl
@[simp] theorem State.setThread_sacn (s : State) (n : Nat) (x : Thread) : (s.setThread n x).sacn = s.sacn := rfl
@[simp] theorem State.setThread_merged (s : State) (n : Nat) (x : Thread) : (s.setThread n x).merged = s.merged := rfl
@[simp] theorem State.setThread_cue (s : State) (n : Nat) (x : Thread) : (s.setThread n x).cue = s.cue := rfl
@[simp] theorem State.setThread_twin (s : State) (n : Nat) (x : Thread) : (s.setThread n x).twin = s.twin := rfl
@[simp] theorem State.setThread_update (s : State) (n : Nat) (x : Thread) : (s.setThread n x).update = s.update := rfl
@[simp] theorem State.setThread_render (s : State) (n : Nat) (x : Thread) : (s.setThread n x).render = s.render := rfl
@[simp] theorem State.setThread_sheet (s : State) (n : Nat) (x : Thread) : (s.setThread n x).sheet = s.sheet := rfl
@[simp] theorem State.setThread_shroud (s : State) (n : Nat) (x : Thread) : (s.setThread n x).shroud = s.shroud := rfl
@[simp] theorem State.setThread_ports (s : State) (n : Nat) (x : Thread) : (s.setThread n x).ports = s.ports := rfl
@[simp] theorem State.setThread_masthead (s : State) (n : Nat) (x : Thread) : (s.setThread n x).masthead = s.masthead := rfl
@[simp] theorem State.setThread_trim (s : State) (n : Nat) (x : Thread) : (s.setThread n x).trim = s.trim := rfl
@[simp] theorem State.setThread_kite (s : State) (n : Nat) (x : Thread) : (s.setThread n x).kite = s.kite := rfl

/-! ### decision -/

@[simp] theorem State.decision_pending (s : State) (code core thread : Nat) (d : Word) : (s.decision code core thread d).pending = s.pending := rfl
@[simp] theorem State.decision_clock (s : State) (code core thread : Nat) (d : Word) : (s.decision code core thread d).clock = s.clock := rfl
@[simp] theorem State.decision_now (s : State) (code core thread : Nat) (d : Word) : (s.decision code core thread d).now = s.now := rfl
@[simp] theorem State.decision_rtcPhase (s : State) (code core thread : Nat) (d : Word) : (s.decision code core thread d).rtcPhase = s.rtcPhase := rfl
@[simp] theorem State.decision_freeCount (s : State) (code core thread : Nat) (d : Word) : (s.decision code core thread d).freeCount = s.freeCount := rfl
@[simp] theorem State.decision_regs (s : State) (code core thread : Nat) (d : Word) : (s.decision code core thread d).regs = s.regs := rfl
@[simp] theorem State.decision_live (s : State) (code core thread : Nat) (d : Word) : (s.decision code core thread d).live = s.live := rfl
@[simp] theorem State.decision_content (s : State) (code core thread : Nat) (d : Word) : (s.decision code core thread d).content = s.content := rfl
@[simp] theorem State.decision_blobs (s : State) (code core thread : Nat) (d : Word) : (s.decision code core thread d).blobs = s.blobs := rfl
@[simp] theorem State.decision_blobWrites (s : State) (code core thread : Nat) (d : Word) : (s.decision code core thread d).blobWrites = s.blobWrites := rfl
@[simp] theorem State.decision_dram (s : State) (code core thread : Nat) (d : Word) : (s.decision code core thread d).dram = s.dram := rfl
@[simp] theorem State.decision_sram (s : State) (code core thread : Nat) (d : Word) : (s.decision code core thread d).sram = s.sram := rfl
@[simp] theorem State.decision_power (s : State) (code core thread : Nat) (d : Word) : (s.decision code core thread d).power = s.power := rfl
@[simp] theorem State.decision_nv (s : State) (code core thread : Nat) (d : Word) : (s.decision code core thread d).nv = s.nv := rfl
@[simp] theorem State.decision_wdp (s : State) (code core thread : Nat) (d : Word) : (s.decision code core thread d).wdp = s.wdp := rfl
@[simp] theorem State.decision_trouble (s : State) (code core thread : Nat) (d : Word) : (s.decision code core thread d).trouble = s.trouble := rfl
@[simp] theorem State.decision_halyard (s : State) (code core thread : Nat) (d : Word) : (s.decision code core thread d).halyard = s.halyard := rfl
@[simp] theorem State.decision_stay (s : State) (code core thread : Nat) (d : Word) : (s.decision code core thread d).stay = s.stay := rfl
@[simp] theorem State.decision_video (s : State) (code core thread : Nat) (d : Word) : (s.decision code core thread d).video = s.video := rfl
@[simp] theorem State.decision_cascadeIn (s : State) (code core thread : Nat) (d : Word) : (s.decision code core thread d).cascadeIn = s.cascadeIn := rfl
@[simp] theorem State.decision_sacn (s : State) (code core thread : Nat) (d : Word) : (s.decision code core thread d).sacn = s.sacn := rfl
@[simp] theorem State.decision_merged (s : State) (code core thread : Nat) (d : Word) : (s.decision code core thread d).merged = s.merged := rfl
@[simp] theorem State.decision_cue (s : State) (code core thread : Nat) (d : Word) : (s.decision code core thread d).cue = s.cue := rfl
@[simp] theorem State.decision_twin (s : State) (code core thread : Nat) (d : Word) : (s.decision code core thread d).twin = s.twin := rfl
@[simp] theorem State.decision_update (s : State) (code core thread : Nat) (d : Word) : (s.decision code core thread d).update = s.update := rfl
@[simp] theorem State.decision_render (s : State) (code core thread : Nat) (d : Word) : (s.decision code core thread d).render = s.render := rfl
@[simp] theorem State.decision_sheet (s : State) (code core thread : Nat) (d : Word) : (s.decision code core thread d).sheet = s.sheet := rfl
@[simp] theorem State.decision_shroud (s : State) (code core thread : Nat) (d : Word) : (s.decision code core thread d).shroud = s.shroud := rfl
@[simp] theorem State.decision_ports (s : State) (code core thread : Nat) (d : Word) : (s.decision code core thread d).ports = s.ports := rfl
@[simp] theorem State.decision_masthead (s : State) (code core thread : Nat) (d : Word) : (s.decision code core thread d).masthead = s.masthead := rfl
@[simp] theorem State.decision_trim (s : State) (code core thread : Nat) (d : Word) : (s.decision code core thread d).trim = s.trim := rfl
@[simp] theorem State.decision_kite (s : State) (code core thread : Nat) (d : Word) : (s.decision code core thread d).kite = s.kite := rfl

/-! ### setStayPort -/

@[simp] theorem State.setStayPort_pending (s : State) (n : Nat) (x : StayPort) : (s.setStayPort n x).pending = s.pending := rfl
@[simp] theorem State.setStayPort_clock (s : State) (n : Nat) (x : StayPort) : (s.setStayPort n x).clock = s.clock := rfl
@[simp] theorem State.setStayPort_now (s : State) (n : Nat) (x : StayPort) : (s.setStayPort n x).now = s.now := rfl
@[simp] theorem State.setStayPort_rtcPhase (s : State) (n : Nat) (x : StayPort) : (s.setStayPort n x).rtcPhase = s.rtcPhase := rfl
@[simp] theorem State.setStayPort_freeCount (s : State) (n : Nat) (x : StayPort) : (s.setStayPort n x).freeCount = s.freeCount := rfl
@[simp] theorem State.setStayPort_regs (s : State) (n : Nat) (x : StayPort) : (s.setStayPort n x).regs = s.regs := rfl
@[simp] theorem State.setStayPort_live (s : State) (n : Nat) (x : StayPort) : (s.setStayPort n x).live = s.live := rfl
@[simp] theorem State.setStayPort_content (s : State) (n : Nat) (x : StayPort) : (s.setStayPort n x).content = s.content := rfl
@[simp] theorem State.setStayPort_blobs (s : State) (n : Nat) (x : StayPort) : (s.setStayPort n x).blobs = s.blobs := rfl
@[simp] theorem State.setStayPort_blobWrites (s : State) (n : Nat) (x : StayPort) : (s.setStayPort n x).blobWrites = s.blobWrites := rfl
@[simp] theorem State.setStayPort_dram (s : State) (n : Nat) (x : StayPort) : (s.setStayPort n x).dram = s.dram := rfl
@[simp] theorem State.setStayPort_sram (s : State) (n : Nat) (x : StayPort) : (s.setStayPort n x).sram = s.sram := rfl
@[simp] theorem State.setStayPort_power (s : State) (n : Nat) (x : StayPort) : (s.setStayPort n x).power = s.power := rfl
@[simp] theorem State.setStayPort_nv (s : State) (n : Nat) (x : StayPort) : (s.setStayPort n x).nv = s.nv := rfl
@[simp] theorem State.setStayPort_wdp (s : State) (n : Nat) (x : StayPort) : (s.setStayPort n x).wdp = s.wdp := rfl
@[simp] theorem State.setStayPort_trouble (s : State) (n : Nat) (x : StayPort) : (s.setStayPort n x).trouble = s.trouble := rfl
@[simp] theorem State.setStayPort_halyard (s : State) (n : Nat) (x : StayPort) : (s.setStayPort n x).halyard = s.halyard := rfl
@[simp] theorem State.setStayPort_video (s : State) (n : Nat) (x : StayPort) : (s.setStayPort n x).video = s.video := rfl
@[simp] theorem State.setStayPort_cascadeIn (s : State) (n : Nat) (x : StayPort) : (s.setStayPort n x).cascadeIn = s.cascadeIn := rfl
@[simp] theorem State.setStayPort_sacn (s : State) (n : Nat) (x : StayPort) : (s.setStayPort n x).sacn = s.sacn := rfl
@[simp] theorem State.setStayPort_merged (s : State) (n : Nat) (x : StayPort) : (s.setStayPort n x).merged = s.merged := rfl
@[simp] theorem State.setStayPort_cue (s : State) (n : Nat) (x : StayPort) : (s.setStayPort n x).cue = s.cue := rfl
@[simp] theorem State.setStayPort_twin (s : State) (n : Nat) (x : StayPort) : (s.setStayPort n x).twin = s.twin := rfl
@[simp] theorem State.setStayPort_capstan (s : State) (n : Nat) (x : StayPort) : (s.setStayPort n x).capstan = s.capstan := rfl
@[simp] theorem State.setStayPort_update (s : State) (n : Nat) (x : StayPort) : (s.setStayPort n x).update = s.update := rfl
@[simp] theorem State.setStayPort_render (s : State) (n : Nat) (x : StayPort) : (s.setStayPort n x).render = s.render := rfl
@[simp] theorem State.setStayPort_sheet (s : State) (n : Nat) (x : StayPort) : (s.setStayPort n x).sheet = s.sheet := rfl
@[simp] theorem State.setStayPort_shroud (s : State) (n : Nat) (x : StayPort) : (s.setStayPort n x).shroud = s.shroud := rfl
@[simp] theorem State.setStayPort_ports (s : State) (n : Nat) (x : StayPort) : (s.setStayPort n x).ports = s.ports := rfl
@[simp] theorem State.setStayPort_masthead (s : State) (n : Nat) (x : StayPort) : (s.setStayPort n x).masthead = s.masthead := rfl
@[simp] theorem State.setStayPort_trim (s : State) (n : Nat) (x : StayPort) : (s.setStayPort n x).trim = s.trim := rfl
@[simp] theorem State.setStayPort_kite (s : State) (n : Nat) (x : StayPort) : (s.setStayPort n x).kite = s.kite := rfl

/-! ### setVid -/

@[simp] theorem State.setVid_pending (s : State) (n : Nat) (x : Video) : (s.setVid n x).pending = s.pending := rfl
@[simp] theorem State.setVid_clock (s : State) (n : Nat) (x : Video) : (s.setVid n x).clock = s.clock := rfl
@[simp] theorem State.setVid_now (s : State) (n : Nat) (x : Video) : (s.setVid n x).now = s.now := rfl
@[simp] theorem State.setVid_rtcPhase (s : State) (n : Nat) (x : Video) : (s.setVid n x).rtcPhase = s.rtcPhase := rfl
@[simp] theorem State.setVid_freeCount (s : State) (n : Nat) (x : Video) : (s.setVid n x).freeCount = s.freeCount := rfl
@[simp] theorem State.setVid_regs (s : State) (n : Nat) (x : Video) : (s.setVid n x).regs = s.regs := rfl
@[simp] theorem State.setVid_live (s : State) (n : Nat) (x : Video) : (s.setVid n x).live = s.live := rfl
@[simp] theorem State.setVid_content (s : State) (n : Nat) (x : Video) : (s.setVid n x).content = s.content := rfl
@[simp] theorem State.setVid_blobs (s : State) (n : Nat) (x : Video) : (s.setVid n x).blobs = s.blobs := rfl
@[simp] theorem State.setVid_blobWrites (s : State) (n : Nat) (x : Video) : (s.setVid n x).blobWrites = s.blobWrites := rfl
@[simp] theorem State.setVid_dram (s : State) (n : Nat) (x : Video) : (s.setVid n x).dram = s.dram := rfl
@[simp] theorem State.setVid_sram (s : State) (n : Nat) (x : Video) : (s.setVid n x).sram = s.sram := rfl
@[simp] theorem State.setVid_power (s : State) (n : Nat) (x : Video) : (s.setVid n x).power = s.power := rfl
@[simp] theorem State.setVid_nv (s : State) (n : Nat) (x : Video) : (s.setVid n x).nv = s.nv := rfl
@[simp] theorem State.setVid_wdp (s : State) (n : Nat) (x : Video) : (s.setVid n x).wdp = s.wdp := rfl
@[simp] theorem State.setVid_trouble (s : State) (n : Nat) (x : Video) : (s.setVid n x).trouble = s.trouble := rfl
@[simp] theorem State.setVid_halyard (s : State) (n : Nat) (x : Video) : (s.setVid n x).halyard = s.halyard := rfl
@[simp] theorem State.setVid_stay (s : State) (n : Nat) (x : Video) : (s.setVid n x).stay = s.stay := rfl
@[simp] theorem State.setVid_cascadeIn (s : State) (n : Nat) (x : Video) : (s.setVid n x).cascadeIn = s.cascadeIn := rfl
@[simp] theorem State.setVid_sacn (s : State) (n : Nat) (x : Video) : (s.setVid n x).sacn = s.sacn := rfl
@[simp] theorem State.setVid_merged (s : State) (n : Nat) (x : Video) : (s.setVid n x).merged = s.merged := rfl
@[simp] theorem State.setVid_cue (s : State) (n : Nat) (x : Video) : (s.setVid n x).cue = s.cue := rfl
@[simp] theorem State.setVid_twin (s : State) (n : Nat) (x : Video) : (s.setVid n x).twin = s.twin := rfl
@[simp] theorem State.setVid_capstan (s : State) (n : Nat) (x : Video) : (s.setVid n x).capstan = s.capstan := rfl
@[simp] theorem State.setVid_update (s : State) (n : Nat) (x : Video) : (s.setVid n x).update = s.update := rfl
@[simp] theorem State.setVid_render (s : State) (n : Nat) (x : Video) : (s.setVid n x).render = s.render := rfl
@[simp] theorem State.setVid_sheet (s : State) (n : Nat) (x : Video) : (s.setVid n x).sheet = s.sheet := rfl
@[simp] theorem State.setVid_shroud (s : State) (n : Nat) (x : Video) : (s.setVid n x).shroud = s.shroud := rfl
@[simp] theorem State.setVid_ports (s : State) (n : Nat) (x : Video) : (s.setVid n x).ports = s.ports := rfl
@[simp] theorem State.setVid_masthead (s : State) (n : Nat) (x : Video) : (s.setVid n x).masthead = s.masthead := rfl
@[simp] theorem State.setVid_trim (s : State) (n : Nat) (x : Video) : (s.setVid n x).trim = s.trim := rfl
@[simp] theorem State.setVid_kite (s : State) (n : Nat) (x : Video) : (s.setVid n x).kite = s.kite := rfl

/-! ### setCasc -/

@[simp] theorem State.setCasc_pending (s : State) (n : Nat) (x : CascadeIn) : (s.setCasc n x).pending = s.pending := rfl
@[simp] theorem State.setCasc_clock (s : State) (n : Nat) (x : CascadeIn) : (s.setCasc n x).clock = s.clock := rfl
@[simp] theorem State.setCasc_now (s : State) (n : Nat) (x : CascadeIn) : (s.setCasc n x).now = s.now := rfl
@[simp] theorem State.setCasc_rtcPhase (s : State) (n : Nat) (x : CascadeIn) : (s.setCasc n x).rtcPhase = s.rtcPhase := rfl
@[simp] theorem State.setCasc_freeCount (s : State) (n : Nat) (x : CascadeIn) : (s.setCasc n x).freeCount = s.freeCount := rfl
@[simp] theorem State.setCasc_regs (s : State) (n : Nat) (x : CascadeIn) : (s.setCasc n x).regs = s.regs := rfl
@[simp] theorem State.setCasc_live (s : State) (n : Nat) (x : CascadeIn) : (s.setCasc n x).live = s.live := rfl
@[simp] theorem State.setCasc_content (s : State) (n : Nat) (x : CascadeIn) : (s.setCasc n x).content = s.content := rfl
@[simp] theorem State.setCasc_blobs (s : State) (n : Nat) (x : CascadeIn) : (s.setCasc n x).blobs = s.blobs := rfl
@[simp] theorem State.setCasc_blobWrites (s : State) (n : Nat) (x : CascadeIn) : (s.setCasc n x).blobWrites = s.blobWrites := rfl
@[simp] theorem State.setCasc_dram (s : State) (n : Nat) (x : CascadeIn) : (s.setCasc n x).dram = s.dram := rfl
@[simp] theorem State.setCasc_sram (s : State) (n : Nat) (x : CascadeIn) : (s.setCasc n x).sram = s.sram := rfl
@[simp] theorem State.setCasc_power (s : State) (n : Nat) (x : CascadeIn) : (s.setCasc n x).power = s.power := rfl
@[simp] theorem State.setCasc_nv (s : State) (n : Nat) (x : CascadeIn) : (s.setCasc n x).nv = s.nv := rfl
@[simp] theorem State.setCasc_wdp (s : State) (n : Nat) (x : CascadeIn) : (s.setCasc n x).wdp = s.wdp := rfl
@[simp] theorem State.setCasc_trouble (s : State) (n : Nat) (x : CascadeIn) : (s.setCasc n x).trouble = s.trouble := rfl
@[simp] theorem State.setCasc_halyard (s : State) (n : Nat) (x : CascadeIn) : (s.setCasc n x).halyard = s.halyard := rfl
@[simp] theorem State.setCasc_stay (s : State) (n : Nat) (x : CascadeIn) : (s.setCasc n x).stay = s.stay := rfl
@[simp] theorem State.setCasc_video (s : State) (n : Nat) (x : CascadeIn) : (s.setCasc n x).video = s.video := rfl
@[simp] theorem State.setCasc_sacn (s : State) (n : Nat) (x : CascadeIn) : (s.setCasc n x).sacn = s.sacn := rfl
@[simp] theorem State.setCasc_merged (s : State) (n : Nat) (x : CascadeIn) : (s.setCasc n x).merged = s.merged := rfl
@[simp] theorem State.setCasc_cue (s : State) (n : Nat) (x : CascadeIn) : (s.setCasc n x).cue = s.cue := rfl
@[simp] theorem State.setCasc_twin (s : State) (n : Nat) (x : CascadeIn) : (s.setCasc n x).twin = s.twin := rfl
@[simp] theorem State.setCasc_capstan (s : State) (n : Nat) (x : CascadeIn) : (s.setCasc n x).capstan = s.capstan := rfl
@[simp] theorem State.setCasc_update (s : State) (n : Nat) (x : CascadeIn) : (s.setCasc n x).update = s.update := rfl
@[simp] theorem State.setCasc_render (s : State) (n : Nat) (x : CascadeIn) : (s.setCasc n x).render = s.render := rfl
@[simp] theorem State.setCasc_sheet (s : State) (n : Nat) (x : CascadeIn) : (s.setCasc n x).sheet = s.sheet := rfl
@[simp] theorem State.setCasc_shroud (s : State) (n : Nat) (x : CascadeIn) : (s.setCasc n x).shroud = s.shroud := rfl
@[simp] theorem State.setCasc_ports (s : State) (n : Nat) (x : CascadeIn) : (s.setCasc n x).ports = s.ports := rfl
@[simp] theorem State.setCasc_masthead (s : State) (n : Nat) (x : CascadeIn) : (s.setCasc n x).masthead = s.masthead := rfl
@[simp] theorem State.setCasc_trim (s : State) (n : Nat) (x : CascadeIn) : (s.setCasc n x).trim = s.trim := rfl
@[simp] theorem State.setCasc_kite (s : State) (n : Nat) (x : CascadeIn) : (s.setCasc n x).kite = s.kite := rfl

/-! ### setMerged -/

@[simp] theorem State.setMerged_pending (s : State) (n : Nat) (x : Merged) : (s.setMerged n x).pending = s.pending := rfl
@[simp] theorem State.setMerged_clock (s : State) (n : Nat) (x : Merged) : (s.setMerged n x).clock = s.clock := rfl
@[simp] theorem State.setMerged_now (s : State) (n : Nat) (x : Merged) : (s.setMerged n x).now = s.now := rfl
@[simp] theorem State.setMerged_rtcPhase (s : State) (n : Nat) (x : Merged) : (s.setMerged n x).rtcPhase = s.rtcPhase := rfl
@[simp] theorem State.setMerged_freeCount (s : State) (n : Nat) (x : Merged) : (s.setMerged n x).freeCount = s.freeCount := rfl
@[simp] theorem State.setMerged_regs (s : State) (n : Nat) (x : Merged) : (s.setMerged n x).regs = s.regs := rfl
@[simp] theorem State.setMerged_live (s : State) (n : Nat) (x : Merged) : (s.setMerged n x).live = s.live := rfl
@[simp] theorem State.setMerged_content (s : State) (n : Nat) (x : Merged) : (s.setMerged n x).content = s.content := rfl
@[simp] theorem State.setMerged_blobs (s : State) (n : Nat) (x : Merged) : (s.setMerged n x).blobs = s.blobs := rfl
@[simp] theorem State.setMerged_blobWrites (s : State) (n : Nat) (x : Merged) : (s.setMerged n x).blobWrites = s.blobWrites := rfl
@[simp] theorem State.setMerged_dram (s : State) (n : Nat) (x : Merged) : (s.setMerged n x).dram = s.dram := rfl
@[simp] theorem State.setMerged_sram (s : State) (n : Nat) (x : Merged) : (s.setMerged n x).sram = s.sram := rfl
@[simp] theorem State.setMerged_power (s : State) (n : Nat) (x : Merged) : (s.setMerged n x).power = s.power := rfl
@[simp] theorem State.setMerged_nv (s : State) (n : Nat) (x : Merged) : (s.setMerged n x).nv = s.nv := rfl
@[simp] theorem State.setMerged_wdp (s : State) (n : Nat) (x : Merged) : (s.setMerged n x).wdp = s.wdp := rfl
@[simp] theorem State.setMerged_trouble (s : State) (n : Nat) (x : Merged) : (s.setMerged n x).trouble = s.trouble := rfl
@[simp] theorem State.setMerged_halyard (s : State) (n : Nat) (x : Merged) : (s.setMerged n x).halyard = s.halyard := rfl
@[simp] theorem State.setMerged_stay (s : State) (n : Nat) (x : Merged) : (s.setMerged n x).stay = s.stay := rfl
@[simp] theorem State.setMerged_video (s : State) (n : Nat) (x : Merged) : (s.setMerged n x).video = s.video := rfl
@[simp] theorem State.setMerged_cascadeIn (s : State) (n : Nat) (x : Merged) : (s.setMerged n x).cascadeIn = s.cascadeIn := rfl
@[simp] theorem State.setMerged_sacn (s : State) (n : Nat) (x : Merged) : (s.setMerged n x).sacn = s.sacn := rfl
@[simp] theorem State.setMerged_cue (s : State) (n : Nat) (x : Merged) : (s.setMerged n x).cue = s.cue := rfl
@[simp] theorem State.setMerged_twin (s : State) (n : Nat) (x : Merged) : (s.setMerged n x).twin = s.twin := rfl
@[simp] theorem State.setMerged_capstan (s : State) (n : Nat) (x : Merged) : (s.setMerged n x).capstan = s.capstan := rfl
@[simp] theorem State.setMerged_update (s : State) (n : Nat) (x : Merged) : (s.setMerged n x).update = s.update := rfl
@[simp] theorem State.setMerged_render (s : State) (n : Nat) (x : Merged) : (s.setMerged n x).render = s.render := rfl
@[simp] theorem State.setMerged_sheet (s : State) (n : Nat) (x : Merged) : (s.setMerged n x).sheet = s.sheet := rfl
@[simp] theorem State.setMerged_shroud (s : State) (n : Nat) (x : Merged) : (s.setMerged n x).shroud = s.shroud := rfl
@[simp] theorem State.setMerged_ports (s : State) (n : Nat) (x : Merged) : (s.setMerged n x).ports = s.ports := rfl
@[simp] theorem State.setMerged_masthead (s : State) (n : Nat) (x : Merged) : (s.setMerged n x).masthead = s.masthead := rfl
@[simp] theorem State.setMerged_trim (s : State) (n : Nat) (x : Merged) : (s.setMerged n x).trim = s.trim := rfl
@[simp] theorem State.setMerged_kite (s : State) (n : Nat) (x : Merged) : (s.setMerged n x).kite = s.kite := rfl

/-! ### setStayPtp -/

@[simp] theorem State.setStayPtp_pending (s : State) (n : Nat) (x : StayPtp) : (s.setStayPtp n x).pending = s.pending := rfl
@[simp] theorem State.setStayPtp_clock (s : State) (n : Nat) (x : StayPtp) : (s.setStayPtp n x).clock = s.clock := rfl
@[simp] theorem State.setStayPtp_now (s : State) (n : Nat) (x : StayPtp) : (s.setStayPtp n x).now = s.now := rfl
@[simp] theorem State.setStayPtp_rtcPhase (s : State) (n : Nat) (x : StayPtp) : (s.setStayPtp n x).rtcPhase = s.rtcPhase := rfl
@[simp] theorem State.setStayPtp_freeCount (s : State) (n : Nat) (x : StayPtp) : (s.setStayPtp n x).freeCount = s.freeCount := rfl
@[simp] theorem State.setStayPtp_regs (s : State) (n : Nat) (x : StayPtp) : (s.setStayPtp n x).regs = s.regs := rfl
@[simp] theorem State.setStayPtp_live (s : State) (n : Nat) (x : StayPtp) : (s.setStayPtp n x).live = s.live := rfl
@[simp] theorem State.setStayPtp_content (s : State) (n : Nat) (x : StayPtp) : (s.setStayPtp n x).content = s.content := rfl
@[simp] theorem State.setStayPtp_blobs (s : State) (n : Nat) (x : StayPtp) : (s.setStayPtp n x).blobs = s.blobs := rfl
@[simp] theorem State.setStayPtp_blobWrites (s : State) (n : Nat) (x : StayPtp) : (s.setStayPtp n x).blobWrites = s.blobWrites := rfl
@[simp] theorem State.setStayPtp_dram (s : State) (n : Nat) (x : StayPtp) : (s.setStayPtp n x).dram = s.dram := rfl
@[simp] theorem State.setStayPtp_sram (s : State) (n : Nat) (x : StayPtp) : (s.setStayPtp n x).sram = s.sram := rfl
@[simp] theorem State.setStayPtp_power (s : State) (n : Nat) (x : StayPtp) : (s.setStayPtp n x).power = s.power := rfl
@[simp] theorem State.setStayPtp_nv (s : State) (n : Nat) (x : StayPtp) : (s.setStayPtp n x).nv = s.nv := rfl
@[simp] theorem State.setStayPtp_wdp (s : State) (n : Nat) (x : StayPtp) : (s.setStayPtp n x).wdp = s.wdp := rfl
@[simp] theorem State.setStayPtp_trouble (s : State) (n : Nat) (x : StayPtp) : (s.setStayPtp n x).trouble = s.trouble := rfl
@[simp] theorem State.setStayPtp_stay (s : State) (n : Nat) (x : StayPtp) : (s.setStayPtp n x).stay = s.stay := rfl
@[simp] theorem State.setStayPtp_video (s : State) (n : Nat) (x : StayPtp) : (s.setStayPtp n x).video = s.video := rfl
@[simp] theorem State.setStayPtp_cascadeIn (s : State) (n : Nat) (x : StayPtp) : (s.setStayPtp n x).cascadeIn = s.cascadeIn := rfl
@[simp] theorem State.setStayPtp_sacn (s : State) (n : Nat) (x : StayPtp) : (s.setStayPtp n x).sacn = s.sacn := rfl
@[simp] theorem State.setStayPtp_merged (s : State) (n : Nat) (x : StayPtp) : (s.setStayPtp n x).merged = s.merged := rfl
@[simp] theorem State.setStayPtp_cue (s : State) (n : Nat) (x : StayPtp) : (s.setStayPtp n x).cue = s.cue := rfl
@[simp] theorem State.setStayPtp_twin (s : State) (n : Nat) (x : StayPtp) : (s.setStayPtp n x).twin = s.twin := rfl
@[simp] theorem State.setStayPtp_capstan (s : State) (n : Nat) (x : StayPtp) : (s.setStayPtp n x).capstan = s.capstan := rfl
@[simp] theorem State.setStayPtp_update (s : State) (n : Nat) (x : StayPtp) : (s.setStayPtp n x).update = s.update := rfl
@[simp] theorem State.setStayPtp_render (s : State) (n : Nat) (x : StayPtp) : (s.setStayPtp n x).render = s.render := rfl
@[simp] theorem State.setStayPtp_sheet (s : State) (n : Nat) (x : StayPtp) : (s.setStayPtp n x).sheet = s.sheet := rfl
@[simp] theorem State.setStayPtp_shroud (s : State) (n : Nat) (x : StayPtp) : (s.setStayPtp n x).shroud = s.shroud := rfl
@[simp] theorem State.setStayPtp_ports (s : State) (n : Nat) (x : StayPtp) : (s.setStayPtp n x).ports = s.ports := rfl
@[simp] theorem State.setStayPtp_masthead (s : State) (n : Nat) (x : StayPtp) : (s.setStayPtp n x).masthead = s.masthead := rfl
@[simp] theorem State.setStayPtp_trim (s : State) (n : Nat) (x : StayPtp) : (s.setStayPtp n x).trim = s.trim := rfl
@[simp] theorem State.setStayPtp_kite (s : State) (n : Nat) (x : StayPtp) : (s.setStayPtp n x).kite = s.kite := rfl

/-! ### setShroudPtp -/

@[simp] theorem State.setShroudPtp_pending (s : State) (n : Nat) (x : ShroudPtp) : (s.setShroudPtp n x).pending = s.pending := rfl
@[simp] theorem State.setShroudPtp_clock (s : State) (n : Nat) (x : ShroudPtp) : (s.setShroudPtp n x).clock = s.clock := rfl
@[simp] theorem State.setShroudPtp_now (s : State) (n : Nat) (x : ShroudPtp) : (s.setShroudPtp n x).now = s.now := rfl
@[simp] theorem State.setShroudPtp_rtcPhase (s : State) (n : Nat) (x : ShroudPtp) : (s.setShroudPtp n x).rtcPhase = s.rtcPhase := rfl
@[simp] theorem State.setShroudPtp_freeCount (s : State) (n : Nat) (x : ShroudPtp) : (s.setShroudPtp n x).freeCount = s.freeCount := rfl
@[simp] theorem State.setShroudPtp_regs (s : State) (n : Nat) (x : ShroudPtp) : (s.setShroudPtp n x).regs = s.regs := rfl
@[simp] theorem State.setShroudPtp_live (s : State) (n : Nat) (x : ShroudPtp) : (s.setShroudPtp n x).live = s.live := rfl
@[simp] theorem State.setShroudPtp_content (s : State) (n : Nat) (x : ShroudPtp) : (s.setShroudPtp n x).content = s.content := rfl
@[simp] theorem State.setShroudPtp_blobs (s : State) (n : Nat) (x : ShroudPtp) : (s.setShroudPtp n x).blobs = s.blobs := rfl
@[simp] theorem State.setShroudPtp_blobWrites (s : State) (n : Nat) (x : ShroudPtp) : (s.setShroudPtp n x).blobWrites = s.blobWrites := rfl
@[simp] theorem State.setShroudPtp_dram (s : State) (n : Nat) (x : ShroudPtp) : (s.setShroudPtp n x).dram = s.dram := rfl
@[simp] theorem State.setShroudPtp_sram (s : State) (n : Nat) (x : ShroudPtp) : (s.setShroudPtp n x).sram = s.sram := rfl
@[simp] theorem State.setShroudPtp_power (s : State) (n : Nat) (x : ShroudPtp) : (s.setShroudPtp n x).power = s.power := rfl
@[simp] theorem State.setShroudPtp_nv (s : State) (n : Nat) (x : ShroudPtp) : (s.setShroudPtp n x).nv = s.nv := rfl
@[simp] theorem State.setShroudPtp_wdp (s : State) (n : Nat) (x : ShroudPtp) : (s.setShroudPtp n x).wdp = s.wdp := rfl
@[simp] theorem State.setShroudPtp_trouble (s : State) (n : Nat) (x : ShroudPtp) : (s.setShroudPtp n x).trouble = s.trouble := rfl
@[simp] theorem State.setShroudPtp_stay (s : State) (n : Nat) (x : ShroudPtp) : (s.setShroudPtp n x).stay = s.stay := rfl
@[simp] theorem State.setShroudPtp_video (s : State) (n : Nat) (x : ShroudPtp) : (s.setShroudPtp n x).video = s.video := rfl
@[simp] theorem State.setShroudPtp_cascadeIn (s : State) (n : Nat) (x : ShroudPtp) : (s.setShroudPtp n x).cascadeIn = s.cascadeIn := rfl
@[simp] theorem State.setShroudPtp_sacn (s : State) (n : Nat) (x : ShroudPtp) : (s.setShroudPtp n x).sacn = s.sacn := rfl
@[simp] theorem State.setShroudPtp_merged (s : State) (n : Nat) (x : ShroudPtp) : (s.setShroudPtp n x).merged = s.merged := rfl
@[simp] theorem State.setShroudPtp_cue (s : State) (n : Nat) (x : ShroudPtp) : (s.setShroudPtp n x).cue = s.cue := rfl
@[simp] theorem State.setShroudPtp_twin (s : State) (n : Nat) (x : ShroudPtp) : (s.setShroudPtp n x).twin = s.twin := rfl
@[simp] theorem State.setShroudPtp_capstan (s : State) (n : Nat) (x : ShroudPtp) : (s.setShroudPtp n x).capstan = s.capstan := rfl
@[simp] theorem State.setShroudPtp_update (s : State) (n : Nat) (x : ShroudPtp) : (s.setShroudPtp n x).update = s.update := rfl
@[simp] theorem State.setShroudPtp_render (s : State) (n : Nat) (x : ShroudPtp) : (s.setShroudPtp n x).render = s.render := rfl
@[simp] theorem State.setShroudPtp_sheet (s : State) (n : Nat) (x : ShroudPtp) : (s.setShroudPtp n x).sheet = s.sheet := rfl
@[simp] theorem State.setShroudPtp_shroud (s : State) (n : Nat) (x : ShroudPtp) : (s.setShroudPtp n x).shroud = s.shroud := rfl
@[simp] theorem State.setShroudPtp_ports (s : State) (n : Nat) (x : ShroudPtp) : (s.setShroudPtp n x).ports = s.ports := rfl
@[simp] theorem State.setShroudPtp_masthead (s : State) (n : Nat) (x : ShroudPtp) : (s.setShroudPtp n x).masthead = s.masthead := rfl
@[simp] theorem State.setShroudPtp_trim (s : State) (n : Nat) (x : ShroudPtp) : (s.setShroudPtp n x).trim = s.trim := rfl
@[simp] theorem State.setShroudPtp_kite (s : State) (n : Nat) (x : ShroudPtp) : (s.setShroudPtp n x).kite = s.kite := rfl

/-! ### setGrid -/

@[simp] theorem State.setGrid_pending (s : State) (g : Grid) : (s.setGrid g).pending = s.pending := rfl
@[simp] theorem State.setGrid_clock (s : State) (g : Grid) : (s.setGrid g).clock = s.clock := rfl
@[simp] theorem State.setGrid_now (s : State) (g : Grid) : (s.setGrid g).now = s.now := rfl
@[simp] theorem State.setGrid_rtcPhase (s : State) (g : Grid) : (s.setGrid g).rtcPhase = s.rtcPhase := rfl
@[simp] theorem State.setGrid_freeCount (s : State) (g : Grid) : (s.setGrid g).freeCount = s.freeCount := rfl
@[simp] theorem State.setGrid_regs (s : State) (g : Grid) : (s.setGrid g).regs = s.regs := rfl
@[simp] theorem State.setGrid_live (s : State) (g : Grid) : (s.setGrid g).live = s.live := rfl
@[simp] theorem State.setGrid_content (s : State) (g : Grid) : (s.setGrid g).content = s.content := rfl
@[simp] theorem State.setGrid_blobs (s : State) (g : Grid) : (s.setGrid g).blobs = s.blobs := rfl
@[simp] theorem State.setGrid_blobWrites (s : State) (g : Grid) : (s.setGrid g).blobWrites = s.blobWrites := rfl
@[simp] theorem State.setGrid_dram (s : State) (g : Grid) : (s.setGrid g).dram = s.dram := rfl
@[simp] theorem State.setGrid_sram (s : State) (g : Grid) : (s.setGrid g).sram = s.sram := rfl
@[simp] theorem State.setGrid_power (s : State) (g : Grid) : (s.setGrid g).power = s.power := rfl
@[simp] theorem State.setGrid_nv (s : State) (g : Grid) : (s.setGrid g).nv = s.nv := rfl
@[simp] theorem State.setGrid_wdp (s : State) (g : Grid) : (s.setGrid g).wdp = s.wdp := rfl
@[simp] theorem State.setGrid_trouble (s : State) (g : Grid) : (s.setGrid g).trouble = s.trouble := rfl
@[simp] theorem State.setGrid_stay (s : State) (g : Grid) : (s.setGrid g).stay = s.stay := rfl
@[simp] theorem State.setGrid_video (s : State) (g : Grid) : (s.setGrid g).video = s.video := rfl
@[simp] theorem State.setGrid_cascadeIn (s : State) (g : Grid) : (s.setGrid g).cascadeIn = s.cascadeIn := rfl
@[simp] theorem State.setGrid_sacn (s : State) (g : Grid) : (s.setGrid g).sacn = s.sacn := rfl
@[simp] theorem State.setGrid_merged (s : State) (g : Grid) : (s.setGrid g).merged = s.merged := rfl
@[simp] theorem State.setGrid_cue (s : State) (g : Grid) : (s.setGrid g).cue = s.cue := rfl
@[simp] theorem State.setGrid_twin (s : State) (g : Grid) : (s.setGrid g).twin = s.twin := rfl
@[simp] theorem State.setGrid_capstan (s : State) (g : Grid) : (s.setGrid g).capstan = s.capstan := rfl
@[simp] theorem State.setGrid_update (s : State) (g : Grid) : (s.setGrid g).update = s.update := rfl
@[simp] theorem State.setGrid_render (s : State) (g : Grid) : (s.setGrid g).render = s.render := rfl
@[simp] theorem State.setGrid_sheet (s : State) (g : Grid) : (s.setGrid g).sheet = s.sheet := rfl
@[simp] theorem State.setGrid_shroud (s : State) (g : Grid) : (s.setGrid g).shroud = s.shroud := rfl
@[simp] theorem State.setGrid_ports (s : State) (g : Grid) : (s.setGrid g).ports = s.ports := rfl
@[simp] theorem State.setGrid_masthead (s : State) (g : Grid) : (s.setGrid g).masthead = s.masthead := rfl
@[simp] theorem State.setGrid_trim (s : State) (g : Grid) : (s.setGrid g).trim = s.trim := rfl
@[simp] theorem State.setGrid_kite (s : State) (g : Grid) : (s.setGrid g).kite = s.kite := rfl

/-! ### setTns -/

@[simp] theorem State.setTns_pending (s : State) (t : T32) (f : Byte) : (s.setTns t f).pending = s.pending := rfl
@[simp] theorem State.setTns_clock (s : State) (t : T32) (f : Byte) : (s.setTns t f).clock = s.clock := rfl
@[simp] theorem State.setTns_now (s : State) (t : T32) (f : Byte) : (s.setTns t f).now = s.now := rfl
@[simp] theorem State.setTns_rtcPhase (s : State) (t : T32) (f : Byte) : (s.setTns t f).rtcPhase = s.rtcPhase := rfl
@[simp] theorem State.setTns_freeCount (s : State) (t : T32) (f : Byte) : (s.setTns t f).freeCount = s.freeCount := rfl
@[simp] theorem State.setTns_regs (s : State) (t : T32) (f : Byte) : (s.setTns t f).regs = s.regs := rfl
@[simp] theorem State.setTns_live (s : State) (t : T32) (f : Byte) : (s.setTns t f).live = s.live := rfl
@[simp] theorem State.setTns_content (s : State) (t : T32) (f : Byte) : (s.setTns t f).content = s.content := rfl
@[simp] theorem State.setTns_blobs (s : State) (t : T32) (f : Byte) : (s.setTns t f).blobs = s.blobs := rfl
@[simp] theorem State.setTns_blobWrites (s : State) (t : T32) (f : Byte) : (s.setTns t f).blobWrites = s.blobWrites := rfl
@[simp] theorem State.setTns_dram (s : State) (t : T32) (f : Byte) : (s.setTns t f).dram = s.dram := rfl
@[simp] theorem State.setTns_sram (s : State) (t : T32) (f : Byte) : (s.setTns t f).sram = s.sram := rfl
@[simp] theorem State.setTns_power (s : State) (t : T32) (f : Byte) : (s.setTns t f).power = s.power := rfl
@[simp] theorem State.setTns_nv (s : State) (t : T32) (f : Byte) : (s.setTns t f).nv = s.nv := rfl
@[simp] theorem State.setTns_wdp (s : State) (t : T32) (f : Byte) : (s.setTns t f).wdp = s.wdp := rfl
@[simp] theorem State.setTns_trouble (s : State) (t : T32) (f : Byte) : (s.setTns t f).trouble = s.trouble := rfl
@[simp] theorem State.setTns_stay (s : State) (t : T32) (f : Byte) : (s.setTns t f).stay = s.stay := rfl
@[simp] theorem State.setTns_video (s : State) (t : T32) (f : Byte) : (s.setTns t f).video = s.video := rfl
@[simp] theorem State.setTns_cascadeIn (s : State) (t : T32) (f : Byte) : (s.setTns t f).cascadeIn = s.cascadeIn := rfl
@[simp] theorem State.setTns_sacn (s : State) (t : T32) (f : Byte) : (s.setTns t f).sacn = s.sacn := rfl
@[simp] theorem State.setTns_merged (s : State) (t : T32) (f : Byte) : (s.setTns t f).merged = s.merged := rfl
@[simp] theorem State.setTns_cue (s : State) (t : T32) (f : Byte) : (s.setTns t f).cue = s.cue := rfl
@[simp] theorem State.setTns_twin (s : State) (t : T32) (f : Byte) : (s.setTns t f).twin = s.twin := rfl
@[simp] theorem State.setTns_capstan (s : State) (t : T32) (f : Byte) : (s.setTns t f).capstan = s.capstan := rfl
@[simp] theorem State.setTns_update (s : State) (t : T32) (f : Byte) : (s.setTns t f).update = s.update := rfl
@[simp] theorem State.setTns_render (s : State) (t : T32) (f : Byte) : (s.setTns t f).render = s.render := rfl
@[simp] theorem State.setTns_sheet (s : State) (t : T32) (f : Byte) : (s.setTns t f).sheet = s.sheet := rfl
@[simp] theorem State.setTns_shroud (s : State) (t : T32) (f : Byte) : (s.setTns t f).shroud = s.shroud := rfl
@[simp] theorem State.setTns_ports (s : State) (t : T32) (f : Byte) : (s.setTns t f).ports = s.ports := rfl
@[simp] theorem State.setTns_masthead (s : State) (t : T32) (f : Byte) : (s.setTns t f).masthead = s.masthead := rfl
@[simp] theorem State.setTns_trim (s : State) (t : T32) (f : Byte) : (s.setTns t f).trim = s.trim := rfl
@[simp] theorem State.setTns_kite (s : State) (t : T32) (f : Byte) : (s.setTns t f).kite = s.kite := rfl

/-! ### setInLock -/

@[simp] theorem State.setInLock_pending (s : State) (n : Nat) : (s.setInLock n).pending = s.pending := rfl
@[simp] theorem State.setInLock_clock (s : State) (n : Nat) : (s.setInLock n).clock = s.clock := rfl
@[simp] theorem State.setInLock_now (s : State) (n : Nat) : (s.setInLock n).now = s.now := rfl
@[simp] theorem State.setInLock_rtcPhase (s : State) (n : Nat) : (s.setInLock n).rtcPhase = s.rtcPhase := rfl
@[simp] theorem State.setInLock_freeCount (s : State) (n : Nat) : (s.setInLock n).freeCount = s.freeCount := rfl
@[simp] theorem State.setInLock_regs (s : State) (n : Nat) : (s.setInLock n).regs = s.regs := rfl
@[simp] theorem State.setInLock_live (s : State) (n : Nat) : (s.setInLock n).live = s.live := rfl
@[simp] theorem State.setInLock_content (s : State) (n : Nat) : (s.setInLock n).content = s.content := rfl
@[simp] theorem State.setInLock_blobs (s : State) (n : Nat) : (s.setInLock n).blobs = s.blobs := rfl
@[simp] theorem State.setInLock_blobWrites (s : State) (n : Nat) : (s.setInLock n).blobWrites = s.blobWrites := rfl
@[simp] theorem State.setInLock_dram (s : State) (n : Nat) : (s.setInLock n).dram = s.dram := rfl
@[simp] theorem State.setInLock_sram (s : State) (n : Nat) : (s.setInLock n).sram = s.sram := rfl
@[simp] theorem State.setInLock_power (s : State) (n : Nat) : (s.setInLock n).power = s.power := rfl
@[simp] theorem State.setInLock_nv (s : State) (n : Nat) : (s.setInLock n).nv = s.nv := rfl
@[simp] theorem State.setInLock_wdp (s : State) (n : Nat) : (s.setInLock n).wdp = s.wdp := rfl
@[simp] theorem State.setInLock_trouble (s : State) (n : Nat) : (s.setInLock n).trouble = s.trouble := rfl
@[simp] theorem State.setInLock_stay (s : State) (n : Nat) : (s.setInLock n).stay = s.stay := rfl
@[simp] theorem State.setInLock_video (s : State) (n : Nat) : (s.setInLock n).video = s.video := rfl
@[simp] theorem State.setInLock_cascadeIn (s : State) (n : Nat) : (s.setInLock n).cascadeIn = s.cascadeIn := rfl
@[simp] theorem State.setInLock_sacn (s : State) (n : Nat) : (s.setInLock n).sacn = s.sacn := rfl
@[simp] theorem State.setInLock_merged (s : State) (n : Nat) : (s.setInLock n).merged = s.merged := rfl
@[simp] theorem State.setInLock_cue (s : State) (n : Nat) : (s.setInLock n).cue = s.cue := rfl
@[simp] theorem State.setInLock_twin (s : State) (n : Nat) : (s.setInLock n).twin = s.twin := rfl
@[simp] theorem State.setInLock_capstan (s : State) (n : Nat) : (s.setInLock n).capstan = s.capstan := rfl
@[simp] theorem State.setInLock_update (s : State) (n : Nat) : (s.setInLock n).update = s.update := rfl
@[simp] theorem State.setInLock_render (s : State) (n : Nat) : (s.setInLock n).render = s.render := rfl
@[simp] theorem State.setInLock_sheet (s : State) (n : Nat) : (s.setInLock n).sheet = s.sheet := rfl
@[simp] theorem State.setInLock_shroud (s : State) (n : Nat) : (s.setInLock n).shroud = s.shroud := rfl
@[simp] theorem State.setInLock_ports (s : State) (n : Nat) : (s.setInLock n).ports = s.ports := rfl
@[simp] theorem State.setInLock_masthead (s : State) (n : Nat) : (s.setInLock n).masthead = s.masthead := rfl
@[simp] theorem State.setInLock_trim (s : State) (n : Nat) : (s.setInLock n).trim = s.trim := rfl
@[simp] theorem State.setInLock_kite (s : State) (n : Nat) : (s.setInLock n).kite = s.kite := rfl

/-! ### setIngressQ -/

@[simp] theorem State.setIngressQ_pending (s : State) (p : Nat) (q : List Stamp) : (s.setIngressQ p q).pending = s.pending := rfl
@[simp] theorem State.setIngressQ_clock (s : State) (p : Nat) (q : List Stamp) : (s.setIngressQ p q).clock = s.clock := rfl
@[simp] theorem State.setIngressQ_now (s : State) (p : Nat) (q : List Stamp) : (s.setIngressQ p q).now = s.now := rfl
@[simp] theorem State.setIngressQ_rtcPhase (s : State) (p : Nat) (q : List Stamp) : (s.setIngressQ p q).rtcPhase = s.rtcPhase := rfl
@[simp] theorem State.setIngressQ_freeCount (s : State) (p : Nat) (q : List Stamp) : (s.setIngressQ p q).freeCount = s.freeCount := rfl
@[simp] theorem State.setIngressQ_regs (s : State) (p : Nat) (q : List Stamp) : (s.setIngressQ p q).regs = s.regs := rfl
@[simp] theorem State.setIngressQ_live (s : State) (p : Nat) (q : List Stamp) : (s.setIngressQ p q).live = s.live := rfl
@[simp] theorem State.setIngressQ_content (s : State) (p : Nat) (q : List Stamp) : (s.setIngressQ p q).content = s.content := rfl
@[simp] theorem State.setIngressQ_blobs (s : State) (p : Nat) (q : List Stamp) : (s.setIngressQ p q).blobs = s.blobs := rfl
@[simp] theorem State.setIngressQ_blobWrites (s : State) (p : Nat) (q : List Stamp) : (s.setIngressQ p q).blobWrites = s.blobWrites := rfl
@[simp] theorem State.setIngressQ_dram (s : State) (p : Nat) (q : List Stamp) : (s.setIngressQ p q).dram = s.dram := rfl
@[simp] theorem State.setIngressQ_sram (s : State) (p : Nat) (q : List Stamp) : (s.setIngressQ p q).sram = s.sram := rfl
@[simp] theorem State.setIngressQ_power (s : State) (p : Nat) (q : List Stamp) : (s.setIngressQ p q).power = s.power := rfl
@[simp] theorem State.setIngressQ_nv (s : State) (p : Nat) (q : List Stamp) : (s.setIngressQ p q).nv = s.nv := rfl
@[simp] theorem State.setIngressQ_wdp (s : State) (p : Nat) (q : List Stamp) : (s.setIngressQ p q).wdp = s.wdp := rfl
@[simp] theorem State.setIngressQ_trouble (s : State) (p : Nat) (q : List Stamp) : (s.setIngressQ p q).trouble = s.trouble := rfl
@[simp] theorem State.setIngressQ_stay (s : State) (p : Nat) (q : List Stamp) : (s.setIngressQ p q).stay = s.stay := rfl
@[simp] theorem State.setIngressQ_video (s : State) (p : Nat) (q : List Stamp) : (s.setIngressQ p q).video = s.video := rfl
@[simp] theorem State.setIngressQ_cascadeIn (s : State) (p : Nat) (q : List Stamp) : (s.setIngressQ p q).cascadeIn = s.cascadeIn := rfl
@[simp] theorem State.setIngressQ_sacn (s : State) (p : Nat) (q : List Stamp) : (s.setIngressQ p q).sacn = s.sacn := rfl
@[simp] theorem State.setIngressQ_merged (s : State) (p : Nat) (q : List Stamp) : (s.setIngressQ p q).merged = s.merged := rfl
@[simp] theorem State.setIngressQ_cue (s : State) (p : Nat) (q : List Stamp) : (s.setIngressQ p q).cue = s.cue := rfl
@[simp] theorem State.setIngressQ_twin (s : State) (p : Nat) (q : List Stamp) : (s.setIngressQ p q).twin = s.twin := rfl
@[simp] theorem State.setIngressQ_capstan (s : State) (p : Nat) (q : List Stamp) : (s.setIngressQ p q).capstan = s.capstan := rfl
@[simp] theorem State.setIngressQ_update (s : State) (p : Nat) (q : List Stamp) : (s.setIngressQ p q).update = s.update := rfl
@[simp] theorem State.setIngressQ_render (s : State) (p : Nat) (q : List Stamp) : (s.setIngressQ p q).render = s.render := rfl
@[simp] theorem State.setIngressQ_sheet (s : State) (p : Nat) (q : List Stamp) : (s.setIngressQ p q).sheet = s.sheet := rfl
@[simp] theorem State.setIngressQ_shroud (s : State) (p : Nat) (q : List Stamp) : (s.setIngressQ p q).shroud = s.shroud := rfl
@[simp] theorem State.setIngressQ_ports (s : State) (p : Nat) (q : List Stamp) : (s.setIngressQ p q).ports = s.ports := rfl
@[simp] theorem State.setIngressQ_masthead (s : State) (p : Nat) (q : List Stamp) : (s.setIngressQ p q).masthead = s.masthead := rfl
@[simp] theorem State.setIngressQ_trim (s : State) (p : Nat) (q : List Stamp) : (s.setIngressQ p q).trim = s.trim := rfl
@[simp] theorem State.setIngressQ_kite (s : State) (p : Nat) (q : List Stamp) : (s.setIngressQ p q).kite = s.kite := rfl

/-! ### setEgressQ -/

@[simp] theorem State.setEgressQ_pending (s : State) (p : Nat) (q : List Stamp) : (s.setEgressQ p q).pending = s.pending := rfl
@[simp] theorem State.setEgressQ_clock (s : State) (p : Nat) (q : List Stamp) : (s.setEgressQ p q).clock = s.clock := rfl
@[simp] theorem State.setEgressQ_now (s : State) (p : Nat) (q : List Stamp) : (s.setEgressQ p q).now = s.now := rfl
@[simp] theorem State.setEgressQ_rtcPhase (s : State) (p : Nat) (q : List Stamp) : (s.setEgressQ p q).rtcPhase = s.rtcPhase := rfl
@[simp] theorem State.setEgressQ_freeCount (s : State) (p : Nat) (q : List Stamp) : (s.setEgressQ p q).freeCount = s.freeCount := rfl
@[simp] theorem State.setEgressQ_regs (s : State) (p : Nat) (q : List Stamp) : (s.setEgressQ p q).regs = s.regs := rfl
@[simp] theorem State.setEgressQ_live (s : State) (p : Nat) (q : List Stamp) : (s.setEgressQ p q).live = s.live := rfl
@[simp] theorem State.setEgressQ_content (s : State) (p : Nat) (q : List Stamp) : (s.setEgressQ p q).content = s.content := rfl
@[simp] theorem State.setEgressQ_blobs (s : State) (p : Nat) (q : List Stamp) : (s.setEgressQ p q).blobs = s.blobs := rfl
@[simp] theorem State.setEgressQ_blobWrites (s : State) (p : Nat) (q : List Stamp) : (s.setEgressQ p q).blobWrites = s.blobWrites := rfl
@[simp] theorem State.setEgressQ_dram (s : State) (p : Nat) (q : List Stamp) : (s.setEgressQ p q).dram = s.dram := rfl
@[simp] theorem State.setEgressQ_sram (s : State) (p : Nat) (q : List Stamp) : (s.setEgressQ p q).sram = s.sram := rfl
@[simp] theorem State.setEgressQ_power (s : State) (p : Nat) (q : List Stamp) : (s.setEgressQ p q).power = s.power := rfl
@[simp] theorem State.setEgressQ_nv (s : State) (p : Nat) (q : List Stamp) : (s.setEgressQ p q).nv = s.nv := rfl
@[simp] theorem State.setEgressQ_wdp (s : State) (p : Nat) (q : List Stamp) : (s.setEgressQ p q).wdp = s.wdp := rfl
@[simp] theorem State.setEgressQ_trouble (s : State) (p : Nat) (q : List Stamp) : (s.setEgressQ p q).trouble = s.trouble := rfl
@[simp] theorem State.setEgressQ_stay (s : State) (p : Nat) (q : List Stamp) : (s.setEgressQ p q).stay = s.stay := rfl
@[simp] theorem State.setEgressQ_video (s : State) (p : Nat) (q : List Stamp) : (s.setEgressQ p q).video = s.video := rfl
@[simp] theorem State.setEgressQ_cascadeIn (s : State) (p : Nat) (q : List Stamp) : (s.setEgressQ p q).cascadeIn = s.cascadeIn := rfl
@[simp] theorem State.setEgressQ_sacn (s : State) (p : Nat) (q : List Stamp) : (s.setEgressQ p q).sacn = s.sacn := rfl
@[simp] theorem State.setEgressQ_merged (s : State) (p : Nat) (q : List Stamp) : (s.setEgressQ p q).merged = s.merged := rfl
@[simp] theorem State.setEgressQ_cue (s : State) (p : Nat) (q : List Stamp) : (s.setEgressQ p q).cue = s.cue := rfl
@[simp] theorem State.setEgressQ_twin (s : State) (p : Nat) (q : List Stamp) : (s.setEgressQ p q).twin = s.twin := rfl
@[simp] theorem State.setEgressQ_capstan (s : State) (p : Nat) (q : List Stamp) : (s.setEgressQ p q).capstan = s.capstan := rfl
@[simp] theorem State.setEgressQ_update (s : State) (p : Nat) (q : List Stamp) : (s.setEgressQ p q).update = s.update := rfl
@[simp] theorem State.setEgressQ_render (s : State) (p : Nat) (q : List Stamp) : (s.setEgressQ p q).render = s.render := rfl
@[simp] theorem State.setEgressQ_sheet (s : State) (p : Nat) (q : List Stamp) : (s.setEgressQ p q).sheet = s.sheet := rfl
@[simp] theorem State.setEgressQ_shroud (s : State) (p : Nat) (q : List Stamp) : (s.setEgressQ p q).shroud = s.shroud := rfl
@[simp] theorem State.setEgressQ_ports (s : State) (p : Nat) (q : List Stamp) : (s.setEgressQ p q).ports = s.ports := rfl
@[simp] theorem State.setEgressQ_masthead (s : State) (p : Nat) (q : List Stamp) : (s.setEgressQ p q).masthead = s.masthead := rfl
@[simp] theorem State.setEgressQ_trim (s : State) (p : Nat) (q : List Stamp) : (s.setEgressQ p q).trim = s.trim := rfl
@[simp] theorem State.setEgressQ_kite (s : State) (p : Nat) (q : List Stamp) : (s.setEgressQ p q).kite = s.kite := rfl

/-! ### setTrouble -/

@[simp] theorem State.setTrouble_pending (s : State) (t : Trouble) : (s.setTrouble t).pending = s.pending := rfl
@[simp] theorem State.setTrouble_clock (s : State) (t : Trouble) : (s.setTrouble t).clock = s.clock := rfl
@[simp] theorem State.setTrouble_now (s : State) (t : Trouble) : (s.setTrouble t).now = s.now := rfl
@[simp] theorem State.setTrouble_rtcPhase (s : State) (t : Trouble) : (s.setTrouble t).rtcPhase = s.rtcPhase := rfl
@[simp] theorem State.setTrouble_freeCount (s : State) (t : Trouble) : (s.setTrouble t).freeCount = s.freeCount := rfl
@[simp] theorem State.setTrouble_regs (s : State) (t : Trouble) : (s.setTrouble t).regs = s.regs := rfl
@[simp] theorem State.setTrouble_live (s : State) (t : Trouble) : (s.setTrouble t).live = s.live := rfl
@[simp] theorem State.setTrouble_content (s : State) (t : Trouble) : (s.setTrouble t).content = s.content := rfl
@[simp] theorem State.setTrouble_blobs (s : State) (t : Trouble) : (s.setTrouble t).blobs = s.blobs := rfl
@[simp] theorem State.setTrouble_blobWrites (s : State) (t : Trouble) : (s.setTrouble t).blobWrites = s.blobWrites := rfl
@[simp] theorem State.setTrouble_dram (s : State) (t : Trouble) : (s.setTrouble t).dram = s.dram := rfl
@[simp] theorem State.setTrouble_sram (s : State) (t : Trouble) : (s.setTrouble t).sram = s.sram := rfl
@[simp] theorem State.setTrouble_power (s : State) (t : Trouble) : (s.setTrouble t).power = s.power := rfl
@[simp] theorem State.setTrouble_nv (s : State) (t : Trouble) : (s.setTrouble t).nv = s.nv := rfl
@[simp] theorem State.setTrouble_wdp (s : State) (t : Trouble) : (s.setTrouble t).wdp = s.wdp := rfl
@[simp] theorem State.setTrouble_halyard (s : State) (t : Trouble) : (s.setTrouble t).halyard = s.halyard := rfl
@[simp] theorem State.setTrouble_stay (s : State) (t : Trouble) : (s.setTrouble t).stay = s.stay := rfl
@[simp] theorem State.setTrouble_video (s : State) (t : Trouble) : (s.setTrouble t).video = s.video := rfl
@[simp] theorem State.setTrouble_cascadeIn (s : State) (t : Trouble) : (s.setTrouble t).cascadeIn = s.cascadeIn := rfl
@[simp] theorem State.setTrouble_sacn (s : State) (t : Trouble) : (s.setTrouble t).sacn = s.sacn := rfl
@[simp] theorem State.setTrouble_merged (s : State) (t : Trouble) : (s.setTrouble t).merged = s.merged := rfl
@[simp] theorem State.setTrouble_cue (s : State) (t : Trouble) : (s.setTrouble t).cue = s.cue := rfl
@[simp] theorem State.setTrouble_twin (s : State) (t : Trouble) : (s.setTrouble t).twin = s.twin := rfl
@[simp] theorem State.setTrouble_capstan (s : State) (t : Trouble) : (s.setTrouble t).capstan = s.capstan := rfl
@[simp] theorem State.setTrouble_update (s : State) (t : Trouble) : (s.setTrouble t).update = s.update := rfl
@[simp] theorem State.setTrouble_render (s : State) (t : Trouble) : (s.setTrouble t).render = s.render := rfl
@[simp] theorem State.setTrouble_sheet (s : State) (t : Trouble) : (s.setTrouble t).sheet = s.sheet := rfl
@[simp] theorem State.setTrouble_shroud (s : State) (t : Trouble) : (s.setTrouble t).shroud = s.shroud := rfl
@[simp] theorem State.setTrouble_ports (s : State) (t : Trouble) : (s.setTrouble t).ports = s.ports := rfl
@[simp] theorem State.setTrouble_masthead (s : State) (t : Trouble) : (s.setTrouble t).masthead = s.masthead := rfl
@[simp] theorem State.setTrouble_trim (s : State) (t : Trouble) : (s.setTrouble t).trim = s.trim := rfl
@[simp] theorem State.setTrouble_kite (s : State) (t : Trouble) : (s.setTrouble t).kite = s.kite := rfl

/-! ### setTwin -/

@[simp] theorem State.setTwin_pending (s : State) (t : Twin) : (s.setTwin t).pending = s.pending := rfl
@[simp] theorem State.setTwin_clock (s : State) (t : Twin) : (s.setTwin t).clock = s.clock := rfl
@[simp] theorem State.setTwin_now (s : State) (t : Twin) : (s.setTwin t).now = s.now := rfl
@[simp] theorem State.setTwin_rtcPhase (s : State) (t : Twin) : (s.setTwin t).rtcPhase = s.rtcPhase := rfl
@[simp] theorem State.setTwin_freeCount (s : State) (t : Twin) : (s.setTwin t).freeCount = s.freeCount := rfl
@[simp] theorem State.setTwin_regs (s : State) (t : Twin) : (s.setTwin t).regs = s.regs := rfl
@[simp] theorem State.setTwin_live (s : State) (t : Twin) : (s.setTwin t).live = s.live := rfl
@[simp] theorem State.setTwin_content (s : State) (t : Twin) : (s.setTwin t).content = s.content := rfl
@[simp] theorem State.setTwin_blobs (s : State) (t : Twin) : (s.setTwin t).blobs = s.blobs := rfl
@[simp] theorem State.setTwin_blobWrites (s : State) (t : Twin) : (s.setTwin t).blobWrites = s.blobWrites := rfl
@[simp] theorem State.setTwin_dram (s : State) (t : Twin) : (s.setTwin t).dram = s.dram := rfl
@[simp] theorem State.setTwin_sram (s : State) (t : Twin) : (s.setTwin t).sram = s.sram := rfl
@[simp] theorem State.setTwin_power (s : State) (t : Twin) : (s.setTwin t).power = s.power := rfl
@[simp] theorem State.setTwin_nv (s : State) (t : Twin) : (s.setTwin t).nv = s.nv := rfl
@[simp] theorem State.setTwin_wdp (s : State) (t : Twin) : (s.setTwin t).wdp = s.wdp := rfl
@[simp] theorem State.setTwin_trouble (s : State) (t : Twin) : (s.setTwin t).trouble = s.trouble := rfl
@[simp] theorem State.setTwin_halyard (s : State) (t : Twin) : (s.setTwin t).halyard = s.halyard := rfl
@[simp] theorem State.setTwin_stay (s : State) (t : Twin) : (s.setTwin t).stay = s.stay := rfl
@[simp] theorem State.setTwin_video (s : State) (t : Twin) : (s.setTwin t).video = s.video := rfl
@[simp] theorem State.setTwin_cascadeIn (s : State) (t : Twin) : (s.setTwin t).cascadeIn = s.cascadeIn := rfl
@[simp] theorem State.setTwin_sacn (s : State) (t : Twin) : (s.setTwin t).sacn = s.sacn := rfl
@[simp] theorem State.setTwin_merged (s : State) (t : Twin) : (s.setTwin t).merged = s.merged := rfl
@[simp] theorem State.setTwin_cue (s : State) (t : Twin) : (s.setTwin t).cue = s.cue := rfl
@[simp] theorem State.setTwin_capstan (s : State) (t : Twin) : (s.setTwin t).capstan = s.capstan := rfl
@[simp] theorem State.setTwin_update (s : State) (t : Twin) : (s.setTwin t).update = s.update := rfl
@[simp] theorem State.setTwin_render (s : State) (t : Twin) : (s.setTwin t).render = s.render := rfl
@[simp] theorem State.setTwin_sheet (s : State) (t : Twin) : (s.setTwin t).sheet = s.sheet := rfl
@[simp] theorem State.setTwin_shroud (s : State) (t : Twin) : (s.setTwin t).shroud = s.shroud := rfl
@[simp] theorem State.setTwin_ports (s : State) (t : Twin) : (s.setTwin t).ports = s.ports := rfl
@[simp] theorem State.setTwin_masthead (s : State) (t : Twin) : (s.setTwin t).masthead = s.masthead := rfl
@[simp] theorem State.setTwin_trim (s : State) (t : Twin) : (s.setTwin t).trim = s.trim := rfl
@[simp] theorem State.setTwin_kite (s : State) (t : Twin) : (s.setTwin t).kite = s.kite := rfl

/-! ### setRender -/

@[simp] theorem State.setRender_pending (s : State) (r : Render) : (s.setRender r).pending = s.pending := rfl
@[simp] theorem State.setRender_clock (s : State) (r : Render) : (s.setRender r).clock = s.clock := rfl
@[simp] theorem State.setRender_now (s : State) (r : Render) : (s.setRender r).now = s.now := rfl
@[simp] theorem State.setRender_rtcPhase (s : State) (r : Render) : (s.setRender r).rtcPhase = s.rtcPhase := rfl
@[simp] theorem State.setRender_freeCount (s : State) (r : Render) : (s.setRender r).freeCount = s.freeCount := rfl
@[simp] theorem State.setRender_regs (s : State) (r : Render) : (s.setRender r).regs = s.regs := rfl
@[simp] theorem State.setRender_live (s : State) (r : Render) : (s.setRender r).live = s.live := rfl
@[simp] theorem State.setRender_content (s : State) (r : Render) : (s.setRender r).content = s.content := rfl
@[simp] theorem State.setRender_blobs (s : State) (r : Render) : (s.setRender r).blobs = s.blobs := rfl
@[simp] theorem State.setRender_blobWrites (s : State) (r : Render) : (s.setRender r).blobWrites = s.blobWrites := rfl
@[simp] theorem State.setRender_dram (s : State) (r : Render) : (s.setRender r).dram = s.dram := rfl
@[simp] theorem State.setRender_sram (s : State) (r : Render) : (s.setRender r).sram = s.sram := rfl
@[simp] theorem State.setRender_power (s : State) (r : Render) : (s.setRender r).power = s.power := rfl
@[simp] theorem State.setRender_nv (s : State) (r : Render) : (s.setRender r).nv = s.nv := rfl
@[simp] theorem State.setRender_wdp (s : State) (r : Render) : (s.setRender r).wdp = s.wdp := rfl
@[simp] theorem State.setRender_trouble (s : State) (r : Render) : (s.setRender r).trouble = s.trouble := rfl
@[simp] theorem State.setRender_halyard (s : State) (r : Render) : (s.setRender r).halyard = s.halyard := rfl
@[simp] theorem State.setRender_stay (s : State) (r : Render) : (s.setRender r).stay = s.stay := rfl
@[simp] theorem State.setRender_video (s : State) (r : Render) : (s.setRender r).video = s.video := rfl
@[simp] theorem State.setRender_cascadeIn (s : State) (r : Render) : (s.setRender r).cascadeIn = s.cascadeIn := rfl
@[simp] theorem State.setRender_sacn (s : State) (r : Render) : (s.setRender r).sacn = s.sacn := rfl
@[simp] theorem State.setRender_merged (s : State) (r : Render) : (s.setRender r).merged = s.merged := rfl
@[simp] theorem State.setRender_cue (s : State) (r : Render) : (s.setRender r).cue = s.cue := rfl
@[simp] theorem State.setRender_twin (s : State) (r : Render) : (s.setRender r).twin = s.twin := rfl
@[simp] theorem State.setRender_capstan (s : State) (r : Render) : (s.setRender r).capstan = s.capstan := rfl
@[simp] theorem State.setRender_update (s : State) (r : Render) : (s.setRender r).update = s.update := rfl
@[simp] theorem State.setRender_sheet (s : State) (r : Render) : (s.setRender r).sheet = s.sheet := rfl
@[simp] theorem State.setRender_shroud (s : State) (r : Render) : (s.setRender r).shroud = s.shroud := rfl
@[simp] theorem State.setRender_ports (s : State) (r : Render) : (s.setRender r).ports = s.ports := rfl
@[simp] theorem State.setRender_masthead (s : State) (r : Render) : (s.setRender r).masthead = s.masthead := rfl
@[simp] theorem State.setRender_trim (s : State) (r : Render) : (s.setRender r).trim = s.trim := rfl
@[simp] theorem State.setRender_kite (s : State) (r : Render) : (s.setRender r).kite = s.kite := rfl

/-! ### setPort -/

@[simp] theorem State.setPort_pending (s : State) (p : Nat) (x : ShroudPort) : (s.setPort p x).pending = s.pending := rfl
@[simp] theorem State.setPort_clock (s : State) (p : Nat) (x : ShroudPort) : (s.setPort p x).clock = s.clock := rfl
@[simp] theorem State.setPort_now (s : State) (p : Nat) (x : ShroudPort) : (s.setPort p x).now = s.now := rfl
@[simp] theorem State.setPort_rtcPhase (s : State) (p : Nat) (x : ShroudPort) : (s.setPort p x).rtcPhase = s.rtcPhase := rfl
@[simp] theorem State.setPort_freeCount (s : State) (p : Nat) (x : ShroudPort) : (s.setPort p x).freeCount = s.freeCount := rfl
@[simp] theorem State.setPort_regs (s : State) (p : Nat) (x : ShroudPort) : (s.setPort p x).regs = s.regs := rfl
@[simp] theorem State.setPort_live (s : State) (p : Nat) (x : ShroudPort) : (s.setPort p x).live = s.live := rfl
@[simp] theorem State.setPort_content (s : State) (p : Nat) (x : ShroudPort) : (s.setPort p x).content = s.content := rfl
@[simp] theorem State.setPort_blobs (s : State) (p : Nat) (x : ShroudPort) : (s.setPort p x).blobs = s.blobs := rfl
@[simp] theorem State.setPort_blobWrites (s : State) (p : Nat) (x : ShroudPort) : (s.setPort p x).blobWrites = s.blobWrites := rfl
@[simp] theorem State.setPort_dram (s : State) (p : Nat) (x : ShroudPort) : (s.setPort p x).dram = s.dram := rfl
@[simp] theorem State.setPort_sram (s : State) (p : Nat) (x : ShroudPort) : (s.setPort p x).sram = s.sram := rfl
@[simp] theorem State.setPort_power (s : State) (p : Nat) (x : ShroudPort) : (s.setPort p x).power = s.power := rfl
@[simp] theorem State.setPort_nv (s : State) (p : Nat) (x : ShroudPort) : (s.setPort p x).nv = s.nv := rfl
@[simp] theorem State.setPort_wdp (s : State) (p : Nat) (x : ShroudPort) : (s.setPort p x).wdp = s.wdp := rfl
@[simp] theorem State.setPort_trouble (s : State) (p : Nat) (x : ShroudPort) : (s.setPort p x).trouble = s.trouble := rfl
@[simp] theorem State.setPort_halyard (s : State) (p : Nat) (x : ShroudPort) : (s.setPort p x).halyard = s.halyard := rfl
@[simp] theorem State.setPort_stay (s : State) (p : Nat) (x : ShroudPort) : (s.setPort p x).stay = s.stay := rfl
@[simp] theorem State.setPort_video (s : State) (p : Nat) (x : ShroudPort) : (s.setPort p x).video = s.video := rfl
@[simp] theorem State.setPort_cascadeIn (s : State) (p : Nat) (x : ShroudPort) : (s.setPort p x).cascadeIn = s.cascadeIn := rfl
@[simp] theorem State.setPort_sacn (s : State) (p : Nat) (x : ShroudPort) : (s.setPort p x).sacn = s.sacn := rfl
@[simp] theorem State.setPort_merged (s : State) (p : Nat) (x : ShroudPort) : (s.setPort p x).merged = s.merged := rfl
@[simp] theorem State.setPort_cue (s : State) (p : Nat) (x : ShroudPort) : (s.setPort p x).cue = s.cue := rfl
@[simp] theorem State.setPort_twin (s : State) (p : Nat) (x : ShroudPort) : (s.setPort p x).twin = s.twin := rfl
@[simp] theorem State.setPort_capstan (s : State) (p : Nat) (x : ShroudPort) : (s.setPort p x).capstan = s.capstan := rfl
@[simp] theorem State.setPort_update (s : State) (p : Nat) (x : ShroudPort) : (s.setPort p x).update = s.update := rfl
@[simp] theorem State.setPort_render (s : State) (p : Nat) (x : ShroudPort) : (s.setPort p x).render = s.render := rfl
@[simp] theorem State.setPort_sheet (s : State) (p : Nat) (x : ShroudPort) : (s.setPort p x).sheet = s.sheet := rfl
@[simp] theorem State.setPort_shroud (s : State) (p : Nat) (x : ShroudPort) : (s.setPort p x).shroud = s.shroud := rfl
@[simp] theorem State.setPort_masthead (s : State) (p : Nat) (x : ShroudPort) : (s.setPort p x).masthead = s.masthead := rfl
@[simp] theorem State.setPort_trim (s : State) (p : Nat) (x : ShroudPort) : (s.setPort p x).trim = s.trim := rfl
@[simp] theorem State.setPort_kite (s : State) (p : Nat) (x : ShroudPort) : (s.setPort p x).kite = s.kite := rfl

/-! ### setMast -/

@[simp] theorem State.setMast_pending (s : State) (m : Masthead) : (s.setMast m).pending = s.pending := rfl
@[simp] theorem State.setMast_clock (s : State) (m : Masthead) : (s.setMast m).clock = s.clock := rfl
@[simp] theorem State.setMast_now (s : State) (m : Masthead) : (s.setMast m).now = s.now := rfl
@[simp] theorem State.setMast_rtcPhase (s : State) (m : Masthead) : (s.setMast m).rtcPhase = s.rtcPhase := rfl
@[simp] theorem State.setMast_freeCount (s : State) (m : Masthead) : (s.setMast m).freeCount = s.freeCount := rfl
@[simp] theorem State.setMast_regs (s : State) (m : Masthead) : (s.setMast m).regs = s.regs := rfl
@[simp] theorem State.setMast_live (s : State) (m : Masthead) : (s.setMast m).live = s.live := rfl
@[simp] theorem State.setMast_content (s : State) (m : Masthead) : (s.setMast m).content = s.content := rfl
@[simp] theorem State.setMast_blobs (s : State) (m : Masthead) : (s.setMast m).blobs = s.blobs := rfl
@[simp] theorem State.setMast_blobWrites (s : State) (m : Masthead) : (s.setMast m).blobWrites = s.blobWrites := rfl
@[simp] theorem State.setMast_dram (s : State) (m : Masthead) : (s.setMast m).dram = s.dram := rfl
@[simp] theorem State.setMast_sram (s : State) (m : Masthead) : (s.setMast m).sram = s.sram := rfl
@[simp] theorem State.setMast_power (s : State) (m : Masthead) : (s.setMast m).power = s.power := rfl
@[simp] theorem State.setMast_nv (s : State) (m : Masthead) : (s.setMast m).nv = s.nv := rfl
@[simp] theorem State.setMast_wdp (s : State) (m : Masthead) : (s.setMast m).wdp = s.wdp := rfl
@[simp] theorem State.setMast_trouble (s : State) (m : Masthead) : (s.setMast m).trouble = s.trouble := rfl
@[simp] theorem State.setMast_halyard (s : State) (m : Masthead) : (s.setMast m).halyard = s.halyard := rfl
@[simp] theorem State.setMast_stay (s : State) (m : Masthead) : (s.setMast m).stay = s.stay := rfl
@[simp] theorem State.setMast_video (s : State) (m : Masthead) : (s.setMast m).video = s.video := rfl
@[simp] theorem State.setMast_cascadeIn (s : State) (m : Masthead) : (s.setMast m).cascadeIn = s.cascadeIn := rfl
@[simp] theorem State.setMast_sacn (s : State) (m : Masthead) : (s.setMast m).sacn = s.sacn := rfl
@[simp] theorem State.setMast_merged (s : State) (m : Masthead) : (s.setMast m).merged = s.merged := rfl
@[simp] theorem State.setMast_cue (s : State) (m : Masthead) : (s.setMast m).cue = s.cue := rfl
@[simp] theorem State.setMast_twin (s : State) (m : Masthead) : (s.setMast m).twin = s.twin := rfl
@[simp] theorem State.setMast_capstan (s : State) (m : Masthead) : (s.setMast m).capstan = s.capstan := rfl
@[simp] theorem State.setMast_update (s : State) (m : Masthead) : (s.setMast m).update = s.update := rfl
@[simp] theorem State.setMast_render (s : State) (m : Masthead) : (s.setMast m).render = s.render := rfl
@[simp] theorem State.setMast_sheet (s : State) (m : Masthead) : (s.setMast m).sheet = s.sheet := rfl
@[simp] theorem State.setMast_shroud (s : State) (m : Masthead) : (s.setMast m).shroud = s.shroud := rfl
@[simp] theorem State.setMast_ports (s : State) (m : Masthead) : (s.setMast m).ports = s.ports := rfl
@[simp] theorem State.setMast_trim (s : State) (m : Masthead) : (s.setMast m).trim = s.trim := rfl
@[simp] theorem State.setMast_kite (s : State) (m : Masthead) : (s.setMast m).kite = s.kite := rfl

/-! ### setKite -/

@[simp] theorem State.setKite_pending (s : State) (k : Kite) : (s.setKite k).pending = s.pending := rfl
@[simp] theorem State.setKite_clock (s : State) (k : Kite) : (s.setKite k).clock = s.clock := rfl
@[simp] theorem State.setKite_now (s : State) (k : Kite) : (s.setKite k).now = s.now := rfl
@[simp] theorem State.setKite_rtcPhase (s : State) (k : Kite) : (s.setKite k).rtcPhase = s.rtcPhase := rfl
@[simp] theorem State.setKite_freeCount (s : State) (k : Kite) : (s.setKite k).freeCount = s.freeCount := rfl
@[simp] theorem State.setKite_regs (s : State) (k : Kite) : (s.setKite k).regs = s.regs := rfl
@[simp] theorem State.setKite_live (s : State) (k : Kite) : (s.setKite k).live = s.live := rfl
@[simp] theorem State.setKite_content (s : State) (k : Kite) : (s.setKite k).content = s.content := rfl
@[simp] theorem State.setKite_blobs (s : State) (k : Kite) : (s.setKite k).blobs = s.blobs := rfl
@[simp] theorem State.setKite_blobWrites (s : State) (k : Kite) : (s.setKite k).blobWrites = s.blobWrites := rfl
@[simp] theorem State.setKite_dram (s : State) (k : Kite) : (s.setKite k).dram = s.dram := rfl
@[simp] theorem State.setKite_sram (s : State) (k : Kite) : (s.setKite k).sram = s.sram := rfl
@[simp] theorem State.setKite_power (s : State) (k : Kite) : (s.setKite k).power = s.power := rfl
@[simp] theorem State.setKite_nv (s : State) (k : Kite) : (s.setKite k).nv = s.nv := rfl
@[simp] theorem State.setKite_wdp (s : State) (k : Kite) : (s.setKite k).wdp = s.wdp := rfl
@[simp] theorem State.setKite_trouble (s : State) (k : Kite) : (s.setKite k).trouble = s.trouble := rfl
@[simp] theorem State.setKite_halyard (s : State) (k : Kite) : (s.setKite k).halyard = s.halyard := rfl
@[simp] theorem State.setKite_stay (s : State) (k : Kite) : (s.setKite k).stay = s.stay := rfl
@[simp] theorem State.setKite_video (s : State) (k : Kite) : (s.setKite k).video = s.video := rfl
@[simp] theorem State.setKite_cascadeIn (s : State) (k : Kite) : (s.setKite k).cascadeIn = s.cascadeIn := rfl
@[simp] theorem State.setKite_sacn (s : State) (k : Kite) : (s.setKite k).sacn = s.sacn := rfl
@[simp] theorem State.setKite_merged (s : State) (k : Kite) : (s.setKite k).merged = s.merged := rfl
@[simp] theorem State.setKite_cue (s : State) (k : Kite) : (s.setKite k).cue = s.cue := rfl
@[simp] theorem State.setKite_twin (s : State) (k : Kite) : (s.setKite k).twin = s.twin := rfl
@[simp] theorem State.setKite_capstan (s : State) (k : Kite) : (s.setKite k).capstan = s.capstan := rfl
@[simp] theorem State.setKite_update (s : State) (k : Kite) : (s.setKite k).update = s.update := rfl
@[simp] theorem State.setKite_render (s : State) (k : Kite) : (s.setKite k).render = s.render := rfl
@[simp] theorem State.setKite_sheet (s : State) (k : Kite) : (s.setKite k).sheet = s.sheet := rfl
@[simp] theorem State.setKite_shroud (s : State) (k : Kite) : (s.setKite k).shroud = s.shroud := rfl
@[simp] theorem State.setKite_ports (s : State) (k : Kite) : (s.setKite k).ports = s.ports := rfl
@[simp] theorem State.setKite_masthead (s : State) (k : Kite) : (s.setKite k).masthead = s.masthead := rfl
@[simp] theorem State.setKite_trim (s : State) (k : Kite) : (s.setKite k).trim = s.trim := rfl

/-! ### setUpdate -/

@[simp] theorem State.setUpdate_pending (s : State) (u : Update) : (s.setUpdate u).pending = s.pending := rfl
@[simp] theorem State.setUpdate_clock (s : State) (u : Update) : (s.setUpdate u).clock = s.clock := rfl
@[simp] theorem State.setUpdate_now (s : State) (u : Update) : (s.setUpdate u).now = s.now := rfl
@[simp] theorem State.setUpdate_rtcPhase (s : State) (u : Update) : (s.setUpdate u).rtcPhase = s.rtcPhase := rfl
@[simp] theorem State.setUpdate_freeCount (s : State) (u : Update) : (s.setUpdate u).freeCount = s.freeCount := rfl
@[simp] theorem State.setUpdate_regs (s : State) (u : Update) : (s.setUpdate u).regs = s.regs := rfl
@[simp] theorem State.setUpdate_live (s : State) (u : Update) : (s.setUpdate u).live = s.live := rfl
@[simp] theorem State.setUpdate_content (s : State) (u : Update) : (s.setUpdate u).content = s.content := rfl
@[simp] theorem State.setUpdate_blobs (s : State) (u : Update) : (s.setUpdate u).blobs = s.blobs := rfl
@[simp] theorem State.setUpdate_blobWrites (s : State) (u : Update) : (s.setUpdate u).blobWrites = s.blobWrites := rfl
@[simp] theorem State.setUpdate_dram (s : State) (u : Update) : (s.setUpdate u).dram = s.dram := rfl
@[simp] theorem State.setUpdate_sram (s : State) (u : Update) : (s.setUpdate u).sram = s.sram := rfl
@[simp] theorem State.setUpdate_power (s : State) (u : Update) : (s.setUpdate u).power = s.power := rfl
@[simp] theorem State.setUpdate_nv (s : State) (u : Update) : (s.setUpdate u).nv = s.nv := rfl
@[simp] theorem State.setUpdate_wdp (s : State) (u : Update) : (s.setUpdate u).wdp = s.wdp := rfl
@[simp] theorem State.setUpdate_trouble (s : State) (u : Update) : (s.setUpdate u).trouble = s.trouble := rfl
@[simp] theorem State.setUpdate_halyard (s : State) (u : Update) : (s.setUpdate u).halyard = s.halyard := rfl
@[simp] theorem State.setUpdate_stay (s : State) (u : Update) : (s.setUpdate u).stay = s.stay := rfl
@[simp] theorem State.setUpdate_video (s : State) (u : Update) : (s.setUpdate u).video = s.video := rfl
@[simp] theorem State.setUpdate_cascadeIn (s : State) (u : Update) : (s.setUpdate u).cascadeIn = s.cascadeIn := rfl
@[simp] theorem State.setUpdate_sacn (s : State) (u : Update) : (s.setUpdate u).sacn = s.sacn := rfl
@[simp] theorem State.setUpdate_merged (s : State) (u : Update) : (s.setUpdate u).merged = s.merged := rfl
@[simp] theorem State.setUpdate_cue (s : State) (u : Update) : (s.setUpdate u).cue = s.cue := rfl
@[simp] theorem State.setUpdate_twin (s : State) (u : Update) : (s.setUpdate u).twin = s.twin := rfl
@[simp] theorem State.setUpdate_capstan (s : State) (u : Update) : (s.setUpdate u).capstan = s.capstan := rfl
@[simp] theorem State.setUpdate_render (s : State) (u : Update) : (s.setUpdate u).render = s.render := rfl
@[simp] theorem State.setUpdate_sheet (s : State) (u : Update) : (s.setUpdate u).sheet = s.sheet := rfl
@[simp] theorem State.setUpdate_shroud (s : State) (u : Update) : (s.setUpdate u).shroud = s.shroud := rfl
@[simp] theorem State.setUpdate_ports (s : State) (u : Update) : (s.setUpdate u).ports = s.ports := rfl
@[simp] theorem State.setUpdate_masthead (s : State) (u : Update) : (s.setUpdate u).masthead = s.masthead := rfl
@[simp] theorem State.setUpdate_trim (s : State) (u : Update) : (s.setUpdate u).trim = s.trim := rfl
@[simp] theorem State.setUpdate_kite (s : State) (u : Update) : (s.setUpdate u).kite = s.kite := rfl

/-! ### setSleep -/

@[simp] theorem State.setSleep_pending (s : State) (x : Sleep) : (s.setSleep x).pending = s.pending := rfl
@[simp] theorem State.setSleep_clock (s : State) (x : Sleep) : (s.setSleep x).clock = s.clock := rfl
@[simp] theorem State.setSleep_now (s : State) (x : Sleep) : (s.setSleep x).now = s.now := rfl
@[simp] theorem State.setSleep_rtcPhase (s : State) (x : Sleep) : (s.setSleep x).rtcPhase = s.rtcPhase := rfl
@[simp] theorem State.setSleep_freeCount (s : State) (x : Sleep) : (s.setSleep x).freeCount = s.freeCount := rfl
@[simp] theorem State.setSleep_regs (s : State) (x : Sleep) : (s.setSleep x).regs = s.regs := rfl
@[simp] theorem State.setSleep_live (s : State) (x : Sleep) : (s.setSleep x).live = s.live := rfl
@[simp] theorem State.setSleep_content (s : State) (x : Sleep) : (s.setSleep x).content = s.content := rfl
@[simp] theorem State.setSleep_blobs (s : State) (x : Sleep) : (s.setSleep x).blobs = s.blobs := rfl
@[simp] theorem State.setSleep_blobWrites (s : State) (x : Sleep) : (s.setSleep x).blobWrites = s.blobWrites := rfl
@[simp] theorem State.setSleep_dram (s : State) (x : Sleep) : (s.setSleep x).dram = s.dram := rfl
@[simp] theorem State.setSleep_sram (s : State) (x : Sleep) : (s.setSleep x).sram = s.sram := rfl
@[simp] theorem State.setSleep_nv (s : State) (x : Sleep) : (s.setSleep x).nv = s.nv := rfl
@[simp] theorem State.setSleep_wdp (s : State) (x : Sleep) : (s.setSleep x).wdp = s.wdp := rfl
@[simp] theorem State.setSleep_trouble (s : State) (x : Sleep) : (s.setSleep x).trouble = s.trouble := rfl
@[simp] theorem State.setSleep_halyard (s : State) (x : Sleep) : (s.setSleep x).halyard = s.halyard := rfl
@[simp] theorem State.setSleep_stay (s : State) (x : Sleep) : (s.setSleep x).stay = s.stay := rfl
@[simp] theorem State.setSleep_video (s : State) (x : Sleep) : (s.setSleep x).video = s.video := rfl
@[simp] theorem State.setSleep_cascadeIn (s : State) (x : Sleep) : (s.setSleep x).cascadeIn = s.cascadeIn := rfl
@[simp] theorem State.setSleep_sacn (s : State) (x : Sleep) : (s.setSleep x).sacn = s.sacn := rfl
@[simp] theorem State.setSleep_merged (s : State) (x : Sleep) : (s.setSleep x).merged = s.merged := rfl
@[simp] theorem State.setSleep_cue (s : State) (x : Sleep) : (s.setSleep x).cue = s.cue := rfl
@[simp] theorem State.setSleep_twin (s : State) (x : Sleep) : (s.setSleep x).twin = s.twin := rfl
@[simp] theorem State.setSleep_capstan (s : State) (x : Sleep) : (s.setSleep x).capstan = s.capstan := rfl
@[simp] theorem State.setSleep_update (s : State) (x : Sleep) : (s.setSleep x).update = s.update := rfl
@[simp] theorem State.setSleep_render (s : State) (x : Sleep) : (s.setSleep x).render = s.render := rfl
@[simp] theorem State.setSleep_sheet (s : State) (x : Sleep) : (s.setSleep x).sheet = s.sheet := rfl
@[simp] theorem State.setSleep_shroud (s : State) (x : Sleep) : (s.setSleep x).shroud = s.shroud := rfl
@[simp] theorem State.setSleep_ports (s : State) (x : Sleep) : (s.setSleep x).ports = s.ports := rfl
@[simp] theorem State.setSleep_masthead (s : State) (x : Sleep) : (s.setSleep x).masthead = s.masthead := rfl
@[simp] theorem State.setSleep_trim (s : State) (x : Sleep) : (s.setSleep x).trim = s.trim := rfl
@[simp] theorem State.setSleep_kite (s : State) (x : Sleep) : (s.setSleep x).kite = s.kite := rfl

/-! ### setWakeLatch -/

@[simp] theorem State.setWakeLatch_pending (s : State) (x : Option WakeSource) : (s.setWakeLatch x).pending = s.pending := rfl
@[simp] theorem State.setWakeLatch_clock (s : State) (x : Option WakeSource) : (s.setWakeLatch x).clock = s.clock := rfl
@[simp] theorem State.setWakeLatch_now (s : State) (x : Option WakeSource) : (s.setWakeLatch x).now = s.now := rfl
@[simp] theorem State.setWakeLatch_rtcPhase (s : State) (x : Option WakeSource) : (s.setWakeLatch x).rtcPhase = s.rtcPhase := rfl
@[simp] theorem State.setWakeLatch_freeCount (s : State) (x : Option WakeSource) : (s.setWakeLatch x).freeCount = s.freeCount := rfl
@[simp] theorem State.setWakeLatch_regs (s : State) (x : Option WakeSource) : (s.setWakeLatch x).regs = s.regs := rfl
@[simp] theorem State.setWakeLatch_live (s : State) (x : Option WakeSource) : (s.setWakeLatch x).live = s.live := rfl
@[simp] theorem State.setWakeLatch_content (s : State) (x : Option WakeSource) : (s.setWakeLatch x).content = s.content := rfl
@[simp] theorem State.setWakeLatch_blobs (s : State) (x : Option WakeSource) : (s.setWakeLatch x).blobs = s.blobs := rfl
@[simp] theorem State.setWakeLatch_blobWrites (s : State) (x : Option WakeSource) : (s.setWakeLatch x).blobWrites = s.blobWrites := rfl
@[simp] theorem State.setWakeLatch_dram (s : State) (x : Option WakeSource) : (s.setWakeLatch x).dram = s.dram := rfl
@[simp] theorem State.setWakeLatch_sram (s : State) (x : Option WakeSource) : (s.setWakeLatch x).sram = s.sram := rfl
@[simp] theorem State.setWakeLatch_nv (s : State) (x : Option WakeSource) : (s.setWakeLatch x).nv = s.nv := rfl
@[simp] theorem State.setWakeLatch_wdp (s : State) (x : Option WakeSource) : (s.setWakeLatch x).wdp = s.wdp := rfl
@[simp] theorem State.setWakeLatch_trouble (s : State) (x : Option WakeSource) : (s.setWakeLatch x).trouble = s.trouble := rfl
@[simp] theorem State.setWakeLatch_halyard (s : State) (x : Option WakeSource) : (s.setWakeLatch x).halyard = s.halyard := rfl
@[simp] theorem State.setWakeLatch_stay (s : State) (x : Option WakeSource) : (s.setWakeLatch x).stay = s.stay := rfl
@[simp] theorem State.setWakeLatch_video (s : State) (x : Option WakeSource) : (s.setWakeLatch x).video = s.video := rfl
@[simp] theorem State.setWakeLatch_cascadeIn (s : State) (x : Option WakeSource) : (s.setWakeLatch x).cascadeIn = s.cascadeIn := rfl
@[simp] theorem State.setWakeLatch_sacn (s : State) (x : Option WakeSource) : (s.setWakeLatch x).sacn = s.sacn := rfl
@[simp] theorem State.setWakeLatch_merged (s : State) (x : Option WakeSource) : (s.setWakeLatch x).merged = s.merged := rfl
@[simp] theorem State.setWakeLatch_cue (s : State) (x : Option WakeSource) : (s.setWakeLatch x).cue = s.cue := rfl
@[simp] theorem State.setWakeLatch_twin (s : State) (x : Option WakeSource) : (s.setWakeLatch x).twin = s.twin := rfl
@[simp] theorem State.setWakeLatch_capstan (s : State) (x : Option WakeSource) : (s.setWakeLatch x).capstan = s.capstan := rfl
@[simp] theorem State.setWakeLatch_update (s : State) (x : Option WakeSource) : (s.setWakeLatch x).update = s.update := rfl
@[simp] theorem State.setWakeLatch_render (s : State) (x : Option WakeSource) : (s.setWakeLatch x).render = s.render := rfl
@[simp] theorem State.setWakeLatch_sheet (s : State) (x : Option WakeSource) : (s.setWakeLatch x).sheet = s.sheet := rfl
@[simp] theorem State.setWakeLatch_shroud (s : State) (x : Option WakeSource) : (s.setWakeLatch x).shroud = s.shroud := rfl
@[simp] theorem State.setWakeLatch_ports (s : State) (x : Option WakeSource) : (s.setWakeLatch x).ports = s.ports := rfl
@[simp] theorem State.setWakeLatch_masthead (s : State) (x : Option WakeSource) : (s.setWakeLatch x).masthead = s.masthead := rfl
@[simp] theorem State.setWakeLatch_trim (s : State) (x : Option WakeSource) : (s.setWakeLatch x).trim = s.trim := rfl
@[simp] theorem State.setWakeLatch_kite (s : State) (x : Option WakeSource) : (s.setWakeLatch x).kite = s.kite := rfl

/-! ### setBoot -/

@[simp] theorem State.setBoot_pending (s : State) (b : Boot) : (s.setBoot b).pending = s.pending := rfl
@[simp] theorem State.setBoot_clock (s : State) (b : Boot) : (s.setBoot b).clock = s.clock := rfl
@[simp] theorem State.setBoot_now (s : State) (b : Boot) : (s.setBoot b).now = s.now := rfl
@[simp] theorem State.setBoot_rtcPhase (s : State) (b : Boot) : (s.setBoot b).rtcPhase = s.rtcPhase := rfl
@[simp] theorem State.setBoot_freeCount (s : State) (b : Boot) : (s.setBoot b).freeCount = s.freeCount := rfl
@[simp] theorem State.setBoot_regs (s : State) (b : Boot) : (s.setBoot b).regs = s.regs := rfl
@[simp] theorem State.setBoot_live (s : State) (b : Boot) : (s.setBoot b).live = s.live := rfl
@[simp] theorem State.setBoot_content (s : State) (b : Boot) : (s.setBoot b).content = s.content := rfl
@[simp] theorem State.setBoot_blobs (s : State) (b : Boot) : (s.setBoot b).blobs = s.blobs := rfl
@[simp] theorem State.setBoot_blobWrites (s : State) (b : Boot) : (s.setBoot b).blobWrites = s.blobWrites := rfl
@[simp] theorem State.setBoot_dram (s : State) (b : Boot) : (s.setBoot b).dram = s.dram := rfl
@[simp] theorem State.setBoot_sram (s : State) (b : Boot) : (s.setBoot b).sram = s.sram := rfl
@[simp] theorem State.setBoot_nv (s : State) (b : Boot) : (s.setBoot b).nv = s.nv := rfl
@[simp] theorem State.setBoot_wdp (s : State) (b : Boot) : (s.setBoot b).wdp = s.wdp := rfl
@[simp] theorem State.setBoot_trouble (s : State) (b : Boot) : (s.setBoot b).trouble = s.trouble := rfl
@[simp] theorem State.setBoot_halyard (s : State) (b : Boot) : (s.setBoot b).halyard = s.halyard := rfl
@[simp] theorem State.setBoot_stay (s : State) (b : Boot) : (s.setBoot b).stay = s.stay := rfl
@[simp] theorem State.setBoot_video (s : State) (b : Boot) : (s.setBoot b).video = s.video := rfl
@[simp] theorem State.setBoot_cascadeIn (s : State) (b : Boot) : (s.setBoot b).cascadeIn = s.cascadeIn := rfl
@[simp] theorem State.setBoot_sacn (s : State) (b : Boot) : (s.setBoot b).sacn = s.sacn := rfl
@[simp] theorem State.setBoot_merged (s : State) (b : Boot) : (s.setBoot b).merged = s.merged := rfl
@[simp] theorem State.setBoot_cue (s : State) (b : Boot) : (s.setBoot b).cue = s.cue := rfl
@[simp] theorem State.setBoot_twin (s : State) (b : Boot) : (s.setBoot b).twin = s.twin := rfl
@[simp] theorem State.setBoot_capstan (s : State) (b : Boot) : (s.setBoot b).capstan = s.capstan := rfl
@[simp] theorem State.setBoot_update (s : State) (b : Boot) : (s.setBoot b).update = s.update := rfl
@[simp] theorem State.setBoot_render (s : State) (b : Boot) : (s.setBoot b).render = s.render := rfl
@[simp] theorem State.setBoot_sheet (s : State) (b : Boot) : (s.setBoot b).sheet = s.sheet := rfl
@[simp] theorem State.setBoot_shroud (s : State) (b : Boot) : (s.setBoot b).shroud = s.shroud := rfl
@[simp] theorem State.setBoot_ports (s : State) (b : Boot) : (s.setBoot b).ports = s.ports := rfl
@[simp] theorem State.setBoot_masthead (s : State) (b : Boot) : (s.setBoot b).masthead = s.masthead := rfl
@[simp] theorem State.setBoot_trim (s : State) (b : Boot) : (s.setBoot b).trim = s.trim := rfl
@[simp] theorem State.setBoot_kite (s : State) (b : Boot) : (s.setBoot b).kite = s.kite := rfl

/-! ### Registers, fields and bits -/

/-- The number of a parameter and the low eight bits of an element are read back from a register key. -/
theorem Dict.key_inj {p e q f : Nat} (h : Dict.key p e = Dict.key q f) : p = q ∧ e % 256 = f % 256 := by
  unfold Dict.key at h
  omega

@[simp] theorem State.rd_wr_same (s : State) (p e : Nat) (v : Wide) : (s.wr p e v).rd p e = v := by
  simp [State.rd, State.wr]

/-- A write leaves every other element as it was. -/
theorem State.rd_wr_other (s : State) (p e q f : Nat) (v : Wide) (h : q ≠ p ∨ f % 256 ≠ e % 256) :
    (s.wr p e v).rd q f = s.rd q f := by
  unfold State.rd State.wr
  apply SMap.get_set_other
  intro hk
  have := Dict.key_inj hk
  omega

/-- A write leaves every element of another parameter as it was. -/
theorem State.rd_wr_param (s : State) (p e q f : Nat) (v : Wide) (h : q ≠ p) : (s.wr p e v).rd q f = s.rd q f :=
  State.rd_wr_other s p e q f v (Or.inl h)

@[simp] theorem State.lv_setLive_same (s : State) (p e : Nat) (v : Wide) : (s.setLive p e v).lv p e = v := by
  simp [State.lv, State.setLive]

@[simp] theorem State.blob_setBlob_same (s : State) (p : Nat) (b : List Byte) : (s.setBlob p b).blob p = b := by
  simp [State.blob, State.setBlob]

theorem State.blob_setBlob_other (s : State) (p q : Nat) (b : List Byte) (h : q ≠ p) :
    (s.setBlob p b).blob q = s.blob q := by
  unfold State.blob State.setBlob
  exact SMap.get_set_other _ _ _ _ _ _ h

@[simp] theorem State.session_setSession_same (s : State) (n : Nat) (x : Session) : (s.setSession n x).session n = x := by
  simp [State.session, State.setSession]
@[simp] theorem State.xfer_setXfer_same (s : State) (n : Nat) (x : Xfer) : (s.setXfer n x).xfer n = x := by
  simp [State.xfer, State.setXfer]
@[simp] theorem State.sub_setSub_same (s : State) (n : Nat) (x : Subscription) : (s.setSub n x).sub n = x := by
  simp [State.sub, State.setSub]
@[simp] theorem State.core_setCore_same (s : State) (n : Nat) (x : DeckCore) : (s.setCore n x).core n = x := by
  simp [State.core, State.setCore]
@[simp] theorem State.thread_setThread_same (s : State) (n : Nat) (x : Thread) : (s.setThread n x).thread n = x := by
  simp [State.thread, State.setThread]
@[simp] theorem State.stayPort_setStayPort_same (s : State) (n : Nat) (x : StayPort) :
    (s.setStayPort n x).stayPort n = x := by
  simp [State.stayPort, State.setStayPort]
@[simp] theorem State.vid_setVid_same (s : State) (n : Nat) (x : Video) : (s.setVid n x).vid n = x := by
  simp [State.vid, State.setVid]
@[simp] theorem State.casc_setCasc_same (s : State) (n : Nat) (x : CascadeIn) : (s.setCasc n x).casc n = x := by
  simp [State.casc, State.setCasc]
@[simp] theorem State.mergedAt_setMerged_same (s : State) (n : Nat) (x : Merged) : (s.setMerged n x).mergedAt n = x := by
  simp [State.mergedAt, State.setMerged]
@[simp] theorem State.stayPtp_setStayPtp_same (s : State) (n : Nat) (x : StayPtp) :
    (s.setStayPtp n x).stayPtp n = x := by
  simp [State.stayPtp, State.setStayPtp]
@[simp] theorem State.shroudPtp_setShroudPtp_same (s : State) (n : Nat) (x : ShroudPtp) :
    (s.setShroudPtp n x).shroudPtp n = x := by
  simp [State.shroudPtp, State.setShroudPtp]
@[simp] theorem State.port_setPort_same (s : State) (n : Nat) (x : ShroudPort) : (s.setPort n x).port n = x := by
  simp [State.port, State.setPort]

/-! ### Instances of repeated blocks: the one written, and every other -/

theorem State.session_setSession (s : State) (n i : Nat) (x : Session) :
    (s.setSession n x).session i = if i = n then x else s.session i := by
  unfold State.session State.setSession
  split
  · rename_i h
    rw [h]
    exact SMap.get_set_same _ _ _ _
  · rename_i h
    exact SMap.get_set_other _ _ _ _ _ _ h
theorem State.xfer_setXfer (s : State) (n i : Nat) (x : Xfer) :
    (s.setXfer n x).xfer i = if i = n then x else s.xfer i := by
  unfold State.xfer State.setXfer
  split
  · rename_i h
    rw [h]
    exact SMap.get_set_same _ _ _ _
  · rename_i h
    exact SMap.get_set_other _ _ _ _ _ _ h
theorem State.sub_setSub (s : State) (n i : Nat) (x : Subscription) :
    (s.setSub n x).sub i = if i = n then x else s.sub i := by
  unfold State.sub State.setSub
  split
  · rename_i h
    rw [h]
    exact SMap.get_set_same _ _ _ _
  · rename_i h
    exact SMap.get_set_other _ _ _ _ _ _ h
theorem State.core_setCore (s : State) (n i : Nat) (x : DeckCore) :
    (s.setCore n x).core i = if i = n then x else s.core i := by
  unfold State.core State.setCore
  split
  · rename_i h
    rw [h]
    exact SMap.get_set_same _ _ _ _
  · rename_i h
    exact SMap.get_set_other _ _ _ _ _ _ h
theorem State.thread_setThread (s : State) (n i : Nat) (x : Thread) :
    (s.setThread n x).thread i = if i = n then x else s.thread i := by
  unfold State.thread State.setThread
  split
  · rename_i h
    rw [h]
    exact SMap.get_set_same _ _ _ _
  · rename_i h
    exact SMap.get_set_other _ _ _ _ _ _ h
theorem State.stayPort_setStayPort (s : State) (n i : Nat) (x : StayPort) :
    (s.setStayPort n x).stayPort i = if i = n then x else s.stayPort i := by
  unfold State.stayPort State.setStayPort
  split
  · rename_i h
    rw [h]
    exact SMap.get_set_same _ _ _ _
  · rename_i h
    exact SMap.get_set_other _ _ _ _ _ _ h
theorem State.vid_setVid (s : State) (n i : Nat) (x : Video) :
    (s.setVid n x).vid i = if i = n then x else s.vid i := by
  unfold State.vid State.setVid
  split
  · rename_i h
    rw [h]
    exact SMap.get_set_same _ _ _ _
  · rename_i h
    exact SMap.get_set_other _ _ _ _ _ _ h
theorem State.casc_setCasc (s : State) (n i : Nat) (x : CascadeIn) :
    (s.setCasc n x).casc i = if i = n then x else s.casc i := by
  unfold State.casc State.setCasc
  split
  · rename_i h
    rw [h]
    exact SMap.get_set_same _ _ _ _
  · rename_i h
    exact SMap.get_set_other _ _ _ _ _ _ h
theorem State.mergedAt_setMerged (s : State) (n i : Nat) (x : Merged) :
    (s.setMerged n x).mergedAt i = if i = n then x else s.mergedAt i := by
  unfold State.mergedAt State.setMerged
  split
  · rename_i h
    rw [h]
    exact SMap.get_set_same _ _ _ _
  · rename_i h
    exact SMap.get_set_other _ _ _ _ _ _ h
theorem State.stayPtp_setStayPtp (s : State) (n i : Nat) (x : StayPtp) :
    (s.setStayPtp n x).stayPtp i = if i = n then x else s.stayPtp i := by
  unfold State.stayPtp State.setStayPtp
  split
  · rename_i h
    rw [h]
    exact SMap.get_set_same _ _ _ _
  · rename_i h
    exact SMap.get_set_other _ _ _ _ _ _ h
theorem State.shroudPtp_setShroudPtp (s : State) (n i : Nat) (x : ShroudPtp) :
    (s.setShroudPtp n x).shroudPtp i = if i = n then x else s.shroudPtp i := by
  unfold State.shroudPtp State.setShroudPtp
  split
  · rename_i h
    rw [h]
    exact SMap.get_set_same _ _ _ _
  · rename_i h
    exact SMap.get_set_other _ _ _ _ _ _ h
theorem State.port_setPort (s : State) (n i : Nat) (x : ShroudPort) :
    (s.setPort n x).port i = if i = n then x else s.port i := by
  unfold State.port State.setPort
  split
  · rename_i h
    rw [h]
    exact SMap.get_set_same _ _ _ _
  · rename_i h
    exact SMap.get_set_other _ _ _ _ _ _ h

/-- A bit of a value after a field was replaced. -/
theorem getLsbD_putField (v : Wide) (lo n x i : Nat) (hi : i < 64) :
    (putField v lo n x).getLsbD i = if lo ≤ i ∧ i < lo + n then x.testBit (i - lo) else v.getLsbD i := by
  unfold putField
  simp only [BitVec.getLsbD_or, BitVec.getLsbD_and, BitVec.getLsbD_not, BitVec.getLsbD_ofNat, hi, decide_true, Bool.true_and,
    Nat.testBit_shiftLeft, Nat.testBit_two_pow_sub_one, Nat.testBit_mod_two_pow]
  split <;> rename_i h
  · obtain ⟨h1, h2⟩ := h
    have : i - lo < n := by omega
    simp [h1, this]
  · by_cases h1 : lo ≤ i
    · have : ¬ (i - lo < n) := by omega
      simp [h1, this]
    · simp [h1]
/-- A bit of a field. -/
theorem testBit_field (v : Wide) (lo n i : Nat) : (field v lo n).testBit i = (decide (i < n) && v.getLsbD (lo + i)) := by
  unfold field
  simp [Nat.testBit_mod_two_pow, Nat.testBit_shiftRight, BitVec.getLsbD]
/-- A field reads what was last put in it. -/
@[simp] theorem field_putField_same (v : Wide) (lo n x : Nat) (h : lo + n ≤ 64) : field (putField v lo n x) lo n = x % 2 ^ n := by
  apply Nat.eq_of_testBit_eq
  intro i
  rw [testBit_field, Nat.testBit_mod_two_pow]
  by_cases hi : i < n
  · rw [getLsbD_putField _ _ _ _ _ (by omega)]
    simp [hi]
  · simp [hi]
/-- A field that does not overlap the one replaced is as it was. -/
theorem field_putField_other (v : Wide) (lo n x lo' n' : Nat) (h : lo' + n' ≤ lo ∨ lo + n ≤ lo') (h64 : lo' + n' ≤ 64) :
    field (putField v lo n x) lo' n' = field v lo' n' := by
  apply Nat.eq_of_testBit_eq
  intro i
  rw [testBit_field, testBit_field]
  by_cases hi : i < n'
  · rw [getLsbD_putField _ _ _ _ _ (by omega)]
    have : ¬ (lo ≤ lo' + i ∧ lo' + i < lo + n) := by omega
    simp [hi, this]
  · simp [hi]

/-- A bit reads what was last put in it. -/
theorem State.bit_setBit_same (s : State) (p e i : Nat) (b : Bool) (h : i < 64) : (s.setBit p e i b).bit p e i = b := by
  unfold State.bit State.setBit State.setFld
  rw [State.rd_wr_same, getLsbD_putField _ _ _ _ _ h]
  cases b <;> simp

/-- Another bit of the value is as it was. -/
theorem State.bit_setBit_other (s : State) (p e i j : Nat) (b : Bool) (h : j < 64) (hij : j ≠ i) :
    (s.setBit p e i b).bit p e j = s.bit p e j := by
  unfold State.bit State.setBit State.setFld
  rw [State.rd_wr_same, getLsbD_putField _ _ _ _ _ h, if_neg (by omega)]

/-- A field of a register reads what was last put in it. -/
theorem State.fld_setFld_same (s : State) (p e lo n x : Nat) (h : lo + n ≤ 64) :
    (s.setFld p e lo n x).fld p e lo n = x % 2 ^ n := by
  unfold State.fld State.setFld
  rw [State.rd_wr_same, field_putField_same _ _ _ _ h]

/-- A field of a register that does not overlap the one replaced is as it was. -/
theorem State.fld_setFld_other (s : State) (p e lo n x lo' n' : Nat) (h : lo' + n' ≤ lo ∨ lo + n ≤ lo')
    (h64 : lo' + n' ≤ 64) : (s.setFld p e lo n x).fld p e lo' n' = s.fld p e lo' n' := by
  unfold State.fld State.setFld
  rw [State.rd_wr_same, field_putField_other _ _ _ _ _ _ h h64]

theorem State.rd_setFld_param (s : State) (p e lo n x q f : Nat) (h : q ≠ p) : (s.setFld p e lo n x).rd q f = s.rd q f :=
  State.rd_wr_param _ _ _ _ _ _ h

theorem State.rd_setBit_param (s : State) (p e i q f : Nat) (b : Bool) (h : q ≠ p) : (s.setBit p e i b).rd q f = s.rd q f :=
  State.rd_wr_param _ _ _ _ _ _ h

/-- Two states with the same values read alike. -/
theorem State.rd_congr {s t : State} (h : t.regs = s.regs) (p e : Nat) : t.rd p e = s.rd p e := by
  unfold State.rd
  rw [h]

end Sys2Proof.Machine
end

