-- ==== Sys2Proof/Laws/Quiet.lean ====
section
/-! SUPPORT. Everything that counters, events, trouble-log entries, decisions and the settling of a command can do: they
move dictionary values, the log's ring and queue, the subscriptions' records, and the scheduling trace, and nothing else;
of the dictionary they touch the counter they are given and the housekeeping parameters. -/
namespace Sys2Proof.Machine

/-! ### The parts that events and logs may move -/

/-- `t` differs from `s` in nothing but values, this clock's record of what was raised and counted, the log's ring and queue,
the subscriptions and the scheduling trace. -/
def Quiet (s t : State) : Prop :=
  ∃ now regs ring queue subs trace decisions,
    t = { s with now := now
                 regs := regs
                 trouble := { s.trouble with ring := ring, queue := queue }
                 wdp := { s.wdp with subs := subs }
                 capstan := { s.capstan with trace := trace, decisions := decisions } }

theorem Quiet.refl (s : State) : Quiet s s :=
  ⟨s.now, s.regs, s.trouble.ring, s.trouble.queue, s.wdp.subs, s.capstan.trace, s.capstan.decisions, rfl⟩

theorem Quiet.trans {s t u : State} (h : Quiet s t) (k : Quiet t u) : Quiet s u := by
  obtain ⟨n, a, b, c, d, e, f, rfl⟩ := h
  obtain ⟨n', a', b', c', d', e', f', rfl⟩ := k
  exact ⟨n', a', b', c', d', e', f', rfl⟩

/-- A quiet change keeps every part that a frame names. -/
theorem Quiet.parts {s t : State} (h : Quiet s t) : SameParts [] s t := by
  obtain ⟨n, a, b, c, d, e, f, rfl⟩ := h
  constructor <;> intros <;> first | rfl | exact ⟨rfl, rfl⟩

theorem State.wr_quiet (s : State) (p e : Nat) (v : Wide) : Quiet s (s.wr p e v) :=
  ⟨s.now, _, s.trouble.ring, s.trouble.queue, s.wdp.subs, s.capstan.trace, s.capstan.decisions, rfl⟩

theorem State.setSub_quiet (s : State) (n : Nat) (x : Subscription) : Quiet s (s.setSub n x) :=
  ⟨s.now, s.regs, s.trouble.ring, s.trouble.queue, _, s.capstan.trace, s.capstan.decisions, rfl⟩

theorem State.decision_quiet (s : State) (code core thread : Nat) (d : Word) : Quiet s (s.decision code core thread d) :=
  ⟨s.now, s.regs, s.trouble.ring, s.trouble.queue, s.wdp.subs, s.capstan.trace, _, rfl⟩

theorem State.tally_quiet (s : State) (p e n : Nat) : Quiet s (s.tally p e n) :=
  ⟨_, s.regs, s.trouble.ring, s.trouble.queue, s.wdp.subs, s.capstan.trace, s.capstan.decisions, rfl⟩

theorem State.raise_quiet (s : State) (p e i : Nat) : Quiet s (s.raise p e i) := by
  unfold State.raise
  dsimp only
  split
  · exact State.wr_quiet ..
  · exact ⟨_, _, s.trouble.ring, s.trouble.queue, s.wdp.subs, s.capstan.trace, s.capstan.decisions, rfl⟩

theorem State.bump_quiet (s : State) (p e n : Nat) : Quiet s (s.bump p e n).1 := by
  unfold State.bump
  dsimp only
  split
  · exact State.tally_quiet ..
  · split <;> exact (State.tally_quiet ..).trans (State.wr_quiet ..)

theorem State.enqueue_quiet (s : State) (source code aux : Nat) (a b : Word) : Quiet s (s.enqueue source code aux a b).1 := by
  unfold State.enqueue
  split
  · exact State.bump_quiet ..
  · exact ⟨s.now, s.regs, s.trouble.ring, _, s.wdp.subs, s.capstan.trace, s.capstan.decisions, rfl⟩

theorem State.offerAll_quiet (r : EventRecord) : ∀ (l : List Nat) (s : State), Quiet s (s.offerAll r l).1
  | [], s => Quiet.refl s
  | n :: ns, s => (State.setSub_quiet s n _).trans (State.offerAll_quiet r ns _)

theorem State.notify_quiet (s : State) (cls p e : Nat) (a : Word) : Quiet s (s.notify cls p e a).1 := by
  unfold State.notify
  dsimp only
  generalize EventRecord.mk cls e p _ _ a = r
  generalize List.range 8 = l
  have h : Quiet s ((s.raise P.EventPending 0 cls).offerAll r l).1 := (State.raise_quiet ..).trans (State.offerAll_quiet ..)
  revert h
  generalize State.offerAll _ r l = q
  intro h
  split
  · exact h
  · exact h.trans (State.bump_quiet ..)

theorem State.saturateAll_quiet : ∀ (n : Nat) (s : State) (l : List (Nat × Nat)), Quiet s (State.saturateAll n s l)
  | 0, s, _ => by unfold State.saturateAll; exact Quiet.refl s
  | n + 1, s, [] => by unfold State.saturateAll; exact Quiet.refl s
  | n + 1, s, (p, e) :: rest => by
    unfold State.saturateAll
    have h := State.enqueue_quiet s (areaSource p) 1 0 (peArg p e) 0
    revert h
    generalize s.enqueue (areaSource p) 1 0 (peArg p e) 0 = q
    obtain ⟨t, dropped⟩ := q
    intro h
    have k := State.notify_quiet t 1 p e 0
    dsimp only at h ⊢
    revert k
    generalize t.notify 1 p e 0 = q
    obtain ⟨u, lost⟩ := q
    intro k
    exact h.trans (k.trans (State.saturateAll_quiet n _ _))

theorem State.saturated_quiet (s : State) (p e : Nat) : Quiet s (s.saturated p e) := State.saturateAll_quiet ..

/-- What may saturate a counter is quiet when it is, saturated or not. -/
theorem Quiet.then_saturated {s : State} {q : State × Bool} (h : Quiet s q.1) (p e : Nat) :
    Quiet s (if q.2 = true then q.1.saturated p e else q.1) := by
  split
  · exact h.trans (State.saturated_quiet ..)
  · exact h

theorem State.log_quiet (s : State) (source code aux : Nat) (a b : Word) : Quiet s (s.log source code aux a b) :=
  (State.enqueue_quiet s source code aux a b).then_saturated ..

theorem State.event_quiet (s : State) (cls p e : Nat) (a : Word) : Quiet s (s.event cls p e a) := by
  unfold State.event
  have h := State.notify_quiet s cls p e a
  revert h
  generalize s.notify cls p e a = q
  obtain ⟨t, sat⟩ := q
  exact fun h => h.then_saturated P.EventLostCount 0

theorem State.countBy_quiet (s : State) (p e n : Nat) : Quiet s (s.countBy p e n) :=
  (State.bump_quiet s p e n).then_saturated ..

theorem State.count_quiet (s : State) (p e : Nat) : Quiet s (s.count p e) := State.countBy_quiet ..

theorem State.enterEntry_quiet (s : State) (x : TroubleEntry) : Quiet s (s.enterEntry x).1 := by
  unfold State.enterEntry
  dsimp only
  have h : ∀ l v, Quiet s (({ s with trouble := { s.trouble with ring := l } } : State).wr P.TroubleIndex 0 v) := fun l v =>
    ⟨s.now, _, l, s.trouble.queue, s.wdp.subs, s.capstan.trace, s.capstan.decisions, rfl⟩
  generalize List.take 4096 _ = l
  split
  · exact (h _ _).trans (State.bump_quiet ..)
  · exact h _ _

theorem State.enterEntryAll_quiet (s : State) (x : TroubleEntry) : Quiet s (s.enterEntryAll x) := by
  unfold State.enterEntryAll
  have h := State.enterEntry_quiet s x
  revert h
  generalize s.enterEntry x = q
  obtain ⟨t, sat⟩ := q
  intro h
  dsimp only at h ⊢
  split
  · have k := (h.trans (State.enterEntry_quiet t (x.saturation P.TroubleOverwriteCount))).trans
      (State.notify_quiet _ 1 P.TroubleOverwriteCount 0 0)
    revert k
    generalize State.notify _ 1 P.TroubleOverwriteCount 0 0 = q
    obtain ⟨u, lost⟩ := q
    intro k
    dsimp only at k ⊢
    split
    · exact (k.trans (State.enterEntry_quiet ..)).trans (State.notify_quiet ..)
    · exact k
  · exact h

/-- What holds of every step of a fold holds of the fold. -/
theorem Quiet.foldl {α : Type} (f : State → α → State) (h : ∀ s a, Quiet s (f s a)) :
    ∀ (l : List α) (s : State), Quiet s (l.foldl f s)
  | [], s => Quiet.refl s
  | a :: l, s => (h s a).trans (Quiet.foldl f h l (f s a))

theorem State.recallEntries_quiet (s : State) : Quiet s s.recallEntries.2 :=
  ⟨s.now, _, _, s.trouble.queue, s.wdp.subs, s.capstan.trace, s.capstan.decisions, rfl⟩

theorem State.enterEntries_quiet (s : State) (q : List TroubleEntry) : Quiet s (s.enterEntries q) := by
  have h : ∀ (u : State) (n : Nat), Quiet u { u with now := { u.now with logged := n } } := fun u _ =>
    ⟨_, u.regs, u.trouble.ring, u.trouble.queue, u.wdp.subs, u.capstan.trace, u.capstan.decisions, rfl⟩
  exact (Quiet.foldl _ State.enterEntryAll_quiet _ _).trans (h _ _)

theorem State.takeEntries_quiet (s : State) (q : List TroubleEntry) : Quiet s (s.takeEntries q) := by
  unfold State.takeEntries
  split
  · exact Quiet.refl s
  · exact s.recallEntries_quiet.trans (State.enterEntries_quiet ..)

theorem State.drainLog_quiet (s : State) : Quiet s s.drainLog := by
  have h : Quiet s { s with trouble := { s.trouble with queue := [] } } :=
    ⟨s.now, s.regs, s.trouble.ring, [], s.wdp.subs, s.capstan.trace, s.capstan.decisions, rfl⟩
  exact h.trans (State.takeEntries_quiet _ _)

theorem State.enterDecision_quiet (s : State) (x : TraceEntry) : Quiet s (s.enterDecision x) := by
  unfold State.enterDecision
  split
  · exact Quiet.refl s
  · exact ⟨s.now, _, s.trouble.ring, s.trouble.queue, s.wdp.subs, _, s.capstan.decisions, rfl⟩

theorem State.recallDecisions_quiet (s : State) : Quiet s s.recallDecisions.2 :=
  ⟨s.now, _, s.trouble.ring, s.trouble.queue, s.wdp.subs, _, s.capstan.decisions, rfl⟩

theorem State.enterDecisions_quiet (s : State) (d : List TraceEntry) : Quiet s (s.enterDecisions d) := by
  unfold State.enterDecisions
  have h : ∀ (u : State) (n : Nat), Quiet u { u with now := { u.now with traced := n } } := fun u _ =>
    ⟨_, u.regs, u.trouble.ring, u.trouble.queue, u.wdp.subs, u.capstan.trace, u.capstan.decisions, rfl⟩
  split
  · exact Quiet.refl s
  · exact (s.recallDecisions_quiet.trans (h _ _)).trans (Quiet.foldl _ State.enterDecision_quiet _ _)

theorem State.drainTrace_quiet (s : State) : Quiet s s.drainTrace := by
  have h : Quiet s { s with capstan := { s.capstan with decisions := [] } } :=
    ⟨s.now, s.regs, s.trouble.ring, s.trouble.queue, s.wdp.subs, s.capstan.trace, [], rfl⟩
  exact h.trans (State.enterDecisions_quiet _ _)

theorem State.settle_quiet (s : State) : Quiet s s.settle := s.drainTrace_quiet.trans (State.drainLog_quiet _)

/-! ### The values they leave -/

/-- Every value but the housekeeping parameters' reads as before. -/
structure KeepsRegs (s t : State) : Prop where
  same : ∀ q f, q ∉ housekeeping → t.rd q f = s.rd q f

theorem KeepsRegs.refl (s : State) : KeepsRegs s s := ⟨fun _ _ _ => rfl⟩
theorem KeepsRegs.trans {s t u : State} (h : KeepsRegs s t) (k : KeepsRegs t u) : KeepsRegs s u :=
  ⟨fun q f hq => (k.same q f hq).trans (h.same q f hq)⟩
theorem KeepsRegs.of_regs {s t : State} (h : t.regs = s.regs) : KeepsRegs s t := ⟨fun q f _ => State.rd_congr h q f⟩

theorem State.wr_keeps (s : State) (p e : Nat) (v : Wide) (hp : p ∈ housekeeping) : KeepsRegs s (s.wr p e v) :=
  ⟨fun _ _ hq => State.rd_wr_param _ _ _ _ _ _ (fun h => hq (h ▸ hp))⟩

theorem State.rd_tally (s : State) (p e n q f : Nat) : (s.tally p e n).rd q f = s.rd q f := rfl

/-- A raised bit changes its own element alone. -/
theorem State.raise_keeps (s : State) (p e i : Nat) (hp : p ∈ housekeeping) : KeepsRegs s (s.raise p e i) := by
  unfold State.raise
  dsimp only
  split
  · exact State.wr_keeps _ _ _ _ hp
  · exact (State.wr_keeps s p e _ hp).trans (KeepsRegs.of_regs rfl)

/-- A counter's addition leaves every other parameter's values as they were. -/
theorem State.rd_bump (s : State) (p e n q f : Nat) (h : q ≠ p) : (s.bump p e n).1.rd q f = s.rd q f := by
  unfold State.bump
  dsimp only
  split
  · rfl
  · split <;> exact State.rd_wr_param (s.tally p e n) _ _ _ _ _ h

theorem State.bump_keeps (s : State) (p e n : Nat) (hp : p ∈ housekeeping) : KeepsRegs s (s.bump p e n).1 :=
  ⟨fun _ _ hq => State.rd_bump _ _ _ _ _ _ (fun h => hq (h ▸ hp))⟩

theorem State.enqueue_keeps (s : State) (source code aux : Nat) (a b : Word) :
    KeepsRegs s (s.enqueue source code aux a b).1 := by
  unfold State.enqueue
  split
  · exact State.bump_keeps _ _ _ _ (by decide)
  · exact KeepsRegs.of_regs rfl

theorem State.offerAll_regs (r : EventRecord) : ∀ (l : List Nat) (s : State), (s.offerAll r l).1.regs = s.regs
  | [], _ => rfl
  | _ :: ns, _ => State.offerAll_regs r ns _

theorem State.notify_keeps (s : State) (cls p e : Nat) (a : Word) : KeepsRegs s (s.notify cls p e a).1 := by
  unfold State.notify
  dsimp only
  generalize EventRecord.mk cls e p _ _ a = r
  generalize List.range 8 = l
  have h : KeepsRegs s ((s.raise P.EventPending 0 cls).offerAll r l).1 :=
    (State.raise_keeps s _ _ _ (by decide)).trans (KeepsRegs.of_regs (State.offerAll_regs ..))
  revert h
  generalize State.offerAll _ r l = q
  intro h
  split
  · exact h
  · exact h.trans (State.bump_keeps _ _ _ _ (by decide))

theorem State.saturateAll_keeps : ∀ (n : Nat) (s : State) (l : List (Nat × Nat)), KeepsRegs s (State.saturateAll n s l)
  | 0, s, _ => by unfold State.saturateAll; exact KeepsRegs.refl s
  | n + 1, s, [] => by unfold State.saturateAll; exact KeepsRegs.refl s
  | n + 1, s, (p, e) :: rest => by
    unfold State.saturateAll
    have h := State.enqueue_keeps s (areaSource p) 1 0 (peArg p e) 0
    revert h
    generalize s.enqueue (areaSource p) 1 0 (peArg p e) 0 = q
    obtain ⟨t, dropped⟩ := q
    intro h
    have k := State.notify_keeps t 1 p e 0
    dsimp only at h ⊢
    revert k
    generalize t.notify 1 p e 0 = q
    obtain ⟨u, lost⟩ := q
    intro k
    exact h.trans (k.trans (State.saturateAll_keeps n _ _))

theorem State.saturated_keeps (s : State) (p e : Nat) : KeepsRegs s (s.saturated p e) := State.saturateAll_keeps ..

theorem KeepsRegs.then_saturated {s : State} {q : State × Bool} (h : KeepsRegs s q.1) (p e : Nat) :
    KeepsRegs s (if q.2 = true then q.1.saturated p e else q.1) := by
  split
  · exact h.trans (State.saturated_keeps ..)
  · exact h

theorem State.log_keeps (s : State) (source code aux : Nat) (a b : Word) : KeepsRegs s (s.log source code aux a b) :=
  (State.enqueue_keeps s source code aux a b).then_saturated ..

theorem State.event_keeps (s : State) (cls p e : Nat) (a : Word) : KeepsRegs s (s.event cls p e a) := by
  unfold State.event
  have h := State.notify_keeps s cls p e a
  revert h
  generalize s.notify cls p e a = q
  obtain ⟨t, sat⟩ := q
  exact fun h => h.then_saturated P.EventLostCount 0

/-- Counting leaves every value but the counter's and the housekeeping's as it was. -/
theorem State.rd_countBy (s : State) (p e n q f : Nat) (h : q ≠ p) (hq : q ∉ housekeeping) :
    (s.countBy p e n).rd q f = s.rd q f := by
  unfold State.countBy
  dsimp only
  split
  · rw [(State.saturated_keeps _ _ _).same q f hq, State.rd_bump _ _ _ _ _ _ h]
  · exact State.rd_bump _ _ _ _ _ _ h

theorem State.rd_count (s : State) (p e q f : Nat) (h : q ≠ p) (hq : q ∉ housekeeping) :
    (s.count p e).rd q f = s.rd q f := State.rd_countBy _ _ _ _ _ _ h hq

/-- What a counter holds after an addition: the sum, or the largest value, where it sticks (R11). -/
def counted (v : Wide) (n : Nat) : Wide :=
  if v.toNat ≥ 0xFFFFFFFF then v else if v.toNat + n ≥ 0xFFFFFFFF then counterMax else BitVec.ofNat 64 (v.toNat + n)

theorem State.rd_bump_same (s : State) (p e n : Nat) : (s.bump p e n).1.rd p e = counted (s.rd p e) n := by
  unfold State.bump counted State.rdN
  dsimp only
  split
  · rfl
  · split <;> simp

theorem State.rd_countBy_same (s : State) (p e n : Nat) (hp : p ∉ housekeeping) :
    (s.countBy p e n).rd p e = counted (s.rd p e) n := by
  unfold State.countBy
  dsimp only
  split
  · rw [(State.saturated_keeps _ _ _).same p e hp, State.rd_bump_same]
  · exact State.rd_bump_same ..

theorem State.rd_count_same (s : State) (p e : Nat) (hp : p ∉ housekeeping) :
    (s.count p e).rd p e = counted (s.rd p e) 1 := State.rd_countBy_same _ _ _ _ hp

theorem State.enterEntry_keeps (s : State) (x : TroubleEntry) : KeepsRegs s (s.enterEntry x).1 := by
  unfold State.enterEntry
  dsimp only
  have h : ∀ l v, KeepsRegs s (({ s with trouble := { s.trouble with ring := l } } : State).wr P.TroubleIndex 0 v) := fun l v =>
    KeepsRegs.trans (t := { s with trouble := { s.trouble with ring := l } }) (KeepsRegs.of_regs rfl)
      (State.wr_keeps _ P.TroubleIndex _ _ (by decide))
  generalize List.take 4096 _ = l
  split
  · exact (h _ _).trans (State.bump_keeps _ _ _ _ (by decide))
  · exact h _ _

theorem State.enterEntryAll_keeps (s : State) (x : TroubleEntry) : KeepsRegs s (s.enterEntryAll x) := by
  unfold State.enterEntryAll
  have h := State.enterEntry_keeps s x
  revert h
  generalize s.enterEntry x = q
  obtain ⟨t, sat⟩ := q
  intro h
  dsimp only at h ⊢
  split
  · have k := (h.trans (State.enterEntry_keeps t (x.saturation P.TroubleOverwriteCount))).trans
      (State.notify_keeps _ 1 P.TroubleOverwriteCount 0 0)
    revert k
    generalize State.notify _ 1 P.TroubleOverwriteCount 0 0 = q
    obtain ⟨u, lost⟩ := q
    intro k
    dsimp only at k ⊢
    split
    · exact (k.trans (State.enterEntry_keeps ..)).trans (State.notify_keeps ..)
    · exact k
  · exact h

theorem KeepsRegs.foldl {α : Type} (f : State → α → State) (h : ∀ s a, KeepsRegs s (f s a)) :
    ∀ (l : List α) (s : State), KeepsRegs s (l.foldl f s)
  | [], s => KeepsRegs.refl s
  | a :: l, s => (h s a).trans (KeepsRegs.foldl f h l (f s a))

theorem State.recallEntries_keeps (s : State) : KeepsRegs s s.recallEntries.2 := by
  unfold State.recallEntries
  dsimp only
  generalize List.drop _ s.trouble.ring = l
  exact KeepsRegs.trans (t := { s with trouble := { s.trouble with ring := l } }) (KeepsRegs.of_regs rfl)
    (State.wr_keeps _ P.TroubleIndex _ _ (by decide))

theorem State.enterEntries_keeps (s : State) (q : List TroubleEntry) : KeepsRegs s (s.enterEntries q) := by
  have k : ∀ (u : State) (n : Nat), KeepsRegs u { u with now := { u.now with logged := n } } := fun u _ => KeepsRegs.of_regs rfl
  exact (KeepsRegs.foldl _ State.enterEntryAll_keeps _ _).trans (k _ _)

theorem State.takeEntries_keeps (s : State) (q : List TroubleEntry) : KeepsRegs s (s.takeEntries q) := by
  unfold State.takeEntries
  split
  · exact KeepsRegs.refl s
  · exact s.recallEntries_keeps.trans (State.enterEntries_keeps ..)

theorem State.drainLog_keeps (s : State) : KeepsRegs s s.drainLog :=
  (KeepsRegs.of_regs (s := s) (t := { s with trouble := { s.trouble with queue := [] } }) rfl).trans
    (State.takeEntries_keeps _ _)

theorem State.enterDecision_keeps (s : State) (x : TraceEntry) : KeepsRegs s (s.enterDecision x) := by
  unfold State.enterDecision
  split
  · exact KeepsRegs.refl s
  · dsimp only
    generalize List.take 4096 _ = l
    exact KeepsRegs.trans (t := { s with capstan := { s.capstan with trace := l } }) (KeepsRegs.of_regs rfl)
      (State.wr_keeps _ P.TraceIndex _ _ (by decide))

theorem State.enterDecisions_keeps (s : State) (d : List TraceEntry) : KeepsRegs s (s.enterDecisions d) := by
  unfold State.enterDecisions
  have h : KeepsRegs s s.recallDecisions.2 := by
    unfold State.recallDecisions
    dsimp only
    generalize List.drop _ s.capstan.trace = l
    exact KeepsRegs.trans (t := { s with capstan := { s.capstan with trace := l } }) (KeepsRegs.of_regs rfl)
      (State.wr_keeps _ P.TraceIndex _ _ (by decide))
  have k : ∀ (u : State) (n : Nat), KeepsRegs u { u with now := { u.now with traced := n } } := fun u _ => KeepsRegs.of_regs rfl
  split
  · exact KeepsRegs.refl s
  · exact (h.trans (k _ _)).trans (KeepsRegs.foldl _ State.enterDecision_keeps _ _)

theorem State.drainTrace_keeps (s : State) : KeepsRegs s s.drainTrace :=
  (KeepsRegs.of_regs (s := s) (t := { s with capstan := { s.capstan with decisions := [] } }) rfl).trans
    (State.enterDecisions_keeps _ _)

/-- Settling leaves every value but the housekeeping's as it was. -/
theorem State.settle_keeps (s : State) : KeepsRegs s s.settle := (State.drainTrace_keeps s).trans (State.drainLog_keeps _)

/-! ### Frames -/

variable {ps : List Nat} {es : List (Nat × Nat)} {fs : List Part} {s t u : State}

theorem Frame.refl (ps : List Nat) (es : List (Nat × Nat)) (fs : List Part) (s : State) : Frame ps es fs s s := by
  refine ⟨fun _ _ _ _ _ _ => rfl, ?_⟩
  constructor <;> intros <;> first | rfl | exact ⟨rfl, rfl⟩

theorem Frame.trans (h : Frame ps es fs s t) (k : Frame ps es fs t u) : Frame ps es fs s u := by
  obtain ⟨h1, h2⟩ := h
  obtain ⟨k1, k2⟩ := k
  refine ⟨fun p e a b c d => (k1 p e a b c d).trans (h1 p e a b c d), ?_⟩
  constructor
  · exact k2.pending.trans h2.pending
  · exact fun n => ⟨(k2.clock n).1.trans (h2.clock n).1, (k2.clock n).2.trans (h2.clock n).2⟩
  · exact fun n => (k2.free n).trans (h2.free n)
  · exact fun n => (k2.live n).trans (h2.live n)
  · exact fun n => (k2.content n).trans (h2.content n)
  · exact fun n => (k2.bodies n).trans (h2.bodies n)
  · exact fun n => (k2.bodyWrites n).trans (h2.bodyWrites n)
  · exact fun n => (k2.dram n).trans (h2.dram n)
  · exact fun n => (k2.sram n).trans (h2.sram n)
  · exact fun n => (k2.power n).trans (h2.power n)
  · exact fun n => (k2.nonVolatile n).trans (h2.nonVolatile n)
  · exact fun n => (k2.sessions n).trans (h2.sessions n)
  · exact fun n => (k2.transfers n).trans (h2.transfers n)
  · exact fun n => (k2.answer n).trans (h2.answer n)
  · exact fun n => (k2.wdp n).trans (h2.wdp n)
  · exact fun n => (k2.trouble n).trans (h2.trouble n)
  · exact fun n => (k2.grid n).trans (h2.grid n)
  · exact fun n => (k2.time n).trans (h2.time n)
  · exact fun n => (k2.stay n).trans (h2.stay n)
  · exact fun n => (k2.video n).trans (h2.video n)
  · exact fun n => (k2.cascadeIn n).trans (h2.cascadeIn n)
  · exact fun n => (k2.sacn n).trans (h2.sacn n)
  · exact fun n => (k2.merged n).trans (h2.merged n)
  · exact fun n => (k2.cue n).trans (h2.cue n)
  · exact fun n => (k2.twin n).trans (h2.twin n)
  · exact fun n => (k2.capstan n).trans (h2.capstan n)
  · exact fun n => (k2.update n).trans (h2.update n)
  · exact fun n => (k2.render n).trans (h2.render n)
  · exact fun n => (k2.sheet n).trans (h2.sheet n)
  · exact fun n => (k2.shroud n).trans (h2.shroud n)
  · exact fun n => (k2.ports n).trans (h2.ports n)
  · exact fun n => (k2.masthead n).trans (h2.masthead n)
  · exact fun n => (k2.trim n).trans (h2.trim n)
  · exact fun n => (k2.kite n).trans (h2.kite n)

/-- A frame that names less holds as one that names more. -/
theorem Frame.weaken {ps' : List Nat} {es' : List (Nat × Nat)} {fs' : List Part} (h : Frame ps' es' fs' s t)
    (hp : ps' ⊆ ps) (he : es' ⊆ es) (hf : fs' ⊆ fs) : Frame ps es fs s t := by
  obtain ⟨h1, h2⟩ := h
  refine ⟨fun p e a b c d => h1 p e a b (fun x => c (hp x)) (fun x => d (he x)), ?_⟩
  constructor <;> first
    | exact h2.pending
    | (intro n
       have m := fun x => n (hf x)
       first
         | exact h2.clock m | exact h2.free m | exact h2.live m | exact h2.content m | exact h2.bodies m
         | exact h2.bodyWrites m | exact h2.dram m | exact h2.sram m | exact h2.power m | exact h2.nonVolatile m
         | exact h2.sessions m | exact h2.transfers m | exact h2.answer m | exact h2.wdp m | exact h2.trouble m
         | exact h2.grid m | exact h2.time m | exact h2.stay m | exact h2.video m | exact h2.cascadeIn m
         | exact h2.sacn m | exact h2.merged m | exact h2.cue m | exact h2.twin m | exact h2.capstan m
         | exact h2.update m | exact h2.render m | exact h2.sheet m | exact h2.shroud m | exact h2.ports m
         | exact h2.masthead m | exact h2.trim m | exact h2.kite m)

/-- A quiet change that keeps the values keeps every frame. -/
theorem Frame.quiet (q : Quiet t u) (k : KeepsRegs t u) (h : Frame ps es fs s t) : Frame ps es fs s u := by
  have h0 : Frame [] [] [] t u := ⟨fun p e _ b _ _ => k.same p e b, q.parts⟩
  exact h.trans (h0.weaken (List.nil_subset _) (List.nil_subset _) (List.nil_subset _))

theorem Frame.settle (h : Frame ps es fs s t) : Frame ps es fs s t.settle := h.quiet t.settle_quiet t.settle_keeps

theorem Frame.log (a b c : Nat) (x y : Word) (h : Frame ps es fs s t) : Frame ps es fs s (t.log a b c x y) :=
  h.quiet (State.log_quiet ..) (State.log_keeps ..)

theorem Frame.event (a b c : Nat) (x : Word) (h : Frame ps es fs s t) : Frame ps es fs s (t.event a b c x) :=
  h.quiet (State.event_quiet ..) (State.event_keeps ..)

theorem Frame.decision (a b c : Nat) (x : Word) (h : Frame ps es fs s t) : Frame ps es fs s (t.decision a b c x) :=
  h.quiet (State.decision_quiet ..) (KeepsRegs.of_regs rfl)

/-- A write of a named element keeps the frame. -/
theorem Frame.wr (p e : Nat) (v : Wide) (h : Frame ps es fs s t) (hp : p ∈ ps ∨ p ∈ housekeeping ∨ (p, e % 256) ∈ es) :
    Frame ps es fs s (t.wr p e v) := by
  refine h.trans ⟨fun q f a b c d => ?_, ?_⟩
  · apply State.rd_wr_other
    by_cases hq : q = p
    · subst hq
      refine Or.inr fun hf => ?_
      rw [Nat.mod_eq_of_lt a] at hf
      rcases hp with hp | hp | hp
      · exact c hp
      · exact b hp
      · exact d (hf ▸ hp)
    · exact Or.inl hq
  · constructor <;> intros <;> first | rfl | exact ⟨rfl, rfl⟩

theorem Frame.setFld (p e lo n x : Nat) (h : Frame ps es fs s t) (hp : p ∈ ps ∨ p ∈ housekeeping ∨ (p, e % 256) ∈ es) :
    Frame ps es fs s (t.setFld p e lo n x) := h.wr p e _ hp

theorem Frame.setBit (p e i : Nat) (b : Bool) (h : Frame ps es fs s t)
    (hp : p ∈ ps ∨ p ∈ housekeeping ∨ (p, e % 256) ∈ es) : Frame ps es fs s (t.setBit p e i b) := h.wr p e _ hp

/-- Counting in a named counter keeps the frame. -/
theorem Frame.countBy (p e n : Nat) (h : Frame ps es fs s t) (hp : p ∈ ps ∨ p ∈ housekeeping ∨ (p, e % 256) ∈ es) :
    Frame ps es fs s (t.countBy p e n) := by
  have h0 : Frame ps es fs s (t.tally p e n) := h.quiet (State.tally_quiet ..) (KeepsRegs.of_regs rfl)
  have h1 : Frame ps es fs s (t.bump p e n).1 := by
    unfold State.bump
    dsimp only
    split
    · exact h0
    · split <;> exact h0.wr _ _ _ hp
  unfold State.countBy
  dsimp only
  split
  · exact h1.quiet (State.saturated_quiet _ _ _) (State.saturated_keeps _ _ _)
  · exact h1

theorem Frame.count (p e : Nat) (h : Frame ps es fs s t) (hp : p ∈ ps ∨ p ∈ housekeeping ∨ (p, e % 256) ∈ es) :
    Frame ps es fs s (t.count p e) := h.countBy p e 1 hp

/-- A change of no value and of named parts alone keeps the frame. -/
theorem Frame.parts (h : Frame ps es fs s t) (hr : u.regs = t.regs) (hp : SameParts fs t u) : Frame ps es fs s u :=
  h.trans ⟨fun q f _ _ _ _ => State.rd_congr hr q f, hp⟩

end Sys2Proof.Machine
end

