-- ==== Sys2Proof/Laws/Settle.lean ====
section
/-! SUPPORT. What settling a command, a log entry, an event and a count leave of each field, as rewriting lemmas. -/
namespace Sys2Proof.Machine

variable {s t : State}

/-! ### From a quiet change -/

theorem Quiet.pending (h : Quiet s t) : t.pending = s.pending := by obtain ⟨_, _, _, _, _, _, _, rfl⟩ := h; rfl
theorem Quiet.clock (h : Quiet s t) : t.clock = s.clock := by obtain ⟨_, _, _, _, _, _, _, rfl⟩ := h; rfl
theorem Quiet.rtcPhase (h : Quiet s t) : t.rtcPhase = s.rtcPhase := by obtain ⟨_, _, _, _, _, _, _, rfl⟩ := h; rfl
theorem Quiet.freeCount (h : Quiet s t) : t.freeCount = s.freeCount := by obtain ⟨_, _, _, _, _, _, _, rfl⟩ := h; rfl
theorem Quiet.live (h : Quiet s t) : t.live = s.live := by obtain ⟨_, _, _, _, _, _, _, rfl⟩ := h; rfl
theorem Quiet.content (h : Quiet s t) : t.content = s.content := by obtain ⟨_, _, _, _, _, _, _, rfl⟩ := h; rfl
theorem Quiet.blobs (h : Quiet s t) : t.blobs = s.blobs := by obtain ⟨_, _, _, _, _, _, _, rfl⟩ := h; rfl
theorem Quiet.blobWrites (h : Quiet s t) : t.blobWrites = s.blobWrites := by obtain ⟨_, _, _, _, _, _, _, rfl⟩ := h; rfl
theorem Quiet.dram (h : Quiet s t) : t.dram = s.dram := by obtain ⟨_, _, _, _, _, _, _, rfl⟩ := h; rfl
theorem Quiet.sram (h : Quiet s t) : t.sram = s.sram := by obtain ⟨_, _, _, _, _, _, _, rfl⟩ := h; rfl
theorem Quiet.power (h : Quiet s t) : t.power = s.power := by obtain ⟨_, _, _, _, _, _, _, rfl⟩ := h; rfl
theorem Quiet.nv (h : Quiet s t) : t.nv = s.nv := by obtain ⟨_, _, _, _, _, _, _, rfl⟩ := h; rfl
theorem Quiet.halyard (h : Quiet s t) : t.halyard = s.halyard := by obtain ⟨_, _, _, _, _, _, _, rfl⟩ := h; rfl
theorem Quiet.stay (h : Quiet s t) : t.stay = s.stay := by obtain ⟨_, _, _, _, _, _, _, rfl⟩ := h; rfl
theorem Quiet.video (h : Quiet s t) : t.video = s.video := by obtain ⟨_, _, _, _, _, _, _, rfl⟩ := h; rfl
theorem Quiet.cascadeIn (h : Quiet s t) : t.cascadeIn = s.cascadeIn := by obtain ⟨_, _, _, _, _, _, _, rfl⟩ := h; rfl
theorem Quiet.sacn (h : Quiet s t) : t.sacn = s.sacn := by obtain ⟨_, _, _, _, _, _, _, rfl⟩ := h; rfl
theorem Quiet.merged (h : Quiet s t) : t.merged = s.merged := by obtain ⟨_, _, _, _, _, _, _, rfl⟩ := h; rfl
theorem Quiet.cue (h : Quiet s t) : t.cue = s.cue := by obtain ⟨_, _, _, _, _, _, _, rfl⟩ := h; rfl
theorem Quiet.twin (h : Quiet s t) : t.twin = s.twin := by obtain ⟨_, _, _, _, _, _, _, rfl⟩ := h; rfl
theorem Quiet.update (h : Quiet s t) : t.update = s.update := by obtain ⟨_, _, _, _, _, _, _, rfl⟩ := h; rfl
theorem Quiet.render (h : Quiet s t) : t.render = s.render := by obtain ⟨_, _, _, _, _, _, _, rfl⟩ := h; rfl
theorem Quiet.sheet (h : Quiet s t) : t.sheet = s.sheet := by obtain ⟨_, _, _, _, _, _, _, rfl⟩ := h; rfl
theorem Quiet.shroud (h : Quiet s t) : t.shroud = s.shroud := by obtain ⟨_, _, _, _, _, _, _, rfl⟩ := h; rfl
theorem Quiet.ports (h : Quiet s t) : t.ports = s.ports := by obtain ⟨_, _, _, _, _, _, _, rfl⟩ := h; rfl
theorem Quiet.masthead (h : Quiet s t) : t.masthead = s.masthead := by obtain ⟨_, _, _, _, _, _, _, rfl⟩ := h; rfl
theorem Quiet.trim (h : Quiet s t) : t.trim = s.trim := by obtain ⟨_, _, _, _, _, _, _, rfl⟩ := h; rfl
theorem Quiet.kite (h : Quiet s t) : t.kite = s.kite := by obtain ⟨_, _, _, _, _, _, _, rfl⟩ := h; rfl
theorem Quiet.wdp_sessions (h : Quiet s t) : t.wdp.sessions = s.wdp.sessions := by obtain ⟨_, _, _, _, _, _, _, rfl⟩ := h; rfl
theorem Quiet.wdp_xfers (h : Quiet s t) : t.wdp.xfers = s.wdp.xfers := by obtain ⟨_, _, _, _, _, _, _, rfl⟩ := h; rfl
theorem Quiet.wdp_answer (h : Quiet s t) : t.wdp.answer = s.wdp.answer := by obtain ⟨_, _, _, _, _, _, _, rfl⟩ := h; rfl
theorem Quiet.wdp_rest (h : Quiet s t) : t.wdp.rest = s.wdp.rest := by obtain ⟨_, _, _, _, _, _, _, rfl⟩ := h; rfl
theorem Quiet.trouble_rest (h : Quiet s t) : t.trouble.rest = s.trouble.rest := by obtain ⟨_, _, _, _, _, _, _, rfl⟩ := h; rfl
theorem Quiet.capstan_rest (h : Quiet s t) : t.capstan.rest = s.capstan.rest := by obtain ⟨_, _, _, _, _, _, _, rfl⟩ := h; rfl
theorem Quiet.capstan_threads (h : Quiet s t) : t.capstan.threads = s.capstan.threads := by obtain ⟨_, _, _, _, _, _, _, rfl⟩ := h; rfl
theorem Quiet.capstan_cores (h : Quiet s t) : t.capstan.cores = s.capstan.cores := by obtain ⟨_, _, _, _, _, _, _, rfl⟩ := h; rfl
theorem Quiet.capstan_semaphores (h : Quiet s t) : t.capstan.semaphores = s.capstan.semaphores := by obtain ⟨_, _, _, _, _, _, _, rfl⟩ := h; rfl
theorem Quiet.capstan_flows (h : Quiet s t) : t.capstan.flows = s.capstan.flows := by obtain ⟨_, _, _, _, _, _, _, rfl⟩ := h; rfl
theorem Quiet.capstan_mailbox (h : Quiet s t) : t.capstan.mailbox = s.capstan.mailbox := by obtain ⟨_, _, _, _, _, _, _, rfl⟩ := h; rfl
theorem Quiet.capstan_dispatchStopped (h : Quiet s t) : t.capstan.dispatchStopped = s.capstan.dispatchStopped := by obtain ⟨_, _, _, _, _, _, _, rfl⟩ := h; rfl

/-! ### settle -/

@[simp] theorem State.settle_pending (s : State) : (s.settle).pending = s.pending := (State.settle_quiet s).pending
@[simp] theorem State.settle_clock (s : State) : (s.settle).clock = s.clock := (State.settle_quiet s).clock
@[simp] theorem State.settle_rtcPhase (s : State) : (s.settle).rtcPhase = s.rtcPhase := (State.settle_quiet s).rtcPhase
@[simp] theorem State.settle_freeCount (s : State) : (s.settle).freeCount = s.freeCount := (State.settle_quiet s).freeCount
@[simp] theorem State.settle_live (s : State) : (s.settle).live = s.live := (State.settle_quiet s).live
@[simp] theorem State.settle_content (s : State) : (s.settle).content = s.content := (State.settle_quiet s).content
@[simp] theorem State.settle_blobs (s : State) : (s.settle).blobs = s.blobs := (State.settle_quiet s).blobs
@[simp] theorem State.settle_blobWrites (s : State) : (s.settle).blobWrites = s.blobWrites := (State.settle_quiet s).blobWrites
@[simp] theorem State.settle_dram (s : State) : (s.settle).dram = s.dram := (State.settle_quiet s).dram
@[simp] theorem State.settle_sram (s : State) : (s.settle).sram = s.sram := (State.settle_quiet s).sram
@[simp] theorem State.settle_power (s : State) : (s.settle).power = s.power := (State.settle_quiet s).power
@[simp] theorem State.settle_nv (s : State) : (s.settle).nv = s.nv := (State.settle_quiet s).nv
@[simp] theorem State.settle_halyard (s : State) : (s.settle).halyard = s.halyard := (State.settle_quiet s).halyard
@[simp] theorem State.settle_stay (s : State) : (s.settle).stay = s.stay := (State.settle_quiet s).stay
@[simp] theorem State.settle_video (s : State) : (s.settle).video = s.video := (State.settle_quiet s).video
@[simp] theorem State.settle_cascadeIn (s : State) : (s.settle).cascadeIn = s.cascadeIn := (State.settle_quiet s).cascadeIn
@[simp] theorem State.settle_sacn (s : State) : (s.settle).sacn = s.sacn := (State.settle_quiet s).sacn
@[simp] theorem State.settle_merged (s : State) : (s.settle).merged = s.merged := (State.settle_quiet s).merged
@[simp] theorem State.settle_cue (s : State) : (s.settle).cue = s.cue := (State.settle_quiet s).cue
@[simp] theorem State.settle_twin (s : State) : (s.settle).twin = s.twin := (State.settle_quiet s).twin
@[simp] theorem State.settle_update (s : State) : (s.settle).update = s.update := (State.settle_quiet s).update
@[simp] theorem State.settle_render (s : State) : (s.settle).render = s.render := (State.settle_quiet s).render
@[simp] theorem State.settle_sheet (s : State) : (s.settle).sheet = s.sheet := (State.settle_quiet s).sheet
@[simp] theorem State.settle_shroud (s : State) : (s.settle).shroud = s.shroud := (State.settle_quiet s).shroud
@[simp] theorem State.settle_ports (s : State) : (s.settle).ports = s.ports := (State.settle_quiet s).ports
@[simp] theorem State.settle_masthead (s : State) : (s.settle).masthead = s.masthead := (State.settle_quiet s).masthead
@[simp] theorem State.settle_trim (s : State) : (s.settle).trim = s.trim := (State.settle_quiet s).trim
@[simp] theorem State.settle_kite (s : State) : (s.settle).kite = s.kite := (State.settle_quiet s).kite
@[simp] theorem State.settle_wdp_sessions (s : State) : (s.settle).wdp.sessions = s.wdp.sessions := (State.settle_quiet s).wdp_sessions
@[simp] theorem State.settle_wdp_xfers (s : State) : (s.settle).wdp.xfers = s.wdp.xfers := (State.settle_quiet s).wdp_xfers
@[simp] theorem State.settle_wdp_answer (s : State) : (s.settle).wdp.answer = s.wdp.answer := (State.settle_quiet s).wdp_answer
@[simp] theorem State.settle_wdp_rest (s : State) : (s.settle).wdp.rest = s.wdp.rest := (State.settle_quiet s).wdp_rest
@[simp] theorem State.settle_trouble_rest (s : State) : (s.settle).trouble.rest = s.trouble.rest := (State.settle_quiet s).trouble_rest
@[simp] theorem State.settle_capstan_rest (s : State) : (s.settle).capstan.rest = s.capstan.rest := (State.settle_quiet s).capstan_rest
@[simp] theorem State.settle_capstan_threads (s : State) : (s.settle).capstan.threads = s.capstan.threads := (State.settle_quiet s).capstan_threads
@[simp] theorem State.settle_capstan_cores (s : State) : (s.settle).capstan.cores = s.capstan.cores := (State.settle_quiet s).capstan_cores
@[simp] theorem State.settle_capstan_semaphores (s : State) : (s.settle).capstan.semaphores = s.capstan.semaphores := (State.settle_quiet s).capstan_semaphores
@[simp] theorem State.settle_capstan_flows (s : State) : (s.settle).capstan.flows = s.capstan.flows := (State.settle_quiet s).capstan_flows
@[simp] theorem State.settle_capstan_mailbox (s : State) : (s.settle).capstan.mailbox = s.capstan.mailbox := (State.settle_quiet s).capstan_mailbox
@[simp] theorem State.settle_capstan_dispatchStopped (s : State) : (s.settle).capstan.dispatchStopped = s.capstan.dispatchStopped := (State.settle_quiet s).capstan_dispatchStopped
@[simp] theorem State.settle_session (s : State) (i : Nat) : (s.settle).session i = s.session i := by simp [State.session]
@[simp] theorem State.settle_xfer (s : State) (i : Nat) : (s.settle).xfer i = s.xfer i := by simp [State.xfer]
@[simp] theorem State.settle_core (s : State) (i : Nat) : (s.settle).core i = s.core i := by simp [State.core]
@[simp] theorem State.settle_thread (s : State) (i : Nat) : (s.settle).thread i = s.thread i := by simp [State.thread]
@[simp] theorem State.settle_stayPort (s : State) (i : Nat) : (s.settle).stayPort i = s.stayPort i := by simp [State.stayPort]
@[simp] theorem State.settle_vid (s : State) (i : Nat) : (s.settle).vid i = s.vid i := by simp [State.vid]
@[simp] theorem State.settle_casc (s : State) (i : Nat) : (s.settle).casc i = s.casc i := by simp [State.casc]
@[simp] theorem State.settle_mergedAt (s : State) (i : Nat) : (s.settle).mergedAt i = s.mergedAt i := by simp [State.mergedAt]
@[simp] theorem State.settle_stayPtp (s : State) (i : Nat) : (s.settle).stayPtp i = s.stayPtp i := by simp [State.stayPtp]
@[simp] theorem State.settle_shroudPtp (s : State) (i : Nat) : (s.settle).shroudPtp i = s.shroudPtp i := by simp [State.shroudPtp]
@[simp] theorem State.settle_port (s : State) (i : Nat) : (s.settle).port i = s.port i := by simp [State.port]
@[simp] theorem State.settle_blob (s : State) (i : Nat) : (s.settle).blob i = s.blob i := by simp [State.blob]
@[simp] theorem State.settle_dramByte (s : State) (i : Nat) : (s.settle).dramByte i = s.dramByte i := by simp [State.dramByte]
@[simp] theorem State.settle_sramByte (s : State) (i : Nat) : (s.settle).sramByte i = s.sramByte i := by simp [State.sramByte]

/-! ### log -/

@[simp] theorem State.log_pending (s : State) (a b c : Nat) (x y : Word) : (s.log a b c x y).pending = s.pending := (State.log_quiet s a b c x y).pending
@[simp] theorem State.log_clock (s : State) (a b c : Nat) (x y : Word) : (s.log a b c x y).clock = s.clock := (State.log_quiet s a b c x y).clock
@[simp] theorem State.log_rtcPhase (s : State) (a b c : Nat) (x y : Word) : (s.log a b c x y).rtcPhase = s.rtcPhase := (State.log_quiet s a b c x y).rtcPhase
@[simp] theorem State.log_freeCount (s : State) (a b c : Nat) (x y : Word) : (s.log a b c x y).freeCount = s.freeCount := (State.log_quiet s a b c x y).freeCount
@[simp] theorem State.log_live (s : State) (a b c : Nat) (x y : Word) : (s.log a b c x y).live = s.live := (State.log_quiet s a b c x y).live
@[simp] theorem State.log_content (s : State) (a b c : Nat) (x y : Word) : (s.log a b c x y).content = s.content := (State.log_quiet s a b c x y).content
@[simp] theorem State.log_blobs (s : State) (a b c : Nat) (x y : Word) : (s.log a b c x y).blobs = s.blobs := (State.log_quiet s a b c x y).blobs
@[simp] theorem State.log_blobWrites (s : State) (a b c : Nat) (x y : Word) : (s.log a b c x y).blobWrites = s.blobWrites := (State.log_quiet s a b c x y).blobWrites
@[simp] theorem State.log_dram (s : State) (a b c : Nat) (x y : Word) : (s.log a b c x y).dram = s.dram := (State.log_quiet s a b c x y).dram
@[simp] theorem State.log_sram (s : State) (a b c : Nat) (x y : Word) : (s.log a b c x y).sram = s.sram := (State.log_quiet s a b c x y).sram
@[simp] theorem State.log_power (s : State) (a b c : Nat) (x y : Word) : (s.log a b c x y).power = s.power := (State.log_quiet s a b c x y).power
@[simp] theorem State.log_nv (s : State) (a b c : Nat) (x y : Word) : (s.log a b c x y).nv = s.nv := (State.log_quiet s a b c x y).nv
@[simp] theorem State.log_halyard (s : State) (a b c : Nat) (x y : Word) : (s.log a b c x y).halyard = s.halyard := (State.log_quiet s a b c x y).halyard
@[simp] theorem State.log_stay (s : State) (a b c : Nat) (x y : Word) : (s.log a b c x y).stay = s.stay := (State.log_quiet s a b c x y).stay
@[simp] theorem State.log_video (s : State) (a b c : Nat) (x y : Word) : (s.log a b c x y).video = s.video := (State.log_quiet s a b c x y).video
@[simp] theorem State.log_cascadeIn (s : State) (a b c : Nat) (x y : Word) : (s.log a b c x y).cascadeIn = s.cascadeIn := (State.log_quiet s a b c x y).cascadeIn
@[simp] theorem State.log_sacn (s : State) (a b c : Nat) (x y : Word) : (s.log a b c x y).sacn = s.sacn := (State.log_quiet s a b c x y).sacn
@[simp] theorem State.log_merged (s : State) (a b c : Nat) (x y : Word) : (s.log a b c x y).merged = s.merged := (State.log_quiet s a b c x y).merged
@[simp] theorem State.log_cue (s : State) (a b c : Nat) (x y : Word) : (s.log a b c x y).cue = s.cue := (State.log_quiet s a b c x y).cue
@[simp] theorem State.log_twin (s : State) (a b c : Nat) (x y : Word) : (s.log a b c x y).twin = s.twin := (State.log_quiet s a b c x y).twin
@[simp] theorem State.log_update (s : State) (a b c : Nat) (x y : Word) : (s.log a b c x y).update = s.update := (State.log_quiet s a b c x y).update
@[simp] theorem State.log_render (s : State) (a b c : Nat) (x y : Word) : (s.log a b c x y).render = s.render := (State.log_quiet s a b c x y).render
@[simp] theorem State.log_sheet (s : State) (a b c : Nat) (x y : Word) : (s.log a b c x y).sheet = s.sheet := (State.log_quiet s a b c x y).sheet
@[simp] theorem State.log_shroud (s : State) (a b c : Nat) (x y : Word) : (s.log a b c x y).shroud = s.shroud := (State.log_quiet s a b c x y).shroud
@[simp] theorem State.log_ports (s : State) (a b c : Nat) (x y : Word) : (s.log a b c x y).ports = s.ports := (State.log_quiet s a b c x y).ports
@[simp] theorem State.log_masthead (s : State) (a b c : Nat) (x y : Word) : (s.log a b c x y).masthead = s.masthead := (State.log_quiet s a b c x y).masthead
@[simp] theorem State.log_trim (s : State) (a b c : Nat) (x y : Word) : (s.log a b c x y).trim = s.trim := (State.log_quiet s a b c x y).trim
@[simp] theorem State.log_kite (s : State) (a b c : Nat) (x y : Word) : (s.log a b c x y).kite = s.kite := (State.log_quiet s a b c x y).kite
@[simp] theorem State.log_wdp_sessions (s : State) (a b c : Nat) (x y : Word) : (s.log a b c x y).wdp.sessions = s.wdp.sessions := (State.log_quiet s a b c x y).wdp_sessions
@[simp] theorem State.log_wdp_xfers (s : State) (a b c : Nat) (x y : Word) : (s.log a b c x y).wdp.xfers = s.wdp.xfers := (State.log_quiet s a b c x y).wdp_xfers
@[simp] theorem State.log_wdp_answer (s : State) (a b c : Nat) (x y : Word) : (s.log a b c x y).wdp.answer = s.wdp.answer := (State.log_quiet s a b c x y).wdp_answer
@[simp] theorem State.log_wdp_rest (s : State) (a b c : Nat) (x y : Word) : (s.log a b c x y).wdp.rest = s.wdp.rest := (State.log_quiet s a b c x y).wdp_rest
@[simp] theorem State.log_trouble_rest (s : State) (a b c : Nat) (x y : Word) : (s.log a b c x y).trouble.rest = s.trouble.rest := (State.log_quiet s a b c x y).trouble_rest
@[simp] theorem State.log_capstan_rest (s : State) (a b c : Nat) (x y : Word) : (s.log a b c x y).capstan.rest = s.capstan.rest := (State.log_quiet s a b c x y).capstan_rest
@[simp] theorem State.log_capstan_threads (s : State) (a b c : Nat) (x y : Word) : (s.log a b c x y).capstan.threads = s.capstan.threads := (State.log_quiet s a b c x y).capstan_threads
@[simp] theorem State.log_capstan_cores (s : State) (a b c : Nat) (x y : Word) : (s.log a b c x y).capstan.cores = s.capstan.cores := (State.log_quiet s a b c x y).capstan_cores
@[simp] theorem State.log_capstan_semaphores (s : State) (a b c : Nat) (x y : Word) : (s.log a b c x y).capstan.semaphores = s.capstan.semaphores := (State.log_quiet s a b c x y).capstan_semaphores
@[simp] theorem State.log_capstan_flows (s : State) (a b c : Nat) (x y : Word) : (s.log a b c x y).capstan.flows = s.capstan.flows := (State.log_quiet s a b c x y).capstan_flows
@[simp] theorem State.log_capstan_mailbox (s : State) (a b c : Nat) (x y : Word) : (s.log a b c x y).capstan.mailbox = s.capstan.mailbox := (State.log_quiet s a b c x y).capstan_mailbox
@[simp] theorem State.log_capstan_dispatchStopped (s : State) (a b c : Nat) (x y : Word) : (s.log a b c x y).capstan.dispatchStopped = s.capstan.dispatchStopped := (State.log_quiet s a b c x y).capstan_dispatchStopped
@[simp] theorem State.log_session (s : State) (a b c : Nat) (x y : Word) (i : Nat) : (s.log a b c x y).session i = s.session i := by simp [State.session]
@[simp] theorem State.log_xfer (s : State) (a b c : Nat) (x y : Word) (i : Nat) : (s.log a b c x y).xfer i = s.xfer i := by simp [State.xfer]
@[simp] theorem State.log_core (s : State) (a b c : Nat) (x y : Word) (i : Nat) : (s.log a b c x y).core i = s.core i := by simp [State.core]
@[simp] theorem State.log_thread (s : State) (a b c : Nat) (x y : Word) (i : Nat) : (s.log a b c x y).thread i = s.thread i := by simp [State.thread]
@[simp] theorem State.log_stayPort (s : State) (a b c : Nat) (x y : Word) (i : Nat) : (s.log a b c x y).stayPort i = s.stayPort i := by simp [State.stayPort]
@[simp] theorem State.log_vid (s : State) (a b c : Nat) (x y : Word) (i : Nat) : (s.log a b c x y).vid i = s.vid i := by simp [State.vid]
@[simp] theorem State.log_casc (s : State) (a b c : Nat) (x y : Word) (i : Nat) : (s.log a b c x y).casc i = s.casc i := by simp [State.casc]
@[simp] theorem State.log_mergedAt (s : State) (a b c : Nat) (x y : Word) (i : Nat) : (s.log a b c x y).mergedAt i = s.mergedAt i := by simp [State.mergedAt]
@[simp] theorem State.log_stayPtp (s : State) (a b c : Nat) (x y : Word) (i : Nat) : (s.log a b c x y).stayPtp i = s.stayPtp i := by simp [State.stayPtp]
@[simp] theorem State.log_shroudPtp (s : State) (a b c : Nat) (x y : Word) (i : Nat) : (s.log a b c x y).shroudPtp i = s.shroudPtp i := by simp [State.shroudPtp]
@[simp] theorem State.log_port (s : State) (a b c : Nat) (x y : Word) (i : Nat) : (s.log a b c x y).port i = s.port i := by simp [State.port]
@[simp] theorem State.log_blob (s : State) (a b c : Nat) (x y : Word) (i : Nat) : (s.log a b c x y).blob i = s.blob i := by simp [State.blob]
@[simp] theorem State.log_dramByte (s : State) (a b c : Nat) (x y : Word) (i : Nat) : (s.log a b c x y).dramByte i = s.dramByte i := by simp [State.dramByte]
@[simp] theorem State.log_sramByte (s : State) (a b c : Nat) (x y : Word) (i : Nat) : (s.log a b c x y).sramByte i = s.sramByte i := by simp [State.sramByte]

/-! ### event -/

@[simp] theorem State.event_pending (s : State) (a b c : Nat) (x : Word) : (s.event a b c x).pending = s.pending := (State.event_quiet s a b c x).pending
@[simp] theorem State.event_clock (s : State) (a b c : Nat) (x : Word) : (s.event a b c x).clock = s.clock := (State.event_quiet s a b c x).clock
@[simp] theorem State.event_rtcPhase (s : State) (a b c : Nat) (x : Word) : (s.event a b c x).rtcPhase = s.rtcPhase := (State.event_quiet s a b c x).rtcPhase
@[simp] theorem State.event_freeCount (s : State) (a b c : Nat) (x : Word) : (s.event a b c x).freeCount = s.freeCount := (State.event_quiet s a b c x).freeCount
@[simp] theorem State.event_live (s : State) (a b c : Nat) (x : Word) : (s.event a b c x).live = s.live := (State.event_quiet s a b c x).live
@[simp] theorem State.event_content (s : State) (a b c : Nat) (x : Word) : (s.event a b c x).content = s.content := (State.event_quiet s a b c x).content
@[simp] theorem State.event_blobs (s : State) (a b c : Nat) (x : Word) : (s.event a b c x).blobs = s.blobs := (State.event_quiet s a b c x).blobs
@[simp] theorem State.event_blobWrites (s : State) (a b c : Nat) (x : Word) : (s.event a b c x).blobWrites = s.blobWrites := (State.event_quiet s a b c x).blobWrites
@[simp] theorem State.event_dram (s : State) (a b c : Nat) (x : Word) : (s.event a b c x).dram = s.dram := (State.event_quiet s a b c x).dram
@[simp] theorem State.event_sram (s : State) (a b c : Nat) (x : Word) : (s.event a b c x).sram = s.sram := (State.event_quiet s a b c x).sram
@[simp] theorem State.event_power (s : State) (a b c : Nat) (x : Word) : (s.event a b c x).power = s.power := (State.event_quiet s a b c x).power
@[simp] theorem State.event_nv (s : State) (a b c : Nat) (x : Word) : (s.event a b c x).nv = s.nv := (State.event_quiet s a b c x).nv
@[simp] theorem State.event_halyard (s : State) (a b c : Nat) (x : Word) : (s.event a b c x).halyard = s.halyard := (State.event_quiet s a b c x).halyard
@[simp] theorem State.event_stay (s : State) (a b c : Nat) (x : Word) : (s.event a b c x).stay = s.stay := (State.event_quiet s a b c x).stay
@[simp] theorem State.event_video (s : State) (a b c : Nat) (x : Word) : (s.event a b c x).video = s.video := (State.event_quiet s a b c x).video
@[simp] theorem State.event_cascadeIn (s : State) (a b c : Nat) (x : Word) : (s.event a b c x).cascadeIn = s.cascadeIn := (State.event_quiet s a b c x).cascadeIn
@[simp] theorem State.event_sacn (s : State) (a b c : Nat) (x : Word) : (s.event a b c x).sacn = s.sacn := (State.event_quiet s a b c x).sacn
@[simp] theorem State.event_merged (s : State) (a b c : Nat) (x : Word) : (s.event a b c x).merged = s.merged := (State.event_quiet s a b c x).merged
@[simp] theorem State.event_cue (s : State) (a b c : Nat) (x : Word) : (s.event a b c x).cue = s.cue := (State.event_quiet s a b c x).cue
@[simp] theorem State.event_twin (s : State) (a b c : Nat) (x : Word) : (s.event a b c x).twin = s.twin := (State.event_quiet s a b c x).twin
@[simp] theorem State.event_update (s : State) (a b c : Nat) (x : Word) : (s.event a b c x).update = s.update := (State.event_quiet s a b c x).update
@[simp] theorem State.event_render (s : State) (a b c : Nat) (x : Word) : (s.event a b c x).render = s.render := (State.event_quiet s a b c x).render
@[simp] theorem State.event_sheet (s : State) (a b c : Nat) (x : Word) : (s.event a b c x).sheet = s.sheet := (State.event_quiet s a b c x).sheet
@[simp] theorem State.event_shroud (s : State) (a b c : Nat) (x : Word) : (s.event a b c x).shroud = s.shroud := (State.event_quiet s a b c x).shroud
@[simp] theorem State.event_ports (s : State) (a b c : Nat) (x : Word) : (s.event a b c x).ports = s.ports := (State.event_quiet s a b c x).ports
@[simp] theorem State.event_masthead (s : State) (a b c : Nat) (x : Word) : (s.event a b c x).masthead = s.masthead := (State.event_quiet s a b c x).masthead
@[simp] theorem State.event_trim (s : State) (a b c : Nat) (x : Word) : (s.event a b c x).trim = s.trim := (State.event_quiet s a b c x).trim
@[simp] theorem State.event_kite (s : State) (a b c : Nat) (x : Word) : (s.event a b c x).kite = s.kite := (State.event_quiet s a b c x).kite
@[simp] theorem State.event_wdp_sessions (s : State) (a b c : Nat) (x : Word) : (s.event a b c x).wdp.sessions = s.wdp.sessions := (State.event_quiet s a b c x).wdp_sessions
@[simp] theorem State.event_wdp_xfers (s : State) (a b c : Nat) (x : Word) : (s.event a b c x).wdp.xfers = s.wdp.xfers := (State.event_quiet s a b c x).wdp_xfers
@[simp] theorem State.event_wdp_answer (s : State) (a b c : Nat) (x : Word) : (s.event a b c x).wdp.answer = s.wdp.answer := (State.event_quiet s a b c x).wdp_answer
@[simp] theorem State.event_wdp_rest (s : State) (a b c : Nat) (x : Word) : (s.event a b c x).wdp.rest = s.wdp.rest := (State.event_quiet s a b c x).wdp_rest
@[simp] theorem State.event_trouble_rest (s : State) (a b c : Nat) (x : Word) : (s.event a b c x).trouble.rest = s.trouble.rest := (State.event_quiet s a b c x).trouble_rest
@[simp] theorem State.event_capstan_rest (s : State) (a b c : Nat) (x : Word) : (s.event a b c x).capstan.rest = s.capstan.rest := (State.event_quiet s a b c x).capstan_rest
@[simp] theorem State.event_capstan_threads (s : State) (a b c : Nat) (x : Word) : (s.event a b c x).capstan.threads = s.capstan.threads := (State.event_quiet s a b c x).capstan_threads
@[simp] theorem State.event_capstan_cores (s : State) (a b c : Nat) (x : Word) : (s.event a b c x).capstan.cores = s.capstan.cores := (State.event_quiet s a b c x).capstan_cores
@[simp] theorem State.event_capstan_semaphores (s : State) (a b c : Nat) (x : Word) : (s.event a b c x).capstan.semaphores = s.capstan.semaphores := (State.event_quiet s a b c x).capstan_semaphores
@[simp] theorem State.event_capstan_flows (s : State) (a b c : Nat) (x : Word) : (s.event a b c x).capstan.flows = s.capstan.flows := (State.event_quiet s a b c x).capstan_flows
@[simp] theorem State.event_capstan_mailbox (s : State) (a b c : Nat) (x : Word) : (s.event a b c x).capstan.mailbox = s.capstan.mailbox := (State.event_quiet s a b c x).capstan_mailbox
@[simp] theorem State.event_capstan_dispatchStopped (s : State) (a b c : Nat) (x : Word) : (s.event a b c x).capstan.dispatchStopped = s.capstan.dispatchStopped := (State.event_quiet s a b c x).capstan_dispatchStopped
@[simp] theorem State.event_session (s : State) (a b c : Nat) (x : Word) (i : Nat) : (s.event a b c x).session i = s.session i := by simp [State.session]
@[simp] theorem State.event_xfer (s : State) (a b c : Nat) (x : Word) (i : Nat) : (s.event a b c x).xfer i = s.xfer i := by simp [State.xfer]
@[simp] theorem State.event_core (s : State) (a b c : Nat) (x : Word) (i : Nat) : (s.event a b c x).core i = s.core i := by simp [State.core]
@[simp] theorem State.event_thread (s : State) (a b c : Nat) (x : Word) (i : Nat) : (s.event a b c x).thread i = s.thread i := by simp [State.thread]
@[simp] theorem State.event_stayPort (s : State) (a b c : Nat) (x : Word) (i : Nat) : (s.event a b c x).stayPort i = s.stayPort i := by simp [State.stayPort]
@[simp] theorem State.event_vid (s : State) (a b c : Nat) (x : Word) (i : Nat) : (s.event a b c x).vid i = s.vid i := by simp [State.vid]
@[simp] theorem State.event_casc (s : State) (a b c : Nat) (x : Word) (i : Nat) : (s.event a b c x).casc i = s.casc i := by simp [State.casc]
@[simp] theorem State.event_mergedAt (s : State) (a b c : Nat) (x : Word) (i : Nat) : (s.event a b c x).mergedAt i = s.mergedAt i := by simp [State.mergedAt]
@[simp] theorem State.event_stayPtp (s : State) (a b c : Nat) (x : Word) (i : Nat) : (s.event a b c x).stayPtp i = s.stayPtp i := by simp [State.stayPtp]
@[simp] theorem State.event_shroudPtp (s : State) (a b c : Nat) (x : Word) (i : Nat) : (s.event a b c x).shroudPtp i = s.shroudPtp i := by simp [State.shroudPtp]
@[simp] theorem State.event_port (s : State) (a b c : Nat) (x : Word) (i : Nat) : (s.event a b c x).port i = s.port i := by simp [State.port]
@[simp] theorem State.event_blob (s : State) (a b c : Nat) (x : Word) (i : Nat) : (s.event a b c x).blob i = s.blob i := by simp [State.blob]
@[simp] theorem State.event_dramByte (s : State) (a b c : Nat) (x : Word) (i : Nat) : (s.event a b c x).dramByte i = s.dramByte i := by simp [State.dramByte]
@[simp] theorem State.event_sramByte (s : State) (a b c : Nat) (x : Word) (i : Nat) : (s.event a b c x).sramByte i = s.sramByte i := by simp [State.sramByte]

/-! ### countBy -/

@[simp] theorem State.countBy_pending (s : State) (p e n : Nat) : (s.countBy p e n).pending = s.pending := (State.countBy_quiet s p e n).pending
@[simp] theorem State.countBy_clock (s : State) (p e n : Nat) : (s.countBy p e n).clock = s.clock := (State.countBy_quiet s p e n).clock
@[simp] theorem State.countBy_rtcPhase (s : State) (p e n : Nat) : (s.countBy p e n).rtcPhase = s.rtcPhase := (State.countBy_quiet s p e n).rtcPhase
@[simp] theorem State.countBy_freeCount (s : State) (p e n : Nat) : (s.countBy p e n).freeCount = s.freeCount := (State.countBy_quiet s p e n).freeCount
@[simp] theorem State.countBy_live (s : State) (p e n : Nat) : (s.countBy p e n).live = s.live := (State.countBy_quiet s p e n).live
@[simp] theorem State.countBy_content (s : State) (p e n : Nat) : (s.countBy p e n).content = s.content := (State.countBy_quiet s p e n).content
@[simp] theorem State.countBy_blobs (s : State) (p e n : Nat) : (s.countBy p e n).blobs = s.blobs := (State.countBy_quiet s p e n).blobs
@[simp] theorem State.countBy_blobWrites (s : State) (p e n : Nat) : (s.countBy p e n).blobWrites = s.blobWrites := (State.countBy_quiet s p e n).blobWrites
@[simp] theorem State.countBy_dram (s : State) (p e n : Nat) : (s.countBy p e n).dram = s.dram := (State.countBy_quiet s p e n).dram
@[simp] theorem State.countBy_sram (s : State) (p e n : Nat) : (s.countBy p e n).sram = s.sram := (State.countBy_quiet s p e n).sram
@[simp] theorem State.countBy_power (s : State) (p e n : Nat) : (s.countBy p e n).power = s.power := (State.countBy_quiet s p e n).power
@[simp] theorem State.countBy_nv (s : State) (p e n : Nat) : (s.countBy p e n).nv = s.nv := (State.countBy_quiet s p e n).nv
@[simp] theorem State.countBy_halyard (s : State) (p e n : Nat) : (s.countBy p e n).halyard = s.halyard := (State.countBy_quiet s p e n).halyard
@[simp] theorem State.countBy_stay (s : State) (p e n : Nat) : (s.countBy p e n).stay = s.stay := (State.countBy_quiet s p e n).stay
@[simp] theorem State.countBy_video (s : State) (p e n : Nat) : (s.countBy p e n).video = s.video := (State.countBy_quiet s p e n).video
@[simp] theorem State.countBy_cascadeIn (s : State) (p e n : Nat) : (s.countBy p e n).cascadeIn = s.cascadeIn := (State.countBy_quiet s p e n).cascadeIn
@[simp] theorem State.countBy_sacn (s : State) (p e n : Nat) : (s.countBy p e n).sacn = s.sacn := (State.countBy_quiet s p e n).sacn
@[simp] theorem State.countBy_merged (s : State) (p e n : Nat) : (s.countBy p e n).merged = s.merged := (State.countBy_quiet s p e n).merged
@[simp] theorem State.countBy_cue (s : State) (p e n : Nat) : (s.countBy p e n).cue = s.cue := (State.countBy_quiet s p e n).cue
@[simp] theorem State.countBy_twin (s : State) (p e n : Nat) : (s.countBy p e n).twin = s.twin := (State.countBy_quiet s p e n).twin
@[simp] theorem State.countBy_update (s : State) (p e n : Nat) : (s.countBy p e n).update = s.update := (State.countBy_quiet s p e n).update
@[simp] theorem State.countBy_render (s : State) (p e n : Nat) : (s.countBy p e n).render = s.render := (State.countBy_quiet s p e n).render
@[simp] theorem State.countBy_sheet (s : State) (p e n : Nat) : (s.countBy p e n).sheet = s.sheet := (State.countBy_quiet s p e n).sheet
@[simp] theorem State.countBy_shroud (s : State) (p e n : Nat) : (s.countBy p e n).shroud = s.shroud := (State.countBy_quiet s p e n).shroud
@[simp] theorem State.countBy_ports (s : State) (p e n : Nat) : (s.countBy p e n).ports = s.ports := (State.countBy_quiet s p e n).ports
@[simp] theorem State.countBy_masthead (s : State) (p e n : Nat) : (s.countBy p e n).masthead = s.masthead := (State.countBy_quiet s p e n).masthead
@[simp] theorem State.countBy_trim (s : State) (p e n : Nat) : (s.countBy p e n).trim = s.trim := (State.countBy_quiet s p e n).trim
@[simp] theorem State.countBy_kite (s : State) (p e n : Nat) : (s.countBy p e n).kite = s.kite := (State.countBy_quiet s p e n).kite
@[simp] theorem State.countBy_wdp_sessions (s : State) (p e n : Nat) : (s.countBy p e n).wdp.sessions = s.wdp.sessions := (State.countBy_quiet s p e n).wdp_sessions
@[simp] theorem State.countBy_wdp_xfers (s : State) (p e n : Nat) : (s.countBy p e n).wdp.xfers = s.wdp.xfers := (State.countBy_quiet s p e n).wdp_xfers
@[simp] theorem State.countBy_wdp_answer (s : State) (p e n : Nat) : (s.countBy p e n).wdp.answer = s.wdp.answer := (State.countBy_quiet s p e n).wdp_answer
@[simp] theorem State.countBy_wdp_rest (s : State) (p e n : Nat) : (s.countBy p e n).wdp.rest = s.wdp.rest := (State.countBy_quiet s p e n).wdp_rest
@[simp] theorem State.countBy_trouble_rest (s : State) (p e n : Nat) : (s.countBy p e n).trouble.rest = s.trouble.rest := (State.countBy_quiet s p e n).trouble_rest
@[simp] theorem State.countBy_capstan_rest (s : State) (p e n : Nat) : (s.countBy p e n).capstan.rest = s.capstan.rest := (State.countBy_quiet s p e n).capstan_rest
@[simp] theorem State.countBy_capstan_threads (s : State) (p e n : Nat) : (s.countBy p e n).capstan.threads = s.capstan.threads := (State.countBy_quiet s p e n).capstan_threads
@[simp] theorem State.countBy_capstan_cores (s : State) (p e n : Nat) : (s.countBy p e n).capstan.cores = s.capstan.cores := (State.countBy_quiet s p e n).capstan_cores
@[simp] theorem State.countBy_capstan_semaphores (s : State) (p e n : Nat) : (s.countBy p e n).capstan.semaphores = s.capstan.semaphores := (State.countBy_quiet s p e n).capstan_semaphores
@[simp] theorem State.countBy_capstan_flows (s : State) (p e n : Nat) : (s.countBy p e n).capstan.flows = s.capstan.flows := (State.countBy_quiet s p e n).capstan_flows
@[simp] theorem State.countBy_capstan_mailbox (s : State) (p e n : Nat) : (s.countBy p e n).capstan.mailbox = s.capstan.mailbox := (State.countBy_quiet s p e n).capstan_mailbox
@[simp] theorem State.countBy_capstan_dispatchStopped (s : State) (p e n : Nat) : (s.countBy p e n).capstan.dispatchStopped = s.capstan.dispatchStopped := (State.countBy_quiet s p e n).capstan_dispatchStopped
@[simp] theorem State.countBy_session (s : State) (p e n : Nat) (i : Nat) : (s.countBy p e n).session i = s.session i := by simp [State.session]
@[simp] theorem State.countBy_xfer (s : State) (p e n : Nat) (i : Nat) : (s.countBy p e n).xfer i = s.xfer i := by simp [State.xfer]
@[simp] theorem State.countBy_core (s : State) (p e n : Nat) (i : Nat) : (s.countBy p e n).core i = s.core i := by simp [State.core]
@[simp] theorem State.countBy_thread (s : State) (p e n : Nat) (i : Nat) : (s.countBy p e n).thread i = s.thread i := by simp [State.thread]
@[simp] theorem State.countBy_stayPort (s : State) (p e n : Nat) (i : Nat) : (s.countBy p e n).stayPort i = s.stayPort i := by simp [State.stayPort]
@[simp] theorem State.countBy_vid (s : State) (p e n : Nat) (i : Nat) : (s.countBy p e n).vid i = s.vid i := by simp [State.vid]
@[simp] theorem State.countBy_casc (s : State) (p e n : Nat) (i : Nat) : (s.countBy p e n).casc i = s.casc i := by simp [State.casc]
@[simp] theorem State.countBy_mergedAt (s : State) (p e n : Nat) (i : Nat) : (s.countBy p e n).mergedAt i = s.mergedAt i := by simp [State.mergedAt]
@[simp] theorem State.countBy_stayPtp (s : State) (p e n : Nat) (i : Nat) : (s.countBy p e n).stayPtp i = s.stayPtp i := by simp [State.stayPtp]
@[simp] theorem State.countBy_shroudPtp (s : State) (p e n : Nat) (i : Nat) : (s.countBy p e n).shroudPtp i = s.shroudPtp i := by simp [State.shroudPtp]
@[simp] theorem State.countBy_port (s : State) (p e n : Nat) (i : Nat) : (s.countBy p e n).port i = s.port i := by simp [State.port]
@[simp] theorem State.countBy_blob (s : State) (p e n : Nat) (i : Nat) : (s.countBy p e n).blob i = s.blob i := by simp [State.blob]
@[simp] theorem State.countBy_dramByte (s : State) (p e n : Nat) (i : Nat) : (s.countBy p e n).dramByte i = s.dramByte i := by simp [State.dramByte]
@[simp] theorem State.countBy_sramByte (s : State) (p e n : Nat) (i : Nat) : (s.countBy p e n).sramByte i = s.sramByte i := by simp [State.sramByte]

/-! ### count -/

@[simp] theorem State.count_pending (s : State) (p e : Nat) : (s.count p e).pending = s.pending := (State.count_quiet s p e).pending
@[simp] theorem State.count_clock (s : State) (p e : Nat) : (s.count p e).clock = s.clock := (State.count_quiet s p e).clock
@[simp] theorem State.count_rtcPhase (s : State) (p e : Nat) : (s.count p e).rtcPhase = s.rtcPhase := (State.count_quiet s p e).rtcPhase
@[simp] theorem State.count_freeCount (s : State) (p e : Nat) : (s.count p e).freeCount = s.freeCount := (State.count_quiet s p e).freeCount
@[simp] theorem State.count_live (s : State) (p e : Nat) : (s.count p e).live = s.live := (State.count_quiet s p e).live
@[simp] theorem State.count_content (s : State) (p e : Nat) : (s.count p e).content = s.content := (State.count_quiet s p e).content
@[simp] theorem State.count_blobs (s : State) (p e : Nat) : (s.count p e).blobs = s.blobs := (State.count_quiet s p e).blobs
@[simp] theorem State.count_blobWrites (s : State) (p e : Nat) : (s.count p e).blobWrites = s.blobWrites := (State.count_quiet s p e).blobWrites
@[simp] theorem State.count_dram (s : State) (p e : Nat) : (s.count p e).dram = s.dram := (State.count_quiet s p e).dram
@[simp] theorem State.count_sram (s : State) (p e : Nat) : (s.count p e).sram = s.sram := (State.count_quiet s p e).sram
@[simp] theorem State.count_power (s : State) (p e : Nat) : (s.count p e).power = s.power := (State.count_quiet s p e).power
@[simp] theorem State.count_nv (s : State) (p e : Nat) : (s.count p e).nv = s.nv := (State.count_quiet s p e).nv
@[simp] theorem State.count_halyard (s : State) (p e : Nat) : (s.count p e).halyard = s.halyard := (State.count_quiet s p e).halyard
@[simp] theorem State.count_stay (s : State) (p e : Nat) : (s.count p e).stay = s.stay := (State.count_quiet s p e).stay
@[simp] theorem State.count_video (s : State) (p e : Nat) : (s.count p e).video = s.video := (State.count_quiet s p e).video
@[simp] theorem State.count_cascadeIn (s : State) (p e : Nat) : (s.count p e).cascadeIn = s.cascadeIn := (State.count_quiet s p e).cascadeIn
@[simp] theorem State.count_sacn (s : State) (p e : Nat) : (s.count p e).sacn = s.sacn := (State.count_quiet s p e).sacn
@[simp] theorem State.count_merged (s : State) (p e : Nat) : (s.count p e).merged = s.merged := (State.count_quiet s p e).merged
@[simp] theorem State.count_cue (s : State) (p e : Nat) : (s.count p e).cue = s.cue := (State.count_quiet s p e).cue
@[simp] theorem State.count_twin (s : State) (p e : Nat) : (s.count p e).twin = s.twin := (State.count_quiet s p e).twin
@[simp] theorem State.count_update (s : State) (p e : Nat) : (s.count p e).update = s.update := (State.count_quiet s p e).update
@[simp] theorem State.count_render (s : State) (p e : Nat) : (s.count p e).render = s.render := (State.count_quiet s p e).render
@[simp] theorem State.count_sheet (s : State) (p e : Nat) : (s.count p e).sheet = s.sheet := (State.count_quiet s p e).sheet
@[simp] theorem State.count_shroud (s : State) (p e : Nat) : (s.count p e).shroud = s.shroud := (State.count_quiet s p e).shroud
@[simp] theorem State.count_ports (s : State) (p e : Nat) : (s.count p e).ports = s.ports := (State.count_quiet s p e).ports
@[simp] theorem State.count_masthead (s : State) (p e : Nat) : (s.count p e).masthead = s.masthead := (State.count_quiet s p e).masthead
@[simp] theorem State.count_trim (s : State) (p e : Nat) : (s.count p e).trim = s.trim := (State.count_quiet s p e).trim
@[simp] theorem State.count_kite (s : State) (p e : Nat) : (s.count p e).kite = s.kite := (State.count_quiet s p e).kite
@[simp] theorem State.count_wdp_sessions (s : State) (p e : Nat) : (s.count p e).wdp.sessions = s.wdp.sessions := (State.count_quiet s p e).wdp_sessions
@[simp] theorem State.count_wdp_xfers (s : State) (p e : Nat) : (s.count p e).wdp.xfers = s.wdp.xfers := (State.count_quiet s p e).wdp_xfers
@[simp] theorem State.count_wdp_answer (s : State) (p e : Nat) : (s.count p e).wdp.answer = s.wdp.answer := (State.count_quiet s p e).wdp_answer
@[simp] theorem State.count_wdp_rest (s : State) (p e : Nat) : (s.count p e).wdp.rest = s.wdp.rest := (State.count_quiet s p e).wdp_rest
@[simp] theorem State.count_trouble_rest (s : State) (p e : Nat) : (s.count p e).trouble.rest = s.trouble.rest := (State.count_quiet s p e).trouble_rest
@[simp] theorem State.count_capstan_rest (s : State) (p e : Nat) : (s.count p e).capstan.rest = s.capstan.rest := (State.count_quiet s p e).capstan_rest
@[simp] theorem State.count_capstan_threads (s : State) (p e : Nat) : (s.count p e).capstan.threads = s.capstan.threads := (State.count_quiet s p e).capstan_threads
@[simp] theorem State.count_capstan_cores (s : State) (p e : Nat) : (s.count p e).capstan.cores = s.capstan.cores := (State.count_quiet s p e).capstan_cores
@[simp] theorem State.count_capstan_semaphores (s : State) (p e : Nat) : (s.count p e).capstan.semaphores = s.capstan.semaphores := (State.count_quiet s p e).capstan_semaphores
@[simp] theorem State.count_capstan_flows (s : State) (p e : Nat) : (s.count p e).capstan.flows = s.capstan.flows := (State.count_quiet s p e).capstan_flows
@[simp] theorem State.count_capstan_mailbox (s : State) (p e : Nat) : (s.count p e).capstan.mailbox = s.capstan.mailbox := (State.count_quiet s p e).capstan_mailbox
@[simp] theorem State.count_capstan_dispatchStopped (s : State) (p e : Nat) : (s.count p e).capstan.dispatchStopped = s.capstan.dispatchStopped := (State.count_quiet s p e).capstan_dispatchStopped
@[simp] theorem State.count_session (s : State) (p e : Nat) (i : Nat) : (s.count p e).session i = s.session i := by simp [State.session]
@[simp] theorem State.count_xfer (s : State) (p e : Nat) (i : Nat) : (s.count p e).xfer i = s.xfer i := by simp [State.xfer]
@[simp] theorem State.count_core (s : State) (p e : Nat) (i : Nat) : (s.count p e).core i = s.core i := by simp [State.core]
@[simp] theorem State.count_thread (s : State) (p e : Nat) (i : Nat) : (s.count p e).thread i = s.thread i := by simp [State.thread]
@[simp] theorem State.count_stayPort (s : State) (p e : Nat) (i : Nat) : (s.count p e).stayPort i = s.stayPort i := by simp [State.stayPort]
@[simp] theorem State.count_vid (s : State) (p e : Nat) (i : Nat) : (s.count p e).vid i = s.vid i := by simp [State.vid]
@[simp] theorem State.count_casc (s : State) (p e : Nat) (i : Nat) : (s.count p e).casc i = s.casc i := by simp [State.casc]
@[simp] theorem State.count_mergedAt (s : State) (p e : Nat) (i : Nat) : (s.count p e).mergedAt i = s.mergedAt i := by simp [State.mergedAt]
@[simp] theorem State.count_stayPtp (s : State) (p e : Nat) (i : Nat) : (s.count p e).stayPtp i = s.stayPtp i := by simp [State.stayPtp]
@[simp] theorem State.count_shroudPtp (s : State) (p e : Nat) (i : Nat) : (s.count p e).shroudPtp i = s.shroudPtp i := by simp [State.shroudPtp]
@[simp] theorem State.count_port (s : State) (p e : Nat) (i : Nat) : (s.count p e).port i = s.port i := by simp [State.port]
@[simp] theorem State.count_blob (s : State) (p e : Nat) (i : Nat) : (s.count p e).blob i = s.blob i := by simp [State.blob]
@[simp] theorem State.count_dramByte (s : State) (p e : Nat) (i : Nat) : (s.count p e).dramByte i = s.dramByte i := by simp [State.dramByte]
@[simp] theorem State.count_sramByte (s : State) (p e : Nat) (i : Nat) : (s.count p e).sramByte i = s.sramByte i := by simp [State.sramByte]

/-! ### Values -/

theorem State.rd_settle (s : State) (q f : Nat) (hq : q ∉ housekeeping) : s.settle.rd q f = s.rd q f :=
  s.settle_keeps.same q f hq

theorem State.rd_log (s : State) (a b c : Nat) (x y : Word) (q f : Nat) (hq : q ∉ housekeeping) :
    (s.log a b c x y).rd q f = s.rd q f := (State.log_keeps ..).same q f hq

theorem State.rd_event (s : State) (a b c : Nat) (x : Word) (q f : Nat) (hq : q ∉ housekeeping) :
    (s.event a b c x).rd q f = s.rd q f := (State.event_keeps ..).same q f hq

end Sys2Proof.Machine
end

