-- ==== Sys2Proof/Laws/Write.lean ====
section
/-! SUPPORT. What a single granted write does: the parameter's own effect, and an answer with its status. -/
namespace Sys2Proof.Machine

/-! ### Bytes of a number -/

@[simp] theorem leBytes_length : ∀ n v : Nat, (leBytes n v).length = n
  | 0, _ => rfl
  | n + 1, v => by simp [leBytes, leBytes_length n]

/-- The number that the low bytes of `v` spell. -/
theorem leNat_leBytes : ∀ n v : Nat, leNat (leBytes n v) = v % 2 ^ (8 * n)
  | 0, v => by simp [leBytes, leNat, Nat.mod_one]
  | n + 1, v => by
    have h : (2 : Nat) ^ (8 * (n + 1)) = 256 * 2 ^ (8 * n) := by rw [Nat.mul_add, Nat.pow_add]; omega
    rw [leBytes, leNat, leNat_leBytes n, BitVec.toNat_ofNat, h, Nat.mod_mul]

@[simp] theorem beBytes_length (n v : Nat) : (beBytes n v).length = n := by simp [beBytes]

theorem beNat_beBytes (n v : Nat) : beNat (beBytes n v) = v % 2 ^ (8 * n) := by
  simp [beNat, beBytes, leNat_leBytes]

/-! ### One operation -/

/-- The arbiter's turn is a note of this clock alone. -/
theorem State.arbitrate_eq (s : State) (rq : Requester) : ∃ n, s.arbitrate rq = { s with now := n } := by
  unfold State.arbitrate
  split <;> exact ⟨_, rfl⟩

theorem State.serve_of (s : State) (rq : Requester) (op : State → State) (h : s.pathServes rq = true)
    (k : s.sessionOk rq = true) : s.serve rq op = op (s.arbitrate rq) := by
  simp [State.serve, h, k]

theorem State.access_of (s : State) (rq : Requester) (a : Nat) (b : Bool) (op : State → State) (h : s.pathServes rq = true)
    (k : s.sessionOk rq = true) (f : s.faults rq a b = false) : s.access rq a b op = op (s.arbitrate rq) := by
  simp [State.access, f, State.serve_of s rq op h k]

/-- Over the window every answer fits. -/
theorem State.answerOne_window (s : State) (rq : Requester) (h : rq.onWindow = true) (status : Byte) :
    s.answerOne rq status [] = s.answer status [] := by
  unfold State.answerOne State.responseLimit
  unfold Requester.onWindow at h ⊢
  split at h
  · rename_i c m hp
    simp [hp, pad4]
  · contradiction

/-- A write of one element of a scalar parameter is its element's write. -/
theorem State.writeScalars_one (s : State) (via : Via) (r : Row) (e v : Nat) (hw : writable r e = true)
    (hn : s.notActive via r = false) (hv : s.valueOk r e v = true) (hc : s.clonesAfter r.num [(e, v)] = true)
    (hl : v < 2 ^ (8 * r.ty.bytes)) (hq : r.num ≠ P.CueWrite) :
    s.writeScalars via r e 1 (beBytes r.ty.bytes v) = s.writeElement via r e (BitVec.ofNat 64 v) := by
  have h1 : splitValues r.ty.bytes e 1 (beBytes r.ty.bytes v) = [(e, v)] := by
    have : (beBytes r.ty.bytes v).take r.ty.bytes = beBytes r.ty.bytes v :=
      List.take_of_length_le (by simp)
    simp only [splitValues, this, beNat_beBytes, Nat.mod_eq_of_lt hl]
  unfold State.writeScalars
  simp only [h1, List.filter_cons, hw, List.filter_nil, if_true, List.isEmpty_cons, beBytes_length, Nat.one_mul,
    List.length_singleton, Nat.lt_irrefl, hn, List.all_cons, hv, List.all_nil, Bool.and_true, Bool.not_true, hc, hq, if_false,
    Bool.false_or, ne_eq, not_true_eq_false, Bool.false_eq_true, State.writeAll]
  split
  · rename_i h
    rw [← h]
  · rfl

/-- A granted write of one element, once it is the arbiter's turn, is its element's write. -/
theorem State.writeOp_of_grants (s : State) (rq : Requester) (r : Row) (e v : Nat) (hr : Dict.row r.num = some r)
    (ht : r.ty ≠ .str ∧ r.ty ≠ .blob) (hq : r.num ≠ P.CueWrite) (h : s.grants rq r.num e v = true) :
    s.writeOp (s.via rq) r.num e 1 (beBytes r.ty.bytes v) = s.writeElement (s.via rq) r e (BitVec.ofNat 64 v) := by
  unfold State.grants at h
  rw [hr] at h
  simp only [Bool.and_eq_true, decide_eq_true_eq, Bool.not_eq_true'] at h
  obtain ⟨⟨⟨⟨⟨⟨⟨⟨⟨-, -⟩, -⟩, h4⟩, h5⟩, h6⟩, h7⟩, h8⟩, h9⟩, -⟩ := h
  unfold State.permits at h4
  rw [hr] at h4
  simp only [Bool.and_eq_true, decide_eq_true_eq, Bool.not_eq_true'] at h4
  obtain ⟨⟨h41, h42⟩, h43⟩ := h4
  have h44 : ¬ s.level rq < r.writeLevel := by omega
  rw [← State.writeScalars_one s (s.via rq) r e v h5 h8 h6 h7 h9 hq]
  unfold State.writeOp
  simp only [hr, h41, h43, Bool.not_true, Bool.or_false, Bool.false_or]
  have : (s.via rq).level = s.level rq := rfl
  simp only [this, h44, decide_false, Bool.false_eq_true, if_false]
  split
  · exact absurd ‹r.ty = .str› ht.1
  · exact absurd ‹r.ty = .blob› ht.2
  · rfl

/-- The note of this clock plays no part in what a write is granted by. -/
theorem State.grants_now (s : State) (n : ThisClock) (rq : Requester) (p e v : Nat) :
    ({ s with now := n } : State).grants rq p e v = s.grants rq p e v := rfl

/-- A granted write is the parameter's own effect in the arbiter's turn, answered with its status. -/
theorem State.serveOne_of_grants (s : State) (rq : Requester) (p e v : Nat) (r : Row) (hr : Dict.row p = some r)
    (hn : r.num = p) (ht : r.ty ≠ .str ∧ r.ty ≠ .blob) (hq : p ≠ P.CueWrite) (h : s.grants rq p e v = true) :
    s.serveOne rq p e v =
      ((s.arbitrate rq).writeElement ((s.arbitrate rq).via rq) r e (BitVec.ofNat 64 v)).1.answerOne rq
        ((s.arbitrate rq).writeElement ((s.arbitrate rq).via rq) r e (BitVec.ofNat 64 v)).2 [] := by
  subst hn
  have hg : (s.arbitrate rq).grants rq r.num e v = true := by
    obtain ⟨n, hn⟩ := s.arbitrate_eq rq
    rw [hn]
    exact h
  have hw := State.writeOp_of_grants (s.arbitrate rq) rq r e v hr ht hq hg
  unfold State.grants at h
  rw [hr] at h
  simp only [Bool.and_eq_true, decide_eq_true_eq, Bool.not_eq_true'] at h
  obtain ⟨⟨⟨⟨⟨⟨⟨⟨⟨h1, h2⟩, h3⟩, -⟩, -⟩, -⟩, -⟩, -⟩, -⟩, -⟩ := h
  unfold State.serveOne
  rw [hr]
  dsimp only
  unfold State.serveWrite
  split
  · rename_i hwin
    have hs : r.ty.bytes = storeWidth r.num := by
      unfold storeWidth
      rw [hr]
      dsimp only
      split
      · exact absurd ‹r.ty = .str› ht.1
      · exact absurd ‹r.ty = .blob› ht.2
      · rfl
    have hb : (beBytes r.ty.bytes v).take (storeWidth r.num) = beBytes r.ty.bytes v :=
      List.take_of_length_le (by simp [hs])
    simp only [State.stores, hb]
    unfold State.store
    rw [State.access_of _ _ _ _ _ h1 h2 h3]
    have hty : (r.ty == PType.str) = false := by simp [ht.1]
    simp only [hr, hty, Bool.false_eq_true, if_false, hw, State.answerOne_window _ rq hwin]
  · rw [State.serve_of _ _ _ h1 h2]
    simp only [hw]

end Sys2Proof.Machine
end

