-- ==== Sys2Proof/Laws/More.lean ====
section
/-! SUPPORT. What the shared operations above counters and events can do, one frame for each. -/
namespace Sys2Proof.Machine

variable {ps : List Nat} {es : List (Nat × Nat)} {fs : List Part} {s t u : State}

/-! ### Frames of single fields -/

theorem Frame.setCore (c : Nat) (x : DeckCore) (h : Frame ps es fs s t) (hf : .capstan ∈ fs) :
    Frame ps es fs s (t.setCore c x) :=
  h.parts rfl (by constructor <;> intros <;> first | rfl | exact ⟨rfl, rfl⟩ | contradiction)

theorem Frame.setThread (c : Nat) (x : Thread) (h : Frame ps es fs s t) (hf : .capstan ∈ fs) :
    Frame ps es fs s (t.setThread c x) :=
  h.parts rfl (by constructor <;> intros <;> first | rfl | exact ⟨rfl, rfl⟩ | contradiction)

theorem Frame.setSession (n : Nat) (x : Session) (h : Frame ps es fs s t) (hf : .sessions ∈ fs) :
    Frame ps es fs s (t.setSession n x) :=
  h.parts rfl (by constructor <;> intros <;> first | rfl | exact ⟨rfl, rfl⟩ | contradiction)

theorem Frame.setXfer (n : Nat) (x : Xfer) (h : Frame ps es fs s t) (hf : .transfers ∈ fs) :
    Frame ps es fs s (t.setXfer n x) :=
  h.parts rfl (by constructor <;> intros <;> first | rfl | exact ⟨rfl, rfl⟩ | contradiction)

theorem Frame.answer (a : Byte) (d : List Byte) (h : Frame ps es fs s t) (hf : .answer ∈ fs) :
    Frame ps es fs s (t.answer a d) :=
  h.parts rfl (by constructor <;> intros <;> first | rfl | exact ⟨rfl, rfl⟩ | contradiction)

theorem Frame.answerOne (rq : Requester) (a : Byte) (d : List Byte) (h : Frame ps es fs s t) (hf : .answer ∈ fs) :
    Frame ps es fs s (t.answerOne rq a d) := by
  unfold State.answerOne
  dsimp only
  repeat' split
  all_goals exact h.answer _ _ hf

theorem Frame.setStayPort (n : Nat) (x : StayPort) (h : Frame ps es fs s t) (hf : .stay ∈ fs) :
    Frame ps es fs s (t.setStayPort n x) :=
  h.parts rfl (by constructor <;> intros <;> first | rfl | exact ⟨rfl, rfl⟩ | contradiction)

theorem Frame.setPort (n : Nat) (x : ShroudPort) (h : Frame ps es fs s t) (hf : .ports ∈ fs) :
    Frame ps es fs s (t.setPort n x) :=
  h.parts rfl (by constructor <;> intros <;> first | rfl | exact ⟨rfl, rfl⟩ | contradiction)

theorem Frame.setTwin (x : Twin) (h : Frame ps es fs s t) (hf : .twin ∈ fs) : Frame ps es fs s (t.setTwin x) :=
  h.parts rfl (by constructor <;> intros <;> first | rfl | exact ⟨rfl, rfl⟩ | contradiction)

theorem Frame.setMast (x : Masthead) (h : Frame ps es fs s t) (hf : .masthead ∈ fs) : Frame ps es fs s (t.setMast x) :=
  h.parts rfl (by constructor <;> intros <;> first | rfl | exact ⟨rfl, rfl⟩ | contradiction)

theorem Frame.setGrid (x : Grid) (h : Frame ps es fs s t) (hf : .grid ∈ fs) : Frame ps es fs s (t.setGrid x) :=
  h.parts rfl (by constructor <;> intros <;> first | rfl | exact ⟨rfl, rfl⟩ | contradiction)

theorem Frame.setTrouble (x : Trouble) (h : Frame ps es fs s t) (hf : .trouble ∈ fs) :
    Frame ps es fs s (t.setTrouble x) :=
  h.parts rfl (by constructor <;> intros <;> first | rfl | exact ⟨rfl, rfl⟩ | contradiction)

theorem Frame.setKite (x : Kite) (h : Frame ps es fs s t) (hf : .kite ∈ fs) : Frame ps es fs s (t.setKite x) :=
  h.parts rfl (by constructor <;> intros <;> first | rfl | exact ⟨rfl, rfl⟩ | contradiction)

theorem Frame.setRender (x : Render) (h : Frame ps es fs s t) (hf : .render ∈ fs) : Frame ps es fs s (t.setRender x) :=
  h.parts rfl (by constructor <;> intros <;> first | rfl | exact ⟨rfl, rfl⟩ | contradiction)

theorem Frame.setUpdate (x : Update) (h : Frame ps es fs s t) (hf : .update ∈ fs) : Frame ps es fs s (t.setUpdate x) :=
  h.parts rfl (by constructor <;> intros <;> first | rfl | exact ⟨rfl, rfl⟩ | contradiction)

theorem Frame.setBlob (p : Nat) (b : List Byte) (h : Frame ps es fs s t) (hf : .bodies ∈ fs) :
    Frame ps es fs s (t.setBlob p b) :=
  h.parts rfl (by constructor <;> intros <;> first | rfl | exact ⟨rfl, rfl⟩ | contradiction)

theorem Frame.setLive (p e : Nat) (v : Wide) (h : Frame ps es fs s t) (hf : .live ∈ fs) :
    Frame ps es fs s (t.setLive p e v) :=
  h.parts rfl (by constructor <;> intros <;> first | rfl | exact ⟨rfl, rfl⟩ | contradiction)

/-- A new power record. -/
theorem Frame.power (x : Power) (h : Frame ps es fs s t) (hf : .power ∈ fs) : Frame ps es fs s { t with power := x } :=
  h.parts rfl (by constructor <;> intros <;> first | rfl | exact ⟨rfl, rfl⟩ | contradiction)

/-- What holds of every step of a fold holds of the fold. -/
theorem Frame.foldl {α : Type} (f : State → α → State) (hf : ∀ t a, Frame ps es fs t (f t a)) :
    ∀ (l : List α) {t : State}, Frame ps es fs s t → Frame ps es fs s (l.foldl f t)
  | [], _, h => h
  | a :: l, t, h => Frame.foldl f hf l (h.trans (hf t a))

/-! ### Interrupts -/

theorem Frame.leaveLuff (h : Frame ps es fs s t) (hc : .capstan ∈ fs) (hp : .power ∈ fs) :
    Frame ps es fs s t.leaveLuff := by
  unfold State.leaveLuff
  split
  · exact Frame.foldl _ (fun t c => (Frame.refl ..).setCore c _ hc) _ (h.power _ hp)
  · exact h

/-- Raising an interrupt moves the core and, from Luff, the power state. -/
theorem Frame.raiseIrq (c bit : Nat) (h : Frame ps es fs s t) (hc : .capstan ∈ fs) (hp : .power ∈ fs) :
    Frame ps es fs s (t.raiseIrq c bit) := by
  unfold State.raiseIrq
  exact (h.setCore c _ hc).leaveLuff hc hp

/-! ### Flows of the scheduler and the clock's note -/

/-- A note of what has met in this clock is no part of the machine. -/
theorem Frame.now (x : ThisClock) (h : Frame ps es fs s t) : Frame ps es fs s { t with now := x } :=
  h.parts rfl (by constructor <;> intros <;> first | rfl | exact ⟨rfl, rfl⟩)

theorem Frame.setFlow (f : Nat) (x : Option Nat) (h : Frame ps es fs s t) (hf : .capstan ∈ fs) :
    Frame ps es fs s (t.setFlow f x) :=
  h.parts rfl (by constructor <;> intros <;> first | rfl | exact ⟨rfl, rfl⟩ | contradiction)

/-- Entering a slot puts at most the thread's flow in service. -/
theorem Frame.enterFlow (n : Nat) (h : Frame ps es fs s t) (hf : .capstan ∈ fs) : Frame ps es fs s (t.enterFlow n) := by
  unfold State.enterFlow
  dsimp only
  split
  · exact (h.setFlow _ _ hf).now _
  · exact h

/-- Reconsidering the flows of this clock changes the scheduler alone. -/
theorem Frame.reopenFlows (h : Frame ps es fs s t) (hf : .capstan ∈ fs) : Frame ps es fs s t.reopenFlows := by
  refine Frame.foldl _ (fun t f => ?_) _ (h.now _)
  repeat' split
  all_goals first | exact (Frame.refl ..).setFlow _ _ hf | exact Frame.refl ..

/-- Noting a semaphore load changes nothing of the machine. -/
theorem Frame.noteLoad (core n : Nat) (h : Frame ps es fs s t) : Frame ps es fs s (t.noteLoad core n) := by
  unfold State.noteLoad
  exact h.now _

/-- A body placed at its latch joins the bodies that wait; its slot and its event change with it. -/
theorem Frame.placeAtLatch (slot : Nat) (frame : Option Nat) (h : Frame ps es fs s t) (hw : .bodyWrites ∈ fs)
    (hx : .transfers ∈ fs) : Frame ps es fs s (t.placeAtLatch slot frame) := by
  unfold State.placeAtLatch
  refine Frame.event _ _ _ _ (Frame.setXfer _ _ ?_ hx)
  exact h.parts rfl (by constructor <;> intros <;> first | rfl | exact ⟨rfl, rfl⟩ | contradiction)

end Sys2Proof.Machine
end

