-- ==== Sys2Proof/Machine/Pins.lean ====
section
/-! DEFINITION. The ball groups and the states in which Table 2.10 holds them (R36, R37, R70). -/
namespace Sys2Proof.Machine

/-- The ball groups of Table 2.10; one ball group per port where the table numbers them. -/
inductive PinGroup
  | shroudPair (port : Fin 64)
  | stayHighSpeed (port : Fin 4)
  | stayTxDisable (port : Fin 4)
  | stayRateSelect (port : Fin 4)
  | staySideband (port : Fin 4)
  | stayBus (port : Fin 4)
  | pennant
  | kiteRf
  | bosun
  | eventN
  | resetN
  | wake
  | sinks
  | switches
  | sensors
  | tdo
  deriving DecidableEq, Repr

/-- What a ball group does, in the words of Table 2.10. `resetInput` is a RESET_N whose low level performs a full reset, and
`wakeSource` a WAKE that ends a sleep. -/
inductive PinState
  | highImpedance | quiet | terminationOff | lowPowerIdle | electricalIdle | active
  | high | low | released | input | ignored | resetInput | wakeSource
  | off | receiving | acknowledging | matching | biasOff
  deriving DecidableEq, Repr

/-- The pair of a shroud port in Reefed: low-power idle with its patterns armed where the port is enabled. -/
def State.shroudAsleep (s : State) (p : Nat) : PinState := if s.shroudEnabled p then .lowPowerIdle else .quiet

/-- An output that is high or low. -/
def drivenTo (b : Bool) : PinState := if b then .high else .low

/-- The state of a ball group (Table 2.10). In an entry the column is still that of Run, and what an abort point has turned off
is off (Table 4.3). -/
def State.pinState (s : State) : PinGroup → PinState
  | .shroudPair p => match s.pinColumn with
    | .reset => .terminationOff
    | .run => if s.shroudEnabled p then .active else .quiet
    | .reefed => s.shroudAsleep p
    | _ => .quiet
  | .stayHighSpeed p => match s.pinColumn with
    | .reset | .reefed => .electricalIdle
    | .run => if s.stayActive && s.stayEnabled p then .active else .electricalIdle
    | _ => .highImpedance
  | .stayTxDisable p => match s.pinColumn with
    | .run => drivenTo (s.txDisable p)
    | _ => .high
  | .stayRateSelect p => match s.pinColumn with
    | .unpowered => .highImpedance
    | _ => drivenTo (s.rateSelect p)
  | .staySideband _ => if s.sidebandRead then .input else .ignored
  | .stayBus _ => if s.pinColumn == .run then .active else .released
  | .pennant => if s.pinColumn == .run then .active else .highImpedance
  | .kiteRf => if s.kiteRuns then .active else if s.kiteListens then .receiving else .off
  | .bosun => match s.pinColumn with
    | .run | .reefed => .acknowledging
    | .furled => .matching
    | _ => if s.bosunServes then .acknowledging else .released
  | .eventN => if s.eventLow then .low else .released
  | .resetN => match s.pinColumn with
    | .unpowered | .struck => .ignored
    | .furled => .resetInput
    | _ => .input
  | .wake => match s.pinColumn with
    | .reefed | .furled | .struck => .wakeSource
    | _ => .ignored
  | .sinks => if s.pinColumn == .run && s.lampRuns then .active else .highImpedance
  | .switches => if s.pinColumn == .run && s.lampRuns then .active else .off
  | .sensors => match s.pinColumn with
    | .run => .active
    | _ => .biasOff
  | .tdo => if s.pinColumn == .run then .active else .highImpedance

end Sys2Proof.Machine
end

