-- ==== Sys2Proof/WellFormed.lean ====
section
/-! DEFINITION. Which commands can occur: the conditions that the spec puts on their operands, beyond the operands' types. -/
namespace Sys2Proof

/-- The request is one of the WDP, which the deck-core window does not carry (R95, R113). -/
def Requester.wdp (rq : Requester) : Bool := match rq.path with
  | .window _ _ => false
  | _ => true

/-- Only a stay request names a source address, port and MAC; the window has no sessions, and only a window access is made
by an instruction (R91, R98, R112, R113). -/
def Requester.wf (rq : Requester) : Bool :=
  match rq.path with
  | .window _ _ => rq.session == 0 && rq.addr == 0 && rq.udp == 0 && rq.mac == 0
  | .bosun => rq.addr == 0 && rq.udp == 0 && rq.mac == 0 && rq.access == {}
  | .stay _ => rq.access == {}

/-- A stamp resolves 0.25 ns: the low 6 bits of its fraction are zero (R131). -/
def stampOk (frac : Byte) : Bool := frac &&& 0x3F == 0

/-- A sweep measures 48 sinks and 4 photodiode inputs, with 256 dark samples of each (R327). -/
def TrimSweep.wf (x : TrimSweep) : Bool :=
  x.sinks.length == 48 && x.dark.length == 4 && x.dark.all (fun l => l.length == 256) && x.injected.length == 4

/-- The check of a command's operands. -/
def Instr.wf (i : Instr) : Bool :=
  match i with
  | .powerOn => true
  | .brownout rail => decide (rail.val < 11)
  | .resetPin => true
  | .watchdogExpiry => true
  | .watchdogService rq _ => rq.wf
  | .clockFault _ => true
  | .pllLossOfLock _ => true
  | .pllRelockAttempt _ _ => true
  | .resetRequest rq _ => rq.wf
  | .commandedReset => true
  | .lifeCycleRequest rq _ => rq.wf
  | .lifeCycleConfirm rq _ => rq.wf
  | .lifeCycleConfirmTimeout => true
  | .fuseProgrammingDone => true
  | .resetRelease _ => true
  | .sramWipeDone => true
  | .dramTrained => true
  | .imageVerify => true
  | .dramWipeDone => true
  | .bootHandover => true
  | .settingsApply => true
  | .deviceReady => true
  | .retiredEraseDone => true
  | .powerStateRequest rq _ => rq.wf
  | .waitForInterrupt _ => true
  | .luffWake => true
  | .abortPoint _ => true
  | .retentionHandshake => true
  | .wakePin => true
  | .rtcAlarm => true
  | .bosunAddressMatch => true
  | .wakeComplete => true
  | .struckWake => true
  | .read rq _ elem last => rq.wf && decide (elem.toNat + last.toNat < 256)
  | .write rq _ elem last _ => rq.wf && decide (elem.toNat + last.toNat < 256)
  | .readInfo rq _ elem last => rq.wf && rq.wdp && decide (elem.toNat + last.toNat < 256)
  | .sessionOpen rq _ _ => rq.wf && rq.wdp
  | .sessionProve rq proof _ => rq.wf && rq.wdp && proof.length == 32
  | .sessionClose rq => rq.wf && rq.wdp
  | .sessionProveTimeout _ => true
  | .sessionIdleTimeout _ => true
  | .unlockLockoutEnd => true
  | .blockOpen rq _ _ => rq.wf && rq.wdp
  | .blockData rq _ _ _ data => rq.wf && rq.wdp && decide (data.length < 65536)
  | .blockCommit rq _ _ digest => rq.wf && rq.wdp && digest.length == 32
  | .blockCommitVerified _ => true
  | .blockAbort rq _ _ _ => rq.wf && rq.wdp
  | .blockRead rq _ _ _ => rq.wf && rq.wdp
  | .blockSlotIdleTimeout _ => true
  | .subscribe rq _ _ _ => rq.wf && rq.wdp
  | .unsubscribe rq _ => rq.wf && rq.wdp
  | .subscriptionLeaseExpiry _ => true
  | .eventMessageSend _ => true
  | .bosunRead _ => true
  | .registerWrite rq _ _ _ => rq.wf
  | .counterClear rq _ _ _ => rq.wf
  | .timeNowRead rq => rq.wf
  | .tnsWrap => true
  | .timeConfigWrite rq _ _ => rq.wf
  | .syncReceived _ msg => stampOk msg.frac
  | .followUpReceived _ _ => true
  | .delayRespReceived _ _ => true
  | .delayReqInterval _ _ frac => stampOk frac
  | .announceReceived _ _ => true
  | .syncTimeout => true
  | .announceReceiptTimeout _ => true
  | .stepDoneClear rq => rq.wf
  | .gridSeed rq _ => rq.wf
  | .gridBoundary => true
  | .latch => true
  | .canvasCycleStart => true
  | .bandDone _ => true
  | .triggerFire _ _ _ => true
  | .triggerTargetWrite rq _ _ _ => rq.wf
  | .ptpSyncInterval _ _ frac => stampOk frac
  | .pdelayInterval _ _ frac => stampOk frac
  | .pdelayReqReceived _ _ _ frac _ sentFrac => stampOk frac && stampOk sentFrac
  | .pdelayRespReceived _ msg => stampOk msg.frac
  | .stayFrameReceived _ _ => true
  | .moduleInserted _ => true
  | .moduleIdRead _ page => page.length == 96
  | .moduleRemoved _ => true
  | .txFaultRise _ => true
  | .txFaultRetry _ => true
  | .txFaultCheck _ _ => true
  | .stayLinkFault _ _ => true
  | .stayLinkUp _ => true
  | .rtpPacket _ _ _ => true
  | .mergeHoldExpiry _ => true
  | .streamControlWrite rq _ _ => rq.wf
  | .sacnDataPacket _ packet => decide (packet.slots.length ≤ 512)
  | .sacnSyncPacket _ _ => true
  | .syncAddressIdle _ => true
  | .sacnSyncTimeout _ => true
  | .sourceTimeout _ _ => true
  | .lossHoldExpiry entry => decide (entry < 16384)
  | .cascadeFrame _ _ _ => true
  | .cueWrite rq words _ => rq.wf && decide (1 ≤ words.length) && decide (words.length ≤ 128)
  | .cueRead rq _ => rq.wf
  | .cuePoll => true
  | .cueExecute => true
  | .layerCommit rq _ _ => rq.wf
  | .frameCommit rq _ _ => rq.wf
  | .projectionCommit rq _ => rq.wf
  | .sheetWindowOpen => true
  | .packPassDone => true
  | .sheetWindowClose _ => true
  | .egressFrameDone _ => true
  | .sacnSyncSend _ => true
  | .lpiWakeLead _ => true
  | .shroudLinkUp _ _ => true
  | .shroudLinkDown _ => true
  | .shroudFrameReceived _ bytes _ _ frac => decide (14 ≤ bytes.length) && stampOk frac
  | .expressFrame _ _ => true
  | .expressIngressEnd _ _ => true
  | .snapshotTake rq _ => rq.wf
  | .snapshotDue => true
  | .snapshotCaptureDone => true
  | .cableTestStart rq _ => rq.wf
  | .cablePortTestDone _ _ => true
  | .cableTestAbort rq _ => rq.wf
  | .pwmCycleStart _ => true
  | .rasterCommit rq _ => rq.wf
  | .loopBurstEnd samples => samples.length == 4
  | .loopCapture rq _ => rq.wf
  | .ntcStale => true
  | .derateStep => true
  | .scanSupplyFault => true
  | .scanSupplyRecovery => true
  | .switchOvercurrent _ => true
  | .engineStart rq _ _ => rq.wf
  | .engineStop rq _ => rq.wf
  | .showLossTimeout => true
  | .trimStart rq _ => rq.wf
  | .trimFirstAuto => true
  | .trimSweepDone sweep => sweep.wf
  | .trimDarkTimeout => true
  | .trimAbort rq _ => rq.wf
  | .trimCodeWrite rq _ _ _ => rq.wf
  | .kiteFrameReceived psdu _ _ => decide (3 ≤ psdu.length) && decide (psdu.length ≤ 127)
  | .kiteFrameOnAir => true
  | .kiteAckTimeout => true
  | .kiteAnchor => true
  | .kiteListenWindow => true
  | .keyEraEnd => true
  | .pennantBurstStart => true
  | .pennantBurstReceived _ => true
  | .stayPennantReceived _ _ => true
  | .pathLoss _ => true
  | .strapConflictClear => true
  | .mirrorResend => true
  | .joinWaitExpiry => true
  | .roleRequest rq _ => rq.wf
  | .twinControlWrite rq _ => rq.wf
  | .schedReady _ _ => true
  | .capstanEvent _ => true
  | .schedCancel _ _ => true
  | .schedAlloc _ => true
  | .schedFree _ _ => true
  | .schedNext _ => true
  | .schedYield _ => true
  | .schedDone _ => true
  | .schedWait _ _ => true
  | .threadPriorityWrite _ _ _ _ => true
  | .semaphoreTake _ _ => true
  | .semaphoreRelease _ _ => true
  | .trap _ _ _ _ => true
  | .environmentCall _ _ => true
  | .btCopy _ _ _ _ _ _ => true
  | .btOpen _ _ _ => true
  | .btData _ _ _ _ _ _ => true
  | .btCommit _ _ _ _ => true
  | .btAbort _ _ _ _ => true
  | .btRead _ _ _ _ _ => true
  | .btDone _ => true
  | .bulkRoom _ => true
  | .relayRequest rq _ => rq.wf
  | .relayTimeout => true
  | .appletStart rq _ => rq.wf
  | .appletStop rq => rq.wf
  | .imageWriteDone _ => true
  | .healthConfirm rq _ => rq.wf
  | .healthTimerExpiry => true
  | .floorRequest rq _ => rq.wf
  | .settingsSave rq => rq.wf
  | .settingsSaveAbort rq _ => rq.wf
  | .settingsSaveDone _ => true
  | .troubleWrite _ _ _ _ _ _ => true
  | .logExport rq => rq.wf
  | .logExportDone => true
  | .scrubStart rq _ => rq.wf
  | .scrubPeriodic => true
  | .scrubAbort rq _ => rq.wf
  | .scrubDone _ _ => true
  | .maintenanceDeferredAdmit => true
  | .vaoLoss => true
  | .bosunWriteTransfer _ => true
  | .stayMasterSyncInterval _ _ frac => stampOk frac
  | .kiteChannelAccessFailure => true
  | .mirrorBlobVerified _ => true

end Sys2Proof
end

