-- ==== Sys2Proof/Tests/Slice0.lean ====
section
/-! SUPPORT. The model's own tests: operands that cannot occur are refused, single steps with results taken from the spec's
examples and tables and from published check values, and for every statement with hypotheses a state and operands that meet
them. -/
open Sys2Proof Sys2Proof.Machine

namespace Sys2Proof.Tests

set_option Elab.async false

/-! ### Small states -/

/-- A parameter row, or an empty one where none is defined. -/
def rowOf (p : Nat) : Row := (Dict.row p).getD ⟨0, .u8, .ro, 1, 0, 0, 0, 0, 0, 0, 0, false, false, false, .none, 0⟩

/-- The requester's session is unlocked at Rigger and bound to it, the stay ports are enabled, and the device runs. -/
def served (s : State) (rq : Requester) : State :=
  let s := s.setSession rq.session { Session.free with state := if rq.session = 0 then .free else .unlocked, level := 3,
                                                        bosun := rq.onBosun, addr := rq.addr, udp := rq.udp,
                                                        key := [1, 2, 3] }
  let s := (List.range 4).foldl (fun s p => s.setBit P.StayControl p 0 true) s
  { s with power := { s.power with phase := .ready, sleep := .run } }

/-- The device in Run: clocks locked, watchdog running, the four cores released. -/
def up : State :=
  let s := served State.reset ⟨.bosun, 0, 0, 0, {}, 0⟩
  let s := { s.wr P.PllLockStatus 0 0x7F with power := { s.power with watchdog := .running } }
  (List.range 4).foldl (fun s c => s.setCore c { s.core c with released := true }) s

/-- DC0 in machine mode, through the window. -/
def kernel : Requester := ⟨.window 0 true, 0, 0, 0, {}, 0⟩

/-- The next state that a command answers. -/
def after (s : State) (c : Instr) : State :=
  match exec c s with
  | .next t => t
  | _ => s

/-! ### Commands that cannot occur are refused (one for each check) -/

theorem wf_window_session : (Instr.timeNowRead ⟨.window 0 true, 1, 0, 0, {}, 0⟩).wf = false := by decide
theorem wf_window_address : (Instr.timeNowRead ⟨.window 0 true, 0, 7, 0, {}, 0⟩).wf = false := by decide
theorem wf_bosun_port : (Instr.sessionClose ⟨.bosun, 1, 0, 5, {}, 0⟩).wf = false := by decide
theorem wf_vscn_brownout : (Instr.brownout 11).wf = false := by decide
theorem wf_elements : (Instr.read kernel 0x2000 200 60).wf = false := by decide
theorem wf_proof : (Instr.sessionProve ⟨.bosun, 1, 0, 0, {}, 0⟩ [1, 2, 3] 0).wf = false := by decide
theorem wf_block_data : (Instr.blockData kernel 0xA030 0 0 (List.replicate 65536 0)).wf = false := by
  decide +kernel
theorem wf_digest : (Instr.blockCommit kernel 0xA030 0 []).wf = false := by decide
theorem wf_stamp : (Instr.syncReceived 0 ⟨0, 0, 0, false, 0, 0, 0, 0, 0, 1⟩).wf = false := by decide
theorem wf_two_stamps : (Instr.pdelayReqReceived 0 ⟨2, 0, 0, 0⟩ 0 0x40 0 0x20).wf = false := by decide
theorem wf_module_page : (Instr.moduleIdRead 0 [1]).wf = false := by decide
theorem wf_slots : (Instr.sacnDataPacket 0 ⟨1, 1, 100, 0, 0, false, false, false, 0, List.replicate 513 0⟩).wf = false := by
  decide +kernel
theorem wf_entry : (Instr.lossHoldExpiry 16384).wf = false := by decide
theorem wf_no_words : (Instr.cueWrite kernel [] false).wf = false := by decide
theorem wf_many_words : (Instr.cueWrite kernel (List.replicate 129 0) false).wf = false := by decide +kernel
theorem wf_short_frame : (Instr.shroudFrameReceived 0 [1, 2, 3] true 0 0).wf = false := by decide
theorem wf_bursts : (Instr.loopBurstEnd [[], []]).wf = false := by decide
theorem wf_sweep : (Instr.trimSweepDone ⟨List.replicate 47 1, [[], [], [], []], [[], [], [], []], [], []⟩).wf = false := by
  decide +kernel
theorem wf_psdu : (Instr.kiteFrameReceived (List.replicate 128 0) true 0).wf = false := by decide +kernel

/-! ### The queue -/

/-- The front command runs and leaves the queue. -/
theorem test_front : (match step { up with pending := [.luffWake, .latch] } with
    | .next t => t.pending | _ => []) = [.latch] := by decide +kernel

/-! ### Reset and life cycle (chapter 3) -/

/-- The example of chapter 3: after power-up and the change to Sealed, P1010 reads 41h. -/
theorem test_sealed_cause :
    (after { State.reset with power := { State.reset.power with lifeChange := some 1 } } .fuseProgrammingDone).rd
      P.ResetCause 0 = 0x41 := by decide +kernel

/-- R65: either fuse of a state's pair counts as the pair, so a change cut short leaves the more restrictive state. -/
theorem test_one_fuse : fusedState [(false, true), (false, false), (false, false)] = 1 := by decide

/-- A brownout of the core supply's neighbour sets its own bit of P1012 alone (Table 3.1, R57). -/
theorem test_brownout_rail : (after up (.brownout 0)).rd P.BrownoutRails 0 = 0x800 := by decide +kernel

/-! ### The dictionary and WDP (chapter 5) -/

/-- The request and the response that the example of chapter 5 prints for P9104.3F. -/
theorem test_wdp_example :
    ((up.wr P.RxFcsErrorCount_P9104 0x3F 0x12A40).request .bosun 0 0 0 1020
      [0x57, 0x44, 0x10, 0, 0, 0, 0, 8, 0, 0, 0, 7, 0, 0, 0, 1, 1, 0, 0x91, 4, 0x3F, 0, 0, 0]).2 =
    some [0x57, 0x44, 0x11, 0, 0, 0, 0, 0x0C, 0, 0, 0, 7, 0, 0, 0, 1, 1, 0, 0x91, 4, 0x3F, 0, 0, 4, 0, 1, 0x2A, 0x40] := by
  decide +kernel

/-- R89: a write below the level answers OK, changes nothing and counts one violation. -/
theorem test_violation :
    let t := after up (.registerWrite ⟨.bosun, 0, 0, 0, {}, 0⟩ 0x2021 0 5)
    t.wdp.answer.status = 0 ∧ t.rd P.DomainNumber 0 = 127 ∧ t.rd P.ViolationCount 0 = 1 := by decide +kernel

/-- R90: a value outside the range (0 to 127) is answered Range and changes nothing. -/
theorem test_range :
    let t := after up (.registerWrite kernel 0x2021 0 128)
    t.wdp.answer.status = 3 ∧ t.rd P.DomainNumber 0 = 127 := by decide +kernel

/-- The CRC-16 of R111 over "123456789" is 29B1h, its published check value. -/
theorem test_crc16 : crc16 [0x31, 0x32, 0x33, 0x34, 0x35, 0x36, 0x37, 0x38, 0x39] = 0x29B1 := by decide +kernel

/-- The example of chapter 5: P9104.3F lies at 4244_10FCh of the window. -/
theorem test_window_address : wordAddr kernel P.RxFcsErrorCount_P9104 (pageWord P.RxFcsErrorCount_P9104 0x3F) = 0x424410FC := by
  decide +kernel

/-! ### Time (chapter 6) -/

/-- The example of chapter 6 at 59.940 Hz (code 8): steps of 16,683,333, 16,683,333 and 16,683,334 ns. -/
theorem test_boundaries :
    (boundary 8 1, boundary 8 2 - boundary 8 1, boundary 8 3 - boundary 8 2, boundary 8 3) =
      (16683333, 16683333, 16683334, 50050000) := by decide

/-- The boundary's remainder addition carries on the third boundary only. -/
theorem test_boundary_carry :
    let g : Grid := { Grid.init with rate := 8, index := 2, t := 33366666, r := 40 }
    let t := after ((up.setBit P.TimeStatus 0 1 true).setGrid g) .gridBoundary
    t.halyard.grid.t = 50050000 ∧ t.halyard.grid.r = 0 ∧ t.halyard.grid.index = 3 := by decide +kernel

/-- R119: the wrap sets WrapPending and interrupts DC0. -/
theorem test_wrap :
    let s := { up with halyard := { up.halyard with acc := 0xFFFFFFFFFFFFFFFFFF } }
    let t := after s .tnsWrap
    t.bit P.TimeStatus 0 0 = true ∧ (t.core 0).irqPending.getLsbD Irq.wrap = true ∧ t.tns.toNat < 3 := by
  decide +kernel

/-- R9 at its edges: 2^31 - 1 ahead is future, 2^31 and 0 are due. -/
theorem test_t32 : future 0x7FFFFFFF 0 = true ∧ due 0x80000000 0 = true ∧ due 7 7 = true := by decide

/-! ### Cues (chapter 8) -/

/-- A header with End set is a cue of one word and enters the queue (R180, R182). -/
theorem test_cue_admitted : (after up (.cueWrite kernel [0xC000000000000000] false)).cue.queue.length = 1 := by decide +kernel

/-! ### Canvas and colour (chapters 9 and 11) -/

/-- The blank at 119.880 Hz with the default 2 % is 166,833 ns (example of chapter 9). -/
theorem test_blank : (up.setGrid { Grid.init with rate := 0x0D }).blank = 166833 := by decide +kernel

/-- Table 11.4, frame k: x is 131,070 and the target scale 32,768. -/
theorem test_envelope_limit :
    loadOf 1638400000 (5000000 * 65535) 40400 = 131070 ∧
    targetScale 57344 1638400000 (5000000 * 65535) 40400 = (32768, false) := by decide +kernel

/-- Table 11.4, frame k + 9: the knee removes 2,048 of 65,536. -/
theorem test_envelope_knee : targetScale 57344 1638400000 (5000000 * 32768) 40400 = (63488, false) := by decide +kernel

/-- Table 11.4, frame k + 1: the scale rises by ReleaseStep 4,096. -/
theorem test_release : appliedScale 65536 32768 4096 = 36864 := by decide

/-! ### Trim (chapter 15) -/

/-- Table 15.3: the first sweep's corrections of sinks 7, 30 and 41 from codes of 32 with M = 10,012 µA. -/
theorem test_trim_codes :
    (32 - roundAway ((10214 - 10012) * 2000) (3 * 10012), 32 - roundAway ((9851 - 10012) * 2000) (3 * 10012),
     32 - roundAway ((10020 - 10012) * 2000) (3 * 10012)) = ((19 : Int), (43 : Int), (31 : Int)) := by decide

/-! ### Capstan (chapter 18) -/

/-- The thread store of the example of Table 18.10: 17 with Priority 20 and Affinity Ch, bound to event 0, Dormant. -/
def dusk : State :=
  let s := up.wr P.PreemptFloor 0 8
  let s := s.setThread 17 { Thread.init with state := .dormant, priority := 20, affinity := 0xC, event := 0x10 }
  let s := s.setThread 226 { Thread.init with state := .running, priority := 12, affinity := 0xF }
  let s := s.setThread 40 { Thread.init with state := .running, priority := 25, affinity := 0xF }
  let s := s.setCore 2 { s.core 2 with running := some 226 }
  s.setCore 3 { s.core 3 with running := some 40 }

/-- Table 18.10 at 5.0 and 7.5 ns: the event puts 17 into DC2's slot and Preempt is pending at DC2. -/
theorem test_dispatch :
    let t := after dusk (.capstanEvent 0x10)
    (t.thread 17).state = .slotted ∧ (t.core 2).slot = some 17 ∧ (t.core 2).irqPending.getLsbD Irq.preempt = true := by
  decide +kernel

/-- R387: a semaphore answers 0 to the first taker and is then held. -/
theorem test_semaphore :
    let t := after up (.semaphoreTake 1 5)
    (after t (.semaphoreTake 0 5)).wdp.answer.data ≠ t.wdp.answer.data := by decide +kernel

/-! ### Memory's canonical form -/

/-- A byte written back to zero leaves no entry. -/
theorem test_dram_zero : ((up.setDram 0x80000000 [1, 2]).setDram 0x80000000 [0, 0]).dram = [] := by decide +kernel

/-! ### Published check values of the algorithms the spec names -/

/-- SHA-256 of "abc" (FIPS 180-4), its first word. -/
theorem test_sha256 : (sha256 [0x61, 0x62, 0x63]).take 4 = [0xBA, 0x78, 0x16, 0xBF] := by decide +kernel

/-- HMAC-SHA-256 of RFC 4231, case 2, its first word. -/
theorem test_hmac :
    (hmac [0x4A, 0x65, 0x66, 0x65]
      [0x77, 0x68, 0x61, 0x74, 0x20, 0x64, 0x6F, 0x20, 0x79, 0x61, 0x20, 0x77, 0x61, 0x6E, 0x74, 0x20, 0x66, 0x6F, 0x72,
       0x20, 0x6E, 0x6F, 0x74, 0x68, 0x69, 0x6E, 0x67, 0x3F]).take 4 = [0x5B, 0xDC, 0xC1, 0x46] := by decide +kernel

/-- The CRC-32 check value over "123456789". -/
theorem test_crc32 : crc32 [0x31, 0x32, 0x33, 0x34, 0x35, 0x36, 0x37, 0x38, 0x39] = 0xCBF43926 := by decide +kernel

/-- AES-128 of FIPS 197, appendix C.1. -/
theorem test_aes :
    aes128 ((List.range 16).map (fun i => BitVec.ofNat 8 i)) ((List.range 16).map (fun i => BitVec.ofNat 8 (0x11 * i))) =
      [0x69, 0xC4, 0xE0, 0xD8, 0x6A, 0x7B, 0x04, 0x30, 0xD8, 0xCD, 0xB7, 0x80, 0x70, 0xB4, 0xC5, 0x5A] := by
  decide +kernel

/-! ### Single steps of further families -/

/-- R57: the reset pin's cause joins PowerOn in P1010 (Table 3.5, bit 1). -/
theorem test_reset_pin : (after up .resetPin).rd P.ResetCause 0 = 3 := by decide +kernel

/-- R147: a frame of 63 bytes is a runt, whatever its FCS. -/
theorem test_runt :
    let t := after (up.setBit P.StayStatus 0 0 true) (.stayFrameReceived 0 ⟨63, false, .own, none, false, .other, 0, 0, 0⟩)
    t.rd P.RxRuntCount_P3024 0 = 1 ∧ t.rd P.RxFcsErrorCount_P3026 0 = 0 := by decide +kernel

/-- R359: 1 follows 127, and 64 outranks 1 while 65 does not. -/
theorem test_epochs : nextEpoch (some 127) = 1 ∧ epochAbove 64 1 true = true ∧ epochAbove 65 1 true = false := by decide +kernel

/-- R424, R420: a firmware entry stands first in the ring, with its code, and P-F200 TroubleIndex counts it. -/
theorem test_trouble_write :
    let t := after up (.troubleWrite 1 0x12 3 0x0102 7 8)
    (t.trouble.ring.map (·.code)).head? = some 0x0102 ∧ t.rd P.TroubleIndex 0 = up.rd P.TroubleIndex 0 + 1 := by
  decide +kernel

/-- R398: a copy of four bytes from SRAM offset 0 to DRAM. -/
theorem test_bt_copy :
    let s := up.setSram 0x10000000 [1, 2, 3, 4]
    (after s (.btCopy 0 0x10000000 4 0x80000000 0 true)).getDram 0x80000000 4 = [1, 2, 3, 4] := by decide +kernel

/-! ### What the statements assume can be met, clause by clause -/

/-- The row of P0022. -/
def confirmRow : Row :=
  ⟨0x22, .u32, .wo, 1, 0, 1, 0, 4294967295, 0xFFFFFFFF, 0, 0, false, false, false, .none, 0⟩

theorem row_confirm : Dict.row P.LifeCycleConfirm = some confirmRow := by decide +kernel

/-- A life-cycle request of a session of a path awaits its confirm. -/
def confirming (path : Path) (session : Fin 17) : State :=
  { up with power := { up.power with lifeRequest := some (1, path, session) } }

/-- Any word may be written to P0022 where the kernel's access is carried and permitted. -/
theorem grants_confirm (s : State)
    (a : (s.pathServes kernel && s.sessionOk kernel && !s.storeFaults kernel P.LifeCycleConfirm 0 &&
      s.permits kernel P.LifeCycleConfirm && !s.notActive (s.via kernel) confirmRow &&
      decide (40 ≤ s.responseLimit kernel)) = true) (v : Word) :
    s.grants kernel P.LifeCycleConfirm 0 v.toNat = true := by
  have h := v.isLt
  simp only [Bool.and_eq_true] at a
  obtain ⟨⟨⟨⟨⟨a1, a2⟩, a3⟩, a4⟩, a5⟩, a6⟩ := a
  have b : s.valueOk confirmRow 0 v.toNat = true := by
    have e : s.valueOk confirmRow 0 v.toNat =
        (decide ((0 : Int) ≤ v.toNat) && decide ((v.toNat : Int) ≤ 4294967295) && true && true && true) := rfl
    simp only [e, Bool.and_true, Bool.and_eq_true, decide_eq_true_eq]
    omega
  have c : s.clonesAfter P.LifeCycleConfirm [(0, v.toNat)] = true := rfl
  have d : decide (v.toNat < 2 ^ (8 * confirmRow.ty.bytes)) = true := decide_eq_true h
  have w : writable confirmRow 0 = true := by decide
  simp only [State.grants, row_confirm, a1, a2, a3, a4, a5, a6, b, c, d, w, Bool.and_self]

theorem witness_FullResets :
  (∃ (s : State) (rail : Fin 12), s.power.phase ≠ .unpowered ∧ s.power.phase ≠ .struck ∧ rail ≠ 11 ∧ s.fusing = false) ∧
  (∃ (s : State), s.power.phase ≠ .unpowered ∧ s.power.phase ≠ .struck ∧ s.fusing = false) ∧
  (∃ (s : State), s.power.phase ≠ .unpowered ∧ s.inClock.watchdog = .running ∧ s.fusing = false) ∧
  (∃ (s : State) (source : HardClock) (n : Nat), s.power.phase ≠ .unpowered ∧ s.fusing = false ∧
    HardClock.bit source = some n ∧ s.bit P.PllLockStatus 0 n = true) ∧
  (∃ (s : State), s.power.phase ≠ .unpowered ∧ s.fusing = false ∧ s.referenceRuns = true) ∧
  (∃ (s : State) (source : HardClock) (n : Byte) (b : Nat), s.power.phase ≠ .unpowered ∧ s.fusing = true ∧
    s.power.lifeChange = some n ∧ 1 ≤ n.toNat ∧ n.toNat ≤ 3 ∧ HardClock.bit source = some b ∧
    s.bit P.PllLockStatus 0 b = true) ∧
  (∃ (s : State), s.power.phase ≠ .unpowered ∧ s.inClock.resetPending = true ∧ s.fusing = false) ∧
  (∃ (s : State), s.power.phase = .struck) :=
  ⟨
   ⟨up, 0, by decide +kernel⟩,
   ⟨up, by decide +kernel⟩,
   ⟨up, by decide +kernel⟩,
   ⟨(up.wr P.PllLockStatus 0 0x7F), HardClock.cpll, 6, by decide +kernel⟩,
   ⟨up, by decide +kernel⟩,
   ⟨(let n : Byte := 2
     let s : State := up
     let s : State := ({ s with power := { s.power with lifeChange := some n } }).wr P.PllLockStatus 0 0x7F
     s),
    HardClock.cpll, 2, 6, by decide +kernel⟩,
   ⟨{ up with power := { up.power with resetPending := true } }, by decide +kernel⟩,
   ⟨{ up with power := { up.power with phase := .struck } }, by decide +kernel⟩⟩

theorem witness_SupplyAndLifeCycleChange :
  (∃ (s : State), s.fusing = false) ∧
  (∃ (s : State) (n : Byte), s.inClock.lifeChange = some n) ∧
  (∃ (s : State), s.power.phase ≠ .unpowered ∧ s.power.phase ≠ .struck ∧ s.fusing = true) ∧
  (∃ (s : State), s.power.phase ≠ .unpowered ∧ s.inClock.watchdog = .running ∧ s.fusing = true) ∧
  (∃ (s : State), s.power.phase = .erasing) :=
  ⟨
   ⟨up, by decide +kernel⟩,
   ⟨(let n : Byte := 1
     let s : State := up
     let s : State := { s with now := ThisClock.init, power :=
                                 { s.power with lifeChange := some n, deferredCauses := 0x0A } }
     s),
    1, by decide +kernel⟩,
   ⟨{ up with power := { up.power with lifeChange := some 2 } }, by decide +kernel⟩,
   ⟨{ up with power := { up.power with lifeChange := some 2 } }, by decide +kernel⟩,
   ⟨{ up with power := { up.power with phase := .erasing } }, by decide +kernel⟩⟩

theorem witness_BootSequence :
  (∃ (s : State) (straps : Straps), s.power.phase = .held ∧ straps.testEn = false ∧ s.lifeCycle ≠ 3) ∧
  (∃ (s : State) (straps : Straps), s.power.phase = .held ∧ straps.testEn = false ∧ s.lifeCycle = 3) ∧
  (∃ (_s : State) (straps : Straps), straps.testEn = true) ∧
  (∃ (s : State), s.power.phase = .boot) ∧
  (∃ (s : State), s.power.phase = .boot) ∧
  (∃ (s : State), s.power.phase = .boot ∧ s.power.boot.dramTrained = true) ∧
  (∃ (s : State) (i : Fin 2) (rest : List (Fin 2)), s.power.phase = .boot ∧ s.power.boot.sramWiped = true ∧
    s.power.boot.imageChecked = false ∧ s.slotOrder = i :: rest ∧ (s.slotOf i).code = 3 ∧
    s.verifyStep (s.slotOf i) = 0) ∧
  (∃ (s : State) (i : Fin 2) (rest : List (Fin 2)), s.power.phase = .boot ∧ s.power.boot.sramWiped = true ∧
    s.power.boot.imageChecked = false ∧ s.slotOrder = i :: rest ∧ (s.slotOf i).code = 1 ∧
    s.verifyStep (s.slotOf i) = 0) ∧
  (∃ (s : State), s.power.phase = .boot ∧ s.power.boot.sramWiped = true ∧ s.power.boot.imageChecked = false ∧
    s.power.boot.image = none ∧ s.slotOrder = []) ∧
  (∃ (s : State), s.power.phase = .boot ∧ s.power.boot.image.isSome = true ∧ s.power.boot.dramWiped = true) ∧
  (∃ (s : State), s.power.phase = .boot ∧ s.power.boot.handed = true ∧ s.power.boot.settingsApplied = false ∧
    s.newerBank = none) ∧
  (∃ (s : State), s.power.phase = .boot ∧ s.power.boot.settingsApplied = true) :=
  ⟨
   ⟨{ up with power := { up.power with phase := .held } },
       { unitB := true, bosunA1 := true, bosunA0 := true, testEn := false }, by decide +kernel⟩,
   ⟨{ up with power := { up.power with phase := .held }, nv :=
                { up.nv with fuses := [(true,false),(false,true),(true,false)] } },
       { unitB := true, bosunA1 := true, bosunA0 := true, testEn := false }, by decide +kernel⟩,
   ⟨up, { unitB := false, bosunA1 := false, bosunA0 := true, testEn := true }, by decide +kernel⟩,
   ⟨{ up with power := { up.power with phase := .boot } }, by decide +kernel⟩,
   ⟨{ up with power := { up.power with phase := .boot } }, by decide +kernel⟩,
   ⟨{ up with power := { up.power with phase := .boot, boot := { up.power.boot with dramTrained := true } } },
       by decide +kernel⟩,
   ⟨(let s : State := up
     let img : List Byte := [0x31, 0x4D, 0x49, 0x5A, 1, 0, 1, 0, 0, 0, 0, 0, 0, 0, 0, 0]
     let img : List Byte := img ++ sha256 img ++ List.replicate 208 0
     let s : State := { s with nv := { s.nv with fuses := [], keyHash := none, slotA := { Slot.empty with generation
                                                                                                            := 1,
                                                                                                          written :=
                                                                                                            0, trial
                                                                                                            := 0,
                                                                                                          confirmed :=
                                                                                                            0, image
                                                                                                            := img },
                                                 slotB := Slot.empty } }
     let s : State := { s with power := { s.power with phase := .boot, boot := { s.power.boot with sramWiped := true,
                                                                                                   imageChecked :=
                                                                                                     false, image :=
                                                                                                     none } } }
     s),
    0, [], by decide +kernel⟩,
   ⟨(let s : State := up
     let s : State := { s with power := { s.power with phase := .boot, boot := { s.power.boot with sramWiped := true,
                                                                                                   imageChecked :=
                                                                                                     false, image :=
                                                                                                     none } }, nv := {
         s.nv with slotA := { s.nv.slotA with confirmed := 0xFFFFFFFF, trial := 0xFFFFFFFF } } }
     let img : List Byte := [0x31, 0x4D, 0x49, 0x5A, 1, 0, 1, 0, 0, 0, 0, 0, 0, 0, 0, 0]
     let img : List Byte := img ++ sha256 img ++ List.replicate 208 0
     let s : State := { s with nv := { s.nv with fuses := [], keyHash := none, slotA :=
                                                   { Slot.empty with generation := 1, written := 0, image := img },
                                                 slotB := Slot.empty } }
     s),
    0, [], by decide +kernel⟩,
   ⟨{ up with power := { up.power with phase := .boot, boot := { up.power.boot with sramWiped := true, imageChecked :=
                                                                                      false, image := none } }, nv :=
                { up.nv with slotA := Slot.empty, slotB := Slot.empty } }, by decide +kernel⟩,
   ⟨{ up with power := { up.power with phase := .boot, boot :=
                                         { up.power.boot with image := some 0, dramWiped := true } } },
       by decide +kernel⟩,
   ⟨{ up with power := { up.power with phase := .boot, boot :=
                                         { up.power.boot with handed := true, settingsApplied := false } } },
       by decide +kernel⟩,
   ⟨{ up with power := { up.power with phase := .boot, boot := { up.power.boot with settingsApplied := true } } },
       by decide +kernel⟩⟩

theorem witness_ResetAndLifeCycleRequests :
  (∃ (s : State) (rq : Requester) (value : Word), s.grants rq P.WatchdogService 0 (value.toNat) = true) ∧
  (∃ (s : State) (rq : Requester), s.grants rq P.ResetRequest 0 (0xA55A) = true ∧ s.inTransition = false ∧
    s.power.resetPending = false ∧ s.sheet.stopping = false) ∧
  (∃ (s : State) (rq : Requester) (value : Word), s.grants rq P.ResetRequest 0 (value.toNat) = true ∧
    (value ≠ 0xA55A ∨ s.inTransition = true ∨ s.power.resetPending = true)) ∧
  (∃ (s : State) (rq : Requester) (target : Byte), s.grants rq P.LifeCycleRequest 0 (target.toNat) = true ∧
    s.power.lifeChange = none ∧ (s.arbitrate rq).taken Res.flash = false ∧
    s.lifePermitted target.toNat (s.level rq) = true) ∧
  (∃ (s : State) (rq : Requester) (target : Byte), s.grants rq P.LifeCycleRequest 0 (target.toNat) = true ∧
    (s.power.lifeChange.isSome = true ∨ (s.arbitrate rq).taken Res.flash = true ∨ s.lifePermitted target.toNat
    (s.level rq) = false)) ∧
  (∃ (s : State) (rq : Requester) (target : Byte) (value : Word), s.grants rq P.LifeCycleConfirm 0 (value.toNat) =
    true ∧ s.power.lifeRequest = some (target, rq.path, rq.session) ∧ value = Config.serialNumber.setWidth 32) ∧
  (∃ (s : State) (rq : Requester) (target : Byte) (value : Word) (path : Path) (session : Fin 17), s.grants rq
    P.LifeCycleConfirm 0 (value.toNat) = true ∧ s.power.lifeRequest = some (target, path, session) ∧
    value ≠ Config.serialNumber.setWidth 32) ∧
  (∃ (s : State) (rq : Requester) (target : Byte) (value : Word) (path : Path) (session : Fin 17), s.grants rq
    P.LifeCycleConfirm 0 (value.toNat) = true ∧ s.power.lifeRequest = some (target, path, session) ∧
    ({ path := path, session := session, addr := 0, udp := 0 } : Requester).mark ≠ rq.mark ∧
    value = Config.serialNumber.setWidth 32) ∧
  (∃ (s : State) (rq : Requester) (value : Word), s.grants rq P.LifeCycleConfirm 0 (value.toNat) = true ∧
    s.power.lifeRequest = none) :=
  ⟨
   ⟨up, { path := Path.window 1 true, session := 0, addr := 0, udp := 0 }, 0xf, by decide +kernel⟩,
   ⟨{ (up.setBit P.PowerStatus 0 3 false) with power := { up.power with resetPending := false } },
       { path := Path.window 1 true, session := 0, addr := 0, udp := 0 }, by decide +kernel⟩,
   ⟨(let value : Word := 0xa55a
     let s : State := up
     let s : State := if value.toNat % 2 = 0 then s.setBit P.PowerStatus 0 3 true else s
     s),
    { path := Path.window 1 true, session := 0, addr := 0, udp := 0 }, 0xa55a, by decide +kernel⟩,
   ⟨up, { path := Path.window 2 true, session := 0, addr := 0, udp := 0 }, 3, by decide +kernel⟩,
   ⟨(let target : Byte := 1
     let s : State := up
     let s : State := if target = 2 then { s with power := { s.power with lifeChange := some 1 } } else s
     s),
    { path := Path.window 1 true, session := 0, addr := 0, udp := 0 }, 1, by decide +kernel⟩,
   ⟨confirming kernel.path kernel.session, kernel, 1,
    Config.serialNumber.setWidth 32, grants_confirm _ (by decide +kernel) _, rfl, rfl⟩,
   ⟨confirming kernel.path kernel.session, kernel, 1,
    Config.serialNumber.setWidth 32 + 1, kernel.path, kernel.session, grants_confirm _ (by decide +kernel) _, rfl, by
      have e : ∀ x : BitVec 32, x + 1 ≠ x := by intro x; bv_omega
      exact e _⟩,
   ⟨confirming (.stay 2) 8, kernel, 1,
    Config.serialNumber.setWidth 32, .stay 2, 8, grants_confirm _ (by decide +kernel) _, rfl, by decide, rfl⟩,
   ⟨{ up with power := { up.power with lifeRequest := none } },
       { path := Path.window 1 true, session := 0, addr := 0, udp := 0 }, 0xf, by decide +kernel⟩⟩

theorem witness_PowerStateRequests :
  (∃ (s : State) (rq : Requester) (value : Word), s.grants rq P.PowerStateRequest 0 (value.toNat) = true ∧
    (value.toNat % 8 = 1 ∨ 5 ≤ value.toNat % 8 ∨ (value.toNat % 8 = 2 ∧ s.rdN P.WakeEnable 0 % 16 = 0) ∨
    (value.toNat % 8 = 3 ∧ s.rdN P.WakeEnable 0 / 4 % 8 = 0))) ∧
  (∃ (s : State) (rq : Requester) (value : Word), s.grants rq P.PowerStateRequest 0 (value.toNat) = true ∧
    s.inTransition = false ∧ value.toNat % 8 ≠ 1 ∧ value.toNat % 8 < 5 ∧
    (value.toNat % 8 = 2 → s.rdN P.WakeEnable 0 % 16 ≠ 0) ∧ (value.toNat % 8 = 3 → s.rdN P.WakeEnable 0 / 4 % 8 ≠ 0)) ∧
  (∃ (s : State) (rq : Requester) (value : Word), s.grants rq P.PowerStateRequest 0 (value.toNat) = true ∧
    s.inTransition = true ∧ value.toNat % 8 ≠ 1 ∧ value.toNat % 8 < 5 ∧
    (value.toNat % 8 = 2 → s.rdN P.WakeEnable 0 % 16 ≠ 0) ∧ (value.toNat % 8 = 3 → s.rdN P.WakeEnable 0 / 4 % 8 ≠ 0)) :=
  ⟨
   ⟨up, { path := Path.window 1 true, session := 0, addr := 0, udp := 0 }, 0xf, by decide +kernel⟩,
   ⟨(let rq : Requester := { path := Path.window 2 true, session := 0, addr := 0, udp := 0 }
     let value : Word := 2
     let s : State := up
     let s : State := s.wr P.WakeEnable 0 (BitVec.ofNat 64 (rq.addr.toNat * 5 + 1))
     let s : State := if value.toNat % 3 = 0 then { s with power := { s.power with phase := .ready, sleep := .luff } }
         else if value.toNat % 3 = 1 then (List.range 4).foldl
         (fun s c => s.setCore c { s.core c with irqEnable := 0, waiting := true })
         { s with power := { s.power with phase := .ready, sleep := .run } } else s
     s),
    { path := Path.window 2 true, session := 0, addr := 0, udp := 0 }, 2, by decide +kernel⟩,
   ⟨(let rq : Requester := { path := Path.window 2 true, session := 0, addr := 0, udp := 0 }
     let s : State := up
     let s : State := (s.wr P.WakeEnable 0 (BitVec.ofNat 64 (rq.addr.toNat * 5 + 1))).setFld P.PowerStatus 0 3 8
         (8*(rq.udp.toNat*16%256)+1)
     s),
    { path := Path.window 2 true, session := 0, addr := 0, udp := 0 }, 2, by decide +kernel⟩⟩

theorem witness_WaitAndLuff :
  (∃ (s : State) (c : Fin 4), s.power.phase = .ready ∧ s.coreRuns c = true ∧ s.irqReady c = true ∧
    (c ≠ 0 ∨ s.fld P.PowerStateRequest 0 0 3 = 0)) ∧
  (∃ (s : State) (c : Fin 4), s.power.phase = .ready ∧ s.coreRuns c = true ∧ s.irqReady c = false ∧
    (c ≠ 0 ∨ s.fld P.PowerStateRequest 0 0 3 = 0) ∧
    (s.bit P.PowerStateRequest 0 3 = false ∨ ¬
    (∀ d < 4, d ≠ c.val → (s.core d).waiting = true ∧ s.irqReady d = false))) ∧
  (∃ (s : State) (target : Nat), s.power.phase = .ready ∧ s.coreRuns 0 = true ∧
    s.fld P.PowerStateRequest 0 0 3 = target ∧ target ≠ 0) ∧
  (∃ (s : State) (c : Fin 4), s.power.phase = .ready ∧ s.coreRuns c = true ∧ s.irqReady c = false ∧
    (c ≠ 0 ∨ s.fld P.PowerStateRequest 0 0 3 = 0) ∧ s.bit P.PowerStateRequest 0 3 = true ∧
    (∀ d < 4, d ≠ c.val → (s.core d).waiting = true ∧ s.irqReady d = false)) ∧
  (∃ (s : State) (c : Fin 4), s.power.phase ≠ .ready ∨ s.coreRuns c = false) ∧
  (∃ (s : State), s.power.sleep = .luff) :=
  ⟨
   ⟨(let c : Fin 4 := 0
     let s : State := up
     let s : State := ({ s with power := { s.power with phase := .ready, sleep := .run } }).setCore c
         { s.core c with irqPending := 3, irqEnable := 2, released := true, clockStopped := false } |>.setFld
         P.PowerStateRequest 0 0 3 0
     s),
    0, by decide +kernel⟩,
   ⟨(let c : Fin 4 := 0
     let s : State := up
     let s : State := ({ s with power := { s.power with phase := .ready, sleep := .run } }).setCore c
         { s.core c with irqEnable := 0, released := true, clockStopped := false }
     let s : State := if c.val % 2 = 0 then (List.range 4).foldl (fun s d =>
         if d = c.val then s else s.setCore d { s.core d with irqPending := 1, irqEnable := 1, waiting := true }) s
         else s
     let s : State := s.wr P.PowerStateRequest 0 8
     s),
    0, by decide +kernel⟩,
   ⟨(let target : Nat := 2
     let s : State := up
     let s : State := ({ s with power := { s.power with phase := .ready, sleep := .run } }).setCore 0
         { s.core 0 with released := true, clockStopped := false } |>.setFld P.PowerStateRequest 0 0 3 target
     s),
    2, by decide +kernel⟩,
   ⟨(let c : Fin 4 := 0
     let s : State := up
     let s : State := (List.range 4).foldl (fun s c =>
         s.setCore c { s.core c with irqEnable := 0, waiting := true, released := true, clockStopped := false })
         (({ s with power := { s.power with phase := .ready, sleep := .run } }).wr P.PowerStateRequest 0 8)
     s),
    0, by decide +kernel⟩,
   ⟨(let c : Fin 4 := 0
     let s : State := up
     let s : State := s.setCore c { s.core c with clockStopped := true }
     s),
    0, by decide +kernel⟩,
   ⟨{ up with power := { up.power with sleep := .luff } }, by decide +kernel⟩⟩

theorem witness_EntryAndAbandonment :
  (∃ (s : State) (target : BitVec 3) (point : Fin 5) (ap : Nat), s.power.phase = .ready ∧
    s.power.sleep = .entering target ap ∧ point.val = ap + 1 ∧ 2 ≤ ap ∧ s.power.wakeLatch = none) ∧
  (∃ (s : State) (target : BitVec 3), s.power.phase = .ready ∧ s.power.sleep = .entering target 0 ∧
    s.power.wakeLatch = none) ∧
  (∃ (s : State) (target : BitVec 3), s.power.phase = .ready ∧ s.power.sleep = .entering target 1 ∧
    s.power.wakeLatch = none) ∧
  (∃ (s : State) (target : BitVec 3) (point : Fin 5) (ap : Nat) (w : WakeSource), s.power.phase = .ready ∧
    s.power.sleep = .entering target ap ∧ point.val = ap + 1 ∧ s.power.wakeLatch = some w) ∧
  (∃ (s : State), s.power.sleep = .entering 4 4 ∧ s.power.wakeLatch = none) ∧
  (∃ (s : State) (w : WakeSource), s.power.sleep = .entering 4 4 ∧ s.power.wakeLatch = some w) ∧
  (∃ (s : State) (target : BitVec 3) (other : Bool), s.power.sleep = .entering target 4 ∧ (target = 2 ∨ target = 3) ∧
    other = (s.bit P.PowerStatus 0 10 && decide (s.fld P.PowerStatus 0 7 3 ≠ target.toNat))) :=
  ⟨
   ⟨(let target : BitVec 3 := 2
     let ap : Nat := 2
     let s : State := up
     let s : State := { s with power :=
                                 { s.power with phase := .ready, sleep := .entering target ap, wakeLatch := none } }
     s),
    2, 3, 2, by decide +kernel⟩,
   ⟨(let target : BitVec 3 := 2
     let s : State := up
     let s : State := { s with power :=
                                 { s.power with phase := .ready, sleep := .entering target 0, wakeLatch := none } }
     s),
    2, by decide +kernel⟩,
   ⟨(let target : BitVec 3 := 2
     let s : State := up
     let s : State := { s with power :=
                                 { s.power with phase := .ready, sleep := .entering target 1, wakeLatch := none } }
     s),
    2, by decide +kernel⟩,
   ⟨(let target : BitVec 3 := 2
     let ap : Nat := 0
     let w : WakeSource := WakeSource.kite
     let s : State := up
     let s : State := { s with power :=
                                 { s.power with phase := .ready, sleep := .entering target ap, wakeLatch := some w } }
     s),
    2, 1, 0, WakeSource.kite, by decide +kernel⟩,
   ⟨{ up with power := { up.power with phase := .ready, sleep := .entering 4 4, wakeLatch := none } },
       by decide +kernel⟩,
   ⟨(let w : WakeSource := WakeSource.shroudPattern 16
     let s : State := up
     let s : State := { s with power := { s.power with phase := .ready, sleep := .entering 4 4, wakeLatch := some w }
                                 }
     s),
    (WakeSource.shroudPattern 16), by decide +kernel⟩,
   ⟨(let target : BitVec 3 := 2
     let s : State := up
     let s : State := { s with power := { s.power with phase := .ready, sleep := .entering target 4 } }
     let s : State := if s.clock % 2 = 0 then (s.setBit P.PowerStatus 0 10 true).setFld P.PowerStatus 0 7 3
         (s.clock / 2 % 4) else s
     s),
    2, true, by decide +kernel⟩⟩

theorem witness_WakeEvents :
  (∃ (s : State) (target : BitVec 3) (ap : Nat), s.power.sleep = .entering target ap ∧
    (target = 4 ∨ (s.bit P.WakeEnable 0 3 = true ∧ (target = 2 ∨ target = 3)))) ∧
  (∃ (s : State), (s.power.sleep = .reefed ∨ s.power.sleep = .furled) ∧ s.bit P.WakeEnable 0 3 = true) ∧
  (∃ (s : State), s.power.sleep = .run ∨ s.power.sleep = .luff ∨ (∃ f, s.power.sleep = .waking f) ∨
    ((s.power.sleep = .reefed ∨ s.power.sleep = .furled) ∧ s.bit P.WakeEnable 0 3 = false)) ∧
  (∃ (s : State), s.power.sleep = .furled ∧ s.bit P.WakeEnable 0 4 = true ∧ s.rtcRuns = true ∧
    s.rdN P.RtcAlarm 0 ≤ s.rdN P.RtcCount 0) ∧
  (∃ (s : State) (ap : Nat), s.power.sleep = .entering 3 ap ∧ s.bit P.WakeEnable 0 4 = true ∧ s.rtcRuns = true ∧
    s.rdN P.RtcAlarm 0 ≤ s.rdN P.RtcCount 0) ∧
  (∃ (s : State), s.rtcRuns = false ∨ s.rdN P.RtcCount 0 < s.rdN P.RtcAlarm 0 ∨ s.power.sleep = .reefed ∨
    s.power.sleep = .run ∨ s.power.sleep = .luff ∨ s.bit P.WakeEnable 0 4 = false) ∧
  (∃ (s : State), s.power.phase = .ready ∧ (s.power.sleep = .reefed ∨ s.power.sleep = .furled) ∧
    s.bit P.WakeEnable 0 2 = true) ∧
  (∃ (s : State), s.power.phase = .ready ∧ (s.power.sleep = .reefed ∨ s.power.sleep = .furled) ∧
    s.bit P.WakeEnable 0 2 = false) ∧
  (∃ (s : State) (f : Bool), s.power.phase = .ready ∧ s.power.sleep = .waking f) ∧
  (∃ (s : State), s.power.sleep = .run ∨ s.power.sleep = .luff) ∧
  (∃ (s : State) (furled : Bool), s.power.sleep = .waking furled ∧ s.power.heldTransfer = none) ∧
  (∃ (s : State) (furled : Bool) (bytes : List Byte), s.power.sleep = .waking furled ∧
    s.power.heldTransfer = some bytes ∧ 1024 < bytes.length ∧ beNat (sliceBytes bytes 8 4) = 0) :=
  ⟨
   ⟨(let target : BitVec 3 := 2
     let ap : Nat := 1
     let s : State := up
     let s : State := { (s.wr P.WakeEnable 0 8) with power :=
                                                       { s.power with phase := .ready, sleep := .entering target ap }
                                                       }
     s),
    2, 1, by decide +kernel⟩,
   ⟨(let x : Bool := false
     let s : State := up
     let s : State := { (s.wr P.WakeEnable 0 15) with power := { s.power with phase := .ready, sleep := if x then
                                                                                .reefed else .furled } }
     s),
    by decide +kernel⟩,
   ⟨(up.wr P.WakeEnable 0 0), by decide +kernel⟩,
   ⟨{ ((up.wr P.WakeEnable 0 31).wr P.RtcAlarm 0 0) with power := { up.power with phase := .ready, sleep := .furled }
                                                           }, by decide +kernel⟩,
   ⟨(let ap : Nat := 0
     let s : State := up
     let s : State := { ((s.wr P.WakeEnable 0 31).wr P.RtcAlarm 0 0) with power := { s.power with phase := .ready,
                                                                                                  sleep := .entering 3
                                                                                                    ap } }
     s),
    0, by decide +kernel⟩,
   ⟨{ up with power := { up.power with phase := .ready } }, by decide +kernel⟩,
   ⟨(let x : Bool := false
     let s : State := up
     let s : State := { (s.wr P.WakeEnable 0 15) with power := { s.power with phase := .ready, sleep := if x then
                                                                                .reefed else .furled } }
     s),
    by decide +kernel⟩,
   ⟨(let x : Bool := false
     let s : State := up
     let s : State := { (s.wr P.WakeEnable 0 0) with power := { s.power with phase := .ready, sleep := if x then
                                                                               .reefed else .furled } }
     s),
    by decide +kernel⟩,
   ⟨(let f : Bool := false
     let s : State := up
     let s : State := { (s.wr P.BosunWakeMode 0 (BitVec.ofNat 64 f.toNat)) with power := { s.power with phase :=
                                                                                                          .ready,
                                                                                                        sleep :=
                                                                                                          .waking f }
                                                                                  }
     s),
    false, by decide +kernel⟩,
   ⟨up, by decide +kernel⟩,
   ⟨(let furled : Bool := false
     let s : State := up
     let s : State := { s with power :=
                                 { s.power with phase := .ready, sleep := .waking furled, heldTransfer := none } }
     s),
    false, by decide +kernel⟩,
   ⟨(let furled : Bool := false
     let bytes : List Byte := [0, 0, 0, 0, 0, 0, 0, 0, 0, 0, 0, 0, 0, 0, 0, 0, 0, 0, 0, 0, 0, 0, 0, 0, 0, 0, 0, 0, 0,
         0, 0, 0, 0, 0, 0, 0, 0, 0, 0, 0, 0, 0, 0, 0, 0, 0, 0, 0, 0, 0, 0, 0, 0, 0, 0, 0, 0, 0, 0, 0, 0, 0, 0, 0, 0,
         0, 0, 0, 0, 0, 0, 0, 0, 0, 0, 0, 0, 0, 0, 0, 0, 0, 0, 0, 0, 0, 0, 0, 0, 0, 0, 0, 0, 0, 0, 0, 0, 0, 0, 0, 0,
         0, 0, 0, 0, 0, 0, 0, 0, 0, 0, 0, 0, 0, 0, 0, 0, 0, 0, 0, 0, 0, 0, 0, 0, 0, 0, 0, 0, 0, 0, 0, 0, 0, 0, 0, 0,
         0, 0, 0, 0, 0, 0, 0, 0, 0, 0, 0, 0, 0, 0, 0, 0, 0, 0, 0, 0, 0, 0, 0, 0, 0, 0, 0, 0, 0, 0, 0, 0, 0, 0, 0, 0,
         0, 0, 0, 0, 0, 0, 0, 0, 0, 0, 0, 0, 0, 0, 0, 0, 0, 0, 0, 0, 0, 0, 0, 0, 0, 0, 0, 0, 0, 0, 0, 0, 0, 0, 0, 0,
         0, 0, 0, 0, 0, 0, 0, 0, 0, 0, 0, 0, 0, 0, 0, 0, 0, 0, 0, 0, 0, 0, 0, 0, 0, 0, 0, 0, 0, 0, 0, 0, 0, 0, 0, 0,
         0, 0, 0, 0, 0, 0, 0, 0, 0, 0, 0, 0, 0, 0, 0, 0, 0, 0, 0, 0, 0, 0, 0, 0, 0, 0, 0, 0, 0, 0, 0, 0, 0, 0, 0, 0,
         0, 0, 0, 0, 0, 0, 0, 0, 0, 0, 0, 0, 0, 0, 0, 0, 0, 0, 0, 0, 0, 0, 0, 0, 0, 0, 0, 0, 0, 0, 0, 0, 0, 0, 0, 0,
         0, 0, 0, 0, 0, 0, 0, 0, 0, 0, 0, 0, 0, 0, 0, 0, 0, 0, 0, 0, 0, 0, 0, 0, 0, 0, 0, 0, 0, 0, 0, 0, 0, 0, 0, 0,
         0, 0, 0, 0, 0, 0, 0, 0, 0, 0, 0, 0, 0, 0, 0, 0, 0, 0, 0, 0, 0, 0, 0, 0, 0, 0, 0, 0, 0, 0, 0, 0, 0, 0, 0, 0,
         0, 0, 0, 0, 0, 0, 0, 0, 0, 0, 0, 0, 0, 0, 0, 0, 0, 0, 0, 0, 0, 0, 0, 0, 0, 0, 0, 0, 0, 0, 0, 0, 0, 0, 0, 0,
         0, 0, 0, 0, 0, 0, 0, 0, 0, 0, 0, 0, 0, 0, 0, 0, 0, 0, 0, 0, 0, 0, 0, 0, 0, 0, 0, 0, 0, 0, 0, 0, 0, 0, 0, 0,
         0, 0, 0, 0, 0, 0, 0, 0, 0, 0, 0, 0, 0, 0, 0, 0, 0, 0, 0, 0, 0, 0, 0, 0, 0, 0, 0, 0, 0, 0, 0, 0, 0, 0, 0, 0,
         0, 0, 0, 0, 0, 0, 0, 0, 0, 0, 0, 0, 0, 0, 0, 0, 0, 0, 0, 0, 0, 0, 0, 0, 0, 0, 0, 0, 0, 0, 0, 0, 0, 0, 0, 0,
         0, 0, 0, 0, 0, 0, 0, 0, 0, 0, 0, 0, 0, 0, 0, 0, 0, 0, 0, 0, 0, 0, 0, 0, 0, 0, 0, 0, 0, 0, 0, 0, 0, 0, 0, 0,
         0, 0, 0, 0, 0, 0, 0, 0, 0, 0, 0, 0, 0, 0, 0, 0, 0, 0, 0, 0, 0, 0, 0, 0, 0, 0, 0, 0, 0, 0, 0, 0, 0, 0, 0, 0,
         0, 0, 0, 0, 0, 0, 0, 0, 0, 0, 0, 0, 0, 0, 0, 0, 0, 0, 0, 0, 0, 0, 0, 0, 0, 0, 0, 0, 0, 0, 0, 0, 0, 0, 0, 0,
         0, 0, 0, 0, 0, 0, 0, 0, 0, 0, 0, 0, 0, 0, 0, 0, 0, 0, 0, 0, 0, 0, 0, 0, 0, 0, 0, 0, 0, 0, 0, 0, 0, 0, 0, 0,
         0, 0, 0, 0, 0, 0, 0, 0, 0, 0, 0, 0, 0, 0, 0, 0, 0, 0, 0, 0, 0, 0, 0, 0, 0, 0, 0, 0, 0, 0, 0, 0, 0, 0, 0, 0,
         0, 0, 0, 0, 0, 0, 0, 0, 0, 0, 0, 0, 0, 0, 0, 0, 0, 0, 0, 0, 0, 0, 0, 0, 0, 0, 0, 0, 0, 0, 0, 0, 0, 0, 0, 0,
         0, 0, 0, 0, 0, 0, 0, 0, 0, 0, 0, 0, 0, 0, 0, 0, 0, 0, 0, 0, 0, 0, 0, 0, 0, 0, 0, 0, 0, 0, 0, 0, 0, 0, 0, 0,
         0, 0, 0, 0, 0, 0, 0, 0, 0, 0, 0, 0, 0, 0, 0, 0, 0, 0, 0, 0, 0, 0, 0, 0, 0, 0, 0, 0, 0, 0, 0, 0, 0, 0, 0, 0,
         0, 0, 0, 0, 0, 0, 0, 0, 0, 0, 0, 0, 0, 0, 0, 0, 0, 0, 0, 0, 0, 0, 0, 0, 0, 0, 0, 0, 0, 0, 0, 0, 0, 0, 0, 0,
         0, 0, 0, 0, 0, 0, 0, 0, 0, 0, 0, 0, 0, 0, 0, 0, 0, 0, 0, 0, 0, 0, 0, 0, 0, 0, 0, 0, 0, 0, 0, 0, 0, 0, 0, 0,
         0, 0, 0, 0, 0, 0, 0, 0, 0, 0, 0, 0, 0, 0, 0, 0, 0, 0, 0, 0, 0, 0, 0, 0, 0, 0, 0, 0, 0, 0, 0, 0, 0, 0, 0, 0,
         0, 0, 0, 0, 0, 0, 0, 0, 0, 0, 0, 0, 0, 0, 0, 0, 0, 0, 0, 0, 0, 0, 0, 0, 0, 0, 0, 0, 0, 0, 0, 0, 0, 0, 0, 0,
         0, 0, 0, 0, 0, 0, 0, 0, 0, 0, 0, 0, 0, 0, 0, 0, 0, 0, 0, 0, 0, 0, 0, 0, 0, 0, 0, 0, 0, 0, 0, 0, 0, 0, 0, 0,
         0, 0, 0, 0, 0, 0, 0, 0, 0, 0, 0, 0, 0, 0, 0, 0, 0, 0, 0, 0, 0, 0, 0, 0, 0, 0, 0, 0, 0]
     let s : State := up
     let s : State := { s with power :=
                                 { s.power with phase := .ready, sleep := .waking furled, heldTransfer := some bytes }
                                 }
     s),
    false, [0, 0, 0, 0, 0, 0, 0, 0, 0, 0, 0, 0, 0, 0, 0, 0, 0, 0, 0, 0, 0, 0, 0, 0, 0, 0, 0, 0, 0, 0, 0, 0, 0, 0, 0,
      0, 0, 0, 0, 0, 0, 0, 0, 0, 0, 0, 0, 0, 0, 0, 0, 0, 0, 0, 0, 0, 0, 0, 0, 0, 0, 0, 0, 0, 0, 0, 0, 0, 0, 0, 0, 0,
      0, 0, 0, 0, 0, 0, 0, 0, 0, 0, 0, 0, 0, 0, 0, 0, 0, 0, 0, 0, 0, 0, 0, 0, 0, 0, 0, 0, 0, 0, 0, 0, 0, 0, 0, 0, 0,
      0, 0, 0, 0, 0, 0, 0, 0, 0, 0, 0, 0, 0, 0, 0, 0, 0, 0, 0, 0, 0, 0, 0, 0, 0, 0, 0, 0, 0, 0, 0, 0, 0, 0, 0, 0, 0,
      0, 0, 0, 0, 0, 0, 0, 0, 0, 0, 0, 0, 0, 0, 0, 0, 0, 0, 0, 0, 0, 0, 0, 0, 0, 0, 0, 0, 0, 0, 0, 0, 0, 0, 0, 0, 0,
      0, 0, 0, 0, 0, 0, 0, 0, 0, 0, 0, 0, 0, 0, 0, 0, 0, 0, 0, 0, 0, 0, 0, 0, 0, 0, 0, 0, 0, 0, 0, 0, 0, 0, 0, 0, 0,
      0, 0, 0, 0, 0, 0, 0, 0, 0, 0, 0, 0, 0, 0, 0, 0, 0, 0, 0, 0, 0, 0, 0, 0, 0, 0, 0, 0, 0, 0, 0, 0, 0, 0, 0, 0, 0,
      0, 0, 0, 0, 0, 0, 0, 0, 0, 0, 0, 0, 0, 0, 0, 0, 0, 0, 0, 0, 0, 0, 0, 0, 0, 0, 0, 0, 0, 0, 0, 0, 0, 0, 0, 0, 0,
      0, 0, 0, 0, 0, 0, 0, 0, 0, 0, 0, 0, 0, 0, 0, 0, 0, 0, 0, 0, 0, 0, 0, 0, 0, 0, 0, 0, 0, 0, 0, 0, 0, 0, 0, 0, 0,
      0, 0, 0, 0, 0, 0, 0, 0, 0, 0, 0, 0, 0, 0, 0, 0, 0, 0, 0, 0, 0, 0, 0, 0, 0, 0, 0, 0, 0, 0, 0, 0, 0, 0, 0, 0, 0,
      0, 0, 0, 0, 0, 0, 0, 0, 0, 0, 0, 0, 0, 0, 0, 0, 0, 0, 0, 0, 0, 0, 0, 0, 0, 0, 0, 0, 0, 0, 0, 0, 0, 0, 0, 0, 0,
      0, 0, 0, 0, 0, 0, 0, 0, 0, 0, 0, 0, 0, 0, 0, 0, 0, 0, 0, 0, 0, 0, 0, 0, 0, 0, 0, 0, 0, 0, 0, 0, 0, 0, 0, 0, 0,
      0, 0, 0, 0, 0, 0, 0, 0, 0, 0, 0, 0, 0, 0, 0, 0, 0, 0, 0, 0, 0, 0, 0, 0, 0, 0, 0, 0, 0, 0, 0, 0, 0, 0, 0, 0, 0,
      0, 0, 0, 0, 0, 0, 0, 0, 0, 0, 0, 0, 0, 0, 0, 0, 0, 0, 0, 0, 0, 0, 0, 0, 0, 0, 0, 0, 0, 0, 0, 0, 0, 0, 0, 0, 0,
      0, 0, 0, 0, 0, 0, 0, 0, 0, 0, 0, 0, 0, 0, 0, 0, 0, 0, 0, 0, 0, 0, 0, 0, 0, 0, 0, 0, 0, 0, 0, 0, 0, 0, 0, 0, 0,
      0, 0, 0, 0, 0, 0, 0, 0, 0, 0, 0, 0, 0, 0, 0, 0, 0, 0, 0, 0, 0, 0, 0, 0, 0, 0, 0, 0, 0, 0, 0, 0, 0, 0, 0, 0, 0,
      0, 0, 0, 0, 0, 0, 0, 0, 0, 0, 0, 0, 0, 0, 0, 0, 0, 0, 0, 0, 0, 0, 0, 0, 0, 0, 0, 0, 0, 0, 0, 0, 0, 0, 0, 0, 0,
      0, 0, 0, 0, 0, 0, 0, 0, 0, 0, 0, 0, 0, 0, 0, 0, 0, 0, 0, 0, 0, 0, 0, 0, 0, 0, 0, 0, 0, 0, 0, 0, 0, 0, 0, 0, 0,
      0, 0, 0, 0, 0, 0, 0, 0, 0, 0, 0, 0, 0, 0, 0, 0, 0, 0, 0, 0, 0, 0, 0, 0, 0, 0, 0, 0, 0, 0, 0, 0, 0, 0, 0, 0, 0,
      0, 0, 0, 0, 0, 0, 0, 0, 0, 0, 0, 0, 0, 0, 0, 0, 0, 0, 0, 0, 0, 0, 0, 0, 0, 0, 0, 0, 0, 0, 0, 0, 0, 0, 0, 0, 0,
      0, 0, 0, 0, 0, 0, 0, 0, 0, 0, 0, 0, 0, 0, 0, 0, 0, 0, 0, 0, 0, 0, 0, 0, 0, 0, 0, 0, 0, 0, 0, 0, 0, 0, 0, 0, 0,
      0, 0, 0, 0, 0, 0, 0, 0, 0, 0, 0, 0, 0, 0, 0, 0, 0, 0, 0, 0, 0, 0, 0, 0, 0, 0, 0, 0, 0, 0, 0, 0, 0, 0, 0, 0, 0,
      0, 0, 0, 0, 0, 0, 0, 0, 0, 0, 0, 0, 0, 0, 0, 0, 0, 0, 0, 0, 0, 0, 0, 0, 0, 0, 0, 0, 0, 0, 0, 0, 0, 0, 0, 0, 0,
      0, 0, 0, 0, 0, 0, 0, 0, 0, 0, 0, 0, 0, 0, 0, 0, 0, 0, 0, 0, 0, 0, 0, 0, 0, 0, 0, 0, 0, 0, 0, 0, 0, 0, 0, 0, 0,
      0, 0, 0, 0, 0, 0, 0, 0, 0, 0, 0, 0, 0, 0, 0, 0, 0, 0, 0, 0, 0, 0, 0, 0, 0, 0, 0, 0, 0, 0, 0, 0, 0, 0, 0, 0, 0,
      0, 0, 0, 0, 0, 0, 0, 0, 0, 0, 0, 0, 0, 0, 0, 0, 0, 0, 0, 0, 0, 0, 0, 0, 0, 0, 0, 0, 0, 0, 0, 0, 0, 0, 0, 0, 0,
      0, 0, 0, 0, 0, 0, 0, 0, 0, 0, 0, 0, 0, 0, 0, 0, 0, 0, 0, 0, 0, 0, 0, 0, 0, 0, 0, 0, 0, 0, 0, 0, 0, 0, 0, 0, 0,
      0, 0, 0, 0, 0, 0, 0, 0, 0, 0, 0, 0, 0, 0, 0, 0, 0, 0, 0, 0, 0, 0, 0, 0, 0, 0, 0, 0, 0, 0, 0, 0, 0],
      by decide +kernel⟩⟩

theorem witness_PllLockEvents :
  (∃ (s : State), s.bit P.PllLockStatus 0 1 = true ∧ s.rdN P.PllLossCount 0 < 2 ^ 32) ∧
  (∃ (s : State), s.bit P.PllLockStatus 0 0 = true ∧ s.rdN P.PllLossCount 0 < 2 ^ 32) ∧
  (∃ (s : State), s.bit P.PllLockStatus 0 2 = true ∧ s.rdN P.PllLossCount 0 < 2 ^ 32) ∧
  (∃ (s : State), s.pllWanted .kpll = true) ∧
  (∃ (s : State), s.pllWanted .hpll = true) ∧
  (∃ (s : State), s.pllWanted .spll = true) ∧
  (∃ (s : State) (pll : SoftPll), s.pllWanted pll = false) :=
  ⟨
   ⟨up, by decide +kernel⟩,
   ⟨up, by decide +kernel⟩,
   ⟨up, by decide +kernel⟩,
   ⟨up, by decide +kernel⟩,
   ⟨up, by decide +kernel⟩,
   ⟨up, by decide +kernel⟩,
   ⟨{ up with power := { up.power with phase := .held } }, SoftPll.spll, by decide +kernel⟩⟩

theorem witness_ReadsAreExact :
  (∃ (s : State) (rq : Requester) (param : Half) (elem : Byte) (last : Byte) (r : Row), Dict.row param.toNat = some r
    ∧ r.ty ≠ .str ∧ r.ty ≠ .blob ∧ r.acc ≠ .wo ∧ r.readLevel ≤ s.level rq ∧ s.reaches param.toNat false = true ∧
    elem.toNat + last.toNat < r.elems ∧ param.toNat ∉ [P.SessionLevel, P.TimeNow, P.CueRead] ∧
    s.hears rq (r.ty.bytes * (last.toNat + 1)) = true ∧ rq.onWindow = false) ∧
  (∃ (s : State) (rq : Requester) (param : Half) (r : Row), Dict.row param.toNat = some r ∧
    (r.ty = .str ∨ r.ty = .blob) ∧ r.acc ≠ .wo ∧ r.readLevel ≤ s.level rq ∧ s.reaches param.toNat false = true ∧
    s.hears rq ((s.body param.toNat).length + 4) = true ∧ rq.onWindow = false) ∧
  (∃ (s : State) (rq : Requester) (param : Half) (last : Byte), Dict.row param.toNat = none ∧
    s.hears rq (4 * (last.toNat + 1)) = true ∧ rq.onWindow = false) ∧
  (∃ (s : State) (rq : Requester) (param : Half) (elem : Byte) (last : Byte) (r : Row), Dict.row param.toNat = some r
    ∧ r.readLevel ≤ s.level rq ∧ s.reaches param.toNat false = true ∧ elem.toNat + last.toNat < r.elems ∧
    s.hears rq (16 * (last.toNat + 1)) = true ∧ rq.onWindow = false) ∧
  (∃ (s : State) (rq : Requester), s.power.phase = .ready ∧ s.hears rq 4 = true ∧
    s.faults rq (wordAddr rq P.TimeNow 0) false = false) ∧
  (∃ (s : State) (rq : Requester) (param : Half) (length : Word) (r : Row), Dict.row param.toNat = some r ∧
    r.ty = .blob ∧ r.acc ≠ .wo ∧ r.readLevel ≤ s.level rq ∧ s.reaches param.toNat false = true ∧
    s.hears rq length.toNat = true ∧ rq.onWindow = false) ∧
  (∃ (s : State) (rq : Requester) (c : Fin 4) (m : Bool) (param : Half) (elem : Byte) (last : Byte) (r : Row), rq.path
    = .window c m ∧ s.hears rq 4 = true ∧
    s.faults rq (wordAddr rq param.toNat (elem.toNat + last.toNat)) false = false ∧ Dict.row param.toNat = some r ∧
    r.acc ≠ .wo ∧ r.readLevel ≤ s.level rq ∧ s.reaches param.toNat false = true ∧ r.ty ≠ .str ∧ r.ty ≠ .blob ∧
    r.ty ≠ .u64 ∧ elem.toNat + last.toNat < r.elems ∧ param.toNat ∉ [P.SessionLevel, P.TimeNow, P.CueRead]) ∧
  (∃ (s : State) (rq : Requester) (c : Fin 4) (m : Bool) (param : Half) (elem : Byte) (r : Row), rq.path = .window c m
    ∧ s.hears rq 4 = true ∧ s.faults rq (wordAddr rq param.toNat (2 * elem.toNat)) false = false ∧
    Dict.row param.toNat = some r ∧ r.acc ≠ .wo ∧ r.readLevel ≤ s.level rq ∧ s.reaches param.toNat false = true ∧
    r.ty = .u64 ∧ elem.toNat < r.elems ∧ param.toNat ∉ [P.SessionLevel, P.TimeNow, P.CueRead]) ∧
  (∃ (s : State) (rq : Requester) (c : Fin 4) (m : Bool) (param : Half) (elem : Byte) (w : Word) (r : Row), rq.path =
    .window c m ∧ s.hears rq 4 = true ∧ s.faults rq (wordAddr rq param.toNat (2 * elem.toNat + 1)) false = false ∧
    Dict.row param.toNat = some r ∧ r.acc ≠ .wo ∧ r.readLevel ≤ s.level rq ∧ s.reaches param.toNat false = true ∧
    r.ty = .u64 ∧ elem.toNat < r.elems ∧ param.toNat ∉ [P.SessionLevel, P.TimeNow, P.CueRead] ∧
    (s.core c).latch = some (param.toNat, elem.toNat, w)) ∧
  (∃ (s : State) (rq : Requester) (c : Fin 4) (m : Bool) (param : Half) (last : Byte) (r : Row), rq.path = .window c m
    ∧ s.hears rq 4 = true ∧ s.faults rq (wordAddr rq param.toNat last.toNat) false = false ∧
    Dict.row param.toNat = some r ∧ r.acc ≠ .wo ∧ r.readLevel ≤ s.level rq ∧ s.reaches param.toNat false = true ∧
    r.ty = .str ∧ last.toNat < 16) ∧
  (∃ (s : State) (rq : Requester) (c : Fin 4) (m : Bool) (param : Half) (last : Byte) (r : Row), rq.path = .window c m
    ∧ s.hears rq 4 = true ∧ s.faults rq (wordAddr rq param.toNat last.toNat) false = false ∧
    Dict.row param.toNat = some r ∧ r.acc ≠ .wo ∧ r.readLevel ≤ s.level rq ∧ s.reaches param.toNat false = true ∧
    r.ty = .blob) ∧
  (∃ (s : State) (rq : Requester) (c : Fin 4) (param : Half) (elem : Byte) (last : Byte), rq.path = .window c true ∧
    s.pathServes rq = true ∧
    s.faults rq (wordAddr rq param.toNat (pageWord param.toNat elem.toNat + last.toNat)) false = true) ∧
  (∃ (s : State) (rq : Requester) (c : Fin 4) (param : Half) (elem : Byte) (last : Byte), rq.path = .window c false ∧
    s.pathServes rq = true ∧
    s.faults rq (wordAddr rq param.toNat (pageWord param.toNat elem.toNat + last.toNat)) false = true) ∧
  (∃ (s : State) (rq : Requester) (c : Fin 4) (param : Half) (elem : Byte), rq.path = .window c true ∧
    s.pathServes rq = true ∧ s.storeFaults rq param.toNat elem.toNat = true) ∧
  (∃ (s : State) (rq : Requester) (c : Fin 4) (param : Half) (elem : Byte), rq.path = .window c false ∧
    s.pathServes rq = true ∧ s.storeFaults rq param.toNat elem.toNat = true) :=
  ⟨
   ⟨(let rq : Requester := { path := Path.stay 0, session := 0, addr := 1, udp := 1 }
     let s : State := up
     let s : State := if rq.udp = 0 then served s rq else s
     s),
    { path := Path.stay 0, session := 0, addr := 1, udp := 1 }, 0x13, 0, 0, (rowOf 19), by decide +kernel⟩,
   ⟨(let rq : Requester := { path := Path.stay 0, session := 0, addr := 1, udp := 1 }
     let s : State := up
     let s : State := if rq.udp = 0 then served s rq else s
     s),
    { path := Path.stay 0, session := 0, addr := 1, udp := 1 }, 0x8021, (rowOf 32801), by decide +kernel⟩,
   ⟨(let rq : Requester := { path := Path.stay 0, session := 1, addr := 1, udp := 1 }
     let s : State := up
     let s : State := served s rq
     s),
    { path := Path.stay 0, session := 1, addr := 1, udp := 1 }, 0, 1, by decide +kernel⟩,
   ⟨(let rq : Requester := { path := Path.stay 0, session := 0, addr := 1, udp := 1 }
     let s : State := up
     let s : State := if rq.udp = 0 then served s rq else s
     s),
    { path := Path.stay 0, session := 0, addr := 1, udp := 1 }, 0x13, 0, 0, (rowOf 19), by decide +kernel⟩,
   ⟨(let rq : Requester := { path := Path.stay 0, session := 1, addr := 1, udp := 1 }
     let s : State := up
     let s : State := served s rq
     s),
    { path := Path.stay 0, session := 1, addr := 1, udp := 1 }, by decide +kernel⟩,
   ⟨(let rq : Requester := { path := Path.bosun, session := 1, addr := 0, udp := 0 }
     let s : State := up
     let s : State := if rq.udp = 0 then served s rq else s
     s),
    { path := Path.bosun, session := 1, addr := 0, udp := 0 }, 0xe100, 0, (rowOf 57600), by decide +kernel⟩,
   ⟨(let rq : Requester := { path := Path.window 1 true, session := 0, addr := 2, udp := 0 }
     let s : State := up
     let s : State := served s rq
     s),
    { path := Path.window 1 true, session := 0, addr := 2, udp := 0 }, 1, true, 0x12, 0, 0, (rowOf 18),
      by decide +kernel⟩,
   ⟨(let rq : Requester := { path := Path.window 2 true, session := 0, addr := 0, udp := 0 }
     let s : State := up
     let s : State := served s rq
     s),
    { path := Path.window 2 true, session := 0, addr := 0, udp := 0 }, 2, true, 0x1120, 0, (rowOf 4384),
      by decide +kernel⟩,
   ⟨(let rq : Requester := { path := Path.window 2 true, session := 0, addr := 0, udp := 0 }
     let c : Fin 4 := 2
     let param : Half := 0x1120
     let elem : Byte := 0
     let w : Word := 0xfffffffe
     let s : State := up
     let s : State := served s rq
     let s : State := s.setCore c { s.core c with latch := some (param.toNat, elem.toNat, w) }
     s),
    { path := Path.window 2 true, session := 0, addr := 0, udp := 0 }, 2, true, 0x1120, 0, 0xfffffffe, (rowOf 4384),
      by decide +kernel⟩,
   ⟨(let rq : Requester := { path := Path.window 2 true, session := 0, addr := 0, udp := 0 }
     let s : State := up
     let s : State := served s rq
     s),
    { path := Path.window 2 true, session := 0, addr := 0, udp := 0 }, 2, true, 0x8021, 1, (rowOf 32801),
      by decide +kernel⟩,
   ⟨(let rq : Requester := { path := Path.window 2 true, session := 0, addr := 0, udp := 0 }
     let s : State := up
     let s : State := served s rq
     s),
    { path := Path.window 2 true, session := 0, addr := 0, udp := 0 }, 2, true, 0x24, 1, (rowOf 36),
      by decide +kernel⟩,
   ⟨(let rq : Requester := { path := Path.window 2 true, session := 0, addr := 1, udp := 1, access :=
                               { pc := 0, offset := 1, width := 2 } }
     let s : State := up
     let s : State := served s rq
     s),
    { path := Path.window 2 true, session := 0, addr := 1, udp := 1, access := { pc := 0, offset := 1, width := 2 } },
      2, 1, 0, 0xff, by decide +kernel⟩,
   ⟨(let rq : Requester := { path := Path.window 2 false, session := 0, addr := 1, udp := 1 }
     let s : State := up
     let s : State := served s rq
     s),
    { path := Path.window 2 false, session := 0, addr := 1, udp := 1 }, 2, 1, 0, 0xff, by decide +kernel⟩,
   ⟨(let rq : Requester := { path := Path.window 2 true, session := 0, addr := 1, udp := 1, access :=
                               { pc := 0, offset := 1, width := 2 } }
     let s : State := up
     let s : State := served s rq
     s),
    { path := Path.window 2 true, session := 0, addr := 1, udp := 1, access := { pc := 0, offset := 1, width := 2 } },
      2, 1, 0, by decide +kernel⟩,
   ⟨(let rq : Requester := { path := Path.window 2 false, session := 0, addr := 1, udp := 1 }
     let s : State := up
     let s : State := served s rq
     s),
    { path := Path.window 2 false, session := 0, addr := 1, udp := 1 }, 2, 1, 0, by decide +kernel⟩⟩

theorem witness_PlainWriteHoldsTheValue :
  (∃ (s : State) (rq : Requester) (param : Half) (elem : Byte) (value : Wide) (r : Row), Dict.row param.toNat = some r
    ∧ r.ty ≠ .str ∧ r.ty ≠ .blob ∧ acts param.toNat = false ∧ s.grants rq param.toNat elem.toNat value.toNat = true) ∧
  (∃ (s : State) (rq : Requester) (param : Half) (elem : Byte) (value : Nat) (r : Row), Dict.row param.toNat = some r
    ∧ r.ty ≠ .str ∧ r.ty ≠ .blob ∧ acts param.toNat = false ∧ s.grants rq param.toNat elem.toNat value = true) ∧
  (∃ (s : State) (rq : Requester) (param : Half) (elem : Byte) (values : List Nat) (r : Row), Dict.row param.toNat =
    some r ∧ r.ty ≠ .str ∧ r.ty ≠ .blob ∧ acts param.toNat = false ∧ param.toNat ≠ P.CloneSource ∧
    param.toNat ≠ P.CloneTargets ∧ 1 ≤ values.length ∧ values.length ≤ 256 ∧
    (∀ i < values.length, s.grants rq param.toNat (elem.toNat + i) (values.getD i 0) = true)) ∧
  (∃ (s : State) (rq : Requester) (param : Half) (elem : Byte) (r : Row), Dict.row param.toNat = some r ∧
    r.cls ≠ .none ∧ s.grants rq param.toNat elem.toNat 0 = true) ∧
  (∃ (s : State) (rq : Requester) (param : Half) (elem : Byte) (value : Wide) (r : Row), Dict.row param.toNat = some r
    ∧ r.cls ≠ .none ∧ value ≠ 0 ∧ writable r elem.toNat = true ∧ s.permits rq param.toNat = true ∧
    s.storeFaults rq param.toNat elem.toNat = false ∧ s.hears rq 0 = true) :=
  ⟨
   ⟨(let rq : Requester := { path := Path.bosun, session := 1, addr := 0, udp := 0 }
     let s : State := up
     let s : State := if rq.udp = 0 then served s rq else s
     s),
    { path := Path.bosun, session := 1, addr := 0, udp := 0 }, 0xe300, 0, 0, (rowOf 58112), by decide +kernel⟩,
   ⟨(let rq : Requester := { path := Path.bosun, session := 1, addr := 0, udp := 0 }
     let s : State := up
     let s : State := if rq.udp = 0 then served s rq else s
     s),
    { path := Path.bosun, session := 1, addr := 0, udp := 0 }, 0xe300, 0, 0, (rowOf 58112), by decide +kernel⟩,
   ⟨(let rq : Requester := { path := Path.bosun, session := 1, addr := 0, udp := 0 }
     let s : State := up
     let s : State := if rq.udp = 0 then served s rq else s
     s),
    { path := Path.bosun, session := 1, addr := 0, udp := 0 }, 0xa000, 0, [0], (rowOf 40960), by decide +kernel⟩,
   ⟨(let rq : Requester := { path := Path.bosun, session := 1, addr := 0, udp := 0 }
     let s : State := up
     let s : State := if rq.udp = 0 then served s rq else s
     s),
    { path := Path.bosun, session := 1, addr := 0, udp := 0 }, 0x37, 0, (rowOf 55), by decide +kernel⟩,
   ⟨(let rq : Requester := { path := Path.window 1 true, session := 0, addr := 0, udp := 0 }
     let s : State := up
     let s : State := if rq.udp = 0 then served s rq else s
     s),
    { path := Path.window 1 true, session := 0, addr := 0, udp := 0 }, 0x2056, 0, 2, (rowOf 8278), by decide +kernel⟩⟩

theorem witness_IgnoredWriteChangesNothing :
  (∃ (s : State) (rq : Requester) (param : Half) (elem : Byte), s.permits rq param.toNat = false ∧
    s.storeFaults rq param.toNat elem.toNat = false ∧ s.hears rq 0 = true) ∧
  (∃ (s : State) (rq : Requester) (param : Half) (elem : Byte) (last : Byte) (n : Nat), s.permits rq param.toNat =
    false ∧ param.toNat ≠ P.CueWrite ∧ n = (if rq.onWindow then last.toNat + 1 else 1) ∧
    (∀ i < n, s.storeFaults rq param.toNat (elem.toNat + i) = false) ∧ s.hears rq 0 = true) :=
  ⟨
   ⟨(let rq : Requester := { path := Path.stay 0, session := 1, addr := 1, udp := 1 }
     let s : State := up
     let s : State := served s rq
     let s : State := s.setSession rq.session { s.session rq.session with level := 0 }
     let s : State := { s with nv := { s.nv with fuses := [(true,true),(false,false),(false,false)] } }
     s),
    { path := Path.stay 0, session := 1, addr := 1, udp := 1 }, 1, 0, by decide +kernel⟩,
   ⟨(let rq : Requester := { path := Path.stay 0, session := 1, addr := 1, udp := 1 }
     let s : State := up
     let s : State := served s rq
     let s : State := s.setSession rq.session { s.session rq.session with level := 0 }
     let s : State := { s with nv := { s.nv with fuses := [(true,true),(false,false),(false,false)] } }
     s),
    { path := Path.stay 0, session := 1, addr := 1, udp := 1 }, 1, 0, 0, 1, by decide +kernel⟩⟩

theorem witness_SessionLife :
  (∃ (s : State) (rq : Requester) (level : Byte) (n : Nat) (key : List Byte), rq.onWindow = false ∧ rq.session = 0 ∧
    s.hears rq 20 = true ∧ 1 ≤ level.toNat ∧ level.toNat ≤ 3 ∧ s.wdp.lockout = false ∧
    s.levelKey rq level.toNat = some key ∧ 1 ≤ n ∧ n ≤ 16 ∧ (s.session n).state = .free ∧
    (∀ m < n, m = 0 ∨ (s.session m).state ≠ .free)) ∧
  (∃ (s : State) (rq : Requester) (level : Byte), rq.onWindow = false ∧ rq.session = 0 ∧ s.hears rq 20 = true ∧
    1 ≤ level.toNat ∧ level.toNat ≤ 3 ∧ s.wdp.lockout = true) ∧
  (∃ (s : State) (rq : Requester) (proof : List Byte) (x : Session), rq.onWindow = false ∧ s.pathServes rq = true ∧
    rq.session ≠ 0 ∧ s.session rq.session = x ∧ x.state = .opening ∧ s.sessionBound rq = true ∧
    proof = sessionProof x.key x.level rq.session x.hostNonce x.deviceNonce) ∧
  (∃ (s : State) (rq : Requester) (proof : List Byte) (x : Session), rq.onWindow = false ∧ s.pathServes rq = true ∧
    rq.session ≠ 0 ∧ s.session rq.session = x ∧ x.state = .opening ∧ s.sessionBound rq = true ∧
    proof ≠ sessionProof x.key x.level rq.session x.hostNonce x.deviceNonce) ∧
  (∃ (s : State) (rq : Requester), rq.onWindow = false ∧ rq.session ≠ 0 ∧ s.hears rq 0 = true) ∧
  (∃ (s : State) (n : Fin 17), n ≠ 0 ∧ (s.session n).state = .opening) ∧
  (∃ (s : State) (n : Fin 17), n ≠ 0 ∧ (s.session n).state = .unlocked) :=
  ⟨
   ⟨(let rq : Requester := { path := Path.stay 0, session := 0, addr := 1, udp := 1 }
     let s : State := up
     let s : State := served s rq
     let s : State := { s with nv := { s.nv with helmKey := some [1], riggerKey := some [2], fuses := [] }, wdp :=
                                 { s.wdp with lockout := false } }
     s),
    { path := Path.stay 0, session := 0, addr := 1, udp := 1 }, 2, 1, [2], by decide +kernel⟩,
   ⟨(let rq : Requester := { path := Path.stay 0, session := 0, addr := 1, udp := 1 }
     let s : State := up
     let s : State := served s rq
     let s : State := { s with wdp := { s.wdp with lockout := true } }
     s),
    { path := Path.stay 0, session := 0, addr := 1, udp := 1 }, 2, by decide +kernel⟩,
   ⟨(served up ⟨.stay 0, 1, 1, 1, {}, 0⟩).setSession 1
      { Session.free with state := .opening, level := 3, addr := 1, udp := 1, key := [1, 2, 3] },
    ⟨.stay 0, 1, 1, 1, {}, 0⟩, _, { Session.free with state := .opening, level := 3, addr := 1, udp := 1, key := [1, 2, 3] },
    by decide +kernel, by decide +kernel, by decide +kernel, by decide +kernel, rfl, by decide +kernel, rfl⟩,
   ⟨(let rq : Requester := { path := Path.stay 0, session := 1, addr := 1, udp := 1 }
     let x : Session := { state := SessionState.opening, level := 3, bosun := false, addr := 1, udp := 1, hostNonce :=
                            0, deviceNonce := 0, key := [1, 2, 3], lastTransaction := 0, cached := none }
     let s : State := up
     let s : State := served s rq
     let s : State := s.setSession rq.session x
     s),
    { path := Path.stay 0, session := 1, addr := 1, udp := 1 }, [], { state := SessionState.opening, level := 3, bosun
                                                                        := false, addr := 1, udp := 1, hostNonce := 0,
                                                                      deviceNonce := 0, key := [1, 2, 3],
                                                                      lastTransaction := 0, cached := none },
      by decide +kernel⟩,
   ⟨(let rq : Requester := { path := Path.stay 0, session := 1, addr := 1, udp := 1 }
     let s : State := up
     let s : State := served s rq
     s),
    { path := Path.stay 0, session := 1, addr := 1, udp := 1 }, by decide +kernel⟩,
   ⟨(let n : Fin 17 := 12
     let s : State := up
     let s : State := s.setSession n { s.session n with state := .opening }
     s),
    12, by decide +kernel⟩,
   ⟨(let n : Fin 17 := 12
     let s : State := up
     let s : State := s.setSession n { s.session n with state := .unlocked }
     s),
    12, by decide +kernel⟩⟩

theorem witness_BlockTransferSlots :
  (∃ (s : State) (rq : Requester) (param : Half) (total : Word) (r : Row) (n : Nat), s.hears rq 4 = true ∧
    Dict.row param.toNat = some r ∧ r.ty = .blob ∧ rq.onWindow = false ∧ s.permits rq param.toNat = true ∧
    s.notActive (s.via rq) r = false ∧ (∀ m < 4, (s.xfer m).state ≠ .free → (s.xfer m).param ≠ param.toNat) ∧
    total.toNat ≤ r.size ∧ s.openGate param.toNat = 0 ∧ n < 4 ∧ (s.xfer n).state = .free ∧
    (∀ m < n, (s.xfer m).state ≠ .free)) ∧
  (∃ (s : State) (rq : Requester) (param : Half) (slot : Byte) (offset : Word) (data : List Byte), s.hears rq 0 = true
    ∧ rq.onWindow = false ∧ s.permits rq param.toNat = true ∧ s.ownsSlot rq param.toNat slot.toNat = true ∧
    ((s.xfer slot.toNat).state = .opened ∨ (s.xfer slot.toNat).state = .mismatch) ∧
    offset.toNat + data.length ≤ (s.xfer slot.toNat).total ∧ (s.xfer slot.toNat).total ≤ 0x2000000) ∧
  (∃ (s : State) (rq : Requester) (param : Half) (slot : Byte) (offset : Word) (data : List Byte), s.hears rq 0 = true
    ∧ rq.onWindow = false ∧ s.permits rq param.toNat = true ∧
    (s.ownsSlot rq param.toNat slot.toNat = false ∨ (s.xfer slot.toNat).total < offset.toNat + data.length)) ∧
  (∃ (s : State) (rq : Requester) (param : Half) (slot : Byte), s.hears rq 0 = true ∧ rq.onWindow = false ∧
    s.permits rq param.toNat = true ∧ s.ownsSlot rq param.toNat slot.toNat = true ∧
    (s.xfer slot.toNat).state = .opened ∧ (s.xfer slot.toNat).result = none ∧ param.toNat ≠ P.AppletImage ∧
    param.toNat ≠ P.RelayRequest) ∧
  (∃ (s : State) (rq : Requester) (param : Half) (slot : Byte), s.hears rq 0 = true ∧ rq.onWindow = false ∧
    s.permits rq param.toNat = true ∧ s.ownsSlot rq param.toNat slot.toNat = true ∧
    (s.xfer slot.toNat).state = .verifying) ∧
  (∃ (s : State) (slot : Fin 4), (s.xfer slot).state = .verifying ∧ (s.xfer slot).writing = false ∧
    (∀ c ∈ s.twin.blobCommit, c.1 ≠ slot.val) ∧ sha256 (s.stagedBody slot) ≠ (s.xfer slot).digest) ∧
  (∃ (s : State) (slot : Fin 4) (param : Nat), (s.xfer slot).state = .verifying ∧ (s.xfer slot).writing = false ∧
    (∀ c ∈ s.twin.blobCommit, c.1 ≠ slot.val) ∧ sha256 (s.stagedBody slot) = (s.xfer slot).digest ∧
    (s.xfer slot).param = param ∧ (param = P.PairKey ∨ param = P.AppletKeyHash) ∧ (s.stagedBody slot).length = 32) ∧
  (∃ (s : State) (rq : Requester) (param : Half) (slot : Byte), s.hears rq 0 = true ∧ rq.onWindow = false ∧
    s.permits rq param.toNat = true ∧ s.ownsSlot rq param.toNat slot.toNat = true ∧
    (s.xfer slot.toNat).state ≠ .latchPending ∧ (s.xfer slot.toNat).writing = false) ∧
  (∃ (s : State) (rq : Requester) (param : Half) (slot : Byte) (sameClock : Bool), s.hears rq 0 = true ∧
    rq.onWindow = false ∧ s.permits rq param.toNat = true ∧
    (sameClock = true ∨ (s.ownsSlot rq param.toNat slot.toNat = true ∧ (s.xfer slot.toNat).state = .latchPending))) ∧
  (∃ (s : State) (slot : Fin 4), (s.xfer slot).state ≠ .free ∧ (s.xfer slot).state ≠ .latchPending ∧
    (s.xfer slot).writing = false) :=
  ⟨
   ⟨(let rq : Requester := { path := Path.stay 0, session := 1, addr := 1, udp := 1 }
     let total : Word := 0
     let s : State := up
     let s : State := served s rq
     let s : State := s.setXfer total.toNat Xfer.free
     s),
    { path := Path.stay 0, session := 1, addr := 1, udp := 1 }, 0x81, 0, (rowOf 129), 0, by decide +kernel⟩,
   ⟨(let rq : Requester := { path := Path.stay 0, session := 1, addr := 1, udp := 1 }
     let param : Half := 0x81
     let slot : Byte := 0
     let z1 : Nat := 0
     let s : State := up
     let s : State := served s rq
     let s : State := s.setXfer slot.toNat { Xfer.free with state := (if z1 = 0 then .opened else .mismatch), param :=
                                                              param.toNat, owner := rq, total := 300, digest := [7] }
     s),
    { path := Path.stay 0, session := 1, addr := 1, udp := 1 }, 0x81, 0, 0x72, [], by decide +kernel⟩,
   ⟨(let rq : Requester := { path := Path.stay 0, session := 1, addr := 1, udp := 1 }
     let s : State := up
     let s : State := served s rq
     s),
    { path := Path.stay 0, session := 1, addr := 1, udp := 1 }, 0x81, 0, 0, [2], by decide +kernel⟩,
   ⟨(let rq : Requester := { path := Path.stay 0, session := 1, addr := 1, udp := 1 }
     let param : Half := 0x81
     let slot : Byte := 0
     let digest : List Byte := []
     let s : State := up
     let s : State := served s rq
     let s : State := s.setXfer slot.toNat
         { Xfer.free with state := .opened, param := param.toNat, owner := rq, total := 300, digest := [7] }
     s),
    { path := Path.stay 0, session := 1, addr := 1, udp := 1 }, 0x81, 0, by decide +kernel⟩,
   ⟨(let rq : Requester := { path := Path.stay 0, session := 1, addr := 1, udp := 1 }
     let param : Half := 0x81
     let slot : Byte := 0
     let digest : List Byte := [7]
     let s : State := up
     let s : State := served s rq
     let s : State := s.setXfer slot.toNat
         { Xfer.free with state := .verifying, param := param.toNat, owner := rq, total := 300, digest := [7] }
     s),
    { path := Path.stay 0, session := 1, addr := 1, udp := 1 }, 0x81, 0, by decide +kernel⟩,
   ⟨(let slot : Fin 4 := 0
     let s : State := up
     let s : State := (s.setXfer slot
         { Xfer.free with state := .verifying, param := P.NtcTable, total := 66, digest := [7] }).setTwin
         { s.twin with blobCommit := [] }
     s),
    0, by decide +kernel⟩,
   ⟨(let slot : Fin 4 := 0
     let param : Nat := 53257
     let s : State := up
     let s : State := (s.setXfer slot
         { Xfer.free with state := .verifying, param := param, total := 32, digest := [7] }).setTwin
         { s.twin with blobCommit := [] }
     let s : State := s.setXfer slot { s.xfer slot with digest := sha256 (s.stagedBody slot) }
     s),
    0, 53257, by decide +kernel⟩,
   ⟨(let rq : Requester := { path := Path.stay 0, session := 1, addr := 1, udp := 1 }
     let param : Half := 0x81
     let slot : Byte := 0
     let z1 : Nat := 0
     let s : State := up
     let s : State := served s rq
     let s : State := s.setXfer slot.toNat { Xfer.free with state := (if z1 = 0 then .opened else .verifying), param
                                                              := param.toNat, owner := rq, total := 300, digest := [7]
                                                              }
     s),
    { path := Path.stay 0, session := 1, addr := 1, udp := 1 }, 0x81, 0, by decide +kernel⟩,
   ⟨(let rq : Requester := { path := Path.stay 0, session := 1, addr := 1, udp := 1 }
     let param : Half := 0x81
     let slot : Byte := 0
     let s : State := up
     let s : State := served s rq
     let s : State := s.setXfer slot.toNat
         { Xfer.free with state := .latchPending, param := param.toNat, owner := rq, total := 300, digest := [7] }
     s),
    { path := Path.stay 0, session := 1, addr := 1, udp := 1 }, 0x81, 0, false, by decide +kernel⟩,
   ⟨(let slot : Fin 4 := 0
     let s : State := up
     let s : State := s.setXfer slot { Xfer.free with state := .opened, total := 9 }
     s),
    0, by decide +kernel⟩⟩

theorem witness_SubscriptionsAndEventMessages :
  (∃ (s : State) (rq : Requester) (udp : Half) (lease : Half) (p : Fin 4) (n : Nat), rq.path = .stay p ∧
    s.hears rq 4 = true ∧ 1 ≤ lease.toNat ∧ lease.toNat ≤ 3600 ∧
    (∀ m < 8, (s.sub m).active = true → (s.sub m).addr ≠ rq.addr ∨ (s.sub m).udp ≠ udp) ∧ n < 8 ∧
    (s.sub n).active = false ∧ (∀ m < n, (s.sub m).active = true)) ∧
  (∃ (s : State) (rq : Requester) (udp : Half) (lease : Half) (p : Fin 4) (n : Nat), rq.path = .stay p ∧
    s.hears rq 4 = true ∧ 1 ≤ lease.toNat ∧ lease.toNat ≤ 3600 ∧ n < 8 ∧ (s.sub n).active = true ∧
    (s.sub n).addr = rq.addr ∧ (s.sub n).udp = udp ∧
    (∀ m < n, (s.sub m).active = true → (s.sub m).addr ≠ rq.addr ∨ (s.sub m).udp ≠ udp)) ∧
  (∃ (s : State) (rq : Requester) (udp : Half) (lease : Half) (p : Fin 4), rq.path = .stay p ∧ s.hears rq 4 = true ∧
    1 ≤ lease.toNat ∧ lease.toNat ≤ 3600 ∧
    (∀ m < 8, (s.sub m).active = true ∧ ((s.sub m).addr ≠ rq.addr ∨ (s.sub m).udp ≠ udp))) ∧
  (∃ (s : State) (rq : Requester) (number : Byte) (p : Fin 4), rq.path = .stay p ∧ s.hears rq 0 = true ∧
    number.toNat < 8 ∧ (s.sub number.toNat).active = true ∧ (s.sub number.toNat).addr = rq.addr ∧
    (s.sub number.toNat).session = rq.session.val) ∧
  (∃ (s : State) (number : Fin 8), (s.sub number).active = true ∧ s.stayActive = true ∧
    s.stayEnabled (s.sub number).port = true ∧ ((s.sub number).records ≠ [] ∨ (s.sub number).lost ≠ 0)) :=
  ⟨
   ⟨(let rq : Requester := { path := Path.stay 0, session := 1, addr := 1, udp := 1 }
     let udp : Half := 0
     let s : State := up
     let s : State := served s rq
     let s : State := (List.range (udp.toNat % 7)).foldl
         (fun s m => s.setSub m { Subscription.free with active := true, udp := udp + 1 }) s
     s),
    { path := Path.stay 0, session := 1, addr := 1, udp := 1 }, 0, 3, 0, 0, by decide +kernel⟩,
   ⟨(let rq : Requester := { path := Path.stay 0, session := 1, addr := 1, udp := 1 }
     let udp : Half := 0
     let n : Nat := 2
     let s : State := up
     let s : State := served s rq
     let s : State := s.setSub n { Subscription.free with active := true, addr := rq.addr, udp := udp, records := [] }
     s),
    { path := Path.stay 0, session := 1, addr := 1, udp := 1 }, 0, 3, 0, 2, by decide +kernel⟩,
   ⟨(let rq : Requester := { path := Path.stay 0, session := 1, addr := 1, udp := 1 }
     let udp : Half := 0
     let s : State := up
     let s : State := served s rq
     let s : State := (List.range 8).foldl
         (fun s m => s.setSub m { Subscription.free with active := true, udp := udp + 1 }) s
     s),
    { path := Path.stay 0, session := 1, addr := 1, udp := 1 }, 0, 7, 0, by decide +kernel⟩,
   ⟨(let rq : Requester := { path := Path.stay 0, session := 1, addr := 1, udp := 1 }
     let number : Byte := 2
     let s : State := up
     let s : State := served s rq
     let s : State := s.setSub number.toNat
         { Subscription.free with active := true, addr := rq.addr, session := rq.session }
     s),
    { path := Path.stay 0, session := 1, addr := 1, udp := 1 }, 2, 0, by decide +kernel⟩,
   ⟨(let number : Fin 8 := 0
     let mm : Nat := 1
     let p : Fin 4 := 1
     let s : State := up
     let s : State := served s ⟨.bosun, 0, 0, 0, {}, 0⟩
     let s : State := s.setSub number { Subscription.free with active := true, port := p, mask := 5, lost := mm + 1 }
     s),
    0, by decide +kernel⟩⟩

theorem witness_BosunTransfers :
  (∃ (s : State), s.bosunServes = true) ∧
  (∃ (s : State) (bytes : List Byte), s.bosunServes = true ∧ 1024 < bytes.length) ∧
  (∃ (s : State) (bytes : List Byte), s.bosunServes = true ∧ bytes.length ≤ 1024 ∧
    (bytes.length < 2 ∨ beNat (bytes.drop (bytes.length - 2)) ≠ (crc16 (bytes.take (bytes.length - 2))).toNat)) ∧
  (∃ (s : State), s.bosunServes = false ∧ s.power.bosunHeld = true) ∧
  (∃ (s : State) (m : List Byte), s.bosunServes = true ∧ m.length + 2 ≤ 1024) :=
  ⟨
   ⟨{ up with power := { up.power with phase := .ready, sleep := .run }, wdp :=
                { up.wdp with bosunResponse := some [1,2,3] } }, by decide +kernel⟩,
   ⟨{ up with power := { up.power with phase := .ready, sleep := .run } }, [0x2d, 7, 7, 7, 7, 7, 7, 7, 7, 7, 7, 7, 7,
       7, 7, 7, 7, 7, 7, 7, 7, 7, 7, 7, 7, 7, 7, 7, 7, 7, 7, 7, 7, 7, 7, 7, 7, 7, 7, 7, 7, 7, 7, 7, 7, 7, 7, 7, 7, 7,
       7, 7, 7, 7, 7, 7, 7, 7, 7, 7, 7, 7, 7, 7, 7, 7, 7, 7, 7, 7, 7, 7, 7, 7, 7, 7, 7, 7, 7, 7, 7, 7, 7, 7, 7, 7, 7,
       7, 7, 7, 7, 7, 7, 7, 7, 7, 7, 7, 7, 7, 7, 7, 7, 7, 7, 7, 7, 7, 7, 7, 7, 7, 7, 7, 7, 7, 7, 7, 7, 7, 7, 7, 7, 7,
       7, 7, 7, 7, 7, 7, 7, 7, 7, 7, 7, 7, 7, 7, 7, 7, 7, 7, 7, 7, 7, 7, 7, 7, 7, 7, 7, 7, 7, 7, 7, 7, 7, 7, 7, 7, 7,
       7, 7, 7, 7, 7, 7, 7, 7, 7, 7, 7, 7, 7, 7, 7, 7, 7, 7, 7, 7, 7, 7, 7, 7, 7, 7, 7, 7, 7, 7, 7, 7, 7, 7, 7, 7, 7,
       7, 7, 7, 7, 7, 7, 7, 7, 7, 7, 7, 7, 7, 7, 7, 7, 7, 7, 7, 7, 7, 7, 7, 7, 7, 7, 7, 7, 7, 7, 7, 7, 7, 7, 7, 7, 7,
       7, 7, 7, 7, 7, 7, 7, 7, 7, 7, 7, 7, 7, 7, 7, 7, 7, 7, 7, 7, 7, 7, 7, 7, 7, 7, 7, 7, 7, 7, 7, 7, 7, 7, 7, 7, 7,
       7, 7, 7, 7, 7, 7, 7, 7, 7, 7, 7, 7, 7, 7, 7, 7, 7, 7, 7, 7, 7, 7, 7, 7, 7, 7, 7, 7, 7, 7, 7, 7, 7, 7, 7, 7, 7,
       7, 7, 7, 7, 7, 7, 7, 7, 7, 7, 7, 7, 7, 7, 7, 7, 7, 7, 7, 7, 7, 7, 7, 7, 7, 7, 7, 7, 7, 7, 7, 7, 7, 7, 7, 7, 7,
       7, 7, 7, 7, 7, 7, 7, 7, 7, 7, 7, 7, 7, 7, 7, 7, 7, 7, 7, 7, 7, 7, 7, 7, 7, 7, 7, 7, 7, 7, 7, 7, 7, 7, 7, 7, 7,
       7, 7, 7, 7, 7, 7, 7, 7, 7, 7, 7, 7, 7, 7, 7, 7, 7, 7, 7, 7, 7, 7, 7, 7, 7, 7, 7, 7, 7, 7, 7, 7, 7, 7, 7, 7, 7,
       7, 7, 7, 7, 7, 7, 7, 7, 7, 7, 7, 7, 7, 7, 7, 7, 7, 7, 7, 7, 7, 7, 7, 7, 7, 7, 7, 7, 7, 7, 7, 7, 7, 7, 7, 7, 7,
       7, 7, 7, 7, 7, 7, 7, 7, 7, 7, 7, 7, 7, 7, 7, 7, 7, 7, 7, 7, 7, 7, 7, 7, 7, 7, 7, 7, 7, 7, 7, 7, 7, 7, 7, 7, 7,
       7, 7, 7, 7, 7, 7, 7, 7, 7, 7, 7, 7, 7, 7, 7, 7, 7, 7, 7, 7, 7, 7, 7, 7, 7, 7, 7, 7, 7, 7, 7, 7, 7, 7, 7, 7, 7,
       7, 7, 7, 7, 7, 7, 7, 7, 7, 7, 7, 7, 7, 7, 7, 7, 7, 7, 7, 7, 7, 7, 7, 7, 7, 7, 7, 7, 7, 7, 7, 7, 7, 7, 7, 7, 7,
       7, 7, 7, 7, 7, 7, 7, 7, 7, 7, 7, 7, 7, 7, 7, 7, 7, 7, 7, 7, 7, 7, 7, 7, 7, 7, 7, 7, 7, 7, 7, 7, 7, 7, 7, 7, 7,
       7, 7, 7, 7, 7, 7, 7, 7, 7, 7, 7, 7, 7, 7, 7, 7, 7, 7, 7, 7, 7, 7, 7, 7, 7, 7, 7, 7, 7, 7, 7, 7, 7, 7, 7, 7, 7,
       7, 7, 7, 7, 7, 7, 7, 7, 7, 7, 7, 7, 7, 7, 7, 7, 7, 7, 7, 7, 7, 7, 7, 7, 7, 7, 7, 7, 7, 7, 7, 7, 7, 7, 7, 7, 7,
       7, 7, 7, 7, 7, 7, 7, 7, 7, 7, 7, 7, 7, 7, 7, 7, 7, 7, 7, 7, 7, 7, 7, 7, 7, 7, 7, 7, 7, 7, 7, 7, 7, 7, 7, 7, 7,
       7, 7, 7, 7, 7, 7, 7, 7, 7, 7, 7, 7, 7, 7, 7, 7, 7, 7, 7, 7, 7, 7, 7, 7, 7, 7, 7, 7, 7, 7, 7, 7, 7, 7, 7, 7, 7,
       7, 7, 7, 7, 7, 7, 7, 7, 7, 7, 7, 7, 7, 7, 7, 7, 7, 7, 7, 7, 7, 7, 7, 7, 7, 7, 7, 7, 7, 7, 7, 7, 7, 7, 7, 7, 7,
       7, 7, 7, 7, 7, 7, 7, 7, 7, 7, 7, 7, 7, 7, 7, 7, 7, 7, 7, 7, 7, 7, 7, 7, 7, 7, 7, 7, 7, 7, 7, 7, 7, 7, 7, 7, 7,
       7, 7, 7, 7, 7, 7, 7, 7, 7, 7, 7, 7, 7, 7, 7, 7, 7, 7, 7, 7, 7, 7, 7, 7, 7, 7, 7, 7, 7, 7, 7, 7, 7, 7, 7, 7, 7,
       7, 7, 7, 7, 7, 7, 7, 7, 7, 7, 7, 7, 7, 7, 7, 7, 7, 7, 7, 7, 7, 7, 7, 7, 7, 7, 7, 7, 7, 7, 7, 7, 7, 7, 7, 7, 7,
       7, 7, 7, 7, 7, 7, 7, 7, 7, 7, 7, 7, 7, 7, 7, 7, 7, 7, 7, 7, 7, 7, 7, 7, 7, 7, 7, 7, 7, 7, 7, 7, 7, 7, 7, 7, 7,
       7, 7, 7, 7, 7, 7, 7, 7, 7, 7, 7, 7, 7, 7, 7, 7, 7, 7, 7, 7, 7, 7, 7, 7, 7, 7, 7, 7, 7, 7, 7, 7, 7, 7, 7, 7, 7,
       7, 7, 7, 7, 7, 7, 7, 7, 7, 7, 7, 7, 7, 7, 7, 7, 7, 7, 7, 7, 7, 7, 7, 7, 7, 7, 7, 7, 7, 7, 7, 7, 7, 7, 7, 7, 7,
       7, 7, 7, 7, 7, 7, 7, 7, 7, 7, 7, 7, 7], by decide +kernel⟩,
   ⟨{ up with power := { up.power with phase := .ready, sleep := .run } }, [], by decide +kernel⟩,
   ⟨{ up with power := { up.power with phase := .ready, sleep := .waking false, bosunHeld := true } },
       by decide +kernel⟩,
   ⟨{ up with power := { up.power with phase := .ready, sleep := .run } }, [0x57, 0x44, 0x10, 0, 0, 0, 0, 0],
       by decide +kernel⟩⟩

theorem witness_TimeStateChanges :
  (∃ (s : State), s.timeRuns = true ∧ 0 < s.rdN P.TickIncrement 0) ∧
  (∃ (s : State) (rq : Requester) (which : Fin 3) (value : Byte), s.grants rq
    ([P.TimeSource, P.Profile, P.DomainNumber].getD which.val 0) 0 value.toNat = true) ∧
  (∃ (s : State), s.timeState = Ts.locking ∨ s.timeState = Ts.locked) ∧
  (∃ (s : State), s.timeState ≠ Ts.locking ∧ s.timeState ≠ Ts.locked) ∧
  (∃ (s : State) (rq : Requester), s.grants rq P.TimeStatus 0 4 = true ∧ s.halyard.heldFirings = [] ∧
    ((s.arbitrate rq).raisedBits P.TimeStatus 0).getLsbD 2 = false) :=
  ⟨
   ⟨{ up with power := { up.power with phase := .ready, sleep := .run } }, by decide +kernel⟩,
   ⟨(let rq : Requester := { path := Path.stay 0, session := 1, addr := 1, udp := 1 }
     let s : State := up
     let s : State := served s rq
     s),
    { path := Path.stay 0, session := 1, addr := 1, udp := 1 }, 2, 0, by decide +kernel⟩,
   ⟨(up.wr P.TimeState 0 2), by decide +kernel⟩,
   ⟨up, by decide +kernel⟩,
   ⟨(let rq : Requester := { path := Path.stay 0, session := 1, addr := 1, udp := 1 }
     let s : State := up
     let s : State := served { (s.setBit P.TimeStatus 0 2 true) with halyard := { s.halyard with heldFirings := [] } }
         rq
     s),
    { path := Path.stay 0, session := 1, addr := 1, udp := 1 }, by decide +kernel⟩⟩

theorem witness_ServoFollowsTheMaster :
  (∃ (s : State) (port : Fin 4) (m : SyncMsg) (delta : Int) (d : Dyad) (o : Dyad) (interval : Dyad) (i : Dyad)
    (p : Dyad) (y : Dyad), m.twoStep = false ∧ s.follows port m = true ∧ (s.ingressQ (0x40 + port)).length < 64 ∧
    delta = s.stampFull m.stamp (stampFrac m.frac) - originFull m.originSec m.originNs - m.correction ∧
    s.timeState = Ts.locked ∧ s.halyard.pathDelay = some d ∧ o = Dyad.sub ⟨delta, 16⟩ d ∧
    o.abs.le (Dyad.ofInt (s.rdN P.StepThreshold 0)) = true ∧
    interval = (if m.logInterval < 0 then ⟨1, m.logInterval.natAbs⟩ else ⟨2 ^ m.logInterval.toNat, 0⟩) ∧
    i = s.halyard.integral.add ((Dyad.mul ⟨s.rdN P.ServoKi 0, 12⟩ o).mul interval) ∧
    p = Dyad.mul ⟨s.rdN P.ServoKp 0, 8⟩ o ∧ p.abs.le (Dyad.ofInt (s.rdN P.SlewLimit 0)) = true ∧ y = (i.add p).neg) ∧
  (∃ (s : State) (port : Fin 4) (m : SyncMsg) (arrived : Nat) (f : FollowUpMsg) (delta : Int) (d : Dyad) (o : Dyad)
    (interval : Dyad) (i : Dyad) (p : Dyad) (y : Dyad), (s.stayPtp port).awaiting = some (m, arrived) ∧
    s.clock - arrived ≤ syncTicks m.logInterval ∧ m.seq = f.seq ∧ m.source = f.source ∧ m.domain = f.domain ∧
    delta = s.stampFull m.stamp (stampFrac m.frac) - originFull f.originSec f.originNs - m.correction - f.correction ∧
    s.timeState = Ts.locked ∧ s.halyard.pathDelay = some d ∧ o = Dyad.sub ⟨delta, 16⟩ d ∧
    o.abs.le (Dyad.ofInt (s.rdN P.StepThreshold 0)) = true ∧
    interval = (if m.logInterval < 0 then ⟨1, m.logInterval.natAbs⟩ else ⟨2 ^ m.logInterval.toNat, 0⟩) ∧
    i = s.halyard.integral.add ((Dyad.mul ⟨s.rdN P.ServoKi 0, 12⟩ o).mul interval) ∧
    p = Dyad.mul ⟨s.rdN P.ServoKp 0, 8⟩ o ∧ p.abs.le (Dyad.ofInt (s.rdN P.SlewLimit 0)) = true ∧ y = (i.add p).neg) ∧
  (∃ (s : State) (port : Fin 4) (m : SyncMsg), m.twoStep = true ∧ s.follows port m = true ∧
    (s.ingressQ (0x40 + port)).length < 64) ∧
  (∃ (s : State) (port : Fin 4), 64 ≤ (s.ingressQ (0x40 + port)).length ∧ (s.stayPtp port).awaiting = none ∧
    s.rdN P.SyncSkipCount 0 < 2 ^ 32) ∧
  (∃ (s : State) (port : Fin 4) (m : SyncMsg), (s.ptpPort port m.domain = false ∨ s.fromParent port m.source = false ∨
    s.timeState = Ts.local ∨ m.logInterval < -7 ∨ 1 < m.logInterval) ∧ (s.ingressQ (0x40 + port)).length < 64) :=
  ⟨
   ⟨(let port : Fin 4 := 0
     let m : SyncMsg := { domain := 1, seq := 0x3ff, source := 0, twoStep := false, originSec := 1, originNs := 0,
                          correction := -577088, logInterval := -4, stamp := 3, frac := 1 }
     let d : Dyad := { num := 2, exp := 2 }
     let ds : Dataset := { priority1 := 3, clockClass := 3, accuracy := 0, variance := 1, priority2 := 0, identity :=
                             1, timeSource := 3, steps := 0 }
     let s : State := up
     let s : State := { s with power := { s.power with phase := .ready, sleep := .run } }
     let s : State := (s.setBit P.StayPtpEnable 0 port.val true).wr P.SlavePort 0 (BitVec.ofNat 64 (0x40 + port.val))
     let s : State := s.wr P.TimeState 0 2 |>.wr P.DomainNumber 0 (m.domain.setWidth 64)
     let s : State := { s with halyard := { s.halyard with pathDelay := some d, master := some ⟨m.source, ds, 0, 0⟩ }
                                 }
     let s : State := s.setIngressQ (0x40 + port) ((s.ingressQ (0x40 + port)).take 10)
     let s : State := s.wr P.SlewLimit 0 4000000000 |>.wr P.StepThreshold 0 0xFFFFFFFF
     s),
    0, { domain := 1, seq := 0x3ff, source := 0, twoStep := false, originSec := 1, originNs := 0, correction :=
           -577088, logInterval := -4, stamp := 3, frac := 1 }, -65535999226304, { num := 2, exp := 2 },
      { num := -65535999259072, exp := 16 }, { num := 1, exp := 4 }, { num := -80543743089399488, exp := 32 },
      { num := -33554431620644864, exp := 24 }, { num := 8670478237974484672, exp := 32 }, by decide +kernel⟩,
   ⟨(let port : Fin 4 := 0
     let m : SyncMsg := { domain := 1, seq := 0x3ff, source := 0, twoStep := false, originSec := 1, originNs := 0,
                          correction := -577088, logInterval := -4, stamp := 3, frac := 1 }
     let arrived : Nat := 0
     let d : Dyad := { num := 1, exp := 2 }
     let ds : Dataset := { priority1 := 3, clockClass := 0, accuracy := 2, variance := 0x3aa, priority2 := 2, identity
                             := 1, timeSource := 0, steps := 0 }
     let s : State := up
     let s : State := { s with power := { s.power with phase := .ready, sleep := .run } }
     let s : State := (s.setBit P.StayPtpEnable 0 port.val true).wr P.SlavePort 0 (BitVec.ofNat 64 (0x40 + port.val))
     let s : State := s.wr P.TimeState 0 2 |>.wr P.DomainNumber 0 (m.domain.setWidth 64)
     let s : State := { s with halyard := { s.halyard with pathDelay := some d, master := some ⟨m.source, ds, 0, 0⟩ }
                                 }
     let s : State := s.setIngressQ (0x40 + port) ((s.ingressQ (0x40 + port)).take 10)
     let s : State := s.setStayPtp port { s.stayPtp port with awaiting := some (m, s.clock - arrived) }
     let s : State := s.wr P.SlewLimit 0 4000000000 |>.wr P.StepThreshold 0 0xFFFFFFFF
     s),
    0, { domain := 1, seq := 0x3ff, source := 0, twoStep := false, originSec := 1, originNs := 0, correction :=
           -577088, logInterval := -4, stamp := 3, frac := 1 }, 0,
      { domain := 1, seq := 0x3ff, source := 0, originSec := 2, originNs := 1, correction := -1000000 },
      -131071998291840, { num := 1, exp := 2 }, { num := -131071998308224, exp := 16 }, { num := 1, exp := 4 },
      { num := -161087485920807296, exp := 32 }, { num := -67108863133810688, exp := 24 },
      { num := 17340956448176343424, exp := 32 }, by decide +kernel⟩,
   ⟨(let port : Fin 4 := 0
     let m : SyncMsg := { domain := 1, seq := 0x3ff, source := 0, twoStep := true, originSec := 1, originNs := 0,
                          correction := -577088, logInterval := -4, stamp := 3, frac := 1 }
     let d : Dyad := { num := 0, exp := 0 }
     let ds : Dataset := { priority1 := 2, clockClass := 3, accuracy := 3, variance := 0, priority2 := 1, identity :=
                             0, timeSource := 1, steps := 3 }
     let s : State := up
     let s : State := { s with power := { s.power with phase := .ready, sleep := .run } }
     let s : State := (s.setBit P.StayPtpEnable 0 port.val true).wr P.SlavePort 0 (BitVec.ofNat 64 (0x40 + port.val))
     let s : State := s.wr P.TimeState 0 2 |>.wr P.DomainNumber 0 (m.domain.setWidth 64)
     let s : State := { s with halyard := { s.halyard with pathDelay := some d, master := some ⟨m.source, ds, 0, 0⟩ }
                                 }
     let s : State := s.setIngressQ (0x40 + port) ((s.ingressQ (0x40 + port)).take 10)
     s),
    0, { domain := 1, seq := 0x3ff, source := 0, twoStep := true, originSec := 1, originNs := 0, correction :=
           -577088, logInterval := -4, stamp := 3, frac := 1 }, by decide +kernel⟩,
   ⟨(let port : Fin 4 := 0
     let m : SyncMsg := { domain := 1, seq := 0x3ff, source := 0, twoStep := false, originSec := 1, originNs := 0,
                          correction := -577088, logInterval := -4, stamp := 3, frac := 1 }
     let d : Dyad := { num := 0, exp := 0 }
     let ds : Dataset := { priority1 := 2, clockClass := 3, accuracy := 3, variance := 0, priority2 := 1, identity :=
                             0, timeSource := 1, steps := 3 }
     let s : State := up
     let s : State := { s with power := { s.power with phase := .ready, sleep := .run } }
     let s : State := (s.setBit P.StayPtpEnable 0 port.val true).wr P.SlavePort 0 (BitVec.ofNat 64 (0x40 + port.val))
     let s : State := s.wr P.TimeState 0 2 |>.wr P.DomainNumber 0 (m.domain.setWidth 64)
     let s : State := { s with halyard := { s.halyard with pathDelay := some d, master := some ⟨m.source, ds, 0, 0⟩ }
                                 }
     let s : State := s.setIngressQ (0x40 + port) ((s.ingressQ (0x40 + port)).take 10)
     let s : State := s.setIngressQ (0x40 + port) (List.replicate 64 ⟨⟨0,0,9,9⟩,0,0,false⟩)
     let s : State := s.setStayPtp port { s.stayPtp port with awaiting := none }
     s),
    0, by decide +kernel⟩,
   ⟨up, 0, { domain := 1, seq := 0x3ff, source := 0, twoStep := false, originSec := 1, originNs := 0, correction :=
               -577088, logInterval := -999998, stamp := 3, frac := 1 }, by decide +kernel⟩⟩

theorem witness_DelayExchangeAndAnnounce :
  (∃ (s : State) (port : Fin 4), s.rdN P.SlavePort 0 = 0x40 + port.val ∧ s.bit P.StayPtpEnable 0 port = true ∧
    s.stayActive = true ∧ s.timeState ≠ Ts.local ∧ (s.egressQ (0x40 + port)).length < 64) ∧
  (∃ (s : State) (port : Fin 4) (msg : DelayRespMsg) (t3 : Int) (delta : Int) (d : Dyad), s.ptpPort port msg.domain =
    true ∧ s.fromParent port msg.source = true ∧ (s.stayPtp port).delayReq = some (msg.seq, t3) ∧
    (s.stayPtp port).syncDelta = some delta ∧ s.halyard.pathDelay = none ∧
    d = Dyad.sub ⟨delta + (originFull msg.receiveSec msg.receiveNs - t3 - msg.correction), 17⟩
    (Dyad.ofInt (s.rdI P.StayAsymmetry port 32)) ∧ 0 ≤ d.num) ∧
  (∃ (s : State) (port : Fin 4) (msg : DelayRespMsg) (t3 : Int) (delta : Int) (d : Dyad) (mean : Dyad), s.ptpPort port
    msg.domain = true ∧ s.fromParent port msg.source = true ∧ (s.stayPtp port).delayReq = some (msg.seq, t3) ∧
    (s.stayPtp port).syncDelta = some delta ∧ s.halyard.pathDelay = some mean ∧
    d = Dyad.sub ⟨delta + (originFull msg.receiveSec msg.receiveNs - t3 - msg.correction), 17⟩
    (Dyad.ofInt (s.rdI P.StayAsymmetry port 32)) ∧ 0 ≤ d.num ∧ d.le ((mean.mul ⟨2, 0⟩).add ⟨1000, 0⟩) = true) ∧
  (∃ (s : State) (port : Fin 4) (msg : AnnounceMsg), s.ptpPort port msg.domain = true ∧ s.timeState ≠ Ts.local ∧
    ((s.stayPtp port).foreign = none ∨ ∃ g, (s.stayPtp port).foreign = some g ∧ g.source = msg.source)) ∧
  (∃ (s : State) (port : Fin 4), (s.stayPtp port).master = true ∧ s.bit P.StayPtpEnable 0 port = true ∧
    s.stayActive = true ∧ s.stepDone = false ∧ s.timeState ≠ Ts.local) ∧
  (∃ (s : State) (port : Fin 4), (s.stayPtp port).master = false ∨ s.bit P.StayPtpEnable 0 port = false ∨ s.timeState
    = Ts.local) :=
  ⟨
   ⟨(let port : Fin 4 := 0
     let s : State := up
     let s : State := { s with power := { s.power with phase := .ready, sleep := .run } }
     let s : State := (s.setBit P.StayPtpEnable 0 port.val true).wr P.SlavePort 0 (BitVec.ofNat 64 (0x40 + port.val))
     let s : State := s.wr P.TimeState 0 2
     s),
    0, by decide +kernel⟩,
   ⟨(let port : Fin 4 := 0
     let msg : DelayRespMsg := { domain := 1, seq := 0x3ff, source := 0, receiveSec := 0, receiveNs := 0x1ffff,
                                 correction := -1000000 }
     let t3 : Int := -577088
     let delta : Int := -999998
     let ds : Dataset := { priority1 := 3, clockClass := 1, accuracy := 2, variance := 3, priority2 := 3, identity :=
                             0, timeSource := 1, steps := 0 }
     let s : State := up
     let s : State := (s.setBit P.StayPtpEnable 0 port.val true).wr P.SlavePort 0 (BitVec.ofNat 64 (0x40 + port.val))
     let s : State := s.wr P.DomainNumber 0 (msg.domain.setWidth 64)
     let s : State := { s with halyard := { s.halyard with pathDelay := none, master := some ⟨msg.source, ds, 0, 0⟩ }
                                 }
     let s : State := s.setStayPtp port
         { s.stayPtp port with delayReq := some (msg.seq, t3), syncDelta := some delta }
     s),
    0, { domain := 1, seq := 0x3ff, source := 0, receiveSec := 0, receiveNs := 0x1ffff, correction := -1000000 },
      -577088, -999998, { num := 8590446146, exp := 17 }, by decide +kernel⟩,
   ⟨(let port : Fin 4 := 0
     let msg : DelayRespMsg := { domain := 1, seq := 0x3ff, source := 0, receiveSec := 0, receiveNs := 0x47,
                                 correction := 0 }
     let t3 : Int := 366
     let delta : Int := 2
     let mean : Dyad := { num := 0, exp := 1 }
     let ds : Dataset := { priority1 := 0xff, clockClass := 0, accuracy := 1, variance := 0x2e, priority2 := 0,
                           identity := 2, timeSource := 1, steps := 0 }
     let s : State := up
     let s : State := (s.setBit P.StayPtpEnable 0 port.val true).wr P.SlavePort 0 (BitVec.ofNat 64 (0x40 + port.val))
         |>.wr P.StayAsymmetry port 0
     let s : State := s.wr P.DomainNumber 0 (msg.domain.setWidth 64)
     let s : State := { s with halyard :=
                                 { s.halyard with pathDelay := some mean, master := some ⟨msg.source, ds, 0, 0⟩ } }
     let s : State := s.setStayPtp port
         { s.stayPtp port with delayReq := some (msg.seq, t3), syncDelta := some delta }
     s),
    0, { domain := 1, seq := 0x3ff, source := 0, receiveSec := 0, receiveNs := 0x47, correction := 0 }, 366, 2,
      { num := 4652692, exp := 17 }, { num := 0, exp := 1 }, by decide +kernel⟩,
   ⟨(let port : Fin 4 := 0
     let msg : AnnounceMsg := { domain := 1, source := 0x7f, dataset := { priority1 := 0, clockClass := 0, accuracy :=
                                                                            0xff, variance := 2, priority2 := 0,
                                                                          identity := 0xffffffffffffffff, timeSource
                                                                            := 0, steps := 1 }, addr := 0x2e }
     let s : State := up
     let s : State := (s.setBit P.StayPtpEnable 0 port.val true).wr P.DomainNumber 0 (msg.domain.setWidth 64) |>.wr
         P.TimeState 0 2
     let s : State := if msg.domain.getLsbD 0 then s.setStayPtp port { s.stayPtp port with foreign := none } else s
     s),
    0, { domain := 1, source := 0x7f, dataset := { priority1 := 0, clockClass := 0, accuracy := 0xff, variance := 2,
                                                   priority2 := 0, identity := 0xffffffffffffffff, timeSource := 0,
                                                   steps := 1 }, addr := 0x2e }, by decide +kernel⟩,
   ⟨(let port : Fin 4 := 0
     let s : State := up
     let s : State := { s with power := { s.power with phase := .ready, sleep := .run } }
     let s : State := (s.setBit P.StayPtpEnable 0 port.val true).setBit P.TimeStatus 0 2 false |>.wr P.TimeState 0 2
     let s : State := s.setStayPtp port { s.stayPtp port with master := true }
     s),
    0, by decide +kernel⟩,
   ⟨up, 0, by decide +kernel⟩⟩

theorem witness_GridSeedAndLatch :
  (∃ (s : State) (rq : Requester) (rem : Word), s.grants rq P.GridSeed 3 rem.toNat = true ∧ s.cue.kernel = [] ∧
    s.cue.ramps = [] ∧ s.content = [] ∧ s.blobWrites = []) ∧
  (∃ (s : State), s.seeded = true ∧ s.now.driven.contains 1 = false) ∧
  (∃ (s : State), s.seeded = false ∨ s.now.driven.contains 1 = true) ∧
  (∃ (s : State) (k : Nat), s.latches = true ∧ s.now.driven.contains 2 = false ∧
    k = s.latchIndex 4096 s.halyard.grid.nextLatch ∧ s.cue.ramps = [] ∧ s.twin.waiting = [] ∧ s.twin.verified = []) ∧
  (∃ (s : State), s.latches = false ∨ s.now.driven.contains 2 = true) :=
  ⟨
   ⟨(let rq : Requester := { path := Path.stay 0, session := 1, addr := 1, udp := 1 }
     let rem : Word := 0
     let s : State := up
     let s : State := (served s rq).wr P.GridSeed 0 (BitVec.ofNat 64 (rem.toNat % 500)) |>.wr P.GridSeed 1 0
     let s : State := { s with cue := { s.cue with kernel := [], ramps := [] }, content := [], blobWrites := [] }
     s),
    { path := Path.stay 0, session := 1, addr := 1, udp := 1 }, 0, by decide +kernel⟩,
   ⟨(up.setBit P.TimeStatus 0 1 true), by decide +kernel⟩,
   ⟨(up.setBit P.TimeStatus 0 1 false), by decide +kernel⟩,
   ⟨(let s : State := up
     let s : State := { s with power := { s.power with phase := .ready, sleep := .run } }
     let s : State := (s.setBit P.TimeStatus 0 1 true).setBit P.TimeStatus 0 2 false |>.wr P.TimeState 0 2
     let s : State := { s with cue := { s.cue with ramps := [] }, twin :=
                                 { s.twin with waiting := [], verified := [] } }
     s),
    3, by decide +kernel⟩,
   ⟨up, by decide +kernel⟩⟩

theorem witness_TriggerComparators :
  (∃ (s : State) (trigger : Fin 16), s.halyard.drives = [] ∧ 4 ≤ trigger.val ∧ s.timeRuns = true ∧
    s.trigEnabled trigger = true ∧ s.bit P.TriggerControl trigger 1 = true ∧
    s.now.written.contains trigger.val = false ∧ s.stepDone = false ∧ s.trigMode trigger = 1 ∧
    s.fld P.TriggerControl trigger 16 8 = 0) ∧
  (∃ (s : State) (trigger : Fin 16), s.halyard.drives = [] ∧ 4 ≤ trigger.val ∧ s.timeRuns = true ∧
    s.trigEnabled trigger = true ∧ s.bit P.TriggerControl trigger 1 = true ∧ s.stepDone = false ∧
    s.trigMode trigger = 2 ∧ s.fld P.TriggerControl trigger 16 8 = 0) ∧
  (∃ (s : State) (trigger : Fin 16) (code : Nat), s.halyard.drives = [] ∧ 4 ≤ trigger.val ∧ s.timeRuns = true ∧
    s.trigEnabled trigger = true ∧ s.bit P.TriggerControl trigger 1 = true ∧
    s.now.written.contains trigger.val = false ∧ s.now.cancelled = [] ∧ s.stepDone = false ∧ s.trigMode trigger = 1 ∧
    code < 16 ∧ s.unitsStopped = false ∧ s.fld P.TriggerControl trigger 16 8 = 16 + code ∧
    (∀ n < 256, (s.thread n).cancelPending = false)) ∧
  (∃ (s : State) (trigger : Fin 16), trigger.val < 4 ∧ s.seeded = true ∧ s.timeRuns = true ∧ s.stepDone = false ∧
    s.unitsStopped = false ∧ s.halyard.drives = [] ∧ s.now.told.contains (trigger.val + 1) = true) ∧
  (∃ (s : State), s.seeded = true ∧ s.timeRuns = true ∧ s.stepDone = false ∧ s.unitsStopped = false ∧
    s.halyard.drives = [] ∧ s.now.told.contains 1 = false ∧ s.now.driven.contains 1 = false) ∧
  (∃ (s : State) (k : Nat), s.seeded = true ∧ s.timeRuns = true ∧ s.stepDone = false ∧ s.unitsStopped = false ∧
    s.halyard.drives = [] ∧ s.now.told.contains 2 = false ∧ s.now.driven.contains 2 = false ∧ s.latches = true ∧
    k = s.latchIndex 4096 s.halyard.grid.nextLatch) ∧
  (∃ (s : State) (trigger : Fin 16), s.triggerLive trigger = true ∧ s.stepDone = true ∧ s.halyard.drives = []) ∧
  (∃ (s : State) (trigger : Fin 16), 4 ≤ trigger.val ∧
    (s.trigEnabled trigger = false ∨ s.trigMode trigger = 0 ∨ s.bit P.TriggerControl trigger 1 = false)) ∧
  (∃ (s : State) (rq : Requester) (trigger : Fin 16) (value : Word), s.grants rq P.TriggerTarget trigger value.toNat =
    true ∧ s.trigEnabled trigger = true ∧ (s.trigMode trigger = 1 ∨ s.trigMode trigger = 2) ∧
    due value s.tns = false ∧ s.now.fired.contains trigger.val = false) ∧
  (∃ (s : State) (rq : Requester) (period : Bool) (trigger : Fin 16) (value : Word), s.grants rq
    (if period then P.TriggerPeriod else P.TriggerTarget) trigger value.toNat = true ∧
    (period = true ∨ s.trigEnabled trigger = false ∨ s.trigMode trigger = 0)) :=
  ⟨
   ⟨(let trigger : Fin 16 := 4
     let s : State := up
     let s : State := { s with power := { s.power with phase := .ready, sleep := .run } }
     let s : State := s.setBit P.TimeStatus 0 2 false
     let s : State := s.wr P.TriggerControl trigger (BitVec.ofNat 64 (0 * 65536 + 1 * 4 + 3))
     s),
    4, by decide +kernel⟩,
   ⟨(let trigger : Fin 16 := 4
     let s : State := up
     let s : State := { s with power := { s.power with phase := .ready, sleep := .run } }
     let s : State := s.setBit P.TimeStatus 0 2 false
     let s : State := s.wr P.TriggerControl trigger (BitVec.ofNat 64 (0 * 65536 + 2 * 4 + 3))
     s),
    4, by decide +kernel⟩,
   ⟨(let trigger : Fin 16 := 4
     let code : Nat := 2
     let s : State := up
     let s : State := { s with power := { s.power with phase := .ready, sleep := .run } }
     let s : State := s.setBit P.TimeStatus 0 2 false
     let s : State := s.wr P.TriggerControl trigger (BitVec.ofNat 64 ((16 + code) * 65536 + 1 * 4 + 3))
     let s : State := s.setThread 5 { s.thread 5 with state := .dormant, event := BitVec.ofNat 8 code, cancelPending
                                                        := false }
     s),
    4, 2, by decide +kernel⟩,
   ⟨(let s : State := up
     let s : State := { s with power := { s.power with phase := .ready, sleep := .run } }
     let s : State := (s.setBit P.TimeStatus 0 2 false).setBit P.TimeStatus 0 1 true
     let s : State := { s with now := { s.now with told := [1, 2, 3, 4] } }
     s),
    0, by decide +kernel⟩,
   ⟨(let s : State := up
     let s : State := { s with power := { s.power with phase := .ready, sleep := .run } }
     let s : State := (s.setBit P.TimeStatus 0 2 false).setBit P.TimeStatus 0 1 true
     let s : State := { s with now := ThisClock.init, halyard := { s.halyard with drives := [] } }
     s),
    by decide +kernel⟩,
   ⟨(let s : State := up
     let s : State := { s with power := { s.power with phase := .ready, sleep := .run } }
     let s : State := (s.setBit P.TimeStatus 0 2 false).setBit P.TimeStatus 0 1 true
     let s : State := { s with now := ThisClock.init, halyard := { s.halyard with drives := [] } }
     let s : State := s.wr P.TimeState 0 2
     s),
    3, by decide +kernel⟩,
   ⟨(let trigger : Fin 16 := 0
     let ntc : Half := 1
     let s : State := up
     let s : State := { s with power := { s.power with phase := .ready, sleep := .run } }
     let s : State := s.setBit P.TimeStatus 0 2 true
     let s : State := s.wr P.TriggerControl trigger (BitVec.ofNat 64 (0 * 65536 + (1 + ntc.toNat % 2) * 4 + 3))
     let s : State := s.setBit P.TimeStatus 0 1 true
     s),
    0, by decide +kernel⟩,
   ⟨up, 4, by decide +kernel⟩,
   ⟨(let rq : Requester := { path := Path.stay 0, session := 1, addr := 1, udp := 1 }
     let trigger : Fin 16 := 6
     let value : Word := 7
     let s : State := up
     let s : State := served s rq
     let s : State := { s with power := { s.power with phase := .ready, sleep := .run } }
     let s : State := s.setBit P.TimeStatus 0 2 false
     let s : State := s.wr P.TriggerControl trigger (BitVec.ofNat 64 (0 * 65536 + (1 + value.toNat % 2) * 4 + 3))
     s),
    { path := Path.stay 0, session := 1, addr := 1, udp := 1 }, 6, 7, by decide +kernel⟩,
   ⟨(let rq : Requester := { path := Path.stay 2, session := 1, addr := 2, udp := 1 }
     let s : State := up
     let s : State := served s rq
     s),
    { path := Path.stay 2, session := 1, addr := 2, udp := 1 }, false, 4, 0, by decide +kernel⟩⟩

theorem witness_ShroudPortPtp :
  (∃ (s : State) (port : Fin 64), s.portsRun = true ∧ s.commands = true ∧ s.shroudEnabled port = true ∧
    s.timeState ≠ Ts.unset ∧ s.stepDone = false) ∧
  (∃ (s : State) (port : Fin 64), s.commands = false ∨ s.shroudEnabled port = false ∨ s.timeState = Ts.unset ∨
    s.stepDone = true) ∧
  (∃ (s : State) (port : Fin 64), s.portsRun = true ∧ s.shroudEnabled port = true) ∧
  (∃ (s : State) (port : Fin 64) (head : PtpHead), s.portsRun = true ∧ s.shroudUp port = true ∧
    head.domain ≠ s.domain ∧ (s.ingressQ port).length < 64) ∧
  (∃ (s : State) (port : Fin 64) (head : PtpHead), s.portsRun = true ∧ s.shroudUp port = true ∧
    head.domain = s.domain) ∧
  (∃ (s : State) (port : Fin 64) (m : PdelayRespMsg) (t1 : Int) (d : Int), s.portsRun = true ∧
    s.shroudUp port = true ∧ (s.ingressQ port).length < 64 ∧ (s.shroudPtp port).pdelayReq = some (m.seq, t1) ∧
    m.domain = s.domain ∧ d = s.stampFull m.stamp (stampFrac m.frac) - t1 - m.turnaround ∧ 0 ≤ d ∧
    (s.rdN P.LinkDelay port = 0xFFFFFFFF ∨ apart d ((s.rdN P.LinkDelay port : Int) * 131072) < 100 * 131072)) :=
  ⟨
   ⟨(let port : Fin 64 := 0
     let s : State := up
     let s : State := { s with power := { s.power with phase := .ready, sleep := .run } }
     let s : State := (s.setBit P.LinkStatus port 0 true).setBit P.PhyControl port 0 true |>.wr P.TimeState 0 2
         |>.setBit P.TimeStatus 0 2 false
     let s : State := s.wr P.TwinStatus 0 0
     s),
    0, by decide +kernel⟩,
   ⟨up, 0, by decide +kernel⟩,
   ⟨(let port : Fin 64 := 0
     let s : State := up
     let s : State := { s with power := { s.power with phase := .ready, sleep := .run } }
     let s : State := (s.setBit P.LinkStatus port 0 true).setBit P.PhyControl port 0 true |>.wr P.TimeState 0 2
         |>.setBit P.TimeStatus 0 2 false
     let s : State := s.wr P.TwinStatus 0 0
     s),
    0, by decide +kernel⟩,
   ⟨(let port : Fin 64 := 0
     let s : State := up
     let s : State := { s with power := { s.power with phase := .ready, sleep := .run } }
     let s : State := (s.setBit P.LinkStatus port 0 true).setBit P.PhyControl port 0 true |>.wr P.TimeState 0 2
         |>.setBit P.TimeStatus 0 2 false
     let s : State := s.wr P.TwinStatus 0 0
     s),
    0, { msgType := 1, domain := 1, seq := 0, srcPort := 0 }, by decide +kernel⟩,
   ⟨(let port : Fin 64 := 0
     let s : State := up
     let s : State := { s with power := { s.power with phase := .ready, sleep := .run } }
     let s : State := (s.setBit P.LinkStatus port 0 true).setBit P.PhyControl port 0 true |>.wr P.TimeState 0 2
         |>.setBit P.TimeStatus 0 2 false
     let s : State := s.wr P.TwinStatus 0 0
     s),
    0, { msgType := 1, domain := 0x7f, seq := 0, srcPort := 0 }, by decide +kernel⟩,
   ⟨(let port : Fin 64 := 0
     let m : PdelayRespMsg := { domain := 0x7f, seq := 0x3ff, source := 0, turnaround := 491759, stamp := 1, frac := 0
                                  }
     let t1 : Int := -577088
     let d : Int := 150865
     let s : State := up
     let s : State := { s with power := { s.power with phase := .ready, sleep := .run } }
     let s : State := (s.setBit P.LinkStatus port 0 true).setBit P.PhyControl port 0 true |>.wr P.TimeState 0 2
         |>.setBit P.TimeStatus 0 2 false
     let s : State := s.wr P.TwinStatus 0 0
     let s : State := s.setShroudPtp port { s.shroudPtp port with pdelayReq := some (m.seq, t1) }
     let s : State := if m.seq.getLsbD 0 then s.wr P.LinkDelay port 0xFFFFFFFF else s.wr P.LinkDelay port
         (BitVec.ofNat 64 (d.toNat / 131072 + 3))
     s),
    0, { domain := 0x7f, seq := 0x3ff, source := 0, turnaround := 491759, stamp := 1, frac := 0 }, -577088, 150865,
      by decide +kernel⟩⟩

theorem witness_StayModulesAndLinks :
  (∃ (s : State), s.sidebandRead = true) ∧
  (∃ (s : State), s.sidebandRead = false) ∧
  (∃ (s : State) (port : Fin 4), s.pinColumn = .run ∧ s.bit P.StayStatus port 1 = true) ∧
  (∃ (s : State), s.sidebandRead = true) ∧
  (∃ (s : State), s.sidebandRead = true) ∧
  (∃ (s : State), s.sidebandRead = false) ∧
  (∃ (s : State) (port : Fin 4), (s.stayPort port).faultStage = 1) ∧
  (∃ (s : State) (port : Fin 4), (s.stayPort port).faultStage = 2 ∧ s.sidebandRead = true) ∧
  (∃ (s : State), s.sidebandRead = true) ∧
  (∃ (s : State), s.sidebandRead = false) ∧
  (∃ (s : State) (port : Fin 4), s.stayActive = true ∧ s.stayEnabled port = true ∧ s.bit P.StayStatus port 1 = true ∧
    s.spllLocked port = true ∧ s.bit P.StayStatus port 5 = false) ∧
  (∃ (s : State) (port : Fin 4), s.stayEnabled port = false ∨ s.bit P.StayStatus port 1 = false ∨ s.spllLocked port =
    false ∨ s.bit P.StayStatus port 5 = true) :=
  ⟨
   ⟨{ up with power := { up.power with phase := .ready, sleep := .run } }, by decide +kernel⟩,
   ⟨{ up with power := { up.power with phase := .ready, sleep := .furled } }, by decide +kernel⟩,
   ⟨(let port : Fin 4 := 0
     let s : State := up
     let s : State := { (s.setBit P.StayStatus port 1 true) with power :=
                                                                   { s.power with phase := .ready, sleep := .run } }
     s),
    0, by decide +kernel⟩,
   ⟨up, by decide +kernel⟩,
   ⟨up, by decide +kernel⟩,
   ⟨{ up with power := { up.power with phase := .ready, sleep := .furled } }, by decide +kernel⟩,
   ⟨(let port : Fin 4 := 0
     let s : State := up
     let s : State := s.setStayPort port { s.stayPort port with faultStage := 1 }
     s),
    0, by decide +kernel⟩,
   ⟨(let port : Fin 4 := 0
     let s : State := up
     let s : State := { (s.setStayPort port { s.stayPort port with faultStage := 2 }) with power := { s.power with
         phase := .ready, sleep := .run } }
     s),
    0, by decide +kernel⟩,
   ⟨up, by decide +kernel⟩,
   ⟨{ up with power := { up.power with phase := .ready, sleep := .furled } }, by decide +kernel⟩,
   ⟨(let port : Fin 4 := 0
     let s : State := up
     let s : State := { ((s.setBit P.StayControl port 0 true).wr P.StayStatus port 0x42) with power := { s.power with
         phase := .ready, sleep := .run } }
     s),
    0, by decide +kernel⟩,
   ⟨up, 0, by decide +kernel⟩⟩

theorem witness_StayFrameReception :
  (∃ (s : State) (port : Fin 4) (f : RxFrame), s.stayActive = true ∧ s.stayEnabled port = true ∧
    s.stayUp port = true ∧ f.len < 64) ∧
  (∃ (s : State) (port : Fin 4) (f : RxFrame), s.stayActive = true ∧ s.stayEnabled port = true ∧
    s.stayUp port = true ∧ 64 ≤ f.len ∧ s.rdN P.StayMaxFrame port < f.len) ∧
  (∃ (s : State) (port : Fin 4) (f : RxFrame), s.stayActive = true ∧ s.stayEnabled port = true ∧
    s.stayUp port = true ∧ 64 ≤ f.len ∧ f.len ≤ s.rdN P.StayMaxFrame port ∧ f.fcsOk = false) ∧
  (∃ (s : State) (port : Fin 4) (f : RxFrame), s.stayActive = true ∧ s.stayEnabled port = true ∧
    s.stayUp port = true ∧ 64 ≤ f.len ∧ f.len ≤ s.rdN P.StayMaxFrame port ∧ f.fcsOk = true ∧ s.accepts port f = true ∧
    (f.stacked = true ∨ (s.vlanOk port f = true ∧ s.classify port f = .unclassified)) ∧
    (s.stayPort port).rxUsed + f.len ≤ rxBufferSize) ∧
  (∃ (s : State) (port : Fin 4) (f : RxFrame) (d : RxDest), s.stayActive = true ∧ s.stayEnabled port = true ∧
    s.stayUp port = true ∧ 64 ≤ f.len ∧ f.len ≤ s.rdN P.StayMaxFrame port ∧ f.fcsOk = true ∧ s.accepts port f = true ∧
    s.vlanOk port f = true ∧ s.classify port f = .held d ∧ (s.stayPort port).rxUsed + f.len ≤ rxBufferSize) ∧
  (∃ (s : State) (port : Fin 4) (f : RxFrame) (d : RxDest), s.stayActive = true ∧ s.stayEnabled port = true ∧
    s.stayUp port = true ∧ 64 ≤ f.len ∧ f.len ≤ s.rdN P.StayMaxFrame port ∧ f.fcsOk = true ∧ s.accepts port f = true ∧
    s.vlanOk port f = true ∧ s.classify port f = .held d ∧ rxBufferSize < (s.stayPort port).rxUsed + f.len) ∧
  (∃ (s : State) (port : Fin 4), s.stayActive = false ∨ s.stayEnabled port = false ∨ s.stayUp port = false) :=
  ⟨
   ⟨(let port : Fin 4 := 0
     let s : State := up
     let s : State := { ((s.setBit P.StayControl port 0 true).setBit P.StayStatus port 0 true) with power := { s.power
         with phase := .ready, sleep := .run } }
     s),
    0, { len := 1, fcsOk := true, mac := MacDst.broadcast, vid := some 2, stacked := false, payload :=
           RxPayload.ptpGeneral, srcMac := 0, corrected := 2, uncorrected := 1 }, by decide +kernel⟩,
   ⟨(let port : Fin 4 := 0
     let s : State := up
     let s : State := { ((s.setBit P.StayControl port 0 true).setBit P.StayStatus port 0 true) with power := { s.power
         with phase := .ready, sleep := .run } }
     s),
    0, { len := 1523, fcsOk := true, mac := MacDst.broadcast, vid := some 2, stacked := false, payload :=
           RxPayload.ptpGeneral, srcMac := 0, corrected := 2, uncorrected := 1 }, by decide +kernel⟩,
   ⟨(let port : Fin 4 := 0
     let s : State := up
     let s : State := { ((s.setBit P.StayControl port 0 true).setBit P.StayStatus port 0 true) with power := { s.power
         with phase := .ready, sleep := .run } }
     s),
    0, { len := 65, fcsOk := false, mac := MacDst.broadcast, vid := some 2, stacked := false, payload :=
           RxPayload.ptpGeneral, srcMac := 0, corrected := 2, uncorrected := 1 }, by decide +kernel⟩,
   ⟨(let port : Fin 4 := 0
     let s : State := up
     let s : State := { ((s.setBit P.StayControl port 0 true).setBit P.StayStatus port 0 true) with power := { s.power
         with phase := .ready, sleep := .run } }
     let s : State := s.wr P.StayVlan port 0 |>.wr P.StayMaxFrame port 1522 |>.setStayPort port
         { s.stayPort port with rxHeld := [] }
     s),
    0, { len := 65, fcsOk := true, mac := MacDst.own, vid := none, stacked := false, payload := RxPayload.other,
         srcMac := 0, corrected := 2, uncorrected := 1 }, by decide +kernel⟩,
   ⟨(let port : Fin 4 := 0
     let s : State := up
     let s : State := { ((s.setBit P.StayControl port 0 true).setBit P.StayStatus port 0 true) with power := { s.power
         with phase := .ready, sleep := .run } }
     let s : State := s.wr P.StayVlan port 0 |>.wr P.StayMaxFrame port 1522 |>.setStayPort port
         { s.stayPort port with rxHeld := [] }
     s),
    0, { len := 65, fcsOk := true, mac := MacDst.own, vid := none, stacked := false, payload := RxPayload.udp false
           (IpDst.unicast) 5 6 0x15c0 false [], srcMac := 0, corrected := 2, uncorrected := 1 }, RxDest.sacn,
      by decide +kernel⟩,
   ⟨(let port : Fin 4 := 0
     let s : State := up
     let s : State := { ((s.setBit P.StayControl port 0 true).setBit P.StayStatus port 0 true) with power := { s.power
         with phase := .ready, sleep := .run } }
     let s : State := s.wr P.StayVlan port 0 |>.wr P.StayMaxFrame port 1522 |>.setStayPort port
         { s.stayPort port with rxHeld := [] }
     let s : State := s.setStayPort port { s.stayPort port with rxHeld := [(.video, 524288)] }
     s),
    0, { len := 65, fcsOk := true, mac := MacDst.own, vid := none, stacked := false, payload := RxPayload.udp false
           (IpDst.unicast) 5 6 0x15c0 false [], srcMac := 0, corrected := 2, uncorrected := 1 }, RxDest.sacn,
      by decide +kernel⟩,
   ⟨up, 0, by decide +kernel⟩⟩

theorem witness_VideoIngest :
  (∃ (s : State) (n : Fin 8) (leg : Fin 2) (p : RtpPacket) (h : Word), s.bit P.StreamControl n 0 = true ∧
    (leg = 0 ∨ s.bit P.StreamControl n 1 = true) ∧ p.payloadType.setWidth 64 = s.rd P.StreamPayloadType n ∧
    (s.vid n).highest = some h ∧
    (p.seq = h ∨ (1 ≤ (h - p.seq).toNat ∧ (h - p.seq).toNat ≤ 32767 ∧ (h - p.seq).toNat < (s.vid n).seenCount)) ∧
    s.now.first.find? (fun x => x.1 == n.val && x.2.1 != leg.val && x.2.2.1 == p.seq) = none) ∧
  (∃ (s : State) (n : Fin 8) (leg : Fin 2) (p : RtpPacket) (h : Word), s.bit P.StreamControl n 0 = true ∧
    (leg = 0 ∨ s.bit P.StreamControl n 1 = true) ∧ p.payloadType.setWidth 64 = s.rd P.StreamPayloadType n ∧
    (s.vid n).highest = some h ∧ 2 ≤ (p.seq - h).toNat ∧ (p.seq - h).toNat < 2 ^ 31 ∧
    (∀ q ∈ (s.vid n).held, q.seq ≠ p.seq ∧ q.seq ≠ h + 1) ∧
    s.now.first.find? (fun x => x.1 == n.val && x.2.1 != leg.val && x.2.2.1 == p.seq) = none ∧
    s.reorderUsed + packetBytes p ≤ reorderSize) ∧
  (∃ (s : State) (n : Fin 8) (leg : Fin 2) (p : RtpPacket), s.bit P.StreamControl n 0 = true ∧
    (leg = 0 ∨ s.bit P.StreamControl n 1 = true) ∧ p.payloadType.setWidth 64 = s.rd P.StreamPayloadType n ∧
    (s.vid n).highest = some (p.seq - 1) ∧ (s.vid n).held = [] ∧
    s.now.first.find? (fun x => x.1 == n.val && x.2.1 != leg.val && x.2.2.1 == p.seq) = none) ∧
  (∃ (s : State) (n : Fin 8) (leg : Fin 2) (p : RtpPacket), s.bit P.StreamControl n 0 = true ∧
    (leg = 0 ∨ s.bit P.StreamControl n 1 = true) ∧ p.payloadType.setWidth 64 ≠ s.rd P.StreamPayloadType n) ∧
  (∃ (s : State) (n : Fin 8) (p : RtpPacket) (before : Option Nat), s.bit P.StreamControl n 0 = true ∧
    p.payloadType.setWidth 64 = s.rd P.StreamPayloadType n ∧
    s.now.first.find? (fun x => x.1 == n.val && x.2.1 != 0 && x.2.2.1 == p.seq) = some (n.val, 1, p.seq, before)) ∧
  (∃ (s : State) (n : Fin 8) (p : RtpPacket) (h : Word), (s.vid n).highest = some h ∧ (s.vid n).held = [p] ∧
    2 ≤ (p.seq - h).toNat) ∧
  (∃ (s : State) (n : Fin 8), (s.vid n).held = []) ∧
  (∃ (s : State) (rq : Requester) (n : Fin 8) (value : Word), s.grants rq P.StreamControl n value.toNat = true ∧
    s.bit P.StreamControl n 0 = false ∧ value.getLsbD 0 = true ∧ (s.vid n).ring.inUse = false ∧ s.pixelsFit n = true ∧
    s.rd P.StreamControl n < 256) ∧
  (∃ (s : State) (rq : Requester) (n : Fin 8) (value : Word), s.grants rq P.StreamControl n value.toNat = true ∧
    s.streamBusy n = true ∧ value.toNat / 2 % 128 ≠ s.fld P.StreamControl n 1 7) :=
  ⟨
   ⟨(let n : Fin 8 := 0
     let p : RtpPacket := { seq := 3, timestamp := 0xfff, marker := false, field := true, payloadType := 2, srds :=
                              [{ row := 0, offset := 2, bytes := [0] }] }
     let h : Word := 3
     let s : State := up
     let s : State := { s with now := ThisClock.init }
     let s : State := (s.wr P.StreamControl n 3).wr P.StreamPayloadType n (p.payloadType.setWidth 64)
     let s : State := s.setVid n { s.vid n with highest := some h, seenCount := 2 }
     s),
    0, 1, { seq := 3, timestamp := 0xfff, marker := false, field := true, payloadType := 2, srds :=
              [{ row := 0, offset := 2, bytes := [0] }] }, 3, by decide +kernel⟩,
   ⟨(let n : Fin 8 := 0
     let p : RtpPacket := { seq := 1, timestamp := 3, marker := false, field := false, payloadType := 1, srds := [] }
     let h : Word := 0xfffffffd
     let s : State := up
     let s : State := { s with now := ThisClock.init }
     let s : State := (s.wr P.StreamControl n 3).wr P.StreamPayloadType n (p.payloadType.setWidth 64)
     let s : State := s.setVid n { s.vid n with highest := some h, seenCount := 2, held := [] }
     s),
    0, 0, { seq := 1, timestamp := 3, marker := false, field := false, payloadType := 1, srds := [] }, 0xfffffffd,
      by decide +kernel⟩,
   ⟨(let n : Fin 8 := 0
     let p : RtpPacket := { seq := 1, timestamp := 3, marker := false, field := false, payloadType := 1, srds := [] }
     let s : State := up
     let s : State := { s with now := ThisClock.init }
     let s : State := (s.wr P.StreamControl n 3).wr P.StreamPayloadType n (p.payloadType.setWidth 64)
     let s : State := s.setVid n { s.vid n with highest := some (p.seq - 1), seenCount := 2, held := [] }
     s),
    0, 0, { seq := 1, timestamp := 3, marker := false, field := false, payloadType := 1, srds := [] },
      by decide +kernel⟩,
   ⟨(let n : Fin 8 := 0
     let s : State := up
     let s : State := s.wr P.StreamControl n 3
     s),
    0, 0, { seq := 1, timestamp := 3, marker := false, field := false, payloadType := 1, srds := [] },
      by decide +kernel⟩,
   ⟨(let n : Fin 8 := 0
     let p : RtpPacket := { seq := 1, timestamp := 0x1fff, marker := true, field := false, payloadType := 0, srds :=
                              [{ row := 2, offset := 0, bytes := [] }] }
     let before : Option Nat := some 5
     let s : State := up
     let s : State := ({ s with now := { ThisClock.init with first := [(n.val, 1, p.seq, before)] } }.wr
         P.StreamControl n 3).wr P.StreamPayloadType n (p.payloadType.setWidth 64)
     s),
    0, { seq := 1, timestamp := 0x1fff, marker := true, field := false, payloadType := 0, srds :=
           [{ row := 2, offset := 0, bytes := [] }] }, (some 5), by decide +kernel⟩,
   ⟨(let n : Fin 8 := 0
     let p : RtpPacket := { seq := 1, timestamp := 0x1fff, marker := true, field := false, payloadType := 0, srds :=
                              [{ row := 2, offset := 0, bytes := [] }] }
     let h : Word := 0xffffffff
     let s : State := up
     let s : State := s.setVid n { s.vid n with highest := some h, seenCount := 2, held := [p] }
     s),
    0, { seq := 1, timestamp := 0x1fff, marker := true, field := false, payloadType := 0, srds :=
           [{ row := 2, offset := 0, bytes := [] }] }, 0xffffffff, by decide +kernel⟩,
   ⟨up, 0, by decide +kernel⟩,
   ⟨(let rq : Requester := { path := Path.stay 0, session := 1, addr := 1, udp := 1 }
     let n : Fin 8 := 2
     let s : State := up
     let s : State := (served s rq).wr P.StreamControl n 0
     let s : State := s.setVid n { s.vid n with ring := { (s.vid n).ring with inUse := false } }
     s),
    { path := Path.stay 0, session := 1, addr := 1, udp := 1 }, 2, 3, by decide +kernel⟩,
   ⟨(let rq : Requester := { path := Path.stay 0, session := 1, addr := 1, udp := 1 }
     let n : Fin 8 := 2
     let s : State := up
     let s : State := (served s rq).setBit P.StreamControl n 0 true
     s),
    { path := Path.stay 0, session := 1, addr := 1, udp := 1 }, 2, 2, by decide +kernel⟩⟩

theorem witness_SacnIngest :
  (∃ (s : State) (port : Fin 4) (p : SacnPacket), s.rdN P.SacnEnable 0 ≠ 0 ∧ s.bit P.SacnPortMask 0 port = true ∧
    (p.discovery = true ∨ p.preview = true ∨ p.startCode ≠ 0 ∨ s.universes.contains p.univ = false)) ∧
  (∃ (s : State) (port : Fin 4) (p : SacnPacket) (x : Source), s.rdN P.SacnEnable 0 ≠ 0 ∧
    s.bit P.SacnPortMask 0 port = true ∧ p.discovery = false ∧ p.preview = false ∧ p.startCode = 0 ∧
    s.universes.contains p.univ = true ∧ s.source p.univ p.cid = some x ∧ sequenceBehind p.seq x.seq = true) ∧
  (∃ (s : State) (port : Fin 4) (p : SacnPacket), s.rdN P.SacnEnable 0 ≠ 0 ∧ s.bit P.SacnPortMask 0 port = true ∧
    p.discovery = false ∧ p.preview = false ∧ p.startCode = 0 ∧ s.universes.contains p.univ = true ∧
    s.source p.univ p.cid = none ∧ (s.sacn.sources.filter (fun (y : Source) => y.univ == p.univ)).length < 8 ∧
    s.sacn.sources.length < 65536 ∧ p.terminated = false ∧ p.syncAddr = 0) ∧
  (∃ (s : State) (port : Fin 4), s.rdN P.SacnEnable 0 = 0 ∨ s.bit P.SacnPortMask 0 port = false) ∧
  (∃ (s : State) (port : Fin 4), s.rdN P.SacnEnable 0 ≠ 0 ∧ s.bit P.SacnPortMask 0 port = true) ∧
  (∃ (s : State) (a : Half), s.tracked a = some false) ∧
  (∃ (s : State) (a : Half), s.tracked a ≠ some false) ∧
  (∃ (s : State) (univ : Half) (cid : BitVec 128), (s.source univ cid).isSome = true) ∧
  (∃ (s : State) (univ : Half) (cid : BitVec 128), s.source univ cid = none) ∧
  (∃ (s : State) (entry : Nat), (s.mergedAt entry).state = .holding ∧
    ((s.mergeEntry entry).2.2 = 1 ∨ (s.mergeEntry entry).2.2 = 2)) :=
  ⟨
   ⟨(up.wr P.SacnEnable 0 1 |>.wr P.SacnPortMask 0 15), 0, { cid := 1, univ := 0x3ff, priority := 0, seq := 0,
                                                             syncAddr := 3, preview := false, terminated := false,
                                                             discovery := true, startCode := 3, slots := [] },
       by decide +kernel⟩,
   ⟨(let x : Source := { cid := 1, univ := 2, seq := 0, priority := 0, slots := [], baseline := [], changed := [],
                         applied := false, isNew := false }
     let s : State := up
     let s : State := s.wr P.SacnEnable 0 1 |>.wr P.SacnPortMask 0 15
     let s : State := s.setBlob P.SacnUniverseTable [1,0,2,0,5,0]
     let s : State := { s with sacn := { s.sacn with sources := [x] } }
     s),
    0, { cid := 1, univ := 2, priority := 0, seq := 0, syncAddr := 3, preview := false, terminated := false, discovery
           := false, startCode := 0, slots := [] }, { cid := 1, univ := 2, seq := 0, priority := 0, slots := [],
                                                      baseline := [], changed := [], applied := false, isNew := false
                                                        }, by decide +kernel⟩,
   ⟨(let s : State := up
     let s : State := s.wr P.SacnEnable 0 1 |>.wr P.SacnPortMask 0 15
     let s : State := s.setBlob P.SacnUniverseTable [1,0,2,0,5,0]
     s),
    0, { cid := 1, univ := 2, priority := 0, seq := 0, syncAddr := 0, preview := false, terminated := false, discovery
           := false, startCode := 0, slots := [] }, by decide +kernel⟩,
   ⟨up, 0, by decide +kernel⟩,
   ⟨(let a : Half := 1
     let pk : SacnPacket := { cid := 0x3ff, univ := 0, priority := 0, seq := 0xff, syncAddr := 2, preview := true,
                              terminated := false, discovery := true, startCode := 1, slots := [] }
     let s : State := up
     let s : State := s.wr P.SacnEnable 0 1 |>.wr P.SacnPortMask 0 15
     let s : State := { s with sacn := { s.sacn with held := s.sacn.held ++ [(3, a, pk)], tracked := [(a, true)] } }
     s),
    0, by decide +kernel⟩,
   ⟨(let a : Half := 0
     let pk : SacnPacket := { cid := 1, univ := 3, priority := 2, seq := 1, syncAddr := 0, preview := false,
                              terminated := true, discovery := false, startCode := 0xff, slots := [] }
     let s : State := up
     let s : State := { s with sacn := { s.sacn with held := s.sacn.held ++ [(3, a, pk)], tracked := [(a, false)] } }
     s),
    0, by decide +kernel⟩,
   ⟨up, 0, by decide +kernel⟩,
   ⟨(let univ : Half := 0
     let cid : BitVec 128 := 1
     let s : State := up
     let s : State := { s with sacn := { s.sacn with sources := [⟨cid, univ, 0, 0, [], [], [], true, false⟩] } }
     s),
    0, 1, by decide +kernel⟩,
   ⟨up, 0, 1, by decide +kernel⟩,
   ⟨(let entry : Nat := 0
     let s : State := up
     let s : State := s.setMerged entry { s.mergedAt entry with state := .holding }
     let s : State := s.setBlob P.MergeTable [1,0,0,1,2,0,0,2,3,0,0,1]
     s),
    0, by decide +kernel⟩⟩

theorem witness_CascadeInput :
  (∃ (s : State) (n : Fin 8) (port : Fin 4) (m : ShroudMsg), s.stayActive = true ∧ s.stayEnabled port = true ∧
    s.bit P.CascadeControl n 0 = true ∧ m.version = 1 ∧ m.checkOk = true ∧ s.cascadeNamed n m = true ∧
    s.cascadeTakes n m = true ∧ (s.casc n).lastSeq.all (fun q => newer m.seq q) = true) ∧
  (∃ (s : State) (n : Fin 8) (port : Fin 4) (m : ShroudMsg) (q : Word), s.stayActive = true ∧
    s.stayEnabled port = true ∧ s.bit P.CascadeControl n 0 = true ∧ m.version = 1 ∧ m.checkOk = true ∧
    s.cascadeNamed n m = true ∧ s.cascadeTakes n m = true ∧ (s.casc n).lastSeq = some q ∧ newer m.seq q = false) ∧
  (∃ (s : State) (n : Fin 8) (m : ShroudMsg), s.bit P.CascadeControl n 0 = false ∨
    (m.version = 1 ∧ m.checkOk = true ∧ s.cascadeNamed n m = false)) ∧
  (∃ (s : State) (n : Fin 8) (port : Fin 4) (m : ShroudMsg), s.stayActive = true ∧ s.stayEnabled port = true ∧
    s.bit P.CascadeControl n 0 = true ∧ (m.version ≠ 1 ∨ m.checkOk = false)) ∧
  (∃ (s : State) (n : Fin 8) (port : Fin 4) (m : ShroudMsg), s.stayActive = true ∧ s.stayEnabled port = true ∧
    s.bit P.CascadeControl n 0 = true ∧ m.version = 1 ∧ m.checkOk = true ∧ s.cascadeNamed n m = true ∧
    s.cascadeTakes n m = false) :=
  ⟨
   ⟨(let n : Fin 8 := 0
     let port : Fin 4 := 0
     let m : ShroudMsg := { version := 1, cls := 1, format := 0x20, epoch := 1, stream := 0, seq := 2, time := 3,
                            offset := 1, count := 2, flags := 3, checkOk := true, payload := [0x11, 0x11, 0x11, 0x11,
                            0x11, 0x11, 0x11, 0x11, 0x11, 0x11, 0x11, 0x11, 0x11, 0x11, 0x11, 0x11] }
     let s : State := up
     let s : State := { (s.setBit P.StayControl port 0 true) with power :=
                                                                    { s.power with phase := .ready, sleep := .run } }
     let s : State := (s.wr P.CascadeControl n 0x2001).wr P.CascadeStream n (m.stream.setWidth 64) |>.wr
         P.CascadeWidth n 16 |>.wr P.CascadeElements n 40
     let s : State := if m.epoch.getLsbD 0 then s.setCasc n { s.casc n with lastSeq := some (m.seq - 1) } else
         s.setCasc n { s.casc n with lastSeq := none }
     s),
    0, 0, { version := 1, cls := 1, format := 0x20, epoch := 1, stream := 0, seq := 2, time := 3, offset := 1, count
              := 2, flags := 3, checkOk := true, payload :=
              [0x11, 0x11, 0x11, 0x11, 0x11, 0x11, 0x11, 0x11, 0x11, 0x11, 0x11, 0x11, 0x11, 0x11, 0x11, 0x11] },
      by decide +kernel⟩,
   ⟨(let n : Fin 8 := 0
     let port : Fin 4 := 0
     let m : ShroudMsg := { version := 1, cls := 1, format := 0x20, epoch := 1, stream := 0, seq := 2, time := 3,
                            offset := 1, count := 2, flags := 3, checkOk := true, payload := [0x11, 0x11, 0x11, 0x11,
                            0x11, 0x11, 0x11, 0x11, 0x11, 0x11, 0x11, 0x11, 0x11, 0x11, 0x11, 0x11] }
     let q : Word := 4
     let s : State := up
     let s : State := { (s.setBit P.StayControl port 0 true) with power :=
                                                                    { s.power with phase := .ready, sleep := .run } }
     let s : State := (s.wr P.CascadeControl n 0x2001).wr P.CascadeStream n (m.stream.setWidth 64) |>.wr
         P.CascadeWidth n 16 |>.wr P.CascadeElements n 40
     let s : State := s.setCasc n { s.casc n with lastSeq := some q }
     s),
    0, 0, { version := 1, cls := 1, format := 0x20, epoch := 1, stream := 0, seq := 2, time := 3, offset := 1, count
              := 2, flags := 3, checkOk := true, payload :=
              [0x11, 0x11, 0x11, 0x11, 0x11, 0x11, 0x11, 0x11, 0x11, 0x11, 0x11, 0x11, 0x11, 0x11, 0x11, 0x11] }, 4,
      by decide +kernel⟩,
   ⟨up, 0, { version := 1, cls := 3, format := 2, epoch := 1, stream := 0, seq := 2, time := 3, offset := 1, count :=
               2, flags := 3, checkOk := true, payload := [] }, by decide +kernel⟩,
   ⟨(let n : Fin 8 := 0
     let port : Fin 4 := 0
     let s : State := up
     let s : State := { (s.setBit P.StayControl port 0 true) with power :=
                                                                    { s.power with phase := .ready, sleep := .run } }
     let s : State := (s.wr P.CascadeControl n 0x2001).wr P.CascadeStream n 9
     s),
    0, 0, { version := 1, cls := 3, format := 2, epoch := 1, stream := 0, seq := 2, time := 3, offset := 1, count :=
              2, flags := 3, checkOk := false, payload := [] }, by decide +kernel⟩,
   ⟨(let n : Fin 8 := 0
     let port : Fin 4 := 0
     let s : State := up
     let s : State := { (s.setBit P.StayControl port 0 true) with power :=
                                                                    { s.power with phase := .ready, sleep := .run } }
     let s : State := (s.wr P.CascadeControl n 0x2001).wr P.CascadeStream n 9
     s),
    0, 0, { version := 1, cls := 1, format := 0x33, epoch := 1, stream := 9, seq := 2, time := 3, offset := 1, count
              := 2, flags := 3, checkOk := true, payload := [] }, by decide +kernel⟩⟩

theorem witness_CueQueueCommands :
  (∃ (s : State) (rq : Requester) (w : Wide) (h : Wide), s.grants rq P.CueWrite 0 w.toNat = true ∧
    Cw.header w = true ∧ Cw.ends w = true ∧ s.cueBuffer (cueWriter rq) = [] ∧ s.cueWords + 1 ≤ 16384 ∧
    h = Cw.fillHeader w (cueWriter rq) (s.level rq)) ∧
  (∃ (s : State) (rq : Requester) (w : Wide), s.grants rq P.CueWrite 0 w.toNat = true ∧ Cw.header w = true ∧
    Cw.ends w = true ∧ s.cueBuffer (cueWriter rq) = [] ∧ 16384 < s.cueWords + 1) ∧
  (∃ (s : State) (rq : Requester) (x : QueuedCue) (xs : List QueuedCue) (w : Wide) (ws : List Wide), rq.path = .window
    0 true ∧ s.pathServes rq = true ∧ s.faults rq (wordAddr rq P.CueRead 0) false = false ∧ s.cue.queue = x :: xs ∧
    x.words = w :: ws) ∧
  (∃ (s : State) (rq : Requester) (w : Word), rq.path = .window 0 true ∧ s.pathServes rq = true ∧
    s.faults rq (wordAddr rq P.CueRead 1) false = false ∧ (s.core 0).latch = some (P.CueRead, 0, w)) ∧
  (∃ (s : State) (rq : Requester), rq.path = .window 0 true ∧ s.pathServes rq = true ∧
    s.faults rq (wordAddr rq P.CueRead 1) false = false ∧ (s.core 0).latch = none) ∧
  (∃ (s : State) (rq : Requester) (high : Bool), rq.path ≠ .window 0 true ∧ s.hears rq 8 = true ∧
    s.faults rq (wordAddr rq P.CueRead high.toNat) false = false) ∧
  (∃ (s : State) (prio : Nat) (n : Word) (h : Wide) (as : List Wide), s.serving = true ∧ s.seeded = true ∧
    s.commands = true ∧ s.cue.queue = [⟨prio, n, h :: as⟩] ∧ as.length ≤ 15 ∧
    (h :: as).dropLast.all (fun w => !Cw.ends w) = true ∧ ((h :: as).drop as.length).all Cw.ends = true) ∧
  (∃ (s : State) (c : KernelCue), s.serving = true ∧ s.seeded = true ∧ s.commands = true ∧ s.cue.kernel = [c] ∧
    (cueFault (Cw.level c.header) s.appletHandles c.actions).isSome = true) ∧
  (∃ (s : State) (c : KernelCue) (w : Wide) (p : Nat) (e : Nat) (r : Row), s.serving = true ∧ s.seeded = true ∧
    s.commands = true ∧ s.cue.kernel = [c] ∧ c.actions = [w] ∧ s.halyard.grid.nextLatch ≤ c.target ∧ Cw.op w = 0 ∧
    Cw.param w = p ∧ Cw.elem w = e ∧ Dict.row p = some r ∧ r.ty = .u32 ∧ acts p = false ∧ r.acc ≠ .ro ∧
    r.writeLevel ≤ Cw.level c.header ∧ writable r e = true ∧ s.valueOk r e (Cw.value w).toNat = true ∧
    s.clonesAfter p [(e, (Cw.value w).toNat)] = true ∧ p ∉ [P.TickIncrement, P.KeyHash, P.TroubleWrite]) :=
  ⟨
   ⟨(let rq : Requester := { path := Path.stay 0, session := 1, addr := 1, udp := 1 }
     let s : State := up
     let s : State := (served s rq).setCueBuffer (cueWriter rq) [] |>.wr P.TwinStatus 0 0
     s),
    { path := Path.stay 0, session := 1, addr := 1, udp := 1 }, 0xc000000000000000, 0xec00001100000000,
      by decide +kernel⟩,
   ⟨(let rq : Requester := { path := Path.stay 0, session := 1, addr := 1, udp := 1 }
     let s : State := up
     let s : State := (served s rq).setCueBuffer (cueWriter rq) [] |>.wr P.TwinStatus 0 0
     let s : State := { s with cue := { s.cue with queue := [⟨0, 0, List.replicate 16384 0⟩] } }
     s),
    { path := Path.stay 0, session := 1, addr := 1, udp := 1 }, 0xc000000000000000, by decide +kernel⟩,
   ⟨(let rq : Requester := { path := Path.window 0 true, session := 1, addr := 1, udp := 1 }
     let x : QueuedCue := { priority := 3, admission := 4, words := [0] }
     let xs : List QueuedCue := [{ priority := 1, admission := 2, words := [5] }]
     let s : State := up
     let s : State := served s rq
     let s : State := { s with cue := { s.cue with queue := x :: xs } }
     s),
    { path := Path.window 0 true, session := 1, addr := 1, udp := 1 },
      { priority := 3, admission := 4, words := [0] }, [{ priority := 1, admission := 2, words := [5] }], 0, [],
      by decide +kernel⟩,
   ⟨(let rq : Requester := { path := Path.window 0 true, session := 1, addr := 1, udp := 1 }
     let w : Word := 0
     let s : State := up
     let s : State := served s rq
     let s : State := s.setCore 0 { s.core 0 with latch := some (P.CueRead, 0, w) }
     s),
    { path := Path.window 0 true, session := 1, addr := 1, udp := 1 }, 0, by decide +kernel⟩,
   ⟨(let rq : Requester := { path := Path.window 0 true, session := 1, addr := 1, udp := 1 }
     let s : State := up
     let s : State := served s rq
     let s : State := s.setCore 0 { s.core 0 with latch := none }
     s),
    { path := Path.window 0 true, session := 1, addr := 1, udp := 1 }, by decide +kernel⟩,
   ⟨(let rq : Requester := { path := Path.stay 0, session := 1, addr := 1, udp := 1 }
     let s : State := up
     let s : State := served s rq
     s),
    { path := Path.stay 0, session := 1, addr := 1, udp := 1 }, true, by decide +kernel⟩,
   ⟨(let prio : Nat := 0
     let n : Word := 1
     let h : Wide := 3
     let as : List Wide := [0x8000000000000001]
     let s : State := up
     let s : State := { (s.setBit P.TimeStatus 0 1 true |>.wr P.TwinStatus 0 0) with power := { s.power with phase :=
                                                                                                               .ready
                                                                                                               }, cue
                                                                                       := { s.cue with queue :=
                                                                                                         [⟨prio, n, h
                                                                                                         :: as⟩] } }
     s),
    0, 1, 3, [0x8000000000000001], by decide +kernel⟩,
   ⟨(let c : KernelCue := { admission := 3, header := 4, actions := [0xffffffffffffffff, 0x2300000000000000], target
                              := 5, late := false }
     let s : State := up
     let s : State := { (s.setBit P.TimeStatus 0 1 true |>.wr P.TwinStatus 0 0) with power := { s.power with phase :=
                                                                                                               .ready
                                                                                                               }, cue
                                                                                       := { s.cue with kernel := [c] }
                                                                                       }
     s),
    { admission := 3, header := 4, actions := [0xffffffffffffffff, 0x2300000000000000], target := 5, late := false },
      by decide +kernel⟩,
   ⟨(let c : KernelCue := { admission := 3, header := 0xc00000000000000, actions := [0x330000000000], target := 5,
                            late := false }
     let s : State := up
     let s : State := { (s.setBit P.TimeStatus 0 1 true |>.wr P.TwinStatus 0 0) with power := { s.power with phase :=
                                                                                                               .ready
                                                                                                               }, cue
                                                                                       := { s.cue with kernel := [c] }
                                                                                       }
     s),
    { admission := 3, header := 0xc00000000000000, actions := [0x330000000000], target := 5, late := false },
      0x330000000000, 51, 0, (rowOf 51), by decide +kernel⟩⟩

theorem witness_CommitsWaitForTheirLatch :
  (∃ (s : State) (rq : Requester) (canvas : Fin 8) (value : Word), s.grants rq P.LayerCommit canvas value.toNat = true
    ∧ (∀ l < 16, value.getLsbD l = true → s.strideBad (16 * canvas.val + l) = false)) ∧
  (∃ (s : State) (rq : Requester) (canvas : Fin 8) (value : Word) (l : Nat), s.grants rq P.LayerCommit canvas
    value.toNat = true ∧ l < 16 ∧ value.getLsbD l = true ∧ s.strideBad (16 * canvas.val + l) = true) ∧
  (∃ (s : State) (rq : Requester) (canvas : Fin 8) (value : Half), s.grants rq P.FrameCommit canvas value.toNat =
    true) ∧
  (∃ (s : State) (rq : Requester) (value : Byte), s.grants rq P.ProjectionCommit 0 value.toNat = true) :=
  ⟨
   ⟨(let rq : Requester := { path := Path.stay 0, session := 1, addr := 1, udp := 1 }
     let s : State := up
     let s : State := served s rq
     let s : State := s.wr P.TwinStatus 0 0
     s),
    { path := Path.stay 0, session := 1, addr := 1, udp := 1 }, 2, 2, by decide +kernel⟩,
   ⟨(let rq : Requester := { path := Path.stay 0, session := 1, addr := 1, udp := 1 }
     let canvas : Fin 8 := 2
     let l : Nat := 1
     let s : State := up
     let s : State := served s rq
     let s : State := s.wr P.TwinStatus 0 0
     let s : State := s.wr P.LayerControl (16*canvas.val+l) 0x20001 |>.wr P.LayerClipStride (16*canvas.val+l) 4 |>.wr
         P.LayerClipGeometry (16*canvas.val+l) 0x00100010
     s),
    { path := Path.stay 0, session := 1, addr := 1, udp := 1 }, 2, 2, 1, by decide +kernel⟩,
   ⟨(let rq : Requester := { path := Path.stay 0, session := 1, addr := 1, udp := 1 }
     let s : State := up
     let s : State := served s rq
     let s : State := s.wr P.TwinStatus 0 0
     s),
    { path := Path.stay 0, session := 1, addr := 1, udp := 1 }, 2, 2, by decide +kernel⟩,
   ⟨(let rq : Requester := { path := Path.stay 0, session := 1, addr := 1, udp := 1 }
     let s : State := up
     let s : State := served s rq
     let s : State := s.wr P.TwinStatus 0 0
     s),
    { path := Path.stay 0, session := 1, addr := 1, udp := 1 }, 0, by decide +kernel⟩⟩

theorem witness_CanvasCycle :
  (∃ (s : State), s.render.frame.isSome = true ∧ s.render.active = false ∧ s.now.driven.contains 3 = false) ∧
  (∃ (s : State), s.render.frame = none ∨ s.render.active = true ∨ s.now.driven.contains 3 = true) ∧
  (∃ (s : State) (lane : Fin 8) (k : Nat) (j : Nat), s.render.frame = some k ∧
    SMap.get 0 s.render.lanes lane = j + 1 ∧ s.render.active = true) ∧
  (∃ (s : State) (lane : Fin 8), s.render.frame = none ∨ SMap.get 0 s.render.lanes lane = 0 ∨ s.render.active = false) :=
  ⟨
   ⟨(up.setRender { up.render with active := false, frame := some 5 }), by decide +kernel⟩,
   ⟨up, by decide +kernel⟩,
   ⟨(let lane : Fin 8 := 0
     let k : Nat := 1
     let j : Nat := 0
     let s : State := up
     let s : State := s.setRender { s.render with active := true, frame := some k, lanes := SMap.set 0 s.render.lanes
                                                    lane (j + 1) }
     s),
    0, 1, 0, by decide +kernel⟩,
   ⟨up, 0, by decide +kernel⟩⟩

theorem witness_PackPassAndWindows :
  (∃ (s : State) (k : Nat) (c : FrameContext), s.sheet.closed = some k ∧ s.contextOf k = some c ∧
    s.now.driven.contains 4 = false) ∧
  (∃ (s : State) (k : Nat) (c : FrameContext), s.sheet.closed = some k ∧ s.contextOf k = some c ∧
    s.now.driven.contains 4 = false ∧
    (c.output = false ∨ c.dropped = true ∨ s.sendsOutput = false ∨ s.sheet.stopping = true ∨ s.timeState = Ts.unset)) ∧
  (∃ (s : State), (s.sheet.closed = none ∧ s.render.frame = none) ∨ s.now.driven.contains 4 = true) ∧
  (∃ (s : State) (x : Packed), s.sheet.packing = some x ∧ (x.hashes.map (·.1)).Pairwise (· < ·) ∧
    (∀ h ∈ x.hashes, h.1 < 65)) ∧
  (∃ (s : State), s.sheet.packing = none) :=
  ⟨
   ⟨(let k : Nat := 5
     let s : State := up
     let s : State := { s with sheet := { s.sheet with contexts := [⟨5, 0, 0, [], [], [], false, [], false, false⟩] }
                                 }
     let s : State := { s with sheet := { s.sheet with closed := some k } }
     s),
    5, { frame := 5, time := 0, opens := 0, live := [], blobs := [], merged := [], phaseChanged := false, changed :=
           [], output := false, dropped := false }, by decide +kernel⟩,
   ⟨(let k : Nat := 0
     let c : FrameContext := { frame := 0, time := 0, opens := 0, live := [], blobs := [], merged := [], phaseChanged
                                 := false, changed := [], output := true, dropped := false }
     let s : State := up
     let s : State := { s with sheet := { s.sheet with contexts := c :: s.sheet.contexts.drop 1 } }
     let s : State := { s with sheet := { s.sheet with closed := some k } }
     s),
    0, { frame := 0, time := 0, opens := 0, live := [], blobs := [], merged := [], phaseChanged := false, changed :=
           [], output := true, dropped := false }, by decide +kernel⟩,
   ⟨{ (up.setRender { up.render with frame := none }) with sheet := { up.sheet with closed := none } },
       by decide +kernel⟩,
   ⟨(let x : Packed := { frame := 7, time := 3, started := 9, traffic := [], hashes := [(0, 0), (1, 0), (2, 0),
                         (3, 0), (4, 0), (5, 0), (6, 0), (7, 0), (8, 0), (9, 0), (10, 0), (11, 0), (12, 0), (13, 0),
                         (14, 0), (15, 0), (16, 0), (17, 0), (18, 0), (19, 0), (20, 0), (21, 0), (22, 0), (23, 0),
                         (24, 0), (25, 0), (26, 0), (27, 0), (28, 0), (29, 0), (30, 0), (31, 0), (32, 0), (33, 0),
                         (34, 0), (35, 0), (36, 0), (37, 0), (38, 0), (39, 0), (40, 0), (41, 0), (42, 0), (43, 0),
                         (44, 0), (45, 0), (46, 0), (47, 0), (48, 0), (49, 0), (50, 0), (51, 0), (52, 0), (53, 0),
                         (54, 0), (55, 0), (56, 0), (57, 0), (58, 0), (59, 0), (60, 0), (61, 0), (62, 0), (63, 0),
                         (64, 0)], masthead := [], dropped := false, overflow := [(2, 3)] }
     let s : State := up
     let s : State := { s with sheet := { s.sheet with packing := some x } }
     s),
    { frame := 7, time := 3, started := 9, traffic := [], hashes := [(0, 0), (1, 0), (2, 0), (3, 0), (4, 0), (5, 0),
      (6, 0), (7, 0), (8, 0), (9, 0), (10, 0), (11, 0), (12, 0), (13, 0), (14, 0), (15, 0), (16, 0), (17, 0), (18, 0),
      (19, 0), (20, 0), (21, 0), (22, 0), (23, 0), (24, 0), (25, 0), (26, 0), (27, 0), (28, 0), (29, 0), (30, 0),
      (31, 0), (32, 0), (33, 0), (34, 0), (35, 0), (36, 0), (37, 0), (38, 0), (39, 0), (40, 0), (41, 0), (42, 0),
      (43, 0), (44, 0), (45, 0), (46, 0), (47, 0), (48, 0), (49, 0), (50, 0), (51, 0), (52, 0), (53, 0), (54, 0),
      (55, 0), (56, 0), (57, 0), (58, 0), (59, 0), (60, 0), (61, 0), (62, 0), (63, 0), (64, 0)], masthead := [],
      dropped := false, overflow := [(2, 3)] }, by decide +kernel⟩,
   ⟨up, by decide +kernel⟩⟩

theorem witness_PortsSendByStrictPriority :
  (∃ (s : State) (port : Fin 64) (x : Egress) (y : Egress) (ys : List Egress), (s.port port).sending = some x ∧
    s.shroudUp port = true ∧ s.hpllLocked = true ∧ (s.port port).express = y :: ys) ∧
  (∃ (s : State) (port : Fin 64) (x : Egress) (y : Egress) (ys : List Egress), (s.port port).sending = some x ∧
    s.shroudUp port = true ∧ s.hpllLocked = true ∧ (s.port port).express = [] ∧ (s.port port).time = y :: ys) ∧
  (∃ (s : State) (port : Fin 64), (s.port port).sending.isSome = true ∧ s.shroudUp port = false) ∧
  (∃ (s : State) (port : Fin 64), (s.port port).sending = none) ∧
  (∃ (s : State) (port : Fin 4) (x : Egress), (s.stayPort port).sending = some x) ∧
  (∃ (s : State) (port : Fin 4), (s.stayPort port).sending = none) ∧
  (∃ (s : State) (port : Fin 64) (k : Nat) (ks : List Nat), SMap.get [] s.sheet.dataFrame port = k :: ks ∧
    (s.frameView k).lvN P.SacnSyncAddress port ≠ 0 ∧ (s.frameView k).sacnMode port = true ∧ s.portsRun = true ∧
    s.shroudUp port = true ∧ (s.port port).sending.isSome = true ∧ (s.port port).time.length < 8) ∧
  (∃ (s : State) (port : Fin 64), SMap.get [] s.sheet.dataFrame port = []) :=
  ⟨
   ⟨(let port : Fin 64 := 0
     let x : Egress := { frame := TxFrame.bulk 0 0 [], len := 70, tag := none, net := none }
     let y : Egress := { frame := TxFrame.bulk 0 0 [], len := 64, tag := none, net := none }
     let ys : List Egress := [{ frame := TxFrame.bulk 0 0 [], len := 64, tag := none, net := none }]
     let s : State := up
     let s : State := (s.setBit P.LinkStatus port 0 true).setBit P.PllLockStatus 0 1 true
     let s : State := s.setPort port { s.port port with sending := some x, express := y :: ys }
     s),
    0, { frame := TxFrame.bulk 0 0 [], len := 70, tag := none, net := none },
      { frame := TxFrame.bulk 0 0 [], len := 64, tag := none, net := none },
      [{ frame := TxFrame.bulk 0 0 [], len := 64, tag := none, net := none }], by decide +kernel⟩,
   ⟨(let port : Fin 64 := 0
     let x : Egress := { frame := TxFrame.bulk 0 0 [], len := 70, tag := none, net := none }
     let y : Egress := { frame := TxFrame.bulk 0 0 [], len := 64, tag := none, net := none }
     let ys : List Egress := [{ frame := TxFrame.bulk 0 0 [], len := 64, tag := none, net := none }]
     let s : State := up
     let s : State := (s.setBit P.LinkStatus port 0 true).setBit P.PllLockStatus 0 1 true
     let s : State := s.setPort port { s.port port with sending := some x, express := [], time := y :: ys }
     s),
    0, { frame := TxFrame.bulk 0 0 [], len := 70, tag := none, net := none },
      { frame := TxFrame.bulk 0 0 [], len := 64, tag := none, net := none },
      [{ frame := TxFrame.bulk 0 0 [], len := 64, tag := none, net := none }], by decide +kernel⟩,
   ⟨(let port : Fin 64 := 0
     let s : State := up
     let s : State := s.setBit P.LinkStatus port 0 false
     let s : State := s.setPort port { s.port port with sending := some ⟨.bulk 0 0 [], 70, none, none⟩ }
     s),
    0, by decide +kernel⟩,
   ⟨up, 0, by decide +kernel⟩,
   ⟨(let port : Fin 4 := 0
     let x : Egress := { frame := TxFrame.bulk 0 0 [], len := 70, tag := none, net := none }
     let s : State := up
     let s : State := s.setStayPort port { s.stayPort port with sending := some x }
     s),
    0, { frame := TxFrame.bulk 0 0 [], len := 70, tag := none, net := none }, by decide +kernel⟩,
   ⟨up, 0, by decide +kernel⟩,
   ⟨(let port : Fin 64 := 0
     let k : Nat := 1
     let ks : List Nat := [0]
     let s : State := up
     let s : State := { s with power := { s.power with phase := .ready, sleep := .run } }
     let s : State := (s.setBit P.LinkStatus port 0 true).setBit P.PllLockStatus 0 1 true
     let s : State := s.setPort port { s.port port with sending := some ⟨.bulk 0 0 [], 70, none, none⟩ }
     let s : State := { s with sheet := { s.sheet with dataFrame := SMap.set [] s.sheet.dataFrame port (k :: ks) } }
     let s : State := { s with sheet := { s.sheet with contexts := [] } }
     let s : State := (s.putLive (Dict.key P.SacnSyncAddress port) 77).putLive (Dict.key P.PortMode port) 1
     s),
    0, 1, [0], by decide +kernel⟩,
   ⟨up, 0, by decide +kernel⟩⟩

theorem witness_ShroudLinksAndReception :
  (∃ (s : State) (port : Fin 64), s.portsRun = true ∧ s.shroudEnabled port = true ∧ s.bit P.LinkStatus port 7 = false) ∧
  (∃ (s : State) (port : Fin 64), s.portsRun = false ∨ s.shroudEnabled port = false ∨ s.bit P.LinkStatus port 7 =
    true) ∧
  (∃ (s : State) (port : Fin 64), s.shroudUp port = true) ∧
  (∃ (s : State) (port : Fin 64), s.shroudUp port = false) ∧
  (∃ (s : State) (port : Fin 64) (bytes : List Byte), s.shroudHears = true ∧ s.shroudUp port = true ∧
    bytes.length < 64) ∧
  (∃ (s : State) (port : Fin 64) (bytes : List Byte), s.shroudHears = true ∧ s.shroudUp port = true ∧
    64 ≤ bytes.length ∧ s.rdN P.ShroudMaxFrame port < bytes.length) ∧
  (∃ (s : State) (port : Fin 64) (bytes : List Byte) (fcsOk : Bool), s.shroudHears = true ∧ s.shroudUp port = true ∧
    64 ≤ bytes.length ∧ bytes.length ≤ s.rdN P.ShroudMaxFrame port ∧ fcsOk = false) ∧
  (∃ (s : State) (port : Fin 64) (bytes : List Byte) (fcsOk : Bool), s.shroudHears = true ∧ s.shroudUp port = true ∧
    64 ≤ bytes.length ∧ bytes.length ≤ s.rdN P.ShroudMaxFrame port ∧ fcsOk = true) ∧
  (∃ (s : State) (port : Fin 64), s.shroudUp port = false ∨ s.shroudHears = false) :=
  ⟨
   ⟨(let port : Fin 64 := 0
     let s : State := up
     let s : State := { s with power := { s.power with phase := .ready, sleep := .run } }
     let s : State := (s.wr P.LinkStatus port 0).setBit P.PhyControl port 0 true
     s),
    0, by decide +kernel⟩,
   ⟨up, 0, by decide +kernel⟩,
   ⟨(let port : Fin 64 := 0
     let s : State := up
     let s : State := s.setBit P.LinkStatus port 0 true
     s),
    0, by decide +kernel⟩,
   ⟨up, 0, by decide +kernel⟩,
   ⟨(let port : Fin 64 := 0
     let s : State := up
     let s : State := { s with power := { s.power with phase := .ready, sleep := .run } }
     let s : State := s.setBit P.LinkStatus port 0 true |>.wr P.ShroudMaxFrame port 1522
     s),
    0, [0x7f], by decide +kernel⟩,
   ⟨(let port : Fin 64 := 0
     let s : State := up
     let s : State := { s with power := { s.power with phase := .ready, sleep := .run } }
     let s : State := s.setBit P.LinkStatus port 0 true |>.wr P.ShroudMaxFrame port 1522
     s),
    0, [0x7f, 0, 0, 0, 0, 0, 0, 0, 0, 0, 0, 0, 0, 0, 0, 0, 0, 0, 0, 0, 0, 0, 0, 0, 0, 0, 0, 0, 0, 0, 0, 0, 0, 0, 0, 0,
      0, 0, 0, 0, 0, 0, 0, 0, 0, 0, 0, 0, 0, 0, 0, 0, 0, 0, 0, 0, 0, 0, 0, 0, 0, 0, 0, 0, 0, 0, 0, 0, 0, 0, 0, 0, 0,
      0, 0, 0, 0, 0, 0, 0, 0, 0, 0, 0, 0, 0, 0, 0, 0, 0, 0, 0, 0, 0, 0, 0, 0, 0, 0, 0, 0, 0, 0, 0, 0, 0, 0, 0, 0, 0,
      0, 0, 0, 0, 0, 0, 0, 0, 0, 0, 0, 0, 0, 0, 0, 0, 0, 0, 0, 0, 0, 0, 0, 0, 0, 0, 0, 0, 0, 0, 0, 0, 0, 0, 0, 0, 0,
      0, 0, 0, 0, 0, 0, 0, 0, 0, 0, 0, 0, 0, 0, 0, 0, 0, 0, 0, 0, 0, 0, 0, 0, 0, 0, 0, 0, 0, 0, 0, 0, 0, 0, 0, 0, 0,
      0, 0, 0, 0, 0, 0, 0, 0, 0, 0, 0, 0, 0, 0, 0, 0, 0, 0, 0, 0, 0, 0, 0, 0, 0, 0, 0, 0, 0, 0, 0, 0, 0, 0, 0, 0, 0,
      0, 0, 0, 0, 0, 0, 0, 0, 0, 0, 0, 0, 0, 0, 0, 0, 0, 0, 0, 0, 0, 0, 0, 0, 0, 0, 0, 0, 0, 0, 0, 0, 0, 0, 0, 0, 0,
      0, 0, 0, 0, 0, 0, 0, 0, 0, 0, 0, 0, 0, 0, 0, 0, 0, 0, 0, 0, 0, 0, 0, 0, 0, 0, 0, 0, 0, 0, 0, 0, 0, 0, 0, 0, 0,
      0, 0, 0, 0, 0, 0, 0, 0, 0, 0, 0, 0, 0, 0, 0, 0, 0, 0, 0, 0, 0, 0, 0, 0, 0, 0, 0, 0, 0, 0, 0, 0, 0, 0, 0, 0, 0,
      0, 0, 0, 0, 0, 0, 0, 0, 0, 0, 0, 0, 0, 0, 0, 0, 0, 0, 0, 0, 0, 0, 0, 0, 0, 0, 0, 0, 0, 0, 0, 0, 0, 0, 0, 0, 0,
      0, 0, 0, 0, 0, 0, 0, 0, 0, 0, 0, 0, 0, 0, 0, 0, 0, 0, 0, 0, 0, 0, 0, 0, 0, 0, 0, 0, 0, 0, 0, 0, 0, 0, 0, 0, 0,
      0, 0, 0, 0, 0, 0, 0, 0, 0, 0, 0, 0, 0, 0, 0, 0, 0, 0, 0, 0, 0, 0, 0, 0, 0, 0, 0, 0, 0, 0, 0, 0, 0, 0, 0, 0, 0,
      0, 0, 0, 0, 0, 0, 0, 0, 0, 0, 0, 0, 0, 0, 0, 0, 0, 0, 0, 0, 0, 0, 0, 0, 0, 0, 0, 0, 0, 0, 0, 0, 0, 0, 0, 0, 0,
      0, 0, 0, 0, 0, 0, 0, 0, 0, 0, 0, 0, 0, 0, 0, 0, 0, 0, 0, 0, 0, 0, 0, 0, 0, 0, 0, 0, 0, 0, 0, 0, 0, 0, 0, 0, 0,
      0, 0, 0, 0, 0, 0, 0, 0, 0, 0, 0, 0, 0, 0, 0, 0, 0, 0, 0, 0, 0, 0, 0, 0, 0, 0, 0, 0, 0, 0, 0, 0, 0, 0, 0, 0, 0,
      0, 0, 0, 0, 0, 0, 0, 0, 0, 0, 0, 0, 0, 0, 0, 0, 0, 0, 0, 0, 0, 0, 0, 0, 0, 0, 0, 0, 0, 0, 0, 0, 0, 0, 0, 0, 0,
      0, 0, 0, 0, 0, 0, 0, 0, 0, 0, 0, 0, 0, 0, 0, 0, 0, 0, 0, 0, 0, 0, 0, 0, 0, 0, 0, 0, 0, 0, 0, 0, 0, 0, 0, 0, 0,
      0, 0, 0, 0, 0, 0, 0, 0, 0, 0, 0, 0, 0, 0, 0, 0, 0, 0, 0, 0, 0, 0, 0, 0, 0, 0, 0, 0, 0, 0, 0, 0, 0, 0, 0, 0, 0,
      0, 0, 0, 0, 0, 0, 0, 0, 0, 0, 0, 0, 0, 0, 0, 0, 0, 0, 0, 0, 0, 0, 0, 0, 0, 0, 0, 0, 0, 0, 0, 0, 0, 0, 0, 0, 0,
      0, 0, 0, 0, 0, 0, 0, 0, 0, 0, 0, 0, 0, 0, 0, 0, 0, 0, 0, 0, 0, 0, 0, 0, 0, 0, 0, 0, 0, 0, 0, 0, 0, 0, 0, 0, 0,
      0, 0, 0, 0, 0, 0, 0, 0, 0, 0, 0, 0, 0, 0, 0, 0, 0, 0, 0, 0, 0, 0, 0, 0, 0, 0, 0, 0, 0, 0, 0, 0, 0, 0, 0, 0, 0,
      0, 0, 0, 0, 0, 0, 0, 0, 0, 0, 0, 0, 0, 0, 0, 0, 0, 0, 0, 0, 0, 0, 0, 0, 0, 0, 0, 0, 0, 0, 0, 0, 0, 0, 0, 0, 0,
      0, 0, 0, 0, 0, 0, 0, 0, 0, 0, 0, 0, 0, 0, 0, 0, 0, 0, 0, 0, 0, 0, 0, 0, 0, 0, 0, 0, 0, 0, 0, 0, 0, 0, 0, 0, 0,
      0, 0, 0, 0, 0, 0, 0, 0, 0, 0, 0, 0, 0, 0, 0, 0, 0, 0, 0, 0, 0, 0, 0, 0, 0, 0, 0, 0, 0, 0, 0, 0, 0, 0, 0, 0, 0,
      0, 0, 0, 0, 0, 0, 0, 0, 0, 0, 0, 0, 0, 0, 0, 0, 0, 0, 0, 0, 0, 0, 0, 0, 0, 0, 0, 0, 0, 0, 0, 0, 0, 0, 0, 0, 0,
      0, 0, 0, 0, 0, 0, 0, 0, 0, 0, 0, 0, 0, 0, 0, 0, 0, 0, 0, 0, 0, 0, 0, 0, 0, 0, 0, 0, 0, 0, 0, 0, 0, 0, 0, 0, 0,
      0, 0, 0, 0, 0, 0, 0, 0, 0, 0, 0, 0, 0, 0, 0, 0, 0, 0, 0, 0, 0, 0, 0, 0, 0, 0, 0, 0, 0, 0, 0, 0, 0, 0, 0, 0, 0,
      0, 0, 0, 0, 0, 0, 0, 0, 0, 0, 0, 0, 0, 0, 0, 0, 0, 0, 0, 0, 0, 0, 0, 0, 0, 0, 0, 0, 0, 0, 0, 0, 0, 0, 0, 0, 0,
      0, 0, 0, 0, 0, 0, 0, 0, 0, 0, 0, 0, 0, 0, 0, 0, 0, 0, 0, 0, 0, 0, 0, 0, 0, 0, 0, 0, 0, 0, 0, 0, 0, 0, 0, 0, 0,
      0, 0, 0, 0, 0, 0, 0, 0, 0, 0, 0, 0, 0, 0, 0, 0, 0, 0, 0, 0, 0, 0, 0, 0, 0, 0, 0, 0, 0, 0, 0, 0, 0, 0, 0, 0, 0,
      0, 0, 0, 0, 0, 0, 0, 0, 0, 0, 0, 0, 0, 0, 0, 0, 0, 0, 0, 0, 0, 0, 0, 0, 0, 0, 0, 0, 0, 0, 0, 0, 0, 0, 0, 0, 0,
      0, 0, 0, 0, 0, 0, 0, 0, 0, 0, 0, 0, 0, 0, 0, 0, 0, 0, 0, 0, 0, 0, 0, 0, 0, 0, 0, 0, 0, 0, 0, 0, 0, 0, 0, 0, 0,
      0, 0, 0, 0, 0, 0, 0, 0, 0, 0, 0, 0, 0, 0, 0, 0, 0, 0, 0, 0, 0, 0, 0, 0, 0, 0, 0, 0, 0, 0, 0, 0, 0, 0, 0, 0, 0,
      0, 0, 0, 0, 0, 0, 0, 0, 0, 0, 0, 0, 0, 0, 0, 0, 0, 0, 0, 0, 0, 0, 0, 0, 0, 0, 0, 0, 0, 0, 0, 0, 0, 0, 0, 0, 0,
      0, 0, 0, 0, 0, 0, 0, 0, 0, 0, 0, 0, 0, 0, 0, 0, 0, 0, 0, 0, 0, 0, 0, 0, 0, 0, 0, 0, 0, 0, 0, 0, 0, 0, 0, 0, 0,
      0, 0, 0, 0, 0, 0, 0, 0, 0, 0, 0, 0, 0, 0, 0, 0, 0, 0, 0, 0, 0, 0, 0, 0, 0, 0, 0, 0, 0, 0, 0, 0, 0, 0, 0, 0, 0,
      0, 0, 0, 0, 0, 0, 0, 0, 0, 0, 0, 0, 0, 0, 0, 0, 0, 0, 0, 0, 0, 0, 0, 0, 0, 0, 0, 0, 0, 0, 0, 0, 0, 0, 0, 0, 0,
      0, 0, 0, 0, 0, 0, 0, 0, 0, 0, 0, 0, 0, 0, 0, 0, 0, 0, 0, 0, 0, 0, 0, 0, 0, 0, 0, 0, 0, 0, 0, 0, 0, 0, 0, 0, 0,
      0, 0, 0, 0, 0, 0, 0, 0, 0, 0, 0, 0, 0, 0, 0, 0, 0, 0, 0, 0, 0, 0, 0, 0, 0, 0, 0, 0, 0, 0, 0, 0, 0, 0, 0, 0, 0,
      0, 0, 0, 0, 0, 0, 0, 0, 0, 0, 0, 0, 0, 0, 0, 0, 0, 0, 0, 0, 0, 0, 0, 0, 0, 0, 0, 0, 0, 0, 0, 0, 0, 0, 0, 0, 0,
      0, 0, 0, 0, 0, 0, 0, 0, 0, 0, 0, 0, 0, 0, 0, 0, 0, 0, 0, 0, 0, 0, 0, 0, 0, 0, 0, 0, 0, 0, 0, 0, 0, 0, 0, 0, 0,
      0, 0, 0, 0, 0, 0, 0, 0, 0, 0, 0, 0, 0, 0, 0, 0, 0, 0, 0, 0, 0, 0, 0, 0, 0, 0, 0, 0, 0, 0, 0, 0, 0, 0, 0, 0, 0,
      0, 0, 0, 0, 0, 0, 0, 0, 0, 0, 0, 0, 0, 0, 0, 0, 0, 0, 0, 0, 0, 0, 0, 0, 0, 0, 0, 0, 0, 0, 0, 0, 0, 0, 0, 0, 0,
      0, 0, 0, 0, 0, 0, 0, 0, 0, 0, 0], by decide +kernel⟩,
   ⟨(let port : Fin 64 := 0
     let s : State := up
     let s : State := { s with power := { s.power with phase := .ready, sleep := .run } }
     let s : State := s.setBit P.LinkStatus port 0 true |>.wr P.ShroudMaxFrame port 1522
     s),
    0, [0x7f, 0, 0, 0, 0, 0, 0, 0, 0, 0, 0, 0, 0, 0, 0, 0, 0, 0, 0, 0, 0, 0, 0, 0, 0, 0, 0, 0, 0, 0, 0, 0, 0, 0, 0, 0,
      0, 0, 0, 0, 0, 0, 0, 0, 0, 0, 0, 0, 0, 0, 0, 0, 0, 0, 0, 0, 0, 0, 0, 0, 0, 0, 0, 0, 0, 0, 0, 0, 0, 0, 0], false,
      by decide +kernel⟩,
   ⟨(let port : Fin 64 := 0
     let s : State := up
     let s : State := { s with power := { s.power with phase := .ready, sleep := .run } }
     let s : State := s.setBit P.LinkStatus port 0 true |>.wr P.ShroudMaxFrame port 1522
     s),
    0, [0x7f, 3, 3, 3, 3, 3, 3, 3, 3, 3, 3, 3, 0x86, 0xdd, 0x60, 0x11, 0x11, 0x11, 0x11, 0x11, 0x11, 0x11, 0x11, 0x11,
      0x11, 0x11, 0x11, 0x11, 0x11, 0x11, 0x11, 0x11, 0x11, 0x11, 0x11, 0x11, 0x11, 0x11, 0x11, 0x11, 0x11, 0x11,
      0x11, 0x11, 0x11, 0x11, 0x11, 0x11, 0x11, 0x11, 0x11, 0x11, 0x11, 0x11, 0x11, 0x11, 0x11, 0x11, 0x11, 0x11,
      0x11, 0x11, 0x11, 0x11, 0x11, 0x11, 0x11, 0x11, 0x11, 0x11, 0x11, 0x11, 0x11, 0x11, 0x11], true,
      by decide +kernel⟩,
   ⟨up, 0, by decide +kernel⟩⟩

theorem witness_ExpressPath :
  (∃ (s : State) (port : Fin 4) (f : RxFrame) (v6 : Bool) (dst : IpDst) (src : BitVec 128) (sp : Half) (frag : Bool)
    (d : List Byte), s.stayActive = true ∧ s.stayUp port = true ∧ s.stayEnabled port = true ∧
    s.rdN P.ExpressEnable 0 = 1 ∧ s.accepts port f = true ∧ s.vlanOk port f = true ∧
    f.payload = .udp v6 dst src sp 49230 frag d ∧ shroudClass d = Cls.express ∧ frag = false ∧
    s.expressTaken v6 dst f.len d = true) ∧
  (∃ (s : State) (port : Fin 4) (f : RxFrame) (v6 : Bool) (dst : IpDst) (src : BitVec 128) (sp : Half) (frag : Bool)
    (d : List Byte), s.stayActive = true ∧ s.stayUp port = true ∧ s.stayEnabled port = true ∧
    s.rdN P.ExpressEnable 0 = 1 ∧ s.accepts port f = true ∧ s.vlanOk port f = true ∧
    f.payload = .udp v6 dst src sp 49230 frag d ∧ shroudClass d = Cls.express ∧
    (frag = true ∨ s.expressTaken v6 dst f.len d = false)) ∧
  (∃ (s : State) (port : Fin 4), s.stayActive = false ∨ s.stayUp port = false ∨ s.stayEnabled port = false ∨ s.rdN
    P.ExpressEnable 0 ≠ 1) ∧
  (∃ (s : State) (port : Fin 4), (SMap.get ExpressCopy.init s.shroud.express port).taken = true) ∧
  (∃ (s : State) (port : Fin 4) (l : List Nat), SMap.get ExpressCopy.init s.shroud.express port = ⟨l, true⟩ ∧
    l.Nodup ∧ (∀ p ∈ l, s.expressBegun port p = false)) ∧
  (∃ (s : State) (port : Fin 4) (l : List Nat), SMap.get ExpressCopy.init s.shroud.express port = ⟨l, true⟩ ∧
    l.Nodup ∧ l.any (fun p => s.expressBegun port p) = true) ∧
  (∃ (s : State) (port : Fin 4), (SMap.get ExpressCopy.init s.shroud.express port).taken = false) :=
  ⟨
   ⟨(let port : Fin 4 := 0
     let f : RxFrame := { len := 65, fcsOk := true, mac := MacDst.own, vid := none, stacked := false, payload :=
                            RxPayload.udp false (IpDst.unicast) 1 2 0xc04e false [0x13, 0, 0x30, 0, 0, 5, 0, 0, 0, 0,
                          0, 0, 0, 0, 0, 0, 0, 0, 0, 0, 0x3c, 0x8c, 0, 0, 0, 0, 0, 0, 0, 0, 0, 0, 1, 2], srcMac := 0,
                          corrected := 2, uncorrected := 1 }
     let v6 : Bool := false
     let s : State := up
     let s : State := { s with power := { s.power with phase := .ready, sleep := .run } }
     let s : State := (s.setBit P.StayControl port 0 true).setBit P.StayStatus port 0 true |>.wr P.ExpressEnable 0 1
         |>.wr P.StayVlan port 0 |>.wr P.ExpressStreamBase 0 (BitVec.ofNat 64 (f.len % 7))
     let s : State := (List.range 256).foldl (fun s e => s.wr P.ExpressRouteLow e 0xF) s
     let s : State := [1,3].foldl (fun s p =>
         (s.setBit P.LinkStatus p 0 true).setPort p { s.port p with sending := some ⟨.bulk 0 0 [], 70, none, none⟩,
                                                                    express := if p = 3 && v6 then List.replicate 4
                                                                      ⟨.bulk 0 0 [], 70, none, none⟩ else [] }) s
     s),
    0, { len := 65, fcsOk := true, mac := MacDst.own, vid := none, stacked := false, payload := RxPayload.udp false
           (IpDst.unicast) 1 2 0xc04e false [0x13, 0, 0x30, 0, 0, 5, 0, 0, 0, 0, 0, 0, 0, 0, 0, 0, 0, 0, 0, 0, 0x3c,
         0x8c, 0, 0, 0, 0, 0, 0, 0, 0, 0, 0, 1, 2], srcMac := 0, corrected := 2, uncorrected := 1 }, false,
      IpDst.unicast, 1, 2, false, [0x13, 0, 0x30, 0, 0, 5, 0, 0, 0, 0, 0, 0, 0, 0, 0, 0, 0, 0, 0, 0, 0x3c, 0x8c, 0, 0,
      0, 0, 0, 0, 0, 0, 0, 0, 1, 2], by decide +kernel⟩,
   ⟨(let port : Fin 4 := 0
     let f : RxFrame := { len := 65, fcsOk := true, mac := MacDst.own, vid := none, stacked := false, payload :=
                            RxPayload.udp false (IpDst.broadcast) 1 2 0xc04e false [0x13, 0, 0x30, 0, 0, 5, 0, 0, 0,
                          0, 0, 0, 0, 0, 0, 0, 0, 0, 0, 0, 0x3c, 0x8c, 0, 0, 0, 0, 0, 0, 0, 0, 0, 0, 1, 2], srcMac :=
                            0, corrected := 2, uncorrected := 1 }
     let s : State := up
     let s : State := { s with power := { s.power with phase := .ready, sleep := .run } }
     let s : State := (s.setBit P.StayControl port 0 true).setBit P.StayStatus port 0 true |>.wr P.ExpressEnable 0 1
         |>.wr P.StayVlan port 0 |>.wr P.ExpressStreamBase 0 (BitVec.ofNat 64 (f.len % 7))
     s),
    0, { len := 65, fcsOk := true, mac := MacDst.own, vid := none, stacked := false, payload := RxPayload.udp false
           (IpDst.broadcast) 1 2 0xc04e false [0x13, 0, 0x30, 0, 0, 5, 0, 0, 0, 0, 0, 0, 0, 0, 0, 0, 0, 0, 0, 0, 0x3c,
         0x8c, 0, 0, 0, 0, 0, 0, 0, 0, 0, 0, 1, 2], srcMac := 0, corrected := 2, uncorrected := 1 }, false,
      IpDst.broadcast, 1, 2, false, [0x13, 0, 0x30, 0, 0, 5, 0, 0, 0, 0, 0, 0, 0, 0, 0, 0, 0, 0, 0, 0, 0x3c, 0x8c, 0,
      0, 0, 0, 0, 0, 0, 0, 0, 0, 1, 2], by decide +kernel⟩,
   ⟨up, 0, by decide +kernel⟩,
   ⟨(let port : Fin 4 := 0
     let s : State := up
     let s : State := s.setExpress port ⟨[1,3],true⟩
     s),
    0, by decide +kernel⟩,
   ⟨(let port : Fin 4 := 0
     let l : List Nat := [1, 3]
     let s : State := up
     let s : State := s.setExpress port ⟨l,true⟩
     let s : State := l.foldl (fun s p =>
         s.setPort p { s.port p with sending := none, express := (s.port p).express ++
                                       [⟨.express port false [3], 70, none, none⟩] }) s
     s),
    0, [1, 3], by decide +kernel⟩,
   ⟨(let port : Fin 4 := 0
     let l : List Nat := [1, 3]
     let s : State := up
     let s : State := s.setExpress port ⟨l,true⟩
     let s : State := s.setPort 1 { s.port 1 with sending := some ⟨.express port false [3], 70, none, none⟩, express
                                                    := [] }
     s),
    0, [1, 3], by decide +kernel⟩,
   ⟨up, 0, by decide +kernel⟩⟩

theorem witness_SnapshotAndCableTest :
  (∃ (s : State) (rq : Requester) (value : Word), s.grants rq P.SnapshotControl 0 value.toNat = true ∧
    value.getLsbD 0 = true ∧ value.getLsbD 1 = false) ∧
  (∃ (s : State) (rq : Requester) (value : Word), s.grants rq P.SnapshotControl 0 value.toNat = true ∧
    value.getLsbD 0 = true ∧ value.getLsbD 1 = true ∧ due ((s.rd P.SnapshotAt 0).setWidth 32) s.tns = false) ∧
  (∃ (s : State) (rq : Requester) (value : Word), s.grants rq P.SnapshotControl 0 value.toNat = true ∧
    value.getLsbD 0 = true ∧ value.getLsbD 1 = true ∧ due ((s.rd P.SnapshotAt 0).setWidth 32) s.tns = true) ∧
  (∃ (s : State), s.bit P.SnapshotControl 0 2 = true ∧ s.shroud.captured = none ∧
    due ((s.rd P.SnapshotAt 0).setWidth 32) s.tns = true) ∧
  (∃ (s : State), s.bit P.SnapshotControl 0 2 = false ∨ s.shroud.captured.isSome = true ∨ due
    ((s.rd P.SnapshotAt 0).setWidth 32) s.tns = false) ∧
  (∃ (s : State) (b : List Byte), s.shroud.captured = some b) ∧
  (∃ (s : State), s.shroud.captured = none) ∧
  (∃ (s : State) (rq : Requester) (value : Word) (p : Nat) (ps : List Nat), (s.grants rq P.CableTestControl 0
    value.toNat = true ∧ value.getLsbD 0 = true ∧ (s.arbitrate rq).taken Res.adc = false ∧ value.getLsbD 3 = true ∧
    (List.range 64).filter (fun q => s.bit P.CableTestPorts 0 q) = p :: ps)) ∧
  (∃ (s : State) (rq : Requester) (value : Word), (s.grants rq P.CableTestControl 0 value.toNat = true ∧
    value.getLsbD 0 = true ∧ (s.arbitrate rq).taken Res.adc = true)) ∧
  (∃ (s : State) (rq : Requester), s.grants rq P.CableTestControl 0 (4 + bitAt 3 (s.bit P.CableTestControl 0 3)) =
    true ∧ s.bit P.CableTestControl 0 1 = true) ∧
  (∃ (s : State) (p : Nat), s.shroud.cable = [p] ∧ p < 64) ∧
  (∃ (s : State) (p : Nat) (q : Nat), s.shroud.cable = [p, q] ∧ p ≠ q ∧ p < 64 ∧ q < 64 ∧ s.shroud.cableAbort = true) ∧
  (∃ (s : State), s.shroud.cable = []) :=
  ⟨
   ⟨(let rq : Requester := { path := Path.stay 0, session := 1, addr := 1, udp := 1 }
     let s : State := up
     let s : State := served s rq
     s),
    { path := Path.stay 0, session := 1, addr := 1, udp := 1 }, 1, by decide +kernel⟩,
   ⟨(let rq : Requester := { path := Path.stay 0, session := 1, addr := 1, udp := 1 }
     let s : State := up
     let s : State := served s rq
     let s : State := s.wr P.SnapshotAt 0 ((s.tns + 9000).setWidth 64)
     s),
    { path := Path.stay 0, session := 1, addr := 1, udp := 1 }, 3, by decide +kernel⟩,
   ⟨(let rq : Requester := { path := Path.stay 0, session := 1, addr := 1, udp := 1 }
     let s : State := up
     let s : State := served s rq
     let s : State := s.wr P.SnapshotAt 0 ((s.tns - 4).setWidth 64)
     s),
    { path := Path.stay 0, session := 1, addr := 1, udp := 1 }, 3, by decide +kernel⟩,
   ⟨((up.setBit P.SnapshotControl 0 2 true).wr P.SnapshotAt 0 ((up.tns - 4).setWidth 64)), by decide +kernel⟩,
   ⟨up, by decide +kernel⟩,
   ⟨(let b : List Byte := []
     let s : State := up
     let s : State := { s with shroud := { s.shroud with captured := some b } }
     s),
    [], by decide +kernel⟩,
   ⟨up, by decide +kernel⟩,
   ⟨(let rq : Requester := { path := Path.stay 0, session := 1, addr := 1, udp := 1 }
     let p : Nat := 0
     let s : State := up
     let s : State := ({ (served s rq).release Res.adc with now := ThisClock.init }).wr P.CableTestPorts 0
         (BitVec.ofNat 64 (2^p + 2^7+2^9))
     s),
    { path := Path.stay 0, session := 1, addr := 1, udp := 1 }, 9, 0, [7, 9], by decide +kernel⟩,
   ⟨(let rq : Requester := { path := Path.stay 0, session := 1, addr := 1, udp := 1 }
     let s : State := up
     let s : State := ((served s rq).hold Res.adc 3)
     s),
    { path := Path.stay 0, session := 1, addr := 1, udp := 1 }, 9, by decide +kernel⟩,
   ⟨(let rq : Requester := { path := Path.stay 0, session := 1, addr := 1, udp := 1 }
     let s : State := up
     let s : State := (served s rq).setBit P.CableTestControl 0 1 true
     s),
    { path := Path.stay 0, session := 1, addr := 1, udp := 1 }, by decide +kernel⟩,
   ⟨(let p : Nat := 0
     let s : State := up
     let s : State := s.setCable [p]
     s),
    0, by decide +kernel⟩,
   ⟨(let p : Nat := 0
     let q : Nat := 4
     let s : State := up
     let s : State := s.setCable [p, q]
     let s : State := { s with shroud := { s.shroud with cableAbort := true } }
     s),
    0, 4, by decide +kernel⟩,
   ⟨up, by decide +kernel⟩⟩

theorem witness_PwmCycleStart :
  (∃ (s : State), s.lampRuns = true) ∧
  (∃ (s : State), s.lampRuns = true ∧ s.bit P.MastheadControl 0 0 = true ∧ s.bit P.MastheadStatus 0 5 = false ∧
    s.rdI P.NtcTemperature 0 16 < ((s.rd P.ShutdownTemp 0).setWidth 16).toInt) ∧
  (∃ (s : State), s.lampRuns = true ∧
    (s.bit P.MastheadControl 0 0 = false ∨ (s.bit P.MastheadStatus 0 5 = true ∧
    ((s.rd P.ShutdownTemp 0).setWidth 16).toInt - 80 < s.rdI P.NtcTemperature 0 16))) ∧
  (∃ (s : State), s.lampRuns = false) ∧
  (∃ (s : State) (rq : Requester) (frame : Byte), s.grants rq P.RasterCommit 0 frame.toNat = true) :=
  ⟨
   ⟨(let failed : BitVec 48 := 0
     let s : State := up
     let s : State := { s with power := { s.power with phase := .ready, sleep := .run } }
     let s : State := if failed.getLsbD 0 then s.setMast { s.masthead with cycle := some (s.fullTime - 500000) } else
         s
     let s : State := if failed.getLsbD 1 then s.wr P.MastheadControl 0 (0x43 ||| (if failed.getLsbD 2 then 4 else 0))
         else s
     s),
    by decide +kernel⟩,
   ⟨(let failed : BitVec 48 := 0
     let s : State := up
     let s : State := { s with power := { s.power with phase := .ready, sleep := .run } }
     let s : State := s.wr P.MastheadControl 0
         (0x43 ||| (if failed.getLsbD 2 then 4 else 0) ||| (if failed.getLsbD 3 then 2 else 0))
     let s : State := (s.setMast { s.masthead with engines := if failed.getLsbD 4 then s.masthead.engines else [],
                                                   raster := some 1, elements := some [(0,[3,4,60000]),(3,[7,8,9])]
                                                     }).setBit P.MastheadStatus 0 5 false |>.wr P.ShutdownTemp 0 100
         |>.wr P.NtcTemperature 0 20
     s),
    by decide +kernel⟩,
   ⟨{ up with power := { up.power with phase := .ready, sleep := .run } }, by decide +kernel⟩,
   ⟨{ up with power := { up.power with phase := .held } }, by decide +kernel⟩,
   ⟨(let rq : Requester := { path := Path.stay 0, session := 1, addr := 1, udp := 1 }
     let s : State := up
     let s : State := served s rq
     s),
    { path := Path.stay 0, session := 1, addr := 1, udp := 1 }, 0, by decide +kernel⟩⟩

theorem witness_PatternEngines :
  (∃ (s : State) (rq : Requester) (value : Byte), s.grants rq P.EngineStart 0 value.toNat = true ∧
    s.permits rq P.EngineStop = true) ∧
  (∃ (s : State) (rq : Requester) (value : Byte), s.grants rq P.EngineStop 0 value.toNat = true) ∧
  (∃ (s : State), s.lampRuns = true ∧ s.lampRaster = false ∧ s.masthead.showLost = false) ∧
  (∃ (s : State), s.lampRuns = false ∨ s.lampRaster = true ∨ s.masthead.showLost = true) :=
  ⟨
   ⟨(let rq : Requester := { path := Path.stay 0, session := 1, addr := 1, udp := 1 }
     let s : State := up
     let s : State := served s rq
     let s : State := (s.wr P.EngineControl 1 0x301).wr P.EngineControl 2 0x501
     s),
    { path := Path.stay 0, session := 1, addr := 1, udp := 1 }, 0, by decide +kernel⟩,
   ⟨(let rq : Requester := { path := Path.stay 0, session := 1, addr := 1, udp := 1 }
     let s : State := up
     let s : State := served s rq
     s),
    { path := Path.stay 0, session := 1, addr := 1, udp := 1 }, 0, by decide +kernel⟩,
   ⟨(let s : State := up
     let s : State := { s with power := { s.power with phase := .ready, sleep := .run } }
     let s : State := s.setMast { s.masthead with showLost := false }
     let s : State := (s.wr P.EngineControl 1 0x309).wr P.EngineControl 2 0x509
     s),
    by decide +kernel⟩,
   ⟨{ up with power := { up.power with phase := .held } }, by decide +kernel⟩⟩

theorem witness_LoopDeratingAndLampFaults :
  (∃ (s : State), s.masthead.burst = true ∧ s.trim = none) ∧
  (∃ (s : State), s.masthead.burst = false ∨ s.trim.isSome = true) ∧
  (∃ (s : State) (rq : Requester) (value : Byte), s.grants rq P.LoopCapture 0 value.toNat = true) ∧
  (∃ (s : State), s.lampRuns = true) ∧
  (∃ (s : State), s.lampRuns = false) ∧
  (∃ (s : State), s.bit P.MastheadStatus 0 3 = false) ∧
  (∃ (s : State), s.bit P.MastheadStatus 0 3 = true) ∧
  (∃ (s : State) (row : Fin 16), s.lampRuns = true ∧ s.lampStatic = false ∧ row.val ∉ s.masthead.rowsOff ∧
    s.bit P.SwitchLatched 0 row = false) ∧
  (∃ (s : State) (row : Fin 16), s.lampRuns = false ∨ s.lampStatic = true ∨ row.val ∈ s.masthead.rowsOff ∨ s.bit
    P.SwitchLatched 0 row = true) :=
  ⟨
   ⟨{ (up.setMast { up.masthead with burst := true }) with trim := none }, by decide +kernel⟩,
   ⟨up, by decide +kernel⟩,
   ⟨(let rq : Requester := { path := Path.stay 0, session := 1, addr := 1, udp := 1 }
     let s : State := up
     let s : State := served s rq
     s),
    { path := Path.stay 0, session := 1, addr := 1, udp := 1 }, 0, by decide +kernel⟩,
   ⟨(let s : State := up
     let s : State := { s with power := { s.power with phase := .ready, sleep := .run } }
     let s : State := s.setMast { s.masthead with inForce := [(Dict.key P.MastheadControl 0, 0x81)] }
     s),
    by decide +kernel⟩,
   ⟨{ up with power := { up.power with phase := .held } }, by decide +kernel⟩,
   ⟨up, by decide +kernel⟩,
   ⟨(up.setBit P.MastheadStatus 0 3 true), by decide +kernel⟩,
   ⟨(let row : Fin 16 := 0
     let s : State := up
     let s : State := { s with power := { s.power with phase := .ready, sleep := .run } }
     let s : State := s.setMast { s.masthead with rowFaults := SMap.set 0 s.masthead.rowFaults row
                                                    (if row.val < 8 then 15 else 3) }
     s),
    0, by decide +kernel⟩,
   ⟨{ up with power := { up.power with phase := .held } }, 0, by decide +kernel⟩⟩

theorem witness_TrimRuns :
  (∃ (s : State) (rq : Requester) (value : Word), s.grants rq P.TrimControl 0 value.toNat = true ∧
    value.getLsbD 0 = true ∧ value.getLsbD 1 = false ∧ value.toNat / 16 % 8 ≠ 0 ∧
    (s.arbitrate rq).taken Res.adc = false) ∧
  (∃ (s : State) (rq : Requester) (value : Word), s.grants rq P.TrimControl 0 value.toNat = true ∧
    value.getLsbD 0 = true ∧ value.toNat / 16 % 8 = 0) ∧
  (∃ (s : State) (rq : Requester) (value : Word), s.grants rq P.TrimControl 0 value.toNat = true ∧
    value.getLsbD 0 = true ∧ value.toNat / 16 % 8 ≠ 0 ∧ (s.arbitrate rq).taken Res.adc = true ∧
    s.autoJustBegan = false) ∧
  (∃ (s : State), s.autoAllowed = true ∧ s.noRun = true ∧ s.fld P.TrimControl 0 4 3 ≠ 0 ∧ s.now.trimStarted = false ∧
    s.resourceFree Res.adc = true) ∧
  (∃ (s : State), s.autoAllowed = false ∨ s.noRun = false ∨ s.fld P.TrimControl 0 4 3 = 0 ∨ s.now.trimStarted = true) ∧
  (∃ (s : State), s.autoAllowed = true ∧ s.noRun = true ∧ s.fld P.TrimControl 0 4 3 ≠ 0 ∧ s.now.trimStarted = false ∧
    s.resourceFree Res.adc = false) ∧
  (∃ (s : State) (r : TrimRun), s.trim = some r ∧ r.first = none) ∧
  (∃ (s : State) (x : TrimSweep) (r : TrimRun) (a : SMap Nat), s.trim = some r ∧ r.first = some a ∧
    (a.map (·.1)).Pairwise (· < ·) ∧ (∀ k ∈ a, k.1 < 256) ∧
    (∀ k ∈ a, codeGap a (s.sweepCodes r x s.free.1).1 k.1 ≤ s.rdN P.TrimTolerance 0)) ∧
  (∃ (s : State) (x : TrimSweep) (r : TrimRun) (a : SMap Nat), s.trim = some r ∧ r.first = some a ∧
    a.any (fun k => decide (s.rdN P.TrimTolerance 0 < codeGap a (s.sweepCodes r x s.free.1).1 k.1)) = true) ∧
  (∃ (s : State), s.trim = none) ∧
  (∃ (s : State) (r : TrimRun), s.trim = some r ∧ r.photodiodes = true) ∧
  (∃ (s : State), s.trim = none ∨ s.trim.map (·.photodiodes) = some false) ∧
  (∃ (s : State) (rq : Requester), s.grants rq P.TrimControl 0 (2 + 16 * s.fld P.TrimControl 0 4 4) = true ∧
    s.trim.isSome = true) :=
  ⟨
   ⟨(let rq : Requester := { path := Path.stay 0, session := 2, addr := 0, udp := 1 }
     let s : State := up
     let s : State := { (served s rq).release Res.adc with now := ThisClock.init }
     s),
    { path := Path.stay 0, session := 2, addr := 0, udp := 1 }, 0xf1, by decide +kernel⟩,
   ⟨(let rq : Requester := { path := Path.stay 0, session := 1, addr := 1, udp := 1 }
     let s : State := up
     let s : State := served s rq
     s),
    { path := Path.stay 0, session := 1, addr := 1, udp := 1 }, 0x81, by decide +kernel⟩,
   ⟨(let rq : Requester := { path := Path.stay 0, session := 1, addr := 1, udp := 1 }
     let s : State := up
     let s : State := { ((served s rq).hold Res.adc 2) with now := ThisClock.init }
     s),
    { path := Path.stay 0, session := 1, addr := 1, udp := 1 }, 0x71, by decide +kernel⟩,
   ⟨(let s : State := up
     let s : State := { s with power := { s.power with phase := .ready, sleep := .run } }
     let s : State := ({ s.release Res.adc with trim := none, now := ThisClock.init }).wr P.TrimControl 0 0xF0 |>.wr
         P.RunTemperature 0 0x8000
     s),
    by decide +kernel⟩,
   ⟨{ up with power := { up.power with phase := .held } }, by decide +kernel⟩,
   ⟨(let s : State := up
     let s : State := { s with power := { s.power with phase := .ready, sleep := .run } }
     let s : State := ({ s with now := ThisClock.init }.hold Res.adc 2).wr P.TrimControl 0 0xF0 |>.wr P.RunTemperature
         0 0x8000
     s),
    by decide +kernel⟩,
   ⟨(let r : TrimRun := { sensor := false, photodiodes := true, sinks := false, automatic := false, range := 1, first
                            := none, clamped := false, sweepStart := 0 }
     let s : State := up
     let s : State := { s with trim := some r }
     s),
    { sensor := false, photodiodes := true, sinks := false, automatic := false, range := 1, first := none, clamped :=
        false, sweepStart := 0 }, by decide +kernel⟩,
   ⟨(let r : TrimRun := { sensor := false, photodiodes := true, sinks := false, automatic := false, range := 1, first
                            := some [(68, 138), (69, 138), (70, 138), (71, 138), (132, 255), (133, 255), (134, 255),
                          (135, 255)], clamped := false, sweepStart := 0 }
     let s : State := up
     let s : State := { s with trim := some r }
     s),
    { sinks := [], dark := [[]], injected := [], trimmed := [], ratio := [] }, { sensor := false, photodiodes := true,
                                                                                 sinks := false, automatic := false,
                                                                                 range := 1, first := some [(68, 138),
                                                                                 (69, 138), (70, 138), (71, 138),
                                                                                 (132, 255), (133, 255), (134, 255),
                                                                                 (135, 255)], clamped := false,
                                                                                 sweepStart := 0 }, [(68, 138), (69,
      138), (70, 138), (71, 138), (132, 255), (133, 255), (134, 255), (135, 255)], by decide +kernel⟩,
   ⟨(let r : TrimRun := { sensor := false, photodiodes := true, sinks := false, automatic := false, range := 1, first
                            := some [(3, 90), (64, 200), (193, 100)], clamped := false, sweepStart := 0 }
     let s : State := up
     let s : State := { s with trim := some r }
     s),
    { sinks := [], dark := [[]], injected := [], trimmed := [], ratio := [] }, { sensor := false, photodiodes := true,
                                                                                 sinks := false, automatic := false,
                                                                                 range := 1, first := some [(3, 90),
                                                                                 (64, 200), (193, 100)], clamped :=
                                                                                   false, sweepStart := 0 }, [(3, 90),
      (64, 200), (193, 100)], by decide +kernel⟩,
   ⟨{ up with trim := none }, by decide +kernel⟩,
   ⟨(let r : TrimRun := { sensor := true, photodiodes := true, sinks := true, automatic := true, range := 1, first :=
                            none, clamped := false, sweepStart := 0 }
     let s : State := up
     let s : State := { s with trim := some r }
     s),
    { sensor := true, photodiodes := true, sinks := true, automatic := true, range := 1, first := none, clamped :=
        false, sweepStart := 0 }, by decide +kernel⟩,
   ⟨up, by decide +kernel⟩,
   ⟨(let rq : Requester := { path := Path.stay 0, session := 1, addr := 1, udp := 1 }
     let s : State := up
     let s : State := { (served s rq) with trim := some ⟨true,true,true,true,1,none,false,0⟩ }
     s),
    { path := Path.stay 0, session := 1, addr := 1, udp := 1 }, by decide +kernel⟩⟩

theorem witness_TrimCodesAreVolatile :
  (∃ (s : State) (rq : Requester) (param : Fin 4) (elem : Byte) (value : Byte), s.grants rq (P.SinkTrim + param.val)
    elem.toNat value.toNat = true ∧ s.trim = none) ∧
  (∃ (s : State) (rq : Requester) (param : Fin 4) (elem : Byte) (value : Byte), s.grants rq (P.SinkTrim + param.val)
    elem.toNat value.toNat = true ∧ s.trim.isSome = true) ∧
  (∃ (s : State) (rq : Requester) (param : Fin 4) (elem : Byte) (r : Row), s.hears rq 1 = true ∧
    s.faults rq (wordAddr rq (P.SinkTrim + param.val) elem.toNat) false = false ∧
    s.reaches (P.SinkTrim + param.val) false = true ∧ Dict.row (P.SinkTrim + param.val) = some r ∧
    elem.toNat < r.elems ∧ s.rd (P.SinkTrim + param.val) elem.toNat < 256) :=
  ⟨
   ⟨(let rq : Requester := { path := Path.stay 0, session := 1, addr := 1, udp := 1 }
     let s : State := up
     let s : State := { (served s rq) with trim := none }
     s),
    { path := Path.stay 0, session := 1, addr := 1, udp := 1 }, 2, 2, 1, by decide +kernel⟩,
   ⟨(let rq : Requester := { path := Path.stay 0, session := 1, addr := 1, udp := 1 }
     let s : State := up
     let s : State := { (served s rq) with trim := some ⟨true,true,true,true,1,none,false,0⟩ }
     s),
    { path := Path.stay 0, session := 1, addr := 1, udp := 1 }, 2, 2, 1, by decide +kernel⟩,
   ⟨(let rq : Requester := { path := Path.stay 0, session := 1, addr := 1, udp := 1 }
     let s : State := up
     let s : State := served s rq
     s),
    { path := Path.stay 0, session := 1, addr := 1, udp := 1 }, 2, 2, (rowOf 45074), by decide +kernel⟩⟩

theorem witness_KiteSending :
  (∃ (s : State) (key : Nat), s.anchors = true ∧ s.txKey = some key ∧ s.now.driven.contains 7 = false) ∧
  (∃ (s : State) (key : Nat), s.anchors = true ∧ s.txKey = some key ∧ s.now.driven.contains 7 = false) ∧
  (∃ (s : State), s.anchors = true ∧ s.txKey = none ∧ s.now.driven.contains 7 = false) ∧
  (∃ (s : State), s.anchors = false ∨ s.now.driven.contains 7 = true) ∧
  (∃ (s : State) (key : Nat) (f : KiteOut) (fs : List KiteOut), s.kiteRuns = true ∧ s.kite.awaiting = none ∧
    s.commands = true ∧ s.timeState ≠ Ts.unset ∧ s.txKey = some key ∧
    s.kite.queue.all (fun x => !s.tooLate x) = true ∧ s.pickFrame s.kite.queue = some (f, fs) ∧
    s.reachesAnchor s.fullTime (s.hubNeeds f) (s.rdN P.AnchorProtect 0 * 1000) = false) ∧
  (∃ (s : State), s.kiteRuns = false ∨ s.kite.awaiting.isSome = true) ∧
  (∃ (s : State) (f : KiteOut), s.kite.awaiting = some f ∧ f.tries < s.rdN P.MaxRetries 0) ∧
  (∃ (s : State) (f : KiteOut), s.kite.awaiting = some f ∧ s.rdN P.MaxRetries 0 ≤ f.tries) ∧
  (∃ (s : State), s.kite.awaiting = none) ∧
  (∃ (s : State) (f : KiteOut) (fs : List KiteOut), s.pickFrame s.kite.queue = some (f, fs) ∧ s.kiteRuns = true) ∧
  (∃ (s : State), s.pickFrame s.kite.queue = none ∨ s.kiteRuns = false) ∧
  (∃ (s : State), s.anchors = true) ∧
  (∃ (s : State), s.anchors = false) ∧
  (∃ (s : State), s.bit P.KiteControl 0 0 = true ∧ s.timeRuns = true) ∧
  (∃ (s : State), s.bit P.KiteControl 0 0 = false ∨ s.timeRuns = false) :=
  ⟨
   ⟨(let s : State := up
     let s : State := { s with power := { s.power with phase := .ready, sleep := .run } }
     let s : State := ((s.setBit P.KiteControl 0 0 true).setBit P.PllLockStatus 0 0 true).setBit P.KiteStatus 0 4
         false |>.wr P.TimeState 0 2 |>.wr P.TwinStatus 0 0 |>.wr P.TwinControl 0 0
     let s : State := (((s.setBlob P.KeyA (List.replicate 16 5)).wr P.KeyEra 0
         (BitVec.ofNat 64 (eraOf s.fullTime))).wr P.TxKeyIndex 0 1).wr P.SecurityLevel 0 5
     let s : State := s.wr P.AnchorInterval 0 100 |>.wr P.AnchorOffset 0 3 |>.wr P.AnchorProtect 0 1000
     s),
    1, by decide +kernel⟩,
   ⟨(let s : State := up
     let s : State := { s with power := { s.power with phase := .ready, sleep := .run } }
     let s : State := ((s.setBit P.KiteControl 0 0 true).setBit P.PllLockStatus 0 0 true).setBit P.KiteStatus 0 4
         false |>.wr P.TimeState 0 2 |>.wr P.TwinStatus 0 0 |>.wr P.TwinControl 0 0
     let s : State := (((s.setBlob P.KeyA (List.replicate 16 5)).wr P.KeyEra 0
         (BitVec.ofNat 64 (eraOf s.fullTime))).wr P.TxKeyIndex 0 1).wr P.SecurityLevel 0 5
     let s : State := s.wr P.AnchorInterval 0 100 |>.wr P.AnchorOffset 0 3 |>.wr P.AnchorProtect 0 1000
     s),
    1, by decide +kernel⟩,
   ⟨(let s : State := up
     let s : State := { s with power := { s.power with phase := .ready, sleep := .run } }
     let s : State := ((s.setBit P.KiteControl 0 0 true).setBit P.PllLockStatus 0 0 true).setBit P.KiteStatus 0 4
         false |>.wr P.TimeState 0 2 |>.wr P.TwinStatus 0 0 |>.wr P.TwinControl 0 0
     let s : State := (((s.setBlob P.KeyA (List.replicate 16 5)).wr P.KeyEra 0
         (BitVec.ofNat 64 (eraOf s.fullTime))).wr P.TxKeyIndex 0 1).wr P.SecurityLevel 0 5
     let s : State := s.wr P.AnchorInterval 0 100 |>.wr P.AnchorOffset 0 3 |>.wr P.AnchorProtect 0 1000
     let s : State := (s.setBlob P.KeyA []).setBlob P.KeyB []
     s),
    by decide +kernel⟩,
   ⟨up, by decide +kernel⟩,
   ⟨(let f : KiteOut := { dest := 0xffff, kind := 2, tag := 3, body := [0, 1, 2, 3, 4], seq := 5, entry := none, opens
                            := none, deadline := none, tries := 0 }
     let fs : List KiteOut := [{ dest := 0xffff, kind := 2, tag := 3, body := [0, 1, 2, 3, 4], seq := 5, entry :=
                                   none, opens := none, deadline := none, tries := 0 }]
     let s : State := up
     let s : State := { s with halyard := { s.halyard with acc := BitVec.ofNat 72 (60000000 * 2 ^ 40) } }
     let s : State := { s with power := { s.power with phase := .ready, sleep := .run } }
     let s : State := ((s.setBit P.KiteControl 0 0 true).setBit P.PllLockStatus 0 0 true).setBit P.KiteStatus 0 4
         false |>.wr P.TimeState 0 2 |>.wr P.TwinStatus 0 0 |>.wr P.TwinControl 0 0
     let s : State := (((s.setBlob P.KeyA (List.replicate 16 5)).wr P.KeyEra 0
         (BitVec.ofNat 64 (eraOf s.fullTime))).wr P.TxKeyIndex 0 1).wr P.SecurityLevel 0 5
     let s : State := s.wr P.AnchorInterval 0 100 |>.wr P.AnchorOffset 0 3 |>.wr P.AnchorProtect 0 1000
     let s : State := s.setKite { s.kite with queue := f :: fs, awaiting := none }
     s),
    1, { dest := 0xffff, kind := 2, tag := 3, body := [0, 1, 2, 3, 4], seq := 5, entry := none, opens := none,
         deadline := none, tries := 0 }, [{ dest := 0xffff, kind := 2, tag := 3, body := [0, 1, 2, 3, 4], seq := 5,
                                            entry := none, opens := none, deadline := none, tries := 0 }],
      by decide +kernel⟩,
   ⟨up, by decide +kernel⟩,
   ⟨(let f : KiteOut := { dest := 0xffff, kind := 2, tag := 3, body := [0, 1, 2, 3, 4], seq := 5, entry := none, opens
                            := none, deadline := none, tries := 0 }
     let s : State := up
     let s : State := (s.setKite { s.kite with awaiting := some f }).wr P.MaxRetries 0 3
     s),
    { dest := 0xffff, kind := 2, tag := 3, body := [0, 1, 2, 3, 4], seq := 5, entry := none, opens := none, deadline
        := none, tries := 0 }, by decide +kernel⟩,
   ⟨(let f : KiteOut := { dest := 0xffff, kind := 2, tag := 3, body := [0, 1, 2, 3, 4], seq := 5, entry := none, opens
                            := none, deadline := none, tries := 9 }
     let s : State := up
     let s : State := (s.setKite { s.kite with awaiting := some f }).wr P.MaxRetries 0 3
     s),
    { dest := 0xffff, kind := 2, tag := 3, body := [0, 1, 2, 3, 4], seq := 5, entry := none, opens := none, deadline
        := none, tries := 9 }, by decide +kernel⟩,
   ⟨up, by decide +kernel⟩,
   ⟨(let f : KiteOut := { dest := 0xffff, kind := 2, tag := 3, body := [0, 1, 2, 3, 4], seq := 5, entry := none, opens
                            := none, deadline := none, tries := 0 }
     let fs : List KiteOut := []
     let s : State := up
     let s : State := { s with power := { s.power with phase := .ready, sleep := .run } }
     let s : State := ((s.setBit P.KiteControl 0 0 true).setBit P.PllLockStatus 0 0 true).setBit P.KiteStatus 0 4
         false |>.wr P.TimeState 0 2 |>.wr P.TwinStatus 0 0 |>.wr P.TwinControl 0 0
     let s : State := (((s.setBlob P.KeyA (List.replicate 16 5)).wr P.KeyEra 0
         (BitVec.ofNat 64 (eraOf s.fullTime))).wr P.TxKeyIndex 0 1).wr P.SecurityLevel 0 5
     let s : State := s.wr P.AnchorInterval 0 100 |>.wr P.AnchorOffset 0 3 |>.wr P.AnchorProtect 0 1000
     let s : State := s.setKite { s.kite with queue := f :: fs }
     s),
    { dest := 0xffff, kind := 2, tag := 3, body := [0, 1, 2, 3, 4], seq := 5, entry := none, opens := none, deadline
        := none, tries := 0 }, [], by decide +kernel⟩,
   ⟨up, by decide +kernel⟩,
   ⟨(let s : State := up
     let s : State := { s with power := { s.power with phase := .ready, sleep := .run } }
     let s : State := ((s.setBit P.KiteControl 0 0 true).setBit P.PllLockStatus 0 0 true).setBit P.KiteStatus 0 4
         false |>.wr P.TimeState 0 2 |>.wr P.TwinStatus 0 0 |>.wr P.TwinControl 0 0
     let s : State := (((s.setBlob P.KeyA (List.replicate 16 5)).wr P.KeyEra 0
         (BitVec.ofNat 64 (eraOf s.fullTime))).wr P.TxKeyIndex 0 1).wr P.SecurityLevel 0 5
     let s : State := s.wr P.AnchorInterval 0 100 |>.wr P.AnchorOffset 0 3 |>.wr P.AnchorProtect 0 1000
     s),
    by decide +kernel⟩,
   ⟨up, by decide +kernel⟩,
   ⟨(let s : State := up
     let s : State := { s with power := { s.power with phase := .ready, sleep := .run } }
     let s : State := ((s.setBit P.KiteControl 0 0 true).setBit P.PllLockStatus 0 0 true).setBit P.KiteStatus 0 4
         false |>.wr P.TimeState 0 2 |>.wr P.TwinStatus 0 0 |>.wr P.TwinControl 0 0
     let s : State := (((s.setBlob P.KeyA (List.replicate 16 5)).wr P.KeyEra 0
         (BitVec.ofNat 64 (eraOf s.fullTime))).wr P.TxKeyIndex 0 1).wr P.SecurityLevel 0 5
     let s : State := s.wr P.AnchorInterval 0 100 |>.wr P.AnchorOffset 0 3 |>.wr P.AnchorProtect 0 1000
     s),
    by decide +kernel⟩,
   ⟨up, by decide +kernel⟩⟩

theorem witness_KiteReception :
  (∃ (s : State) (b : List Byte) (fcsOk : Bool), s.kiteRuns = true ∧ fcsOk = true ∧
    (KiteIn.ofPsdu b).isData b.length = true ∧ (KiteIn.ofPsdu b).control / 32 % 2 = 1 ∧
    (KiteIn.ofPsdu b).dest = s.rdN P.ShortAddress 0 ∧ (KiteIn.ofPsdu b).pan = s.rdN P.PanId 0 ∧
    (s.role = .active ∨ s.paired = false) ∧ s.timeState ≠ Ts.unset ∧ s.keyExpired = false ∧
    s.reachesAnchor (s.fullTime + 192000) (airNs 5) 0 = false) ∧
  (∃ (s : State), s.kiteRuns = false ∧ s.kiteListens = false) ∧
  (∃ (s : State) (fcsOk : Bool), s.kiteRuns = true ∧ fcsOk = false) ∧
  (∃ (s : State) (b : List Byte) (fcsOk : Bool) (f : KiteOut), s.kiteRuns = true ∧ fcsOk = true ∧
    (KiteIn.ofPsdu b).isAck b.length = true ∧ s.kite.awaiting = some f) ∧
  (∃ (s : State) (b : List Byte) (fcsOk : Bool), s.kiteRuns = true ∧ fcsOk = true ∧
    (KiteIn.ofPsdu b).isAck b.length = false ∧ (KiteIn.ofPsdu b).supported b.length = false ∧
    ((KiteIn.ofPsdu b).isData b.length = false ∨ (KiteIn.ofPsdu b).control / 32 % 2 = 0)) ∧
  (∃ (s : State) (b : List Byte) (fcsOk : Bool) (c : Nat), s.kiteRuns = true ∧ fcsOk = true ∧ b.length ≠ 5 ∧
    (KiteIn.ofPsdu b).supported b.length = true ∧ (KiteIn.ofPsdu b).pan = s.rdN P.PanId 0 ∧
    ((KiteIn.ofPsdu b).dest = 0xFFFF ∨ (KiteIn.ofPsdu b).dest = s.rdN P.ShortAddress 0) ∧
    (KiteIn.ofPsdu b).control / 32 % 2 = 0 ∧ s.kiteCheck (KiteIn.ofPsdu b) false = .inl c) ∧
  (∃ (s : State) (b : List Byte) (fcsOk : Bool) (m : List Byte), s.kiteRuns = true ∧ fcsOk = true ∧ b.length ≠ 5 ∧
    (KiteIn.ofPsdu b).supported b.length = true ∧ (KiteIn.ofPsdu b).pan = s.rdN P.PanId 0 ∧
    ((KiteIn.ofPsdu b).dest = 0xFFFF ∨ (KiteIn.ofPsdu b).dest = s.rdN P.ShortAddress 0) ∧
    (KiteIn.ofPsdu b).control / 32 % 2 = 0 ∧ s.kiteCheck (KiteIn.ofPsdu b) false = .inr m ∧
    s.cacheAged.any (fun c => c.1 == (KiteIn.ofPsdu b).src && c.2.1 == (KiteIn.ofPsdu b).seq) = true) ∧
  (∃ (s : State) (b : List Byte) (fcsOk : Bool) (m : List Byte), s.kiteRuns = true ∧ fcsOk = true ∧ b.length ≠ 5 ∧
    (KiteIn.ofPsdu b).supported b.length = true ∧ (KiteIn.ofPsdu b).pan = s.rdN P.PanId 0 ∧
    ((KiteIn.ofPsdu b).dest = 0xFFFF ∨ (KiteIn.ofPsdu b).dest = s.rdN P.ShortAddress 0) ∧
    (KiteIn.ofPsdu b).control / 32 % 2 = 0 ∧ s.kiteCheck (KiteIn.ofPsdu b) false = .inr m ∧
    s.cacheAged.any (fun c => c.1 == (KiteIn.ofPsdu b).src && c.2.1 == (KiteIn.ofPsdu b).seq) = false) :=
  ⟨
   ⟨(let s : State := up
     let s : State := { s with halyard := { s.halyard with acc := BitVec.ofNat 72 (60000000 * 2 ^ 40) } }
     let s : State := { s with power := { s.power with phase := .ready, sleep := .run } }
     let s : State := ((s.setBit P.KiteControl 0 0 true).setBit P.PllLockStatus 0 0 true).setBit P.KiteStatus 0 4
         false |>.wr P.TimeState 0 2 |>.wr P.TwinStatus 0 0 |>.wr P.TwinControl 0 0
     let s : State := (((s.setBlob P.KeyA (List.replicate 16 5)).wr P.KeyEra 0
         (BitVec.ofNat 64 (eraOf s.fullTime))).wr P.TxKeyIndex 0 1).wr P.SecurityLevel 0 5
     let s : State := s.wr P.AnchorInterval 0 100 |>.wr P.AnchorOffset 0 3 |>.wr P.AnchorProtect 0 1000
     let s : State := s.setBlob P.PartnerTable ([7,0,0,0] ++ List.replicate 12 1)
     s),
    [0x69, 0x98, 0x7f, 0x17, 0x5a, 0, 0, 7, 0, 0xd, 0x63, 0, 0, 0, 1, 0, 0x1e, 0xa, 0xa, 0x8b, 0xc5, 0x10, 0x6f, 0xec,
      0x18, 0xf3, 0xb9, 0x6e, 0xa9, 0, 0], true, by decide +kernel⟩,
   ⟨(up.setBit P.KiteControl 0 0 false), by decide +kernel⟩,
   ⟨(let s : State := up
     let s : State := { s with power := { s.power with phase := .ready, sleep := .run } }
     let s : State := ((s.setBit P.KiteControl 0 0 true).setBit P.PllLockStatus 0 0 true).setBit P.KiteStatus 0 4
         false |>.wr P.TimeState 0 2 |>.wr P.TwinStatus 0 0 |>.wr P.TwinControl 0 0
     let s : State := (((s.setBlob P.KeyA (List.replicate 16 5)).wr P.KeyEra 0
         (BitVec.ofNat 64 (eraOf s.fullTime))).wr P.TxKeyIndex 0 1).wr P.SecurityLevel 0 5
     let s : State := s.wr P.AnchorInterval 0 100 |>.wr P.AnchorOffset 0 3 |>.wr P.AnchorProtect 0 1000
     s),
    false, by decide +kernel⟩,
   ⟨(let f : KiteOut := { dest := 0xffff, kind := 2, tag := 3, body := [0, 1, 2, 3, 4], seq := 5, entry := none, opens
                            := none, deadline := none, tries := 0 }
     let s : State := up
     let s : State := { s with power := { s.power with phase := .ready, sleep := .run } }
     let s : State := ((s.setBit P.KiteControl 0 0 true).setBit P.PllLockStatus 0 0 true).setBit P.KiteStatus 0 4
         false |>.wr P.TimeState 0 2 |>.wr P.TwinStatus 0 0 |>.wr P.TwinControl 0 0
     let s : State := (((s.setBlob P.KeyA (List.replicate 16 5)).wr P.KeyEra 0
         (BitVec.ofNat 64 (eraOf s.fullTime))).wr P.TxKeyIndex 0 1).wr P.SecurityLevel 0 5
     let s : State := s.wr P.AnchorInterval 0 100 |>.wr P.AnchorOffset 0 3 |>.wr P.AnchorProtect 0 1000
     let s : State := s.setKite { s.kite with awaiting := some f }
     s),
    [2, 0x10, 5, 0, 0], true, { dest := 0xffff, kind := 2, tag := 3, body := [0, 1, 2, 3, 4], seq := 5, entry := none,
                                opens := none, deadline := none, tries := 0 }, by decide +kernel⟩,
   ⟨(let s : State := up
     let s : State := { s with power := { s.power with phase := .ready, sleep := .run } }
     let s : State := ((s.setBit P.KiteControl 0 0 true).setBit P.PllLockStatus 0 0 true).setBit P.KiteStatus 0 4
         false |>.wr P.TimeState 0 2 |>.wr P.TwinStatus 0 0 |>.wr P.TwinControl 0 0
     let s : State := (((s.setBlob P.KeyA (List.replicate 16 5)).wr P.KeyEra 0
         (BitVec.ofNat 64 (eraOf s.fullTime))).wr P.TxKeyIndex 0 1).wr P.SecurityLevel 0 5
     let s : State := s.wr P.AnchorInterval 0 100 |>.wr P.AnchorOffset 0 3 |>.wr P.AnchorProtect 0 1000
     s),
    [], true, by decide +kernel⟩,
   ⟨(let rssi : Byte := 0x7f
     let s : State := up
     let s : State := { s with power := { s.power with phase := .ready, sleep := .run } }
     let s : State := ((s.setBit P.KiteControl 0 0 true).setBit P.PllLockStatus 0 0 true).setBit P.KiteStatus 0 4
         false |>.wr P.TimeState 0 2 |>.wr P.TwinStatus 0 0 |>.wr P.TwinControl 0 0
     let s : State := (((s.setBlob P.KeyA (List.replicate 16 5)).wr P.KeyEra 0
         (BitVec.ofNat 64 (eraOf s.fullTime))).wr P.TxKeyIndex 0 1).wr P.SecurityLevel 0 5
     let s : State := s.wr P.AnchorInterval 0 100 |>.wr P.AnchorOffset 0 3 |>.wr P.AnchorProtect 0 1000
     let s : State := s.setBlob P.PartnerTable ([7,0,0,0] ++ List.replicate 12 1)
     let s : State := if rssi.getLsbD 1 then s.setBlob P.PartnerTable [] else s
     let s : State := if rssi.getLsbD 3 then s.wr P.KeyEra 0 77 else s
     s),
    [0x49, 0x98, 0x7f, 0x17, 0x5a, 0xff, 0xff, 7, 0, 0xd, 0x63, 0, 0, 0, 1, 0, 0x1e, 0xa, 1, 0x8b, 0xc5, 0x13, 0xfc,
      0x6b, 0x18, 0xb9, 0x60, 0xfd, 0xd2, 0, 0], true, 49239, by decide +kernel⟩,
   ⟨(let rssi : Byte := 0x7f
     let s : State := up
     let s : State := { s with power := { s.power with phase := .ready, sleep := .run } }
     let s : State := ((s.setBit P.KiteControl 0 0 true).setBit P.PllLockStatus 0 0 true).setBit P.KiteStatus 0 4
         false |>.wr P.TimeState 0 2 |>.wr P.TwinStatus 0 0 |>.wr P.TwinControl 0 0
     let s : State := (((s.setBlob P.KeyA (List.replicate 16 5)).wr P.KeyEra 0
         (BitVec.ofNat 64 (eraOf s.fullTime))).wr P.TxKeyIndex 0 1).wr P.SecurityLevel 0 5
     let s : State := s.wr P.AnchorInterval 0 100 |>.wr P.AnchorOffset 0 3 |>.wr P.AnchorProtect 0 1000
     let s : State := s.setBlob P.PartnerTable ([7,0,0,0] ++ List.replicate 12 1)
     let s : State := s.setKite { s.kite with cache := [(7, rssi, s.clock)] }
     s),
    [0x49, 0x98, 0x7f, 0x17, 0x5a, 0xff, 0xff, 7, 0, 0xd, 0x63, 0, 0, 0, 1, 0, 0x1e, 0xa, 0xa, 0x8b, 0xc5, 0x13, 0xfc,
      0x6b, 0x18, 0xb9, 0x60, 0xfd, 0xd2, 0, 0], true, [4, 0, 0, 0, 0, 0, 0, 0, 0, 0], by decide +kernel⟩,
   ⟨(let s : State := up
     let s : State := { s with power := { s.power with phase := .ready, sleep := .run } }
     let s : State := ((s.setBit P.KiteControl 0 0 true).setBit P.PllLockStatus 0 0 true).setBit P.KiteStatus 0 4
         false |>.wr P.TimeState 0 2 |>.wr P.TwinStatus 0 0 |>.wr P.TwinControl 0 0
     let s : State := (((s.setBlob P.KeyA (List.replicate 16 5)).wr P.KeyEra 0
         (BitVec.ofNat 64 (eraOf s.fullTime))).wr P.TxKeyIndex 0 1).wr P.SecurityLevel 0 5
     let s : State := s.wr P.AnchorInterval 0 100 |>.wr P.AnchorOffset 0 3 |>.wr P.AnchorProtect 0 1000
     let s : State := s.setBlob P.PartnerTable ([7,0,0,0] ++ List.replicate 12 1)
     let s : State := s.setKite { s.kite with cache := [] }
     s),
    [0x49, 0x98, 0x7f, 0x17, 0x5a, 0xff, 0xff, 7, 0, 0xd, 0x63, 0, 0, 0, 1, 0, 0x1e, 0xa, 0xa, 0x8b, 0xc5, 0x13, 0xfc,
      0x6b, 0x18, 0xb9, 0x60, 0xfd, 0xd2, 0, 0], true, [4, 0, 0, 0, 0, 0, 0, 0, 0, 0], by decide +kernel⟩⟩

theorem witness_TwinPathsAndRoles :
  (∃ (s : State) (path : Fin 2), s.bit P.TwinStatus 0 (18 + path.val) = true ∧ s.role ≠ .standby) ∧
  (∃ (s : State) (path : Fin 2), s.bit P.TwinStatus 0 (18 + path.val) = true ∧
    s.bit P.TwinStatus 0 (19 - path.val) = false ∧ s.role = .standby ∧ s.paired = true ∧
    s.bit P.TwinStatus 0 23 = false) ∧
  (∃ (s : State) (path : Fin 2), s.bit P.TwinStatus 0 (18 + path.val) = false) ∧
  (∃ (s : State), s.role = .standby ∧ s.bit P.TwinStatus 0 21 = true) ∧
  (∃ (s : State), s.role ≠ .standby ∨ s.bit P.TwinStatus 0 21 = false) ∧
  (∃ (s : State), s.role = .joining ∧ s.paired = true ∧ s.twin.partnerHeard = false ∧
    s.bit P.TwinStatus 0 23 = false ∧ s.twin.roleAtLatch = none ∧ s.seeded = true) ∧
  (∃ (s : State), s.role = .joining ∧ s.paired = true ∧ s.twin.partnerHeard = false ∧
    s.bit P.TwinStatus 0 23 = false ∧ s.twin.roleAtLatch = none ∧ s.seeded = false) ∧
  (∃ (s : State), s.role ≠ .joining ∨ s.paired = false ∨ s.twin.partnerHeard = true ∨ s.bit P.TwinStatus 0 23 = true ∨
    s.twin.roleAtLatch.isSome = true) ∧
  (∃ (s : State) (rq : Requester), s.grants rq P.RoleRequest 0 0x5A = true ∧ s.role = .active ∧ s.seeded = true ∧
    s.twin.partnerHeard = true ∧ s.twin.partnerRole = .standby ∧ s.twin.partnerMirror = .inSync) ∧
  (∃ (s : State) (rq : Requester), s.grants rq P.RoleRequest 0 0x5A = true ∧
    (s.role ≠ .active ∨ s.seeded = false ∨ s.twin.partnerHeard = false ∨ s.twin.partnerRole ≠ .standby ∨
    s.twin.partnerMirror ≠ .inSync)) ∧
  (∃ (s : State) (rq : Requester) (value : Byte), value ≠ 0x5A ∧ s.grants rq P.RoleRequest 0 value.toNat = true) ∧
  (∃ (s : State) (rq : Requester) (value : Word), s.grants rq P.TwinControl 0 value.toNat = true ∧ s.seeded = true) ∧
  (∃ (s : State) (rq : Requester) (value : Word), s.grants rq P.TwinControl 0 value.toNat = true ∧ s.seeded = false) :=
  ⟨
   ⟨(let path : Fin 2 := 0
     let s : State := up
     let s : State := { s with power := { s.power with phase := .ready, sleep := .run } }
     let s : State := s.wr P.TwinControl 0 0xF3
     let s : State := (s.setBit P.TwinStatus 0 (18+path.val) true).setFld P.TwinStatus 0 24 2 (s.tns.toNat % 2)
     s),
    0, by decide +kernel⟩,
   ⟨(let path : Fin 2 := 0
     let s : State := up
     let s : State := { s with power := { s.power with phase := .ready, sleep := .run } }
     let s : State := s.wr P.TwinControl 0 0xF3
     let s : State := ((s.setBit P.TwinStatus 0 (18+path.val) true).setBit P.TwinStatus 0 (19-path.val) false).setBit
         P.TwinStatus 0 23 false
     let s : State := s.setTwin { s.twin with waiting := [] }
     let s : State := (s.setFld P.TwinStatus 0 24 2 2)
     s),
    0, by decide +kernel⟩,
   ⟨up, 0, by decide +kernel⟩,
   ⟨(let s : State := up
     let s : State := { s with power := { s.power with phase := .ready, sleep := .run } }
     let s : State := s.wr P.TwinControl 0 0xF3
     let s : State := ((s.setBit P.TwinStatus 0 21 true).setBit P.TwinStatus 0 23 true)
     let s : State := s.setTwin { s.twin with waiting := [] }
     let s : State := (s.setFld P.TwinStatus 0 24 2 2)
     s),
    by decide +kernel⟩,
   ⟨up, by decide +kernel⟩,
   ⟨(let s : State := up
     let s : State := s.setBit P.TimeStatus 0 1 true
     let s : State := { s with power := { s.power with phase := .ready, sleep := .run } }
     let s : State := s.wr P.TwinControl 0 0xF3
     let s : State := ((s.setFld P.TwinStatus 0 24 2 1).setBit P.TwinStatus 0 23 false).setTwin
         { s.twin with partnerHeard := false, roleAtLatch := none }
     s),
    by decide +kernel⟩,
   ⟨(let s : State := up
     let s : State := { s with power := { s.power with phase := .ready, sleep := .run } }
     let s : State := s.wr P.TwinControl 0 0xF3
     let s : State := ((s.setFld P.TwinStatus 0 24 2 1).setBit P.TwinStatus 0 23 false).setTwin
         { s.twin with partnerHeard := false, roleAtLatch := none }
     let s : State := s.setBit P.TimeStatus 0 1 false
     s),
    by decide +kernel⟩,
   ⟨up, by decide +kernel⟩,
   ⟨(let rq : Requester := { path := Path.stay 0, session := 1, addr := 1, udp := 1 }
     let s : State := up
     let s : State := s.setBit P.TimeStatus 0 1 true
     let s : State := { s with power := { s.power with phase := .ready, sleep := .run } }
     let s : State := s.wr P.TwinControl 0 0xF3
     let s : State := (served s rq).setFld P.TwinStatus 0 24 2 3
     let s : State := s.setTwin { s.twin with partnerHeard := true, partnerRole := .standby, partnerMirror := .inSync
                                                }
     s),
    { path := Path.stay 0, session := 1, addr := 1, udp := 1 }, by decide +kernel⟩,
   ⟨(let rq : Requester := { path := Path.stay 0, session := 1, addr := 1, udp := 1 }
     let s : State := up
     let s : State := served s rq
     s),
    { path := Path.stay 0, session := 1, addr := 1, udp := 1 }, by decide +kernel⟩,
   ⟨(let rq : Requester := { path := Path.stay 0, session := 1, addr := 1, udp := 1 }
     let s : State := up
     let s : State := served s rq
     s),
    { path := Path.stay 0, session := 1, addr := 1, udp := 1 }, 0, by decide +kernel⟩,
   ⟨(let rq : Requester := { path := Path.stay 0, session := 1, addr := 1, udp := 1 }
     let s : State := up
     let s : State := s.setBit P.TimeStatus 0 1 true
     let s : State := served s rq
     s),
    { path := Path.stay 0, session := 1, addr := 1, udp := 1 }, 0, by decide +kernel⟩,
   ⟨(let rq : Requester := { path := Path.stay 0, session := 1, addr := 1, udp := 1 }
     let s : State := up
     let s : State := (served s rq).setBit P.TimeStatus 0 1 false
     let s : State := s.setTwin { s.twin with blobCommit := [] }
     s),
    { path := Path.stay 0, session := 1, addr := 1, udp := 1 }, 0, by decide +kernel⟩⟩

theorem witness_Pennants :
  (∃ (s : State), s.stayActive = true ∧ s.paired = true ∧ s.now.driven.contains 8 = false) ∧
  (∃ (s : State), s.stayActive = false ∨ s.paired = false ∨ s.now.driven.contains 8 = true) ∧
  (∃ (s : State) (bytes : List Byte), s.stayActive = true ∧ s.paired = true ∧
    (bytes.length < 44 ∨ beBytes 4 (crc32 ((bytes.drop 8).take (bytes.length - 12))).toNat ≠ bytes.drop
    (bytes.length - 4))) ∧
  (∃ (s : State) (bytes : List Byte) (h : PennantHead), s.stayActive = true ∧ s.paired = true ∧ 44 ≤ bytes.length ∧
    beBytes 4 (crc32 ((bytes.drop 8).take (bytes.length - 12))).toNat = bytes.drop (bytes.length - 4) ∧
    parsePennant 0 ((bytes.drop 8).take (bytes.length - 12)) = some h ∧ h.unitB = s.unitB) ∧
  (∃ (s : State) (bytes : List Byte) (h : PennantHead), s.stayActive = true ∧ s.paired = true ∧ 44 ≤ bytes.length ∧
    beBytes 4 (crc32 ((bytes.drop 8).take (bytes.length - 12))).toNat = bytes.drop (bytes.length - 4) ∧
    parsePennant 0 ((bytes.drop 8).take (bytes.length - 12)) = some h ∧ h.unitB ≠ s.unitB ∧ h.count = 0) ∧
  (∃ (s : State), s.stayActive = false ∨ s.paired = false) ∧
  (∃ (s : State) (port : Fin 4) (bytes : List Byte), s.stayActive = true ∧ s.stayEnabled port = true ∧
    s.paired = true ∧ s.bit P.TwinControl 0 1 = true ∧
    (bytes.length ≠ 48 ∨ (hmac (s.blob P.PairKey) (bytes.take 32)).take 16 ≠ bytes.drop 32)) ∧
  (∃ (s : State) (port : Fin 4) (bytes : List Byte) (h : PennantHead), s.stayActive = true ∧
    s.stayEnabled port = true ∧ s.paired = true ∧ s.bit P.TwinControl 0 1 = true ∧ bytes.length = 48 ∧
    (hmac (s.blob P.PairKey) (bytes.take 32)).take 16 = bytes.drop 32 ∧ parsePennant 1 (bytes.take 32) = some h ∧
    h.unitB ≠ s.unitB) ∧
  (∃ (s : State) (port : Fin 4), s.stayActive = false ∨ s.stayEnabled port = false) ∧
  (∃ (s : State) (param : Half) (b : MirrorBody), s.serving = true ∧ s.role = .standby ∧
    s.twin.verifying.find? (fun x => x.param == param.toNat) = some b) ∧
  (∃ (s : State) (param : Half), s.serving = false ∨ s.role ≠ .standby ∨ s.twin.verifying.find?
    (fun x => x.param == param.toNat) = none) :=
  ⟨
   ⟨(let s : State := up
     let s : State := { s with power := { s.power with phase := .ready, sleep := .run } }
     let s : State := s.wr P.TwinControl 0 0xF3
     s),
    by decide +kernel⟩,
   ⟨up, by decide +kernel⟩,
   ⟨(let s : State := up
     let s : State := { s with power := { s.power with phase := .ready, sleep := .run } }
     let s : State := s.wr P.TwinControl 0 0xF3
     s),
    [], by decide +kernel⟩,
   ⟨(let s : State := up
     let s : State := { s with halyard := { s.halyard with acc := BitVec.ofNat 72 (1 * 2 ^ 40) } }
     let s : State := { s with power := { s.power with phase := .ready, sleep := .run } }
     let s : State := s.wr P.TwinControl 0 0xF3
     s),
    [0x55, 0x55, 0x55, 0x55, 0x55, 0x55, 0x55, 0x55, 0x50, 0x44, 0x10, 0, 0, 0, 0, 0, 0, 0, 0, 0, 0, 0, 0, 1, 0, 0, 0,
      0, 0, 0, 0, 0, 0, 0, 0, 0, 0, 0, 0, 0, 0xb2, 0xfb, 0xec, 0x27], { unitB := false, epoch := 0, role := Role.solo,
                                                                        mirror := MirrorState.inSync, time := 0, count
                                                                          := 0, seq := 0, next := 0, ack := 0,
                                                                        hashIndex := 0, hashSum := 0 },
      by decide +kernel⟩,
   ⟨(let s : State := up
     let s : State := { s with power := { s.power with phase := .ready, sleep := .run } }
     let s : State := s.wr P.TwinControl 0 0xF3
     s),
    [0x55, 0x55, 0x55, 0x55, 0x55, 0x55, 0x55, 0x55, 0x50, 0x44, 0x10, 0x80, 0, 0, 0, 0, 0, 0, 0, 0, 0, 0, 0, 0, 0, 0,
      0, 0, 0, 0, 0, 0, 0, 0, 0, 0, 0, 0, 0, 0, 0xd8, 0x3f, 0x5a, 0xca], { unitB := true, epoch := 0, role :=
                                                                             Role.solo, mirror := MirrorState.inSync,
                                                                           time := 0, count := 0, seq := 0, next := 0,
                                                                           ack := 0, hashIndex := 0, hashSum := 0 },
      by decide +kernel⟩,
   ⟨up, by decide +kernel⟩,
   ⟨(let port : Fin 4 := 0
     let s : State := up
     let s : State := { s with power := { s.power with phase := .ready, sleep := .run } }
     let s : State := s.wr P.TwinControl 0 0xF3
     let s : State := s.setBit P.StayControl port 0 true
     s),
    0, [0x7f], by decide +kernel⟩,
   ⟨(let port : Fin 4 := 0
     let s : State := up
     let s : State := { s with power := { s.power with phase := .ready, sleep := .run } }
     let s : State := s.wr P.TwinControl 0 0xF3
     let s : State := s.setBit P.StayControl port 0 true
     s),
    0, [0x50, 0x44, 0x11, 0x80, 0, 0, 0, 0, 0, 0, 0, 0, 0, 0, 0, 0, 0, 0, 0, 0, 0, 0, 0, 0, 0, 0, 0, 0, 0, 0, 0, 0,
      0xe5, 0xc1, 0xc5, 0x2e, 0xc6, 0x9f, 0xdb, 0x37, 0x5b, 0x72, 0xdd, 0xf7, 0x6d, 0x69, 0x46, 0xae], { unitB :=
                                                                                                           true, epoch
                                                                                                           := 0, role
                                                                                                           :=
                                                                                                           Role.solo,
                                                                                                         mirror :=
                                                                                                           MirrorState.inSync,
                                                                                                         time := 0,
                                                                                                         count := 0,
                                                                                                         seq := 0,
                                                                                                         next := 0,
                                                                                                         ack := 0,
                                                                                                         hashIndex :=
                                                                                                           0, hashSum
                                                                                                           := 0 },
      by decide +kernel⟩,
   ⟨{ up with power := { up.power with phase := .held } }, 0, by decide +kernel⟩,
   ⟨(let b : MirrorBody := { param := 36, resync := false, body := [1, 2], digest := [] }
     let s : State := up
     let s : State := { s with power := { s.power with phase := .ready, sleep := .run } }
     let s : State := s.wr P.TwinControl 0 0xF3
     let s : State := s.setFld P.TwinStatus 0 24 2 2
     let s : State := s.setTwin { s.twin with verifying := [b] }
     s),
    0x24, { param := 36, resync := false, body := [1, 2], digest := [] }, by decide +kernel⟩,
   ⟨up, 0, by decide +kernel⟩⟩

theorem witness_ReadyCancelAndEvents :
  (∃ (s : State) (core : Fin 4) (thread : Byte) (n : Nat), s.coreRuns core = true ∧ n = thread.toNat ∧
    ((s.thread n).state = .dormant ∨ (s.thread n).state = .waiting) ∧ (∀ x ∈ s.now.cancelled, x.1 ≠ n)) ∧
  (∃ (s : State) (core : Fin 4) (thread : Byte) (n : Nat), s.coreRuns core = true ∧ n = thread.toNat ∧
    ((s.thread n).state = .dormant ∨ (s.thread n).state = .waiting) ∧ (∃ x ∈ s.now.cancelled, x.1 = n)) ∧
  (∃ (s : State) (core : Fin 4) (thread : Byte) (n : Nat), s.coreRuns core = true ∧ n = thread.toNat ∧
    ((s.thread n).state = .ready ∨ (s.thread n).state = .slotted)) ∧
  (∃ (s : State) (core : Fin 4) (thread : Byte) (n : Nat), s.coreRuns core = true ∧ n = thread.toNat ∧
    (s.thread n).state = .running ∧ (∀ c < 4, (s.core c).slot ≠ some n)) ∧
  (∃ (s : State) (core : Fin 4) (thread : Byte) (n : Nat), s.coreRuns core = true ∧ n = thread.toNat ∧
    (s.thread n).state = .free) ∧
  (∃ (s : State) (core : Fin 4) (thread : Byte) (n : Nat), s.coreRuns core = true ∧ n = thread.toNat ∧
    ((s.thread n).state = .ready ∨ (s.thread n).state = .waiting ∨ (s.thread n).state = .slotted)) ∧
  (∃ (s : State) (core : Fin 4) (thread : Byte) (n : Nat), s.coreRuns core = true ∧ n = thread.toNat ∧
    (s.thread n).state = .running ∧ (s.thread n).cancelPending = false) ∧
  (∃ (s : State) (core : Fin 4) (thread : Byte) (n : Nat), s.coreRuns core = true ∧ n = thread.toNat ∧
    ((s.thread n).state = .dormant ∨ (s.thread n).state = .free ∨
    ((s.thread n).state = .running ∧ (s.thread n).cancelPending = true))) ∧
  (∃ (s : State), (s.capstan.threads.map (·.1)).Pairwise (· < ·)) ∧
  (∃ (s : State) (core : Fin 4) (n : Nat), s.coreRuns core = true ∧ n < 224 ∧ (s.thread n).state = .free ∧
    (∀ m < n, (s.thread m).state ≠ .free)) ∧
  (∃ (s : State) (core : Fin 4), s.coreRuns core = true ∧ (∀ m < 224, (s.thread m).state ≠ .free)) ∧
  (∃ (s : State) (core : Fin 4) (thread : Byte), s.coreRuns core = true ∧ (s.thread thread.toNat).state = .dormant) ∧
  (∃ (s : State) (core : Fin 4) (thread : Byte), s.coreRuns core = true ∧ (s.thread thread.toNat).state ≠ .dormant) ∧
  (∃ (s : State) (core : Fin 4), s.coreRuns core = true) ∧
  (∃ (s : State) (core : Fin 4), s.coreRuns core = true) ∧
  (∃ (s : State) (core : Fin 4), s.coreRuns core = false) ∧
  (∃ (s : State) (core : Fin 4), s.coreRuns core = false) ∧
  (∃ (s : State) (core : Fin 4), s.coreRuns core = false) ∧
  (∃ (s : State) (core : Fin 4), s.coreRuns core = false) ∧
  (∃ (s : State) (core : Fin 4), s.coreRuns core = false) ∧
  (∃ (s : State) (core : Fin 4), s.coreRuns core = false) :=
  ⟨
   ⟨(let core : Fin 4 := 0
     let thread : Byte := 1
     let n : Nat := 1
     let s : State := up
     let s : State := { s with power := { s.power with phase := .ready, sleep := .run } }
     let s : State := s.setCore core { s.core core with released := true, clockStopped := false }
     let s : State := s.setThread n { s.thread n with state := if core = 0 then .waiting else .dormant, cancelPending
                                                        := false }
     let s : State := (List.range 4).foldl (fun s c =>
         let k := s.core c; s.setCore c { k with running := if k.running = some n then none else k.running, slot := if
                                                   k.slot = some n then none else k.slot }) s
     s),
    0, 1, 1, by decide +kernel⟩,
   ⟨(let core : Fin 4 := 0
     let thread : Byte := 1
     let n : Nat := 1
     let s : State := up
     let s : State := { s with power := { s.power with phase := .ready, sleep := .run } }
     let s : State := s.setCore core { s.core core with released := true, clockStopped := false }
     let s : State := s.setThread n { s.thread n with state := .dormant, cancelPending := false }
     let s : State := (List.range 4).foldl (fun s c =>
         let k := s.core c; s.setCore c { k with running := if k.running = some n then none else k.running, slot := if
                                                   k.slot = some n then none else k.slot }) s
     let s : State := { s with now := { s.now with cancelled := [(n, core = 0)] } }
     s),
    0, 1, 1, by decide +kernel⟩,
   ⟨(let core : Fin 4 := 0
     let thread : Byte := 1
     let n : Nat := 1
     let s : State := up
     let s : State := { s with power := { s.power with phase := .ready, sleep := .run } }
     let s : State := s.setCore core { s.core core with released := true, clockStopped := false }
     let s : State := s.setThread n { s.thread n with state := .ready, cancelPending := false }
     let s : State := (List.range 4).foldl (fun s c =>
         let k := s.core c; s.setCore c { k with running := if k.running = some n then none else k.running, slot := if
                                                   k.slot = some n then none else k.slot }) s
     s),
    0, 1, 1, by decide +kernel⟩,
   ⟨(let core : Fin 4 := 0
     let thread : Byte := 1
     let n : Nat := 1
     let s : State := up
     let s : State := { s with power := { s.power with phase := .ready, sleep := .run } }
     let s : State := s.setCore core { s.core core with released := true, clockStopped := false }
     let s : State := s.setThread n { s.thread n with state := .running, cancelPending := core == 0 }
     let s : State := (List.range 4).foldl (fun s c =>
         let k := s.core c; s.setCore c { k with running := if k.running = some n then none else k.running, slot := if
                                                   k.slot = some n then none else k.slot }) s
     s),
    0, 1, 1, by decide +kernel⟩,
   ⟨(let core : Fin 4 := 0
     let thread : Byte := 1
     let n : Nat := 1
     let s : State := up
     let s : State := { s with power := { s.power with phase := .ready, sleep := .run } }
     let s : State := s.setCore core { s.core core with released := true, clockStopped := false }
     let s : State := s.setThread n { s.thread n with state := .free, cancelPending := false }
     let s : State := (List.range 4).foldl (fun s c =>
         let k := s.core c; s.setCore c { k with running := if k.running = some n then none else k.running, slot := if
                                                   k.slot = some n then none else k.slot }) s
     s),
    0, 1, 1, by decide +kernel⟩,
   ⟨(let core : Fin 4 := 0
     let thread : Byte := 1
     let n : Nat := 1
     let s : State := up
     let s : State := { s with power := { s.power with phase := .ready, sleep := .run } }
     let s : State := s.setCore core { s.core core with released := true, clockStopped := false }
     let s : State := s.setThread n { s.thread n with state := if core = 0 then .waiting else if core = 1 then
                                                        .slotted else .ready, cancelPending := false }
     let s : State := (List.range 4).foldl (fun s c =>
         let k := s.core c; s.setCore c { k with running := if k.running = some n then none else k.running, slot := if
                                                   k.slot = some n then none else k.slot }) s
     let s : State := if core = 1 then s.setCore 2 { s.core 2 with slot := some n } else s
     s),
    0, 1, 1, by decide +kernel⟩,
   ⟨(let core : Fin 4 := 0
     let thread : Byte := 1
     let n : Nat := 1
     let s : State := up
     let s : State := { s with power := { s.power with phase := .ready, sleep := .run } }
     let s : State := s.setCore core { s.core core with released := true, clockStopped := false }
     let s : State := s.setThread n { s.thread n with state := .running, cancelPending := false }
     let s : State := (List.range 4).foldl (fun s c =>
         let k := s.core c; s.setCore c { k with running := if k.running = some n then none else k.running, slot := if
                                                   k.slot = some n then none else k.slot }) s
     s),
    0, 1, 1, by decide +kernel⟩,
   ⟨(let core : Fin 4 := 0
     let thread : Byte := 1
     let n : Nat := 1
     let s : State := up
     let s : State := { s with power := { s.power with phase := .ready, sleep := .run } }
     let s : State := s.setCore core { s.core core with released := true, clockStopped := false }
     let s : State := s.setThread n { s.thread n with state := if core = 0 then .running else .dormant, cancelPending
                                                        := core == 0 }
     let s : State := (List.range 4).foldl (fun s c =>
         let k := s.core c; s.setCore c { k with running := if k.running = some n then none else k.running, slot := if
                                                   k.slot = some n then none else k.slot }) s
     s),
    0, 1, 1, by decide +kernel⟩,
   ⟨(let code : Byte := 0
     let s : State := up
     let s : State := [7,9,200].foldl (fun (s : State) n =>
         s.setThread n { s.thread n with state := if n = 9 then .waiting else .dormant, event := code }) s
     s),
    by decide +kernel⟩,
   ⟨(let core : Fin 4 := 0
     let s : State := up
     let s : State := { s with power := { s.power with phase := .ready, sleep := .run } }
     let s : State := s.setCore core { s.core core with released := true, clockStopped := false }
     s),
    0, 0, by decide +kernel⟩,
   ⟨(let core : Fin 4 := 0
     let s : State := up
     let s : State := { s with power := { s.power with phase := .ready, sleep := .run } }
     let s : State := s.setCore core { s.core core with released := true, clockStopped := false }
     let s : State := (List.range 224).foldl
         (fun (s : State) m => s.setThread m { s.thread m with state := .dormant }) s
     s),
    0, by decide +kernel⟩,
   ⟨(let core : Fin 4 := 0
     let thread : Byte := 1
     let s : State := up
     let s : State := { s with power := { s.power with phase := .ready, sleep := .run } }
     let s : State := s.setCore core { s.core core with released := true, clockStopped := false }
     let s : State := s.setThread thread.toNat { s.thread thread.toNat with state := .dormant }
     s),
    0, 1, by decide +kernel⟩,
   ⟨(let core : Fin 4 := 0
     let s : State := up
     let s : State := { s with power := { s.power with phase := .ready, sleep := .run } }
     let s : State := s.setCore core { s.core core with released := true, clockStopped := false }
     s),
    0, 1, by decide +kernel⟩,
   ⟨(let core : Fin 4 := 0
     let s : State := up
     let s : State := { s with power := { s.power with phase := .ready, sleep := .run } }
     let s : State := s.setCore core { s.core core with released := true, clockStopped := false }
     s),
    0, by decide +kernel⟩,
   ⟨(let core : Fin 4 := 0
     let s : State := up
     let s : State := { s with power := { s.power with phase := .ready, sleep := .run } }
     let s : State := s.setCore core { s.core core with released := true, clockStopped := false }
     s),
    0, by decide +kernel⟩,
   ⟨{ up with power := { up.power with phase := .held } }, 0, by decide +kernel⟩,
   ⟨{ up with power := { up.power with phase := .held } }, 0, by decide +kernel⟩,
   ⟨{ up with power := { up.power with phase := .held } }, 0, by decide +kernel⟩,
   ⟨{ up with power := { up.power with phase := .held } }, 0, by decide +kernel⟩,
   ⟨{ up with power := { up.power with phase := .held } }, 0, by decide +kernel⟩,
   ⟨{ up with power := { up.power with phase := .held } }, 0, by decide +kernel⟩⟩

theorem witness_DispatchAndTheRunningThread :
  (∃ (s : State) (core : Fin 4) (n : Nat), s.coreRuns core = true ∧ s.capstan.dispatchStopped = false ∧
    s.now.emptied.contains core.val = false ∧ (s.core core).slot = some n ∧ n < 256 ∧ (s.core core).running ≠ some n) ∧
  (∃ (s : State) (core : Fin 4), s.coreRuns core = true ∧
    (s.capstan.dispatchStopped = true ∨ s.now.emptied.contains core.val = true ∨ (s.core core).slot = none)) ∧
  (∃ (s : State) (core : Fin 4) (n : Nat), s.coreRuns core = true ∧ (s.core core).running = some n ∧ n < 256 ∧
    (s.thread n).state = .running ∧ (s.thread n).cancelPending = false) ∧
  (∃ (s : State) (core : Fin 4) (n : Nat), s.coreRuns core = true ∧ (s.core core).running = some n ∧ n < 256 ∧
    (s.thread n).state = .running ∧ (s.thread n).cancelPending = false ∧ (s.thread n).readyAgain = false) ∧
  (∃ (s : State) (core : Fin 4) (n : Nat), s.coreRuns core = true ∧ (s.core core).running = some n ∧ n < 256 ∧
    (s.thread n).state = .running ∧ (s.thread n).cancelPending = false ∧ (s.thread n).readyAgain = true) ∧
  (∃ (s : State) (core : Fin 4) (n : Nat), s.coreRuns core = true ∧ (s.core core).running = some n ∧ n < 256 ∧
    (s.thread n).state = .running ∧ (s.thread n).cancelPending = false) ∧
  (∃ (s : State) (core : Fin 4) (n : Nat), s.coreRuns core = true ∧ (s.core core).running = some n ∧ n < 256 ∧
    (s.thread n).state = .running ∧ (s.thread n).cancelPending = true) ∧
  (∃ (s : State) (core : Fin 4) (n : Nat), s.coreRuns core = true ∧ (s.core core).running = some n ∧ n < 256 ∧
    (s.thread n).state = .running ∧ (s.thread n).cancelPending = true) ∧
  (∃ (s : State) (core : Fin 4) (n : Nat), s.coreRuns core = true ∧ (s.core core).running = some n ∧ n < 256 ∧
    (s.thread n).state = .running ∧ (s.thread n).cancelPending = true) ∧
  (∃ (s : State) (core : Fin 4) (thread : Byte) (n : Nat), s.coreRuns core = true ∧ n = thread.toNat) ∧
  (∃ (s : State) (core : Fin 4) (thread : Byte) (word : Fin 4), s.coreRuns core = true ∧ word ≠ 0 ∧
    ((s.thread thread.toNat).state = .free ∨ (s.thread thread.toNat).state = .dormant)) ∧
  (∃ (s : State) (core : Fin 4) (thread : Byte) (word : Fin 4), s.coreRuns core = true ∧ word ≠ 0 ∧
    (s.thread thread.toNat).state ≠ .free ∧ (s.thread thread.toNat).state ≠ .dormant) ∧
  (∃ (s : State) (core : Fin 4), s.coreRuns core = false) ∧
  (∃ (s : State) (core : Fin 4), s.coreRuns core = false) ∧
  (∃ (s : State) (core : Fin 4), s.coreRuns core = false) ∧
  (∃ (s : State) (core : Fin 4), s.coreRuns core = false) ∧
  (∃ (s : State) (core : Fin 4), s.coreRuns core = false) :=
  ⟨
   ⟨(let core : Fin 4 := 0
     let n : Nat := 1
     let s : State := up
     let s : State := { s with power := { s.power with phase := .ready, sleep := .run } }
     let s : State := s.setCore core { s.core core with released := true, clockStopped := false }
     let s : State := { s with capstan := { s.capstan with dispatchStopped := false } }
     let s : State := s.setThread n { s.thread n with state := .slotted }
     let s : State := s.setCore core { s.core core with slot := some n, running := if (s.core core).running = some n
                                                          then none else (s.core core).running }
     s),
    0, 1, by decide +kernel⟩,
   ⟨(let core : Fin 4 := 0
     let s : State := up
     let s : State := { s with power := { s.power with phase := .ready, sleep := .run } }
     let s : State := s.setCore core { s.core core with released := true, clockStopped := false }
     s),
    0, by decide +kernel⟩,
   ⟨(let core : Fin 4 := 0
     let n : Nat := 1
     let s : State := up
     let s : State := { s with power := { s.power with phase := .ready, sleep := .run } }
     let s : State := s.setCore core { s.core core with released := true, clockStopped := false }
     let s : State := s.setThread n { s.thread n with state := .running, cancelPending := false, readyAgain := false }
     let s : State := (List.range 4).foldl (fun s c =>
         let k := s.core c; s.setCore c { k with running := if k.running = some n then none else k.running, slot := if
                                                   k.slot = some n then none else k.slot }) s
     let s : State := s.setCore core { s.core core with running := some n, slot := none }
     s),
    0, 1, by decide +kernel⟩,
   ⟨(let core : Fin 4 := 0
     let n : Nat := 1
     let s : State := up
     let s : State := { s with power := { s.power with phase := .ready, sleep := .run } }
     let s : State := s.setCore core { s.core core with released := true, clockStopped := false }
     let s : State := s.setThread n { s.thread n with state := .running, cancelPending := false, readyAgain := false }
     let s : State := (List.range 4).foldl (fun s c =>
         let k := s.core c; s.setCore c { k with running := if k.running = some n then none else k.running, slot := if
                                                   k.slot = some n then none else k.slot }) s
     let s : State := s.setCore core { s.core core with running := some n, slot := none }
     s),
    0, 1, by decide +kernel⟩,
   ⟨(let core : Fin 4 := 0
     let n : Nat := 1
     let s : State := up
     let s : State := { s with power := { s.power with phase := .ready, sleep := .run } }
     let s : State := s.setCore core { s.core core with released := true, clockStopped := false }
     let s : State := s.setThread n { s.thread n with state := .running, cancelPending := false, readyAgain := false }
     let s : State := (List.range 4).foldl (fun s c =>
         let k := s.core c; s.setCore c { k with running := if k.running = some n then none else k.running, slot := if
                                                   k.slot = some n then none else k.slot }) s
     let s : State := s.setCore core { s.core core with running := some n, slot := none }
     let s : State := s.setThread n { s.thread n with readyAgain := true }
     s),
    0, 1, by decide +kernel⟩,
   ⟨(let core : Fin 4 := 0
     let n : Nat := 18
     let s : State := up
     let s : State := { s with power := { s.power with phase := .ready, sleep := .run } }
     let s : State := s.setCore core { s.core core with released := true, clockStopped := false }
     let s : State := s.setThread n { s.thread n with state := .running, cancelPending := false, readyAgain := false }
     let s : State := (List.range 4).foldl (fun s c =>
         let k := s.core c; s.setCore c { k with running := if k.running = some n then none else k.running, slot := if
                                                   k.slot = some n then none else k.slot }) s
     let s : State := s.setCore core { s.core core with running := some n, slot := none }
     s),
    0, 18, by decide +kernel⟩,
   ⟨(let core : Fin 4 := 0
     let n : Nat := 1
     let s : State := up
     let s : State := { s with power := { s.power with phase := .ready, sleep := .run } }
     let s : State := s.setCore core { s.core core with released := true, clockStopped := false }
     let s : State := s.setThread n { s.thread n with state := .running, cancelPending := false, readyAgain := false }
     let s : State := (List.range 4).foldl (fun s c =>
         let k := s.core c; s.setCore c { k with running := if k.running = some n then none else k.running, slot := if
                                                   k.slot = some n then none else k.slot }) s
     let s : State := s.setCore core { s.core core with running := some n, slot := none }
     let s : State := s.setThread n { s.thread n with cancelPending := true }
     s),
    0, 1, by decide +kernel⟩,
   ⟨(let core : Fin 4 := 0
     let n : Nat := 1
     let s : State := up
     let s : State := { s with power := { s.power with phase := .ready, sleep := .run } }
     let s : State := s.setCore core { s.core core with released := true, clockStopped := false }
     let s : State := s.setThread n { s.thread n with state := .running, cancelPending := false, readyAgain := false }
     let s : State := (List.range 4).foldl (fun s c =>
         let k := s.core c; s.setCore c { k with running := if k.running = some n then none else k.running, slot := if
                                                   k.slot = some n then none else k.slot }) s
     let s : State := s.setCore core { s.core core with running := some n, slot := none }
     let s : State := s.setThread n { s.thread n with cancelPending := true }
     s),
    0, 1, by decide +kernel⟩,
   ⟨(let core : Fin 4 := 0
     let n : Nat := 18
     let s : State := up
     let s : State := { s with power := { s.power with phase := .ready, sleep := .run } }
     let s : State := s.setCore core { s.core core with released := true, clockStopped := false }
     let s : State := s.setThread n { s.thread n with state := .running, cancelPending := false, readyAgain := false }
     let s : State := (List.range 4).foldl (fun s c =>
         let k := s.core c; s.setCore c { k with running := if k.running = some n then none else k.running, slot := if
                                                   k.slot = some n then none else k.slot }) s
     let s : State := s.setCore core { s.core core with running := some n, slot := none }
     let s : State := s.setThread n { s.thread n with cancelPending := true }
     s),
    0, 18, by decide +kernel⟩,
   ⟨(let core : Fin 4 := 0
     let s : State := up
     let s : State := { s with power := { s.power with phase := .ready, sleep := .run } }
     let s : State := s.setCore core { s.core core with released := true, clockStopped := false }
     s),
    0, 1, 1, by decide +kernel⟩,
   ⟨(let core : Fin 4 := 0
     let s : State := up
     let s : State := { s with power := { s.power with phase := .ready, sleep := .run } }
     let s : State := s.setCore core { s.core core with released := true, clockStopped := false }
     s),
    0, 1, 1, by decide +kernel⟩,
   ⟨(let core : Fin 4 := 0
     let thread : Byte := 1
     let s : State := up
     let s : State := { s with power := { s.power with phase := .ready, sleep := .run } }
     let s : State := s.setCore core { s.core core with released := true, clockStopped := false }
     let s : State := s.setThread thread.toNat { s.thread thread.toNat with state := .running }
     s),
    0, 1, 1, by decide +kernel⟩,
   ⟨{ up with power := { up.power with phase := .held } }, 0, by decide +kernel⟩,
   ⟨{ up with power := { up.power with phase := .held } }, 0, by decide +kernel⟩,
   ⟨{ up with power := { up.power with phase := .held } }, 0, by decide +kernel⟩,
   ⟨{ up with power := { up.power with phase := .held } }, 0, by decide +kernel⟩,
   ⟨{ up with power := { up.power with phase := .held } }, 0, by decide +kernel⟩⟩

theorem witness_TrapsAndEnvironmentCalls :
  (∃ (s : State) (core : Fin 4), s.coreRuns core = true ∧ (s.core core).user = false) ∧
  (∃ (s : State) (core : Fin 4), s.coreRuns core = true ∧ (s.core core).user = true) ∧
  (∃ (s : State) (core : Fin 4), s.coreRuns core = true) ∧
  (∃ (s : State) (core : Fin 4), s.coreRuns core = false) ∧
  (∃ (s : State) (core : Fin 4), s.coreRuns core = false) :=
  ⟨
   ⟨(let core : Fin 4 := 0
     let s : State := up
     let s : State := { s with power := { s.power with phase := .ready, sleep := .run } }
     let s : State := s.setCore core { s.core core with released := true, clockStopped := false }
     let s : State := s.setCore core { s.core core with user := false }
     s),
    0, by decide +kernel⟩,
   ⟨(let core : Fin 4 := 0
     let s : State := up
     let s : State := { s with power := { s.power with phase := .ready, sleep := .run } }
     let s : State := s.setCore core { s.core core with released := true, clockStopped := false }
     let s : State := s.setCore core { s.core core with user := true }
     let s : State := [225,230].foldl
         (fun (s : State) n => s.setThread n { s.thread n with state := if n = 225 then .waiting else .ready }) s
     s),
    0, by decide +kernel⟩,
   ⟨(let core : Fin 4 := 0
     let s : State := up
     let s : State := { s with power := { s.power with phase := .ready, sleep := .run } }
     let s : State := s.setCore core { s.core core with released := true, clockStopped := false }
     s),
    0, by decide +kernel⟩,
   ⟨{ up with power := { up.power with phase := .held } }, 0, by decide +kernel⟩,
   ⟨{ up with power := { up.power with phase := .held } }, 0, by decide +kernel⟩⟩

theorem witness_LocalBlockTransferPorts :
  (∃ (s : State) (core : Fin 4) (sram : Word) (length : Word) (dramLow : Word) (dramHigh : Word), s.coreRuns core =
    true ∧ (s.core core).bt.running = false ∧ sram.toNat % 4 = 0 ∧ length.toNat % 4 = 0 ∧ dramLow.toNat % 4 = 0 ∧
    sramExtent sram.toNat length.toNat = true ∧ (dramHigh.toNat * 2 ^ 32 + dramLow.toNat) + length.toNat ≤ dramSize) ∧
  (∃ (s : State) (core : Fin 4) (sram : Word) (length : Word) (dramLow : Word) (dramHigh : Word), s.coreRuns core =
    true ∧ (s.core core).bt.running = false ∧ sram.toNat % 4 = 0 ∧ length.toNat % 4 = 0 ∧ dramLow.toNat % 4 = 0 ∧
    sramExtent sram.toNat length.toNat = true ∧ (dramHigh.toNat * 2 ^ 32 + dramLow.toNat) + length.toNat ≤ dramSize) ∧
  (∃ (s : State) (core : Fin 4), s.coreRuns core = true ∧ (s.core core).bt.running = true) ∧
  (∃ (s : State) (core : Fin 4), s.coreRuns core = false) ∧
  (∃ (s : State) (core : Fin 4) (param : Half) (total : Word) (r : Row) (n : Nat), s.coreRuns core = true ∧
    (s.core core).bt.running = false ∧ Dict.row param.toNat = some r ∧ r.ty = .blob ∧
    s.permits (s.btRequester core) param.toNat = true ∧ s.notActive (s.via (s.btRequester core)) r = false ∧
    (∀ m < 4, (s.xfer m).state ≠ .free → (s.xfer m).param ≠ param.toNat) ∧ total.toNat ≤ r.size ∧
    s.openGate param.toNat = 0 ∧ n < 4 ∧ (s.xfer n).state = .free ∧ (∀ m < n, (s.xfer m).state ≠ .free)) ∧
  (∃ (s : State) (core : Fin 4) (param : Half) (slot : BitVec 4) (sram : Word) (length : Word) (offset : Word),
    s.coreRuns core = true ∧ (s.core core).bt.running = false ∧ sramExtent sram.toNat length.toNat = true ∧
    s.permits (s.btRequester core) param.toNat = true ∧
    s.ownsSlot (s.btRequester core) param.toNat slot.toNat = true ∧ (s.xfer slot.toNat).state = .opened ∧
    offset.toNat + length.toNat ≤ (s.xfer slot.toNat).total ∧ (s.xfer slot.toNat).total ≤ 0x2000000) ∧
  (∃ (s : State) (core : Fin 4) (param : Half) (slot : BitVec 4) (digest : Word), s.coreRuns core = true ∧
    (s.core core).bt.running = false ∧ sramExtent digest.toNat 32 = true ∧
    s.permits (s.btRequester core) param.toNat = true ∧
    s.ownsSlot (s.btRequester core) param.toNat slot.toNat = true ∧ (s.xfer slot.toNat).state = .opened ∧
    (s.xfer slot.toNat).result = none ∧ param.toNat ≠ P.AppletImage ∧ param.toNat ≠ P.RelayRequest) ∧
  (∃ (s : State) (core : Fin 4) (param : Half) (slot : BitVec 4), s.coreRuns core = true ∧
    (s.core core).bt.running = false ∧ s.permits (s.btRequester core) param.toNat = true ∧
    s.ownsSlot (s.btRequester core) param.toNat slot.toNat = true ∧ (s.xfer slot.toNat).state ≠ .latchPending ∧
    (s.xfer slot.toNat).writing = false) ∧
  (∃ (s : State) (core : Fin 4) (param : Half), s.coreRuns core = true ∧ (s.core core).bt.running = false ∧
    s.permits (s.btRequester core) param.toNat = true) ∧
  (∃ (s : State) (core : Fin 4) (param : Half) (sram : Word) (length : Word) (r : Row), s.coreRuns core = true ∧
    (s.core core).bt.running = false ∧ sramExtent sram.toNat length.toNat = true ∧ Dict.row param.toNat = some r ∧
    r.ty = .blob ∧ r.acc ≠ .wo ∧ r.readLevel ≤ s.level (s.btRequester core) ∧ s.reaches param.toNat false = true) ∧
  (∃ (s : State) (core : Fin 4), (s.core core).bt.running = true) ∧
  (∃ (s : State) (core : Fin 4), (s.core core).bt.running = false) :=
  ⟨
   ⟨(let core : Fin 4 := 0
     let s : State := up
     let s : State := { s with power := { s.power with phase := .ready, sleep := .run } }
     let s : State := s.setCore core { s.core core with released := true, clockStopped := false }
     let s : State := s.setCore core { s.core core with bt := { (s.core core).bt with running := false } }
     s),
    0, 0x10000004, 0x1c, 0, 0, by decide +kernel⟩,
   ⟨(let core : Fin 4 := 0
     let s : State := up
     let s : State := { s with power := { s.power with phase := .ready, sleep := .run } }
     let s : State := s.setCore core { s.core core with released := true, clockStopped := false }
     let s : State := s.setCore core { s.core core with bt := { (s.core core).bt with running := false } }
     s),
    0, 0x10000004, 0x1c, 0, 0, by decide +kernel⟩,
   ⟨(let core : Fin 4 := 0
     let s : State := up
     let s : State := { s with power := { s.power with phase := .ready, sleep := .run } }
     let s : State := s.setCore core { s.core core with released := true, clockStopped := false }
     let s : State := s.setCore core { s.core core with bt := { (s.core core).bt with running := false } }
     let s : State := s.setCore core { s.core core with bt := { (s.core core).bt with running := true } }
     s),
    0, by decide +kernel⟩,
   ⟨(let core : Fin 4 := 0
     let s : State := up
     let s : State := s.setCore core { s.core core with released := false }
     s),
    0, by decide +kernel⟩,
   ⟨(let core : Fin 4 := 0
     let total : Word := 1
     let s : State := up
     let s : State := { s with power := { s.power with phase := .ready, sleep := .run } }
     let s : State := s.setCore core { s.core core with released := true, clockStopped := false }
     let s : State := s.setCore core { s.core core with bt := { (s.core core).bt with running := false } }
     let s : State := { s with power := { s.power with phase := .ready, sleep := .run } }
     let s : State := s.setXfer (total.toNat % 4) Xfer.free
     s),
    0, 0x8030, 1, (rowOf 32816), 0, by decide +kernel⟩,
   ⟨(let core : Fin 4 := 0
     let param : Half := 0x8030
     let slot : BitVec 4 := 1
     let s : State := up
     let s : State := { s with power := { s.power with phase := .ready, sleep := .run } }
     let s : State := s.setCore core { s.core core with released := true, clockStopped := false }
     let s : State := s.setCore core { s.core core with bt := { (s.core core).bt with running := false } }
     let s : State := s.setXfer slot.toNat { Xfer.free with state := .opened, param := param.toNat, owner :=
                                                              s.btRequester core, total := 300, digest := [7] }
     let s : State := { s with power := { s.power with phase := .ready, sleep := .run } }
     s),
    0, 0x8030, 1, 0x1000003f, 0, 0, by decide +kernel⟩,
   ⟨(let core : Fin 4 := 0
     let param : Half := 0x8030
     let slot : BitVec 4 := 1
     let digest : Word := 0x1000003f
     let s : State := up
     let s : State := { s with power := { s.power with phase := .ready, sleep := .run } }
     let s : State := s.setCore core { s.core core with released := true, clockStopped := false }
     let s : State := s.setCore core { s.core core with bt := { (s.core core).bt with running := false } }
     let s : State := s.setXfer slot.toNat { Xfer.free with state := .opened, param := param.toNat, owner :=
                                                              s.btRequester core, total := 300, digest := [7] }
     let s : State := { s with power := { s.power with phase := .ready, sleep := .run } }
     s),
    0, 0x8030, 1, 0x1000003f, by decide +kernel⟩,
   ⟨(let core : Fin 4 := 0
     let param : Half := 0x8030
     let slot : BitVec 4 := 1
     let s : State := up
     let s : State := { s with power := { s.power with phase := .ready, sleep := .run } }
     let s : State := s.setCore core { s.core core with released := true, clockStopped := false }
     let s : State := s.setCore core { s.core core with bt := { (s.core core).bt with running := false } }
     let s : State := s.setXfer slot.toNat { Xfer.free with state := .opened, param := param.toNat, owner :=
                                                              s.btRequester core, total := 300, digest := [7] }
     let s : State := { s with power := { s.power with phase := .ready, sleep := .run } }
     s),
    0, 0x8030, 1, by decide +kernel⟩,
   ⟨(let core : Fin 4 := 0
     let param : Half := 0x8030
     let slot : BitVec 4 := 1
     let s : State := up
     let s : State := { s with power := { s.power with phase := .ready, sleep := .run } }
     let s : State := s.setCore core { s.core core with released := true, clockStopped := false }
     let s : State := s.setCore core { s.core core with bt := { (s.core core).bt with running := false } }
     let s : State := s.setXfer slot.toNat { Xfer.free with state := .opened, param := param.toNat, owner :=
                                                              s.btRequester core, total := 300, digest := [7] }
     let s : State := { s with power := { s.power with phase := .ready, sleep := .run } }
     s),
    0, 0x8030, by decide +kernel⟩,
   ⟨(let core : Fin 4 := 0
     let s : State := up
     let s : State := { s with power := { s.power with phase := .ready, sleep := .run } }
     let s : State := s.setCore core { s.core core with released := true, clockStopped := false }
     let s : State := s.setCore core { s.core core with bt := { (s.core core).bt with running := false } }
     let s : State := { s with power := { s.power with phase := .ready, sleep := .run } }
     s),
    0, 0x8030, 0x10000001, 3, (rowOf 32816), by decide +kernel⟩,
   ⟨(let core : Fin 4 := 0
     let s : State := up
     let s : State := s.setCore core { s.core core with bt := { (s.core core).bt with running := true } }
     s),
    0, by decide +kernel⟩,
   ⟨up, 0, by decide +kernel⟩⟩

theorem witness_RelayAndApplets :
  (∃ (s : State) (rq : Requester) (body : List Byte), s.storeFaults rq P.RelayRequest 0 = false ∧
    s.permits rq P.RelayRequest = true ∧ s.hears rq 0 = true ∧ body.length ≤ 1400 ∧ s.rdN P.RelayStatus 0 ≠ 1) ∧
  (∃ (s : State) (rq : Requester) (body : List Byte), s.storeFaults rq P.RelayRequest 0 = false ∧
    s.permits rq P.RelayRequest = true ∧ s.hears rq 0 = true ∧ (1400 < body.length ∨ s.rdN P.RelayStatus 0 = 1)) ∧
  (∃ (s : State), s.rdN P.RelayStatus 0 = 1) ∧
  (∃ (s : State), s.rdN P.RelayStatus 0 ≠ 1) ∧
  (∃ (s : State) (port : Fin 64), s.capstan.bulkRefused.contains port.val = true ∧
    (s.rdN P.RelayStatus 0 ≠ 1 ∨ s.capstan.relayPort ≠ port.val)) ∧
  (∃ (s : State) (port : Fin 64), s.capstan.bulkRefused.contains port.val = true ∧ s.rdN P.RelayStatus 0 = 1 ∧
    s.capstan.relayPort = port.val) ∧
  (∃ (s : State) (port : Fin 64), s.capstan.bulkRefused.contains port.val = false) ∧
  (∃ (s : State) (rq : Requester) (value : Word), s.grants rq P.AppletControl 0 (value ||| 1).toNat = true ∧
    value.getLsbD 1 = false ∧ (s.arbitrate rq).now.appletStopped = false ∧
    (s.appletState = 1 ∨ s.appletState = 3 ∨ s.appletState = 4) ∧ appletThreads (s.blob P.AppletImage) ≤ 32 ∧
    appletWord (s.blob P.AppletImage) 0 + appletWord (s.blob P.AppletImage) 1 ≤ appletAreaSize) ∧
  (∃ (s : State) (rq : Requester) (value : Word), s.grants rq P.AppletControl 0 (value ||| 1).toNat = true ∧
    (value.getLsbD 1 = true ∨ (s.arbitrate rq).now.appletStopped = true) ∧ s.appletState ≠ 0) ∧
  (∃ (s : State) (rq : Requester), s.grants rq P.AppletControl 0 (2 + bitAt 2 (s.bit P.AppletControl 0 2)) = true ∧
    s.appletState ≠ 0) ∧
  (∃ (s : State) (rq : Requester), s.grants rq P.AppletControl 0 (2 + bitAt 2 (s.bit P.AppletControl 0 2)) = true ∧
    s.appletState = 0) :=
  ⟨
   ⟨(let rq : Requester := { path := Path.stay 0, session := 1, addr := 1, udp := 1 }
     let s : State := up
     let s : State := (served s rq).wr P.RelayStatus 0 2
     s),
    { path := Path.stay 0, session := 1, addr := 1, udp := 1 }, [], by decide +kernel⟩,
   ⟨(let rq : Requester := { path := Path.stay 0, session := 1, addr := 1, udp := 1 }
     let s : State := up
     let s : State := (served s rq).wr P.RelayStatus 0 1
     s),
    { path := Path.stay 0, session := 1, addr := 1, udp := 1 }, [], by decide +kernel⟩,
   ⟨(up.wr P.RelayStatus 0 1), by decide +kernel⟩,
   ⟨up, by decide +kernel⟩,
   ⟨(let port : Fin 64 := 0
     let s : State := up
     let s : State := { s with capstan := { s.capstan with bulkRefused := [port.val, 3] } }
     s),
    0, by decide +kernel⟩,
   ⟨(let port : Fin 64 := 0
     let s : State := up
     let s : State := { s with capstan := { s.capstan with bulkRefused := [port.val, 3], relayPort := port.val } }
     let s : State := s.wr P.RelayStatus 0 1
     s),
    0, by decide +kernel⟩,
   ⟨up, 0, by decide +kernel⟩,
   ⟨(let rq : Requester := { path := Path.stay 0, session := 1, addr := 1, udp := 1 }
     let s : State := up
     let s : State := (served s rq).wr P.AppletState 0 3
     let s : State := s.setBlob P.AppletImage ([0,0,0,0,1,2,0,0] ++ leBytes 4 8 ++ leBytes 4 4 ++ List.replicate 80 0
         ++ [0,0,0,0,9,0xF,77,0xFF] ++ [16,0,0,0,2,3,7,9] ++ List.replicate 12 8)
     s),
    { path := Path.stay 0, session := 1, addr := 1, udp := 1 }, 0, by decide +kernel⟩,
   ⟨(let rq : Requester := { path := Path.stay 0, session := 1, addr := 1, udp := 1 }
     let s : State := up
     let s : State := (served s rq).wr P.AppletState 0 3
     let s : State := { s with now := { s.now with rank := 0, appletStopped := true } }
     let s : State := s.setBlob P.AppletImage ([0,0,0,0,1,2,0,0] ++ leBytes 4 8 ++ leBytes 4 4 ++ List.replicate 80 0
         ++ [0,0,0,0,9,0xF,77,0xFF] ++ [16,0,0,0,2,3,7,9] ++ List.replicate 12 8)
     s),
    { path := Path.stay 0, session := 1, addr := 1, udp := 1 }, 0, by decide +kernel⟩,
   ⟨(let rq : Requester := { path := Path.stay 0, session := 1, addr := 1, udp := 1 }
     let s : State := up
     let s : State := (served s rq).wr P.AppletState 0 2
     let s : State := [225,230].foldl
         (fun (s : State) n => s.setThread n { s.thread n with state := if n = 225 then .waiting else .ready }) s
     s),
    { path := Path.stay 0, session := 1, addr := 1, udp := 1 }, by decide +kernel⟩,
   ⟨(let rq : Requester := { path := Path.stay 0, session := 1, addr := 1, udp := 1 }
     let s : State := up
     let s : State := (served s rq).wr P.AppletState 0 0
     s),
    { path := Path.stay 0, session := 1, addr := 1, udp := 1 }, by decide +kernel⟩⟩

theorem witness_ImagesHealthAndSettings :
  (∃ (s : State) (i : Fin 2) (body : List Byte), s.update.image = some (i, body)) ∧
  (∃ (s : State) (i : Fin 2) (body : List Byte), s.update.image = some (i, body)) ∧
  (∃ (s : State), s.update.image = none) ∧
  (∃ (s : State) (rq : Requester) (value : Word) (i : Fin 2) (r : Row), s.grants rq P.HealthConfirm 0 value.toNat =
    true ∧ value = 0x5AFE ∧ s.now.expired = none ∧ s.bit P.UpdateStatus 0 9 = false ∧
    s.update.healthTimer.isSome = true ∧ s.runningSlot = some i ∧
    (s.readOnly (s.via rq) r = false ∧ Dict.row P.HealthConfirm = some r)) ∧
  (∃ (s : State) (rq : Requester) (value : Word), s.grants rq P.HealthConfirm 0 value.toNat = true ∧ value = 0x5AFE ∧
    s.now.expired = none ∧ s.bit P.UpdateStatus 0 9 = true) ∧
  (∃ (s : State) (rq : Requester) (value : Word) (i : Fin 2) (x : Slot) (r : Row), s.grants rq P.HealthConfirm 0
    value.toNat = true ∧ value = 0x5AFE ∧ (s.arbitrate rq).now.expired = some x ∧ s.trouble.queue = [] ∧
    s.runningSlot = some i ∧ (s.readOnly (s.via rq) r = false ∧ Dict.row P.HealthConfirm = some r)) ∧
  (∃ (s : State) (rq : Requester) (value : Word), s.grants rq P.HealthConfirm 0 value.toNat = true ∧ value ≠ 0x5AFE) ∧
  (∃ (s : State) (i : Fin 2), s.update.healthTimer.isSome = true ∧ s.runningSlot = some i) ∧
  (∃ (s : State), s.update.healthTimer = none ∨ s.runningSlot = none) ∧
  (∃ (s : State) (rq : Requester) (version : Half) (i : Fin 2), s.grants rq P.FloorRequest 0 version.toNat = true ∧
    s.runningSlot = some i ∧ (s.slotOf i).code = 3 ∧ version.toNat ≤ (s.slotOf i).version ∧
    s.nv.floor.toNat ≤ version.toNat) ∧
  (∃ (s : State) (rq : Requester) (version : Half), s.grants rq P.FloorRequest 0 version.toNat = true ∧
    version.toNat < s.nv.floor.toNat) ∧
  (∃ (s : State) (rq : Requester), s.grants rq P.SettingsControl 0 1 = true ∧
    (s.arbitrate rq).taken Res.flash = false) ∧
  (∃ (s : State) (rq : Requester), s.grants rq P.SettingsControl 0 1 = true ∧ (s.arbitrate rq).taken Res.flash = true) ∧
  (∃ (s : State) (rq : Requester), s.grants rq P.SettingsControl 0 4 = true ∧ s.update.save.isSome = true) ∧
  (∃ (s : State) (rq : Requester), s.permits rq P.SettingsControl = true ∧
    s.storeFaults rq P.SettingsControl 0 = false ∧ s.hears rq 0 = true) ∧
  (∃ (s : State) (i : Fin 2) (bytes : List Byte) (importing : Bool), s.update.save = some (i, bytes, importing)) ∧
  (∃ (s : State), s.update.save.isSome = true) ∧
  (∃ (s : State), s.update.save = none) :=
  ⟨
   ⟨(let i : Fin 2 := 0
     let body : List Byte := [0x7f]
     let s : State := up
     let s : State := s.setUpdate { s.update with image := some (i, body) }
     s),
    0, [0x7f], by decide +kernel⟩,
   ⟨(let i : Fin 2 := 1
     let body : List Byte := [0]
     let s : State := up
     let s : State := s.setUpdate { s.update with image := some (i, body) }
     s),
    1, [0], by decide +kernel⟩,
   ⟨up, by decide +kernel⟩,
   ⟨(let rq : Requester := { path := Path.stay 0, session := 1, addr := 1, udp := 1 }
     let i : Fin 2 := 0
     let s : State := up
     let s : State := ((served s rq).setBit P.UpdateStatus 0 9 false).setUpdate
         { s.update with healthTimer := some 77 }
     let s : State := { s with power := { s.power with boot := { s.power.boot with image := some i } } }
     s),
    { path := Path.stay 0, session := 1, addr := 1, udp := 1 }, 0x5afe, 0, (rowOf 61472), by decide +kernel⟩,
   ⟨(let rq : Requester := { path := Path.stay 0, session := 1, addr := 1, udp := 1 }
     let s : State := up
     let s : State := ((served s rq).setBit P.UpdateStatus 0 9 true)
     s),
    { path := Path.stay 0, session := 1, addr := 1, udp := 1 }, 0x5afe, by decide +kernel⟩,
   ⟨(let rq : Requester := { path := Path.stay 0, session := 1, addr := 1, udp := 1 }
     let i : Fin 2 := 0
     let x : Slot := { generation := 1, written := 0, trial := 0xffffffff, confirmed := 0xffffffff, rejected :=
                         0xffffffff, image := [] }
     let s : State := up
     let s : State := (served s rq).setBit P.UpdateStatus 0 9 true
     let s : State := { s with power := { s.power with boot := { s.power.boot with image := some i } }, now :=
                                 { s.now with rank := 0, expired := some x }, trouble :=
                                 { s.trouble with queue := [] } }
     s),
    { path := Path.stay 0, session := 1, addr := 1, udp := 1 }, 0x5afe, 0, { generation := 1, written := 0, trial :=
                                                                               0xffffffff, confirmed := 0xffffffff,
                                                                             rejected := 0xffffffff, image := [] },
      (rowOf 61472), by decide +kernel⟩,
   ⟨(let rq : Requester := { path := Path.stay 0, session := 1, addr := 1, udp := 1 }
     let s : State := up
     let s : State := served s rq
     s),
    { path := Path.stay 0, session := 1, addr := 1, udp := 1 }, 0, by decide +kernel⟩,
   ⟨(let i : Fin 2 := 0
     let s : State := up
     let s : State := { s with power := { s.power with phase := .ready, sleep := .run } }
     let s : State := s.setUpdate { s.update with healthTimer := some 77 }
     let s : State := { s with power := { s.power with boot := { s.power.boot with image := some i } } }
     s),
    0, by decide +kernel⟩,
   ⟨up, by decide +kernel⟩,
   ⟨(let rq : Requester := { path := Path.stay 0, session := 1, addr := 1, udp := 1 }
     let i : Fin 2 := 0
     let s : State := up
     let s : State := { s with power := { s.power with phase := .ready, sleep := .run } }
     let s : State := served s rq
     let s : State := s.setSlot i { Slot.empty with written := 0, trial := 0, confirmed := 0, image := List.replicate
                                                      64 0xFF }
     let s : State := { s with power := { s.power with boot := { s.power.boot with image := some i } }, nv :=
                                 { s.nv with floor := 0 } }
     s),
    { path := Path.stay 0, session := 1, addr := 1, udp := 1 }, 0, 0, by decide +kernel⟩,
   ⟨(let rq : Requester := { path := Path.stay 0, session := 1, addr := 1, udp := 1 }
     let s : State := up
     let s : State := served s rq
     let s : State := { s with nv := { s.nv with floor := 0xFF00 } }
     s),
    { path := Path.stay 0, session := 1, addr := 1, udp := 1 }, 0, by decide +kernel⟩,
   ⟨(let rq : Requester := { path := Path.stay 0, session := 1, addr := 1, udp := 1 }
     let s : State := up
     let s : State := { (served s rq).release Res.flash with now := ThisClock.init }
     s),
    { path := Path.stay 0, session := 1, addr := 1, udp := 1 }, by decide +kernel⟩,
   ⟨(let rq : Requester := { path := Path.stay 0, session := 1, addr := 1, udp := 1 }
     let s : State := up
     let s : State := (served s rq).hold Res.flash 1
     s),
    { path := Path.stay 0, session := 1, addr := 1, udp := 1 }, by decide +kernel⟩,
   ⟨(let rq : Requester := { path := Path.stay 0, session := 1, addr := 1, udp := 1 }
     let s : State := up
     let s : State := (served s rq).setUpdate { s.update with save := some (1, [3], false) }
     s),
    { path := Path.stay 0, session := 1, addr := 1, udp := 1 }, by decide +kernel⟩,
   ⟨(let rq : Requester := { path := Path.stay 0, session := 1, addr := 1, udp := 1 }
     let s : State := up
     let s : State := served s rq
     s),
    { path := Path.stay 0, session := 1, addr := 1, udp := 1 }, by decide +kernel⟩,
   ⟨(let i : Fin 2 := 0
     let bytes : List Byte := [0x7f]
     let importing : Bool := true
     let s : State := up
     let s : State := s.setUpdate { s.update with save := some (i, bytes, importing) }
     s),
    0, [0x7f], true, by decide +kernel⟩,
   ⟨(up.setUpdate { up.update with save := some (0, [3], false) }), by decide +kernel⟩,
   ⟨up, by decide +kernel⟩⟩

theorem witness_TroubleLogScrubAndDeferredStarts :
  (∃ (s : State) (core : Fin 4), s.trouble.queue = [] ∧ s.now.logged = 0 ∧ s.trouble.ring.length < 4096 ∧
    (∀ j < 3, s.grants { path := .window core true, session := 0, addr := 0, udp := 0 } P.TroubleWrite
    (4 * core.val + j) 0 = true)) ∧
  (∃ (s : State) (rq : Requester), s.grants rq P.ExportControl 0 1 = true ∧ (s.arbitrate rq).taken Res.scrub = false) ∧
  (∃ (s : State) (rq : Requester), s.grants rq P.ExportControl 0 1 = true ∧ (s.arbitrate rq).taken Res.scrub = true) ∧
  (∃ (s : State) (b : List Byte), s.trouble.exporting = some b) ∧
  (∃ (s : State), s.trouble.exporting = none) ∧
  (∃ (s : State) (rq : Requester) (periodic : Bool), s.grants rq P.ScrubControl 0 (1 + bitAt 3 periodic) = true ∧
    (s.arbitrate rq).taken Res.scrub = false) ∧
  (∃ (s : State) (rq : Requester) (periodic : Bool), s.grants rq P.ScrubControl 0 (1 + bitAt 3 periodic) = true ∧
    (s.arbitrate rq).taken Res.scrub = true) ∧
  (∃ (s : State), s.serving = true ∧ s.bit P.ScrubControl 0 3 = true ∧ s.trouble.scrubStart = none ∧
    s.resourceFree Res.scrub = true) ∧
  (∃ (s : State), s.serving = true ∧ s.bit P.ScrubControl 0 3 = true ∧ s.trouble.scrubStart = none ∧
    s.resourceFree Res.scrub = false) ∧
  (∃ (s : State), s.serving = false ∨ s.bit P.ScrubControl 0 3 = false ∨ s.trouble.scrubStart.isSome = true) ∧
  (∃ (s : State) (rq : Requester), s.grants rq P.ScrubControl 0 (4 + bitAt 3 (s.bit P.ScrubControl 0 3)) = true ∧
    s.trouble.scrubStart.isSome = true) ∧
  (∃ (s : State) (rq : Requester), s.permits rq P.ScrubControl = true ∧ s.storeFaults rq P.ScrubControl 0 = false ∧
    s.hears rq 0 = true) ∧
  (∃ (s : State), s.trouble.scrubStart.isSome = true) ∧
  (∃ (s : State), s.trouble.scrubStart = none) ∧
  (∃ (s : State), s.trouble.scrubDeferred = true ∧ s.resourceFree Res.scrub = true ∧
    (s.trouble.trimDeferred = false ∨ s.resourceFree Res.adc = false ∨ s.autoState = false)) ∧
  (∃ (s : State), s.trouble.trimDeferred = true ∧ s.resourceFree Res.adc = true ∧ s.autoState = true) ∧
  (∃ (s : State), (s.trouble.trimDeferred = false ∨ s.resourceFree Res.adc = false ∨ s.autoState = false) ∧
    (s.trouble.scrubDeferred = false ∨ s.resourceFree Res.scrub = false)) :=
  ⟨
   ⟨(let core : Fin 4 := 0
     let s : State := up
     let s : State := served s { path := .window core true, session := 0, addr := 0, udp := 0 }
     let s : State := s.setCore core { s.core core with released := true }
     let s : State := { s with trouble := { s.trouble with queue := [] } }
     s),
    0, by decide +kernel⟩,
   ⟨(let rq : Requester := { path := Path.stay 0, session := 1, addr := 1, udp := 1 }
     let s : State := up
     let s : State := { (served s rq).release Res.scrub with now := ThisClock.init }
     let s : State := { s with trouble := { s.trouble with scrubDeferred := false } }
     s),
    { path := Path.stay 0, session := 1, addr := 1, udp := 1 }, by decide +kernel⟩,
   ⟨(let rq : Requester := { path := Path.stay 0, session := 1, addr := 1, udp := 1 }
     let s : State := up
     let s : State := (served s rq).hold Res.scrub 1
     s),
    { path := Path.stay 0, session := 1, addr := 1, udp := 1 }, by decide +kernel⟩,
   ⟨(let b : List Byte := []
     let s : State := up
     let s : State := { s with trouble := { s.trouble with exporting := some b } }
     s),
    [], by decide +kernel⟩,
   ⟨up, by decide +kernel⟩,
   ⟨(let rq : Requester := { path := Path.stay 0, session := 1, addr := 1, udp := 1 }
     let s : State := up
     let s : State := { (served s rq).release Res.scrub with now := ThisClock.init }
     let s : State := { s with trouble := { s.trouble with scrubDeferred := false } }
     s),
    { path := Path.stay 0, session := 1, addr := 1, udp := 1 }, true, by decide +kernel⟩,
   ⟨(let rq : Requester := { path := Path.stay 0, session := 1, addr := 1, udp := 1 }
     let s : State := up
     let s : State := (served s rq).hold Res.scrub 1
     s),
    { path := Path.stay 0, session := 1, addr := 1, udp := 1 }, true, by decide +kernel⟩,
   ⟨(let s : State := up
     let s : State := { s with power := { s.power with phase := .ready, sleep := .run } }
     let s : State := (s.setBit P.ScrubControl 0 3 true).release Res.scrub
     let s : State := { s with now := ThisClock.init }
     let s : State := { s with trouble := { s.trouble with scrubStart := none } }
     s),
    by decide +kernel⟩,
   ⟨(let s : State := up
     let s : State := { s with power := { s.power with phase := .ready, sleep := .run } }
     let s : State := (s.setBit P.ScrubControl 0 3 true).hold Res.scrub 2
     let s : State := { s with trouble := { s.trouble with scrubStart := none, queue := [] } }
     s),
    by decide +kernel⟩,
   ⟨up, by decide +kernel⟩,
   ⟨(let rq : Requester := { path := Path.stay 0, session := 1, addr := 1, udp := 1 }
     let s : State := up
     let s : State := served s rq
     let s : State := { s with trouble := { s.trouble with scrubStart := some (s.clock - 12345) } }
     s),
    { path := Path.stay 0, session := 1, addr := 1, udp := 1 }, by decide +kernel⟩,
   ⟨(let rq : Requester := { path := Path.stay 0, session := 1, addr := 1, udp := 1 }
     let s : State := up
     let s : State := served s rq
     s),
    { path := Path.stay 0, session := 1, addr := 1, udp := 1 }, by decide +kernel⟩,
   ⟨{ up with trouble := { up.trouble with scrubStart := some 3 } }, by decide +kernel⟩,
   ⟨up, by decide +kernel⟩,
   ⟨{ up.release Res.scrub with now := ThisClock.init, trouble :=
                                  { up.trouble with scrubDeferred := true, trimDeferred := false } },
       by decide +kernel⟩,
   ⟨(let s : State := up
     let s : State := { s with power := { s.power with phase := .ready, sleep := .run } }
     let s : State := { s.release Res.adc with now := ThisClock.init, trouble :=
                                                 { s.trouble with trimDeferred := true }, trim := none }
     s),
    by decide +kernel⟩,
   ⟨up, by decide +kernel⟩⟩

theorem witness_GridHoldsItsLine :
  (∃ (s : State), s.seeded = true ∧ s.halyard.grid.OnLine ∧ s.now.driven.contains 1 = false) :=
  ⟨(up.setBit P.TimeStatus 0 1 true).setGrid { Grid.init with rate := 8, index := 2, t := 33366666, r := 40 },
    by decide +kernel, ⟨by decide +kernel, by decide +kernel⟩, by decide +kernel⟩

theorem witness_BestEligibleThread :
  (∃ (s : State), (s.capstan.threads.map (·.1)).Pairwise (· < ·)) :=
  ⟨(let code : Byte := 0
     let s : State := up
     let s : State := [7,9,200].foldl (fun (s : State) n =>
         s.setThread n { s.thread n with state := if n = 9 then .waiting else .dormant, event := code }) s
     s),
    by decide +kernel⟩

/-! ### The statements that are not made of commands -/

theorem witness_IdleStepIsOneClockEdge :
  (∃ s : State, s.pending = [] ∧ s.timeRuns = true ∧ 2 ^ 72 ≤ s.halyard.acc.toNat + s.rdN P.TickIncrement 0) ∧
  (∃ s : State, s.pending = [] ∧ s.timeRuns = false) :=
  ⟨⟨{ up with halyard := { up.halyard with acc := 0xFFFFFFFFFFFFFFFFFF } }, by decide +kernel⟩,
   ⟨{ up with power := { up.power with sleep := .furled } }, by decide +kernel⟩⟩

theorem witness_EveryStepSettles : ∃ s t : State, step s = .next t := ⟨up, _, rfl⟩

theorem witness_EveryStepKeepsTheMemoryForm : ∃ s t : State, s.memoryOk = true ∧ step s = .next t :=
  ⟨{ up with pending := [.gridBoundary] }, _, by decide +kernel, rfl⟩

theorem witness_BestEligibleThread_choice :
  (∃ (s : State) (c n : Nat) (u : Thread),
    bestFor c (s.candidates.filter (fun x => s.flowAllows x.1 x.2)) = some (n, u)) ∧
  (∃ (s : State) (c : Nat), bestFor c (s.candidates.filter (fun x => s.flowAllows x.1 x.2)) = none) :=
  ⟨⟨dusk.setThread 17 { dusk.thread 17 with state := .ready }, 2, 17, { dusk.thread 17 with state := .ready },
    by decide +kernel⟩,
   ⟨dusk, 2, by decide +kernel⟩⟩

theorem witness_TrimCodesAreVolatile_row : ∃ (q : Fin 4) (r : Row), Dict.row (P.SinkTrim + q.val) = some r :=
  ⟨3, rowOf (P.SinkTrim + 3), by decide +kernel⟩

end Sys2Proof.Tests
end

section
/-! The canonical form of DRAM, firmware SRAM and the dictionary's values (R4, R382): every operation of the model keeps
it, one lemma for each, in the order of the model's files. A lemma's proof names the operations that the definition is
made of; `same` stands for an update of fields other than the memories and the dictionary's values. -/
namespace Sys2Proof.Machine

/-- The memories and the dictionary's values stand in their canonical form. -/
def State.Formed (s : State) : Prop := s.memoryOk = true

/-- If an outcome is a next state, that state is in form. -/
def FormedNext (o : Host.Outcome State Fault Refusal) : Prop := ∀ t, o = .next t → t.Formed

variable {s : State}

theorem formed_iff (s : State) : s.Formed ↔ SMap.wf (fun _ => 0) s.dram = true ∧
    SMap.wf (fun _ => 0) s.sram = true ∧ SMap.wf Dict.dflt s.regs = true := memoryOk_iff s

/-- A state that differs from one in form in neither memory nor the dictionary's values is in form. -/
theorem State.Formed.same {pending : List Instr} {clock rtcPhase freeCount : Nat} {now : ThisClock} {live : SMap Wide}
    {content : List ContentWrite} {blobs : SMap (List Byte)} {blobWrites : List BlobWrite} {power : Power}
    {nv : NonVolatile} {wdp : Wdp} {trouble : Trouble} {halyard : Halyard} {stay : SMap StayPort} {video : SMap Video}
    {cascadeIn : SMap CascadeIn} {sacn : Sacn} {merged : SMap Merged} {cue : Cue} {twin : Twin} {capstan : Capstan}
    {update : Update} {render : Render} {sheet : Sheet} {shroud : Shroud} {ports : SMap ShroudPort}
    {masthead : Masthead} {trim : Option TrimRun} {kite : Kite} (h : s.Formed) :
    State.Formed { s with
      pending, clock, now, rtcPhase, freeCount, live, content, blobs, blobWrites, power, nv, wdp, trouble, halyard,
      stay, video, cascadeIn, sacn, merged, cue, twin, capstan, update, render, sheet, shroud, ports, masthead, trim,
      kite } := h

/-! ### Changes of the memories themselves -/

theorem State.Formed.wipeDram (h : s.Formed) : State.Formed { s with dram := [] } := by
  rw [formed_iff] at *
  exact ⟨rfl, h.2⟩

theorem State.Formed.wipeSram (h : s.Formed) : State.Formed { s with sram := [] } := by
  rw [formed_iff] at *
  exact ⟨h.1, rfl, h.2.2⟩

theorem State.Formed.filterSram {f : Nat × Byte → Bool} (h : s.Formed) :
    State.Formed { s with sram := s.sram.filter f } := by
  rw [formed_iff] at *
  exact ⟨h.1, SMap.wf_filter _ f _ h.2.1, h.2.2⟩

theorem State.Formed.withRegs {t : State} (h : s.Formed) (k : t.Formed) : State.Formed { s with regs := t.regs } := by
  rw [formed_iff] at *
  exact ⟨h.1, h.2.1, k.2.2⟩

/-! ### Choices and repetitions -/

section
variable {c : Prop} {dec : Decidable c} {a b : State}

theorem State.Formed.ite (ha : a.Formed) (hb : b.Formed) : (if c then a else b).Formed := by
  split
  · exact ha
  · exact hb

/-- A step that a condition adds. -/
theorem State.Formed.when (h : s.Formed) (k : s.Formed → a.Formed) : (if c then a else s).Formed := (k h).ite h

/-- A step that a condition leaves out. -/
theorem State.Formed.unless (h : s.Formed) (k : s.Formed → a.Formed) : (if c then s else a).Formed := h.ite (k h)

theorem State.Formed.iteFst {α : Type} {a b : State × α} (ha : a.1.Formed) (hb : b.1.Formed) :
    (if c then a else b).1.Formed := by
  split
  · exact ha
  · exact hb

theorem State.Formed.iteSnd {α : Type} {a b : α × State} (ha : a.2.Formed) (hb : b.2.Formed) :
    (if c then a else b).2.Formed := by
  split
  · exact ha
  · exact hb

/-- A state answered with a value. -/
theorem State.Formed.pair {α : Type} {v : α} (h : s.Formed) : (s, v).1.Formed := h

theorem FormedNext.ite {a b : Host.Outcome State Fault Refusal} (ha : FormedNext a) (hb : FormedNext b) :
    FormedNext (if c then a else b) := by
  split
  · exact ha
  · exact hb

end

theorem State.Formed.foldl {α : Type} {f : State → α → State} {l : List α} (h : s.Formed)
    (hf : ∀ {s a}, s.Formed → (f s a).Formed) : (l.foldl f s).Formed :=
  List.foldlRecOn l f h fun _ k _ _ => hf k

/-! ### Ops -/

theorem State.Formed.wr {p e : Nat} {v : Wide} (h : s.Formed) : (s.wr p e v).Formed := wr_memoryOk s p e v h

theorem State.Formed.setLive {p e : Nat} {v : Wide} (h : s.Formed) : (s.setLive p e v).Formed := h.same

theorem State.Formed.setFld {p e lo n x : Nat} (h : s.Formed) : (s.setFld p e lo n x).Formed := h.wr

theorem State.Formed.setBit {p e i : Nat} {b : Bool} (h : s.Formed) : (s.setBit p e i b).Formed := h.setFld

theorem State.Formed.setBlob {p : Nat} {b : List Byte} (h : s.Formed) : (s.setBlob p b).Formed := h.same

theorem State.Formed.setDramByte {a : Nat} {b : Byte} (h : s.Formed) : (s.setDramByte a b).Formed :=
  setDramByte_memoryOk s a b h

theorem State.Formed.setDram {a : Nat} {bs : List Byte} (h : s.Formed) : (s.setDram a bs).Formed :=
  setDram_memoryOk bs s a h

theorem State.Formed.setSram {a : Nat} {bs : List Byte} (h : s.Formed) : (s.setSram a bs).Formed :=
  setSram_memoryOk bs s a h

theorem State.Formed.setSession {n : Nat} {x : Session} (h : s.Formed) : (s.setSession n x).Formed := h.same

theorem State.Formed.setXfer {n : Nat} {x : Xfer} (h : s.Formed) : (s.setXfer n x).Formed := h.same

theorem State.Formed.setSub {n : Nat} {x : Subscription} (h : s.Formed) : (s.setSub n x).Formed := h.same

theorem State.Formed.setCore {c : Nat} {x : DeckCore} (h : s.Formed) : (s.setCore c x).Formed := h.same

theorem State.Formed.setThread {n : Nat} {x : Thread} (h : s.Formed) : (s.setThread n x).Formed := h.same

theorem State.Formed.setStayPort {n : Nat} {x : StayPort} (h : s.Formed) : (s.setStayPort n x).Formed := h.same

theorem State.Formed.setVid {n : Nat} {x : Video} (h : s.Formed) : (s.setVid n x).Formed := h.same

theorem State.Formed.setCasc {n : Nat} {x : CascadeIn} (h : s.Formed) : (s.setCasc n x).Formed := h.same

theorem State.Formed.setMerged {n : Nat} {x : Merged} (h : s.Formed) : (s.setMerged n x).Formed := h.same

theorem State.Formed.setStayPtp {n : Nat} {x : StayPtp} (h : s.Formed) : (s.setStayPtp n x).Formed := h.same

theorem State.Formed.setShroudPtp {n : Nat} {x : ShroudPtp} (h : s.Formed) : (s.setShroudPtp n x).Formed := h.same

theorem State.Formed.setGrid {g : Grid} (h : s.Formed) : (s.setGrid g).Formed := h.same

theorem State.Formed.answer {status : Byte} {data : List Byte} (h : s.Formed) : (s.answer status data).Formed :=
  h.same

theorem State.Formed.free (h : s.Formed) : s.free.2.Formed := h.same

theorem State.Formed.tally {p e n : Nat} (h : s.Formed) : (s.tally p e n).Formed := h.same

theorem State.Formed.raise {p e i : Nat} (h : s.Formed) : (s.raise p e i).Formed := h.setBit.unless fun h => h.same

theorem State.Formed.bump {p e n : Nat} (h : s.Formed) : (s.bump p e n).1.Formed :=
  .iteFst h.tally (.iteFst h.tally.wr h.tally.wr)

theorem State.Formed.offerAll {r : EventRecord} : ∀ {l : List Nat} {s : State}, s.Formed → (s.offerAll r l).1.Formed
  | [], _, h => h
  | _ :: l, _, h => State.Formed.offerAll (l := l) h.setSub

theorem State.Formed.notify {cls p e : Nat} {arg : Word} (h : s.Formed) : (s.notify cls p e arg).1.Formed := by
  unfold State.notify
  dsimp only
  generalize List.range 8 = l
  exact .iteFst h.raise.offerAll h.raise.offerAll.bump

theorem State.Formed.enqueue {source code aux : Nat} {arg0 arg1 : Word} (h : s.Formed) :
    (s.enqueue source code aux arg0 arg1).1.Formed :=
  .iteFst h.bump h.same

theorem State.Formed.saturateAll : ∀ {n : Nat} {s : State} {l : List (Nat × Nat)}, s.Formed →
    (State.saturateAll n s l).Formed
  | 0, _, _, h => h
  | _ + 1, _, [], h => h
  | _ + 1, _, _ :: _, h => by
    unfold State.saturateAll
    dsimp only
    exact h.enqueue.notify.saturateAll

theorem State.Formed.saturated {p e : Nat} (h : s.Formed) : (s.saturated p e).Formed := h.saturateAll

theorem State.Formed.log {source code aux : Nat} {arg0 arg1 : Word} (h : s.Formed) :
    (s.log source code aux arg0 arg1).Formed :=
  h.enqueue.when fun h => h.saturated

theorem State.Formed.event {cls p e : Nat} {arg : Word} (h : s.Formed) : (s.event cls p e arg).Formed := by
  unfold State.event
  dsimp only
  exact h.notify.when fun h => h.saturated

theorem State.Formed.countBy {p e n : Nat} (h : s.Formed) : (s.countBy p e n).Formed :=
  h.bump.when fun h => h.saturated

theorem State.Formed.count {p e : Nat} (h : s.Formed) : (s.count p e).Formed := h.countBy

theorem State.Formed.traffic {p e n : Nat} (h : s.Formed) : (s.traffic p e n).Formed := h.tally.wr

theorem State.Formed.enterEntry {x : TroubleEntry} (h : s.Formed) : (s.enterEntry x).1.Formed :=
  .iteFst h.same.wr.bump h.same.wr

theorem State.Formed.enterEntryAll {x : TroubleEntry} (h : s.Formed) : (s.enterEntryAll x).Formed := by
  unfold State.enterEntryAll
  dsimp only
  exact h.enterEntry.when fun h => h.enterEntry.notify.when (fun h => h.enterEntry.notify)

theorem State.Formed.recallEntries (h : s.Formed) : s.recallEntries.2.Formed := h.same.wr

theorem State.Formed.enterEntries {q : List TroubleEntry} (h : s.Formed) : (s.enterEntries q).Formed :=
  (h.foldl fun h => h.enterEntryAll).same

theorem State.Formed.takeEntries {q : List TroubleEntry} (h : s.Formed) : (s.takeEntries q).Formed :=
  .ite h h.recallEntries.enterEntries

theorem State.Formed.drainLog (h : s.Formed) : s.drainLog.Formed := h.same.takeEntries

theorem State.Formed.decision {code core thread : Nat} {detail : Word} (h : s.Formed) :
    (s.decision code core thread detail).Formed :=
  h.same

theorem State.Formed.enterDecision {x : TraceEntry} (h : s.Formed) : (s.enterDecision x).Formed := .ite h h.same.wr

theorem State.Formed.recallDecisions (h : s.Formed) : s.recallDecisions.2.Formed := h.same.wr

theorem State.Formed.enterDecisions {d : List TraceEntry} (h : s.Formed) : (s.enterDecisions d).Formed :=
  .ite h (h.recallDecisions.same.foldl fun h => h.enterDecision)

theorem State.Formed.drainTrace (h : s.Formed) : s.drainTrace.Formed := h.same.enterDecisions

theorem State.Formed.settle (h : s.Formed) : s.settle.Formed := h.drainTrace.drainLog

theorem State.Formed.done (h : s.Formed) : FormedNext (Machine.done s) := by
  rintro t ⟨⟩
  exact h.settle

theorem State.Formed.leaveLuff (h : s.Formed) : s.leaveLuff.Formed := .ite (h.same.foldl fun h => h.setCore) h

theorem State.Formed.raiseIrq {c bit : Nat} (h : s.Formed) : (s.raiseIrq c bit).Formed := h.setCore.leaveLuff

theorem State.Formed.byCore {c : Nat} {act : State → State} (h : s.Formed)
    (hact : ∀ {t : State}, t.Formed → (act t).Formed) :
    (s.byCore c act).Formed :=
  .ite (hact h) h

/-! ### Arbiter -/

theorem State.Formed.hold {r code : Nat} (h : s.Formed) : (s.hold r code).Formed := h.setFld

theorem State.Formed.refuseStart (h : s.Formed) : s.refuseStart.Formed := h.count

theorem State.Formed.release {r : Nat} (h : s.Formed) : (s.release r).Formed := by
  unfold State.release
  dsimp only
  exact h.same.setFld.event

/-! ### Capstan -/

theorem State.Formed.setFlow {n : Nat} {x : Option Nat} (h : s.Formed) : (s.setFlow n x).Formed := h.same

theorem State.Formed.releaseFlow {n : Nat} (h : s.Formed) : (s.releaseFlow n).Formed := .ite h.setFlow h

theorem State.Formed.enterFlow {n : Nat} (h : s.Formed) : (s.enterFlow n).Formed := .ite h.setFlow.same h

theorem State.Formed.reopenFlows (h : s.Formed) : s.reopenFlows.Formed := by
  unfold State.reopenFlows
  dsimp only
  refine .foldl h.same fun h => ?_
  split
  · exact .ite h.setFlow h
  · exact h

theorem State.Formed.unslot {c : Nat} {want : Option Nat} (h : s.Formed) : (s.unslot c want).Formed := by
  unfold State.unslot
  dsimp only
  split
  · exact h
  · exact .ite h (h.setCore.when fun h => h.setThread.decision)

theorem State.Formed.slotIn {c : Nat} {want : Option Nat} (h : s.Formed) : (s.slotIn c want).Formed := by
  unfold State.slotIn
  dsimp only
  split
  · exact h
  · exact .when (.enterFlow (.ite h h.setThread.setCore.decision)) fun h => h.raiseIrq

theorem State.Formed.preemptCheck {c : Nat} (h : s.Formed) : (s.preemptCheck c).Formed := by
  unfold State.preemptCheck
  dsimp only
  split
  · exact .ite h.decision.traffic.raiseIrq h
  · exact h

theorem State.Formed.place (h : s.Formed) : s.place.Formed :=
  .ite h (.foldl ((h.reopenFlows.foldl fun h => h.unslot).foldl fun h => h.slotIn) fun h => h.preemptCheck)

theorem State.Formed.noteCancel {n : Nat} {changed : Bool} (h : s.Formed) : (s.noteCancel n changed).Formed := h.same

theorem State.Formed.emptySlot {c : Nat} (h : s.Formed) : (s.emptySlot c).Formed := h.setCore.same

theorem State.Formed.toReady {n : Nat} (h : s.Formed) : (s.toReady n).Formed := h.setThread.leaveLuff

theorem State.Formed.makeReady {n : Nat} {source : Word} (h : s.Formed) : (s.makeReady n source).Formed := by
  unfold State.makeReady
  dsimp only
  split
  · split
    · exact h.toReady.decision
    · exact h.decision.unless fun h => h.count.decision.noteCancel
  · split
    · exact h.toReady.decision
    · exact h.decision.unless fun h => h.count.decision.noteCancel
  · exact h.count.decision
  · exact h.count.decision
  · exact .ite h h.setThread
  · exact h

theorem State.Formed.fireEvent {code : Byte} {source : Word} (h : s.Formed) : (s.fireEvent code source).Formed :=
  (h.foldl fun h => h.makeReady).place

theorem State.Formed.cancelThread {n : Nat} (h : s.Formed) : (s.cancelThread n).Formed := by
  unfold State.cancelThread
  dsimp only
  split
  · exact h.releaseFlow.setThread.count.decision.noteCancel
  · exact h.releaseFlow.setThread.count.decision.noteCancel
  · exact (h.releaseFlow.setThread.foldl fun h => .ite h.emptySlot h).count.decision.noteCancel
  · exact .ite h h.setThread.count.decision
  · exact h.noteCancel
  · exact h

theorem State.Formed.endCancelled {n : Nat} (h : s.Formed) : (s.endCancelled n).Formed := h.releaseFlow.setThread

theorem State.Formed.yieldCore {c : Nat} (h : s.Formed) : (s.yieldCore c).Formed := by
  unfold State.yieldCore
  dsimp only
  split
  · exact h
  · exact .ite h.decision.setCore.endCancelled h.decision.setCore.toReady

theorem State.Formed.allocThread (h : s.Formed) : s.allocThread.Formed := by
  unfold State.allocThread
  dsimp only
  split
  · exact h.setThread.answer
  · exact h.answer

theorem State.Formed.freeThread {n : Nat} (h : s.Formed) : (s.freeThread n).Formed := .ite h.setThread h

theorem State.Formed.takeNext {c : Nat} (h : s.Formed) : (s.takeNext c).Formed := by
  unfold State.takeNext
  dsimp only
  split
  · exact h.answer
  · exact h.yieldCore.setThread.same.setCore.decision.traffic.answer.place

theorem State.Formed.doneCore {c : Nat} (h : s.Formed) : (s.doneCore c).Formed := by
  unfold State.doneCore
  dsimp only
  split
  · exact h
  · exact .ite h.decision.setCore.releaseFlow.endCancelled (.ite h.decision.setCore.releaseFlow.setThread.toReady
      h.decision.setCore.releaseFlow.setThread)

theorem State.Formed.waitCore {c : Nat} {event : Byte} (h : s.Formed) : (s.waitCore c event).Formed := by
  unfold State.waitCore
  dsimp only
  split
  · exact h
  · exact .ite h.decision.setCore.endCancelled h.decision.setCore.setThread

theorem State.Formed.storeWord0 {n : Nat} {v : Word} (h : s.Formed) : (s.storeWord0 n v).Formed :=
  .ite h.setThread.toReady (.ite (h.foldl fun h => .ite h.setCore.decision h).setThread h.setThread)

theorem State.Formed.storeWordN {n w : Nat} {v : Word} (h : s.Formed) : (s.storeWordN n w v).Formed :=
  .ite h.setThread h

theorem State.Formed.noteLoad {core n : Nat} (h : s.Formed) : (s.noteLoad core n).Formed := h.same

theorem State.Formed.takeSemaphore {n : Fin 64} (h : s.Formed) : (s.takeSemaphore n).Formed := h.same.answer

theorem State.Formed.releaseSemaphore {n : Fin 64} (h : s.Formed) : (s.releaseSemaphore n).Formed := h.same

theorem State.Formed.cancelApplet (h : s.Formed) : s.cancelApplet.Formed := (h.foldl fun h => h.cancelThread).place

theorem State.Formed.takeTrap {c : Nat} {user : Bool} {cause value pc : Word} (h : s.Formed) :
    (s.takeTrap c user cause value pc).Formed :=
  .ite (h.setCore.when fun h => h.setBit).cancelApplet.wr.wr.wr.count.log (h.setCore.when fun h => h.setBit).count.log

/-! ### Halyard -/

theorem State.Formed.rtcAdvance {n : Nat} (h : s.Formed) : (s.rtcAdvance n).Formed := h.same.when fun h => h.wr

theorem State.Formed.wrapEvent (h : s.Formed) : s.wrapEvent.Formed := h.raise.raiseIrq

theorem State.Formed.advance {n : Nat} (h : s.Formed) : (s.advance n).Formed :=
  h.same.rtcAdvance.when fun h => .ite h.same.wrapEvent h.same

theorem State.Formed.setCounter40 {x : Int} (h : s.Formed) : (s.setCounter40 x).Formed := h.same

theorem State.Formed.tick (h : s.Formed) : s.tick.Formed := h.advance

theorem State.Formed.discardShow (h : s.Formed) : s.discardShow.Formed := h.same

theorem State.Formed.holdMirror (h : s.Formed) : s.holdMirror.Formed :=
  .ite h (.ite h.same.setFld (.ite h.same.setFld h))

theorem State.Formed.setTimeState {n : Nat} (h : s.Formed) : (s.setTimeState n).Formed :=
  .ite h (.holdMirror (.event (.wr (.ite h.discardShow h))))

theorem State.Formed.cancelStep (h : s.Formed) : s.cancelStep.Formed := h.setBit.setFld

theorem State.Formed.setInLock {n : Nat} (h : s.Formed) : (s.setInLock n).Formed := h.same

theorem State.Formed.restartTime (h : s.Formed) : s.restartTime.Formed := h.cancelStep.setInLock.same.wr.setTimeState

theorem State.Formed.applySeed (h : s.Formed) : s.applySeed.Formed :=
  h.setGrid.setLive.setLive.setGrid.setGrid.wr.setBit

theorem State.Formed.gridAdvance (h : s.Formed) : s.gridAdvance.Formed := h.setGrid.wr

theorem State.Formed.holdFiring {n : Nat} (h : s.Formed) : (s.holdFiring n).Formed := h.same

theorem State.Formed.catchUp {step : Bool} {n : Nat} (h : s.Formed) : (s.catchUp step n).Formed :=
  .ite (.ite (h.holdFiring.when (fun h => h.wr.when fun h => h.countBy)) h) h

theorem State.Formed.steer {y : Dyad} (h : s.Formed) : (s.steer y).Formed := h.wr.wr

theorem State.Formed.dropFrame {q : QueuedFrame} (h : s.Formed) : (s.dropFrame q).Formed := h.same

theorem State.Formed.discardQueued (h : s.Formed) : s.discardQueued.Formed :=
  (h.setGrid.foldl fun h => h.dropFrame).unless fun h => h.countBy

theorem State.Formed.moveExchanges {shift : Int} (h : s.Formed) : (s.moveExchanges shift).Formed := h.same

theorem State.Formed.dropTime (h : s.Formed) : s.dropTime.Formed := h.same

theorem State.Formed.checkEra (h : s.Formed) : s.checkEra.Formed := h.setBit.when fun h => h.log

theorem State.Formed.endLampCycle (h : s.Formed) : s.endLampCycle.Formed := by
  unfold State.endLampCycle
  dsimp only
  split
  · exact h
  · exact h.wr.wr.same.setBit

theorem State.Formed.step {o : Dyad} {initial : Bool} (h : s.Formed) : (s.step o initial).Formed :=
  .checkEra (.setTimeState (.when
    ((h.endLampCycle.setCounter40.moveExchanges.wr.wr.wr.raise.setBit.dropTime.steer.unless fun h =>
    h.count).cancelStep.setInLock.unless fun h => h.discardQueued) (fun h => h.foldl fun h => h.catchUp)))

theorem State.Formed.servo {o : Dyad} {logInterval : Int} (h : s.Formed) : (s.servo o logInterval).Formed :=
  h.same.steer

theorem State.Formed.lockCount {o : Dyad} (h : s.Formed) : (s.lockCount o).Formed :=
  .ite (.ite (.ite h.setInLock.setTimeState h.setInLock) h.setInLock) h

theorem State.Formed.validSync {o : Dyad} {logInterval : Int} (h : s.Formed) : (s.validSync o logInterval).Formed :=
  .ite h.wr.step (h.wr.unless (fun h => .ite (h.cancelStep.when fun h => h.setInLock.setTimeState).servo.lockCount
    (h.setBit.setFld.setInLock.setTimeState.when fun h => h.step)))

theorem State.Formed.setIngressQ {port : Nat} {q : List Stamp} (h : s.Formed) : (s.setIngressQ port q).Formed :=
  h.same

theorem State.Formed.setEgressQ {port : Nat} {q : List Stamp} (h : s.Formed) : (s.setEgressQ port q).Formed := h.same

theorem State.Formed.pushIngress {port : Nat} {x : Stamp} (h : s.Formed) : (s.pushIngress port x).1.Formed :=
  .iteFst h.count h.setIngressQ

theorem State.Formed.pushEgress {port : Nat} {x : Stamp} (h : s.Formed) : (s.pushEgress port x).1.Formed :=
  .iteFst h.setEgressQ.count h.setEgressQ

theorem State.Formed.useSync {port : Nat} {delta logInterval : Int} (h : s.Formed) :
    (s.useSync port delta logInterval).Formed := by
  unfold State.useSync
  dsimp only
  split
  · exact h.setStayPtp
  · exact h.setStayPtp.validSync

theorem State.Formed.stampUnused {port : Nat} {head : PtpHead} {stamp : T32} {frac : Byte} (h : s.Formed) :
    (s.stampUnused port head stamp frac).1.Formed :=
  h.pushIngress.setIngressQ

theorem State.Formed.forgetSync {port : Nat} (h : s.Formed) : (s.forgetSync port).Formed := by
  unfold State.forgetSync
  dsimp only
  split
  · exact h.setIngressQ.setStayPtp
  · exact h

theorem State.Formed.takeSync {port : Nat} {m : SyncMsg} (h : s.Formed) : (s.takeSync port m).Formed :=
  .ite (h.stampUnused.unless fun h => h.count) (.ite h.forgetSync.pushIngress.count (.ite
    h.forgetSync.pushIngress.setStayPtp h.forgetSync.pushIngress.setIngressQ.useSync))

theorem State.Formed.takeFollowUp {port : Nat} {f : FollowUpMsg} (h : s.Formed) : (s.takeFollowUp port f).Formed := by
  unfold State.takeFollowUp
  dsimp only
  split
  · exact h
  · exact .ite h.forgetSync (.ite h.setIngressQ.useSync h)

theorem State.Formed.delaySample {d : Dyad} (h : s.Formed) : (s.delaySample d).Formed := .ite h.count h.same.wr

theorem State.Formed.takeDelayResp {port : Nat} {m : DelayRespMsg} (h : s.Formed) :
    (s.takeDelayResp port m).Formed := by
  unfold State.takeDelayResp
  dsimp only
  refine .ite h ?_
  split
  · exact .ite h.setStayPtp.setEgressQ.delaySample h
  · exact h

theorem State.Formed.runBmca (h : s.Formed) : s.runBmca.Formed := h.same.wr.foldl fun h => h.setStayPtp

theorem State.Formed.takeAnnounce {port : Nat} {m : AnnounceMsg} (h : s.Formed) : (s.takeAnnounce port m).Formed :=
  .ite h h.setStayPtp.runBmca

theorem State.Formed.loseTime (h : s.Formed) : s.loseTime.Formed := .ite h.setInLock.setTimeState h

theorem State.Formed.ownCommand {dest : Nat} {act : State → State} (h : s.Formed)
    (hact : ∀ {t : State}, t.Formed → (act t).Formed) :
    (s.ownCommand dest act).Formed :=
  .ite h (hact (h.same))

theorem State.Formed.gridBoundary (h : s.Formed) : s.gridBoundary.Formed := .ite h.gridAdvance h

/-! ### Stay -/

theorem State.Formed.stayDown {p : Nat} (h : s.Formed) : (s.stayDown p).Formed :=
  h.setBit.setBit.when fun h => h.count

theorem State.Formed.countLate {d frame n : Nat} (h : s.Formed) : (s.countLate d frame n).Formed := by
  unfold State.countLate
  dsimp only
  exact .event ((h.countBy.unless fun h => h.count.same).when fun h => h.setBit.wr.wr)

theorem State.Formed.dropLateCascade {p : Nat} : ∀ {n : Nat} {s : State}, s.Formed → (s.dropLateCascade p n).Formed
  | 0, _, h => h
  | n + 1, s, h => by
    unfold State.dropLateCascade
    dsimp only
    split
    · exact h
    · split
      · exact h
      · exact .ite h h.setStayPort.countLate.dropLateCascade

theorem State.Formed.stayServe {p : Nat} (h : s.Formed) : (s.stayServe p).Formed := by
  unfold State.stayServe
  dsimp only
  refine .ite h ?_
  split
  · exact .setStayPort (.ite h.dropLateCascade h)
  · split
    · exact .traffic (.traffic (.setStayPort (.ite h.dropLateCascade h)))
    · exact .setStayPort (.ite h.dropLateCascade h)
  · exact .setStayPort (.ite h.dropLateCascade h)
  · exact .ite h.dropLateCascade h

theorem State.Formed.sendPriority {p : Nat} {x : Egress} (h : s.Formed) : (s.sendPriority p x).Formed :=
  .ite h.count h.setStayPort.stayServe

theorem State.Formed.sendGeneral {p : Nat} {x : Egress} (h : s.Formed) : (s.sendGeneral p x).Formed :=
  .ite h.count h.setStayPort.stayServe

theorem State.Formed.sendCascade {p : Nat} {x : Egress} (h : s.Formed) : (s.sendCascade p x).Formed :=
  h.setStayPort.stayServe

theorem State.Formed.stayFrameDone {p : Nat} (h : s.Formed) : (s.stayFrameDone p).Formed := by
  unfold State.stayFrameDone
  dsimp only
  split
  · exact h
  · exact h.setStayPort.traffic.traffic.stayServe

theorem State.Formed.sendReports {p : Nat} {records : List GroupRecord} (h : s.Formed) :
    (s.sendReports p records).Formed :=
  .ite (h.foldl fun h => h.sendGeneral) h

theorem State.Formed.syncGroups {p : Nat} (h : s.Formed) : (s.syncGroups p).Formed := .ite h h.setStayPort.sendReports

theorem State.Formed.syncAllGroups (h : s.Formed) : s.syncAllGroups.Formed := h.foldl fun h => h.syncGroups

theorem State.Formed.sendDelayReq {p : Nat} {stamp : T32} {frac : Byte} (h : s.Formed) :
    (s.sendDelayReq p stamp frac).Formed := by
  unfold State.sendDelayReq
  dsimp only
  refine .ite h ?_
  refine .sendPriority ?_
  refine .setStayPtp ?_
  refine .pushEgress ?_
  split
  · exact h.setEgressQ
  · exact h

theorem State.Formed.sendStaySync {p : Nat} {stamp : T32} {frac : Byte} (h : s.Formed) :
    (s.sendStaySync p stamp frac).Formed :=
  .ite h (h.pushEgress.setStayPtp.sendPriority.when fun h => h.setEgressQ.sendPriority).sendPriority

theorem State.Formed.releaseRx {p : Nat} {d : RxDest} (h : s.Formed) : (s.releaseRx p d).Formed := h.setStayPort

theorem State.Formed.holdRx {p : Nat} {d : RxDest} {len : Nat} (h : s.Formed) : (s.holdRx p d len).Formed :=
  .ite h.count h.setStayPort

/-! ### Video -/

theorem State.Formed.closeVideo {n : Nat} (h : s.Formed) : (s.closeVideo n).Formed :=
  .ite h (.ite h.setVid.traffic h.setVid.count)

theorem State.Formed.placeSrd {n : Nat} {d : Srd} (h : s.Formed) : (s.placeSrd n d).Formed := by
  unfold State.placeSrd
  dsimp only
  refine .ite h.count ?_
  split
  · exact h
  · exact h.setDram.setVid

theorem State.Formed.placeVideo {n : Nat} {p : RtpPacket} (h : s.Formed) : (s.placeVideo n p).Formed :=
  .ite h.traffic.count (.ite h.traffic.count (.when ((h.traffic.unless fun h => h.closeVideo.setVid).foldl fun h =>
    h.placeSrd) fun h => h.closeVideo))

theorem State.Formed.releaseRun {p : Nat} : ∀ {n : Nat} {s : State}, s.Formed → (s.releaseRun p n).Formed
  | 0, _, h => h
  | n + 1, s, h => by
    unfold State.releaseRun
    dsimp only
    split
    · exact h
    · split
      · exact h
      · exact h.setVid.placeVideo.releaseRun

theorem State.Formed.expireHold {p : Nat} : ∀ {n : Nat} {s : State}, s.Formed → (s.expireHold p n).Formed
  | 0, _, h => h
  | n + 1, s, h => by
    unfold State.expireHold
    dsimp only
    split
    · split
      · exact (State.Formed.ite h h.countBy).setVid.releaseRun.expireHold
      · exact (State.Formed.ite h h.countBy).setVid.releaseRun
    · exact h

theorem State.Formed.legFirst {n leg : Nat} {p : RtpPacket} (h : s.Formed) : (s.legFirst n leg p).Formed :=
  h.same.setVid.traffic

theorem State.Formed.preferA {n : Nat} {p : RtpPacket} {before : Option Nat} (h : s.Formed) :
    (s.preferA n p before).Formed :=
  h.wr.setVid.legFirst

theorem State.Formed.mergePacket {n leg : Nat} {p : RtpPacket} (h : s.Formed) : (s.mergePacket n leg p).Formed :=
  .ite h.setVid.count (.ite (h.setVid.count.when fun h => h.setVid.count) (.ite h.setVid
    h.setVid.legFirst.releaseRun))

theorem State.Formed.mergeLegs {n leg : Nat} {p : RtpPacket} (h : s.Formed) : (s.mergeLegs n leg p).Formed := by
  unfold State.mergeLegs
  dsimp only
  split
  · exact h.mergePacket
  · exact h.count.when fun h => h.preferA

theorem State.Formed.takeRtp {n leg : Nat} {p : RtpPacket} (h : s.Formed) : (s.takeRtp n leg p).Formed :=
  h.releaseRx.unless fun h => .ite h.count h.mergeLegs

theorem State.Formed.selectVideo {n k : Nat} (h : s.Formed) : (s.selectVideo n k).Formed :=
  .ite h.setVid (h.setVid.when fun h => h.count)

theorem State.Formed.startVideo {n : Nat} (h : s.Formed) : (s.startVideo n).Formed := h.setVid

/-! ### Canvas -/

theorem State.Formed.showLayer {l : Nat} (h : s.Formed) : (s.showLayer l).Formed := h.wr

theorem State.Formed.setRender {r : Render} (h : s.Formed) : (s.setRender r).Formed := h.same

theorem State.Formed.commitKeys {c item : Nat} {keys : List Nat} {frame : Option Nat} (h : s.Formed) :
    (s.commitKeys c item keys frame).Formed :=
  .setRender (.ite h.count h)

theorem State.Formed.markRelease {l : Nat} (h : s.Formed) : (s.markRelease l).Formed := h.setFld

theorem State.Formed.showPending (h : s.Formed) : s.showPending.Formed := (h.foldl fun h => h.wr).wr

theorem State.Formed.commitLayers {c v : Nat} {frame : Option Nat} (h : s.Formed) :
    (s.commitLayers c v frame).1.Formed :=
  .iteFst h (.unless (.showPending ((h.foldl fun h => h.commitKeys).foldl fun h => h.markRelease)) fun h => h.wr)

theorem State.Formed.commitFrames {c v : Nat} {frame : Option Nat} (h : s.Formed) :
    (s.commitFrames c v frame).Formed :=
  .unless (.showPending ((h.foldl fun h => h.commitKeys).foldl fun h => h.markRelease)) fun h => h.wr

theorem State.Formed.commitProjections {v : Nat} {frame : Option Nat} (h : s.Formed) :
    (s.commitProjections v frame).Formed :=
  (h.foldl fun h => h.commitKeys).showPending

theorem State.Formed.putLive {key : Nat} {v : Wide} (h : s.Formed) : (s.putLive key v).Formed := h.same

theorem State.Formed.applyItem {x : PendingItem} (h : s.Formed) : (s.applyItem x).Formed :=
  (h.foldl fun h => h.putLive).setRender

theorem State.Formed.retireAt {l : Nat} {old : Wide × Wide} (h : s.Formed) : (s.retireAt l old).Formed :=
  .ite h.setFld.wr h

theorem State.Formed.applyCommits {k : Nat} (h : s.Formed) : (s.applyCommits k).Formed :=
  .showPending (.foldl (.foldl (.setRender ((h.foldl fun h => h.applyItem).unless fun h => h.wr)) (fun h => h.foldl
    fun h => h.putLive)) fun h => h.retireAt)

/-! ### Cascade -/

theorem State.Formed.placeElements {n slot : Nat} : ∀ {k first : Nat} {bs : List Byte} {s : State}, s.Formed →
    (s.placeElements n slot first k bs).Formed
  | 0, _, _, _, h => h
  | _ + 1, _, _, _, h => (State.Formed.ite h.setDram h).placeElements

theorem State.Formed.openCascade {n : Nat} {t : T32} (h : s.Formed) : (s.openCascade n t).Formed := h.setDram.setCasc

theorem State.Formed.closeCascade {n : Nat} (h : s.Formed) : (s.closeCascade n).Formed := .ite h.setCasc.count h

theorem State.Formed.fillCascade {n slot : Nat} {m : ShroudMsg} (h : s.Formed) : (s.fillCascade n slot m).Formed :=
  h.placeElements.setCasc.when fun h => h.traffic

theorem State.Formed.placeCascade {n : Nat} {m : ShroudMsg} (h : s.Formed) : (s.placeCascade n m).Formed := by
  unfold State.placeCascade
  dsimp only
  split
  · refine .ite ?_ (.ite h.fillCascade h.count)
    split
    · exact h.closeCascade.openCascade.fillCascade
    · exact h.closeCascade.openCascade
  · refine .ite (.ite h h.count) ?_
    split
    · exact h.openCascade.fillCascade
    · exact h.openCascade

theorem State.Formed.takeCascade {n : Nat} {m : ShroudMsg} (h : s.Formed) : (s.takeCascade n m).Formed := by
  unfold State.takeCascade
  dsimp only
  split
  · exact .ite h.setCasc.placeCascade h.count
  · exact h.setCasc.placeCascade

theorem State.Formed.receiveCascade {n : Nat} {m : ShroudMsg} (h : s.Formed) : (s.receiveCascade n m).Formed :=
  .ite h (.ite h.setCasc (.ite h (.ite h.setCasc h.takeCascade)))

theorem State.Formed.startCascade {n : Nat} (h : s.Formed) : (s.startCascade n).Formed := h.setCasc

theorem State.Formed.selectCascade {n k : Nat} (h : s.Formed) : (s.selectCascade n k).Formed :=
  .ite h.setCasc h.setCasc

/-! ### Ports -/

theorem State.Formed.setPort {p : Nat} {x : ShroudPort} (h : s.Formed) : (s.setPort p x).Formed := h.same

theorem State.Formed.countShow {p : Nat} {x : Egress} (h : s.Formed) : (s.countShow p x).Formed := by
  unfold State.countShow
  dsimp only
  split
  · exact h.traffic.traffic.traffic
  · exact h.traffic.traffic.when fun h => h.traffic
  · exact h.traffic.traffic

theorem State.Formed.noteData {p : Nat} {x : Egress} (h : s.Formed) : (s.noteData p x).Formed := by
  unfold State.noteData
  dsimp only
  split
  · exact .ite h.same h.same
  · exact h

theorem State.Formed.showDone {p : Nat} {f : ShowFrame} (h : s.Formed) : (s.showDone p f).Formed := h.wr.wr.wr

theorem State.Formed.trimShow {p : Nat} : ∀ {n : Nat} {s : State}, s.Formed → (s.trimShow p n).Formed
  | 0, _, h => h
  | n + 1, s, h => by
    unfold State.trimShow
    dsimp only
    split
    · exact h
    · split
      · exact h.setPort.trimShow
      · exact .ite h h.setPort.wr.countLate.trimShow

theorem State.Formed.discardPort {p : Nat} (h : s.Formed) : (s.discardPort p).Formed :=
  (h.setPort.foldl fun h => h.countShow).unless fun h => h.countBy

theorem State.Formed.enterLpi {p : Nat} (h : s.Formed) : (s.enterLpi p).Formed := .ite h.setBit.setBit h

theorem State.Formed.noteTerminated {p : Nat} {x : Egress} (h : s.Formed) : (s.noteTerminated p x).Formed := by
  unfold State.noteTerminated
  dsimp only
  split
  · exact h.same
  · exact h

theorem State.Formed.servePort {p : Nat} (h : s.Formed) : (s.servePort p).Formed := by
  unfold State.servePort
  dsimp only
  refine .ite h.discardPort ?_
  refine .ite h ?_
  split
  · exact h.setPort.traffic
  · split
    · exact h.setPort.when fun h => h.count
    · exact h.setPort
  · split
    · split
      · exact h.trimShow.setPort.countShow.noteData.noteTerminated
      · exact h.trimShow
    · exact h.trimShow.setPort
    · exact h.trimShow.enterLpi

theorem State.Formed.wakeLpi {p : Nat} (h : s.Formed) : (s.wakeLpi p).Formed := h.setBit.setBit

theorem State.Formed.sendExpress {p : Nat} {x : Egress} (h : s.Formed) : (s.sendExpress p x).Formed :=
  .ite h.count h.wakeLpi.setPort.servePort

theorem State.Formed.sendTime {p : Nat} {x : Egress} (h : s.Formed) : (s.sendTime p x).1.Formed :=
  .iteFst h.count h.wakeLpi.setPort.servePort

theorem State.Formed.addWire {p : Nat} {x : Egress} (h : s.Formed) : (s.addWire p x).Formed := by
  unfold State.addWire
  dsimp only
  split
  · exact h
  · exact .ite h.setPort.showDone h.setPort

theorem State.Formed.portFrameDone {p : Nat} (h : s.Formed) : (s.portFrameDone p).Formed := by
  unfold State.portFrameDone
  dsimp only
  split
  · exact h
  · exact h.setPort.traffic.traffic.addWire.servePort

theorem State.Formed.closeWindow {d : Nat} (h : s.Formed) : (s.closeWindow d).Formed := by
  unfold State.closeWindow
  dsimp only
  refine .ite (h.setPort.foldl fun h => h.wr.countLate) ?_
  refine .foldl h fun h => ?_
  split
  · exact h.setStayPort
  · exact h.setStayPort.countLate

/-! ### Merge -/

theorem State.Formed.setSource {x : Source} (h : s.Formed) : (s.setSource x).Formed := h.same

theorem State.Formed.applySacn {p : SacnPacket} (h : s.Formed) : (s.applySacn p).Formed := by
  unfold State.applySacn
  split
  · exact h
  · exact h.setSource

theorem State.Formed.releaseHeld {a : Half} (h : s.Formed) : (s.releaseHeld a).Formed :=
  h.same.foldl fun h => h.applySacn

theorem State.Formed.dropSource {u : Half} {cid : BitVec 128} (h : s.Formed) : (s.dropSource u cid).Formed := h.same

theorem State.Formed.holdSacn {p : SacnPacket} (h : s.Formed) : (s.holdSacn p).Formed := h.same

theorem State.Formed.routeSacn {p : SacnPacket} (h : s.Formed) : (s.routeSacn p).Formed := by
  unfold State.routeSacn
  dsimp only
  refine .ite h.same.applySacn ?_
  split
  · exact h.same.applySacn
  · exact h.holdSacn
  · exact .ite h.same.holdSacn h.same.applySacn.count

theorem State.Formed.takeSacn {port : Nat} {p : SacnPacket} (h : s.Formed) : (s.takeSacn port p).Formed := by
  unfold State.takeSacn
  dsimp only
  refine .unless h.releaseRx fun h => ?_
  refine .ite h.count ?_
  split
  · exact .ite h.count (.ite h.traffic.dropSource.count h.traffic.setSource.routeSacn)
  · exact .ite h.count (.ite h.count (h.traffic.unless fun h => h.same.routeSacn))

theorem State.Formed.takeSacnSync {port : Nat} {a : Half} (h : s.Formed) : (s.takeSacnSync port a).Formed :=
  h.releaseRx.unless fun h => h.same.releaseHeld

theorem State.Formed.execSacnSyncTimeout {address : Half} (h : s.Formed) :
    FormedNext (execSacnSyncTimeout address s) := by
  unfold Machine.execSacnSyncTimeout
  dsimp only
  split
  · exact h.same.releaseHeld.count.done
  · exact h.done

theorem State.Formed.execSourceTimeout {univ : Half} {cid : BitVec 128} (h : s.Formed) :
    FormedNext (execSourceTimeout univ cid s) := by
  unfold Machine.execSourceTimeout
  split
  · exact h.dropSource.count.done
  · exact h.done

theorem State.Formed.mergeEntryAt {i : Nat} (h : s.Formed) : (s.mergeEntryAt i).Formed := by
  unfold State.mergeEntryAt
  dsimp only
  refine .ite h.setMerged ?_
  refine .ite ?_ h.setMerged
  split
  · exact h.setMerged
  · exact h.setMerged
  · exact h.setMerged
  · exact h.setMerged

theorem State.Formed.showUniverse (h : s.Formed) : s.showUniverse.Formed := h.wr

theorem State.Formed.mergeAtLatch (h : s.Formed) : s.mergeAtLatch.Formed :=
  (h.foldl fun h => h.mergeEntryAt).same.showUniverse

theorem State.Formed.swapMergeTable {body : List Byte} (h : s.Formed) : (s.swapMergeTable body).Formed :=
  (h.foldl fun h => .ite h h.setMerged).setBlob

/-! ### Cue -/

theorem State.Formed.enqueueCue {x : QueuedCue} (h : s.Formed) : (s.enqueueCue x).Formed := h.same

theorem State.Formed.admitCue {words : List Wide} (h : s.Formed) : (s.admitCue words).1.Formed :=
  .iteFst h.count h.enqueueCue.traffic.same

theorem State.Formed.setCueBuffer {b : Nat} {ws : List Wide} (h : s.Formed) : (s.setCueBuffer b ws).Formed := h.same

theorem State.Formed.cueWord {b : Nat} {w : Wide} (h : s.Formed) : (s.cueWord b w).1.Formed :=
  .iteFst (.iteFst (.setCueBuffer (.ite h h.count)) (.setCueBuffer (.ite h h.count))) (.iteFst h.count (.iteFst
    h.setCueBuffer.count (.iteFst h.setCueBuffer h.setCueBuffer)))

theorem State.Formed.endCueRequest {b : Nat} (h : s.Formed) : (s.endCueRequest b).Formed :=
  .ite h.setCueBuffer.count h

theorem State.Formed.readCueWord (h : s.Formed) : s.readCueWord.2.Formed := by
  unfold State.readCueWord
  dsimp only
  split
  · exact h.same.count
  · split
    · exact h.same
    · exact .iteSnd h.same h.same

theorem State.Formed.readCue : ∀ {n : Nat} {ws : List Wide} {s : State}, s.Formed → (s.readCue n ws).2.Formed
  | 0, _, _, h => h
  | n + 1, _, _, h => .iteSnd h.readCueWord (State.Formed.readCue (n := n) h.readCueWord)

theorem State.Formed.pollCues : ∀ {n : Nat} {s : State}, s.Formed → (s.pollCues n).Formed
  | 0, _, h => h
  | n + 1, s, h => by
    unfold State.pollCues
    dsimp only
    split
    · exact h
    · split
      · exact h.readCue
      · exact (h.readCue.when fun h => h.count).same.pollCues

theorem State.Formed.emptyBulk (h : s.Formed) : s.emptyBulk.Formed := h.same

theorem State.Formed.execCuePoll (h : s.Formed) : FormedNext (execCuePoll s) :=
  .ite h.done (.ite h.emptyBulk.pollCues.done h.emptyBulk.done)

theorem State.Formed.endRamps {p e k : Nat} (h : s.Formed) : (s.endRamps p e k).Formed := h.same

theorem State.Formed.startRamp {rq : Requester} {level k : Nat} {w span : Wide} (h : s.Formed) :
    (s.startRamp rq level k w span).Formed :=
  .same (.ite h.endRamps h)

theorem State.Formed.followRamps {rq : Requester} {level k : Nat} : ∀ {ws : List Wide} {s : State}, s.Formed →
    (s.followRamps rq level k ws).Formed
  | [], _, h => h
  | _ :: ws, s, h => by
    refine State.Formed.followRamps (ws := ws) ?_
    split
    · exact .ite h.endRamps h
    · exact .ite h.startRamp h
    · exact h

theorem State.Formed.regrid {before : Nat} (h : s.Formed) : (s.regrid before).Formed := h.same

theorem State.Formed.seedGrid (h : s.Formed) : s.seedGrid.Formed := h.applySeed.when fun h => h.regrid

/-! ### Twin -/

theorem State.Formed.setMirrorState {m : MirrorState} (h : s.Formed) : (s.setMirrorState m).Formed := h.setFld

theorem State.Formed.setTwin {t : Twin} (h : s.Formed) : (s.setTwin t).Formed := h.same

theorem State.Formed.noteEpoch {e : BitVec 7} (h : s.Formed) : (s.noteEpoch e).Formed := by
  unfold State.noteEpoch
  dsimp only
  refine .ite h ?_
  split
  · exact h.setTwin
  · exact .ite h.setTwin h

theorem State.Formed.setRole {r : Role} {e : BitVec 7} (h : s.Formed) : (s.setRole r e).Formed :=
  .ite h h.setFld.setFld.noteEpoch.event

theorem State.Formed.setOutput {b : Bool} (h : s.Formed) : (s.setOutput b).Formed := h.setTwin

theorem State.Formed.clearDual (h : s.Formed) : s.clearDual.Formed := h.setBit.setTwin

theorem State.Formed.placeAtLatch {slot : Nat} {frame : Option Nat} (h : s.Formed) :
    (s.placeAtLatch slot frame).Formed := by
  unfold State.placeAtLatch
  dsimp only
  exact h.same.setXfer.event

theorem State.Formed.proceedAlone (h : s.Formed) : s.proceedAlone.Formed := h.setTwin.foldl fun h => h.placeAtLatch

theorem State.Formed.endCommits (h : s.Formed) : s.endCommits.Formed := h.setTwin.foldl fun h => h.setXfer.event

theorem State.Formed.goStale (h : s.Formed) : s.goStale.Formed := h.setMirrorState.setTwin

theorem State.Formed.takeCue {n : Word} (h : s.Formed) : (s.takeCue n).2.Formed := by
  unfold State.takeCue
  dsimp only
  split
  · exact h
  · exact h.same

theorem State.Formed.cueDone {n : Word} {k : Nat} (h : s.Formed) : (s.cueDone n k).Formed := by
  unfold State.cueDone
  dsimp only
  split
  · exact h.takeCue.followRamps
  · exact h.takeCue

theorem State.Formed.becomeActive {next : Word} (h : s.Formed) : (s.becomeActive next).Formed :=
  (h.foldl fun h => .ite h.cueDone h).setRole.setMirrorState.setTwin

theorem State.Formed.returnCues (h : s.Formed) : s.returnCues.Formed := h.same.foldl fun h => h.enqueueCue

theorem State.Formed.becomeStale (h : s.Formed) : s.becomeStale.Formed :=
  h.endCommits.returnCues.setRole.goStale.clearDual.setTwin

theorem State.Formed.handOverTo {seq : Word} (h : s.Formed) : (s.handOverTo seq).Formed :=
  h.endCommits.returnCues.setRole.setMirrorState.clearDual.setTwin

theorem State.Formed.becomeSolo (h : s.Formed) : s.becomeSolo.Formed :=
  h.proceedAlone.setRole.setMirrorState.clearDual.setTwin

theorem State.Formed.becomeJoining (h : s.Formed) : s.becomeJoining.Formed := h.setRole.setMirrorState.setOutput

theorem State.Formed.pathFlags (h : s.Formed) : s.pathFlags.Formed := h.setBit.setBit.setTwin

theorem State.Formed.pathHeard {path : Nat} {seq : Word} (h : s.Formed) : (s.pathHeard path seq).Formed :=
  .ite (h.setTwin.when fun h => h.setBit).pathFlags (h.setTwin.when fun h => h.setBit).pathFlags

theorem State.Formed.takeRole {r : Role} (h : s.Formed) : (s.takeRole r).Formed := by
  unfold State.takeRole
  split
  · exact h.becomeStale
  · exact h.becomeActive
  · exact h.becomeSolo
  · exact h.becomeJoining

theorem State.Formed.roleAt {r : Role} (h : s.Formed) : (s.roleAt r).Formed := .ite h.setTwin h.takeRole

theorem State.Formed.takeOver (h : s.Formed) : s.takeOver.Formed := .ite h h.becomeActive.count

theorem State.Formed.partnerLost (h : s.Formed) : s.partnerLost.Formed := by
  unfold State.partnerLost
  dsimp only
  split
  · exact h.setTwin.takeOver
  · exact h.setTwin.proceedAlone.setTwin
  · exact h.setTwin

theorem State.Formed.losePath {path : Nat} (h : s.Formed) : (s.losePath path).Formed :=
  .ite (.when (.ite h.setBit.setTwin.count.log.pathFlags.goStale (h.setBit.setTwin.count.log.pathFlags.when fun h =>
    h.setTwin)) fun h => h.partnerLost) h

theorem State.Formed.strapConflict {partnerRole : Nat} (h : s.Formed) : (s.strapConflict partnerRole).Formed :=
  h.count.setBit.when fun h => h.log.event

theorem State.Formed.emit {r : MirrorRecord} (h : s.Formed) : (s.emit r).Formed := h.setTwin

theorem State.Formed.emitBlob {p : Nat} {body : List Byte} {commit : Bool} (h : s.Formed) :
    (s.emitBlob p body commit).Formed :=
  (h.foldl fun h => h.emit).emit.setTwin

theorem State.Formed.emitTime (h : s.Formed) : s.emitTime.Formed := h.emit.setTwin

theorem State.Formed.startResync (h : s.Formed) : s.startResync.Formed :=
  .count (.foldl (.emit (.emitTime (.foldl (.foldl ((h.setTwin.wr.emit.foldl fun h => h.emit).foldl fun h =>
    h.emitBlob) fun h => h.emit) fun h => h.emit))) fun h => h.emitBlob)

theorem State.Formed.sendPennant (h : s.Formed) : s.sendPennant.Formed :=
  .when ((h.setTwin.unless fun h => h.traffic).when fun h => h.wr) fun h => h.foldl (fun h => .ite h.sendPriority h)

theorem State.Formed.keepTime (h : s.Formed) : s.keepTime.Formed := by
  unfold State.keepTime
  refine .ite ?_ h
  split
  · exact .ite h.emitTime h
  · exact h.emitTime

theorem State.Formed.heartbeat (h : s.Formed) : s.heartbeat.Formed := .ite h.keepTime.sendPennant h

theorem State.Formed.requestRole {v : Byte} (h : s.Formed) : (s.requestRole v).1.Formed :=
  .iteFst h (.iteFst h.setTwin.emit h)

/-! ### Reset -/

theorem State.Formed.reset : State.reset.Formed := rfl

theorem State.Formed.cleared (_ : s.Formed) : s.cleared.Formed := State.Formed.reset.same.wr.wr.wr

theorem State.Formed.fullReset {cause : Nat} (h : s.Formed) : (s.fullReset cause).Formed := h.cleared.same.raise

theorem State.Formed.cutFuses (h : s.Formed) : s.cutFuses.Formed := by
  unfold State.cutFuses
  dsimp only
  split
  · exact h
  · exact .ite h.free.same h

theorem State.Formed.withDeferred {causes : BitVec 8} (h : s.Formed) : (s.withDeferred causes).Formed := h.wr

theorem State.Formed.resetBy {cause : Nat} (h : s.Formed) : (s.resetBy cause).Formed :=
  .ite h (.ite h.same h.cutFuses.fullReset.withDeferred)

theorem State.Formed.serviceWatchdog (h : s.Formed) : s.serviceWatchdog.Formed := h.same

theorem State.Formed.setWatchdog {m : WatchdogMode} (h : s.Formed) : (s.setWatchdog m).Formed := h.same

theorem State.Formed.setLock {n : Nat} {b : Bool} (h : s.Formed) : (s.setLock n b).Formed :=
  h.setBit.when fun h => h.foldl (fun h => h.setBit)

theorem State.Formed.execFuseProgrammingDone (h : s.Formed) : FormedNext (execFuseProgrammingDone s) := by
  unfold Machine.execFuseProgrammingDone
  dsimp only
  split
  · exact h.done
  · exact h.same.fullReset.withDeferred.done

theorem State.Formed.setSlot {i : Fin 2} {x : Slot} (h : s.Formed) : (s.setSlot i x).Formed := .ite h.same h.same

theorem State.Formed.rejectSlot {i : Fin 2} {cause step : Nat} (h : s.Formed) : (s.rejectSlot i cause step).Formed :=
  h.setSlot.same.setBit

theorem State.Formed.bootSlot {i : Fin 2} (h : s.Formed) : (s.bootSlot i).Formed := h.setFld.same

theorem State.Formed.chooseSlot : ∀ {l : List (Fin 2)} {s : State}, s.Formed → (s.chooseSlot l).Formed
  | [], _, h => h
  | _ :: l, s, h => by
    unfold State.chooseSlot
    dsimp only
    split
    · exact h.rejectSlot.chooseSlot
    · exact .ite h.setSlot.bootSlot h.rejectSlot.chooseSlot
    · exact .ite h.bootSlot h.rejectSlot.chooseSlot
    · exact .ite h.bootSlot.setBit h.rejectSlot.chooseSlot

theorem State.Formed.setBoot {b : Boot} (h : s.Formed) : (s.setBoot b).Formed := h.same

theorem State.Formed.execSramWipeDone (h : s.Formed) : FormedNext (execSramWipeDone s) :=
  .ite h.setBoot.wipeSram.done h.done

theorem State.Formed.execDramWipeDone (h : s.Formed) : FormedNext (execDramWipeDone s) :=
  .ite h.setBoot.wipeDram.done h.done

theorem State.Formed.enterRecovery (h : s.Formed) : s.enterRecovery.Formed := h.wr.setFld.same

/-! ### Power -/

theorem State.Formed.requestPower {t : Nat} (h : s.Formed) : (s.requestPower t).1.Formed :=
  .iteFst h.setFld.log (.iteFst h.setFld.log (.iteFst (.setFld (.setBit (.ite h.raise.count.log h))) h.setFld))

theorem State.Formed.setSleep {x : Sleep} (h : s.Formed) : (s.setSleep x).Formed := h.same

theorem State.Formed.setWakeLatch {x : Option WakeSource} (h : s.Formed) : (s.setWakeLatch x).Formed := h.same

theorem State.Formed.settleLuff (h : s.Formed) : s.settleLuff.Formed :=
  .ite h.leaveLuff (.ite (h.foldl fun h => h.setCore).setSleep h)

theorem State.Formed.clearPendingRequest (h : s.Formed) : s.clearPendingRequest.Formed := h.setBit.setFld

theorem State.Formed.actOnPending (h : s.Formed) : s.actOnPending.Formed :=
  .ite (h.clearPendingRequest.unless fun h => h.setFld) h

theorem State.Formed.resumeGrid (h : s.Formed) : s.resumeGrid.Formed := .ite h.setGrid.setGrid h

theorem State.Formed.restartPlls {target : Nat} (h : s.Formed) : (s.restartPlls target).Formed :=
  h.foldl fun h => .ite h h.setLock

theorem State.Formed.returnToRun (h : s.Formed) : s.returnToRun.Formed :=
  h.same.setWatchdog.setSleep.setBit.setFld.setFld.setCore.same.resumeGrid.place

theorem State.Formed.abandonEntry {target n : Nat} (h : s.Formed) : (s.abandonEntry target n).Formed := by
  unfold State.abandonEntry
  dsimp only
  exact (h.setFld.returnToRun.setWakeLatch.when fun h => h.restartPlls).actOnPending.event

theorem State.Formed.beginWake {w : WakeSource} {furled : Bool} (h : s.Formed) : (s.beginWake w furled).Formed := by
  unfold State.beginWake
  dsimp only
  refine .same ?_
  split
  · exact h.setBit.setFld.setFld.wr
  · exact h.setBit.setFld.setFld

theorem State.Formed.wakeEvent {w : WakeSource} (h : s.Formed) : (s.wakeEvent w).Formed := by
  unfold State.wakeEvent
  split
  · refine .ite ?_ h
    split
    · exact h.setWakeLatch
    · exact h
  · exact .ite h.beginWake h
  · exact .ite h.beginWake h
  · exact h

theorem State.Formed.raiseAlarm (h : s.Formed) : s.raiseAlarm.Formed := .ite h.same.wakeEvent h

theorem State.Formed.addressMatch (h : s.Formed) : s.addressMatch.Formed := by
  unfold State.addressMatch
  dsimp only
  split
  · exact h
  · exact h
  · exact h.same.wakeEvent.when fun h => h.same

theorem State.Formed.loseRings (h : s.Formed) : s.loseRings.Formed := h.same

theorem State.Formed.handshake (h : s.Formed) : s.handshake.Formed := by
  unfold State.handshake
  dsimp only
  split
  · refine .ite h ?_
    refine .ite (h.cleared.same.when fun h => h.fullReset) ?_
    refine .ite ?_ ?_
    · refine .ite ?_ (.beginWake (.unless (.clearPendingRequest (.loseRings
        ((h.setBit.setFld.setFld.setFld.setFld.setSleep.when fun h => h.setWatchdog).when fun h => h.wr))) fun h =>
        h.setFld))
      split
      · exact .beginWake (.clearPendingRequest (.loseRings ((h.setBit.setFld.setFld.setFld.setFld.setSleep.when fun h
          => h.setWatchdog).when fun h => h.wr)))
      · exact .clearPendingRequest (.loseRings ((h.setBit.setFld.setFld.setFld.setFld.setSleep.when fun h =>
          h.setWatchdog).when fun h => h.wr))
    · split
      · exact .beginWake (.loseRings ((h.setBit.setFld.setFld.setFld.setFld.setSleep.when fun h =>
          h.setWatchdog).when fun h => h.wr))
      · exact .loseRings ((h.setBit.setFld.setFld.setFld.setFld.setSleep.when fun h => h.setWatchdog).when fun h =>
          h.wr)
  · exact h

theorem State.Formed.furledAdd (h : s.Formed) : s.furledAdd.Formed := h.setCounter40.wr.checkEra

theorem State.Formed.completeWake (h : s.Formed) : s.completeWake.Formed := by
  unfold State.completeWake
  dsimp only
  split
  · exact .event (.actOnPending (.restartPlls (.same (.when (.returnToRun (.ite (h.furledAdd.foldl fun h =>
      h.catchUp) h)) fun h => h.setFld))))
  · exact h

/-! ### Colour -/

theorem State.Formed.markChanged {port : Nat} (h : s.Formed) : (s.markChanged port).Formed := .ite h.same h

/-- The kernel would compute the target scale, so it is made a variable before the group's record is looked at. -/
theorem State.Formed.formGroup {d g q dyn budget : Nat} (h : s.Formed) : (s.formGroup d g q dyn budget).Formed := by
  obtain ⟨f, hf⟩ : ∃ f, f = targetScale := ⟨_, rfl⟩
  have e : @State.formGroup = @State.formGroup := rfl
  conv at e =>
    rhs
    delta State.formGroup
  rw [e, ← hf]
  exact (h.setRender.when fun h => h.markChanged).when fun h => h.count

theorem State.Formed.showGroup (h : s.Formed) : s.showGroup.Formed := h.wr.wr.wr.wr

theorem State.Formed.closeEnvelope {k : Nat} (h : s.Formed) : (s.closeEnvelope k).Formed := by
  unfold State.closeEnvelope
  dsimp only
  refine .showGroup ?_
  refine .wr ?_
  refine .foldl ?_ fun h => h.wr.unless (fun h => h.count)
  split
  · refine .setRender ?_
    refine .foldl (h.setRender.foldl fun h => h.markChanged) fun h => ?_
    split
    · exact h.formGroup
    · exact h
  · refine .event ?_
    refine .setRender ?_
    refine .foldl (h.setRender.foldl fun h => h.markChanged) fun h => ?_
    split
    · exact h.formGroup
    · exact h

/-! ### Bands -/

theorem State.Formed.under {c : FrameContext} (h : s.Formed) : (s.under c).Formed := h.same

theorem State.Formed.frameView {k : Nat} (h : s.Formed) : (s.frameView k).Formed := by
  unfold State.frameView
  split
  · exact h.under
  · exact h

theorem State.Formed.takeBand {lane : Nat} (h : s.Formed) : (s.takeBand lane).Formed := .ite h.setRender h.setRender

theorem State.Formed.startCycle (h : s.Formed) : s.startCycle.Formed := by
  unfold State.startCycle
  dsimp only
  split
  · exact h
  · exact .ite h (h.setRender.foldl fun h => h.takeBand)

theorem State.Formed.renderElement {k n : Nat} (h : s.Formed) : (s.renderElement k n).Formed :=
  h.setRender.when fun h => h.markChanged

theorem State.Formed.finishBand {lane : Nat} (h : s.Formed) : (s.finishBand lane).Formed := by
  unfold State.finishBand
  dsimp only
  split
  · exact .ite (h.foldl fun h => h.renderElement).setRender.takeBand h
  · exact h

theorem State.Formed.countUnderruns {gone : List ElementRecord} (h : s.Formed) : (s.countUnderruns gone).Formed :=
  (h.foldl (fun h => (h.wr.when fun h => h.setBit).unless fun h => h.count.event)).when fun h => h.count.event

theorem State.Formed.updateProbe {k : Nat} (h : s.Formed) : (s.updateProbe k).Formed := by
  unfold State.updateProbe
  dsimp only
  refine .ite (h.foldl fun h => h.wr).wr.wr.wr.wr ?_
  split
  · exact (h.foldl fun h => h.wr).wr.wr.wr.wr
  · exact h

theorem State.Formed.darkenElement {n : Nat} (h : s.Formed) : (s.darkenElement n).Formed :=
  h.setRender.unless fun h => h.markChanged

theorem State.Formed.closeCycle {k : Nat} (h : s.Formed) : (s.closeCycle k).Formed :=
  .same (.closeEnvelope (.countUnderruns (.updateProbe (.setFld (.wr (.wr (.wr (.wr (.wr (.free (.wr (.wr ((h.foldl
    fun h => h.darkenElement).setRender.unless fun h => h.countBy.count)))))))))))))

/-! ### Sheet -/

theorem State.Formed.showPort {p : Nat} {sendsClone static : Bool} (h : s.Formed) :
    (s.showPort p sendsClone static).Formed :=
  h.wr

theorem State.Formed.countStatic {c : FrameContext} (h : s.Formed) : (s.countStatic c).Formed :=
  h.foldl fun h => h.same

theorem State.Formed.endCycle (h : s.Formed) : s.endCycle.Formed := by
  unfold State.endCycle
  split
  · split
    · exact .ite h.closeCycle h
    · exact h
  · exact h

theorem State.Formed.openWindow (h : s.Formed) : s.openWindow.Formed := by
  unfold State.openWindow
  dsimp only
  split
  · exact h.endCycle
  · split
    · exact h.endCycle.same
    · exact ((h.endCycle.same.countStatic.foldl fun h => h.withRegs h.under.showPort).when fun h =>
        h.foldl fun h => .ite h.same h).wr.same

theorem State.Formed.finishPack (h : s.Formed) : s.finishPack.Formed := by
  unfold State.finishPack
  dsimp only
  split
  · exact h
  · exact (h.same.setRender.wr.foldl fun h => h.wr.wr).unless fun h => h.same.unless (fun h => (h.foldl fun h => .ite
      h h.countLate).foldl (fun h => .ite (.ite h.wr.servePort h.wakeLpi.setPort.servePort) (h.foldl fun h =>
      h.sendCascade)))

theorem State.Formed.sendSync {p : Nat} (h : s.Formed) : (s.sendSync p).Formed := by
  unfold State.sendSync
  dsimp only
  split
  · exact h
  · exact h.same.unless fun h => h.sendTime

theorem State.Formed.terminate {p u k : Nat} (h : s.Formed) : (s.terminate p u k).Formed :=
  h.setPort.unless fun h => h.same

theorem State.Formed.announceStop (h : s.Formed) : s.announceStop.Formed := by
  unfold State.announceStop
  dsimp only
  refine .ite h ?_
  refine .foldl ?_ fun h => h.servePort
  refine .same ?_
  refine .foldl h.same fun h => ?_
  split
  · exact .ite h.terminate h
  · exact h

theorem State.Formed.resumeShow (h : s.Formed) : s.resumeShow.Formed := h.same

/-! ### Shroud -/

theorem State.Formed.shroudDown {p : Nat} (h : s.Formed) : (s.shroudDown p).Formed :=
  .ite h.wr.setBit.count.wr.setShroudPtp.discardPort h

theorem State.Formed.shroudTrain {p : Nat} {x : PhyStatus} (h : s.Formed) : (s.shroudTrain p x).Formed :=
  .ite (h.wr.when fun h => h.setBit) h

theorem State.Formed.setPatternWord {port pattern i : Nat} {v : Wide} (h : s.Formed) :
    (s.setPatternWord port pattern i v).Formed :=
  h.same

theorem State.Formed.checkPatterns {port : Fin 64} {bs : List Byte} (h : s.Formed) :
    (s.checkPatterns port bs).Formed :=
  .ite (h.count.when fun h => h.wakeEvent) h

theorem State.Formed.takeBulk {p : Nat} {msg : List Byte} (h : s.Formed) : (s.takeBulk p msg).Formed :=
  .ite h.count (.when (.ite h.setBlob.wr h.same) fun h => h.raiseIrq.fireEvent.place)

theorem State.Formed.sendBulk {p : Nat} {x : Egress} (h : s.Formed) : (s.sendBulk p x).1.Formed :=
  .iteFst h h.wakeLpi.setPort.servePort

theorem State.Formed.shroudClassify {p : Nat} {bs : List Byte} {stamp : T32} {frac : Byte} (h : s.Formed) :
    (s.shroudClassify p bs stamp frac).Formed := by
  unfold State.shroudClassify
  dsimp only
  refine .ite h ?_
  refine .ite (.ite h.sendBulk h.count) ?_
  split
  · exact h.count
  · exact .ite (.ite h.stampUnused h) (.ite h (.ite h.takeBulk h.count))

theorem State.Formed.receiveShroud {p : Fin 64} {bs : List Byte} {fcsOk : Bool} {stamp : T32} {frac : Byte}
    (h : s.Formed) :
    (s.receiveShroud p bs fcsOk stamp frac).Formed := by
  unfold State.receiveShroud
  dsimp only
  refine .ite h ?_
  split
  · exact h.setBit.count
  · exact h.setBit.traffic.traffic.checkPatterns.when fun h => h.shroudClassify

theorem State.Formed.setExpress {port : Nat} {x : ExpressCopy} (h : s.Formed) : (s.setExpress port x).Formed := h.same

theorem State.Formed.takeExpress {port : Nat} {f : RxFrame} (h : s.Formed) : (s.takeExpress port f).Formed := by
  unfold State.takeExpress
  dsimp only
  split
  · exact .ite (.ite (.setExpress ((h.foldl fun h => h.sendExpress).foldl fun h => h.count)) h.count) h
  · exact h

theorem State.Formed.endExpress {port : Nat} {ok : Bool} (h : s.Formed) : (s.endExpress port ok).Formed :=
  .ite h (h.setExpress.unless (fun h => .ite (h.foldl (fun h => .ite h.setPort (.ite h.setPort h))).count (h.foldl
    fun h => h.setPort).count))

theorem State.Formed.capture (h : s.Formed) : s.capture.Formed := h.same

theorem State.Formed.captureDue (h : s.Formed) : s.captureDue.Formed := .ite h.capture h

theorem State.Formed.writeSnapshot {v : Wide} (h : s.Formed) : (s.writeSnapshot v).1.Formed :=
  .iteFst (.iteFst h.setBit.setBit.same.captureDue h.setBit.setBit.same.capture) h.setBit

theorem State.Formed.execSnapshotCaptureDone (h : s.Formed) : FormedNext (execSnapshotCaptureDone s) := by
  unfold Machine.execSnapshotCaptureDone
  dsimp only
  split
  · exact h.done
  · exact h.same.setBlob.wr.setBit.done

theorem State.Formed.setCable {l : List Nat} (h : s.Formed) : (s.setCable l).Formed := h.same

theorem State.Formed.setCableResult {p status distance : Nat} (h : s.Formed) :
    (s.setCableResult p status distance).Formed :=
  h.wr

theorem State.Formed.endCable (h : s.Formed) : s.endCable.Formed := by
  unfold State.endCable
  dsimp only
  exact h.same.setBit.setBit.setFld.release

theorem State.Formed.nextCable : ∀ {l : List Nat} {s : State}, s.Formed → (s.nextCable l).Formed
  | [], _, h => h.endCable
  | _ :: l, _, h => .ite (State.Formed.nextCable (l := l) h.setCableResult) h.shroudDown.setBit.setFld.setCable

theorem State.Formed.abortCable {l : List Nat} (h : s.Formed) : (s.abortCable l).Formed := by
  unfold State.abortCable
  dsimp only
  exact (h.foldl fun h => h.setBit.setCableResult).endCable

theorem State.Formed.writeCableTest {v : Wide} (h : s.Formed) : (s.writeCableTest v).1.Formed :=
  .iteFst h.refuseStart (.iteFst (h.setBit.when fun h => h.setBit.same).hold.setBit.nextCable (h.setBit.when fun h =>
    h.setBit.same))

theorem State.Formed.cablePortDone {status distance : Nat} (h : s.Formed) :
    (s.cablePortDone status distance).Formed := by
  unfold State.cablePortDone
  dsimp only
  split
  · exact h
  · exact .ite h.setBit.setCableResult.abortCable h.setBit.setCableResult.nextCable

/-! ### Ptp -/

theorem State.Formed.sendAnnounce {p : Nat} (h : s.Formed) : (s.sendAnnounce p).Formed :=
  .ite h.setShroudPtp h.setShroudPtp.sendTime

theorem State.Formed.sendShroudSync {p : Nat} {stamp : T32} {frac : Byte} (h : s.Formed) :
    (s.sendShroudSync p stamp frac).Formed :=
  .ite h (h.setShroudPtp.sendTime.when (fun h => h.pushEgress.when fun h => h.setEgressQ.sendTime)).sendAnnounce

theorem State.Formed.sendPdelay {p : Nat} {stamp : T32} {frac : Byte} (h : s.Formed) :
    (s.sendPdelay p stamp frac).Formed := by
  unfold State.sendPdelay
  dsimp only
  refine .ite h ?_
  refine .when ?_ fun h => h.pushEgress.when (fun h => h.setShroudPtp)
  refine .sendTime ?_
  refine .setShroudPtp ?_
  split
  · exact h.setEgressQ
  · exact h

theorem State.Formed.takePdelayReq {p : Nat} {head : PtpHead} {stamp : T32} {frac : Byte} {sentAt : T32}
    {sentFrac : Byte} (h : s.Formed) :
    (s.takePdelayReq p head stamp frac sentAt sentFrac).Formed := by
  unfold State.takePdelayReq
  dsimp only
  exact .ite h (h.stampUnused.unless (fun h => h.sendTime.when (fun h => h.pushEgress.when fun h =>
    h.setEgressQ.sendTime)))

theorem State.Formed.setLinkDelay {p : Nat} {d : Dyad} (h : s.Formed) : (s.setLinkDelay p d).Formed :=
  .ite h.setShroudPtp.free.wr h.setShroudPtp.wr

theorem State.Formed.linkSample {p : Nat} {d : Int} (h : s.Formed) : (s.linkSample p d).Formed :=
  .ite h.setLinkDelay (.ite h.setLinkDelay h.setShroudPtp)

theorem State.Formed.takePdelayResp {p : Nat} {m : PdelayRespMsg} (h : s.Formed) : (s.takePdelayResp p m).Formed := by
  unfold State.takePdelayResp
  dsimp only
  refine .ite h ?_
  split
  · exact h.stampUnused.when fun h => h.setEgressQ.setShroudPtp.when (fun h => h.linkSample)
  · exact h.stampUnused

/-! ### Masthead -/

theorem State.Formed.setMast {m : Masthead} (h : s.Formed) : (s.setMast m).Formed := h.same

theorem State.Formed.setEngine {e : Nat} {x : Engine} (h : s.Formed) : (s.setEngine e x).Formed := h.setMast

theorem State.Formed.startEngine {e : Nat} (h : s.Formed) : (s.startEngine e).Formed := .ite h.setEngine h

theorem State.Formed.stopEngine {e : Nat} (h : s.Formed) : (s.stopEngine e).Formed := h.setEngine

theorem State.Formed.engineCycle {now e : Nat} (h : s.Formed) : (s.engineCycle now e).Formed := by
  unfold State.engineCycle
  dsimp only
  refine .ite h ?_
  refine .ite ?_ (h.setEngine.when fun h => h.log)
  split
  · exact h.setEngine
  · exact h

theorem State.Formed.updateOpen {failed : BitVec 48} (h : s.Formed) : (s.updateOpen failed).Formed :=
  h.foldl fun h => h.setBit

theorem State.Formed.ageRows (h : s.Formed) : s.ageRows.Formed := h.setMast

theorem State.Formed.applyLamp {e : T32} (h : s.Formed) : (s.applyLamp e).Formed := by
  unfold State.applyLamp
  dsimp only
  split
  · exact h
  · exact (h.setMast.when (fun h => h.foldl fun h => h.stopEngine)).wr

theorem State.Formed.applyRaster (h : s.Formed) : s.applyRaster.Formed := .ite h.setMast.wr h

theorem State.Formed.thermalEvent {kind : Nat} (h : s.Formed) : (s.thermalEvent kind).Formed := by
  unfold State.thermalEvent
  dsimp only
  exact h.log.event

theorem State.Formed.thermalBit {i kind : Nat} {b : Bool} (h : s.Formed) : (s.thermalBit i kind b).Formed :=
  h.setBit.when fun h => h.thermalEvent

theorem State.Formed.reportNtc (h : s.Formed) : s.reportNtc.Formed := h.thermalBit.thermalBit.thermalBit

theorem State.Formed.setDerate {f : Wide} (h : s.Formed) : (s.setDerate f).Formed := h.wr.thermalBit

theorem State.Formed.checkShutdown (h : s.Formed) : s.checkShutdown.Formed :=
  .ite h.thermalBit (.ite h.setBit.setMast.thermalEvent.setDerate h)

theorem State.Formed.freeDerate (h : s.Formed) : s.freeDerate.Formed := .ite h h.setDerate

theorem State.Formed.takeSettings (h : s.Formed) : s.takeSettings.Formed :=
  h.setMast.reportNtc.checkShutdown.freeDerate.setMast

theorem State.Formed.startPwm {failed : BitVec 48} (h : s.Formed) : (s.startPwm failed).Formed := by
  unfold State.startPwm
  dsimp only
  refine .ite h ?_
  refine .setBit ?_
  refine .setMast ?_
  refine .foldl ?_ fun h => h.engineCycle
  refine .unless ?_ fun h => h.setBit
  refine .setBit ?_
  refine .when ?_ fun h => h.setMast.foldl (fun h => h.stopEngine)
  refine .applyRaster ?_
  refine .applyLamp ?_
  refine .setMast ?_
  refine .takeSettings ?_
  split
  · exact h.updateOpen.ageRows.wr.wr
  · exact h.ageRows

theorem State.Formed.commitRaster {f : Nat} (h : s.Formed) : (s.commitRaster f).Formed :=
  .setFld (.setBit (.ite h.count h))

theorem State.Formed.burstClass {c : Nat} {samples : List Nat} (h : s.Formed) : (s.burstClass c samples).Formed :=
  .ite h.setBit.count (.when (.wr (.iteSnd h.free h)) fun h => h.wr)

theorem State.Formed.endBurst {samples : List (List Nat)} (h : s.Formed) : (s.endBurst samples).Formed :=
  h.setMast.when fun h => h.setBit.foldl (fun h => h.burstClass)

theorem State.Formed.askBurst (h : s.Formed) : s.askBurst.Formed := .ite h h.setMast

theorem State.Formed.captureLoop {v : Nat} (h : s.Formed) : (s.captureLoop v).Formed := h.foldl fun h => .ite h.wr h

theorem State.Formed.ntcConvert {code : Nat} (h : s.Formed) : (s.ntcConvert code).Formed :=
  h.setMast.wr.reportNtc.checkShutdown

theorem State.Formed.derateStep (h : s.Formed) : s.derateStep.Formed := h.setMast.setDerate

theorem State.Formed.overcurrent {row : Nat} (h : s.Formed) : (s.overcurrent row).Formed :=
  .ite h (h.setMast.count.when fun h => h.raise.log)

theorem State.Formed.startEngines {v stopped : Nat} (h : s.Formed) : (s.startEngines v stopped).Formed :=
  h.foldl fun h => .ite h.stopEngine (.ite h.startEngine h)

theorem State.Formed.stopEngines {v : Nat} (h : s.Formed) : (s.stopEngines v).Formed :=
  h.foldl fun h => .ite h.stopEngine h

theorem State.Formed.writeEngine {e : Nat} {old : Wide} (h : s.Formed) : (s.writeEngine e old).Formed :=
  .ite h.stopEngine (.ite h.startEngine h)

theorem State.Formed.startRunEngines (h : s.Formed) : s.startRunEngines.Formed := h.foldl fun h => h.startEngine

theorem State.Formed.darkenLamp (h : s.Formed) : s.darkenLamp.Formed := h.setMast.setBit

/-! ### Trim -/

theorem State.Formed.startTrim {automatic : Bool} (h : s.Formed) : (s.startTrim automatic).Formed :=
  h.hold.setFld.setBit.setBit.same

theorem State.Formed.autoTrim (h : s.Formed) : s.autoTrim.Formed := .ite h (.ite h.startTrim h.setBit.same)

theorem State.Formed.dieConvert {die : Half} (h : s.Formed) : (s.dieConvert die).Formed :=
  h.wr.when fun h => h.autoTrim

theorem State.Formed.endTrim {result cause : Nat} (h : s.Formed) : (s.endTrim result cause).Formed := by
  unfold State.endTrim
  dsimp only
  exact h.same.setFld.setFld.setBit.wr.count.release

theorem State.Formed.flagTrim {cause : Nat} (h : s.Formed) : (s.flagTrim cause).Formed := by
  unfold State.flagTrim
  dsimp only
  exact h.count.log.event.endTrim

theorem State.Formed.compareTrim {a b : Machine.SMap Nat} {clamped : Bool} (h : s.Formed) :
    (s.compareTrim a b clamped).Formed :=
  .ite (h.foldl fun h => h.wr).setBit.endTrim h.wr.flagTrim

theorem State.Formed.sweepDone {x : TrimSweep} (h : s.Formed) : (s.sweepDone x).Formed := by
  unfold State.sweepDone
  dsimp only
  split
  · exact h
  · split
    · exact (h.free.when (fun h => h.foldl fun h => h.wr)).same.setBit
    · exact (h.free.when (fun h => h.foldl fun h => h.wr)).compareTrim

theorem State.Formed.execTrimDarkTimeout (h : s.Formed) : FormedNext (execTrimDarkTimeout s) := by
  unfold Machine.execTrimDarkTimeout
  split
  · exact .ite h.flagTrim.done h.done
  · exact h.done

theorem State.Formed.abortTrim (h : s.Formed) : s.abortTrim.Formed := .ite h.endTrim h

theorem State.Formed.dropTrim (h : s.Formed) : s.dropTrim.Formed := h.abortTrim.setBit.same

theorem State.Formed.writeTrim {v : Wide} (h : s.Formed) : (s.writeTrim v).1.Formed :=
  .iteFst h (.iteFst h.refuseStart ((h.setFld.when fun h => h.startTrim).when fun h => h.abortTrim))

theorem State.Formed.writeTrimCode {p e : Nat} {v : Wide} (h : s.Formed) : (s.writeTrimCode p e v).1.Formed :=
  .iteFst h h.wr.wr

/-! ### Kite -/

theorem State.Formed.setKite {k : Kite} (h : s.Formed) : (s.setKite k).Formed := h.same

theorem State.Formed.putOnAir {f : KiteOut} {key : Nat} (h : s.Formed) : (s.putOnAir f key).Formed :=
  h.setKite.wr.traffic

theorem State.Formed.nextKiteSeq (h : s.Formed) : s.nextKiteSeq.2.Formed := h.setKite

theorem State.Formed.sendAnchor (h : s.Formed) : s.sendAnchor.Formed := by
  unfold State.sendAnchor
  dsimp only
  refine .ite h ?_
  split
  · exact h.checkEra
  · exact h.checkEra.nextKiteSeq.putOnAir.traffic

theorem State.Formed.queueLevels {sleepers : Bool} {tag : T32} {opens : Option T32} {deadline : T32} (h : s.Formed) :
    (s.queueLevels sleepers tag opens deadline).Formed :=
  h.foldl fun h => .ite h.nextKiteSeq.setKite h

theorem State.Formed.kiteAtLatch {k : Nat} (h : s.Formed) : (s.kiteAtLatch k).Formed := .ite h.queueLevels h

theorem State.Formed.openListen (h : s.Formed) : s.openListen.Formed :=
  .ite h (h.setKite.unless fun h => h.queueLevels)

theorem State.Formed.dropLevel {f : KiteOut} (h : s.Formed) : (s.dropLevel f).Formed := by
  unfold State.dropLevel
  dsimp only
  refine .unless ?_ fun h => h.count
  split
  · exact h.setKite
  · exact h

theorem State.Formed.dropLateLevels (h : s.Formed) : s.dropLateLevels.Formed := h.setKite.foldl fun h => h.dropLevel

theorem State.Formed.kiteSend (h : s.Formed) : s.kiteSend.Formed := by
  unfold State.kiteSend
  dsimp only
  refine .ite h ?_
  refine .unless h.checkEra fun h => ?_
  split
  · refine .unless h.dropLateLevels fun h => ?_
    refine .unless ?_ fun h => h.setKite
    split
    · exact h.setKite.putOnAir.setKite
    · exact h.setKite.putOnAir
  · exact h.dropLateLevels

theorem State.Formed.ackTimeout (h : s.Formed) : s.ackTimeout.Formed := by
  unfold State.ackTimeout
  dsimp only
  split
  · exact h
  · exact .ite h.setKite.setKite h.setKite.count

theorem State.Formed.execKiteChannelAccessFailure (h : s.Formed) : FormedNext (execKiteChannelAccessFailure s) := by
  unfold Machine.execKiteChannelAccessFailure
  dsimp only
  split
  · exact h.done
  · exact .ite h.setKite.count.done h.done

theorem State.Formed.kiteAck {x : KiteIn} (h : s.Formed) : (s.kiteAck x).Formed := .ite h (.ite h.count h.setKite)

theorem State.Formed.kiteData {x : KiteIn} (h : s.Formed) : (s.kiteData x).Formed := by
  unfold State.kiteData
  dsimp only
  split
  · exact h.count
  · exact .ite h.setKite.count (.ite h.setKite.count (.ite h.setKite.wakeEvent (h.setKite.when fun h => h.count)))

theorem State.Formed.receiveKite {b : List Byte} {fcsOk : Bool} {rssi : Byte} (h : s.Formed) :
    (s.receiveKite b fcsOk rssi).Formed := by
  unfold State.receiveKite
  dsimp only
  refine .ite h ?_
  refine .unless h.setFld fun h => ?_
  refine .ite ?_ (.ite (h.traffic.when fun h => h.kiteAck).kiteData (h.traffic.when fun h => h.kiteAck).count)
  split
  · exact (h.traffic.when fun h => h.kiteAck).when fun h => h.setKite
  · exact h.traffic.when fun h => h.kiteAck

theorem State.Formed.newKiteKey {i : Nat} (h : s.Formed) : (s.newKiteKey i).Formed := h.setKite

theorem State.Formed.clearKite (h : s.Formed) : s.clearKite.Formed := h.setKite

/-! ### Access -/

theorem State.Formed.violate {rq : Requester} {p e : Nat} (h : s.Formed) : (s.violate rq p e).Formed :=
  h.count.unless fun h => h.same.log

theorem State.Formed.clearMarks {session : Nat} (h : s.Formed) : (s.clearMarks session).Formed := h.same

theorem State.Formed.setBank {i : Fin 2} {b : Bank} (h : s.Formed) : (s.setBank i b).Formed := .ite h.same h.same

theorem State.Formed.readElement {rq : Requester} {p e : Nat} (h : s.Formed) : (s.readElement rq p e).2.Formed :=
  .iteSnd h (.iteSnd h.wr (.iteSnd h.readCueWord h))

theorem State.Formed.readElements {rq : Requester} {r : Row} : ∀ {n e : Nat} {s : State}, s.Formed →
    (s.readElements rq r e n).2.Formed
  | 0, _, _, h => h
  | n + 1, _, _, h => .iteSnd (State.Formed.readElements (n := n) h.readElement) (State.Formed.readElements (n := n) h)

theorem State.Formed.readOp {rq : Requester} {p e n : Nat} (h : s.Formed) : (s.readOp rq p e n).2.Formed := by
  unfold State.readOp
  dsimp only
  split
  · exact h.violate
  · refine .iteSnd (.ite h.violate h) ?_
    refine .iteSnd h.violate ?_
    split
    · exact .iteSnd h.violate h
    · exact .iteSnd h.violate h
    · exact h.readElements.when fun h => h.violate

theorem State.Formed.infoOp {rq : Requester} {p e n : Nat} (h : s.Formed) : (s.infoOp rq p e n).2.Formed := by
  unfold State.infoOp
  dsimp only
  split
  · exact h.violate
  · exact .iteSnd h.violate (.ite h.violate h)

theorem State.Formed.answerOne {rq : Requester} {status : Byte} {data : List Byte} (h : s.Formed) :
    (s.answerOne rq status data).Formed :=
  .ite h.answer h.answer

theorem State.Formed.arbitrate {rq : Requester} (h : s.Formed) : (s.arbitrate rq).Formed := .ite h.same h.same

theorem State.Formed.serve {rq : Requester} {op : State → State} (h : s.Formed)
    (hop : ∀ {t : State}, t.Formed → (op t).Formed) :
    (s.serve rq op).Formed :=
  .ite h (.ite h.answer (hop (h.arbitrate)))

theorem State.Formed.faultTrap {rq : Requester} {a : Nat} {store : Bool} (h : s.Formed) :
    (s.faultTrap rq a store).Formed := by
  unfold State.faultTrap
  split
  · exact h.takeTrap
  · exact h

theorem State.Formed.access {rq : Requester} {a : Nat} {store : Bool} {op : State → State} (h : s.Formed)
    (hop : ∀ {t : State}, t.Formed → (op t).Formed) :
    (s.access rq a store op).Formed :=
  .ite h.faultTrap (h.serve fun h => hop h)

theorem State.Formed.loadHalf {rq : Requester} {c p e : Nat} {high : Bool} (h : s.Formed) :
    (s.loadHalf rq c p e high).2.Formed := by
  unfold State.loadHalf
  dsimp only
  refine .iteSnd ?_ h.readElement.setCore
  split
  · exact .iteSnd h.setCore h
  · exact h

theorem State.Formed.loadWord {rq : Requester} {c p w : Nat} (h : s.Formed) : (s.loadWord rq c p w).2.Formed := by
  unfold State.loadWord
  dsimp only
  split
  · exact h.violate
  · refine .iteSnd (.ite h h.violate) ?_
    refine .iteSnd h.violate ?_
    split
    · exact .iteSnd h h.violate
    · exact h
    · exact .iteSnd h.loadHalf h.violate
    · exact .iteSnd h.readElement h.violate

theorem State.Formed.load {rq : Requester} {p w : Nat} (h : s.Formed) : (s.load rq p w).Formed := by
  unfold State.load
  dsimp only
  split
  · exact h.access fun h => h.loadWord.answer
  · exact h

theorem State.Formed.execRead {rq : Requester} {param : Half} {elem last : Byte} (h : s.Formed) :
    FormedNext (execRead rq param elem last s) :=
  .ite h.load.done (h.serve fun h => h.readOp.answerOne).done

theorem State.Formed.execTimeNowRead {rq : Requester} (h : s.Formed) : FormedNext (execTimeNowRead rq s) := h.execRead

theorem State.Formed.execCueRead {rq : Requester} {high : Bool} (h : s.Formed) :
    FormedNext (execCueRead rq high s) :=
  h.execRead

/-! ### Trouble -/

theorem State.Formed.setTrouble {t : Trouble} (h : s.Formed) : (s.setTrouble t).Formed := h.same

theorem State.Formed.writeTroubleWord {e : Nat} {v : Wide} (h : s.Formed) : (s.writeTroubleWord e v).Formed :=
  .ite h.log (.ite h h.setTrouble)

theorem State.Formed.writeExport {v : Wide} (h : s.Formed) : (s.writeExport v).1.Formed :=
  .iteFst h (.iteFst h.refuseStart h.setTrouble.hold)

theorem State.Formed.execLogExportDone (h : s.Formed) : FormedNext (execLogExportDone s) := by
  unfold Machine.execLogExportDone
  dsimp only
  split
  · exact h.done
  · exact h.setTrouble.setBlob.wr.release.done

theorem State.Formed.abortExport (h : s.Formed) : s.abortExport.Formed := .ite h.setTrouble.release h

theorem State.Formed.startScrub (h : s.Formed) : s.startScrub.Formed := h.setTrouble.wr.setBit.hold

theorem State.Formed.endScrub {n : Nat} (h : s.Formed) : (s.endScrub n).Formed := by
  unfold State.endScrub
  dsimp only
  exact h.setTrouble.wr.setBit.release

theorem State.Formed.abortScrub (h : s.Formed) : s.abortScrub.Formed := .ite h.endScrub h

theorem State.Formed.writeScrub {v : Wide} (h : s.Formed) : (s.writeScrub v).1.Formed :=
  .iteFst h.refuseStart ((h.setBit.when fun h => h.abortScrub).when fun h => h.startScrub)

theorem State.Formed.scrubLines : ∀ {l : List Word} {s : State}, s.Formed → (s.scrubLines l).Formed
  | [], _, h => h
  | _ :: l, _, h => State.Formed.scrubLines (l := l) h.count.log

/-! ### Update -/

theorem State.Formed.setUpdate {u : Update} (h : s.Formed) : (s.setUpdate u).Formed := h.same

theorem State.Formed.writeState {n : Nat} (h : s.Formed) : (s.writeState n).Formed := h.setFld

theorem State.Formed.startImage {body : List Byte} (h : s.Formed) : (s.startImage body).Formed :=
  h.hold.setSlot.setUpdate.wr

theorem State.Formed.endWriting {param : Nat} {status : Byte} (h : s.Formed) : (s.endWriting param status).Formed :=
  h.foldl fun h => .ite h.setXfer.event h

theorem State.Formed.execImageWriteDone {mismatch : Option Word} (h : s.Formed) :
    FormedNext (execImageWriteDone mismatch s) := by
  unfold Machine.execImageWriteDone
  dsimp only
  split
  · exact h.done
  · split
    · exact h.setUpdate.wr.log.writeState.endWriting.release.done
    · exact h.setUpdate.wr.setSlot.writeState.endWriting.release.done

theorem State.Formed.abortImage (h : s.Formed) : s.abortImage.Formed := by
  unfold State.abortImage
  dsimp only
  split
  · exact h
  · exact h.wr.setUpdate.writeState.release

theorem State.Formed.undoExpiry {i : Fin 2} {x : Slot} (h : s.Formed) : (s.undoExpiry i x).Formed :=
  h.recallEntries.enterEntries.setSlot.setBit.same

theorem State.Formed.writeHealth {v : Wide} (h : s.Formed) : (s.writeHealth v).1.Formed := by
  unfold State.writeHealth
  dsimp only
  refine .iteFst h.log ?_
  split
  · exact h.undoExpiry
  · refine .iteFst h ?_
    split
    · exact h.setSlot.setUpdate
    · exact h

theorem State.Formed.execHealthTimerExpiry (h : s.Formed) : FormedNext (execHealthTimerExpiry s) := by
  unfold Machine.execHealthTimerExpiry
  dsimp only
  split
  · exact h.same.setSlot.setBit.setUpdate.log.done
  · exact h.done

theorem State.Formed.writeFloor {v : Wide} (h : s.Formed) : (s.writeFloor v).1.Formed := by
  unfold State.writeFloor
  dsimp only
  split
  · exact .iteFst h.same h
  · exact h

theorem State.Formed.startSave {records : List Byte} {importing : Bool} (h : s.Formed) :
    (s.startSave records importing).Formed :=
  h.hold.setBank.setUpdate.setBit

theorem State.Formed.endSave {result : Nat} {status : Byte} (h : s.Formed) : (s.endSave result status).Formed := by
  unfold State.endSave
  dsimp only
  exact h.setUpdate.setBit.setFld.endWriting.release

theorem State.Formed.abortSave (h : s.Formed) : s.abortSave.Formed := .ite h.endSave h

theorem State.Formed.writeSettings {v : Wide} (h : s.Formed) : (s.writeSettings v).1.Formed :=
  .iteFst h.refuseStart (.when (.ite h.startSave h) fun h => h.abortSave)

theorem State.Formed.execSettingsSaveDone {ok : Bool} (h : s.Formed) : FormedNext (execSettingsSaveDone ok s) := by
  unfold Machine.execSettingsSaveDone
  split
  · exact h.done
  · exact .ite h.setBank.count.endSave.done h.endSave.done

/-! ### Triggers -/

theorem State.Formed.driveTrigger {n : Nat} {ntc die : Half} (h : s.Formed) : (s.driveTrigger n ntc die).Formed :=
  .ite h.raise.askBurst (.ite h.raise.ntcConvert.dieConvert (.ite h.raise.fireEvent (h.raise.when fun h => h.same)))

theorem State.Formed.settleTrigger {n : Nat} (h : s.Formed) : (s.settleTrigger n).Formed :=
  .ite h.wr (.ite h.setBit h)

theorem State.Formed.fireTrigger {n : Nat} {ntc die : Half} (h : s.Formed) : (s.fireTrigger n ntc die).Formed :=
  .ite (h.same.when fun h => h.settleTrigger).holdFiring h.same.settleTrigger.driveTrigger

theorem State.Formed.freeCodes (h : s.Formed) : s.freeCodes.2.2.Formed := h.free

theorem State.Formed.releaseFiring {n : Nat} (h : s.Formed) : (s.releaseFiring n).Formed :=
  .ite h.raise (h.freeCodes.when fun h => h.setBit).driveTrigger

theorem State.Formed.releaseFirings (h : s.Formed) : s.releaseFirings.Formed :=
  .ite h (h.same.foldl (fun h => h.foldl fun h => h.releaseFiring))

theorem State.Formed.firePast {n : Nat} (h : s.Formed) : (s.firePast n).Formed := .ite h.freeCodes.same.fireTrigger h

theorem State.Formed.writeTriggerControl {n : Nat} {v : Wide} (h : s.Formed) :
    (s.writeTriggerControl n v).1.Formed :=
  .iteFst h (h.wr.when fun h => h.firePast)

theorem State.Formed.writeTriggerTarget {n : Nat} (h : s.Formed) : (s.writeTriggerTarget n).Formed :=
  .ite (.firePast (.setBit (.same (.ite h.settleTrigger h)))) h

theorem State.Formed.clearStepDone (h : s.Formed) : s.clearStepDone.Formed := .ite h.setBit.releaseFirings h

/-! ### Applet -/

theorem State.Formed.loadApplet {b : List Byte} (h : s.Formed) : (s.loadApplet b).Formed := h.setBlob.wr

theorem State.Formed.setAppletThread {b : List Byte} {i : Nat} (h : s.Formed) : (s.setAppletThread b i).Formed :=
  (h.releaseFlow.foldl fun h => h.setCore).setThread

theorem State.Formed.grantRegions (h : s.Formed) : s.grantRegions.Formed := h.foldl fun h => h.setCore

theorem State.Formed.fillApplet {b : List Byte} (h : s.Formed) : (s.fillApplet b).Formed := h.filterSram.setSram

theorem State.Formed.startApplet (h : s.Formed) : s.startApplet.Formed :=
  .place ((h.fillApplet.foldl fun h => h.setAppletThread).grantRegions.wr.foldl fun h => .ite h.makeReady h)

theorem State.Formed.stopApplet (h : s.Formed) : s.stopApplet.Formed := .ite h h.cancelApplet.wr.same

theorem State.Formed.writeApplet {v : Wide} (h : s.Formed) : (s.writeApplet v).Formed :=
  .when ((h.setBit.when fun h => h.grantRegions).when fun h => h.startApplet) fun h => h.stopApplet

theorem State.Formed.postOp {action : Wide} {tag : T32} {frame : Nat} (h : s.Formed) :
    (s.postOp action tag frame).Formed :=
  .ite h.count h.same.fireEvent

theorem State.Formed.nextBulk {p : Nat} (h : s.Formed) : (s.nextBulk p).2.Formed := h.same

theorem State.Formed.sendRelay {p : Nat} {body : List Byte} (h : s.Formed) : (s.sendRelay p body).Formed :=
  .ite h.nextBulk.free.sendBulk h.same

theorem State.Formed.relay {body : List Byte} (h : s.Formed) : (s.relay body).1.Formed :=
  .iteFst h h.setBlob.wr.same.sendRelay

/-! ### Write -/

theorem State.Formed.noteShadow {p e : Nat} (h : s.Formed) : (s.noteShadow p e).Formed := .ite h.same h

theorem State.Formed.storeReg {via : Via} {r : Row} {e : Nat} {v : Wide} (h : s.Formed) :
    (s.storeReg via r e v).Formed :=
  .when (.wr (.ite h.noteShadow h)) fun h => h.same

theorem State.Formed.splitWrite {arg : Word} (h : s.Formed) : (s.splitWrite arg).Formed := .ite h.log.count h

theorem State.Formed.mirrorWrite {via : Via} {r : Row} {e : Nat} {v : Wide} (h : s.Formed) :
    (s.mirrorWrite via r e v).Formed := by
  unfold State.mirrorWrite
  dsimp only
  refine .ite h ?_
  refine .ite ?_ (.ite h h.splitWrite)
  split
  · exact h.emit
  · exact h.emit

theorem State.Formed.requestLife {via : Via} {t : Nat} (h : s.Formed) : (s.requestLife via t).1.Formed :=
  .iteFst h (.iteFst h.same.event.pair h.log.pair)

theorem State.Formed.confirmLife {via : Via} {v : Wide} (h : s.Formed) : (s.confirmLife via v).Formed := by
  unfold State.confirmLife
  dsimp only
  split
  · exact h
  · exact .ite h.same (.ite h h.same.announceStop)

theorem State.Formed.requestReset {v : Wide} (h : s.Formed) : (s.requestReset v).1.Formed :=
  .iteFst h.log (.iteFst h (.iteFst h h.same.announceStop))

theorem State.Formed.writePower {v : Wide} (h : s.Formed) : (s.writePower v).1.Formed :=
  .iteFst h.requestPower.setBit.settleLuff h.requestPower

theorem State.Formed.write01 {via : Via} {r : Row} {e : Nat} {v : Wide} (h : s.Formed) :
    (s.write01 via r e v).1.Formed :=
  .iteFst h.requestLife (.iteFst h.confirmLife (.iteFst h.requestReset (.iteFst (.iteFst h h.storeReg) (.iteFst
    h.serviceWatchdog (.iteFst h.writePower h.storeReg)))))

theorem State.Formed.write2 {via : Via} {r : Row} {e : Nat} {v : Wide} (h : s.Formed) :
    (s.write2 via r e v).1.Formed :=
  .iteFst h.storeReg.restartTime (.iteFst (.when (.ite h.setBit h) fun h => h.clearStepDone) (.iteFst h.wr.setGrid
    (.iteFst (.iteFst (h.wr.seedGrid.when fun h => h.emitTime) h.wr) (.iteFst h.writeTriggerControl (.iteFst
    h.wr.writeTriggerTarget (.iteFst h.storeReg.runBmca (.iteFst h.storeReg.checkEra h.storeReg)))))))

theorem State.Formed.writeStay {p : Nat} {v : Wide} (h : s.Formed) : (s.writeStay p v).1.Formed :=
  .iteFst h (.iteFst h.wr.stayDown (.iteFst (.ite h.wr.setBit.setStayPort.setBit h.wr.setBit.setStayPort.setLock)
    h.wr))

theorem State.Formed.writeStream {via : Via} {r : Row} {n : Nat} {v : Wide} (h : s.Formed) :
    (s.writeStream via r n v).1.Formed :=
  .iteFst h (.iteFst h (.iteFst h (h.storeReg.when fun h => h.startVideo)))

theorem State.Formed.writeCascade {via : Via} {r : Row} {n : Nat} {v : Wide} (h : s.Formed) :
    (s.writeCascade via r n v).1.Formed :=
  .iteFst h (.iteFst h (h.storeReg.when fun h => h.startCascade))

theorem State.Formed.write3 {via : Via} {r : Row} {e : Nat} {v : Wide} (h : s.Formed) :
    (s.write3 via r e v).1.Formed :=
  .iteFst h.writeStay (.iteFst h.writeStream (.iteFst (.iteFst h h.storeReg) (.iteFst h.writeCascade (.iteFst
    (.iteFst h h.storeReg) h.storeReg))))

theorem State.Formed.submitCue {via : Via} {words : List Wide} (h : s.Formed) : (s.submitCue via words).1.Formed :=
  .iteFst h.admitCue (.iteFst h.admitCue.emit h.admitCue.splitWrite)

theorem State.Formed.writeCueWord {via : Via} {w : Wide} (h : s.Formed) : (s.writeCueWord via w).1.Formed := by
  unfold State.writeCueWord
  dsimp only
  split
  · exact h.cueWord.submitCue
  · exact h.cueWord

theorem State.Formed.writeCueWords {via : Via} : ∀ {ws : List Nat} {s : State}, s.Formed →
    (s.writeCueWords via ws).1.Formed
  | [], _, h => h
  | _ :: ws, _, h => State.Formed.writeCueWords (ws := ws) h.writeCueWord

theorem State.Formed.write456 {via : Via} {r : Row} {e : Nat} {v : Wide} (h : s.Formed) :
    (s.write456 via r e v).1.Formed :=
  .iteFst h.commitLayers (.iteFst h.commitFrames (.iteFst h.commitProjections h.storeReg))

theorem State.Formed.writePhy {p : Nat} {v : Wide} (h : s.Formed) : (s.writePhy p v).Formed :=
  h.wr.when fun h => h.shroudDown

theorem State.Formed.writePattern {i : Nat} {v : Wide} (h : s.Formed) : (s.writePattern i v).Formed :=
  h.setPatternWord

theorem State.Formed.write789 {via : Via} {r : Row} {e : Nat} {v : Wide} (h : s.Formed) :
    (s.write789 via r e v).1.Formed :=
  .iteFst h.storeReg.showGroup (.iteFst (h.storeReg.foldl fun h => .ite h.servePort h.wakeLpi) (.iteFst h.wr (.iteFst
    h.writePhy (.iteFst h.writePattern (.iteFst h.writePattern (.iteFst h.writePattern (.iteFst h.writeSnapshot
    (.iteFst h.storeReg.captureDue (.iteFst h.writeCableTest h.storeReg)))))))))

theorem State.Formed.writeLatched {via : Via} {r : Row} {v : Wide} (h : s.Formed) :
    (s.writeLatched via r v).Formed :=
  h.storeReg.foldl fun h => .ite h.setMast h

theorem State.Formed.writeABC {via : Via} {r : Row} {e : Nat} {v : Wide} (h : s.Formed) :
    (s.writeABC via r e v).1.Formed :=
  .iteFst h.commitRaster (.iteFst h.captureLoop (.iteFst h.writeLatched (.iteFst h.storeReg.writeEngine (.iteFst
    h.startEngines (.iteFst h.stopEngines (.iteFst h.writeTrim (.iteFst h.writeTrimCode (.iteFst (h.storeReg.unless
    fun h => h.clearKite).checkEra (.iteFst h.storeReg.checkEra h.storeReg)))))))))

theorem State.Formed.applyTwinControl {v : Word} (h : s.Formed) : (s.applyTwinControl v).Formed :=
  .syncAllGroups (.ite h.wr.setTwin.becomeJoining (h.wr.setTwin.when fun h => h.becomeSolo))

theorem State.Formed.writeTwinControl {v : Wide} (h : s.Formed) : (s.writeTwinControl v).Formed :=
  .ite h.setTwin h.applyTwinControl

theorem State.Formed.writeDEF {via : Via} {r : Row} {e : Nat} {v : Wide} (h : s.Formed) :
    (s.writeDEF via r e v).1.Formed :=
  .iteFst h.writeTwinControl (.iteFst h.requestRole (.iteFst h.storeReg.place (.iteFst h.writeApplet (.iteFst
    h.writeHealth (.iteFst h.writeFloor (.iteFst h.writeSettings (.iteFst h.writeTroubleWord (.iteFst h.writeExport
    (.iteFst h.writeScrub h.storeReg)))))))))

theorem State.Formed.writeElement {via : Via} {r : Row} {e : Nat} {v : Wide} (h : s.Formed) :
    (s.writeElement via r e v).1.Formed := by
  unfold State.writeElement
  dsimp only
  refine .iteFst ?_ ?_
  · refine .mirrorWrite ?_
    refine .when ?_ fun h => h.syncAllGroups
    split
    · exact h.write01
    · exact h.write01
    · exact h.write2
    · exact h.write3
    · exact h.write456
    · exact h.write456
    · exact h.write456
    · exact h.write789
    · exact h.write789
    · exact h.write789
    · exact h.writeABC
    · exact h.writeABC
    · exact h.writeABC
    · exact h.writeDEF
  · refine .when ?_ fun h => h.syncAllGroups
    split
    · exact h.write01
    · exact h.write01
    · exact h.write2
    · exact h.write3
    · exact h.write456
    · exact h.write456
    · exact h.write456
    · exact h.write789
    · exact h.write789
    · exact h.write789
    · exact h.writeABC
    · exact h.writeABC
    · exact h.writeABC
    · exact h.writeDEF

theorem State.Formed.writeAll {via : Via} {r : Row} (h : s.Formed) :
    ∀ {xs : List (Nat × Nat)} {t : State}, t.Formed → (s.writeAll via r xs t).1.Formed
  | [], _, k => k
  | _ :: xs, _, k => .iteFst (State.Formed.writeAll (xs := xs) h k.writeElement) h.writeElement

theorem State.Formed.writeStr {via : Via} {r : Row} {data : List Byte} (h : s.Formed) :
    (s.writeStr via r data).1.Formed :=
  .iteFst h (.iteFst h.setBlob (.iteFst h.setBlob.emitBlob h.setBlob.splitWrite))

theorem State.Formed.writeScalars {via : Via} {r : Row} {e n : Nat} {data : List Byte} (h : s.Formed) :
    (s.writeScalars via r e n data).1.Formed :=
  .iteFst h.violate (.iteFst h (.iteFst (.ite h.violate h) (.iteFst (.ite h.violate h) (.iteFst (.writeCueWords (.ite
    h.violate h)) (.writeAll (.ite h.violate h) (.ite h.violate h))))))

theorem State.Formed.writeOp {via : Via} {p e n : Nat} {data : List Byte} (h : s.Formed) :
    (s.writeOp via p e n data).1.Formed := by
  unfold State.writeOp
  split
  · exact h.violate
  · refine .iteFst h.violate ?_
    split
    · exact .iteFst h.violate (.iteFst h h.writeStr)
    · exact .iteFst h.violate (.iteFst h h)
    · exact h.writeScalars

/-! ### Rows -/

theorem State.Formed.store {rq : Requester} {p e : Nat} {data : List Byte} (h : s.Formed) :
    (s.store rq p e data).Formed :=
  h.access fun h => .answer (.iteFst (.iteFst h.writeOp h.violate) h.writeOp)

theorem State.Formed.stores {rq : Requester} {p w : Nat} : ∀ {n e : Nat} {data : List Byte} {s : State}, s.Formed →
    (s.stores rq p w e n data).Formed
  | 0, _, _, _, h => h
  | n + 1, _, _, _, h => State.Formed.stores (n := n) h.store

theorem State.Formed.serveWrite {rq : Requester} {p e n : Nat} {data : List Byte} (h : s.Formed) :
    (s.serveWrite rq p e n data).Formed :=
  .ite h.stores (h.serve fun h => h.writeOp.answerOne)

theorem State.Formed.serveOne {rq : Requester} {p e v : Nat} (h : s.Formed) : (s.serveOne rq p e v).Formed := by
  unfold State.serveOne
  split
  · exact h.serveWrite
  · exact h.serveWrite

theorem State.Formed.serveAbort {rq : Requester} {p v : Nat} {sameClock : Bool} (h : s.Formed) :
    (s.serveAbort rq p v sameClock).Formed :=
  .ite (h.access fun h => h.answerOne) h.serveOne

theorem State.Formed.serveValue {rq : Requester} {p e : Nat} {v : Wide} (h : s.Formed) :
    (s.serveValue rq p e v).Formed := by
  unfold State.serveValue
  split
  · exact h.serveWrite
  · exact .ite h.serveWrite (.ite (h.access fun h => h.answerOne) h.serveWrite)

/-! ### Blocks -/

theorem State.Formed.swapElements {b : List Byte} (h : s.Formed) : (s.swapElements b).Formed :=
  h.setDram.setBlob.wr.same.count

theorem State.Formed.installBody {p : Nat} {b : List Byte} (h : s.Formed) : (s.installBody p b).Formed :=
  .ite h.swapMergeTable (.ite h.swapElements (.ite h.same (.ite h.same (.ite h.same (.ite h.same (.ite
    h.setBlob.newKiteKey.checkEra (.ite h.setBlob.newKiteKey.checkEra (.ite h.loadApplet (h.setBlob.when fun h =>
    h.syncAllGroups)))))))))

theorem State.Formed.checkBody {p : Nat} {b : List Byte} (h : s.Formed) : (s.checkBody p b).1.Formed := by
  unfold State.checkBody
  refine .iteFst ?_ ?_
  · split
    · exact h.wr.count
    · exact h
  · refine .iteFst ?_ ?_
    · split
      · exact h.wr.count
      · exact h
    · refine .iteFst h ?_
      refine .iteFst h ?_
      refine .iteFst h ?_
      refine .iteFst h ?_
      refine .iteFst h ?_
      refine .iteFst h ?_
      refine .iteFst h ?_
      split
      · exact h
      · exact h

theorem State.Formed.endSlot {slot : Nat} {status : Byte} (h : s.Formed) : (s.endSlot slot status).Formed := by
  unfold State.endSlot
  dsimp only
  exact h.setXfer.event

theorem State.Formed.freeSlot {slot : Nat} (h : s.Formed) : (s.freeSlot slot).Formed := h.setTwin.setXfer

theorem State.Formed.openBlock {rq : Requester} {p total : Nat} (h : s.Formed) : (s.openBlock rq p total).1.Formed := by
  unfold State.openBlock
  dsimp only
  split
  · exact h.violate.free
  · refine .iteFst h.violate.free ?_
    refine .iteFst h ?_
    refine .iteFst h ?_
    refine .iteFst h ?_
    refine .iteFst h ?_
    refine .iteFst h ?_
    split
    · exact h
    · exact h.setXfer

theorem State.Formed.onSlot {rq : Requester} {p : Nat} {op : State → OpResult} (h : s.Formed)
    (hop : ∀ {t : State}, t.Formed → (op t).1.Formed) :
    (s.onSlot rq p op).1.Formed :=
  .iteFst (hop h) h.violate

theorem State.Formed.dataBlock {rq : Requester} {p slot off : Nat} {data : List Byte} (h : s.Formed) :
    (s.dataBlock rq p slot off data).1.Formed :=
  h.onSlot fun h => .iteFst h.setDram.setXfer h

theorem State.Formed.commitBlock {rq : Requester} {p slot : Nat} {digest : List Byte} (h : s.Formed) :
    (s.commitBlock rq p slot digest).1.Formed := by
  unfold State.commitBlock
  dsimp only
  refine .onSlot h fun h => ?_
  refine .iteFst ?_ ?_
  · split
    · exact h
    · exact h
    · exact .iteFst h h.setXfer
    · exact .iteFst h (.iteFst h (.iteFst h.setXfer h.setXfer))
  · refine .iteFst ?_ h
    split
    · exact h
    · exact h

theorem State.Formed.takeBody {slot : Nat} {body : List Byte} (h : s.Formed) : (s.takeBody slot body).Formed :=
  .ite h.endSlot (.ite h.endSlot (.ite h.refuseStart.setXfer.event (.ite h.setXfer.startImage (.ite
    h.setXfer.startSave (.ite h.relay.endSlot (.ite h.setTwin.emitBlob (.ite (.placeAtLatch (.ite h.splitWrite h))
    (.endSlot (.installBody (.ite h.splitWrite h))))))))))

theorem State.Formed.verifySlot {slot : Nat} (h : s.Formed) : (s.verifySlot slot).Formed :=
  .ite (.ite h.setXfer.event (.ite h.checkBody.takeBody h.checkBody.endSlot)) h

theorem State.Formed.abortBlock {rq : Requester} {p slot : Nat} {sameClock : Bool} (h : s.Formed) :
    (s.abortBlock rq p slot sameClock).1.Formed :=
  h.onSlot fun h => .iteFst h (.iteFst h (.iteFst h.abortImage.freeSlot (.iteFst h.abortSave.freeSlot h.freeSlot)))

theorem State.Formed.readBlock {rq : Requester} {p off len : Nat} (h : s.Formed) :
    (s.readBlock rq p off len).1.Formed := by
  unfold State.readBlock
  split
  · exact h.violate
  · exact .iteFst h.violate (.iteFst h h)

theorem State.Formed.idleSlot {slot : Nat} (h : s.Formed) : (s.idleSlot slot).Formed := .ite h h.log.freeSlot

theorem State.Formed.abandonSlots {session : Nat} (h : s.Formed) : (s.abandonSlots session).Formed :=
  h.foldl fun h => .ite h.freeSlot h

theorem State.Formed.serveOp {rq : Requester} {op : State → OpResult} (h : s.Formed)
    (hop : ∀ {t : State}, t.Formed → (op t).1.Formed) :
    (s.serveOp rq op).Formed :=
  .ite h (h.serve (fun h => (hop h).answerOne))

/-! ### Bt -/

theorem State.Formed.setBt {c : Nat} {b : BtPort} (h : s.Formed) : (s.setBt c b).Formed := h.setCore

theorem State.Formed.startBt {c : Fin 4} {regs : BtPort → BtPort} {op : State → State × Byte} (h : s.Formed)
    (hop : ∀ {t : State}, t.Formed → (op t).1.Formed) :
    (s.startBt c regs op).Formed :=
  .ite h (.ite h.setBt (hop (h.setBt)).setBt)

theorem State.Formed.strayBt (h : s.Formed) : s.strayBt.1.Formed := h.free

theorem State.Formed.copyBt {a n d : Nat} {toDram : Bool} (h : s.Formed) : (s.copyBt a n d toDram).1.Formed :=
  .iteFst (.ite h.setDram h.setSram) h.strayBt

theorem State.Formed.execBtOpen {core : Fin 4} {param : Half} {length : Word} (h : s.Formed) :
    FormedNext (execBtOpen core param length s) := by
  unfold Machine.execBtOpen
  dsimp only
  refine .done ?_
  refine .startBt h fun h => ?_
  split
  · exact h.openBlock.setBt
  · exact h.openBlock

theorem State.Formed.execBtData {core : Fin 4} {param : Half} {slot : BitVec 4} {sram length offset : Word}
    (h : s.Formed) :
    FormedNext (execBtData core param slot sram length offset s) := by
  unfold Machine.execBtData
  dsimp only
  exact (h.startBt fun h => .iteFst h.dataBlock h.strayBt).done

theorem State.Formed.execBtCommit {core : Fin 4} {param : Half} {slot : BitVec 4} {digest : Word} (h : s.Formed) :
    FormedNext (execBtCommit core param slot digest s) := by
  unfold Machine.execBtCommit
  dsimp only
  exact (h.startBt fun h => .iteFst h.commitBlock h.strayBt).done

theorem State.Formed.execBtAbort {core : Fin 4} {param : Half} {slot : BitVec 4} {sameClock : Bool} (h : s.Formed) :
    FormedNext (execBtAbort core param slot sameClock s) := by
  unfold Machine.execBtAbort
  dsimp only
  exact (h.startBt fun h => h.abortBlock).done

/-! ### CueRun -/

theorem State.Formed.cueStore {via : Via} {k high : Nat} {w : Wide} (h : s.Formed) :
    (s.cueStore via k high w).Formed := by
  unfold State.cueStore
  dsimp only
  split
  · exact h.writeOp
  · exact h.writeOp.when fun h => h.endRamps

theorem State.Formed.runActions {rq : Requester} {level k : Nat} {tag : T32} : ∀ {ws : List Wide}
    {highs : List (Nat × Nat × Nat)} {s : State}, s.Formed → (s.runActions rq level k tag highs ws).Formed
  | [], _, _, h => h
  | _ :: ws, _, s, h => by
    unfold State.runActions
    dsimp only
    split
    · exact h.cueStore.runActions
    · exact h.runActions
    · refine State.Formed.runActions (ws := ws) ?_
      split
      · exact h.startRamp
      · exact h
    · exact h.runActions
    · exact h.postOp.runActions

theorem State.Formed.runCue {c : KernelCue} {k : Nat} (h : s.Formed) : (s.runCue c k).Formed := by
  unfold State.runCue
  dsimp only
  split
  · exact h.count.log
  · exact h.runActions.when fun h => h.emit

theorem State.Formed.dropKernelCue {c : KernelCue} (h : s.Formed) : (s.dropKernelCue c).Formed := h.same

theorem State.Formed.executeCue (h : s.Formed) : s.executeCue.Formed := by
  unfold State.executeCue
  dsimp only
  split
  · exact h
  · exact .ite (h.dropKernelCue.unless fun h => h.count).runCue h.dropKernelCue.runCue

theorem State.Formed.stepRamp {r : Ramp} {k : Nat} (h : s.Formed) : (s.stepRamp r k).Formed := by
  unfold State.stepRamp
  split
  · exact h.writeOp
  · exact h.writeOp

theorem State.Formed.stepRamps {k : Nat} (h : s.Formed) : (s.stepRamps k).Formed := h.same.foldl fun h => h.stepRamp

/-! ### Sessions -/

theorem State.Formed.openSession {rq : Requester} {level : Nat} {host : BitVec 128} (h : s.Formed) :
    (s.openSession rq level host).1.Formed := by
  unfold State.openSession
  dsimp only
  refine .iteFst h ?_
  refine .iteFst h ?_
  refine .iteFst h ?_
  split
  · exact h
  · exact h
  · exact h.same.setSession

theorem State.Formed.dropLifeRequest {n : Nat} (h : s.Formed) : (s.dropLifeRequest n).Formed := by
  unfold State.dropLifeRequest
  dsimp only
  split
  · exact h
  · exact .ite h.same h
  · exact h

theorem State.Formed.endSession {n : Nat} (h : s.Formed) : (s.endSession n).Formed :=
  .ite h (h.abandonSlots.clearMarks.dropLifeRequest.foldl fun h => .ite h.setSub h).setSession

theorem State.Formed.failProof {level session : Nat} (h : s.Formed) : (s.failProof level session).Formed :=
  .ite h.count.log.same.event h.count.log.same

theorem State.Formed.proveSession {rq : Requester} {proof : List Byte} {transaction : Word} (h : s.Formed) :
    (s.proveSession rq proof transaction).1.Formed :=
  .iteFst h (.iteFst h (.iteFst h.setSession h.failProof.endSession.pair))

theorem State.Formed.closeSession {rq : Requester} (h : s.Formed) : (s.closeSession rq).1.Formed :=
  .iteFst h h.endSession

theorem State.Formed.subscribe {rq : Requester} {mask : Word} {udp lease : Half} (h : s.Formed) :
    (s.subscribe rq mask udp lease).1.Formed := by
  unfold State.subscribe
  dsimp only
  split
  · refine .iteFst h ?_
    split
    · exact h.setSub
    · split
      · exact h
      · exact h.setSub
  · exact h

theorem State.Formed.unsubscribe {rq : Requester} {number : Nat} (h : s.Formed) :
    (s.unsubscribe rq number).1.Formed :=
  .iteFst h.setSub h

theorem State.Formed.sendWdp {p : Nat} {mac : BitVec 48} {addr : BitVec 128} {udp : Half} {bytes : List Byte}
    (h : s.Formed) :
    (s.sendWdp p mac addr udp bytes).Formed :=
  h.sendGeneral

theorem State.Formed.sendEvents {n : Nat} (h : s.Formed) : (s.sendEvents n).Formed := .ite h.setSub.sendWdp h

/-! ### Wdp -/

theorem State.Formed.logMalformed {addr : BitVec 128} {aux : Nat} (h : s.Formed) :
    (s.logMalformed addr aux).Formed :=
  .ite h.same h.same.log

theorem State.Formed.malformed {addr : BitVec 128} (h : s.Formed) : (s.malformed addr).1.Formed :=
  h.count.same.logMalformed

theorem State.Formed.sized {x : WdpOp} {n : Nat} {op : State → OpResult} (h : s.Formed)
    (hop : ∀ {t : State}, t.Formed → (op t).1.Formed) :
    (WdpOp.sized x n s op).1.Formed :=
  .iteFst (hop h) h

theorem State.Formed.plainRead {rq : Requester} {x : WdpOp} {op : State → OpResult} (h : s.Formed)
    (hop : ∀ {t : State}, t.Formed → (op t).1.Formed) :
    (s.plainRead rq x op).1.Formed := by
  unfold State.plainRead
  split
  · exact hop h
  · exact .iteFst h (hop h)

theorem State.Formed.runOp {rq : Requester} {transaction : Word} {x : WdpOp} (h : s.Formed) :
    (s.runOp rq transaction x).1.Formed := by
  unfold State.runOp
  dsimp only
  split
  · exact h.plainRead fun h => h.readOp
  · exact h.writeOp
  · exact h.plainRead fun h => h.infoOp
  · exact h.sized fun h => h.openSession
  · exact h.sized fun h => h.proveSession
  · exact h.sized fun h => h.closeSession
  · exact h.sized fun h => h.openBlock
  · exact .iteFst h h.dataBlock
  · exact h.sized fun h => h.commitBlock
  · exact h.sized fun h => h.abortBlock
  · exact h.sized fun h => h.readBlock
  · exact h.sized fun h => h.subscribe
  · exact h.sized fun h => h.unsubscribe
  · exact h.count.logMalformed

theorem State.Formed.runOps {rq : Requester} {transaction : Word} {limit : Nat} : ∀ {xs : List WdpOp} {size : Nat}
    {s : State}, s.Formed → (s.runOps rq transaction limit size xs).1.Formed
  | [], _, _, h => h
  | _ :: xs, _, _, h => State.Formed.runOps (xs := xs) h.runOp

theorem State.Formed.executeOps {rq : Requester} {transaction : Word} {limit : Nat} {ops : List WdpOp}
    (h : s.Formed) :
    (s.executeOps rq transaction limit ops).1.Formed :=
  h.arbitrate.traffic.runOps.endCueRequest.when fun h => h.setSession

theorem State.Formed.opening {rq : Requester} {transaction : Word} {tagged : Bool} {ops : List WdpOp} (h : s.Formed) :
    (s.opening rq transaction tagged ops).1.Formed := by
  unfold State.opening
  dsimp only
  split
  · exact .iteFst h.traffic.proveSession h
  · exact h

theorem State.Formed.request {path : Sys2Proof.Path} {mac : BitVec 48} {addr : BitVec 128} {udp : Half}
    {limit : Nat} {m : List Byte} (h : s.Formed) :
    (s.request path mac addr udp limit m).1.Formed := by
  unfold State.request
  dsimp only
  refine .iteFst h.malformed ?_
  refine .iteFst h ?_
  refine .iteFst h.malformed ?_
  refine .iteFst h ?_
  refine .iteFst h ?_
  refine .iteFst h ?_
  refine .iteFst h ?_
  split
  · exact h.malformed
  · exact .iteFst h.opening h.executeOps

theorem State.Formed.datagram {p : Fin 4} {mac : BitVec 48} {src : BitVec 128} {srcPort : Half}
    {unicast fragment : Bool} {data : List Byte} (h : s.Formed) :
    (s.datagram p mac src srcPort unicast fragment data).Formed := by
  unfold State.datagram
  dsimp only
  refine .ite h.count ?_
  split
  · exact h.request.sendWdp
  · exact h.request

theorem State.Formed.bosunRequest {bytes : List Byte} (h : s.Formed) : (s.bosunRequest bytes).Formed :=
  .same (.iteFst h.same (.iteFst h.same.count h.same.request))

theorem State.Formed.stayEvent {p : Nat} {head : PtpHead} {stamp : T32} {frac : Byte} (h : s.Formed) :
    (s.stayEvent p head stamp frac).Formed :=
  .ite h (.ite (h.pushIngress.when fun h => h.setIngressQ.sendPriority) h.stampUnused)

theorem State.Formed.throughRx {p len : Nat} {take : State → State} (h : s.Formed)
    (htake : ∀ {t : State}, t.Formed → (take t).Formed) :
    (s.throughRx p len take).Formed :=
  .ite h.count (htake h)

theorem State.Formed.countFec {p : Nat} {f : RxFrame} (h : s.Formed) : (s.countFec p f).Formed :=
  .ite (.unless (.ite h h.countBy) fun h => h.countBy) h

theorem State.Formed.receiveStay {p : Fin 4} {f : RxFrame} (h : s.Formed) : (s.receiveStay p f).Formed := by
  unfold State.receiveStay
  dsimp only
  refine .ite h ?_
  split
  · exact h.countFec.count
  · refine .ite h.countFec ?_
    split
    · exact h.countFec.traffic.traffic.stayEvent
    · exact h.countFec.traffic.traffic
    · exact h.countFec.traffic.traffic.throughRx fun h => h
    · exact h.countFec.traffic.traffic.throughRx fun h => h
    · exact h.countFec.traffic.traffic.throughRx fun h => h.datagram
    · exact h.countFec.traffic.traffic.holdRx
    · exact h.countFec.traffic.traffic.throughRx fun h => h.sendGeneral
    · exact h.countFec.traffic.traffic.throughRx fun h => h.foldl fun h => h.sendGeneral
    · exact h.countFec.traffic.traffic.throughRx fun h => h.count

/-! ### Ready -/

theorem State.Formed.applyBody {r : Row} {b : List Byte} (h : s.Formed) : (s.applyBody r b).1.Formed :=
  .iteFst h (.iteFst h (.iteFst h.checkBody.installBody h.checkBody))

theorem State.Formed.applyRecord {x : SettingsRecord} (h : s.Formed) : (s.applyRecord x).1.Formed := by
  unfold State.applyRecord
  dsimp only
  split
  · exact h
  · refine .iteFst h ?_
    split
    · exact h.applyBody
    · exact h.writeOp
    · exact h.writeOp

theorem State.Formed.applyRecords : ∀ {l : List SettingsRecord} {s : State}, s.Formed → (s.applyRecords l).1.Formed
  | [], _, h => h
  | _ :: l, _, h => State.Formed.applyRecords (l := l) h.applyRecord

theorem State.Formed.settleContent (h : s.Formed) : s.settleContent.Formed := (h.foldl fun h => h.putLive).same

theorem State.Formed.applySettings (h : s.Formed) : s.applySettings.Formed := by
  unfold State.applySettings
  dsimp only
  split
  · exact h.setFld.setFld
  · exact .ite h.setFld.setFld h.applyRecords.settleContent.setFld.setFld

theorem State.Formed.logReady (h : s.Formed) : s.logReady.Formed :=
  .unless ((h.foldl fun h => h.log).when fun h => h.log) fun h => h.log

theorem State.Formed.startHealth (h : s.Formed) : s.startHealth.Formed := by
  unfold State.startHealth
  dsimp only
  split
  · exact .ite h.setUpdate h
  · exact h

theorem State.Formed.reachReady (h : s.Formed) : s.reachReady.Formed :=
  h.same.wr.setWatchdog.logReady.startHealth.startRunEngines.place

theorem State.Formed.beginEntry {t : Nat} (h : s.Formed) : (s.beginEntry t).Formed :=
  h.setBit.setFld.same.setWatchdog.setWakeLatch.setSleep.announceStop

theorem State.Formed.waitInstr {c : Nat} (h : s.Formed) : (s.waitInstr c).Formed :=
  .ite h (.ite h.setCore.beginEntry (.ite h h.setCore.settleLuff))

theorem State.Formed.abortActivities (h : s.Formed) : s.abortActivities.Formed :=
  .endWriting (.abortImage (.abortSave (.abortExport (.abortScrub (.dropTrim (.ite h h.abortCable))))))

theorem State.Formed.passPoint1 (h : s.Formed) : s.passPoint1.Formed :=
  h.discardShow.darkenLamp.setGrid.abortActivities

theorem State.Formed.passPoint2 {target : Nat} (h : s.Formed) : (s.passPoint2 target).Formed :=
  .when (.setInLock (.clearKite ((h.foldl fun h => h.stayDown.setStayPort).foldl (fun h => h.setPort.when fun h =>
    h.setBit.setBit)))) fun h => h.setTimeState

theorem State.Formed.passPoint3 {target : Nat} (h : s.Formed) : (s.passPoint3 target).Formed :=
  h.same.foldl fun h => h.setLock

theorem State.Formed.undoEntry (h : s.Formed) : s.undoEntry.Formed := (h.foldl fun h => h.wakeLpi).resumeShow

theorem State.Formed.reachPoint {n : Nat} (h : s.Formed) : (s.reachPoint n).Formed := by
  unfold State.reachPoint
  dsimp only
  split
  · exact .ite (.ite (.releaseFirings (.undoEntry (.abandonEntry (.ite h.passPoint1 (.ite h.passPoint2 (.ite
      h.passPoint3 h)))))) (.setSleep (.ite h.passPoint1 (.ite h.passPoint2 (.ite h.passPoint3 h))))) h
  · exact h

theorem State.Formed.serveHeld (h : s.Formed) : s.serveHeld.Formed := by
  unfold State.serveHeld
  dsimp only
  split
  · exact h.same.bosunRequest
  · exact h.same

theorem State.Formed.wake (h : s.Formed) : s.wake.Formed := by
  unfold State.wake
  dsimp only
  split
  · exact h.completeWake.undoEntry.same.startRunEngines.releaseFirings.serveHeld
  · exact h

/-! ### Mirror -/

theorem State.Formed.mirrorStore {r : MirrorRecord} {frame : Option Nat} (h : s.Formed) :
    (s.mirrorStore r frame).Formed := by
  unfold State.mirrorStore
  split
  · exact h
  · exact .ite h.writeOp h

theorem State.Formed.resyncStore {r : MirrorRecord} (h : s.Formed) : (s.resyncStore r).Formed := by
  unfold State.resyncStore
  dsimp only
  split
  · exact h
  · exact .ite h (.ite (h.wr.unless fun h => .ite h.startVideo h.startCascade) (.ite h.wr h.writeElement))

theorem State.Formed.takeAdmit {r : MirrorRecord} (h : s.Formed) : (s.takeAdmit r).Formed :=
  .unless (.ite h.setTwin h) fun h => .ite h.count.goStale h.enqueueCue.traffic.same

theorem State.Formed.takeBlobData {r : MirrorRecord} (h : s.Formed) : (s.takeBlobData r).Formed := h.setTwin

theorem State.Formed.takeBlobEnd {r : MirrorRecord} (h : s.Formed) : (s.takeBlobEnd r).Formed := h.setTwin

theorem State.Formed.takeBlobLive {r : MirrorRecord} (h : s.Formed) : (s.takeBlobLive r).Formed := by
  unfold State.takeBlobLive
  dsimp only
  split
  · exact h
  · exact h.setTwin.same

theorem State.Formed.takeTime {r : MirrorRecord} (h : s.Formed) : (s.takeTime r).Formed :=
  .unless (.ite h h.wr.checkEra) fun h => h.wr.wr.wr.wr.seedGrid

theorem State.Formed.beginResync (h : s.Formed) : s.beginResync.Formed := h.setMirrorState.setTwin

theorem State.Formed.endResync {k : Nat} (h : s.Formed) : (s.endResync k).Formed :=
  h.same.setRender.showPending.setTwin

theorem State.Formed.retimed {r : MirrorRecord} (h : s.Formed) : (s.retimed r).1.Formed := by
  unfold State.retimed
  split
  · exact .iteFst h.count h
  · exact h

theorem State.Formed.actRecord {q : Word} {r : MirrorRecord} (h : s.Formed) : (s.actRecord q r).Formed := by
  unfold State.actRecord
  dsimp only
  split
  · exact .ite h.retimed.setTwin (.ite h.retimed.resyncStore h.retimed.mirrorStore)
  · exact h.retimed.takeAdmit
  · exact h.retimed.setTwin
  · exact h.retimed.takeBlobData
  · exact h.retimed.takeBlobEnd
  · exact h.retimed.takeBlobLive
  · exact h.retimed.takeTime
  · exact h.retimed.beginResync
  · exact h.retimed.when fun h => h.endResync
  · exact h.retimed.setTwin
  · exact h.retimed

theorem State.Formed.takeRecords : ∀ {l : List (Word × MirrorRecord)} {s : State}, s.Formed →
    (s.takeRecords l).Formed
  | [], _, h => h
  | _ :: l, _, h => .ite (State.Formed.takeRecords (l := l) h.setTwin.traffic.actRecord)
      (.ite (State.Formed.takeRecords (l := l) h) h)

theorem State.Formed.commitLive {slot : Nat} (h : s.Formed) : (s.commitLive slot).Formed :=
  .ite h.emit.setTwin.placeAtLatch h.setTwin

theorem State.Formed.liveCommits (h : s.Formed) : s.liveCommits.Formed := .ite (h.foldl fun h => h.commitLive) h

theorem State.Formed.commitMismatch {slot stage : Nat} (h : s.Formed) : (s.commitMismatch slot stage).Formed :=
  .ite h.setTwin.emitBlob h.setTwin.placeAtLatch

theorem State.Formed.takeBlobAck {r : MirrorRecord} (h : s.Formed) : (s.takeBlobAck r).Formed := by
  unfold State.takeBlobAck
  dsimp only
  split
  · exact h
  · refine .ite (h.setTwin.when fun h => h.emitBlob) ?_
    split
    · exact h.setTwin
    · exact .ite h.setTwin.commitMismatch h.setTwin.commitLive

theorem State.Formed.takeAnswers : ∀ {l : List (Word × MirrorRecord)} {s : State}, s.Formed →
    (s.takeAnswers l).Formed
  | [], _, h => h
  | _ :: l, _, h => .ite (State.Formed.takeAnswers (l := l) (.ite h.setTwin.traffic.takeBlobAck h.setTwin.traffic)) h

theorem State.Formed.takeAck {ack : Word} (h : s.Formed) : (s.takeAck ack).Formed := h.setTwin

theorem State.Formed.bothActive {h : PennantHead} {run : Nat} (hs : s.Formed) : (s.bothActive h run).Formed :=
  .when (.setTwin (.setBit (.ite hs hs.count.setTwin))) fun h => h.roleAt

theorem State.Formed.dropCommits (h : s.Formed) : s.dropCommits.Formed := h.foldl fun h => h.setTwin.placeAtLatch

theorem State.Formed.watchStandby {h : PennantHead} {wasStale : Bool} (hs : s.Formed) :
    (s.watchStandby h wasStale).Formed :=
  .ite hs.setTwin (.ite (.ite hs.dropCommits.startResync hs) (.ite hs.setTwin hs))

theorem State.Formed.judgePartner {h : PennantHead} {run : Nat} {wasStale : Bool} (hs : s.Formed) :
    (s.judgePartner h run wasStale).Formed := by
  unfold State.judgePartner
  split
  · refine .ite hs ?_
    split
    · exact hs.becomeStale
    · exact hs.becomeStale
    · exact .ite hs.becomeStale hs.roleAt
    · exact hs
  · exact .ite hs.bothActive hs.clearDual.watchStandby
  · exact hs

theorem State.Formed.compareHash {h : PennantHead} (hs : s.Formed) : (s.compareHash h).Formed :=
  .ite (hs.count.unless fun h => h.log.setTwin) hs

theorem State.Formed.adoptEpoch {e : BitVec 7} (h : s.Formed) : (s.adoptEpoch e).Formed := by
  unfold State.adoptEpoch
  dsimp only
  split
  · exact h.noteEpoch.setRole
  · exact h.noteEpoch.setRole
  · exact h.noteEpoch

theorem State.Formed.hearPartner {path : Nat} {h : PennantHead} (hs : s.Formed) : (s.hearPartner path h).Formed :=
  hs.traffic.pathHeard.setFld.setFld.adoptEpoch.unless fun h => h.setTwin.judgePartner.holdMirror.unless (fun h =>
    h.compareHash)

theorem State.Formed.takePennant {path : Nat} {h : PennantHead} (hs : s.Formed) : (s.takePennant path h).Formed :=
  .ite hs.strapConflict hs.hearPartner

theorem State.Formed.takeMirror {h : PennantHead} {rs : List MirrorRecord} (hs : s.Formed) :
    (s.takeMirror h rs).Formed :=
  .ite hs (.ite hs (.ite hs.takeAck.takeAnswers hs.takeAck.takeRecords))

theorem State.Formed.takeBurst {bytes : List Byte} (h : s.Formed) : (s.takeBurst bytes).Formed := by
  unfold State.takeBurst
  dsimp only
  refine .ite h.count ?_
  split
  · exact h
  · exact h.takePennant.takeMirror

theorem State.Formed.takeStayPennant {bytes : List Byte} (h : s.Formed) : (s.takeStayPennant bytes).Formed := by
  unfold State.takeStayPennant
  dsimp only
  refine .ite h.count ?_
  split
  · exact h
  · exact h.takePennant.takeMirror

theorem State.Formed.bodyGood {b : MirrorBody} (h : s.Formed) : (s.bodyGood b).Formed := by
  unfold State.bodyGood
  dsimp only
  split
  · exact .ite h.setTwin.setBlob h.setTwin.setTwin
  · exact h.setTwin

theorem State.Formed.bodyBad {b : MirrorBody} (h : s.Formed) : (s.bodyBad b).Formed := .ite h.goStale h.setTwin

theorem State.Formed.verifyMirror {p : Nat} (h : s.Formed) : (s.verifyMirror p).Formed := by
  unfold State.verifyMirror
  dsimp only
  split
  · exact h
  · exact .emit (.ite h.setTwin.bodyGood h.setTwin.bodyBad)

/-! ### Latch -/

theorem State.Formed.latchHandOver {k : Nat} (h : s.Formed) : (s.latchHandOver k).Formed := by
  unfold State.latchHandOver
  dsimp only
  split
  · exact h
  · refine .ite h ?_
    split
    · exact h.becomeActive
    · exact h.handOverTo
    · exact h.setTwin

theorem State.Formed.latchRole (h : s.Formed) : s.latchRole.Formed := by
  unfold State.latchRole
  dsimp only
  split
  · exact h
  · split
    · exact h.setTwin.takeRole
    · exact h.setTwin.takeRole
    · exact h.setTwin

theorem State.Formed.latchControl (h : s.Formed) : s.latchControl.Formed := by
  unfold State.latchControl
  split
  · exact h
  · exact h.applyTwinControl

theorem State.Formed.finishResync (h : s.Formed) : s.finishResync.Formed :=
  (h.foldl fun h => h.installBody).same.setTwin.setMirrorState.holdMirror

theorem State.Formed.latchResync {k : Nat} (h : s.Formed) : (s.latchResync k).Formed := by
  unfold State.latchResync
  split
  · exact h
  · exact .ite h h.finishResync

theorem State.Formed.latchOutput (h : s.Formed) : s.latchOutput.Formed := .ite h.setOutput h

theorem State.Formed.latchTwin {k : Nat} (h : s.Formed) : (s.latchTwin k).Formed :=
  h.latchControl.latchHandOver.latchRole.latchResync.latchOutput

theorem State.Formed.applyGroups {k : Nat} : ∀ {l group kept : List MirrorRecord} {s : State}, s.Formed →
    (s.applyGroups k group kept l).Formed
  | [], _, _, _, h => h.setTwin
  | _ :: l, _, _, _, h => .ite (State.Formed.applyGroups (l := l) h)
      (.ite (State.Formed.applyGroups (l := l) (h.foldl fun h => h.mirrorStore).cueDone)
        (State.Formed.applyGroups (l := l) h))

theorem State.Formed.applyContent {k : Nat} (h : s.Formed) : (s.applyContent k).Formed :=
  h.same.foldl fun h => h.putLive

theorem State.Formed.latchBody {w : BlobWrite} (h : s.Formed) : (s.latchBody w).Formed := by
  unfold State.latchBody
  dsimp only
  split
  · exact h.installBody
  · exact h.installBody.setXfer

theorem State.Formed.applyBodies {k : Nat} (h : s.Formed) : (s.applyBodies k).Formed :=
  h.same.foldl fun h => h.latchBody

theorem State.Formed.selectAll {k : Nat} (h : s.Formed) : (s.selectAll k).Formed :=
  h.foldl fun h => h.selectVideo.selectCascade

theorem State.Formed.showLayers (h : s.Formed) : s.showLayers.Formed := h.foldl fun h => h.showLayer

theorem State.Formed.keepContext {t : State} {k : Nat} (h : s.Formed) : (s.keepContext t k).Formed := h.same

theorem State.Formed.advanceGrid {k : Nat} (h : s.Formed) : (s.advanceGrid k).Formed :=
  .wr (.setGrid (.ite h h.countBy))

theorem State.Formed.closeRunning (h : s.Formed) : s.closeRunning.Formed := by
  unfold State.closeRunning
  split
  · exact h
  · exact h.closeCycle

theorem State.Formed.fixContent {k : Nat} (h : s.Formed) : (s.fixContent k).Formed :=
  h.applyGroups.stepRamps.applyContent.applyBodies.applyCommits.selectAll.mergeAtLatch.showLayers

theorem State.Formed.latchFrame {k : Nat} (h : s.Formed) : (s.latchFrame k).Formed :=
  h.closeRunning.latchTwin.liveCommits.fixContent.keepContext.setRender.advanceGrid.kiteAtLatch

theorem State.Formed.latchNow (h : s.Formed) : s.latchNow.Formed := .ite h.latchFrame h

theorem State.Formed.actUnit {dest : Nat} (h : s.Formed) : (s.actUnit dest).Formed := by
  unfold State.actUnit
  dsimp only
  refine .ite h ?_
  split
  · exact h.same.gridBoundary
  · exact h.same.latchNow
  · exact h.same.startCycle
  · exact h.same.openWindow
  · exact h.same.sendAnchor
  · exact h.same.heartbeat
  · exact h.same

theorem State.Formed.driveUnits (h : s.Formed) : s.driveUnits.Formed := h.same.foldl fun h => h.actUnit

theorem State.Formed.idle (h : s.Formed) : s.idle.Formed := h.tick.driveUnits

/-! ### Dispatch -/

/-- Every command leads from a state in form to a state in form. -/
theorem State.Formed.exec {i : Instr} (h : s.Formed) : FormedNext (Machine.exec i s) := by
  cases i with
  | powerOn => exact State.Formed.reset.same.done
  | brownout _ => exact .ite h.done h.resetBy.raise.done
  | resetPin => exact .ite h.done h.resetBy.done
  | watchdogExpiry => exact .ite h.resetBy.done h.done
  | watchdogService _ _ => exact h.serveOne.done
  | clockFault _ => exact .ite h.resetBy.done h.done
  | pllLossOfLock _ => exact .ite (.ite (h.setLock.count.log.foldl fun h => h.stayDown).done
      h.setLock.count.log.done) h.done
  | pllRelockAttempt _ _ => exact .ite (h.setLock.foldl fun h => h.servePort).done h.done
  | resetRequest _ _ => exact h.serveOne.done
  | commandedReset => exact .ite h.resetBy.done h.done
  | lifeCycleRequest _ _ => exact h.serveOne.done
  | lifeCycleConfirm _ _ => exact h.serveOne.done
  | lifeCycleConfirmTimeout => exact h.same.done
  | fuseProgrammingDone => exact h.execFuseProgrammingDone
  | resetRelease _ => exact .ite (.ite h.done (.ite h.same.wr.same.done h.same.wr.same.setCore.done)) h.done
  | sramWipeDone => exact h.execSramWipeDone
  | dramTrained => exact .ite h.setBoot.done h.done
  | imageVerify => exact .ite (.ite h.chooseSlot.setBoot.done h.chooseSlot.setBoot.enterRecovery.done) h.done
  | dramWipeDone => exact h.execDramWipeDone
  | bootHandover => exact .ite (h.foldl fun h => h.setCore).same.setBoot.done h.done
  | settingsApply => exact .ite h.applySettings.setBoot.done h.done
  | deviceReady => exact .ite h.reachReady.done h.done
  | retiredEraseDone => exact .ite h.same.done h.done
  | powerStateRequest _ _ => exact h.serveOne.done
  | waitForInterrupt _ => exact h.waitInstr.done
  | luffWake => exact .ite (h.leaveLuff.foldl fun h => h.setCore).done h.done
  | abortPoint _ => exact h.reachPoint.done
  | retentionHandshake => exact h.handshake.done
  | wakePin => exact h.wakeEvent.done
  | rtcAlarm => exact h.raiseAlarm.done
  | bosunAddressMatch => exact h.addressMatch.done
  | wakeComplete => exact h.wake.done
  | struckWake => exact .ite h.fullReset.done h.done
  | read _ _ _ _ => exact h.execRead
  | write _ _ _ _ _ => exact (h.serveWrite.unless fun h => h.endCueRequest).done
  | readInfo _ _ _ _ => exact .ite h.done (h.serve fun h => h.infoOp.answerOne).done
  | sessionOpen _ _ _ => exact (h.serveOp fun h => h.openSession).done
  | sessionProve _ _ _ => exact .ite h.done h.proveSession.answer.done
  | sessionClose _ => exact .ite h.done (h.serveOp fun h => h.closeSession).done
  | sessionProveTimeout _ => exact .ite h.endSession.done h.done
  | sessionIdleTimeout _ => exact .ite h.endSession.done h.done
  | unlockLockoutEnd => exact h.same.done
  | blockOpen _ _ _ => exact (h.serveOp fun h => h.openBlock).done
  | blockData _ _ _ _ _ => exact (h.serveOp fun h => h.dataBlock).done
  | blockCommit _ _ _ _ => exact (h.serveOp fun h => h.commitBlock).done
  | blockCommitVerified _ => exact h.verifySlot.done
  | blockAbort _ _ _ _ => exact (h.serveOp fun h => h.abortBlock).done
  | blockRead _ _ _ _ => exact (h.serveOp fun h => h.readBlock).done
  | blockSlotIdleTimeout _ => exact h.idleSlot.done
  | subscribe _ _ _ _ => exact (h.serveOp fun h => h.subscribe).done
  | unsubscribe _ _ => exact (h.serveOp fun h => h.unsubscribe).done
  | subscriptionLeaseExpiry _ => exact h.setSub.done
  | eventMessageSend _ => exact h.sendEvents.done
  | bosunRead _ => exact .ite h.same.answer.done h.done
  | registerWrite _ _ _ _ => exact (h.serveValue.unless fun h => h.endCueRequest).done
  | counterClear _ _ _ _ => exact h.serveValue.done
  | timeNowRead _ => exact h.execTimeNowRead
  | tnsWrap => exact .ite h.advance.done h.done
  | timeConfigWrite _ _ _ => exact h.serveOne.done
  | syncReceived _ _ => exact h.takeSync.done
  | followUpReceived _ _ => exact h.takeFollowUp.done
  | delayRespReceived _ _ => exact h.takeDelayResp.done
  | delayReqInterval _ _ _ => exact h.sendDelayReq.done
  | announceReceived _ _ => exact h.takeAnnounce.done
  | syncTimeout => exact h.loseTime.done
  | announceReceiptTimeout _ => exact (h.setStayPtp.when fun h => h.loseTime).runBmca.done
  | stepDoneClear _ => exact h.serveOne.done
  | gridSeed _ _ => exact h.serveOne.done
  | gridBoundary => exact (h.ownCommand fun h => h.gridBoundary).done
  | latch => exact (h.ownCommand fun h => h.latchNow).done
  | canvasCycleStart => exact (h.ownCommand fun h => h.startCycle).done
  | bandDone _ => exact h.finishBand.done
  | triggerFire _ _ _ => exact .ite h.fireTrigger.driveUnits.done h.done
  | triggerTargetWrite _ _ _ _ => exact h.serveOne.done
  | ptpSyncInterval _ _ _ => exact h.sendShroudSync.done
  | pdelayInterval _ _ _ => exact h.sendPdelay.done
  | pdelayReqReceived _ _ _ _ _ _ => exact h.takePdelayReq.done
  | pdelayRespReceived _ _ => exact h.takePdelayResp.done
  | stayFrameReceived _ _ => exact h.receiveStay.done
  | moduleInserted _ => exact .ite h.setBit.done h.done
  | moduleIdRead _ _ => exact .ite h.setBlob.done h.done
  | moduleRemoved _ => exact .ite h.setBit.stayDown.done h.done
  | txFaultRise _ => exact .ite h.setBit.count.setStayPort.done h.done
  | txFaultRetry _ => exact .ite h.setStayPort.done h.done
  | txFaultCheck _ _ => exact .ite (.ite h.setStayPort.setBit.setBit.done h.setStayPort.setBit.done) h.done
  | stayLinkFault _ _ => exact .ite (.done (.stayDown (.ite h.setBit h))) h.done
  | stayLinkUp _ => exact .ite h.setBit.setBit.setBit.sendReports.stayServe.done h.done
  | rtpPacket _ _ _ => exact h.takeRtp.done
  | mergeHoldExpiry _ => exact h.expireHold.done
  | streamControlWrite _ _ _ => exact h.serveOne.done
  | sacnDataPacket _ _ => exact h.takeSacn.done
  | sacnSyncPacket _ _ => exact h.takeSacnSync.done
  | syncAddressIdle _ => exact h.same.releaseHeld.done
  | sacnSyncTimeout _ => exact h.execSacnSyncTimeout
  | sourceTimeout _ _ => exact h.execSourceTimeout
  | lossHoldExpiry _ => exact .ite h.setMerged.done h.done
  | cascadeFrame _ _ _ => exact .ite h.done h.releaseRx.receiveCascade.done
  | cueWrite _ _ _ => exact .done (.when (.ite h h.serveWrite) fun h => h.endCueRequest)
  | cueRead _ _ => exact h.execCueRead
  | cuePoll => exact h.execCuePoll
  | cueExecute => exact .ite h.executeCue.done h.done
  | layerCommit _ _ _ => exact h.serveOne.done
  | frameCommit _ _ _ => exact h.serveOne.done
  | projectionCommit _ _ => exact h.serveOne.done
  | sheetWindowOpen => exact (h.ownCommand fun h => h.openWindow).done
  | packPassDone => exact h.finishPack.done
  | sheetWindowClose _ => exact h.closeWindow.done
  | egressFrameDone _ => exact .ite h.portFrameDone.done h.stayFrameDone.done
  | sacnSyncSend _ => exact h.sendSync.done
  | lpiWakeLead _ => exact h.wakeLpi.done
  | shroudLinkUp _ _ => exact h.shroudTrain.done
  | shroudLinkDown _ => exact h.shroudDown.done
  | shroudFrameReceived _ _ _ _ _ => exact h.receiveShroud.done
  | expressFrame _ _ => exact h.takeExpress.done
  | expressIngressEnd _ _ => exact h.endExpress.done
  | snapshotTake _ _ => exact h.serveOne.done
  | snapshotDue => exact h.captureDue.done
  | snapshotCaptureDone => exact h.execSnapshotCaptureDone
  | cableTestStart _ _ => exact h.serveOne.done
  | cablePortTestDone _ _ => exact h.cablePortDone.done
  | cableTestAbort _ _ => exact h.serveAbort.done
  | pwmCycleStart _ => exact h.startPwm.done
  | rasterCommit _ _ => exact h.serveOne.done
  | loopBurstEnd _ => exact h.endBurst.done
  | loopCapture _ _ => exact h.serveOne.done
  | ntcStale => exact h.setMast.reportNtc.done
  | derateStep => exact .ite h.derateStep.done h.done
  | scanSupplyFault => exact .ite h.done (.ite h.setBit.log.done h.setBit.log.setMast.setBit.done)
  | scanSupplyRecovery => exact h.setBit.done
  | switchOvercurrent _ => exact .ite h.overcurrent.done h.done
  | engineStart _ _ _ => exact (h.serveOne.when fun h => h.stopEngines).done
  | engineStop _ _ => exact h.serveOne.done
  | showLossTimeout => exact .ite (h.setMast.foldl fun h => h.startEngine).done h.done
  | trimStart _ _ => exact h.serveOne.done
  | trimFirstAuto => exact .ite h.autoTrim.done h.done
  | trimSweepDone _ => exact h.sweepDone.done
  | trimDarkTimeout => exact h.execTrimDarkTimeout
  | trimAbort _ _ => exact h.serveAbort.done
  | trimCodeWrite _ _ _ _ => exact h.serveOne.done
  | kiteFrameReceived _ _ _ => exact h.receiveKite.done
  | kiteFrameOnAir => exact h.kiteSend.done
  | kiteAckTimeout => exact h.ackTimeout.done
  | kiteAnchor => exact (h.ownCommand fun h => h.sendAnchor).done
  | kiteListenWindow => exact h.openListen.done
  | keyEraEnd => exact .ite h.checkEra.done h.done
  | pennantBurstStart => exact (h.ownCommand fun h => h.heartbeat).done
  | pennantBurstReceived _ => exact .ite h.takeBurst.done h.done
  | stayPennantReceived _ _ => exact .ite h.done (.ite h.releaseRx.takeStayPennant.done h.releaseRx.done)
  | pathLoss _ => exact h.losePath.done
  | strapConflictClear => exact (h.setBit.when fun h => h.takeOver).done
  | mirrorResend => exact h.setTwin.done
  | joinWaitExpiry => exact .ite h.roleAt.done h.done
  | roleRequest _ _ => exact h.serveOne.done
  | twinControlWrite _ _ => exact h.serveOne.done
  | schedReady _ _ => exact (h.byCore fun h => h.makeReady.place).done
  | capstanEvent _ => exact h.fireEvent.done
  | schedCancel _ _ => exact (h.byCore fun h => h.cancelThread.place).done
  | schedAlloc _ => exact (h.byCore fun h => h.allocThread).done
  | schedFree _ _ => exact (h.byCore fun h => h.freeThread).done
  | schedNext _ => exact (h.byCore fun h => h.takeNext).done
  | schedYield _ => exact (h.byCore fun h => h.yieldCore.place).done
  | schedDone _ => exact (h.byCore fun h => h.doneCore.place).done
  | schedWait _ _ => exact (h.byCore fun h => h.waitCore.place).done
  | threadPriorityWrite _ _ _ _ => exact (h.byCore fun h => .ite h.storeWord0.place h.storeWordN).done
  | semaphoreTake _ _ => exact (h.byCore fun h => h.noteLoad.takeSemaphore).done
  | semaphoreRelease _ _ => exact (h.byCore fun h => h.releaseSemaphore).done
  | trap _ _ _ _ => exact (h.byCore fun h => h.takeTrap).done
  | environmentCall _ _ => exact (h.byCore fun h => h.setCore).done
  | btCopy _ _ _ _ _ _ => exact (h.startBt fun h => h.copyBt).done
  | btOpen _ _ _ => exact h.execBtOpen
  | btData _ _ _ _ _ _ => exact h.execBtData
  | btCommit _ _ _ _ => exact h.execBtCommit
  | btAbort _ _ _ _ => exact h.execBtAbort
  | btRead _ _ _ _ _ => exact (h.startBt fun h => .iteFst h.readBlock.setSram h.strayBt).done
  | btDone _ => exact .ite h.setBt.done h.done
  | bulkRoom _ => exact .ite h.done (h.same.when fun h => h.sendRelay).fireEvent.done
  | relayRequest _ _ => exact (h.access (fun h => .ite h.violate.answerOne (.ite h.answerOne h.relay.answerOne))).done
  | relayTimeout => exact .ite h.wr.done h.done
  | appletStart _ _ => exact h.serveOne.done
  | appletStop _ => exact h.serveOne.done
  | imageWriteDone _ => exact h.execImageWriteDone
  | healthConfirm _ _ => exact h.serveOne.done
  | healthTimerExpiry => exact h.execHealthTimerExpiry
  | floorRequest _ _ => exact h.serveOne.done
  | settingsSave _ => exact h.serveOne.done
  | settingsSaveAbort _ _ => exact h.serveAbort.done
  | settingsSaveDone _ => exact h.execSettingsSaveDone
  | troubleWrite _ _ _ _ _ _ => exact h.serveOne.serveOne.serveOne.done
  | logExport _ => exact h.serveOne.done
  | logExportDone => exact h.execLogExportDone
  | scrubStart _ _ => exact h.serveOne.done
  | scrubPeriodic => exact .ite h.done (.ite h.startScrub.done h.setTrouble.done)
  | scrubAbort _ _ => exact h.serveAbort.done
  | scrubDone _ _ => exact .ite h.done h.countBy.scrubLines.endScrub.done
  | maintenanceDeferredAdmit => exact .done (.when (.ite h.startTrim h) fun h => h.startScrub)
  | vaoLoss => exact State.Formed.reset.same.wr.done
  | bosunWriteTransfer _ => exact .ite h.bosunRequest.done (.ite h.same.done h.done)
  | stayMasterSyncInterval _ _ _ => exact h.sendStaySync.done
  | kiteChannelAccessFailure => exact h.execKiteChannelAccessFailure
  | mirrorBlobVerified _ => exact .ite h.verifyMirror.done h.done

/-- A step leads from a state in form to a state in form, on an empty queue and on one that holds a command. -/
theorem FormedNext.step (h : s.Formed) : FormedNext (Machine.step s) := by
  unfold Machine.step
  split
  · exact h.idle.done
  · exact h.same.exec

/-- Settles O60: what a step answers is made of operations that each keep the form (`FormedNext.step`). -/
theorem everyStepKeepsTheMemoryForm : Obligations.EveryStepKeepsTheMemoryForm := by
  unfold Obligations.EveryStepKeepsTheMemoryForm
  intro s t h ht
  exact FormedNext.step h t ht

end Sys2Proof.Machine
end

section
namespace Sys2Proof.Machine

/-! ### The comparison of T32 values (R9) -/

/-- A value is in the future when its modular distance ahead of the present lies in the lower half, 0 left out. -/
theorem future_iff (v n : T32) : future v n = true ↔ 1 ≤ ((v.toNat : Int) - (n.toNat : Int)) % 2 ^ 32 ∧
    ((v.toNat : Int) - (n.toNat : Int)) % 2 ^ 32 ≤ 2 ^ 31 - 1 := by
  have hd : ((v - n).toNat : Int) = ((v.toNat : Int) - (n.toNat : Int)) % 2 ^ 32 := by
    have hn := n.isLt
    rw [BitVec.toNat_sub]
    omega
  rw [← hd]
  simp only [future, Bool.and_eq_true, decide_eq_true_eq]
  omega

/-- A value is due when it is not in the future. -/
theorem due_iff (v n : T32) : due v n = true ↔ ¬ future v n = true := by simp [due]

/-- Settles O58: the one comparison is `future_iff`, and `due` is its negation. -/
theorem t32Comparison : Obligations.T32Comparison := by
  unfold Obligations.T32Comparison
  intro v n
  exact ⟨future_iff v n, (due_iff v n).trans (not_congr (future_iff v n))⟩

end Sys2Proof.Machine
end

section
namespace Sys2Proof.Machine

/-! ### A fault of machine mode freezes the scheduling trace (R385, R396) -/

/-- A trap from machine mode leaves TraceControl with Freeze set where FreezeOnFault stands, else as it was. -/
theorem State.rd_takeTrap_traceControl (s : State) (c : Nat) (cause value pc : Word) :
    (s.takeTrap c false cause value pc).rd P.TraceControl 0 =
      (if s.bit P.TraceControl 0 0 then s.setBit P.TraceControl 0 1 true else s).rd P.TraceControl 0 := by
  unfold State.takeTrap
  dsimp only
  rw [if_neg Bool.false_ne_true, (State.log_keeps _ _ _ _ _ _).same _ _ (by decide),
    State.rd_count _ _ _ _ _ (by decide) (by decide)]
  by_cases h : s.bit P.TraceControl 0 0 = true
  · rw [if_pos h, if_pos (show (s.setCore c _).bit P.TraceControl 0 0 = true from h)]
    rfl
  · rw [if_neg h, if_neg (show ¬ (s.setCore c _).bit P.TraceControl 0 0 = true from h)]
    rfl

/-- So with FreezeOnFault set a trap from machine mode sets Freeze. -/
theorem State.bit_takeTrap_freeze (s : State) (c : Nat) (cause value pc : Word)
    (h : s.bit P.TraceControl 0 0 = true) : (s.takeTrap c false cause value pc).bit P.TraceControl 0 1 = true := by
  have k : (s.takeTrap c false cause value pc).bit P.TraceControl 0 1 =
      (s.setBit P.TraceControl 0 1 true).bit P.TraceControl 0 1 := by
    unfold State.bit
    rw [s.rd_takeTrap_traceControl, if_pos h]
  rw [k, State.bit_setBit_same _ _ _ _ _ (by decide)]

/-- A load that faults does the fault's trap and nothing more. -/
theorem execRead_of_faults (s : State) (rq : Requester) (param : Half) (elem last : Byte) (c : Fin 4) (m : Bool)
    (hp : rq.path = .window c m) (hs : s.pathServes rq = true)
    (hf : s.faults rq (wordAddr rq param.toNat (pageWord param.toNat elem.toNat + last.toNat)) false = true) :
    exec (.read rq param elem last) s = done (s.takeTrap c (!m) 5
      (BitVec.ofNat 32 (wordAddr rq param.toNat (pageWord param.toNat elem.toNat + last.toNat))) rq.access.pc) := by
  have hw : rq.onWindow = true := by simp [Requester.onWindow, hp]
  show execRead rq param elem last s = _
  unfold execRead State.load
  rw [if_pos hw, hp]
  simp [State.access, hs, hf, State.faultTrap, hp]

/-- A device that runs, with core 0 released, FreezeOnFault set and its scheduling trace not frozen. -/
def tracing : State :=
  let s := State.reset.setCore 0 { State.reset.core 0 with released := true }
  { s with power := { s.power with phase := .ready, sleep := .run } }.wr P.TraceControl 0 1

/-- A load by core 0 in machine mode that is not aligned. -/
def misaligned : Requester := ⟨.window 0 true, 0, 0, 0, { pc := 0, offset := 1, width := 2 }, 0⟩

/-- Refutes O15: the clause on a machine-mode load that faults lets only the count of access faults change, but the trap
also sets Freeze of P.TraceControl where FreezeOnFault stands (R396). From `tracing` a misaligned load does so. -/
theorem not_readsAreExact : ¬ Obligations.ReadsAreExact := by
  unfold Obligations.ReadsAreExact
  rintro ⟨-, -, -, -, -, -, -, -, -, -, -, machineFault, -⟩
  have hs : tracing.pathServes misaligned = true := by decide +kernel
  have hf : tracing.faults misaligned (wordAddr misaligned (0x13 : Half).toNat
      (pageWord (0x13 : Half).toNat (0 : Byte).toNat + (0 : Byte).toNat)) false = true := by decide +kernel
  obtain ⟨t, ht, -, -, -, -, -, ⟨same, -⟩⟩ := machineFault tracing misaligned 0 0x13 0 0 ⟨rfl, hs, hf⟩
  rw [execRead_of_faults tracing misaligned 0x13 0 0 0 true rfl hs hf] at ht
  cases ht
  have frame := same P.TraceControl 0 (by decide) (by decide) (by decide) (by decide)
  rw [State.rd_settle _ _ _ (by decide)] at frame
  have stopped := tracing.bit_takeTrap_freeze 0 5
    (BitVec.ofNat 32 (wordAddr misaligned (0x13 : Half).toNat (pageWord (0x13 : Half).toNat (0 : Byte).toNat +
      (0 : Byte).toNat))) misaligned.access.pc (by decide +kernel)
  have running : tracing.bit P.TraceControl 0 1 = false := by decide +kernel
  unfold State.bit at stopped running
  rw [show (0 : Fin 4).val = 0 from rfl, Bool.not_true] at frame
  rw [frame, running] at stopped
  contradiction

end Sys2Proof.Machine
end

section
namespace Sys2Proof.Machine

/-! ### A write of P9401 SnapshotAt can take the snapshot (R10, R292) -/

/-- SnapshotAt holds the value and, with a scheduled snapshot pending and the instant due, captures. -/
theorem State.writeElement_snapshotAt (s : State) (via : Via) (r : Row) (e : Nat) (v : Wide)
    (hn : r.num = P.SnapshotAt) (hm : r.mirrored = false) :
    s.writeElement via r e v = ((s.storeReg via r e v).captureDue, 0) := by
  have hw : s.write789 via r e v = ((s.storeReg via r e v).captureDue, 0) := by
    unfold State.write789
    rw [hn]
    rfl
  have hg : groupParams.contains r.num = false := by
    rw [hn]
    decide
  unfold State.writeElement
  have area : r.num / 0x1000 = 9 := by
    rw [hn]
    rfl
  rw [area]
  simp only [hw, hg, Bool.false_eq_true, if_false, if_true, State.mirrorWrite, hm, Bool.not_false, Bool.true_or]

/-- A pending scheduled snapshot whose instant is due is captured. -/
theorem State.captured_captureDue (s : State) (hp : s.bit P.SnapshotControl 0 2 = true)
    (hd : due ((s.rd P.SnapshotAt 0).setWidth 32) s.tns = true) : s.captureDue.shroud.captured.isSome = true := by
  unfold State.captureDue
  by_cases hc : s.shroud.captured.isNone = true
  · rw [hp, hc, hd]
    rfl
  · rw [Bool.eq_false_iff.mpr hc, Bool.and_false, Bool.false_and, if_neg Bool.false_ne_true]
    exact (Option.ne_none_iff_isSome.mp fun k => hc (Option.isNone_iff_eq_none.mpr k))

/-- An answer leaves the shroud ports as they were. -/
theorem State.answerOne_shroud (s : State) (rq : Requester) (a : Byte) (d : List Byte) :
    (s.answerOne rq a d).shroud = s.shroud := by
  unfold State.answerOne
  dsimp only
  generalize (if rq.onWindow || rq.session == 0 then 0 else 16) = tag
  split <;> rfl

/-- A granted write over the window of a value that fits is the parameter's own effect, answered with its status. -/
theorem exec_registerWrite_of_grants (s : State) (rq : Requester) (param : Half) (elem : Byte) (value : Wide) (r : Row)
    (hr : Dict.row param.toNat = some r) (hn : r.num = param.toNat) (ht : r.ty ≠ .str ∧ r.ty ≠ .blob)
    (hq : param.toNat ≠ P.CueWrite) (hw : rq.onWindow = true) (hf : r.fits value = true)
    (h : s.grants rq param.toNat elem.toNat value.toNat = true) :
    exec (.registerWrite rq param elem value) s = done
      (((s.arbitrate rq).writeElement ((s.arbitrate rq).via rq) r elem.toNat value).1.answerOne rq
        ((s.arbitrate rq).writeElement ((s.arbitrate rq).via rq) r elem.toNat value).2 []) := by
  have one := s.serveOne_of_grants rq param.toNat elem.toNat value.toNat r hr hn ht hq h
  rw [BitVec.ofNat_toNat, BitVec.setWidth_eq] at one
  show execRegisterWrite rq param elem value s = _
  unfold execRegisterWrite
  dsimp only
  rw [hw, Bool.true_or, if_pos rfl, ← one]
  simp [State.serveValue, State.serveOne, hr, ht.1, hf]

/-- The row of P9401 SnapshotAt. -/
def snapshotAtRow : Row :=
  ⟨P.SnapshotAt, .t32, .rw, 1, 0, 1, 0, 0xFFFFFFFF, 0xFFFFFFFF, 0, 0, false, true, false, .none, 0⟩

/-- A device that runs, with core 0 released, before the instant of a scheduled snapshot. -/
def scheduled : State :=
  let s := State.reset.setCore 0 { State.reset.core 0 with released := true }
  let s := { s with power := { s.power with phase := .ready, sleep := .run } }
  (s.wr P.SnapshotAt 0 9000).setFld P.SnapshotControl 0 1 2 3

/-- Core 0 in machine mode. -/
def firmware : Requester := ⟨.window 0 true, 0, 0, 0, {}, 0⟩

/-- Refutes O16: `acts` does not hold of P9401 SnapshotAt, but a write of it that names a due instant takes the snapshot
that is pending (R10, R292), which the clause's frame forbids. In `scheduled` core 0 writes the present time, 0. -/
theorem not_plainWriteHoldsTheValue : ¬ Obligations.PlainWriteHoldsTheValue := by
  unfold Obligations.PlainWriteHoldsTheValue
  rintro ⟨store, -⟩
  have hr : Dict.row (0x9401 : Half).toNat = some snapshotAtRow := by decide +kernel
  have hg : scheduled.grants firmware (0x9401 : Half).toNat (0 : Byte).toNat (0 : Wide).toNat = true := by
    decide +kernel
  obtain ⟨t, ht, -, -, -, -, -, -, parts⟩ :=
    store scheduled firmware 0x9401 0 0 snapshotAtRow ⟨hr, by decide, by decide, by decide, hg⟩
  rw [exec_registerWrite_of_grants scheduled firmware 0x9401 0 0 snapshotAtRow hr rfl ⟨by decide, by decide⟩
    (by decide) rfl rfl hg, State.writeElement_snapshotAt _ _ _ _ _ rfl rfl] at ht
  cases ht
  have frame := congrArg (·.captured.isSome) (parts.shroud (by decide))
  simp only [State.settle_shroud, State.answerOne_shroud] at frame
  have pending : scheduled.shroud.captured.isSome = false := by decide +kernel
  rw [State.captured_captureDue _ (by decide +kernel) (by decide +kernel), pending] at frame
  contradiction

end Sys2Proof.Machine
end

section
namespace Sys2Proof.Machine

variable {s : State}

/-! ### A unit's own command (R126, R18) -/

/-- In the clock in which a firing has driven the unit, its own command does nothing. -/
theorem State.ownCommand_of_driven {dest : Nat} {act : State → State} (h : s.now.driven.contains dest = true) :
    s.ownCommand dest act = s := by
  rw [State.ownCommand, if_pos h]

/-- In every other clock it acts, with a note of this clock. -/
theorem State.ownCommand_of_not_driven {dest : Nat} {act : State → State} (h : s.now.driven.contains dest = false) :
    ∃ n, s.ownCommand dest act = act { s with now := n } := by
  rw [State.ownCommand, h, if_neg Bool.false_ne_true]
  exact ⟨_, rfl⟩

/-- Where the unit is driven, or its act leaves the state as it was, its own command changes nothing of the machine. -/
theorem frame_ownCommand_of_idle {dest : Nat} {act : State → State}
    (h : s.now.driven.contains dest = true ∨ ∀ n, act { s with now := n } = { s with now := n }) :
    Frame [] [] [] s (s.ownCommand dest act) := by
  by_cases hd : s.now.driven.contains dest = true
  · rw [State.ownCommand_of_driven hd]
    exact Frame.refl ..
  · obtain ⟨n, hn⟩ := State.ownCommand_of_not_driven (act := act) (Bool.eq_false_iff.mpr hd)
    rw [hn, h.resolve_left hd]
    exact (Frame.refl ..).now n

/-! ### The boundary of the grid (R126) -/

/-- The grid one frame later: the quotient and the remainder of the period advance, and a remainder that reaches the
denominator carries into the time. -/
def Grid.next (g : Grid) : Grid :=
  let carries := rateN g.rate ≤ g.r + rateA g.rate % rateN g.rate
  { g with
    index := g.index + 1
    t := g.t + BitVec.ofNat 32 (rateA g.rate / rateN g.rate + if carries then 1 else 0)
    r := g.r + rateA g.rate % rateN g.rate - if carries then rateN g.rate else 0
    queued := g.queued.filter fun q => future q.time g.t }

theorem State.gridAdvance_eq (s : State) : s.gridAdvance =
    (s.setGrid s.halyard.grid.next).wr P.NextBoundary 0 (s.halyard.grid.next.t.setWidth 64) := by
  unfold State.gridAdvance Grid.next
  by_cases h : rateN s.halyard.grid.rate ≤
      s.halyard.grid.r + rateA s.halyard.grid.rate % rateN s.halyard.grid.rate
  · simp [h, BitVec.ofNat_add, BitVec.add_assoc]
  · simp [h]

theorem State.gridBoundary_of_seeded (h : s.seeded = true) : s.gridBoundary = s.gridAdvance := by
  rw [State.gridBoundary, if_pos h]

theorem State.gridBoundary_of_not_seeded (h : s.seeded = false) : s.gridBoundary = s := by
  rw [State.gridBoundary, h, if_neg Bool.false_ne_true]

/-- The boundary changes the grid and shows its time, and nothing else. -/
theorem State.frame_gridAdvance (s : State) : Frame [] [(P.NextBoundary, 0)] [.grid] s s.gridAdvance := by
  rw [State.gridAdvance_eq]
  exact ((Frame.refl ..).setGrid _ (by decide)).wr _ _ _ (by decide)

theorem completes_gridBoundary (hs : s.seeded = true) (hd : s.now.driven.contains 1 = false) :
    Completes .gridBoundary s fun t => t.halyard.grid = s.halyard.grid.next ∧
      t.rd P.NextBoundary 0 = s.halyard.grid.next.t.setWidth 64 ∧ Frame [] [(P.NextBoundary, 0)] [.grid] s t := by
  obtain ⟨n, hn⟩ := State.ownCommand_of_not_driven (act := State.gridBoundary) hd
  have act := State.gridBoundary_of_seeded (s := { s with now := n }) hs
  refine ⟨(State.gridAdvance { s with now := n }).settle, ?_, ?_, ?_, ?_⟩
  · rw [← act, ← hn]
    rfl
  · rw [State.settle_halyard, State.gridAdvance_eq]
    rfl
  · rw [(State.settle_keeps _).same _ _ (by decide), State.gridAdvance_eq, State.rd_wr_same]
  · exact (((Frame.refl ..).now n).trans (State.frame_gridAdvance _)).settle

theorem completes_gridBoundary_idle (h : s.seeded = false ∨ s.now.driven.contains 1 = true) :
    Completes .gridBoundary s fun t => Frame [] [] [] s t := by
  refine ⟨(s.ownCommand 1 State.gridBoundary).settle, rfl, (frame_ownCommand_of_idle ?_).settle⟩
  exact h.symm.imp_right fun hs _ => State.gridBoundary_of_not_seeded hs

/-! ### A grid that latches no frame (R18) -/

theorem State.latchNow_of_not_latches (h : s.latches = false) : s.latchNow = s := by
  rw [State.latchNow, h, if_neg Bool.false_ne_true]

theorem completes_latch_idle (h : s.latches = false ∨ s.now.driven.contains 2 = true) :
    Completes .latch s fun t => Frame [] [] [] s t := by
  refine ⟨(s.ownCommand 2 State.latchNow).settle, rfl, (frame_ownCommand_of_idle ?_).settle⟩
  exact h.symm.imp_right fun hs _ => State.latchNow_of_not_latches hs

end Sys2Proof.Machine
end

section
namespace Sys2Proof.Machine

variable {s : State}

/-! ### What the seed leaves (R127 to R129) -/

/-- A value in force that another one's change leaves as it was. -/
theorem State.lv_setLive_param (s : State) (p e q f : Nat) (v : Wide) (h : q ≠ p) :
    (s.setLive p e v).lv q f = s.lv q f := by
  unfold State.lv State.setLive
  exact SMap.get_set_other _ _ _ _ _ _ fun hk => h (Dict.key_inj hk).1

/-- Two states with the same values in force are alike in each. -/
theorem State.lv_congr {t : State} (h : t.live = s.live) (p e : Nat) : t.lv p e = s.lv p e := by
  unfold State.lv
  rw [h]

/-- The index that the seed in P2053 names. -/
def State.seedIndex (s : State) : Nat := s.rdN P.GridSeed 1 * 2 ^ 32 + s.rdN P.GridSeed 0

/-- The seed's boundary is the grid's next, with the rate and lead written by then (R127, R129). -/
theorem State.grid_applySeed (s : State) : s.applySeed.halyard.grid.index = s.seedIndex ∧
    s.applySeed.halyard.grid.t = (s.rd P.GridSeed 2).setWidth 32 ∧ s.applySeed.halyard.grid.r = s.rdN P.GridSeed 3 ∧
    s.applySeed.halyard.grid.rate = s.rdN P.ShowFrameRate 0 ∧ s.applySeed.halyard.grid.lead = s.rdN P.Lead 0 ∧
    s.applySeed.halyard.grid.queued = s.halyard.grid.queued := by
  unfold State.applySeed
  extract_lets k
  have hk : k = s.seedIndex := rfl
  clear_value k
  exact ⟨hk, rfl, rfl, rfl, rfl, rfl⟩

/-- Of the values in force the seed changes the rate and the blank time. -/
theorem State.live_applySeed (s : State) : s.applySeed.live =
    ((s.setLive P.ShowFrameRate 0 (s.rd P.ShowFrameRate 0)).setLive P.BlankPermille 0
      (s.rd P.BlankPermille 0)).live := by
  unfold State.applySeed
  extract_lets k g highest g' s1 s2 s3
  have regs : s1.regs = s.regs := rfl
  have live : s1.live = s.live := rfl
  show s3.live = _
  subst s3 s2
  simp [State.setLive, State.rd, regs, live]

theorem State.setGrid_halyard_rest (s : State) (g : Grid) : (s.setGrid g).halyard.rest = s.halyard.rest := rfl

/-- Of Halyard the seed changes the grid alone. -/
theorem State.applySeed_halyard_rest (s : State) : s.applySeed.halyard.rest = s.halyard.rest := by
  unfold State.applySeed
  simp only [State.setBit_halyard, State.wr_halyard, State.setGrid_halyard_rest, State.setLive_halyard]

theorem State.rd_applySeed_nextBoundary (s : State) :
    s.applySeed.rd P.NextBoundary 0 = s.applySeed.halyard.grid.t.setWidth 64 := by
  obtain ⟨-, ht, -⟩ := s.grid_applySeed
  rw [ht]
  unfold State.applySeed
  rw [State.rd_setBit_param _ _ _ _ _ _ _ (by decide), State.rd_wr_same]

/-- A seed shows its boundary and TimeStatus, and no other value changes. -/
theorem State.rd_applySeed (s : State) (q f : Nat) (hb : q ≠ P.NextBoundary) (ht : q ≠ P.TimeStatus) :
    s.applySeed.rd q f = s.rd q f := by
  unfold State.applySeed
  rw [State.rd_setBit_param _ _ _ _ _ _ _ ht, State.rd_wr_param _ _ _ _ _ _ hb]
  exact State.rd_congr (by simp only [State.setGrid_regs, State.setLive_regs]) q f

theorem State.seeded_applySeed (s : State) : s.applySeed.seeded = true :=
  State.bit_setBit_same _ _ _ _ _ (by decide)

/-- What a change of rate moves is neither the grid, nor a value held or in force. -/
theorem State.regrid_halyard (s : State) (k : Nat) : (s.regrid k).halyard = s.halyard := rfl
theorem State.regrid_regs (s : State) (k : Nat) : (s.regrid k).regs = s.regs := rfl
theorem State.regrid_live (s : State) (k : Nat) : (s.regrid k).live = s.live := rfl

theorem State.seedGrid_eq (s : State) : s.seedGrid = s.applySeed ∨ ∃ k, s.seedGrid = s.applySeed.regrid k := by
  unfold State.seedGrid
  dsimp only
  split
  · exact Or.inr ⟨_, rfl⟩
  · exact Or.inl rfl

theorem State.seedGrid_halyard (s : State) : s.seedGrid.halyard = s.applySeed.halyard := by
  obtain h | ⟨k, h⟩ := s.seedGrid_eq
  · rw [h]
  · rw [h, State.regrid_halyard]

theorem State.seedGrid_regs (s : State) : s.seedGrid.regs = s.applySeed.regs := by
  obtain h | ⟨k, h⟩ := s.seedGrid_eq
  · rw [h]
  · rw [h, State.regrid_regs]

theorem State.seedGrid_live (s : State) : s.seedGrid.live = s.applySeed.live := by
  obtain h | ⟨k, h⟩ := s.seedGrid_eq
  · rw [h]
  · rw [h, State.regrid_live]

/-- With what a change of rate moves, too, no other value changes. -/
theorem State.rd_seedGrid (s : State) (q f : Nat) (hb : q ≠ P.NextBoundary) (ht : q ≠ P.TimeStatus) :
    s.seedGrid.rd q f = s.rd q f := by
  rw [State.rd_congr s.seedGrid_regs, State.rd_applySeed _ _ _ hb ht]

theorem State.rd_seedGrid_nextBoundary (s : State) :
    s.seedGrid.rd P.NextBoundary 0 = s.seedGrid.halyard.grid.t.setWidth 64 := by
  rw [State.rd_congr s.seedGrid_regs, State.rd_applySeed_nextBoundary, State.seedGrid_halyard]

theorem State.seeded_seedGrid (s : State) : s.seedGrid.seeded = true := by
  unfold State.seeded State.bit
  rw [State.rd_congr s.seedGrid_regs]
  exact s.seeded_applySeed

/-- The rate and the blank time in force are those written. -/
theorem State.lv_seedGrid_rate (s : State) : s.seedGrid.lv P.ShowFrameRate 0 = s.rd P.ShowFrameRate 0 := by
  rw [State.lv_congr (s.seedGrid_live.trans s.live_applySeed), State.lv_setLive_param _ _ _ _ _ _ (by decide),
    State.lv_setLive_same]

theorem State.lv_seedGrid_blank (s : State) : s.seedGrid.lv P.BlankPermille 0 = s.rd P.BlankPermille 0 := by
  rw [State.lv_congr (s.seedGrid_live.trans s.live_applySeed), State.lv_setLive_same]

/-! ### The write of element 03 of P2053 GridSeed -/

/-- The row of P2053 GridSeed. -/
def gridSeedRow : Row :=
  ⟨P.GridSeed, .u32, .rwr, 4, 0, 2, 0, 4294967295, 0xFFFFFFFF, 0, 0, true, true, false, .none, 0⟩

theorem row_gridSeed : Dict.row P.GridSeed = some gridSeedRow := by decide +kernel

/-- The grid is seeded with the element written, and a unit that mirrors tells its partner. -/
def State.seedWith (s : State) (v : Wide) : State :=
  let u := (s.wr P.GridSeed 3 v).seedGrid
  if u.mirroring then u.emitTime else u

theorem State.writeElement_gridSeed (s : State) (via : Via) (v : Wide) :
    s.writeElement via gridSeedRow 3 v = (s.seedWith v, 0) := rfl

theorem State.frame_seedWith (s : State) (v : Wide) :
    Frame [] [] [.twin] (s.wr P.GridSeed 3 v).seedGrid (s.seedWith v) := by
  unfold State.seedWith
  dsimp only
  split
  · exact ((Frame.refl ..).setTwin _ (by decide)).setTwin _ (by decide)
  · exact Frame.refl ..

/-- An answer without data fits a response of 40 bytes. -/
theorem State.answerOne_answer (rq : Requester) (a : Byte) (h : 40 ≤ s.responseLimit rq) :
    (s.answerOne rq a []).wdp.answer = ⟨a, []⟩ := by
  unfold State.answerOne
  dsimp only
  rw [if_neg]
  · rfl
  · rw [show (pad4 []).length = 0 from rfl]
    split <;> omega

/-- The room of a response is a value that the dictionary holds, or the path's own. -/
theorem State.responseLimit_congr {t : State} (h : t.rd P.WdpMaxResponse 0 = s.rd P.WdpMaxResponse 0)
    (rq : Requester) : t.responseLimit rq = s.responseLimit rq := by
  unfold State.responseLimit State.rdN
  rw [h]

/-- A granted write's answer fits the response. -/
theorem State.responseLimit_of_grants {rq : Requester} {p e v : Nat} (h : s.grants rq p e v = true) :
    40 ≤ s.responseLimit rq := by
  unfold State.grants at h
  split at h
  · contradiction
  · exact of_decide_eq_true (Bool.and_eq_true_iff.mp h).2

/-- A granted write of element 03 seeds the grid with it, and is answered. -/
theorem exec_gridSeed {rq : Requester} {rem : Word} (h : s.grants rq P.GridSeed 3 rem.toNat = true) :
    ∃ n, exec (.gridSeed rq rem) s =
      done ((({ s with now := n } : State).seedWith (BitVec.ofNat 64 rem.toNat)).answerOne rq 0 []) := by
  obtain ⟨n, hn⟩ := s.arbitrate_eq rq
  have one := s.serveOne_of_grants rq P.GridSeed 3 rem.toNat gridSeedRow row_gridSeed rfl ⟨by decide, by decide⟩
    (by decide) h
  rw [State.writeElement_gridSeed, hn] at one
  exact ⟨n, congrArg done one⟩

/-- Element 03 written seeds the grid with it and with the elements that stand before it. -/
theorem State.grid_seedGrid_wr (s : State) (v : Wide) : let g := (s.wr P.GridSeed 3 v).seedGrid.halyard.grid
    g.index = s.seedIndex ∧ g.t = (s.rd P.GridSeed 2).setWidth 32 ∧ g.r = v.toNat ∧
    g.rate = s.rdN P.ShowFrameRate 0 ∧ g.lead = s.rdN P.Lead 0 ∧ g.queued = s.halyard.grid.queued := by
  have other : ∀ e, e % 256 ≠ 3 → (s.wr P.GridSeed 3 v).rd P.GridSeed e = s.rd P.GridSeed e := fun e he =>
    State.rd_wr_other _ _ _ _ _ _ (Or.inr he)
  have param : ∀ p, p ≠ P.GridSeed → (s.wr P.GridSeed 3 v).rd p 0 = s.rd p 0 := fun p hp =>
    State.rd_wr_param _ _ _ _ _ _ hp
  obtain ⟨index, t, r, rate, lead, queued⟩ := (s.wr P.GridSeed 3 v).grid_applySeed
  unfold State.seedIndex State.rdN at index
  rw [other 0 (by decide), other 1 (by decide)] at index
  rw [other 2 (by decide)] at t
  unfold State.rdN at r rate lead
  rw [State.rd_wr_same] at r
  rw [param _ (by decide)] at rate lead
  dsimp only
  rw [State.seedGrid_halyard]
  exact ⟨index, t, r, rate, lead, queued⟩

/-- The write of the seed, answered, is the seed but for the partner's records and the answer. -/
theorem State.frame_gridSeed (s : State) (rq : Requester) (v : Wide) :
    Frame [] [] [.twin, .answer] (s.wr P.GridSeed 3 v).seedGrid ((s.seedWith v).answerOne rq 0 []).settle :=
  (Frame.answerOne rq 0 [] ((s.frame_seedWith v).weaken (by simp) (by simp) (by simp)) (by decide)).settle

theorem State.answer_gridSeed {rq : Requester} (v : Wide) (h : 40 ≤ s.responseLimit rq) :
    ((s.seedWith v).answerOne rq 0 []).settle.wdp.answer = ⟨0, []⟩ := by
  obtain ⟨values, -⟩ := s.frame_seedWith v
  have room : (s.seedWith v).rd P.WdpMaxResponse 0 = s.rd P.WdpMaxResponse 0 := by
    rw [values _ _ (by decide) (by decide) List.not_mem_nil List.not_mem_nil,
      State.rd_seedGrid _ _ _ (by decide) (by decide), State.rd_wr_param _ _ _ _ _ _ (by decide)]
  rw [State.settle_wdp_answer, State.answerOne_answer]
  rwa [State.responseLimit_congr room]

theorem completes_gridSeed {rq : Requester} {rem : Word} (h : s.grants rq P.GridSeed 3 rem.toNat = true) :
    Completes (.gridSeed rq rem) s fun t =>
      t.wdp.answer = ⟨0, []⟩ ∧ t.halyard.grid.index = s.rdN P.GridSeed 1 * 2 ^ 32 + s.rdN P.GridSeed 0 ∧
      t.halyard.grid.t = (s.rd P.GridSeed 2).setWidth 32 ∧ t.halyard.grid.r = rem.toNat ∧
      t.halyard.grid.rate = s.rdN P.ShowFrameRate 0 ∧ t.halyard.grid.lead = s.rdN P.Lead 0 ∧
      t.halyard.grid.queued = s.halyard.grid.queued ∧ t.rdN P.GridSeed 3 = rem.toNat ∧
      t.rd P.NextBoundary 0 = t.halyard.grid.t.setWidth 64 ∧ t.seeded = true ∧
      t.lv P.ShowFrameRate 0 = s.rd P.ShowFrameRate 0 ∧ t.lv P.BlankPermille 0 = s.rd P.BlankPermille 0 ∧
      t.halyard.rest = s.halyard.rest := by
  obtain ⟨n, hn⟩ := exec_gridSeed h
  have hv : (BitVec.ofNat 64 rem.toNat).toNat = rem.toNat := by
    have := rem.isLt
    rw [BitVec.toNat_ofNat]
    omega
  generalize BitVec.ofNat 64 rem.toNat = v at hn hv
  obtain ⟨index, ht, r, rate, lead, queued⟩ := State.grid_seedGrid_wr { s with now := n } v
  obtain ⟨values, parts⟩ := State.frame_gridSeed { s with now := n } rq v
  have grid := parts.grid (by decide)
  have live := parts.live (by decide)
  have held := fun p (hp : p ∉ housekeeping) => values p 0 (by decide) hp List.not_mem_nil List.not_mem_nil
  have room := State.responseLimit_of_grants h
  refine ⟨_, hn, ?_, ?_, ?_, ?_, ?_, ?_, ?_, ?_, ?_, ?_, ?_, ?_, ?_⟩
  · exact State.answer_gridSeed v room
  · rw [grid]
    exact index
  · rw [grid]
    exact ht
  · rw [grid, ← hv]
    exact r
  · rw [grid]
    exact rate
  · rw [grid]
    exact lead
  · rw [grid]
    exact queued
  · unfold State.rdN
    rw [values P.GridSeed 3 (by decide) (by decide) List.not_mem_nil List.not_mem_nil,
      State.rd_seedGrid _ _ _ (by decide) (by decide), State.rd_wr_same, hv]
  · rw [held _ (by decide), grid, State.rd_seedGrid_nextBoundary]
  · unfold State.seeded State.bit
    rw [held _ (by decide)]
    exact State.seeded_seedGrid _
  · rw [State.lv_congr live, State.lv_seedGrid_rate, State.rd_wr_param _ _ _ _ _ _ (by decide)]
    rfl
  · rw [State.lv_congr live, State.lv_seedGrid_blank, State.rd_wr_param _ _ _ _ _ _ (by decide)]
    rfl
  · rw [parts.time (by decide), State.seedGrid_halyard, State.applySeed_halyard_rest]
    rfl

end Sys2Proof.Machine
end

section
namespace Sys2Proof.Machine

variable {s : State} {x : Halyard} {l : List ContentWrite}

/-! ### What a latch leaves until it takes its frame (R18, R19)

Closing the running cycle, changes of role, commits, bodies, selections and the merge move neither time and the grid
nor the content writes that wait; with no ramp and no mirrored group waiting, none of them comes either. One lemma for
each operation, in the order in which the latch does them. -/

/-- Time and the grid stand at `x`, the writes that wait for a latch are `l`, no ramp runs and no mirrored group
waits. -/
def State.Standing (x : Halyard) (l : List ContentWrite) (s : State) : Prop :=
  s.halyard = x ∧ s.content = l ∧ s.cue.ramps = [] ∧ s.twin.waiting = []

theorem State.Standing.ramps (h : s.Standing x l) : s.cue.ramps = [] := h.2.2.1

theorem State.Standing.waiting (h : s.Standing x l) : s.twin.waiting = [] := h.2.2.2

/-- Whatever moves none of the four keeps them. -/
theorem State.Standing.of_eq {t : State} (h : s.Standing x l) (hx : t.halyard = s.halyard)
    (hl : t.content = s.content) (hr : t.cue.ramps = s.cue.ramps) (hw : t.twin.waiting = s.twin.waiting) :
    t.Standing x l := by
  unfold State.Standing
  rw [hx, hl, hr, hw]
  exact h

/-- A state that differs in none of time, content writes, cues and the twin. -/
theorem State.Standing.same {pending : List Instr} {clock rtcPhase freeCount : Nat} {now : ThisClock}
    {regs live : SMap Wide} {blobs : SMap (List Byte)} {blobWrites : List BlobWrite} {dram sram : SMap Byte}
    {power : Power} {nv : NonVolatile} {wdp : Wdp} {trouble : Trouble} {stay : SMap StayPort} {video : SMap Video}
    {cascadeIn : SMap CascadeIn} {sacn : Sacn} {merged : SMap Merged} {capstan : Capstan} {update : Update}
    {render : Render} {sheet : Sheet} {shroud : Shroud} {ports : SMap ShroudPort} {masthead : Masthead}
    {trim : Option TrimRun} {kite : Kite} (h : s.Standing x l) :
    State.Standing x l { s with
      pending, clock, now, rtcPhase, freeCount, regs, live, blobs, blobWrites, dram, sram, power, nv, wdp, trouble,
      stay, video, cascadeIn, sacn, merged, capstan, update, render, sheet, shroud, ports, masthead, trim, kite } := h

/-- What events and counters can do keeps them. -/
theorem State.Standing.quiet {t : State} (h : s.Standing x l) (q : Quiet s t) : t.Standing x l :=
  h.of_eq q.halyard q.content (congrArg Cue.ramps q.cue) (congrArg Twin.waiting q.twin)

section
variable {c : Prop} {dec : Decidable c} {a b : State}

theorem State.Standing.ite (ha : a.Standing x l) (hb : b.Standing x l) : (if c then a else b).Standing x l := by
  split
  · exact ha
  · exact hb

theorem State.Standing.when (h : s.Standing x l) (k : s.Standing x l → a.Standing x l) :
    (if c then a else s).Standing x l := (k h).ite h

theorem State.Standing.unless (h : s.Standing x l) (k : s.Standing x l → a.Standing x l) :
    (if c then s else a).Standing x l := h.ite (k h)

end

theorem State.Standing.foldl {α : Type} {f : State → α → State} {as : List α} (h : s.Standing x l)
    (hf : ∀ {s a}, s.Standing x l → (f s a).Standing x l) : (as.foldl f s).Standing x l :=
  List.foldlRecOn as f h fun _ k _ _ => hf k

/-! ### Single changes -/

theorem State.Standing.wr {p e : Nat} {v : Wide} (h : s.Standing x l) : (s.wr p e v).Standing x l := h.same
theorem State.Standing.setFld {p e lo n v : Nat} (h : s.Standing x l) : (s.setFld p e lo n v).Standing x l := h.wr
theorem State.Standing.setBit {p e i : Nat} {b : Bool} (h : s.Standing x l) : (s.setBit p e i b).Standing x l := h.wr
theorem State.Standing.setBlob {p : Nat} {b : List Byte} (h : s.Standing x l) : (s.setBlob p b).Standing x l := h.same
theorem State.Standing.setXfer {n : Nat} {v : Xfer} (h : s.Standing x l) : (s.setXfer n v).Standing x l := h.same
theorem State.Standing.putLive {n : Nat} {v : Wide} (h : s.Standing x l) : (s.putLive n v).Standing x l := h.same
theorem State.Standing.setStayPort {n : Nat} {v : StayPort} (h : s.Standing x l) :
    (s.setStayPort n v).Standing x l := h.same
theorem State.Standing.setVid {n : Nat} {v : Video} (h : s.Standing x l) : (s.setVid n v).Standing x l := h.same
theorem State.Standing.setCasc {n : Nat} {v : CascadeIn} (h : s.Standing x l) : (s.setCasc n v).Standing x l := h.same
theorem State.Standing.setMerged {n : Nat} {v : Merged} (h : s.Standing x l) : (s.setMerged n v).Standing x l := h.same
theorem State.Standing.setRender {v : Render} (h : s.Standing x l) : (s.setRender v).Standing x l := h.same
theorem State.Standing.setKite {v : Kite} (h : s.Standing x l) : (s.setKite v).Standing x l := h.same
theorem State.Standing.free (h : s.Standing x l) : s.free.2.Standing x l := h.same
theorem State.Standing.count {p e : Nat} (h : s.Standing x l) : (s.count p e).Standing x l :=
  h.quiet (s.count_quiet p e)
theorem State.Standing.countBy {p e n : Nat} (h : s.Standing x l) : (s.countBy p e n).Standing x l :=
  h.quiet (s.countBy_quiet p e n)
theorem State.Standing.traffic {p e n : Nat} (h : s.Standing x l) : (s.traffic p e n).Standing x l := h.same
theorem State.Standing.log {source code aux : Nat} {a b : Word} (h : s.Standing x l) :
    (s.log source code aux a b).Standing x l := h.quiet (s.log_quiet source code aux a b)
theorem State.Standing.event {cls p e : Nat} {a : Word} (h : s.Standing x l) : (s.event cls p e a).Standing x l :=
  h.quiet (s.event_quiet cls p e a)

theorem State.Standing.setDram {a : Nat} {bs : List Byte} (h : s.Standing x l) : (s.setDram a bs).Standing x l := by
  induction bs generalizing s a with
  | nil => exact h
  | cons b bs ih => exact ih (h.unless fun h => h.same)

/-- A change of the twin that leaves the mirrored groups as they are. -/
theorem State.Standing.setTwin {v : Twin} (h : s.Standing x l) (hv : v.waiting = s.twin.waiting := by rfl) :
    (s.setTwin v).Standing x l := h.of_eq rfl rfl rfl hv

/-- A change of the twin that forgets them. -/
theorem State.Standing.forgetTwin {v : Twin} (h : s.Standing x l) (hv : v.waiting = [] := by rfl) :
    (s.setTwin v).Standing x l := h.setTwin (hv.trans h.waiting.symm)

/-! ### Stay ports: membership reports -/

theorem State.Standing.countLate {d frame n : Nat} (h : s.Standing x l) : (s.countLate d frame n).Standing x l := by
  unfold State.countLate
  dsimp only
  exact .event ((h.countBy.unless fun h => h.count.same).when fun h => h.setBit.wr.wr)

theorem State.Standing.dropLateCascade {p n : Nat} (h : s.Standing x l) : (s.dropLateCascade p n).Standing x l := by
  induction n generalizing s with
  | zero => exact h
  | succ n ih =>
    unfold State.dropLateCascade
    dsimp only
    split
    · exact h
    · split
      · exact h
      · exact h.unless fun h => ih h.setStayPort.countLate

theorem State.Standing.stayServe {p : Nat} (h : s.Standing x l) : (s.stayServe p).Standing x l := by
  unfold State.stayServe
  dsimp only
  have dropped : (if (s.stayPort p).priority.isEmpty then s.dropLateCascade p (s.stayPort p).cascade.length
      else s).Standing x l := h.when fun h => h.dropLateCascade
  refine h.unless fun _ => ?_
  split
  · exact dropped.setStayPort
  · split
    · exact dropped.setStayPort.traffic.traffic
    · exact dropped.setStayPort
  · exact dropped.setStayPort
  · exact dropped

theorem State.Standing.sendGeneral {p : Nat} {v : Egress} (h : s.Standing x l) : (s.sendGeneral p v).Standing x l :=
  .ite h.count h.setStayPort.stayServe

theorem State.Standing.sendReports {p : Nat} {records : List GroupRecord} (h : s.Standing x l) :
    (s.sendReports p records).Standing x l :=
  h.when fun h => h.foldl fun h => h.sendGeneral

theorem State.Standing.syncAllGroups (h : s.Standing x l) : s.syncAllGroups.Standing x l :=
  h.foldl fun h => h.unless fun h => h.setStayPort.sendReports

/-! ### Closing the running cycle (R200, R235 to R238) -/

theorem State.Standing.markChanged {port : Nat} (h : s.Standing x l) : (s.markChanged port).Standing x l :=
  h.when fun h => h.same

/-- `targetScale` is made a variable, since the kernel would compute the scale where it compares the group's state. -/
theorem State.Standing.formGroup {d g q dyn budget : Nat} (h : s.Standing x l) :
    (s.formGroup d g q dyn budget).Standing x l := by
  obtain ⟨scaleOf, hscale⟩ : ∃ scaleOf, scaleOf = targetScale := ⟨_, rfl⟩
  have unfolded : @State.formGroup = @State.formGroup := rfl
  conv at unfolded =>
    rhs
    delta State.formGroup
  rw [unfolded, ← hscale]
  exact (h.setRender.when fun h => h.markChanged).when fun h => h.count

theorem State.Standing.closeEnvelope {k : Nat} (h : s.Standing x l) : (s.closeEnvelope k).Standing x l := by
  unfold State.closeEnvelope
  dsimp only
  refine .wr (.wr (.wr (.wr (.wr (.foldl ?_ fun h => h.wr.unless fun h => h.count)))))
  split
  · refine .setRender (.foldl (h.setRender.foldl fun h => h.markChanged) fun h => ?_)
    split
    · exact h.formGroup
    · exact h
  · refine .event (.setRender (.foldl (h.setRender.foldl fun h => h.markChanged) fun h => ?_))
    split
    · exact h.formGroup
    · exact h

theorem State.Standing.countUnderruns {gone : List ElementRecord} (h : s.Standing x l) :
    (s.countUnderruns gone).Standing x l :=
  (h.foldl fun h => (h.wr.when fun h => h.setBit).unless fun h => h.count.event).when fun h => h.count.event

theorem State.Standing.updateProbe {k : Nat} (h : s.Standing x l) : (s.updateProbe k).Standing x l := by
  unfold State.updateProbe
  dsimp only
  refine .ite (h.foldl fun h => h.wr).wr.wr.wr.wr ?_
  split
  · exact (h.foldl fun h => h.wr).wr.wr.wr.wr
  · exact h

theorem State.Standing.closeCycle {k : Nat} (h : s.Standing x l) : (s.closeCycle k).Standing x l :=
  .same (.closeEnvelope (.countUnderruns (.updateProbe (.setFld (.wr (.wr (.wr (.wr (.wr (.free (.wr (.wr
    ((h.foldl fun h => h.setRender.unless fun h => h.markChanged).setRender.unless
      fun h => h.countBy.count)))))))))))))

theorem State.Standing.closeRunning (h : s.Standing x l) : s.closeRunning.Standing x l := by
  unfold State.closeRunning
  split
  · exact h
  · exact h.closeCycle

/-! ### Roles, hand-over and resynchronisation at the latch (R371, R372) -/

theorem State.Standing.noteEpoch {e : BitVec 7} (h : s.Standing x l) : (s.noteEpoch e).Standing x l := by
  unfold State.noteEpoch
  refine h.unless fun h => ?_
  split
  · exact h.setTwin
  · exact h.when fun h => h.setTwin

theorem State.Standing.setRole {r : Role} {e : BitVec 7} (h : s.Standing x l) : (s.setRole r e).Standing x l :=
  h.unless fun h => h.setFld.setFld.noteEpoch.event

theorem State.Standing.setMirrorState {m : MirrorState} (h : s.Standing x l) : (s.setMirrorState m).Standing x l :=
  h.setFld

theorem State.Standing.clearDual (h : s.Standing x l) : s.clearDual.Standing x l := h.setBit.setTwin

theorem State.Standing.goStale (h : s.Standing x l) : s.goStale.Standing x l := h.setMirrorState.forgetTwin

theorem State.Standing.placeAtLatch {slot : Nat} {frame : Option Nat} (h : s.Standing x l) :
    (s.placeAtLatch slot frame).Standing x l := by
  unfold State.placeAtLatch
  dsimp only
  exact h.same.setXfer.event

theorem State.Standing.endCommits (h : s.Standing x l) : s.endCommits.Standing x l :=
  h.setTwin.foldl fun h => h.setXfer.event

/-- Cues that go back to the queue leave the ramps as they are. -/
theorem State.Standing.returnCues (h : s.Standing x l) : s.returnCues.Standing x l :=
  State.Standing.foldl (h.of_eq rfl rfl rfl rfl) fun h => h.of_eq rfl rfl rfl rfl

theorem State.Standing.becomeStale (h : s.Standing x l) : s.becomeStale.Standing x l :=
  h.endCommits.returnCues.setRole.goStale.clearDual.setTwin

theorem State.Standing.handOverTo {seq : Word} (h : s.Standing x l) : (s.handOverTo seq).Standing x l :=
  h.endCommits.returnCues.setRole.setMirrorState.clearDual.forgetTwin

/-- No group waits, so none is held over to the new role and none of their cues is done. -/
theorem State.Standing.becomeActive {next : Word} (h : s.Standing x l) : (s.becomeActive next).Standing x l := by
  have groups : heldGroups s.twin.waiting = [] := by
    rw [h.waiting]
    rfl
  unfold State.becomeActive
  dsimp only
  rw [groups]
  exact h.setRole.setMirrorState.forgetTwin

theorem State.Standing.becomeSolo (h : s.Standing x l) : s.becomeSolo.Standing x l :=
  (h.setTwin.foldl fun h => h.placeAtLatch).setRole.setMirrorState.clearDual.forgetTwin

theorem State.Standing.becomeJoining (h : s.Standing x l) : s.becomeJoining.Standing x l :=
  h.setRole.setMirrorState.setTwin

theorem State.Standing.takeRole {r : Role} (h : s.Standing x l) : (s.takeRole r).Standing x l := by
  unfold State.takeRole
  split
  · exact h.becomeStale
  · exact h.becomeActive
  · exact h.becomeSolo
  · exact h.becomeJoining

theorem State.Standing.latchControl (h : s.Standing x l) : s.latchControl.Standing x l := by
  unfold State.latchControl
  split
  · exact h
  · exact .syncAllGroups (.ite h.wr.setTwin.becomeJoining
      (h.wr.setTwin.when fun h => h.becomeSolo))

theorem State.Standing.latchHandOver {k : Nat} (h : s.Standing x l) : (s.latchHandOver k).Standing x l := by
  unfold State.latchHandOver
  split
  · exact h
  · refine h.unless fun h => ?_
    split
    · exact h.becomeActive
    · exact h.handOverTo
    · exact h.setTwin

theorem State.Standing.latchRole (h : s.Standing x l) : s.latchRole.Standing x l := by
  unfold State.latchRole
  split
  · exact h
  · have cleared := h.setTwin (v := { s.twin with roleAtLatch := none })
    dsimp only
    split
    · exact cleared.takeRole
    · exact cleared.takeRole
    · exact cleared

/-! ### Bodies (R103, R104, R371) -/

theorem State.Standing.swapMergeTable {b : List Byte} (h : s.Standing x l) : (s.swapMergeTable b).Standing x l :=
  (h.foldl fun h => h.unless fun h => h.setMerged).setBlob

theorem State.Standing.swapElements {b : List Byte} (h : s.Standing x l) : (s.swapElements b).Standing x l :=
  h.setDram.setBlob.wr.same.count

theorem State.Standing.checkEra (h : s.Standing x l) : s.checkEra.Standing x l := h.setBit.when fun h => h.log

theorem State.Standing.installBody {p : Nat} {b : List Byte} (h : s.Standing x l) :
    (s.installBody p b).Standing x l :=
  .ite h.swapMergeTable (.ite h.swapElements (.ite h.same (.ite h.same (.ite h.same (.ite h.same (.ite
    h.setBlob.setKite.checkEra (.ite h.setBlob.setKite.checkEra (.ite h.setBlob.wr (h.setBlob.when fun h =>
    h.syncAllGroups)))))))))

theorem State.Standing.latchBody {w : BlobWrite} (h : s.Standing x l) : (s.latchBody w).Standing x l := by
  unfold State.latchBody
  dsimp only
  split
  · exact h.installBody
  · exact h.installBody.setXfer

theorem State.Standing.applyBodies {k : Nat} (h : s.Standing x l) : (s.applyBodies k).Standing x l :=
  h.same.foldl fun h => h.latchBody

theorem State.Standing.holdMirror (h : s.Standing x l) : s.holdMirror.Standing x l := by
  have held : ∀ b, State.Standing x l { s with twin := { s.twin with resyncHeld := b } } := fun _ =>
    h.of_eq rfl rfl rfl rfl
  exact h.unless fun h => .ite (held true).setFld (h.when fun _ => (held false).setFld)

theorem State.Standing.finishResync (h : s.Standing x l) : s.finishResync.Standing x l := by
  unfold State.finishResync
  dsimp only
  refine .holdMirror (.setMirrorState (.setTwin ?_))
  exact State.Standing.of_eq (h.foldl fun h => h.installBody) rfl rfl rfl rfl

theorem State.Standing.latchResync {k : Nat} (h : s.Standing x l) : (s.latchResync k).Standing x l := by
  unfold State.latchResync
  split
  · exact h
  · exact h.unless fun h => h.finishResync

theorem State.Standing.latchTwin {k : Nat} (h : s.Standing x l) : (s.latchTwin k).Standing x l :=
  h.latchControl.latchHandOver.latchRole.latchResync.when fun h => h.setTwin

theorem State.Standing.liveCommits (h : s.Standing x l) : s.liveCommits.Standing x l :=
  h.when fun h => h.foldl fun h => .ite h.setTwin.setTwin.placeAtLatch h.setTwin

/-! ### Commits, selections and the merge (R19, R157, R168, R174, R201) -/

theorem State.Standing.showPending (h : s.Standing x l) : s.showPending.Standing x l := (h.foldl fun h => h.wr).wr

theorem State.Standing.applyItem {i : PendingItem} (h : s.Standing x l) : (s.applyItem i).Standing x l :=
  (h.foldl fun h => h.putLive).setRender

theorem State.Standing.retireAt {n : Nat} {old : Wide × Wide} (h : s.Standing x l) : (s.retireAt n old).Standing x l :=
  h.when fun h => h.setFld.wr

theorem State.Standing.applyCommits {k : Nat} (h : s.Standing x l) : (s.applyCommits k).Standing x l :=
  .showPending (.foldl (.foldl (.setRender ((h.foldl fun h => h.applyItem).unless fun h => h.wr)) (fun h => h.foldl
    fun h => h.putLive)) fun h => h.retireAt)

theorem State.Standing.selectVideo {n k : Nat} (h : s.Standing x l) : (s.selectVideo n k).Standing x l :=
  .ite h.setVid (h.setVid.when fun h => h.count)

theorem State.Standing.selectCascade {n k : Nat} (h : s.Standing x l) : (s.selectCascade n k).Standing x l :=
  .ite h.setCasc h.setCasc

theorem State.Standing.mergeEntryAt {i : Nat} (h : s.Standing x l) : (s.mergeEntryAt i).Standing x l := by
  unfold State.mergeEntryAt
  dsimp only
  refine .ite h.setMerged (.ite ?_ h.setMerged)
  split <;> exact h.setMerged

theorem State.Standing.mergeAtLatch (h : s.Standing x l) : s.mergeAtLatch.Standing x l :=
  .wr (.same (h.foldl fun h => h.mergeEntryAt))

/-! ### The content of the frame (R19, R104) -/

/-- No mirrored group waits: none is applied. -/
theorem State.Standing.applyGroups {k : Nat} (h : s.Standing x l) :
    (s.applyGroups k [] [] s.twin.waiting).Standing x l := by
  rw [h.waiting]
  exact h.forgetTwin

/-- No ramp runs: none takes a step. -/
theorem State.Standing.stepRamps {k : Nat} (h : s.Standing x l) : (s.stepRamps k).Standing x l := by
  obtain ⟨hx, hl, ramps, waiting⟩ := h
  unfold State.stepRamps
  dsimp only
  rw [ramps]
  exact ⟨hx, hl, rfl, waiting⟩

/-- The writes that are due leave those that wait. -/
theorem State.Standing.applyContent {k : Nat} (h : s.Standing x l) :
    (s.applyContent k).Standing x (l.filter fun w => !frameDue k w.frame) := by
  obtain ⟨hx, hl, ramps, waiting⟩ := h
  refine State.Standing.foldl ⟨hx, ?_, ramps, waiting⟩ fun h => h.putLive
  rw [← hl]

/-- Of what waits for a latch the frame's content takes what is due, and time and the grid stand. -/
theorem State.Standing.fixContent {k : Nat} (h : s.Standing x l) :
    (s.fixContent k).Standing x (l.filter fun w => !frameDue k w.frame) :=
  .foldl (.mergeAtLatch (.foldl h.applyGroups.stepRamps.applyContent.applyBodies.applyCommits
    fun h => h.selectVideo.selectCascade)) fun h => h.wr

end Sys2Proof.Machine
end

section
namespace Sys2Proof.Machine

variable {s : State}

/-! ### The frame that is latched (R18, R128) -/

/-- Level messages queue for Kite, and nothing else of the machine changes. -/
theorem State.queueLevels_eq (s : State) (sleepers : Bool) (tag : T32) (opens : Option T32) (deadline : T32) :
    ∃ kite, s.queueLevels sleepers tag opens deadline = { s with kite := kite } := by
  unfold State.queueLevels
  dsimp only
  refine List.foldlRecOn (motive := fun t => ∃ kite, t = { s with kite := kite }) _ _ ⟨s.kite, rfl⟩ ?_
  rintro _ ⟨kite, rfl⟩ e -
  split
  · exact ⟨_, rfl⟩
  · exact ⟨_, rfl⟩

theorem State.kiteAtLatch_eq (s : State) (k : Nat) : ∃ kite, s.kiteAtLatch k = { s with kite := kite } := by
  unfold State.kiteAtLatch
  split
  · exact s.queueLevels_eq _ _ _ _
  · exact ⟨s.kite, rfl⟩

/-- The grid once it has latched frame `k`, which waits for its presentation at `time`. -/
def Grid.latched (g : Grid) (k : Nat) (time : T32) : Grid :=
  { g with
    nextLatch := k + 1, highest := some k, spared := 0, freshSeed := false
    queued := g.queued ++ [{ index := k, time := time }] }

theorem State.grid_advanceGrid (s : State) (k : Nat) :
    (s.advanceGrid k).halyard.grid = s.halyard.grid.latched k (s.frameTime k) := by
  unfold State.advanceGrid State.frameTime
  dsimp only
  have counted : (if s.skippedBefore k = 0 then s
      else s.countBy P.SkippedFrameCount 0 (s.skippedBefore k)).halyard = s.halyard := by
    split
    · rfl
    · exact (s.countBy_quiet _ _ _).halyard
  rw [counted]
  rfl

/-- Beside the grid, the latch shows its frame and counts those passed over. -/
theorem State.frame_advanceGrid (s : State) (k : Nat) :
    Frame [P.SkippedFrameCount, P.ShowFrameIndex] [] [.grid] s (s.advanceGrid k) := by
  have counted : Frame [P.SkippedFrameCount, P.ShowFrameIndex] [] [.grid] s (if s.skippedBefore k = 0 then s
      else s.countBy P.SkippedFrameCount 0 (s.skippedBefore k)) := by
    split
    · exact Frame.refl ..
    · exact (Frame.refl ..).countBy _ _ _ (by decide)
  exact (counted.setGrid _ (by decide)).wr _ _ _ (by decide)

theorem State.rd_advanceGrid (s : State) (k : Nat) :
    (s.advanceGrid k).rd P.ShowFrameIndex 0 = BitVec.ofNat 64 k :=
  State.rd_wr_same _ _ _ _

/-- What a latch of frame `k` leaves of a state `s`. -/
structure LatchesFrame (k : Nat) (s t : State) : Prop where
  grid : t.halyard.grid = s.halyard.grid.latched k (s.frameTime k)
  shown : t.rd P.ShowFrameIndex 0 = BitVec.ofNat 64 k
  rendered : t.render.frame = some k
  kept : ∀ c ∈ t.sheet.contexts.take 1, c.frame = k ∧ c.live = t.live ∧ c.blobs = t.blobs
  content : t.content = s.content.filter fun w => !frameDue k w.frame
  acc : t.halyard.acc = s.halyard.acc

/-- Settling changes none of it. -/
theorem LatchesFrame.settle {k : Nat} {t : State} (h : LatchesFrame k s t) : LatchesFrame k s t.settle where
  grid := by rw [State.settle_halyard]; exact h.grid
  shown := by rw [t.settle_keeps.same _ _ (by decide)]; exact h.shown
  rendered := by rw [State.settle_render]; exact h.rendered
  kept := by rw [State.settle_sheet, State.settle_live, State.settle_blobs]; exact h.kept
  content := by rw [State.settle_content]; exact h.content
  acc := by rw [State.settle_halyard]; exact h.acc

/-- Frame `k`'s content, once it is fixed, is kept under the values then in force. -/
theorem State.contexts_keepContext (u s : State) (k : Nat) (c : FrameContext)
    (hc : c ∈ (u.keepContext s k).sheet.contexts.take 1) : c.frame = k ∧ c.live = u.live ∧ c.blobs = u.blobs := by
  unfold State.keepContext at hc
  obtain rfl := List.mem_singleton.mp hc
  exact ⟨rfl, rfl, rfl⟩

/-- Time and the grid as the latch found them, the frame's content kept and its rendering begun: the grid takes it. -/
theorem latchesFrame_of_kept {v : State} {k : Nat} (halyard : v.halyard = s.halyard)
    (content : v.content = s.content.filter fun w => !frameDue k w.frame) (rendered : v.render.frame = some k)
    (kept : ∀ c ∈ v.sheet.contexts.take 1, c.frame = k ∧ c.live = v.live ∧ c.blobs = v.blobs) :
    LatchesFrame k s ((v.advanceGrid k).kiteAtLatch k) := by
  obtain ⟨kite, hk⟩ := (v.advanceGrid k).kiteAtLatch_eq k
  obtain ⟨-, parts⟩ := v.frame_advanceGrid k
  rw [hk]
  constructor
  case grid =>
    have grid := v.grid_advanceGrid k
    unfold State.frameTime at grid ⊢
    rw [halyard] at grid
    exact grid
  case shown => exact v.rd_advanceGrid k
  case rendered => exact (congrArg Render.frame (parts.render (by decide))).trans rendered
  case kept =>
    show ∀ c ∈ (v.advanceGrid k).sheet.contexts.take 1,
      c.frame = k ∧ c.live = (v.advanceGrid k).live ∧ c.blobs = (v.advanceGrid k).blobs
    rw [parts.sheet (by decide), parts.live (by decide), parts.bodies (by decide)]
    exact kept
  case content => exact (parts.content (by decide)).trans content
  case acc =>
    have time := congrArg Halyard.acc (parts.time (by decide))
    rw [halyard] at time
    exact time

/-- So it does after the fixed content of `u` has been kept. -/
theorem latchesFrame_of_fixed {u : State} {k : Nat} {r : Render} (halyard : u.halyard = s.halyard)
    (content : u.content = s.content.filter fun w => !frameDue k w.frame) (rendered : r.frame = some k) :
    LatchesFrame k s ((((u.keepContext s k).setRender r).advanceGrid k).kiteAtLatch k) :=
  latchesFrame_of_kept halyard content rendered (u.contexts_keepContext s k)

/-- Before it, neither what ends with the frame before nor what fixes the content of this one moves the grid. -/
theorem latchesFrame_latchFrame (k : Nat) (ramps : s.cue.ramps = []) (waiting : s.twin.waiting = []) :
    LatchesFrame k s (s.latchFrame k) := by
  have standing : s.Standing s.halyard s.content := ⟨rfl, rfl, ramps, waiting⟩
  obtain ⟨halyard, content, -, -⟩ :=
    (standing.closeRunning.latchTwin (k := k)).liveCommits.fixContent (k := k)
  unfold State.latchFrame
  exact latchesFrame_of_fixed halyard content rfl

/-! ### The command LATCH (R18) -/

theorem State.latchNow_of_latches (h : s.latches = true) :
    s.latchNow = s.latchFrame (s.latchIndex 4096 s.halyard.grid.nextLatch) := by
  rw [State.latchNow, if_pos h]

/-- The frame that latches now hangs on time, the grid and the blank time in force. -/
theorem State.latchIndex_now (s : State) (n : ThisClock) (fuel k : Nat) :
    ({ s with now := n } : State).latchIndex fuel k = s.latchIndex fuel k := by
  induction fuel generalizing k with
  | zero => rfl
  | succ fuel ih =>
    unfold State.latchIndex
    rw [ih]
    rfl

theorem completes_latch (hl : s.latches = true) (hd : s.now.driven.contains 2 = false) (ramps : s.cue.ramps = [])
    (waiting : s.twin.waiting = []) :
    Completes .latch s fun t => LatchesFrame (s.latchIndex 4096 s.halyard.grid.nextLatch) s t := by
  obtain ⟨n, hn⟩ := State.ownCommand_of_not_driven (act := State.latchNow) hd
  have act : State.latchNow { s with now := n } =
      State.latchFrame { s with now := n } (s.latchIndex 4096 s.halyard.grid.nextLatch) := by
    rw [← s.latchIndex_now n]
    exact State.latchNow_of_latches hl
  generalize s.latchIndex 4096 s.halyard.grid.nextLatch = k at act ⊢
  refine ⟨_, congrArg done (hn.trans act), ?_⟩
  obtain ⟨grid, shown, rendered, kept, content, acc⟩ :=
    (latchesFrame_latchFrame (s := { s with now := n }) k ramps waiting).settle
  exact ⟨grid, shown, rendered, kept, content, acc⟩

/-- Settles O25, clause by clause: the write of the seed, a boundary, a boundary that does nothing, a latch, and a latch
that does nothing. -/
theorem gridSeedAndLatch : Obligations.GridSeedAndLatch := by
  unfold Obligations.GridSeedAndLatch
  refine ⟨?seed, ?boundary, ?idleBoundary, ?latch, ?idleLatch⟩
  case seed =>
    rintro s rq rem ⟨granted, -⟩
    exact completes_gridSeed granted
  case boundary =>
    rintro s ⟨seeded, free⟩
    obtain ⟨t, ht, grid, shown, frame⟩ := completes_gridBoundary seeded free
    exact ⟨t, ht, grid, by rw [shown, grid], frame⟩
  case idleBoundary => exact fun s h => completes_gridBoundary_idle h
  case latch =>
    rintro s k ⟨latches, free, rfl, ramps, waiting, -⟩
    obtain ⟨t, ht, grid, shown, rendered, kept, content, acc⟩ := completes_latch latches free ramps waiting
    refine ⟨t, ht, ?_⟩
    dsimp only
    rw [grid]
    exact ⟨rfl, rfl, rfl, rfl, rfl, shown, rendered, kept, content, acc⟩
  case idleLatch => exact fun s h => completes_latch_idle h

end Sys2Proof.Machine
end

section
namespace Sys2Proof.Machine

/-! ### Ready ends Luff where a slot is filled (R59, R71, R391) -/

/-- With the settings applied the device reaches ready. -/
theorem exec_deviceReady_of_settingsApplied {s : State} (hb : s.power.phase = .boot)
    (hs : s.power.boot.settingsApplied = true) : exec .deviceReady s = done s.reachReady :=
  if_pos ⟨hb, hs⟩

/-- A device in boot whose settings are applied, its core clocks stopped by Luff, with a thread ready for core 0. -/
def luffBoot : State :=
  let s := State.reset.setCore 0 { State.reset.core 0 with released := true }
  let s := s.setThread 0 { s.thread 0 with state := .ready, affinity := 1 }
  { s with power := { s.power with phase := .boot, sleep := .luff,
                                   boot := { s.power.boot with settingsApplied := true } } }

/-- Ready brings the slots up to date: the thread enters the slot of core 0, and the interrupt of that ends Luff. -/
theorem sleep_reachReady_luffBoot : luffBoot.reachReady.power.sleep = .run := by decide +kernel

/-- Refutes O8: the clause on ready quantifies over every state in boot, and lets nothing of the power record change but
phase and watchdog. From `luffBoot` ready also ends Luff, by the interrupt of the slot it fills (R71, R391). Luff begins
only in a device that serves, so this boot is not one that follows a reset; the clause has no premise that says so. -/
theorem not_bootSequence : ¬ Obligations.BootSequence := by
  unfold Obligations.BootSequence
  rintro ⟨-, -, -, -, -, -, -, -, -, -, -, ready⟩
  obtain ⟨t, ht, power, -⟩ := ready luffBoot ⟨rfl, rfl⟩
  rw [exec_deviceReady_of_settingsApplied rfl rfl] at ht
  cases ht
  have stays : luffBoot.reachReady.power.sleep = .luff := by
    rw [← State.settle_power, power]
    rfl
  rw [sleep_reachReady_luffBoot] at stays
  contradiction

end Sys2Proof.Machine
end

section
namespace Sys2Proof.Machine

variable {s t : State}

/-! ### The reset state (R58, R397, R422) -/

theorem reset_settled : Settled State.reset := ⟨rfl, rfl⟩

theorem reset_memoryOk : State.reset.memoryOk = true := (memoryOk_iff _).mpr ⟨reset_dram_wf, reset_sram_wf, rfl⟩

/-- Settles O4: after reset both queues are empty, and so are the memories and the list of values held. -/
theorem resetHoldsTheInvariants : Obligations.ResetHoldsTheInvariants := ⟨reset_settled, reset_memoryOk⟩

/-- A command that leaves nothing for the log and the trace needs no settling. -/
theorem State.settle_of_settled (h : Settled s) : s.settle = s := by
  obtain ⟨log, trace⟩ := h
  have trace_kept : s.drainTrace = s := by
    unfold State.drainTrace
    rw [trace]
    show { s with capstan := { s.capstan with decisions := [] } } = s
    rw [← trace]
  have log_kept : s.drainLog = s := by
    unfold State.drainLog
    rw [log]
    show { s with trouble := { s.trouble with queue := [] } } = s
    rw [← log]
  rw [State.settle, trace_kept, log_kept]

/-! ### A bit that the device raises -/

theorem State.rd_raise (s : State) (p e i q f : Nat) : (s.raise p e i).rd q f = (s.setBit p e i true).rd q f := by
  unfold State.raise
  dsimp only
  split <;> rfl

theorem State.rd_raise_param (s : State) (p e i q f : Nat) (h : q ≠ p) : (s.raise p e i).rd q f = s.rd q f := by
  rw [State.rd_raise, State.rd_setBit_param _ _ _ _ _ _ _ h]

theorem State.bit_congr {p e : Nat} (h : t.rd p e = s.rd p e) (i : Nat) : t.bit p e i = s.bit p e i := by
  rw [State.bit, h, State.bit]

/-- A bit after one bit of the same element was given a value. -/
theorem State.bit_setBit (s : State) (p e i j : Nat) (b : Bool) (h : j < 64) :
    (s.setBit p e i b).bit p e j = if j = i then b else s.bit p e j := by
  split
  · next hij => rw [hij, State.bit_setBit_same _ _ _ _ _ (hij ▸ h)]
  · next hij => exact State.bit_setBit_other _ _ _ _ _ _ h hij

theorem State.bit_raise (s : State) (p e i j : Nat) (h : j < 64) :
    (s.raise p e i).bit p e j = (s.bit p e j || j == i) := by
  rw [State.bit_congr (s.rd_raise p e i p e), State.bit_setBit _ _ _ _ _ _ h]
  by_cases hij : j = i <;> simp [hij]

/-! ### What a full reset leaves (R54, R58) -/

/-- But for the clock's note and the dictionary's values, the machine after a full reset is fixed by what it keeps. -/
def ResetTo (s t : State) : Prop :=
  ∃ now regs, t = { State.reset with pending := s.pending, clock := s.clock, now := now, rtcPhase := s.rtcPhase,
                                     freeCount := s.freeCount, nv := s.nv, regs := regs }

theorem ResetTo.eq (h : ResetTo s t) :
    t = { State.reset with pending := s.pending, clock := s.clock, now := t.now, rtcPhase := s.rtcPhase,
                           freeCount := s.freeCount, nv := s.nv, regs := t.regs } := by
  obtain ⟨now, regs, rfl⟩ := h
  rfl

theorem WasReset.to (h : WasReset s t) : ResetTo s t := ⟨t.now, t.regs, h.1⟩

theorem WasReset.settled (h : WasReset s t) : Settled t := by
  obtain ⟨now, regs, rfl⟩ := h.to
  exact ⟨rfl, rfl⟩

theorem WasReset.nv (h : WasReset s t) : t.nv = s.nv := by
  obtain ⟨now, regs, rfl⟩ := h.to
  rfl

theorem WasReset.freeCount (h : WasReset s t) : t.freeCount = s.freeCount := by
  obtain ⟨now, regs, rfl⟩ := h.to
  rfl

/-- Marks of causes and rails leave a reset state one: they move P1010, P1012 and the clock's note alone. -/
theorem WasReset.mark {u : State} (h : WasReset s t) (parts : ∃ now regs, u = { t with now := now, regs := regs })
    (values : ∀ q f, q ≠ P.ResetCause → q ≠ P.BrownoutRails → u.rd q f = t.rd q f) : WasReset s u := by
  have kept := h.to
  obtain ⟨-, same, housekept, rtc⟩ := h
  refine ⟨ResetTo.eq ?_, fun q f hf hq hn hm => ?_, fun q hq => ?_, ?_⟩
  · obtain ⟨now, regs, rfl⟩ := kept
    obtain ⟨now', regs', rfl⟩ := parts
    exact ⟨now', regs', rfl⟩
  · have apart : q ≠ P.ResetCause ∧ q ≠ P.BrownoutRails := by
      constructor <;> rintro rfl <;> exact hn (by decide)
    rw [values q f apart.1 apart.2]
    exact same q f hf hq hn hm
  · have apart : q ≠ P.ResetCause ∧ q ≠ P.BrownoutRails := by
      constructor <;> rintro rfl <;> revert hq <;> decide
    rw [values q 0 apart.1 apart.2, housekept q hq]
  · rw [values _ 0 (by decide) (by decide), rtc]

theorem WasReset.now (h : WasReset s t) (n : ThisClock) : WasReset s { t with now := n } :=
  h.mark ⟨_, _, rfl⟩ fun _ _ _ _ => rfl

theorem WasReset.raise (h : WasReset s t) {p : Nat} (hp : p = P.ResetCause ∨ p = P.BrownoutRails) (e i : Nat) :
    WasReset s (t.raise p e i) := by
  refine h.mark ?_ fun q f hc hb => State.rd_raise_param _ _ _ _ _ _ (by rcases hp with rfl | rfl <;> assumption)
  unfold State.raise
  dsimp only
  split
  · exact ⟨_, _, rfl⟩
  · exact ⟨_, _, rfl⟩

theorem WasReset.withDeferred (h : WasReset s t) (causes : BitVec 8) : WasReset s (t.withDeferred causes) :=
  h.mark ⟨_, _, rfl⟩ fun _ _ hc _ => State.rd_wr_param _ _ _ _ _ _ hc

/-- Of the values the clearing keeps those of P1010, P1012 and the real-time count. -/
theorem State.rd_cleared (s : State) (q f : Nat) (hc : q ≠ P.ResetCause) (hb : q ≠ P.BrownoutRails)
    (hr : q ≠ P.RtcCount) : s.cleared.rd q f = State.reset.rd q f := by
  unfold State.cleared
  rw [State.rd_wr_param _ _ _ _ _ _ hr, State.rd_wr_param _ _ _ _ _ _ hb, State.rd_wr_param _ _ _ _ _ _ hc]
  rfl

theorem State.rd_cleared_resetCause (s : State) : s.cleared.rd P.ResetCause 0 = s.rd P.ResetCause 0 := by
  unfold State.cleared
  rw [State.rd_wr_param _ _ _ _ _ _ (by decide), State.rd_wr_param _ _ _ _ _ _ (by decide), State.rd_wr_same]

theorem State.rd_cleared_brownoutRails (s : State) : s.cleared.rd P.BrownoutRails 0 = s.rd P.BrownoutRails 0 := by
  unfold State.cleared
  rw [State.rd_wr_param _ _ _ _ _ _ (by decide), State.rd_wr_same]

theorem wasReset_cleared (s : State) : WasReset s s.cleared := by
  refine ⟨rfl, fun q f _ _ hn _ => ?_, fun q hq => ?_, ?_⟩
  · simp only [List.mem_cons, List.not_mem_nil, or_false, not_or] at hn
    obtain ⟨hc, hb, hr⟩ := hn
    exact s.rd_cleared q f hc hb hr
  · have apart : q ≠ P.ResetCause ∧ q ≠ P.BrownoutRails ∧ q ≠ P.RtcCount := by
      refine ⟨?_, ?_, ?_⟩ <;> rintro rfl <;> revert hq <;> decide
    obtain ⟨hc, hb, hr⟩ := apart
    exact s.rd_cleared q 0 hc hb hr
  · unfold State.cleared
    rw [State.rd_wr_same]

theorem wasReset_fullReset (s : State) (cause : Nat) : WasReset s (s.fullReset cause) :=
  ((wasReset_cleared s).now _).raise (.inl rfl) 0 cause

theorem State.bit_fullReset (s : State) (cause i : Nat) (hi : i < 64) :
    (s.fullReset cause).bit P.ResetCause 0 i = (s.bit P.ResetCause 0 i || i == cause) := by
  unfold State.fullReset
  rw [State.bit_raise _ _ _ _ _ hi, ← State.bit_congr s.rd_cleared_resetCause]
  rfl

theorem State.rd_fullReset_brownoutRails (s : State) (cause : Nat) :
    (s.fullReset cause).rd P.BrownoutRails 0 = s.rd P.BrownoutRails 0 := by
  unfold State.fullReset
  rw [State.rd_raise_param _ _ _ _ _ _ (by decide)]
  exact s.rd_cleared_brownoutRails

theorem State.bit_withDeferred (s : State) (causes : BitVec 8) (i : Nat) (hi : i < 64) :
    (s.withDeferred causes).bit P.ResetCause 0 i = (s.bit P.ResetCause 0 i || causes.getLsbD i) := by
  unfold State.withDeferred State.bit
  rw [State.rd_wr_same, BitVec.getLsbD_or, BitVec.getLsbD_setWidth, decide_eq_true hi, Bool.true_and]

/-- `t` is `s` after one full reset for a cause, with the causes of sources that waited; no rail is marked. -/
structure ResetFor (s : State) (cause : Nat) (waited : BitVec 8) (t : State) : Prop where
  reset : WasReset s t
  causes : ∀ i < 64, t.bit P.ResetCause 0 i = (s.bit P.ResetCause 0 i || i == cause || waited.getLsbD i)
  rails : t.rd P.BrownoutRails 0 = s.rd P.BrownoutRails 0

theorem bitsSet_nil {p e : Nat} (h : t.rd p e = s.rd p e) : BitsSet p e [] s t := fun i _ => by
  rw [State.bit_congr h, List.contains_nil, Bool.or_false]

theorem ResetFor.noRail {cause : Nat} {waited : BitVec 8} (h : ResetFor s cause waited t) :
    BitsSet P.BrownoutRails 0 [] s t := bitsSet_nil h.rails

theorem resetFor_withDeferred (s : State) (cause : Nat) (waited : BitVec 8) :
    ResetFor s cause waited ((s.fullReset cause).withDeferred waited) where
  reset := (wasReset_fullReset s cause).withDeferred waited
  causes i hi := by rw [State.bit_withDeferred _ _ _ hi, State.bit_fullReset _ _ _ hi]
  rails := by
    unfold State.withDeferred
    rw [State.rd_wr_param _ _ _ _ _ _ (by decide), State.rd_fullReset_brownoutRails]

/-- A command that ends in a reset state leaves that very state. -/
theorem done_of_wasReset (h : WasReset s t) : done t = .next t := congrArg _ (State.settle_of_settled h.settled)

/-! ### The sources of a full reset (R51 to R57, R64) -/

theorem State.cutFuses_of_not_fusing (h : s.fusing = false) : s.cutFuses = s := by
  unfold State.cutFuses
  split
  · rfl
  · rw [h, if_neg Bool.false_ne_true]

/-- While no fuse pair is being programmed every source resets at once. -/
theorem State.resetBy_of_not_fusing (hp : s.power.phase ≠ .unpowered) (hf : s.fusing = false) (cause : Nat) :
    s.resetBy cause = (s.fullReset cause).withDeferred s.power.deferredCauses := by
  unfold State.resetBy
  rw [if_neg hp, hf, if_neg (by simp), State.cutFuses_of_not_fusing hf]

theorem resetFor_resetBy (hp : s.power.phase ≠ .unpowered) (hf : s.fusing = false) (cause : Nat) :
    ResetFor s cause s.power.deferredCauses (s.resetBy cause) := by
  rw [State.resetBy_of_not_fusing hp hf]
  exact resetFor_withDeferred ..

/-- What every source but a brownout does while no fuse pair is being programmed. -/
theorem completes_resetBy {c : Instr} (cause : Nat) (hc : exec c s = done (s.resetBy cause))
    (hp : s.power.phase ≠ .unpowered) (hf : s.fusing = false) :
    Completes c s fun t => WasReset s t ∧
      (∀ i < 64, t.bit P.ResetCause 0 i =
        (s.bit P.ResetCause 0 i || i == cause || s.power.deferredCauses.getLsbD i)) ∧
      BitsSet P.BrownoutRails 0 [] s t := by
  have h := resetFor_resetBy hp hf cause
  exact ⟨_, hc.trans (done_of_wasReset h.reset), h.reset, h.causes, h.noRail⟩

theorem completes_brownout {rail : Fin 12} (hp : s.power.phase ≠ .unpowered) (hs : s.power.phase ≠ .struck)
    (hr : rail ≠ 11) (hf : s.fusing = false) :
    Completes (.brownout rail) s fun t => WasReset s t ∧
      (∀ i < 64, t.bit P.ResetCause 0 i = (s.bit P.ResetCause 0 i || i == 2 || s.power.deferredCauses.getLsbD i)) ∧
      BitsSet P.BrownoutRails 0 [11 - rail.val] s t := by
  have h := resetFor_resetBy hp hf Cause.brownout
  have reset := h.reset.raise (.inr rfl) 0 (11 - rail.val)
  have act : exec (.brownout rail) s = done ((s.resetBy Cause.brownout).raise P.BrownoutRails 0 (11 - rail.val)) :=
    if_neg (by simp [hp, hs, hr])
  refine ⟨_, act.trans (done_of_wasReset reset), reset, fun i hi => ?_, fun i hi => ?_⟩
  · rw [← h.causes i hi, State.bit_congr (State.rd_raise_param _ _ _ _ _ _ (by decide))]
  · rw [State.bit_raise _ _ _ _ _ hi, State.bit_congr h.rails, List.contains_cons, List.contains_nil, Bool.or_false]

/-! ### Fuses (R64, R65) -/

/-- The fuses a map over the three pairs leaves. -/
theorem getD_map_range {α : Type} {n i : Nat} (f : Nat → α) (d : α) (h : i < n) :
    ((List.range n).map f).getD i d = f i := by
  simp [List.getD, h]

/-- Cut short, the programming of a pair leaves at least one of its fuses blown and every other pair as it was. -/
theorem State.cutFuses_of_fusing {n : Byte} (hf : s.fusing = true) (hn : s.power.lifeChange = some n) :
    ∃ fuses count, s.cutFuses = { s with nv := { s.nv with fuses := fuses }, freeCount := count } ∧
      (1 ≤ n.toNat → n.toNat ≤ 3 →
        ((fuses.getD (n.toNat - 1) (false, false)).1 || (fuses.getD (n.toNat - 1) (false, false)).2) = true) ∧
      ∀ i < 3, i + 1 ≠ n.toNat → fuses.getD i (false, false) = s.nv.fuses.getD i (false, false) := by
  unfold State.cutFuses
  rw [hn, hf]
  refine ⟨_, _, rfl, fun low high => ?_, fun i hi other => ?_⟩
  · have pair : n.toNat - 1 + 1 = n.toNat := by omega
    rw [getD_map_range _ _ (by omega)]
    simp only [pair, if_true]
    generalize (Config.freeWord s.freeCount).getLsbD 1 = second
    cases second <;> simp
  · rw [getD_map_range _ _ hi]
    simp [other]

/-- A source other than the reset pin and the watchdog cuts the programming of a fuse pair short. -/
theorem State.resetBy_of_fusing (hp : s.power.phase ≠ .unpowered) {cause : Nat} (h1 : cause ≠ Cause.resetPin)
    (h3 : cause ≠ Cause.watchdog) :
    s.resetBy cause = (s.cutFuses.fullReset cause).withDeferred s.power.deferredCauses := by
  unfold State.resetBy
  rw [if_neg hp, if_neg (by simp [h1, h3])]

theorem exec_clockFault_of_locked {source : HardClock} {n : Nat} (hn : HardClock.bit source = some n)
    (locked : s.bit P.PllLockStatus 0 n = true) : exec (.clockFault source) s = done (s.resetBy Cause.clockFault) := by
  show execClockFault source s = _
  unfold execClockFault
  rw [hn]
  exact if_pos locked

/-- A clock fault during the programming of a fuse pair resets with one of its fuses blown at least. -/
theorem completes_clockFault_of_fusing {source : HardClock} {n : Byte} {b : Nat} (hp : s.power.phase ≠ .unpowered)
    (hf : s.fusing = true) (hn : s.power.lifeChange = some n) (low : 1 ≤ n.toNat) (high : n.toNat ≤ 3)
    (hb : HardClock.bit source = some b) (locked : s.bit P.PllLockStatus 0 b = true) :
    Completes (.clockFault source) s fun t => WasReset { s with nv := t.nv, freeCount := t.freeCount } t ∧
      (∀ i < 64, t.bit P.ResetCause 0 i = (s.bit P.ResetCause 0 i || i == 4 || s.power.deferredCauses.getLsbD i)) ∧
      t.nv = { s.nv with fuses := t.nv.fuses } ∧
      ((t.nv.fuses.getD (n.toNat - 1) (false, false)).1 || (t.nv.fuses.getD (n.toNat - 1) (false, false)).2) = true ∧
      (∀ i < 3, i + 1 ≠ n.toNat → t.nv.fuses.getD i (false, false) = s.nv.fuses.getD i (false, false)) ∧
      BitsSet P.BrownoutRails 0 [] s t := by
  obtain ⟨fuses, count, cut, blown, others⟩ := State.cutFuses_of_fusing hf hn
  have act := (exec_clockFault_of_locked hb locked).trans
    (congrArg done (State.resetBy_of_fusing hp (by decide : Cause.clockFault ≠ _) (by decide)))
  rw [cut] at act
  obtain ⟨reset, causes, rails⟩ := resetFor_withDeferred
    { s with nv := { s.nv with fuses := fuses }, freeCount := count } Cause.clockFault s.power.deferredCauses
  refine ⟨_, act.trans (done_of_wasReset reset), ?_⟩
  generalize State.withDeferred _ s.power.deferredCauses = t at reset causes rails ⊢
  rw [reset.nv, reset.freeCount]
  exact ⟨reset, causes, rfl, blown low high, others, bitsSet_nil rails⟩

theorem completes_struckWake (h : s.power.phase = .struck) : Completes .struckWake s fun t => WasReset s t ∧
    BitsSet P.ResetCause 0 [7] s t ∧ BitsSet P.BrownoutRails 0 [] s t := by
  have reset := wasReset_fullReset s Cause.struckWake
  have act : exec .struckWake s = done (s.fullReset Cause.struckWake) := if_pos h
  refine ⟨_, act.trans (done_of_wasReset reset), reset, fun i hi => ?_, bitsSet_nil (s.rd_fullReset_brownoutRails _)⟩
  rw [s.bit_fullReset _ _ hi, List.contains_cons, List.contains_nil, Bool.or_false]

/-- Settles O6, source by source: each is `State.resetBy` or `State.fullReset` with its own cause. -/
theorem fullResets : Obligations.FullResets := by
  unfold Obligations.FullResets
  refine ⟨?brownout, ?resetPin, ?watchdog, ?pll, ?reference, ?fusing, ?commanded, ?struck⟩
  case brownout => exact fun s rail ⟨powered, awake, inner, fuses⟩ => completes_brownout powered awake inner fuses
  case resetPin =>
    exact fun s ⟨powered, awake, fuses⟩ => completes_resetBy Cause.resetPin (if_neg awake) powered fuses
  case watchdog =>
    exact fun s ⟨powered, running, fuses⟩ => completes_resetBy Cause.watchdog (if_pos running) powered fuses
  case pll =>
    exact fun s source n ⟨powered, fuses, hn, locked⟩ =>
      completes_resetBy Cause.clockFault (exec_clockFault_of_locked hn locked) powered fuses
  case reference =>
    exact fun s ⟨powered, fuses, runs⟩ => completes_resetBy Cause.clockFault (if_pos runs) powered fuses
  case fusing =>
    exact fun s source n b ⟨powered, fuses, hn, low, high, hb, locked⟩ =>
      completes_clockFault_of_fusing powered fuses hn low high hb locked
  case commanded =>
    exact fun s ⟨powered, waits, fuses⟩ => completes_resetBy Cause.commanded (if_pos waits) powered fuses
  case struck => exact fun s h => completes_struckWake h

/-! ### Supply, fuses and the life cycle (R57, R63 to R66) -/

theorem completes_powerOn (s : State) : Completes .powerOn s fun t =>
    t = { State.reset with pending := s.pending, clock := s.clock, freeCount := s.freeCount, nv := s.nv } :=
  ⟨_, congrArg Host.Outcome.next (State.settle_of_settled ⟨rfl, rfl⟩), rfl⟩

theorem completes_vaoLoss (hf : s.fusing = false) : Completes .vaoLoss s fun t => t.power.phase = .unpowered ∧
    t.rd P.ResetCause 0 = 0 ∧ t.nv = s.nv ∧ t.dram = [] ∧ t.sram = [] ∧
    SameRegs [P.ResetCause] [] State.reset t ∧ t.pending = s.pending := by
  have act : exec .vaoLoss s = execVaoLoss s := rfl
  unfold execVaoLoss at act
  rw [State.cutFuses_of_not_fusing hf] at act
  refine ⟨_, act.trans (congrArg Host.Outcome.next (State.settle_of_settled ⟨rfl, rfl⟩)), rfl, ?_, rfl, rfl, rfl,
    fun p e _ _ hp _ => ?_, rfl⟩
  · rw [State.rd_wr_same]
  · rw [State.rd_wr_param _ _ _ _ _ _ fun h => hp (List.mem_singleton.mpr h)]
    rfl

theorem getD_blowPair {n i : Nat} (fs : List (Bool × Bool)) (hi : i < 3) :
    (blowPair n fs).getD i (false, false) = if i + 1 = n then (true, true) else fs.getD i (false, false) :=
  getD_map_range _ _ hi

theorem completes_fuseProgrammingDone {n : Byte} (hn : s.inClock.lifeChange = some n) :
    Completes .fuseProgrammingDone s fun t =>
      WasReset { s with nv := t.nv } t ∧ t.nv = { s.nv with fuses := t.nv.fuses } ∧
      (∀ i < 3, t.nv.fuses.getD i (false, false) =
        if i + 1 = n.toNat then (true, true) else s.nv.fuses.getD i (false, false)) ∧
      (∀ i < 64, t.bit P.ResetCause 0 i = (s.bit P.ResetCause 0 i || i == 6 || s.power.deferredCauses.getLsbD i)) ∧
      BitsSet P.BrownoutRails 0 [] s t := by
  have act : exec .fuseProgrammingDone s = execFuseProgrammingDone s := rfl
  unfold execFuseProgrammingDone at act
  rw [hn] at act
  obtain ⟨reset, causes, rails⟩ := resetFor_withDeferred
    { s with nv := { s.nv with fuses := blowPair n.toNat s.nv.fuses } } Cause.lifeCycle s.power.deferredCauses
  refine ⟨_, act.trans (done_of_wasReset reset), ?_⟩
  generalize State.withDeferred _ s.power.deferredCauses = t at reset causes rails ⊢
  rw [reset.nv]
  exact ⟨reset, rfl, fun i hi => getD_blowPair _ hi, causes, bitsSet_nil rails⟩

/-- A command that changes the power record alone. -/
theorem completes_power {c : Instr} {x : Power} (hc : exec c s = done { s with power := x }) :
    Completes c s fun t => t.power = x ∧ Frame [] [] [.power] s t :=
  ⟨_, hc, State.settle_power _, ((Frame.refl ..).power x (by decide)).settle⟩

/-- During the programming of a fuse pair the reset pin and the watchdog wait. -/
theorem State.resetBy_waits (hp : s.power.phase ≠ .unpowered) (hf : s.fusing = true) {cause : Nat}
    (hc : cause = Cause.resetPin ∨ cause = Cause.watchdog) :
    s.resetBy cause =
      { s with power := { s.power with deferredCauses := s.power.deferredCauses ||| BitVec.ofNat 8 (2 ^ cause) } } := by
  unfold State.resetBy
  rw [if_neg hp, if_pos ⟨hf, hc⟩]

theorem completes_retiredEraseDone (h : s.power.phase = .erasing) : Completes .retiredEraseDone s fun t =>
    t.power = { s.power with phase := .retired } ∧
    t.nv = { s.nv with bank0 := Bank.empty, bank1 := Bank.empty, helmKey := none, riggerKey := none, yardKey := none,
                       identitySecret := false } ∧ Frame [] [] [.power, .nonVolatile] s t := by
  have act : exec .retiredEraseDone s = done { s with
      nv := { s.nv with bank0 := Bank.empty, bank1 := Bank.empty, helmKey := none, riggerKey := none, yardKey := none,
                        identitySecret := false },
      power := { s.power with phase := .retired } } := if_pos h
  refine ⟨_, act, State.settle_power _, State.settle_nv _, Frame.settle ?_⟩
  exact (Frame.refl ..).parts rfl (by constructor <;> intros <;> first | rfl | exact ⟨rfl, rfl⟩ | contradiction)

/-- Settles O7, event by event. -/
theorem supplyAndLifeCycleChange : Obligations.SupplyAndLifeCycleChange := by
  unfold Obligations.SupplyAndLifeCycleChange
  refine ⟨completes_powerOn, fun s h => completes_vaoLoss h, fun s n h => completes_fuseProgrammingDone h, ?resetPin,
    ?watchdog, fun s h => completes_retiredEraseDone h, fun s => completes_power rfl⟩
  case resetPin =>
    exact fun s ⟨powered, awake, fuses⟩ => completes_power
      ((if_neg awake).trans (congrArg done (State.resetBy_waits powered fuses (.inl rfl))))
  case watchdog =>
    exact fun s ⟨powered, running, fuses⟩ => completes_power
      ((if_pos running).trans (congrArg done (State.resetBy_waits powered fuses (.inr rfl))))

end Sys2Proof.Machine
end

section
namespace Sys2Proof.Machine

variable {ps : List Nat} {es : List (Nat × Nat)} {fs : List Part} {s t u : State}

/-- A new record of Sheet. -/
theorem Frame.sheet (x : Sheet) (h : Frame ps es fs s t) (hf : .sheet ∈ fs) : Frame ps es fs s { t with sheet := x } :=
  h.parts rfl (by constructor <;> intros <;> first | rfl | exact ⟨rfl, rfl⟩ | contradiction)

/-! ### What serving a shroud port can do (R265, R274, R283) -/

/-- No frame of the port's show traffic belongs to a show frame: what it holds are announcements (R41). -/
def ShroudPort.Untagged (q : ShroudPort) : Prop := ∀ f ∈ q.shows, ∀ x ∈ f.frames, x.tag = none

/-- No port holds a frame of a show frame. -/
def State.Untagged (s : State) : Prop := ∀ p, (s.port p).Untagged

/-- `t` comes of `s` by serving shroud ports: of the values only those of egress change, of the parts only ports and
Sheet; Sheet's stop stands, and where no port holds a frame of a show frame none comes and none is noted as sent. -/
structure Serves (s t : State) : Prop where
  frame : Frame egressParams [] [.ports, .sheet] s t
  stopping : t.sheet.stopping = s.sheet.stopping
  untagged : s.Untagged → t.Untagged
  lastSent : s.Untagged → t.sheet.lastSent = s.sheet.lastSent

theorem Serves.refl (s : State) : Serves s s := ⟨Frame.refl .., rfl, id, fun _ => rfl⟩

theorem Serves.trans (h : Serves s t) (k : Serves t u) : Serves s u where
  frame := h.frame.trans k.frame
  stopping := k.stopping.trans h.stopping
  untagged hs := k.untagged (h.untagged hs)
  lastSent hs := (k.lastSent (h.untagged hs)).trans (h.lastSent hs)

theorem Serves.ite {c : Prop} {dec : Decidable c} (h : Serves s t) (k : Serves s u) :
    Serves s (if c then t else u) := by
  split
  · exact h
  · exact k

theorem Serves.foldl {α : Type} {f : State → α → State} {l : List α} (h : Serves s t)
    (hf : ∀ {u a}, Serves s u → Serves s (f u a)) : Serves s (l.foldl f t) :=
  List.foldlRecOn l f h fun _ k _ _ => hf k

/-- A change that leaves the ports, Sheet's stop and what it has noted as sent. -/
theorem Serves.of_ports (h : Serves s t) (frame : Frame egressParams [] [.ports, .sheet] t u)
    (stopping : u.sheet.stopping = t.sheet.stopping) (lastSent : u.sheet.lastSent = t.sheet.lastSent)
    (ports : u.ports = t.ports) : Serves s u :=
  h.trans {
    frame := frame
    stopping := stopping
    untagged := fun ht p => by
      unfold State.port
      rw [ports]
      exact ht p
    lastSent := fun _ => lastSent }

theorem Serves.setPort (h : Serves s t) {p : Nat} {q : ShroudPort}
    (hq : (t.port p).Untagged → q.Untagged := by exact fun h => h) : Serves s (t.setPort p q) :=
  h.trans {
    frame := (Frame.refl ..).setPort p q (by decide)
    stopping := rfl
    untagged := fun ht i => by
      rw [State.port_setPort]
      split
      · exact hq (ht p)
      · exact ht i
    lastSent := fun _ => rfl }

theorem Serves.setSheet (h : Serves s t) {x : Sheet} (stopping : x.stopping = t.sheet.stopping)
    (lastSent : x.lastSent = t.sheet.lastSent) : Serves s { t with sheet := x } :=
  h.of_ports ((Frame.refl ..).sheet x (by decide)) stopping lastSent rfl

section
variable {p e i n : Nat}

theorem Serves.wr {v : Wide} (h : Serves s t) (hp : p ∈ egressParams := by decide) : Serves s (t.wr p e v) :=
  h.of_ports ((Frame.refl ..).wr p e v (.inl hp)) rfl rfl rfl

theorem Serves.setBit {b : Bool} (h : Serves s t) (hp : p ∈ egressParams := by decide) :
    Serves s (t.setBit p e i b) := h.wr hp

theorem Serves.countBy (h : Serves s t) (hp : p ∈ egressParams := by decide) : Serves s (t.countBy p e n) :=
  h.of_ports ((Frame.refl ..).countBy p e n (.inl hp)) (by simp) (by simp) (by simp)

theorem Serves.count (h : Serves s t) (hp : p ∈ egressParams := by decide) : Serves s (t.count p e) := h.countBy hp

theorem Serves.traffic (h : Serves s t) (hp : p ∈ egressParams := by decide) : Serves s (t.traffic p e n) :=
  h.of_ports (((Frame.refl ..).quiet (State.tally_quiet t p e n) (KeepsRegs.of_regs rfl)).wr p e _ (.inl hp)) rfl rfl rfl

theorem Serves.event {cls : Nat} {a : Word} (h : Serves s t) : Serves s (t.event cls p e a) :=
  h.of_ports ((Frame.refl ..).event cls p e a) (by simp) (by simp) (by simp)

end

variable {p : Nat} {x : Egress}

theorem Serves.countShow (h : Serves s t) : Serves s (t.countShow p x) := by
  unfold State.countShow
  dsimp only
  have counted : Serves s ((t.traffic P.TxShowFrameCount p 1).traffic P.TxShowByteCount p x.len) := h.traffic.traffic
  split
  · exact counted.traffic
  · exact .ite counted.traffic counted
  · exact counted

/-- A frame of no show frame is not noted as sent with one. -/
theorem State.noteData_of_untagged (h : x.tag = none) : s.noteData p x = s := by
  unfold State.noteData
  split
  · next tagged =>
    rw [h] at tagged
    contradiction
  · rfl

theorem Serves.noteData (h : Serves s t) (hx : s.Untagged → x.tag = none) : Serves s (t.noteData p x) := by
  have noted : ∃ y, t.noteData p x = { t with sheet := y } ∧ y.stopping = t.sheet.stopping := by
    unfold State.noteData
    split
    · dsimp only
      split
      · exact ⟨_, rfl, rfl⟩
      · exact ⟨_, rfl, rfl⟩
    · exact ⟨_, rfl, rfl⟩
  obtain ⟨y, hy, stops⟩ := noted
  refine ⟨?_, ?_, fun hs => ?_, fun hs => ?_⟩
  · rw [hy]
    exact h.frame.sheet y (by decide)
  · rw [hy]
    exact stops.trans h.stopping
  · rw [State.noteData_of_untagged (hx hs)]
    exact h.untagged hs
  · rw [State.noteData_of_untagged (hx hs)]
    exact h.lastSent hs

theorem Serves.noteTerminated (h : Serves s t) : Serves s (t.noteTerminated p x) := by
  unfold State.noteTerminated
  split
  · exact h.setSheet rfl rfl
  · exact h

theorem Serves.countLate {d frame n : Nat} (h : Serves s t) : Serves s (t.countLate d frame n) := by
  unfold State.countLate
  dsimp only
  have dropped : Serves s (t.countBy P.LateDropCount d n) := h.countBy
  generalize t.countBy P.LateDropCount d n = a at dropped ⊢
  have late := Serves.ite (c := SMap.get none a.sheet.late d = some frame) (dec := inferInstance) dropped
    ((dropped.count (p := P.LateFrameCount) (e := d)).setSheet
      (x := { a.sheet with late := SMap.set none a.sheet.late d (some frame) }) (by simp) (by simp))
  exact .event (.ite late.setBit.wr.wr late)

theorem ShroudPort.Untagged.of_subset {q r : ShroudPort} (h : q.Untagged) (hr : r.shows ⊆ q.shows) : r.Untagged :=
  fun f hf => h f (hr hf)

theorem Serves.trimShow {n : Nat} (h : Serves s t) : Serves s (t.trimShow p n) := by
  induction n generalizing t with
  | zero => exact h
  | succ n ih =>
    unfold State.trimShow
    dsimp only
    split
    · exact h
    · next f fs shows =>
      have dropped : Serves s (t.setPort p { t.port p with shows := fs }) :=
        h.setPort fun q => q.of_subset (by simp [shows])
      split
      · exact ih dropped
      · exact .ite h (ih dropped.wr.countLate)

theorem Serves.discardPort (h : Serves s t) : Serves s (t.discardPort p) := by
  unfold State.discardPort
  dsimp only
  have discarded : Serves s (((t.port p).shows.flatMap (·.frames)).foldl (fun s x => s.countShow p x)
      (t.setPort p { t.port p with express := [], time := [], shows := [], bulk := [], sending := none })) :=
    (h.setPort fun q => q.of_subset (List.nil_subset _)).foldl fun k => k.countShow
  exact .ite discarded discarded.countBy

theorem Serves.enterLpi (h : Serves s t) : Serves s (t.enterLpi p) := by
  unfold State.enterLpi
  exact .ite h.setBit.setBit h

theorem Serves.servePort (h : Serves s t) : Serves s (t.servePort p) := by
  unfold State.servePort
  dsimp only
  refine .ite h.discardPort (.ite h ?_)
  split
  · exact h.setPort.traffic
  · split
    · exact .ite h.setPort.count h.setPort
    · exact h.setPort
  · have trimmed : Serves s (t.trimShow p ((t.port p).shows.length + 1)) := h.trimShow
    generalize t.trimShow p ((t.port p).shows.length + 1) = a at trimmed ⊢
    split
    · next f fs shows =>
      split
      · next x xs frames =>
        have sent : Serves s (a.setPort p { a.port p with
            sending := some x, shows := { f with frames := xs, sent := f.sent + 1 } :: fs }) :=
          trimmed.setPort fun hq g hg y hy => by
            rcases List.mem_cons.mp hg with rfl | hg
            · exact hq f (shows ▸ List.mem_cons_self) y (frames ▸ List.mem_cons_of_mem _ hy)
            · exact hq g (shows ▸ List.mem_cons_of_mem _ hg) y hy
        have head : s.Untagged → x.tag = none := fun hs =>
          trimmed.untagged hs p f (shows ▸ List.mem_cons_self) x (frames ▸ List.mem_cons_self)
        exact (sent.countShow.noteData head).noteTerminated
      · exact trimmed
    · exact trimmed.setPort
    · exact trimmed.enterLpi

/-- The ports are served one after another. -/
theorem serves_servePorts (s : State) : Serves s ((List.range 64).foldl (fun s p => s.servePort p) s) :=
  (Serves.refl s).foldl fun h => h.servePort

/-- No value but egress's and the housekeeping's changes while the ports are served. -/
theorem Serves.rd (h : Serves s t) {q f : Nat} (hf : f < 256) (hq : q ∉ housekeeping) (he : q ∉ egressParams) :
    t.rd q f = s.rd q f := h.frame.1 q f hf hq he List.not_mem_nil

end Sys2Proof.Machine
end

section
namespace Sys2Proof.Machine

variable {s t : State}

/-! ### The lock bit of a PLL (R53) -/

/-- A bit of StayStatus that is put on several ports in turn. -/
theorem State.bit_foldl_stayStatus {l : List Nat} {p : Nat} (b : Bool) (hl : ∀ x ∈ l, x < 256) (hp : p < 256) :
    (l.foldl (fun s x => s.setBit P.StayStatus x 6 (b && s.stayEnabled x)) s).bit P.StayStatus p 6 =
      if p ∈ l then b && s.stayEnabled p else s.bit P.StayStatus p 6 := by
  induction l generalizing s with
  | nil => rfl
  | cons a l ih =>
    have enabled : (s.setBit P.StayStatus a 6 (b && s.stayEnabled a)).stayEnabled p = s.stayEnabled p :=
      State.bit_congr (State.rd_setBit_param _ _ _ _ _ _ _ (by decide)) 0
    rw [List.foldl_cons, ih fun x hx => hl x (List.mem_cons_of_mem _ hx), enabled]
    by_cases ha : p = a
    · subst ha
      rw [State.bit_setBit_same _ _ _ _ _ (by decide)]
      simp
    · have apart : p % 256 ≠ a % 256 := by
        have := hl a List.mem_cons_self
        omega
      have other : (s.setBit P.StayStatus a 6 (b && s.stayEnabled a)).bit P.StayStatus p 6 = s.bit P.StayStatus p 6 :=
        State.bit_congr (State.rd_wr_other _ _ _ _ _ _ (.inr apart)) 6
      rw [other]
      simp [ha]

/-- Only the lock bits change: those of P1030, and SPLL's on the stay ports. -/
theorem State.frame_setLock (s : State) (n : Nat) (b : Bool) :
    Frame (if n = 2 then [P.StayStatus] else []) [(P.PllLockStatus, 0)] [] s (s.setLock n b) := by
  unfold State.setLock
  dsimp only
  have own : ∀ ps, Frame ps [(P.PllLockStatus, 0)] [] s (s.setBit P.PllLockStatus 0 n b) := fun ps =>
    (Frame.refl ..).setBit _ _ _ _ (.inr (.inr List.mem_cons_self))
  split
  · exact Frame.foldl _ (fun t p => (Frame.refl ..).setBit _ _ _ _ (.inl List.mem_cons_self)) _ (own _)
  · exact own _

theorem State.bit_setLock (s : State) (n i : Nat) (b : Bool) (hi : i < 64) :
    (s.setLock n b).bit P.PllLockStatus 0 i = if i = n then b else s.bit P.PllLockStatus 0 i := by
  rw [← State.bit_setBit _ _ _ _ _ _ hi]
  unfold State.setLock
  dsimp only
  split
  · refine State.bit_congr (List.foldlRecOn (motive := fun t : State =>
      t.rd P.PllLockStatus 0 = (s.setBit P.PllLockStatus 0 n b).rd P.PllLockStatus 0) _ _ rfl fun t ht p _ => ?_) i
    rw [State.rd_setBit_param _ _ _ _ _ _ _ (by decide), ht]
  · rfl

theorem State.bit_setLock_spll (s : State) (b : Bool) {p : Nat} (hp : p < 4) :
    (s.setLock 2 b).bit P.StayStatus p 6 = (b && s.stayEnabled p) := by
  unfold State.setLock
  dsimp only
  rw [if_pos rfl, State.bit_foldl_stayStatus b (by decide) (by omega), if_pos (List.mem_range.mpr hp)]
  exact congrArg (b && ·) (State.bit_congr (State.rd_setBit_param _ _ _ _ _ _ _ (by decide)) 0)

/-! ### A stay link goes down (R145) -/

theorem State.rd_stayDown (s : State) (p q f : Nat) (hq : q ∉ housekeeping) (hc : q ≠ P.LinkDownCount_P302C)
    (hs : q ≠ P.StayStatus) : (s.stayDown p).rd q f = s.rd q f := by
  unfold State.stayDown
  dsimp only
  split
  · rw [State.rd_count _ _ _ _ _ hc hq, State.rd_setBit_param _ _ _ _ _ _ _ hs,
      State.rd_setBit_param _ _ _ _ _ _ _ hs]
  · rw [State.rd_setBit_param _ _ _ _ _ _ _ hs, State.rd_setBit_param _ _ _ _ _ _ _ hs]

/-- Of the port's status, LinkUp and the FEC bit go; another port's status stands. -/
theorem State.bit_stayDown (s : State) {p q i : Nat} (hp : p < 256) (hq : q < 256) (hi : i < 64) :
    (s.stayDown p).bit P.StayStatus q i =
      if q = p ∧ (i = 0 ∨ i = 4) then false else s.bit P.StayStatus q i := by
  have cleared : (s.stayDown p).rd P.StayStatus q =
      ((s.setBit P.StayStatus p 0 false).setBit P.StayStatus p 4 false).rd P.StayStatus q := by
    unfold State.stayDown
    dsimp only
    split
    · exact State.rd_count _ _ _ _ _ (by decide) (by decide)
    · rfl
  rw [State.bit_congr cleared]
  by_cases hqp : q = p
  · subst hqp
    rw [State.bit_setBit _ _ _ _ _ _ hi, State.bit_setBit _ _ _ _ _ _ hi]
    by_cases h4 : i = 4 <;> simp [h4]
  · have apart : q % 256 ≠ p % 256 := by omega
    rw [if_neg (fun h => hqp h.1)]
    exact State.bit_congr
      ((State.rd_wr_other _ _ _ _ _ _ (.inr apart)).trans (State.rd_wr_other _ _ _ _ _ _ (.inr apart))) i

theorem State.bit_foldl_stayDown {l : List Nat} {q i : Nat} (hl : ∀ x ∈ l, x < 256) (hq : q < 256) (hi : i < 64) :
    (l.foldl State.stayDown s).bit P.StayStatus q i =
      if q ∈ l ∧ (i = 0 ∨ i = 4) then false else s.bit P.StayStatus q i := by
  induction l generalizing s with
  | nil => simp
  | cons a l ih =>
    rw [List.foldl_cons, ih fun x hx => hl x (List.mem_cons_of_mem _ hx),
      State.bit_stayDown _ (hl a List.mem_cons_self) hq hi]
    by_cases hqa : q = a
    · by_cases hc : i = 0 ∨ i = 4
      · simp only [hqa, hc, List.mem_cons, true_or, and_self, if_true, ite_self]
      · simp only [hc, and_false, if_false]
    · simp only [List.mem_cons, hqa, false_or, false_and, if_false]

/-! ### Loss of lock (R53) -/

/-- A PLL loses lock: its bit clears, the loss is counted and logged. -/
def State.loseLock (s : State) (n : Nat) : State :=
  ((s.setLock n false).count P.PllLossCount 0).log 0x11 0x0010 n 0 0

theorem exec_pllLossOfLock {pll : SoftPll} (locked : s.bit P.PllLockStatus 0 (SoftPll.bit pll) = true) :
    exec (.pllLossOfLock pll) s = done (if SoftPll.bit pll = 2
      then (List.range 4).foldl State.stayDown (s.loseLock (SoftPll.bit pll)) else s.loseLock (SoftPll.bit pll)) := by
  show execPllLossOfLock pll s = _
  unfold execPllLossOfLock
  dsimp only
  rw [if_pos locked]
  split
  · rfl
  · rfl

/-- A count of one on a counter that holds a 32-bit value (R11). -/
theorem toNat_counted_one {v : Wide} (h : v.toNat < 2 ^ 32) : (counted v 1).toNat = min 0xFFFFFFFF (v.toNat + 1) := by
  unfold counted counterMax
  split
  · omega
  · split
    · show (4294967295 : Nat) = _
      omega
    · rw [BitVec.toNat_ofNat]
      omega

theorem State.rd_loseLock (s : State) (n q f : Nat) (hq : q ∉ housekeeping) (hc : q ≠ P.PllLossCount) :
    (s.loseLock n).rd q f = (s.setLock n false).rd q f := by
  unfold State.loseLock
  rw [State.rd_log _ _ _ _ _ _ _ _ hq, State.rd_count _ _ _ _ _ hc hq]

theorem State.rdN_loseLock (s : State) (n : Nat) (h : s.rdN P.PllLossCount 0 < 2 ^ 32) :
    (s.loseLock n).rdN P.PllLossCount 0 = min 0xFFFFFFFF (s.rdN P.PllLossCount 0 + 1) := by
  have held : (s.setLock n false).rd P.PllLossCount 0 = s.rd P.PllLossCount 0 :=
    (s.frame_setLock n false).1 _ _ (by decide) (by decide) (by split <;> decide) (by decide)
  unfold State.rdN State.loseLock at *
  rw [State.rd_log _ _ _ _ _ _ _ _ (by decide), State.rd_count_same _ _ _ (by decide), held, toNat_counted_one h]

/-- HPLL and KPLL: nothing else changes. -/
theorem completes_pllLossOfLock {pll : SoftPll} {n : Nat} (hn : SoftPll.bit pll = n) (h2 : n ≠ 2)
    (locked : s.bit P.PllLockStatus 0 n = true) (count : s.rdN P.PllLossCount 0 < 2 ^ 32) :
    Completes (.pllLossOfLock pll) s fun t =>
      (∀ i < 7, t.bit P.PllLockStatus 0 i = (s.bit P.PllLockStatus 0 i && i != n)) ∧
      t.rdN P.PllLossCount 0 = min 0xFFFFFFFF (s.rdN P.PllLossCount 0 + 1) ∧
      Frame [] [(P.PllLockStatus, 0), (P.PllLossCount, 0)] [.wdp] s t := by
  subst hn
  have act := exec_pllLossOfLock locked
  rw [if_neg h2] at act
  refine ⟨_, act, fun i hi => ?_, ?_, ?_⟩
  · rw [State.bit_congr (State.rd_settle _ _ _ (by decide)),
      State.bit_congr (s.rd_loseLock _ _ _ (by decide) (by decide)), s.bit_setLock _ i false (by omega)]
    by_cases hin : i = SoftPll.bit pll <;> simp [hin]
  · unfold State.rdN
    rw [State.rd_settle _ _ _ (by decide)]
    exact s.rdN_loseLock _ count
  · have lock := s.frame_setLock (SoftPll.bit pll) false
    rw [if_neg h2] at lock
    exact (((lock.weaken (by simp) (by simp) (by simp)).count _ _ (by decide)).log ..).settle

/-- SPLL: every stay link goes down too. -/
theorem completes_pllLossOfLock_spll (locked : s.bit P.PllLockStatus 0 2 = true)
    (count : s.rdN P.PllLossCount 0 < 2 ^ 32) :
    Completes (.pllLossOfLock .spll) s fun t => t.bit P.PllLockStatus 0 2 = false ∧
      (∀ p < 4, t.bit P.StayStatus p 0 = false ∧ t.bit P.StayStatus p 6 = false) ∧
      t.rdN P.PllLossCount 0 = min 0xFFFFFFFF (s.rdN P.PllLossCount 0 + 1) := by
  have kept : ∀ q f, q ∉ housekeeping → q ≠ P.LinkDownCount_P302C → q ≠ P.StayStatus →
      ((List.range 4).foldl State.stayDown (s.loseLock 2)).settle.rd q f = (s.loseLock 2).rd q f := by
    intro q f hq hc hs
    rw [State.rd_settle _ _ _ hq]
    exact List.foldlRecOn (motive := fun t : State => t.rd q f = (s.loseLock 2).rd q f) _ _ rfl
      fun t ht p _ => (t.rd_stayDown p q f hq hc hs).trans ht
  have status : ∀ p < 4, ∀ i < 64, ((List.range 4).foldl State.stayDown (s.loseLock 2)).settle.bit P.StayStatus p i =
      if i = 0 ∨ i = 4 then false else (s.setLock 2 false).bit P.StayStatus p i := by
    intro p hp i hi
    rw [State.bit_congr (State.rd_settle _ _ _ (by decide)),
      State.bit_foldl_stayDown (l := List.range 4) (by decide) (by omega) hi,
      State.bit_congr (s.rd_loseLock 2 _ _ (by decide) (by decide))]
    simp only [List.mem_range, hp, true_and]
  refine ⟨_, exec_pllLossOfLock locked, ?_, fun p hp => ⟨?_, ?_⟩, ?_⟩
  · have lock := s.rd_loseLock 2 P.PllLockStatus 0 (by decide) (by decide)
    exact (State.bit_congr ((kept _ _ (by decide) (by decide) (by decide)).trans lock) 2).trans
      (s.bit_setLock 2 2 false (by decide))
  · exact status p hp 0 (by decide)
  · exact (status p hp 6 (by decide)).trans (s.bit_setLock_spll false hp)
  · refine Eq.trans (congrArg BitVec.toNat (kept _ _ (by decide) (by decide) (by decide))) ?_
    exact s.rdN_loseLock 2 count

/-! ### A relock attempt (R53) -/

/-- The state after an attempt that locks: the lock bits, then the shroud transmitters go on. -/
theorem exec_pllRelockAttempt_of_wanted {pll : SoftPll} (h : s.pllWanted pll = true) :
    ∃ u, exec (.pllRelockAttempt pll true) s = done u ∧ Serves (s.setLock (SoftPll.bit pll) true) u :=
  ⟨_, if_pos (by rw [h]; rfl), serves_servePorts _⟩

theorem completes_pllRelockAttempt {pll : SoftPll} (h : s.pllWanted pll = true) :
    Completes (.pllRelockAttempt pll true) s fun t =>
      (∀ i < 7, t.bit P.PllLockStatus 0 i = (s.bit P.PllLockStatus 0 i || i == SoftPll.bit pll)) ∧
      ∀ p < 4, t.rd P.StayStatus p = (s.setLock (SoftPll.bit pll) true).rd P.StayStatus p := by
  obtain ⟨u, act, served⟩ := exec_pllRelockAttempt_of_wanted h
  refine ⟨_, act, fun i hi => ?_, fun p hp => ?_⟩
  · rw [State.bit_congr (State.rd_settle _ _ _ (by decide)),
      State.bit_congr (served.rd (by decide) (by decide) (by decide)), s.bit_setLock _ i true (by omega)]
    by_cases hin : i = SoftPll.bit pll <;> simp [hin]
  · rw [State.rd_settle _ _ _ (by decide), served.rd (by omega) (by decide) (by decide)]

theorem completes_pllRelockAttempt_idle {pll : SoftPll} {locked : Bool} (h : (locked && s.pllWanted pll) = false) :
    Completes (.pllRelockAttempt pll locked) s fun t => Frame [] [] [] s t :=
  ⟨_, if_neg (by rw [h]; exact Bool.false_ne_true), (Frame.refl ..).settle⟩

/-- Settles O14, clause by clause: the losses of HPLL, KPLL and SPLL, the attempts that lock, and those that change
nothing. -/
theorem pllLockEvents : Obligations.PllLockEvents := by
  unfold Obligations.PllLockEvents
  refine ⟨?lossHpll, ?lossKpll, ?lossSpll, ?kpll, ?hpll, ?spll, ?unwanted, ?fails⟩
  case lossHpll => exact fun s ⟨locked, count⟩ => completes_pllLossOfLock rfl (by decide) locked count
  case lossKpll => exact fun s ⟨locked, count⟩ => completes_pllLossOfLock rfl (by decide) locked count
  case lossSpll => exact fun s ⟨locked, count⟩ => completes_pllLossOfLock_spll locked count
  case kpll =>
    intro s h
    obtain ⟨t, ht, bits, -⟩ := completes_pllRelockAttempt h
    exact ⟨t, ht, bits⟩
  case hpll =>
    intro s h
    obtain ⟨t, ht, bits, -⟩ := completes_pllRelockAttempt h
    exact ⟨t, ht, bits⟩
  case spll =>
    intro s h
    obtain ⟨t, ht, bits, stay⟩ := completes_pllRelockAttempt h
    refine ⟨t, ht, bits, fun p hp => ?_⟩
    rw [State.bit_congr (stay p hp)]
    exact s.bit_setLock_spll true hp
  case unwanted => exact fun s pll h => completes_pllRelockAttempt_idle (by rw [h]; rfl)
  case fails => exact fun s pll => completes_pllRelockAttempt_idle rfl

end Sys2Proof.Machine
end

section
namespace Sys2Proof.Machine

variable {s t : State}

/-! ### The announcements before an orderly stop (R41) -/

/-- An announcement belongs to no show frame. -/
theorem Serves.terminate {p u k : Nat} (h : Serves s t) : Serves s (t.terminate p u k) := by
  unfold State.terminate
  dsimp only
  have queued : ∀ (packet : Nat → Egress) (seqs : List Nat), (∀ n, (packet n).tag = none) →
      Serves s (t.setPort p { t.port p with shows := (t.port p).shows ++
        [{ frame := k, close := 0, frames := seqs.map packet, sent := 0, wire := 0 }] }) := by
    refine fun packet seqs untagged => h.setPort fun hq f hf x hx => ?_
    rcases List.mem_append.mp hf with hf | hf
    · exact hq f hf x hx
    · rw [List.mem_singleton.mp hf] at hx
      obtain ⟨n, -, rfl⟩ := List.mem_map.mp hx
      exact untagged n
  exact .ite (queued _ _ fun _ => rfl) ((queued _ _ fun _ => rfl).setSheet rfl rfl)

/-- Sheet stops, and the show frames that are queued are discarded. -/
def State.haltShow (s : State) : State :=
  { s with sheet := { s.sheet with stopping := true }
           ports := s.ports.map fun x => (x.1, { x.2 with shows := [] })
           stay := s.stay.map fun x => (x.1, { x.2 with cascade := [] }) }

/-- Every universe that was being sent is terminated, and none counts as sent any more. -/
def State.terminateSent (s : State) : State :=
  let t := s.sheet.lastSent.foldl (fun (t : State) x => match x.2 with
    | some k =>
      if t.portOn (x.1 / 65536) && t.sacnMode (x.1 / 65536) then t.terminate (x.1 / 65536) (x.1 % 65536) k else t
    | none => t) s
  { t with sheet := { t.sheet with lastSent := [], dataFrame := [] } }

theorem State.announceStop_of_running (h : s.sheet.stopping = false) :
    s.announceStop = (List.range 64).foldl (fun s p => s.servePort p) s.haltShow.terminateSent := by
  unfold State.announceStop
  rw [h, if_neg Bool.false_ne_true]
  rfl

theorem State.announceStop_of_stopping (h : s.sheet.stopping = true) : s.announceStop = s := if_pos h

theorem SMap.find_map {V : Type} (g : V → V) (m : SMap V) (k : Nat) :
    SMap.find (m.map fun x => (x.1, g x.2)) k = (SMap.find m k).map g := by
  induction m with
  | nil => rfl
  | cons x m ih =>
    simp only [List.map_cons, SMap.find, ih]
    split <;> rfl

theorem State.untagged_haltShow (s : State) : s.haltShow.Untagged := by
  intro p
  have none_left : (s.haltShow.port p).shows = [] := by
    unfold State.port State.haltShow SMap.get
    rw [SMap.find_map fun q : ShroudPort => { q with shows := [] }]
    cases SMap.find s.ports p <;> rfl
  intro f hf
  rw [none_left] at hf
  contradiction

/-- What the announcements may change, and how they leave Sheet. -/
theorem State.announceStop_spec (h : s.sheet.stopping = false) :
    Frame egressParams [] [.ports, .sheet, .stay] s s.announceStop ∧ s.announceStop.sheet.stopping = true ∧
      s.announceStop.sheet.lastSent = [] := by
  have halted : Frame egressParams [] [.ports, .sheet, .stay] s s.haltShow :=
    (Frame.refl ..).parts rfl (by constructor <;> intros <;> first | rfl | exact ⟨rfl, rfl⟩ | contradiction)
  obtain ⟨u, terminated, hu⟩ : ∃ u, Serves s.haltShow u ∧
      s.haltShow.terminateSent = { u with sheet := { u.sheet with lastSent := [], dataFrame := [] } } := by
    refine ⟨_, (Serves.refl s.haltShow).foldl fun {t x} k => ?_, rfl⟩
    split
    · exact .ite k.terminate k
    · exact k
  have served := serves_servePorts s.haltShow.terminateSent
  rw [State.announceStop_of_running h]
  generalize (List.range 64).foldl (fun s p => s.servePort p) s.haltShow.terminateSent = v at served ⊢
  rw [hu] at served
  refine ⟨(halted.trans ?_).trans (served.frame.weaken (by simp) (by simp) (by simp)), ?_, ?_⟩
  · exact (terminated.frame.weaken (by simp) (by simp) (by simp)).sheet _ (by decide)
  · exact served.stopping.trans terminated.stopping
  · exact served.lastSent (terminated.untagged s.untagged_haltShow)

/-- Announced or under way already, the stop leaves all but egress as it was. -/
theorem State.frame_announceStop (s : State) : Frame egressParams [] [.ports, .sheet, .stay] s s.announceStop ∧
    s.announceStop.sheet.stopping = true := by
  cases h : s.sheet.stopping with
  | false =>
    obtain ⟨frame, stopping, -⟩ := State.announceStop_spec h
    exact ⟨frame, stopping⟩
  | true =>
    rw [State.announceStop_of_stopping h]
    exact ⟨Frame.refl .., h⟩

/-! ### A granted write of areas P0 and P1 -/

/-- The row of a write-only scalar that is neither stored nor mirrored, of a write level and a range from 0. -/
def requestRow (p : Nat) (ty : PType) (level hi mask : Nat) : Row :=
  ⟨p, ty, .wo, 1, 0, level, 0, hi, mask, 0, 0, false, false, false, .none, 0⟩

theorem row_lifeCycleRequest : Dict.row P.LifeCycleRequest = some (requestRow P.LifeCycleRequest .enum 1 3 0xFF) := by
  decide +kernel

theorem row_lifeCycleConfirm :
    Dict.row P.LifeCycleConfirm = some (requestRow P.LifeCycleConfirm .u32 1 0xFFFFFFFF 0xFFFFFFFF) := by
  decide +kernel

theorem row_resetRequest :
    Dict.row P.ResetRequest = some (requestRow P.ResetRequest .u32 2 0xFFFFFFFF 0xFFFFFFFF) := by
  decide +kernel

theorem row_watchdogService :
    Dict.row P.WatchdogService = some (requestRow P.WatchdogService .u32 1 0xFFFFFFFF 0xFFFFFFFF) := by
  decide +kernel

/-- A parameter of areas P0 and P1 that is neither mirrored nor decides a group's membership does its own effect
alone. -/
theorem State.writeElement_of_write01 {via : Via} {r : Row} {e : Nat} {v : Wide}
    (area : r.num / 0x1000 = 0 ∨ r.num / 0x1000 = 1) (groups : groupParams.contains r.num = false)
    (own : r.mirrored = false) : s.writeElement via r e v = s.write01 via r e v := by
  have effect : s.writeElement via r e v =
      if (s.write01 via r e v).2 = 0 then (State.mirrorWrite (s.write01 via r e v).1 via r e v, 0)
      else s.write01 via r e v := by
    unfold State.writeElement
    rcases area with area | area <;>
    · rw [area]
      simp only [groups, Bool.false_eq_true, if_false]
  have unmirrored : ∀ u : State, u.mirrorWrite via r e v = u := fun u => by
    unfold State.mirrorWrite
    rw [own]
    rfl
  rw [effect, unmirrored]
  split
  · next ok => rw [← ok]
  · rfl

/-- An answer changes nothing but the answer. -/
theorem frame_answerOne (s : State) (rq : Requester) (a : Byte) : Frame [] [] [.answer] s (s.answerOne rq a []) :=
  (Frame.refl ..).answerOne rq a [] (by decide)

/-! ### The arbiter's turn: a note of the clock alone (R91) -/

theorem frame_arbitrate (s : State) (rq : Requester) (ps : List Nat) (es : List (Nat × Nat)) (fs : List Part) :
    Frame ps es fs s (s.arbitrate rq) := by
  obtain ⟨n, hn⟩ := s.arbitrate_eq rq
  rw [hn]
  exact (Frame.refl ..).now n

@[simp] theorem State.arbitrate_regs (s : State) (rq : Requester) : (s.arbitrate rq).regs = s.regs := by
  obtain ⟨n, hn⟩ := s.arbitrate_eq rq
  rw [hn]

@[simp] theorem State.arbitrate_power (s : State) (rq : Requester) : (s.arbitrate rq).power = s.power := by
  obtain ⟨n, hn⟩ := s.arbitrate_eq rq
  rw [hn]

@[simp] theorem State.arbitrate_clock (s : State) (rq : Requester) : (s.arbitrate rq).clock = s.clock := by
  obtain ⟨n, hn⟩ := s.arbitrate_eq rq
  rw [hn]

@[simp] theorem State.arbitrate_sheet (s : State) (rq : Requester) : (s.arbitrate rq).sheet = s.sheet := by
  obtain ⟨n, hn⟩ := s.arbitrate_eq rq
  rw [hn]

@[simp] theorem State.arbitrate_inTransition (s : State) (rq : Requester) :
    (s.arbitrate rq).inTransition = s.inTransition :=
  State.bit_congr (State.rd_congr (s.arbitrate_regs rq) _ _) 3

@[simp] theorem State.arbitrate_via (s : State) (rq : Requester) : (s.arbitrate rq).via rq = s.via rq := by
  obtain ⟨n, hn⟩ := s.arbitrate_eq rq
  rw [hn]
  rfl

@[simp] theorem State.arbitrate_lifePermitted (s : State) (rq : Requester) (target level : Nat) :
    (s.arbitrate rq).lifePermitted target level = s.lifePermitted target level := by
  obtain ⟨n, hn⟩ := s.arbitrate_eq rq
  rw [hn]
  rfl

/-- A value that a frame does not name. -/
theorem Frame.rd {ps : List Nat} {es : List (Nat × Nat)} {fs : List Part} (h : Frame ps es fs s t) {q f : Nat}
    (hf : f < 256) (hq : q ∉ housekeeping) (hp : q ∉ ps) (he : (q, f) ∉ es) : t.rd q f = s.rd q f := h.1 q f hf hq hp he

/-- A granted write whose own effect keeps the room of a response answers the effect's status. What the effect leaves
stands, the answer aside. -/
theorem completes_write01 {c : Instr} {rq : Requester} {p v : Nat} {ty : PType} {level hi mask : Nat} {u : State}
    {a : Byte} {ps : List Nat} {fs : List Part} (act : exec c s = done (s.serveOne rq p 0 v))
    (row : Dict.row p = some (requestRow p ty level hi mask))
    (kind : (p / 0x1000 = 0 ∨ p / 0x1000 = 1) ∧ groupParams.contains p = false ∧ ty ≠ .str ∧ ty ≠ .blob ∧ p ≠ P.CueWrite)
    (granted : s.grants rq p 0 v = true)
    (effect : (s.arbitrate rq).write01 (s.via rq) (requestRow p ty level hi mask) 0 (BitVec.ofNat 64 v) = (u, a))
    (frame : Frame ps [] (.answer :: fs) (s.arbitrate rq) u) (room : P.WdpMaxResponse ∉ ps) :
    Completes c s fun t => t.wdp.answer = ⟨a, []⟩ ∧ Frame [] [] [.answer] u t ∧ Frame ps [] (.answer :: fs) s t := by
  obtain ⟨area, groups, str, blob, cue⟩ := kind
  have one := s.serveOne_of_grants rq p 0 v _ row rfl ⟨str, blob⟩ cue granted
  rw [State.writeElement_of_write01 area groups rfl, State.arbitrate_via, effect] at one
  have kept := (frame_arbitrate s rq _ _ _).trans frame
  have answered := (frame_answerOne u rq a).settle
  refine ⟨_, act.trans (congrArg done one), ?_, answered, kept.trans (answered.weaken (by simp) (by simp) (by simp))⟩
  rw [State.settle_wdp_answer, State.answerOne_answer]
  rw [State.responseLimit_congr (kept.rd (by decide) (by decide) room (by decide))]
  exact State.responseLimit_of_grants granted

/-! ### The watchdog service and the commanded reset (R56) -/

theorem completes_watchdogService {rq : Requester} {value : Word}
    (granted : s.grants rq P.WatchdogService 0 value.toNat = true) :
    Completes (.watchdogService rq value) s fun t => t.wdp.answer = ⟨0, []⟩ ∧
      t.power = { s.power with serviced := s.clock } ∧ Frame [] [] [.power, .answer] s t := by
  have serviced : Frame [] [] [.answer, .power] (s.arbitrate rq) (s.arbitrate rq).serviceWatchdog :=
    (Frame.refl ..).power _ (by decide)
  obtain ⟨t, ht, answer, ⟨-, parts⟩, frame⟩ :=
    completes_write01 (c := .watchdogService rq value) rfl row_watchdogService (by decide) granted rfl serviced
      (by decide)
  refine ⟨t, ht, answer, (parts.power (by decide)).trans ?_,
    frame.weaken (fun _ h => h) (fun _ h => h) (by simp)⟩
  simp [State.serviceWatchdog]

/-- A written word is the number it spells. -/
theorem toNat_ofNat_word (value : Word) : (BitVec.ofNat 64 value.toNat).toNat % 2 ^ 32 = value.toNat := by
  have := value.isLt
  rw [BitVec.toNat_ofNat]
  omega

/-- P1020 written with another value than the key: an entry in the log. -/
theorem State.requestReset_of_ne {value : Word} (h : value ≠ 0xA55A) :
    s.requestReset (BitVec.ofNat 64 value.toNat) =
      (s.log 0x11 0x0011 0 ((BitVec.ofNat 64 value.toNat).setWidth 32) 0, 0) := by
  have other : value.toNat ≠ 0xA55A := fun e => h (BitVec.eq_of_toNat_eq e)
  unfold State.requestReset
  rw [toNat_ofNat_word, if_pos other]

/-- P1020 written with the key. -/
theorem State.requestReset_of_key : s.requestReset (BitVec.ofNat 64 (0xA55A : Word).toNat) =
    if s.inTransition then (s, 1) else if s.power.resetPending then (s, 0)
    else (State.announceStop { s with power := { s.power with resetPending := true } }, 0) := by
  unfold State.requestReset
  rw [if_neg (by decide)]

theorem completes_resetRequest {rq : Requester} (granted : s.grants rq P.ResetRequest 0 0xA55A = true)
    (still : s.inTransition = false) (idle : s.power.resetPending = false) (running : s.sheet.stopping = false) :
    Completes (.resetRequest rq 0xA55A) s fun t => t.wdp.answer = ⟨0, []⟩ ∧
      t.power = { s.power with resetPending := true } ∧ t.sheet.stopping = true ∧ t.sheet.lastSent = [] ∧
      SameParts [.answer, .power, .sheet, .ports, .free, .stay, .capstan, .time] s t := by
  have accepted := State.requestReset_of_key (s := s.arbitrate rq)
  rw [State.arbitrate_inTransition, still, if_neg Bool.false_ne_true, State.arbitrate_power, idle,
    if_neg Bool.false_ne_true] at accepted
  obtain ⟨stop, stopping, lastSent⟩ := State.announceStop_spec
    (s := { s.arbitrate rq with power := { s.power with resetPending := true } })
    ((congrArg Sheet.stopping (s.arbitrate_sheet rq)).trans running)
  have effect : Frame egressParams [] [.answer, .power, .ports, .sheet, .stay] (s.arbitrate rq) _ :=
    ((Frame.refl ..).power _ (by decide)).trans (stop.weaken (by simp) (by simp) (by simp))
  obtain ⟨t, ht, answer, ⟨-, parts⟩, frame⟩ := completes_write01 (c := .resetRequest rq 0xA55A) (v := 0xA55A) rfl
    row_resetRequest (by decide) granted accepted effect (by decide)
  have sheet := parts.sheet (by decide)
  refine ⟨t, ht, answer, (parts.power (by decide)).trans (stop.2.power (by decide)), ?_, ?_,
    (frame.weaken (fun _ h => h) (fun _ h => h) (by simp)).2⟩
  · rw [sheet, stopping]
  · rw [sheet, lastSent]

/-- A value that starts no reset is answered, Busy where it is the key during a transition. -/
theorem State.requestReset_idle {value : Word}
    (h : value ≠ 0xA55A ∨ s.inTransition = true ∨ s.power.resetPending = true) :
    ∃ u, s.requestReset (BitVec.ofNat 64 value.toNat) = (u, if value = 0xA55A ∧ s.inTransition then 1 else 0) ∧
      Frame [] [] [.answer] s u := by
  by_cases key : value = 0xA55A
  · subst key
    rw [State.requestReset_of_key]
    by_cases moving : s.inTransition = true
    · rw [if_pos moving, if_pos ⟨rfl, moving⟩]
      exact ⟨s, rfl, Frame.refl ..⟩
    · have pending : s.power.resetPending = true := by simpa [moving] using h
      rw [if_neg moving, if_pos pending, if_neg fun e => moving e.2]
      exact ⟨s, rfl, Frame.refl ..⟩
  · rw [State.requestReset_of_ne key, if_neg fun e => key e.1]
    exact ⟨_, rfl, (Frame.refl ..).log ..⟩

theorem completes_resetRequest_idle {rq : Requester} {value : Word}
    (granted : s.grants rq P.ResetRequest 0 value.toNat = true)
    (h : value ≠ 0xA55A ∨ s.inTransition = true ∨ s.power.resetPending = true) :
    Completes (.resetRequest rq value) s fun t =>
      t.wdp.answer = ⟨if value = 0xA55A ∧ s.inTransition then 1 else 0, []⟩ ∧ Frame [] [] [.answer] s t := by
  obtain ⟨u, outcome, kept⟩ := State.requestReset_idle (s := s.arbitrate rq) (value := value) (by simpa using h)
  rw [State.arbitrate_inTransition] at outcome
  obtain ⟨t, ht, answer, -, frame⟩ := completes_write01 (c := .resetRequest rq value) rfl row_resetRequest (by decide)
    granted outcome kept (by decide)
  exact ⟨t, ht, answer, frame⟩

theorem toNat_ofNat_byte (value : Byte) : (BitVec.ofNat 64 value.toNat).toNat = value.toNat := by
  have := value.isLt
  rw [BitVec.toNat_ofNat]
  omega

/-! ### The life-cycle request and its confirm (R62 to R64) -/

theorem completes_lifeCycleRequest {rq : Requester} {target : Byte}
    (granted : s.grants rq P.LifeCycleRequest 0 target.toNat = true) (idle : s.power.lifeChange = none)
    (free : (s.arbitrate rq).taken Res.flash = false) (permitted : s.lifePermitted target.toNat (s.level rq) = true) :
    Completes (.lifeCycleRequest rq target) s fun t => t.wdp.answer = ⟨0, []⟩ ∧
      t.power = { s.power with lifeRequest := some (target, rq.path, rq.session) } ∧
      Frame [] [] [.answer, .power, .wdp] s t := by
  have accepted : (s.arbitrate rq).requestLife (s.via rq) (BitVec.ofNat 64 target.toNat).toNat =
      (State.event { s.arbitrate rq with power := { s.power with lifeRequest := some (target, rq.path, rq.session) } }
        Ev.lifeCycle P.LifeCycleRequest 0 (BitVec.ofNat 32 target.toNat), 0) := by
    unfold State.requestLife
    rw [toNat_ofNat_byte, free, State.arbitrate_power, idle, if_neg (by simp), State.arbitrate_lifePermitted,
      if_pos (show s.lifePermitted target.toNat (s.via rq).level = true from permitted), BitVec.ofNat_toNat,
      BitVec.setWidth_eq]
    rfl
  obtain ⟨t, ht, answer, ⟨-, parts⟩, frame⟩ := completes_write01 (c := .lifeCycleRequest rq target)
    (ps := []) (fs := [.power, .wdp]) rfl row_lifeCycleRequest (by decide) granted accepted (((Frame.refl ..).power _ (by decide)).event _ _ _ _)
    (by decide)
  exact ⟨t, ht, answer, (parts.power (by decide)).trans (State.event_power ..), frame⟩

/-- A request that is Busy or not permitted writes an entry at most. -/
theorem State.requestLife_idle {via : Via} {target : Nat}
    (h : s.power.lifeChange.isSome = true ∨ s.taken Res.flash = true ∨ s.lifePermitted target via.level = false) :
    ∃ u, s.requestLife via target = (u, if s.power.lifeChange.isSome ∨ s.taken Res.flash then 1 else 2) ∧
      Frame [] [] [.answer] s u := by
  unfold State.requestLife
  by_cases busy : s.power.lifeChange.isSome = true ∨ s.taken Res.flash = true
  · rw [if_pos (by simpa using busy), if_pos busy]
    exact ⟨s, rfl, Frame.refl ..⟩
  · have refused : s.lifePermitted target via.level = false := by
      rcases h with h | h | h
      · exact absurd (.inl h) busy
      · exact absurd (.inr h) busy
      · exact h
    rw [if_neg (by simpa using busy), refused, if_neg Bool.false_ne_true, if_neg busy]
    exact ⟨_, rfl, (Frame.refl ..).log ..⟩

theorem completes_lifeCycleRequest_idle {rq : Requester} {target : Byte}
    (granted : s.grants rq P.LifeCycleRequest 0 target.toNat = true)
    (h : s.power.lifeChange.isSome = true ∨ (s.arbitrate rq).taken Res.flash = true ∨
      s.lifePermitted target.toNat (s.level rq) = false) :
    Completes (.lifeCycleRequest rq target) s fun t =>
      t.wdp.answer = ⟨if s.power.lifeChange.isSome ∨ (s.arbitrate rq).taken Res.flash then 1 else 2, []⟩ ∧
      Frame [] [] [.answer] s t := by
  obtain ⟨u, outcome, kept⟩ := State.requestLife_idle (s := s.arbitrate rq) (via := s.via rq) (target := target.toNat)
    (by rw [State.arbitrate_power, State.arbitrate_lifePermitted]; exact h)
  rw [State.arbitrate_power, ← toNat_ofNat_byte target] at outcome
  obtain ⟨t, ht, answer, -, frame⟩ := completes_write01 (c := .lifeCycleRequest rq target) rfl row_lifeCycleRequest
    (by decide) granted outcome kept (by decide)
  exact ⟨t, ht, answer, frame⟩

/-- P0022 written with the serial number confirms in the session of the request alone. -/
theorem State.confirmLife_of_serial {via : Via} {value : Word} {target : Byte} {path : Path} {session : Fin 17}
    (request : s.power.lifeRequest = some (target, path, session)) (h : value = Config.serialNumber.setWidth 32) :
    s.confirmLife via (BitVec.ofNat 64 value.toNat) =
      if ({ path := path, session := session, addr := 0, udp := 0 } : Requester).mark != via.rq.mark then s
      else State.announceStop { s with power := { s.power with lifeRequest := none, lifeChange := some target } } := by
  have serial : value.toNat = Config.serialNumber.toNat % 2 ^ 32 := by rw [h, BitVec.toNat_setWidth]
  unfold State.confirmLife
  rw [request]
  dsimp only
  rw [toNat_ofNat_word, if_neg (not_not_intro serial)]

/-- Any other value cancels the request. -/
theorem State.confirmLife_of_ne {via : Via} {value : Word} {target : Byte} {path : Path} {session : Fin 17}
    (request : s.power.lifeRequest = some (target, path, session)) (h : value ≠ Config.serialNumber.setWidth 32) :
    s.confirmLife via (BitVec.ofNat 64 value.toNat) = { s with power := { s.power with lifeRequest := none } } := by
  have other : value.toNat ≠ Config.serialNumber.toNat % 2 ^ 32 := fun e =>
    h (BitVec.eq_of_toNat_eq (by rw [e, BitVec.toNat_setWidth]))
  unfold State.confirmLife
  rw [request]
  dsimp only
  rw [toNat_ofNat_word, if_pos other]

theorem State.confirmLife_of_none {via : Via} {v : Wide} (request : s.power.lifeRequest = none) :
    s.confirmLife via v = s := by
  unfold State.confirmLife
  rw [request]

/-- A granted confirm answers 0, whatever it does. -/
theorem completes_lifeCycleConfirm {rq : Requester} {value : Word} {u : State} {ps : List Nat} {fs : List Part}
    (granted : s.grants rq P.LifeCycleConfirm 0 value.toNat = true)
    (effect : (s.arbitrate rq).confirmLife (s.via rq) (BitVec.ofNat 64 value.toNat) = u)
    (frame : Frame ps [] (.answer :: fs) (s.arbitrate rq) u) (room : P.WdpMaxResponse ∉ ps) :
    Completes (.lifeCycleConfirm rq value) s fun t =>
      t.wdp.answer = ⟨0, []⟩ ∧ Frame [] [] [.answer] u t ∧ Frame ps [] (.answer :: fs) s t :=
  completes_write01 rfl row_lifeCycleConfirm (by decide) granted (congrArg (·, 0) effect) frame room

theorem completes_lifeCycleConfirm_begins {rq : Requester} {target : Byte} {value : Word}
    (granted : s.grants rq P.LifeCycleConfirm 0 value.toNat = true)
    (request : s.power.lifeRequest = some (target, rq.path, rq.session))
    (serial : value = Config.serialNumber.setWidth 32) :
    Completes (.lifeCycleConfirm rq value) s fun t => t.wdp.answer = ⟨0, []⟩ ∧
      t.power = { s.power with lifeRequest := none, lifeChange := some target } ∧ t.sheet.stopping = true ∧
      t.nv = s.nv := by
  have begins := State.confirmLife_of_serial (s := s.arbitrate rq) (via := s.via rq)
    ((congrArg Power.lifeRequest (s.arbitrate_power rq)).trans request) serial
  have same : ({ path := rq.path, session := rq.session, addr := 0, udp := 0 } : Requester).mark =
    (s.via rq).rq.mark := rfl
  rw [same, if_neg (by simp), State.arbitrate_power] at begins
  obtain ⟨stop, stopping⟩ := State.frame_announceStop
    { s.arbitrate rq with power := { s.power with lifeRequest := none, lifeChange := some target } }
  obtain ⟨t, ht, answer, ⟨-, parts⟩, -, kept⟩ := completes_lifeCycleConfirm (ps := egressParams)
    (fs := [.power, .ports, .sheet, .stay]) granted begins
    (((Frame.refl ..).power _ (by decide)).trans (stop.weaken (fun _ h => h) (fun _ h => h) (by simp))) (by decide)
  refine ⟨t, ht, answer, (parts.power (by decide)).trans (stop.2.power (by decide)), ?_, kept.nonVolatile (by decide)⟩
  rw [parts.sheet (by decide), stopping]

theorem completes_lifeCycleConfirm_cancels {rq : Requester} {target : Byte} {value : Word} {path : Path}
    {session : Fin 17} (granted : s.grants rq P.LifeCycleConfirm 0 value.toNat = true)
    (request : s.power.lifeRequest = some (target, path, session))
    (other : value ≠ Config.serialNumber.setWidth 32) :
    Completes (.lifeCycleConfirm rq value) s fun t => t.wdp.answer = ⟨0, []⟩ ∧
      t.power = { s.power with lifeRequest := none } ∧ Frame [] [] [.answer, .power] s t := by
  have cancels := State.confirmLife_of_ne (s := s.arbitrate rq) (via := s.via rq)
    ((congrArg Power.lifeRequest (s.arbitrate_power rq)).trans request) other
  rw [State.arbitrate_power] at cancels
  obtain ⟨t, ht, answer, ⟨-, parts⟩, frame⟩ := completes_lifeCycleConfirm (ps := []) (fs := [.power]) granted
    cancels ((Frame.refl ..).power _ (by decide)) (by decide)
  exact ⟨t, ht, answer, parts.power (by decide), frame⟩

/-- A confirm that does nothing is answered. -/
theorem completes_lifeCycleConfirm_idle {rq : Requester} {value : Word}
    (granted : s.grants rq P.LifeCycleConfirm 0 value.toNat = true)
    (nothing : (s.arbitrate rq).confirmLife (s.via rq) (BitVec.ofNat 64 value.toNat) = s.arbitrate rq) :
    Completes (.lifeCycleConfirm rq value) s fun t => t.wdp.answer = ⟨0, []⟩ ∧ Frame [] [] [.answer] s t := by
  obtain ⟨t, ht, answer, -, frame⟩ := completes_lifeCycleConfirm (ps := []) (fs := []) granted nothing
    (Frame.refl ..) (by decide)
  exact ⟨t, ht, answer, frame⟩

/-- Settles O9, clause by clause: the service, the accepted and the idle reset request, the accepted and the idle
life-cycle request, and the confirm that begins the change, cancels it, comes from elsewhere, or finds no request. -/
theorem resetAndLifeCycleRequests : Obligations.ResetAndLifeCycleRequests := by
  unfold Obligations.ResetAndLifeCycleRequests
  refine ⟨fun s rq value granted => completes_watchdogService granted, ?reset, ?idleReset, ?request, ?idleRequest,
    ?begins, ?cancels, ?elsewhere, ?none⟩
  case reset => exact fun s rq ⟨granted, still, idle, running⟩ => completes_resetRequest granted still idle running
  case idleReset => exact fun s rq value ⟨granted, h⟩ => completes_resetRequest_idle granted h
  case request =>
    exact fun s rq target ⟨granted, idle, free, permitted⟩ => completes_lifeCycleRequest granted idle free permitted
  case idleRequest => exact fun s rq target ⟨granted, h⟩ => completes_lifeCycleRequest_idle granted h
  case begins =>
    exact fun s rq target value ⟨granted, request, serial⟩ => completes_lifeCycleConfirm_begins granted request serial
  case cancels =>
    exact fun s rq target value path session ⟨granted, request, other⟩ =>
      completes_lifeCycleConfirm_cancels granted request other
  case elsewhere =>
    rintro s rq target value path session ⟨granted, request, foreign, serial⟩
    refine completes_lifeCycleConfirm_idle granted ?_
    exact (State.confirmLife_of_serial ((congrArg Power.lifeRequest (s.arbitrate_power rq)).trans request) serial).trans
      (if_pos (bne_iff_ne.mpr foreign))
  case none =>
    exact fun s rq value ⟨granted, request⟩ => completes_lifeCycleConfirm_idle granted
      (State.confirmLife_of_none ((congrArg Power.lifeRequest (s.arbitrate_power rq)).trans request))

end Sys2Proof.Machine
end

section
namespace Sys2Proof.Machine

variable {s : State}

/-! ### Every outcome is a next state (R89, R97) -/

/-- The outcome is a next state: no fault and no refusal. -/
def Answers (o : Host.Outcome State Fault Refusal) : Prop := ∃ t, o = .next t

theorem Answers.done (s : State) : Answers (Machine.done s) := ⟨_, rfl⟩

section
variable {c : Prop} {dec : Decidable c} {a b : Host.Outcome State Fault Refusal}

theorem Answers.ite (ha : Answers a) (hb : Answers b) : Answers (if c then a else b) := by
  split
  · exact ha
  · exact hb

end

/-- A command that acts under one condition. -/
theorem Answers.iteDone {c : Prop} {dec : Decidable c} (s t : State) :
    Answers (if c then Machine.done s else Machine.done t) := .ite (.done s) (.done t)

/-! ### The commands that go by what stands in the state -/

theorem answers_fuseProgrammingDone : Answers (execFuseProgrammingDone s) := by
  unfold execFuseProgrammingDone
  split
  · exact .done _
  · exact .done _

theorem answers_sacnSyncTimeout (address : Half) : Answers (execSacnSyncTimeout address s) := by
  unfold execSacnSyncTimeout
  split
  · exact .done _
  · exact .done _

theorem answers_sourceTimeout (univ : Half) (cid : BitVec 128) : Answers (execSourceTimeout univ cid s) := by
  unfold execSourceTimeout
  split
  · exact .done _
  · exact .done _

theorem answers_snapshotCaptureDone : Answers (execSnapshotCaptureDone s) := by
  unfold execSnapshotCaptureDone
  split
  · exact .done _
  · exact .done _

theorem answers_trimDarkTimeout : Answers (execTrimDarkTimeout s) := by
  unfold execTrimDarkTimeout
  split
  · exact .iteDone ..
  · exact .done _

theorem answers_kiteChannelAccessFailure : Answers (execKiteChannelAccessFailure s) := by
  unfold execKiteChannelAccessFailure
  split
  · exact .done _
  · exact .iteDone ..

theorem answers_imageWriteDone (mismatch : Option Word) : Answers (execImageWriteDone mismatch s) := by
  unfold execImageWriteDone
  split
  · exact .done _
  · dsimp only
    split
    · exact .done _
    · exact .done _

theorem answers_healthTimerExpiry : Answers (execHealthTimerExpiry s) := by
  unfold execHealthTimerExpiry
  split
  · exact .done _
  · exact .done _

theorem answers_settingsSaveDone (ok : Bool) : Answers (execSettingsSaveDone ok s) := by
  unfold execSettingsSaveDone
  split
  · exact .done _
  · exact .iteDone ..

theorem answers_logExportDone : Answers (execLogExportDone s) := by
  unfold execLogExportDone
  split
  · exact .done _
  · exact .done _

/-- Every command's meaning ends in `done`, behind at most a few conditions; those named here are all that have any. -/
theorem answers_exec (c : Instr) (s : State) : Answers (exec c s) := by
  cases c with
  | fuseProgrammingDone => exact answers_fuseProgrammingDone
  | sacnSyncTimeout address => exact answers_sacnSyncTimeout address
  | sourceTimeout univ cid => exact answers_sourceTimeout univ cid
  | snapshotCaptureDone => exact answers_snapshotCaptureDone
  | trimDarkTimeout => exact answers_trimDarkTimeout
  | kiteChannelAccessFailure => exact answers_kiteChannelAccessFailure
  | imageWriteDone mismatch => exact answers_imageWriteDone mismatch
  | healthTimerExpiry => exact answers_healthTimerExpiry
  | settingsSaveDone ok => exact answers_settingsSaveDone ok
  | logExportDone => exact answers_logExportDone
  | pllLossOfLock | imageVerify => exact .ite (.iteDone ..) (.done _)
  | resetRelease => exact .ite (.ite (.done _) (.iteDone ..)) (.done _)
  | txFaultCheck => exact .ite (.iteDone ..) (.done _)
  | stayPennantReceived | cuePoll | scanSupplyFault | scrubPeriodic | bosunWriteTransfer =>
    exact .ite (.done _) (.iteDone ..)
  | brownout | resetPin | watchdogExpiry | clockFault | pllRelockAttempt | commandedReset | sramWipeDone | dramTrained
  | dramWipeDone | bootHandover | settingsApply | deviceReady | retiredEraseDone | luffWake | struckWake | read
  | readInfo | sessionProve | sessionClose | sessionProveTimeout | sessionIdleTimeout | bosunRead | timeNowRead | tnsWrap
  | triggerFire | moduleInserted | moduleIdRead | moduleRemoved | txFaultRise | txFaultRetry | stayLinkFault
  | stayLinkUp | lossHoldExpiry | cascadeFrame | cueRead | cueExecute | egressFrameDone | derateStep
  | switchOvercurrent | showLossTimeout | trimFirstAuto | keyEraEnd | pennantBurstReceived | joinWaitExpiry | btDone
  | bulkRoom | relayTimeout | scrubDone | mirrorBlobVerified => exact .iteDone ..
  | _ => exact .done _

/-- Settles O5. -/
theorem noCommandStopsTheBlock : Obligations.NoCommandStopsTheBlock := answers_exec

end Sys2Proof.Machine
end

section
namespace Sys2Proof.Machine

/-! ### The front of the queue (R91) -/

/-- Settles O1: the step takes the front command away before it acts, whatever stood in the queue. -/
theorem stepRunsFrontCommand : Obligations.StepRunsFrontCommand := fun _ _ _ => rfl

end Sys2Proof.Machine
end

section
namespace Sys2Proof.Machine

/-! ### The end of a request ends its partial cue (R181) -/

/-- After the end of a request of Bosun or WDP the writer's buffer holds no part of a cue. -/
theorem State.cueBuffer_endCueRequest (s : State) {b : Nat} (hb : 4 ≤ b) : (s.endCueRequest b).cueBuffer b = [] := by
  unfold State.endCueRequest
  split
  · unfold State.cueBuffer State.setCueBuffer
    simp
  · next whole => simpa [hb] using whole

/-- A device that runs and serves Bosun, with a cue of Bosun's begun and not ended. -/
def cueBegun : State :=
  ({ State.reset with power := { State.reset.power with phase := .ready, sleep := .run } } : State).setCueBuffer 4 [0]

/-- A host on Bosun in session 0. -/
def bosunHost : Requester := ⟨.bosun, 0, 0, 0, {}, 0⟩

/-- Refutes O17: the clause on REGISTER_WRITE does not leave out P4400 CueWrite, with which a request of it over Bosun or
WDP ends and a cue still partial is discarded (R181), permitted or not. In `cueBegun` a host without a session writes
P4400, and Bosun's assembly buffer is empty thereafter. -/
theorem not_ignoredWriteChangesNothing : ¬ Obligations.IgnoredWriteChangesNothing := by
  unfold Obligations.IgnoredWriteChangesNothing
  rintro ⟨registerWrite, -⟩
  obtain ⟨t, ht, -, -, ⟨-, parts⟩, -⟩ := registerWrite cueBegun bosunHost 0x4400 0 0 0 (by decide +kernel)
  have ended : exec (.registerWrite bosunHost 0x4400 0 0) cueBegun =
      done ((cueBegun.serveValue bosunHost 0x4400 0 0).endCueRequest 4) := rfl
  rw [ended] at ht
  cases ht
  have kept := congrArg (fun c : Cue => SMap.get [] c.assembly 4) (parts.cue (by decide))
  rw [State.settle_cue] at kept
  exact absurd ((State.cueBuffer_endCueRequest _ (by decide)).symm.trans kept) (by decide +kernel)

end Sys2Proof.Machine
end

section
namespace Sys2Proof.Machine

/-! ### The end of a session ends a life-cycle request made in it (R63) -/

/-- An unlocked session that is idle for its time ends (R102). -/
theorem exec_sessionIdleTimeout_of_unlocked {s : State} {n : Fin 17} (h : n ≠ 0 ∧ (s.session n).state = .unlocked) :
    exec (.sessionIdleTimeout n) s = done (s.endSession n) := by
  show execSessionIdleTimeout n s = _
  unfold execSessionIdleTimeout
  rw [if_pos h]

/-- A Yard session on Bosun, unlocked, in which a life-cycle change to Sealed has been requested. -/
def changeRequested : State :=
  ({ State.reset with power := { State.reset.power with lifeRequest := some (1, .bosun, 1) } } : State).setSession 1
    { Session.free with state := .unlocked, level := 3, bosun := true }

/-- Refutes O18: with a session that ends goes a life-cycle request made in it (R63), but the clauses on the ends of a
session let nothing of the power and life-cycle state change. From `changeRequested` the idle timeout drops the
request. -/
theorem not_sessionLife : ¬ Obligations.SessionLife := by
  unfold Obligations.SessionLife
  rintro ⟨-, -, -, -, -, -, idleTimeout, -⟩
  have unlocked : (1 : Fin 17) ≠ 0 ∧ (changeRequested.session (1 : Fin 17)).state = .unlocked := by decide +kernel
  obtain ⟨t, ht, -, -, -, parts⟩ := idleTimeout changeRequested 1 unlocked
  rw [exec_sessionIdleTimeout_of_unlocked unlocked] at ht
  cases ht
  have kept := congrArg Power.lifeRequest (parts.power (by decide))
  rw [State.settle_power] at kept
  have dropped : (changeRequested.endSession 1).power.lifeRequest = none := by decide +kernel
  exact absurd (dropped.symm.trans kept) (by decide +kernel)

end Sys2Proof.Machine
end

section
namespace Sys2Proof.Machine

/-! ### An event message that finds its queue full (R12, R109, R151) -/

/-- A device that runs, with stay port 0 enabled and its general queue full, and P302D of it one short of its largest
value. Subscription 0, over that port, takes events of class Saturated and has lost a record. -/
def queueFull : State :=
  let s := { State.reset with power := { State.reset.power with phase := .ready, sleep := .run } }
  let s := (s.setBit P.StayControl 0 0 true).wr P.TxQueueDropCount 0 0xFFFFFFFE
  let s := s.setStayPort 0 { StayPort.init with general := [{ frame := .wdp 0 0 [], len := 65536 }] }
  s.setSub 0 { Subscription.free with active := true, mask := 2, lost := 1 }

/-- Refutes O20: an event message that finds the port's general queue full is dropped and counted (R151), and a count that
saturates raises an event of its own (R12), which the same subscription takes after its records have started anew. In
`queueFull` the subscription holds that record when the message has been taken, where the clause says that it holds none. -/
theorem not_subscriptionsAndEventMessages : ¬ Obligations.SubscriptionsAndEventMessages := by
  unfold Obligations.SubscriptionsAndEventMessages
  rintro ⟨-, -, -, -, -, message⟩
  obtain ⟨t, ht, anew, -⟩ := message queueFull 0 (by decide +kernel)
  have sends : exec (.eventMessageSend 0) queueFull = done (queueFull.sendEvents 0) := rfl
  rw [sends] at ht
  cases ht
  have one : ((queueFull.sendEvents 0).settle.sub 0).records.length = 1 := by decide +kernel
  exact absurd (one.symm.trans (congrArg (·.records.length) anew)) (by decide)

end Sys2Proof.Machine
end

section
namespace Sys2Proof.Machine

variable {ps : List Nat} {es : List (Nat × Nat)} {fs : List Part} {s t : State}

/-! ### A Bosun transaction that is served (R79, R111, R112) -/

/-- The match flag clears as the transaction is served (R79). -/
def State.clearMatch (s : State) : State := { s with power := { s.power with bosunMatch := false } }

/-- The response that the next read transfer returns (R112). -/
def State.respond (s : State) (response : Option (List Byte)) : State :=
  { s with wdp := { s.wdp with bosunResponse := response } }

theorem Frame.clearMatch (h : Frame ps es fs s t) (hf : .power ∈ fs) : Frame ps es fs s t.clearMatch := h.power _ hf

theorem Frame.respond (response : Option (List Byte)) (h : Frame ps es fs s t) (hf : .wdp ∈ fs) :
    Frame ps es fs s (t.respond response) :=
  h.parts rfl (by constructor <;> intros <;> first | rfl | exact ⟨rfl, rfl⟩ | contradiction)

/-- A refusal without operations: the header alone, untagged and in session 0. -/
def refusal (transaction status : Nat) : Option (List Byte) := some (wdpMessage 1 0 transaction status 0 [] none)

/-- Settling leaves the response as it is. -/
theorem State.settle_bosunResponse (s : State) : s.settle.wdp.bosunResponse = s.wdp.bosunResponse := by
  have rest := congrArg Wdp.bosunResponse s.settle_wdp_rest
  exact rest

/-! ### The read transfer (R112) -/

/-- A read transfer returns as many bytes as it clocks: what the response lacks is padded. -/
theorem State.length_bosunBytes (s : State) (count : Nat) : (s.bosunBytes count).length = count := by
  unfold State.bosunBytes
  simp only [List.length_append, List.length_take, List.length_replicate]
  omega

theorem exec_bosunRead_of_serves (h : s.bosunServes = true) (count : Nat) :
    exec (.bosunRead count) s = done (s.clearMatch.answer 0 (s.bosunBytes count)) := by
  show execBosunRead count s = _
  unfold execBosunRead
  rw [if_pos h]
  rfl

theorem completes_bosunRead (h : s.bosunServes = true) (count : Nat) : Completes (.bosunRead count) s fun t =>
    t.wdp.answer = ⟨0, s.bosunBytes count⟩ ∧ (s.bosunBytes count).length = count ∧
      t.power = { s.power with bosunMatch := false } ∧ Frame [] [] [.answer, .power] s t := by
  refine ⟨_, exec_bosunRead_of_serves h count, ?_, s.length_bosunBytes count, ?_, ?_⟩
  · rw [State.settle_wdp_answer]
    rfl
  · rw [State.settle_power]
    rfl
  · exact (((Frame.refl ..).clearMatch (by decide)).answer _ _ (by decide)).settle

/-! ### The write transfer (R111) -/

/-- The transaction number in a transfer, 0 where it is too short to hold one. -/
def transferTransaction (bytes : List Byte) : Nat := if bytes.length < 12 then 0 else beNat (sliceBytes bytes 8 4)

/-- The transfer is too short for its CRC, or ends in another than that of the bytes before it. -/
def CrcFails (bytes : List Byte) : Prop :=
  bytes.length < 2 ∨ beNat (bytes.drop (bytes.length - 2)) ≠ (crc16 (bytes.take (bytes.length - 2))).toNat

/-- A message with its CRC does not fail, and the bytes before the CRC are the message. -/
theorem not_crcFails_append_crc16 (m : List Byte) : ¬ CrcFails (m ++ beBytes 2 (crc16 m).toNat) := by
  have size : (m ++ beBytes 2 (crc16 m).toNat).length - 2 = m.length := by simp
  have crc := (crc16 m).isLt
  unfold CrcFails
  rw [size, List.drop_left, List.take_left, beNat_beBytes, Nat.mod_eq_of_lt (by omega)]
  simp

theorem State.bosunRequest_of_long {bytes : List Byte} (h : 1024 < bytes.length) :
    s.bosunRequest bytes = s.clearMatch.respond (refusal (transferTransaction bytes) 9) := by
  unfold State.bosunRequest
  dsimp only
  rw [if_pos h]
  rfl

theorem State.bosunRequest_of_crcFails {bytes : List Byte} (h : bytes.length ≤ 1024) (fails : CrcFails bytes) :
    s.bosunRequest bytes =
      (s.clearMatch.count P.BosunCrcErrorCount 0).respond (refusal (transferTransaction bytes) 4) := by
  unfold State.bosunRequest
  dsimp only
  rw [if_neg (Nat.not_lt.mpr h)]
  unfold CrcFails at fails
  rw [if_pos fails]
  rfl

/-- Every other transfer is the request that its bytes make. -/
theorem State.bosunRequest_of_message {m : List Byte} (h : m.length + 2 ≤ 1024) :
    s.bosunRequest (m ++ beBytes 2 (crc16 m).toNat) =
      (s.clearMatch.request .bosun 0 0 0 1020 m).1.respond (s.clearMatch.request .bosun 0 0 0 1020 m).2 := by
  have fits : ¬ 1024 < (m ++ beBytes 2 (crc16 m).toNat).length := by simp; omega
  have good := not_crcFails_append_crc16 m
  unfold CrcFails at good
  have size : (m ++ beBytes 2 (crc16 m).toNat).length - 2 = m.length := by simp
  unfold State.bosunRequest
  dsimp only
  rw [if_neg fits, if_neg good, size, List.take_left]
  rfl

theorem exec_bosunWriteTransfer_of_serves (h : s.bosunServes = true) (bytes : List Byte) :
    exec (.bosunWriteTransfer bytes) s = done (s.bosunRequest bytes) := by
  show execBosunWriteTransfer bytes s = _
  unfold execBosunWriteTransfer
  rw [if_pos h]

theorem completes_bosunWriteTransfer_long {bytes : List Byte} (h : s.bosunServes = true)
    (long : 1024 < bytes.length) : Completes (.bosunWriteTransfer bytes) s fun t =>
      t.wdp.bosunResponse = refusal (transferTransaction bytes) 9 ∧
      t.power = { s.power with bosunMatch := false } ∧ Frame [] [] [.power, .wdp] s t := by
  refine ⟨_, exec_bosunWriteTransfer_of_serves h bytes, ?_⟩
  rw [State.bosunRequest_of_long long]
  refine ⟨?_, ?_, ?_⟩
  · rw [State.settle_bosunResponse]
    rfl
  · rw [State.settle_power]
    rfl
  · exact (((Frame.refl ..).clearMatch (by decide)).respond _ (by decide)).settle

theorem completes_bosunWriteTransfer_crcFails {bytes : List Byte} (h : s.bosunServes = true)
    (short : bytes.length ≤ 1024) (fails : CrcFails bytes) : Completes (.bosunWriteTransfer bytes) s fun t =>
      t.wdp.bosunResponse = refusal (transferTransaction bytes) 4 ∧
      (s.rdN P.BosunCrcErrorCount 0 < 0xFFFFFFFE →
        t.rdN P.BosunCrcErrorCount 0 = s.rdN P.BosunCrcErrorCount 0 + 1) ∧
      t.power = { s.power with bosunMatch := false } ∧
      Frame [] [(P.BosunCrcErrorCount, 0)] [.power, .wdp] s t := by
  refine ⟨_, exec_bosunWriteTransfer_of_serves h bytes, ?_⟩
  rw [State.bosunRequest_of_crcFails short fails]
  refine ⟨?_, fun room => ?_, ?_, ?_⟩
  · rw [State.settle_bosunResponse]
    rfl
  · have counts : ((s.clearMatch.count P.BosunCrcErrorCount 0).respond (refusal (transferTransaction bytes) 4)).rd
        P.BosunCrcErrorCount 0 = counted (s.rd P.BosunCrcErrorCount 0) 1 := State.rd_count_same _ _ _ (by decide)
    unfold State.rdN at *
    rw [State.rd_settle _ _ _ (by decide), counts, toNat_counted_one (by omega)]
    omega
  · rw [State.settle_power]
    exact State.count_power ..
  · exact ((((Frame.refl ..).clearMatch (by decide)).count _ _ (by decide)).respond _ (by decide)).settle

/-- A transfer that the target holds by stretching waits, whatever it carries (R79). -/
theorem completes_bosunWriteTransfer_held {bytes : List Byte} (h : s.bosunServes = false)
    (held : s.power.bosunHeld = true) : Completes (.bosunWriteTransfer bytes) s fun t =>
      t.power = { s.power with heldTransfer := some bytes } ∧ Frame [] [] [.power] s t := by
  have waits : exec (.bosunWriteTransfer bytes) s =
      done { s with power := { s.power with heldTransfer := some bytes } } := by
    show execBosunWriteTransfer bytes s = _
    unfold execBosunWriteTransfer
    rw [h, if_neg Bool.false_ne_true, if_pos held]
  refine ⟨_, waits, State.settle_power _, ?_⟩
  exact ((Frame.refl ..).power _ (by decide)).settle

theorem completes_bosunWriteTransfer_message {m : List Byte} (h : s.bosunServes = true) (fits : m.length + 2 ≤ 1024) :
    Completes (.bosunWriteTransfer (m ++ beBytes 2 (crc16 m).toNat)) s fun t =>
      t.wdp.bosunResponse = (s.clearMatch.request .bosun 0 0 0 1020 m).2 ∧
      Frame [] [] [.wdp] (s.clearMatch.request .bosun 0 0 0 1020 m).1 t := by
  refine ⟨_, exec_bosunWriteTransfer_of_serves h _, ?_⟩
  rw [State.bosunRequest_of_message fits]
  refine ⟨State.settle_bosunResponse _, ?_⟩
  exact ((Frame.refl ..).respond _ (by decide)).settle

/-- Settles O21, clause by clause: the read transfer, the write transfer that is too long, the one whose CRC fails, the
one that is held, and the one that is a request. -/
theorem bosunTransfers : Obligations.BosunTransfers := by
  unfold Obligations.BosunTransfers
  refine ⟨fun s count h => completes_bosunRead h count, ?long, ?crcFails, ?held, ?message⟩
  case long =>
    rintro s bytes ⟨serves, long⟩
    obtain ⟨t, ht, response, power, frame⟩ := completes_bosunWriteTransfer_long serves long
    have number : transferTransaction bytes = beNat (sliceBytes bytes 8 4) := if_neg (by omega)
    rw [number] at response
    exact ⟨t, ht, response, power, frame⟩
  case crcFails =>
    exact fun s bytes ⟨serves, short, fails⟩ => completes_bosunWriteTransfer_crcFails serves short fails
  case held => exact fun s bytes ⟨serves, held⟩ => completes_bosunWriteTransfer_held serves held
  case message =>
    rintro s m ⟨serves, fits⟩
    obtain ⟨t, ht, response, values, parts⟩ := completes_bosunWriteTransfer_message serves fits
    exact ⟨t, ht, _, _, rfl, response, values, parts.sessions (by decide), parts.transfers (by decide),
      parts.power (by decide), parts.nonVolatile (by decide), parts.dram (by decide), parts.twin (by decide)⟩

end Sys2Proof.Machine
end

section
namespace Sys2Proof.Machine

variable {s : State} {i : Nat}

/-! ### An event class that is pending stays so while counters, events and the log work (R107) -/

/-- Event class `i` is pending in P0060. -/
structure State.Pends (s : State) (i : Nat) : Prop where
  lt : i < 64
  raised : s.bit P.EventPending 0 i = true

/-- The same values show the same events pending. -/
theorem State.Pends.same {t : State} (h : s.Pends i) (regs : t.regs = s.regs := by rfl) : t.Pends i := by
  obtain ⟨hi, pends⟩ := h
  exact ⟨hi, by rw [State.bit_congr (State.rd_congr regs _ _), pends]⟩

section
variable {c : Prop} {dec : Decidable c}

theorem State.Pends.ite {a b : State} (ha : a.Pends i) (hb : b.Pends i) : (if c then a else b).Pends i := by
  split
  · exact ha
  · exact hb

theorem State.Pends.iteFst {α : Type} {a b : State × α} (ha : a.1.Pends i) (hb : b.1.Pends i) :
    (if c then a else b).1.Pends i := by
  split
  · exact ha
  · exact hb

end

theorem State.Pends.foldl {α : Type} {f : State → α → State} {l : List α} (h : s.Pends i)
    (hf : ∀ {s a}, s.Pends i → (f s a).Pends i) : (l.foldl f s).Pends i :=
  List.foldlRecOn (motive := fun t => t.Pends i) l f h fun _ k _ _ => hf k

variable {p e n : Nat}

theorem State.Pends.wr {v : Wide} (h : s.Pends i) (hp : P.EventPending ≠ p := by decide) : (s.wr p e v).Pends i := by
  obtain ⟨hi, pends⟩ := h
  exact ⟨hi, by rw [State.bit_congr (State.rd_wr_param _ _ _ _ _ _ hp), pends]⟩

/-- Raising one class leaves those that are pending. -/
theorem State.Pends.raise {cls : Nat} (h : s.Pends i) : (s.raise P.EventPending 0 cls).Pends i := by
  obtain ⟨hi, pends⟩ := h
  exact ⟨hi, by rw [s.bit_raise _ _ _ _ hi, pends, Bool.true_or]⟩

theorem State.pends_raise (s : State) (hi : i < 64) : (s.raise P.EventPending 0 i).Pends i :=
  ⟨hi, by simp [s.bit_raise _ _ _ _ hi]⟩

theorem State.Pends.bump (h : s.Pends i) (hp : P.EventPending ≠ p := by decide) : (s.bump p e n).1.Pends i := by
  obtain ⟨hi, pends⟩ := h
  exact ⟨hi, by rw [State.bit_congr (State.rd_bump _ _ _ _ _ _ hp), pends]⟩

/-- What follows the raise in a notification. -/
theorem State.Pends.notifyOf {cls : Nat} {arg : Word} (h : (s.raise P.EventPending 0 cls).Pends i) :
    (s.notify cls p e arg).1.Pends i := by
  unfold State.notify
  dsimp only
  generalize List.range 8 = l
  exact .iteFst (h.same (State.offerAll_regs _ l _)) (.bump (h.same (State.offerAll_regs _ l _)))

theorem State.Pends.notify {cls : Nat} {arg : Word} (h : s.Pends i) : (s.notify cls p e arg).1.Pends i :=
  h.raise.notifyOf

theorem State.Pends.enqueue {source code aux : Nat} {a b : Word} (h : s.Pends i) :
    (s.enqueue source code aux a b).1.Pends i := .iteFst h.bump h.same

theorem State.Pends.saturateAll : ∀ {n : Nat} {s : State} {l : List (Nat × Nat)}, s.Pends i →
    (State.saturateAll n s l).Pends i
  | 0, _, _, h => h
  | _ + 1, _, [], h => h
  | _ + 1, _, _ :: _, h => by
    unfold State.saturateAll
    dsimp only
    exact h.enqueue.notify.saturateAll

/-- An event is pending once it has been raised. -/
theorem State.pends_event (s : State) (hi : i < 64) (arg : Word) : (s.event i p e arg).Pends i := by
  have told : (s.notify i p e arg).1.Pends i := .notifyOf (s.pends_raise hi)
  unfold State.event
  dsimp only
  exact .ite told.saturateAll told

theorem State.Pends.enterEntry {x : TroubleEntry} (h : s.Pends i) : (s.enterEntry x).1.Pends i := by
  unfold State.enterEntry
  have taken : State.Pends { s with trouble := { s.trouble with
      ring := ({ x with sequence := (s.rd P.TroubleIndex 0).setWidth 32 } :: s.trouble.ring).take 4096 } } i := h.same
  exact .iteFst taken.wr.bump taken.wr

theorem State.Pends.enterEntryAll {x : TroubleEntry} (h : s.Pends i) : (s.enterEntryAll x).Pends i := by
  unfold State.enterEntryAll
  dsimp only
  exact .ite (.ite h.enterEntry.enterEntry.notify.enterEntry.notify h.enterEntry.enterEntry.notify) h.enterEntry

theorem State.Pends.recallEntries (h : s.Pends i) : s.recallEntries.2.Pends i := by
  have dropped : State.Pends { s with trouble := { s.trouble with ring := s.trouble.ring.drop s.now.logged } } i := h.same
  exact dropped.wr

theorem State.Pends.enterEntries {q : List TroubleEntry} (h : s.Pends i) : (s.enterEntries q).Pends i := by
  have entered : (q.foldl State.enterEntryAll s).Pends i := h.foldl fun h => h.enterEntryAll
  exact entered.same

theorem State.Pends.drainLog (h : s.Pends i) : s.drainLog.Pends i := by
  have emptied : State.Pends { s with trouble := { s.trouble with queue := [] } } i := h.same
  exact .ite emptied emptied.recallEntries.enterEntries

theorem State.Pends.enterDecision {x : TraceEntry} (h : s.Pends i) : (s.enterDecision x).Pends i := by
  unfold State.enterDecision
  dsimp only
  exact .ite h (.wr h.same)

theorem State.Pends.drainTrace (h : s.Pends i) : s.drainTrace.Pends i := by
  have emptied : State.Pends { s with capstan := { s.capstan with decisions := [] } } i := h.same
  have recalled : State.Pends (State.recallDecisions { s with capstan := { s.capstan with decisions := [] } }).2 i :=
    .wr emptied.same
  exact .ite emptied (.foldl recalled.same fun h => h.enterDecision)

/-- Settling leaves pending what is. -/
theorem State.Pends.settle (h : s.Pends i) : s.settle.Pends i := h.drainTrace.drainLog

end Sys2Proof.Machine
end

section
namespace Sys2Proof.Machine

variable {ps : List Nat} {es : List (Nat × Nat)} {fs : List Part} {s t : State}

/-! ### Bytes written to DRAM at rising addresses -/

/-- A change of DRAM alone. -/
theorem Frame.dram (d : SMap Byte) (h : Frame ps es fs s t) (hf : .memory ∈ fs) :
    Frame ps es fs s { t with dram := d } :=
  h.parts rfl (by constructor <;> intros <;> first | rfl | exact ⟨rfl, rfl⟩ | contradiction)

theorem State.setDramByte_eq (s : State) (a : Nat) (b : Byte) : ∃ d, s.setDramByte a b = { s with dram := d } := by
  unfold State.setDramByte
  split
  · exact ⟨s.dram, rfl⟩
  · exact ⟨_, rfl⟩

/-- Writing bytes of DRAM changes DRAM alone. -/
theorem State.setDram_eq : ∀ (bs : List Byte) (s : State) (a : Nat), ∃ d, s.setDram a bs = { s with dram := d }
  | [], s, _ => ⟨s.dram, rfl⟩
  | b :: bs, s, a => by
    obtain ⟨d, hd⟩ := s.setDramByte_eq a b
    obtain ⟨d', hd'⟩ := State.setDram_eq bs { s with dram := d } (a + 1)
    exact ⟨d', by rw [State.setDram, hd, hd']⟩

theorem State.dramByte_setDramByte_other (s : State) {a x : Nat} (b : Byte) (h : x ≠ a) :
    (s.setDramByte a b).dramByte x = s.dramByte x := by
  unfold State.setDramByte
  split
  · rfl
  · unfold State.dramByte
    simp only [SMap.get_set_other _ _ _ _ _ _ h]

theorem State.dramByte_setDramByte_same (s : State) {a : Nat} (b : Byte) (free : dramReserved a = false)
    (inside : a < dramSize) : (s.setDramByte a b).dramByte a = b := by
  have taken : ¬ (dramReserved a || decide (dramSize ≤ a)) = true := by
    rw [free, decide_eq_false (Nat.not_le.mpr inside)]
    exact Bool.false_ne_true
  unfold State.setDramByte State.dramByte
  rw [if_neg taken, free, if_neg Bool.false_ne_true]
  exact SMap.get_set_same _ _ _ _

/-- A byte before or behind the written ones stands. -/
theorem State.dramByte_setDram_outside {x : Nat} : ∀ (bs : List Byte) (s : State) (a : Nat),
    x < a ∨ a + bs.length ≤ x → (s.setDram a bs).dramByte x = s.dramByte x
  | [], _, _, _ => rfl
  | b :: bs, s, a, h => by
    rw [List.length_cons] at h
    rw [State.setDram, State.dramByte_setDram_outside bs _ _ (by omega), s.dramByte_setDramByte_other b (by omega)]

/-- Below the reserved region the written bytes read back. -/
theorem State.dramByte_setDram_inside {bs : List Byte} {i : Nat} (hi : i < bs.length) (s : State) {a : Nat}
    (below : a + bs.length ≤ 0x34000000) : (s.setDram a bs).dramByte (a + i) = bs.getD i 0 := by
  induction bs generalizing s a i with
  | nil => exact absurd hi (Nat.not_lt_zero i)
  | cons b bs ih =>
    rw [List.length_cons] at below hi
    rw [State.setDram]
    cases i with
    | zero =>
      have free : dramReserved a = false := by
        unfold dramReserved
        rw [decide_eq_false (by omega), Bool.false_and]
      rw [State.dramByte_setDram_outside bs _ _ (by omega)]
      exact s.dramByte_setDramByte_same b free (by unfold dramSize; omega)
    | succ i =>
      rw [show a + (i + 1) = a + 1 + i by omega, ih (by omega) _ (by omega)]
      rfl

/-- Every staging area ends below the reserved region (Table 18.4). -/
theorem State.stagingBase_le (s : State) {slot : Nat} (h : slot < 4) (p : Nat) :
    s.stagingBase slot p + 0x2000000 ≤ 0x34000000 := by
  unfold State.stagingBase State.stagedArea slotArea
  split
  · split <;> omega
  · omega

/-! ### One operation of a request and its answer (R91, R95) -/

/-- An answer for which the response has room is the answer (R95). -/
theorem State.answerOne_of_room {rq : Requester} (a : Byte) {d : List Byte} (h : 43 + d.length ≤ s.responseLimit rq) :
    s.answerOne rq a d = s.answer a d := by
  have padded : (pad4 d).length ≤ d.length + 3 := by
    unfold pad4
    rw [List.length_append, List.length_replicate]
    omega
  unfold State.answerOne
  dsimp only
  rw [if_neg]
  split <;> omega

/-- An operation that is heard acts in the arbiter's turn and is answered, if its effect leaves the dictionary's
values. -/
theorem exec_of_serveOp {c : Instr} {rq : Requester} {op : State → OpResult} {a : Byte} {d : List Byte}
    (act : exec c s = done (s.serveOp rq op)) (window : rq.onWindow = false) (heard : s.hears rq d.length = true)
    (f : State → State) (effect : ∀ n, s.arbitrate rq = { s with now := n } →
      op { s with now := n } = (f { s with now := n }, a, d)) (regs : ∀ v, (f v).regs = v.regs) :
    ∃ n, exec c s = done ((f { s with now := n }).answer a d) := by
  unfold State.hears at heard
  simp only [Bool.and_eq_true, decide_eq_true_eq] at heard
  obtain ⟨⟨serves, session⟩, room⟩ := heard
  obtain ⟨n, hn⟩ := s.arbitrate_eq rq
  refine ⟨n, act.trans (congrArg done ?_)⟩
  have limit : (f { s with now := n }).responseLimit rq = s.responseLimit rq :=
    State.responseLimit_congr (State.rd_congr (regs { s with now := n }) _ _) rq
  unfold State.serveOp
  rw [window, if_neg Bool.false_ne_true, s.serve_of _ _ serves session, hn]
  dsimp only
  rw [effect n hn, State.answerOne_of_room _ (by rw [limit]; exact room)]

/-- An operation without an effect of its own changes the answer alone. -/
theorem completes_of_serveOp_idle {c : Instr} {rq : Requester} {op : State → OpResult} {a : Byte}
    (act : exec c s = done (s.serveOp rq op)) (window : rq.onWindow = false) (heard : s.hears rq 0 = true)
    (effect : ∀ n, s.arbitrate rq = { s with now := n } → op { s with now := n } = ({ s with now := n }, a, [])) :
    Completes c s fun t => t.wdp.answer = ⟨a, []⟩ ∧ Frame [] [] [.answer] s t := by
  obtain ⟨n, hn⟩ := exec_of_serveOp (d := []) act window heard id effect fun _ => rfl
  exact ⟨_, hn, State.settle_wdp_answer _, (((Frame.refl ..).now n).answer _ _ (by decide)).settle⟩

/-! ### One slot changes (R104) -/

/-- Slot `k` is `x`, and every other slot is as it was. -/
def SlotIs (k : Nat) (x : Xfer) (s t : State) : Prop := t.xfer k = x ∧ ∀ m < 4, m ≠ k → t.xfer m = s.xfer m

theorem slotIs_setXfer {k : Nat} {x : Xfer} (xfers : t.wdp.xfers = (s.setXfer k x).wdp.xfers) : SlotIs k x s t := by
  have same : ∀ m, t.xfer m = if m = k then x else s.xfer m := fun m => by
    rw [← s.xfer_setXfer]
    unfold State.xfer
    rw [xfers]
  exact ⟨by rw [same, if_pos rfl], fun m _ hm => by rw [same, if_neg hm]⟩

theorem SlotIs.settle {k : Nat} {x : Xfer} (h : SlotIs k x s t) : SlotIs k x s t.settle := by
  obtain ⟨own, others⟩ := h
  exact ⟨by rw [State.settle_xfer, own], fun m hm hk => by rw [State.settle_xfer, others m hm hk]⟩

theorem State.onSlot_of_permits {rq : Requester} {p : Nat} {op : State → OpResult} (h : s.permits rq p = true) :
    s.onSlot rq p op = op s := if_pos h

theorem State.ownsSlot_lt {rq : Requester} {p slot : Nat} (h : s.ownsSlot rq p slot = true) : slot < 4 := by
  unfold State.ownsSlot at h
  simp only [Bool.and_eq_true, decide_eq_true_eq] at h
  obtain ⟨⟨⟨lt, -⟩, -⟩, -⟩ := h
  exact lt

/-! ### BlockOpen -/

/-- One guard of several: with a refusal of its own it answers 0 only where it does not hold. -/
theorem ite_eq_zero_iff_of_ne {c : Prop} {dec : Decidable c} {a b : Byte} (ha : a ≠ 0) :
    (if c then a else b) = 0 ↔ ¬c ∧ b = 0 := by
  by_cases h : c
  · rw [if_pos h]
    exact ⟨fun k => absurd k ha, fun k => absurd h k.1⟩
  · rw [if_neg h]
    exact ⟨fun k => ⟨h, k⟩, And.right⟩

theorem State.openGate_eq_zero (s : State) (p : Nat) : s.openGate p = 0 ↔ ¬(p = P.ImageWrite ∧ s.imageLocked = true) ∧
    ¬((p = P.ImageWrite ∨ p = P.SettingsImage) ∧ s.taken Res.flash = true) ∧
    ¬(p = P.ElementTable ∧ s.render.oldArea = true) ∧ ¬(p = P.AppletImage ∧ s.appletState = 2) := by
  have locked : (2 : Byte) ≠ 0 := by decide
  have busy : (1 : Byte) ≠ 0 := by decide
  unfold State.openGate
  rw [ite_eq_zero_iff_of_ne locked, ite_eq_zero_iff_of_ne busy, ite_eq_zero_iff_of_ne busy, ite_eq_zero_iff_of_ne busy,
    eq_self, and_true]

/-- What is free stays so in the arbiter's turn, where a resource that this clock has released may become free. -/
theorem State.resourceFree_arbitrate {r : Nat} (rq : Requester) (h : s.resourceFree r = true) :
    (s.arbitrate rq).resourceFree r = true := by
  unfold State.arbitrate
  split
  · exact Bool.and_eq_true_iff.mpr ⟨(Bool.and_eq_true_iff.mp h).1, rfl⟩
  · exact h

theorem State.taken_arbitrate {r : Nat} (rq : Requester) (h : s.taken r = false) :
    (s.arbitrate rq).taken r = false := by
  unfold State.taken at *
  simp only [Bool.or_eq_false_iff, Bool.not_eq_false'] at *
  obtain ⟨⟨free, trim⟩, scrub⟩ := h
  have still := s.resourceFree_arbitrate rq free
  obtain ⟨n, hn⟩ := s.arbitrate_eq rq
  rw [hn] at still ⊢
  exact ⟨⟨still, trim⟩, scrub⟩

theorem State.openGate_arbitrate {p : Nat} (rq : Requester) (h : s.openGate p = 0) :
    (s.arbitrate rq).openGate p = 0 := by
  rw [State.openGate_eq_zero] at *
  obtain ⟨locked, flash, area, running⟩ := h
  have still : ¬((p = P.ImageWrite ∨ p = P.SettingsImage) ∧ (s.arbitrate rq).taken Res.flash = true) := by
    rintro ⟨update, taken⟩
    have free := s.taken_arbitrate rq (Bool.eq_false_iff.mpr fun k => flash ⟨update, k⟩)
    exact Bool.false_ne_true (free.symm.trans taken)
  obtain ⟨n, hn⟩ := s.arbitrate_eq rq
  rw [hn] at still ⊢
  exact ⟨locked, still, area, running⟩

/-- The new slot of an open. -/
def openedSlot (rq : Requester) (p total : Nat) : Xfer :=
  { Xfer.free with state := .opened, param := p, owner := rq, total := total }

theorem State.openBlock_takes {rq : Requester} {p total n : Nat} {r : Row} (row : Dict.row p = some r)
    (blob : r.ty = .blob) (permitted : s.permits rq p = true) (active : s.notActive (s.via rq) r = false)
    (unheld : ∀ m < 4, (s.xfer m).state ≠ .free → (s.xfer m).param ≠ p) (size : total ≤ r.size)
    (gate : s.openGate p = 0) (hn : n < 4) (free : (s.xfer n).state = .free)
    (lowest : ∀ m < n, (s.xfer m).state ≠ .free) :
    s.openBlock rq p total = (s.setXfer n (openedSlot rq p total), 0, [BitVec.ofNat 8 n, 0, 0, 0]) := by
  have none_holds : ¬ (List.range 4).any (fun m => (s.xfer m).state != .free && (s.xfer m).param == p) = true := by
    simp only [List.any_eq_true, List.mem_range, Bool.and_eq_true, bne_iff_ne, beq_iff_eq]
    rintro ⟨m, hm, used, holds⟩
    exact unheld m hm used holds
  have found : (List.range 4).find? (fun m => (s.xfer m).state == .free) = some n := by
    simp only [List.find?_range_eq_some, List.mem_range, beq_iff_eq, Bool.not_eq_true', beq_eq_false_iff_ne]
    exact ⟨free, hn, lowest⟩
  unfold State.openBlock
  rw [row]
  dsimp only
  rw [permitted, if_neg (by simp), if_neg (by simp [blob]), active, if_neg Bool.false_ne_true, if_neg none_holds,
    if_neg (Nat.not_lt.mpr size), if_neg (by simp [gate]), found]
  rfl

theorem completes_blockOpen {rq : Requester} {param : Half} {total : Word} {n : Nat} {r : Row}
    (heard : s.hears rq 4 = true) (row : Dict.row param.toNat = some r) (blob : r.ty = .blob)
    (window : rq.onWindow = false) (permitted : s.permits rq param.toNat = true)
    (active : s.notActive (s.via rq) r = false)
    (unheld : ∀ m < 4, (s.xfer m).state ≠ .free → (s.xfer m).param ≠ param.toNat) (size : total.toNat ≤ r.size)
    (gate : s.openGate param.toNat = 0) (hn : n < 4) (free : (s.xfer n).state = .free)
    (lowest : ∀ m < n, (s.xfer m).state ≠ .free) : Completes (.blockOpen rq param total) s fun t =>
      t.wdp.answer = ⟨0, [BitVec.ofNat 8 n, 0, 0, 0]⟩ ∧
      SlotIs n (openedSlot rq param.toNat total.toNat) s t ∧ Frame [] [] [.answer, .transfers] s t := by
  have still := State.openGate_arbitrate rq gate
  obtain ⟨k, act⟩ := exec_of_serveOp (c := .blockOpen rq param total) (s := s) (d := [BitVec.ofNat 8 n, 0, 0, 0]) rfl
    window heard (fun v => v.setXfer n (openedSlot rq param.toNat total.toNat))
    (fun k hk => State.openBlock_takes (s := { s with now := k }) row blob permitted active unheld size (hk ▸ still) hn
      free lowest) fun _ => rfl
  refine ⟨_, act, State.settle_wdp_answer _, ?_, ?_⟩
  · refine (slotIs_setXfer ?_).settle
    rfl
  · exact ((((Frame.refl ..).now k).setXfer _ _ (by decide)).answer _ _ (by decide)).settle

/-! ### BlockData -/

theorem State.dataBlock_takes {rq : Requester} {p slot off : Nat} {data : List Byte} (permitted : s.permits rq p = true)
    (own : s.ownsSlot rq p slot = true) (filling : (s.xfer slot).state = .opened ∨ (s.xfer slot).state = .mismatch)
    (fits : off + data.length ≤ (s.xfer slot).total) : s.dataBlock rq p slot off data =
      ((s.setDram (s.stagingBase slot p + off) data).setXfer slot { s.xfer slot with state := .opened }, 0, []) := by
  unfold State.dataBlock
  rw [State.onSlot_of_permits permitted]
  exact if_pos (by simp [own, filling, fits])

theorem State.dataBlock_refuses {rq : Requester} {p slot off : Nat} {data : List Byte}
    (permitted : s.permits rq p = true)
    (h : s.ownsSlot rq p slot = false ∨ (s.xfer slot).total < off + data.length) :
    s.dataBlock rq p slot off data = (s, 0x0A, []) := by
  unfold State.dataBlock
  rw [State.onSlot_of_permits permitted]
  refine if_neg ?_
  rcases h with foreign | beyond
  · simp [foreign]
  · simp [beyond]

theorem completes_blockData {rq : Requester} {param : Half} {slot : Byte} {offset : Word} {data : List Byte}
    (heard : s.hears rq 0 = true) (window : rq.onWindow = false) (permitted : s.permits rq param.toNat = true)
    (own : s.ownsSlot rq param.toNat slot.toNat = true)
    (filling : (s.xfer slot.toNat).state = .opened ∨ (s.xfer slot.toNat).state = .mismatch)
    (fits : offset.toNat + data.length ≤ (s.xfer slot.toNat).total) (area : (s.xfer slot.toNat).total ≤ 0x2000000) :
    Completes (.blockData rq param slot offset data) s fun t => t.wdp.answer = ⟨0, []⟩ ∧
      SlotIs slot.toNat { s.xfer slot.toNat with state := .opened } s t ∧
      (∀ i < data.length,
        t.dramByte (s.stagingBase slot.toNat param.toNat + offset.toNat + i) = data.getD i 0) ∧
      (∀ a, a < s.stagingBase slot.toNat param.toNat + offset.toNat ∨
        s.stagingBase slot.toNat param.toNat + offset.toNat + data.length ≤ a → t.dramByte a = s.dramByte a) ∧
      t.sram = s.sram ∧ Frame [] [] [.answer, .transfers, .memory] s t := by
  have below := s.stagingBase_le (State.ownsSlot_lt own) param.toNat
  generalize hb : s.stagingBase slot.toNat param.toNat = base at below ⊢
  obtain ⟨n, act⟩ := exec_of_serveOp (c := .blockData rq param slot offset data) (s := s) (a := 0) (d := []) rfl window
    heard (fun v => (v.setDram (base + offset.toNat) data).setXfer slot.toNat
      { s.xfer slot.toNat with state := .opened })
    (fun n _ => hb ▸ State.dataBlock_takes (s := { s with now := n }) permitted own filling fits) fun v => by
      obtain ⟨d, hd⟩ := v.setDram_eq data (base + offset.toNat)
      rw [hd]
      rfl
  obtain ⟨d, hd⟩ := State.setDram_eq data { s with now := n } (base + offset.toNat)
  have written : ∀ x, (State.settle (State.answer (State.setXfer (State.setDram { s with now := n }
      (base + offset.toNat) data) slot.toNat { s.xfer slot.toNat with state := .opened }) 0 [])).dramByte x =
      (State.setDram { s with now := n } (base + offset.toNat) data).dramByte x := fun x => by
    unfold State.dramByte
    rw [State.settle_dram]
    rfl
  refine ⟨_, act, State.settle_wdp_answer _, ?_, fun i hi => ?_, fun a ha => ?_, ?_, ?_⟩
  · refine (slotIs_setXfer ?_).settle
    dsimp only
    rw [hd]
    rfl
  · rw [written]
    exact State.dramByte_setDram_inside hi _ (by omega)
  · rw [written]
    exact State.dramByte_setDram_outside data _ _ ha
  · rw [State.settle_sram]
    dsimp only
    rw [hd]
    rfl
  · dsimp only
    rw [hd]
    exact (((((Frame.refl ..).now n).dram d (by decide)).setXfer _ _ (by decide)).answer _ _ (by decide)).settle

theorem completes_blockData_refused {rq : Requester} {param : Half} {slot : Byte} {offset : Word} {data : List Byte}
    (heard : s.hears rq 0 = true) (window : rq.onWindow = false) (permitted : s.permits rq param.toNat = true)
    (h : s.ownsSlot rq param.toNat slot.toNat = false ∨ (s.xfer slot.toNat).total < offset.toNat + data.length) :
    Completes (.blockData rq param slot offset data) s fun t =>
      t.wdp.answer = ⟨0x0A, []⟩ ∧ Frame [] [] [.answer] s t :=
  completes_of_serveOp_idle rfl window heard fun n _ =>
    State.dataBlock_refuses (s := { s with now := n }) permitted h

/-! ### BlockCommit -/

theorem State.commitBlock_starts {rq : Requester} {p slot : Nat} {digest : List Byte}
    (permitted : s.permits rq p = true) (own : s.ownsSlot rq p slot = true) (opened : (s.xfer slot).state = .opened)
    (fresh : (s.xfer slot).result = none) (applet : p ≠ P.AppletImage) (relay : p ≠ P.RelayRequest) :
    s.commitBlock rq p slot digest =
      (s.setXfer slot { s.xfer slot with state := .verifying, digest := digest }, 0x0F, []) := by
  unfold State.commitBlock
  rw [State.onSlot_of_permits permitted]
  dsimp only
  rw [if_pos own, opened]
  dsimp only
  rw [if_neg fun k => applet k.1, if_neg fun k => relay k.1, fresh]
  rfl

/-- A commit repeated while the hash runs polls it. -/
theorem State.commitBlock_polls {rq : Requester} {p slot : Nat} {digest : List Byte}
    (permitted : s.permits rq p = true) (own : s.ownsSlot rq p slot = true)
    (verifying : (s.xfer slot).state = .verifying) :
    s.commitBlock rq p slot digest = (s, if (s.xfer slot).digest = digest then 0x0F else 0x0A, []) := by
  unfold State.commitBlock
  rw [State.onSlot_of_permits permitted]
  dsimp only
  rw [if_pos own, verifying]
  simp only [beq_iff_eq]

theorem completes_blockCommit {rq : Requester} {param : Half} {slot : Byte} {digest : List Byte}
    (heard : s.hears rq 0 = true) (window : rq.onWindow = false) (permitted : s.permits rq param.toNat = true)
    (own : s.ownsSlot rq param.toNat slot.toNat = true) (opened : (s.xfer slot.toNat).state = .opened)
    (fresh : (s.xfer slot.toNat).result = none) (applet : param.toNat ≠ P.AppletImage)
    (relay : param.toNat ≠ P.RelayRequest) : Completes (.blockCommit rq param slot digest) s fun t =>
      t.wdp.answer = ⟨0x0F, []⟩ ∧
      SlotIs slot.toNat { s.xfer slot.toNat with state := .verifying, digest := digest } s t ∧
      Frame [] [] [.answer, .transfers] s t := by
  obtain ⟨n, act⟩ := exec_of_serveOp (c := .blockCommit rq param slot digest) (s := s) (d := []) rfl window heard
    (fun v => v.setXfer slot.toNat { s.xfer slot.toNat with state := .verifying, digest := digest })
    (fun n _ => State.commitBlock_starts (s := { s with now := n }) permitted own opened fresh applet relay)
    fun _ => rfl
  refine ⟨_, act, State.settle_wdp_answer _, ?_, ?_⟩
  · refine (slotIs_setXfer ?_).settle
    rfl
  · exact ((((Frame.refl ..).now n).setXfer _ _ (by decide)).answer _ _ (by decide)).settle

theorem completes_blockCommit_poll {rq : Requester} {param : Half} {slot : Byte} {digest : List Byte}
    (heard : s.hears rq 0 = true) (window : rq.onWindow = false) (permitted : s.permits rq param.toNat = true)
    (own : s.ownsSlot rq param.toNat slot.toNat = true) (verifying : (s.xfer slot.toNat).state = .verifying) :
    Completes (.blockCommit rq param slot digest) s fun t =>
      t.wdp.answer = ⟨if (s.xfer slot.toNat).digest = digest then 0x0F else 0x0A, []⟩ ∧
      Frame [] [] [.answer] s t :=
  completes_of_serveOp_idle rfl window heard fun n _ =>
    State.commitBlock_polls (s := { s with now := n }) permitted own verifying

/-! ### The end of the hash -/

/-- A hash of a staged body is under way, and neither a write nor the standby is waited for. -/
structure State.Hashes (s : State) (slot : Nat) : Prop where
  verifying : (s.xfer slot).state = .verifying
  unwritten : (s.xfer slot).writing = false
  unmirrored : ∀ c ∈ s.twin.blobCommit, c.1 ≠ slot

theorem State.verifySlot_of_hashes {slot : Nat} (h : s.Hashes slot) : s.verifySlot slot =
    if sha256 (s.stagedBody slot) ≠ (s.xfer slot).digest then
      (s.setXfer slot { s.xfer slot with state := .mismatch }).event Ev.blockDone (s.xfer slot).param 0 0x0B
    else if (s.checkBody (s.xfer slot).param (s.stagedBody slot)).2 then
      (s.checkBody (s.xfer slot).param (s.stagedBody slot)).1.takeBody slot (s.stagedBody slot)
    else (s.checkBody (s.xfer slot).param (s.stagedBody slot)).1.endSlot slot 3 := by
  obtain ⟨verifying, unwritten, unmirrored⟩ := h
  unfold State.verifySlot
  dsimp only
  rw [if_pos]
  simpa [verifying, unwritten] using fun a b k => unmirrored (a, b) k

/-- The slots are read from the list of transfers alone. -/
theorem SlotIs.congr {k : Nat} {x : Xfer} {u : State} (h : SlotIs k x s t) (xfers : u.wdp.xfers = t.wdp.xfers) :
    SlotIs k x s u := by
  obtain ⟨own, others⟩ := h
  unfold State.xfer at own others
  unfold SlotIs State.xfer
  rw [xfers]
  exact ⟨own, others⟩

theorem completes_blockCommitVerified_mismatch {slot : Fin 4} (h : s.Hashes slot)
    (differs : sha256 (s.stagedBody slot) ≠ (s.xfer slot).digest) : Completes (.blockCommitVerified slot) s fun t =>
      SlotIs slot { s.xfer slot with state := .mismatch } s t ∧ t.bit P.EventPending 0 5 = true ∧
      Frame [] [] [.transfers, .wdp] s t := by
  refine ⟨_, rfl, ?_⟩
  rw [s.verifySlot_of_hashes h, if_pos differs]
  refine ⟨((slotIs_setXfer rfl).congr (State.event_wdp_xfers ..)).settle, ?_, ?_⟩
  · exact (State.pends_event _ (by decide) _).settle.raised
  · exact (((Frame.refl ..).setXfer _ _ (by decide)).event _ _ _ _).settle

/-- A key of a fixed length that neither other units nor the fuses know. -/
def PlainKey (p : Nat) : Prop := p = P.PairKey ∨ p = P.AppletKeyHash

theorem State.checkBody_plainKey {p : Nat} {body : List Byte} (hp : PlainKey p) (length : body.length = 32) :
    s.checkBody p body = (s, true) := by
  have onlyLength : s.checkBody p body = (s, decide (body.length = 32)) := by
    rcases hp with rfl | rfl <;> rfl
  rw [onlyLength, decide_eq_true length]

theorem State.installBody_plainKey {p : Nat} {body : List Byte} (hp : PlainKey p) :
    s.installBody p body = s.setBlob p body := by
  rcases hp with rfl | rfl <;> rfl

/-- Such a key is in force as soon as it has been verified. -/
theorem State.takeBody_plainKey {p slot : Nat} {body : List Byte} (hp : PlainKey p)
    (param : (s.xfer slot).param = p) : s.takeBody slot body = (s.setBlob p body).endSlot slot 0 := by
  have flags : (Dict.row p).map (fun r => (r.content, r.mirrored)) = some (false, false) := by
    rcases hp with rfl | rfl <;> decide +kernel
  obtain ⟨r, row, plain⟩ := Option.map_eq_some_iff.mp flags
  obtain ⟨content, mirrored⟩ := Prod.mk.inj plain
  have others : p ≠ P.KeyHash ∧ p ≠ P.AppletImage ∧ p ≠ P.ImageWrite ∧ p ≠ P.SettingsImage ∧ p ≠ P.RelayRequest := by
    rcases hp with rfl | rfl <;> decide
  obtain ⟨hash, applet, image, settings, relay⟩ := others
  unfold State.takeBody
  dsimp only
  rw [param, row]
  simp [hash, applet, image, settings, relay, content, mirrored, State.installBody_plainKey hp]

/-- The slot of a body that has been taken keeps its result. -/
def endedSlot (x : Xfer) (status : Byte) : Xfer := { x with state := .free, writing := false, result := some status }

theorem State.endSlot_eq (s : State) (slot : Nat) (status : Byte) : s.endSlot slot status =
    (s.setXfer slot (endedSlot (s.xfer slot) status)).event Ev.blockDone (s.xfer slot).param 0
      (BitVec.ofNat 32 status.toNat) := rfl

theorem State.endSlot_slotIs (s : State) (slot : Nat) (status : Byte) :
    SlotIs slot (endedSlot (s.xfer slot) status) s (s.endSlot slot status) := by
  have ended : SlotIs slot (endedSlot (s.xfer slot) status) s (s.setXfer slot (endedSlot (s.xfer slot) status)) :=
    slotIs_setXfer rfl
  rw [State.endSlot_eq]
  exact ended.congr (State.event_wdp_xfers ..)

theorem Frame.endSlot (slot : Nat) (status : Byte) (h : Frame ps es fs s t) (hf : .transfers ∈ fs) :
    Frame ps es fs s (t.endSlot slot status) := by
  rw [State.endSlot_eq]
  exact (h.setXfer _ _ hf).event _ _ _ _

theorem completes_blockCommitVerified_plainKey {slot : Fin 4} {p : Nat} (h : s.Hashes slot)
    (matched : sha256 (s.stagedBody slot) = (s.xfer slot).digest) (param : (s.xfer slot).param = p)
    (hp : PlainKey p) (length : (s.stagedBody slot).length = 32) : Completes (.blockCommitVerified slot) s fun t =>
      t.blob p = s.stagedBody slot ∧ SlotIs slot (endedSlot (s.xfer slot) 0) s t ∧
      Frame [] [] [.transfers, .bodies, .wdp] s t := by
  have verified : s.verifySlot slot = (s.setBlob p (s.stagedBody slot)).endSlot slot 0 := by
    rw [s.verifySlot_of_hashes h, if_neg (not_not_intro matched), param, State.checkBody_plainKey hp length, if_pos rfl,
      State.takeBody_plainKey hp param]
  refine ⟨_, congrArg done verified, ?_, ?_, ?_⟩
  · rw [State.settle_blob]
    rw [State.endSlot_eq, State.event_blob]
    exact s.blob_setBlob_same p _
  · obtain ⟨own, others⟩ := (s.setBlob p (s.stagedBody slot)).endSlot_slotIs slot 0
    exact SlotIs.settle ⟨own, others⟩
  · exact (((Frame.refl ..).setBlob _ _ (by decide)).endSlot _ _ (by decide)).settle

/-! ### BlockAbort and the idle timeout -/

theorem State.freeSlot_slotIs (s : State) (slot : Nat) : SlotIs slot Xfer.free s (s.freeSlot slot) :=
  slotIs_setXfer rfl

theorem Frame.freeSlot (slot : Nat) (h : Frame ps es fs s t) (transfers : .transfers ∈ fs) (twin : .twin ∈ fs) :
    Frame ps es fs s (t.freeSlot slot) := (h.setTwin _ twin).setXfer _ _ transfers

theorem State.abortBlock_frees {rq : Requester} {p slot : Nat} (permitted : s.permits rq p = true)
    (own : s.ownsSlot rq p slot = true) (unlatched : (s.xfer slot).state ≠ .latchPending)
    (unwritten : (s.xfer slot).writing = false) : s.abortBlock rq p slot false = (s.freeSlot slot, 0, []) := by
  unfold State.abortBlock
  rw [State.onSlot_of_permits permitted]
  simp [own, unlatched, unwritten]

/-- What completes in this clock, or waits for its latch, is not aborted. -/
theorem State.abortBlock_completed {rq : Requester} {p slot : Nat} {sameClock : Bool}
    (permitted : s.permits rq p = true)
    (h : sameClock = true ∨ (s.ownsSlot rq p slot = true ∧ (s.xfer slot).state = .latchPending)) :
    s.abortBlock rq p slot sameClock = (s, 0x0D, []) := by
  unfold State.abortBlock
  rw [State.onSlot_of_permits permitted]
  exact if_pos (by simpa using h)

theorem completes_blockAbort {rq : Requester} {param : Half} {slot : Byte} (heard : s.hears rq 0 = true)
    (window : rq.onWindow = false) (permitted : s.permits rq param.toNat = true)
    (own : s.ownsSlot rq param.toNat slot.toNat = true) (unlatched : (s.xfer slot.toNat).state ≠ .latchPending)
    (unwritten : (s.xfer slot.toNat).writing = false) : Completes (.blockAbort rq param slot false) s fun t =>
      t.wdp.answer = ⟨0, []⟩ ∧ SlotIs slot.toNat Xfer.free s t ∧ Frame [] [] [.answer, .transfers, .twin] s t := by
  obtain ⟨n, act⟩ := exec_of_serveOp (c := .blockAbort rq param slot false) (s := s) (a := 0) (d := []) rfl window heard
    (fun v => v.freeSlot slot.toNat)
    (fun n _ => State.abortBlock_frees (s := { s with now := n }) permitted own unlatched unwritten) fun _ => rfl
  refine ⟨_, act, State.settle_wdp_answer _, ?_, ?_⟩
  · refine (slotIs_setXfer ?_).settle
    rfl
  · exact ((((Frame.refl ..).now n).freeSlot _ (by decide) (by decide)).answer _ _ (by decide)).settle

theorem completes_blockAbort_completed {rq : Requester} {param : Half} {slot : Byte} {sameClock : Bool}
    (heard : s.hears rq 0 = true) (window : rq.onWindow = false) (permitted : s.permits rq param.toNat = true)
    (h : sameClock = true ∨
      (s.ownsSlot rq param.toNat slot.toNat = true ∧ (s.xfer slot.toNat).state = .latchPending)) :
    Completes (.blockAbort rq param slot sameClock) s fun t =>
      t.wdp.answer = ⟨0x0D, []⟩ ∧ Frame [] [] [.answer] s t :=
  completes_of_serveOp_idle rfl window heard fun n _ =>
    State.abortBlock_completed (s := { s with now := n }) permitted h

theorem completes_blockSlotIdleTimeout {slot : Fin 4} (used : (s.xfer slot).state ≠ .free)
    (unlatched : (s.xfer slot).state ≠ .latchPending) (unwritten : (s.xfer slot).writing = false) :
    Completes (.blockSlotIdleTimeout slot) s fun t =>
      SlotIs slot Xfer.free s t ∧ Frame [] [] [.transfers, .twin] s t := by
  have abandoned : s.idleSlot slot =
      (s.log 0x10 0x0006 slot (BitVec.ofNat 32 (s.xfer slot).param) 0).freeSlot slot := by
    unfold State.idleSlot
    exact if_neg (by simp [used, unlatched, unwritten])
  refine ⟨_, congrArg done abandoned, ?_, ?_⟩
  · obtain ⟨own, others⟩ := State.freeSlot_slotIs (s.log 0x10 0x0006 slot (BitVec.ofNat 32 (s.xfer slot).param) 0) slot
    exact SlotIs.settle ⟨own, fun m hm hk => (others m hm hk).trans (State.log_xfer ..)⟩
  · exact (((Frame.refl ..).log _ _ _ _ _).freeSlot _ (by decide) (by decide)).settle

/-- Settles O19, clause by clause: what the operation does to its slot, which alone of the four changes. -/
theorem blockTransferSlots : Obligations.BlockTransferSlots := by
  unfold Obligations.BlockTransferSlots
  refine ⟨?opened, ?filled, ?refused, ?commits, ?polls, ?mismatch, ?installed, ?aborted, ?completed, ?idle⟩
  case opened =>
    rintro s rq param total r n
      ⟨heard, row, blob, window, permitted, active, unheld, size, gate, hn, free, lowest⟩
    obtain ⟨t, act, answer, ⟨own, others⟩, frame⟩ :=
      completes_blockOpen heard row blob window permitted active unheld size gate hn free lowest
    exact ⟨t, act, answer, own, others, frame⟩
  case filled =>
    rintro s rq param slot offset data ⟨heard, window, permitted, own, filling, fits, area⟩
    obtain ⟨t, act, answer, ⟨own, others⟩, rest⟩ :=
      completes_blockData heard window permitted own filling fits area
    exact ⟨t, act, answer, own, others, rest⟩
  case refused =>
    rintro s rq param slot offset data ⟨heard, window, permitted, h⟩
    exact completes_blockData_refused heard window permitted h
  case commits =>
    rintro s rq param slot digest ⟨heard, window, permitted, own, opened, fresh, applet, relay⟩
    obtain ⟨t, act, answer, ⟨own, others⟩, frame⟩ :=
      completes_blockCommit heard window permitted own opened fresh applet relay
    exact ⟨t, act, answer, own, others, frame⟩
  case polls =>
    rintro s rq param slot digest ⟨heard, window, permitted, own, verifying⟩
    exact completes_blockCommit_poll heard window permitted own verifying
  case mismatch =>
    rintro s slot ⟨verifying, unwritten, unmirrored, differs⟩
    obtain ⟨t, act, ⟨own, others⟩, pending, frame⟩ :=
      completes_blockCommitVerified_mismatch ⟨verifying, unwritten, unmirrored⟩ differs
    exact ⟨t, act, congrArg Xfer.state own, pending, others, frame⟩
  case installed =>
    rintro s slot p ⟨verifying, unwritten, unmirrored, matched, param, hp, length⟩
    obtain ⟨t, act, body, ⟨own, others⟩, frame⟩ := completes_blockCommitVerified_plainKey
      ⟨verifying, unwritten, unmirrored⟩ matched param hp length
    exact ⟨t, act, body, congrArg Xfer.state own, congrArg Xfer.result own, others, frame⟩
  case aborted =>
    rintro s rq param slot ⟨heard, window, permitted, own, unlatched, unwritten⟩
    obtain ⟨t, act, answer, ⟨own, others⟩, frame⟩ :=
      completes_blockAbort heard window permitted own unlatched unwritten
    exact ⟨t, act, answer, own, others, frame⟩
  case completed =>
    rintro s rq param slot sameClock ⟨heard, window, permitted, h⟩
    exact completes_blockAbort_completed heard window permitted h
  case idle =>
    rintro s slot ⟨used, unlatched, unwritten⟩
    obtain ⟨t, act, ⟨own, others⟩, frame⟩ := completes_blockSlotIdleTimeout used unlatched unwritten
    exact ⟨t, act, own, others, frame⟩

end Sys2Proof.Machine
end

section
namespace Sys2Proof.Machine

variable {s : State} {rq : Requester}

/-! ### A read of P4410 in the clock of an admission (R183) -/

/-- A read that finds no cue leaves the queue as it stands. -/
theorem State.queue_readCueWord_of_unreadable (h : s.readableCues = []) : s.readCueWord.2.cue.queue = s.cue.queue := by
  unfold State.readCueWord
  rw [h]
  dsimp only
  rw [State.count_cue]

/-- The row of P4410 CueRead, which every level reads. -/
def cueReadRow : Row :=
  ⟨P.CueRead, .u64, .ro, 1, 0, 3, 0, 0xFFFFFFFFFFFFFFFF, 0xFFFFFFFFFFFFFFFF, 0, 0, false, false, false, .none, 0⟩

theorem row_cueRead : Dict.row P.CueRead = some cueReadRow := by decide +kernel

/-- Where a core runs, every parameter can be reached. -/
theorem State.reaches_of_coreRuns {c : Nat} (h : s.coreRuns c = true) (p : Nat) : s.reaches p false = true := by
  unfold State.coreRuns at h
  unfold State.reaches
  cases hp : s.power.phase <;> simp [hp] at h ⊢

/-- A read of P4410 takes the next word of the queue. -/
theorem State.readElement_cueRead : s.readElement rq P.CueRead 0 = s.readCueWord := by
  unfold State.readElement
  rw [if_neg (by decide), if_neg (by decide), if_pos rfl]

/-- A load of its low word in machine mode of DC0 returns the low half of that word and latches the high one. -/
theorem State.loadWord_cueRead {c : Nat} (reached : s.reaches P.CueRead false = true) (mode : rq.kernelMode = true) :
    s.loadWord rq c P.CueRead 0 = (s.readCueWord.1.setWidth 32, s.readCueWord.2.setCore c
      { s.readCueWord.2.core c with latch := some (P.CueRead, 0, (s.readCueWord.1 >>> 32).setWidth 32) }) := by
  have permitted : (decide (s.level rq < cueReadRow.readLevel) || !s.reaches P.CueRead false ||
      (P.CueRead == P.CueRead && !rq.kernelMode)) = false := by
    rw [reached, mode]
    rfl
  rw [← State.readElement_cueRead (rq := rq)]
  unfold State.loadWord
  rw [row_cueRead]
  dsimp only
  rw [if_neg (by decide), permitted]
  rfl

/-- A load of the low word of P4410 by DC0 in machine mode does to the queue what the read of a word does. -/
theorem State.cue_load_cueRead (path : rq.path = .window 0 true) (serves : s.pathServes rq = true)
    (granted : s.faults rq (wordAddr rq P.CueRead 0) false = false) :
    (s.load rq P.CueRead 0).cue = (s.arbitrate rq).readCueWord.2.cue := by
  have session : s.sessionOk rq = true := by simp [State.sessionOk, Requester.onWindow, path]
  have runs : s.coreRuns 0 = true := by simpa [State.pathServes, path] using serves
  have reached : (s.arbitrate rq).reaches P.CueRead false = true := by
    obtain ⟨n, hn⟩ := s.arbitrate_eq rq
    rw [hn]
    exact State.reaches_of_coreRuns (s := { s with now := n }) runs _
  have mode : rq.kernelMode = true := by simp [Requester.kernelMode, path]
  unfold State.load
  rw [path]
  dsimp only
  rw [State.access_of _ _ _ _ _ serves session granted, State.loadWord_cueRead reached mode]
  rfl

/-- A device that runs, in the clock in which its Cue Queue, empty before, admits a cue of one word. -/
def cueAdmitting : State :=
  let s := State.reset.setCore 0 { State.reset.core 0 with released := true }
  (({ s with power := { s.power with phase := .ready, sleep := .run } } : State).admitCue [0xE000000000000000]).1

/-- Refutes O33: a read in the clock of an admission sees the queue as it stood before (R183), but the clause on the
load of P4410 lets it take every cue that stands in the queue. In `cueAdmitting` DC0 loads the low word, and the cue of
this clock stays. -/
theorem not_cueQueueCommands : ¬ Obligations.CueQueueCommands := by
  unfold Obligations.CueQueueCommands
  rintro ⟨-, -, load, -⟩
  have serves : cueAdmitting.pathServes firmware = true := by decide +kernel
  have granted : cueAdmitting.faults firmware (wordAddr firmware P.CueRead 0) false = false := by decide +kernel
  have queue : cueAdmitting.cue.queue = [⟨0, 0, [0xE000000000000000]⟩] := by decide +kernel
  obtain ⟨t, ht, -, -, taken, -⟩ := load cueAdmitting firmware _ _ _ _ ⟨rfl, serves, granted, queue, rfl⟩
  have loads : exec (.cueRead firmware false) cueAdmitting = done (cueAdmitting.load firmware P.CueRead 0) := rfl
  rw [loads] at ht
  cases ht
  have unreadable : (cueAdmitting.arbitrate firmware).readableCues = [] := by decide +kernel
  have kept : (cueAdmitting.load firmware P.CueRead 0).cue.queue = cueAdmitting.cue.queue := by
    rw [State.cue_load_cueRead rfl serves granted, State.queue_readCueWord_of_unreadable unreadable]
    rfl
  rw [State.settle_cue, kept, queue] at taken
  exact absurd taken (by decide)

end Sys2Proof.Machine
end

section
namespace Sys2Proof.Machine

variable {s t : State}

/-! ### The lanes of the canvas cycle take bands (R199) -/

/-- The render record after the lane has taken the next band, or waits since none is left. -/
def Render.takeBand (r : Render) (bands lane : Nat) : Render :=
  { r with
    next := if r.next < bands then r.next + 1 else r.next
    lanes := SMap.set 0 r.lanes lane (if r.next < bands then r.next + 1 else 0) }

theorem State.takeBand_eq (s : State) (lane : Nat) :
    s.takeBand lane = s.setRender (s.render.takeBand (bandsOf s.elementCount) lane) := by
  unfold State.takeBand Render.takeBand
  dsimp only
  split <;> rfl

/-- The record with other lanes, and another band to be taken next. -/
def Render.withLanes (r : Render) (next : Nat) (lanes : SMap Nat) : Render := { r with next := next, lanes := lanes }

theorem Render.takeBand_withLanes (r : Render) (next : Nat) (lanes : SMap Nat) (bands lane : Nat) :
    (r.withLanes next lanes).takeBand bands lane = r.withLanes (if next < bands then next + 1 else next)
      (SMap.set 0 lanes lane (if next < bands then next + 1 else 0)) := rfl

/-- Of `bands` bands the first `n` lanes of a cycle that starts have taken theirs, in order, while there were any. -/
structure BandsTaken (bands n : Nat) (s t : State) : Prop where
  state : t = s.setRender (s.render.withLanes (min n bands) t.render.lanes)
  lanes : ∀ l < n, SMap.get 0 t.render.lanes l = if l < bands then l + 1 else 0

theorem BandsTaken.takeBand {bands n : Nat} (hb : bandsOf s.elementCount = bands) (h : BandsTaken bands n s t) :
    BandsTaken bands (n + 1) s (t.takeBand n) := by
  obtain ⟨state, lanes⟩ := h
  generalize t.render.lanes = m at state lanes
  have count : bandsOf (s.setRender (s.render.withLanes (min n bands) m)).elementCount = bands := hb
  have mine : min n bands < bands ↔ n < bands := by omega
  have next : (if n < bands then min n bands + 1 else min n bands) = min (n + 1) bands := by split <;> omega
  have own : (if n < bands then min n bands + 1 else 0) = if n < bands then n + 1 else 0 := by
    split <;> omega
  rw [state, State.takeBand_eq, count]
  show BandsTaken bands (n + 1) s (s.setRender ((s.render.withLanes (min n bands) m).takeBand bands n))
  rw [Render.takeBand_withLanes]
  simp only [mine, next, own]
  refine ⟨rfl, fun l hl => ?_⟩
  show SMap.get 0 (SMap.set 0 m n _) l = _
  by_cases same : l = n
  · rw [same, SMap.get_set_same]
  · rw [SMap.get_set_other _ _ _ _ _ _ same]
    exact lanes l (by omega)

theorem bandsTaken {bands : Nat} (hb : bandsOf s.elementCount = bands) (start : s.render.next = 0) (n : Nat) :
    BandsTaken bands n s ((List.range n).foldl State.takeBand s) := by
  induction n with
  | zero =>
    refine ⟨?_, fun l hl => absurd hl (Nat.not_lt_zero l)⟩
    show s = s.setRender (s.render.withLanes (min 0 bands) s.render.lanes)
    rw [Nat.zero_min, ← start]
    rfl
  | succ n ih =>
    rw [List.range_succ, List.foldl_append]
    exact ih.takeBand hb

/-! ### The start of the cycle -/

/-- The render record of a cycle that begins, before its lanes have taken a band. -/
def State.begun (s : State) : State :=
  s.setRender { s.render.cleared with active := true, started := s.tns, probeElement := s.rdN P.ProbeElement 0 }

theorem State.startCycle_of_frame (frame : s.render.frame.isSome = true) (idle : s.render.active = false) :
    s.startCycle = (List.range 8).foldl State.takeBand s.begun := by
  obtain ⟨k, hk⟩ := Option.isSome_iff_exists.mp frame
  unfold State.startCycle
  rw [hk, idle, if_neg Bool.false_ne_true]
  rfl

theorem State.startCycle_of_idle (h : s.render.frame = none ∨ s.render.active = true) : s.startCycle = s := by
  unfold State.startCycle
  split
  · rfl
  · next hk => rw [if_pos (h.resolve_left (by simp [hk]))]

theorem completes_canvasCycleStart (frame : s.render.frame.isSome = true) (idle : s.render.active = false)
    (own : s.now.driven.contains 3 = false) : Completes .canvasCycleStart s fun t =>
    t.render = { s.render with
      active := true, started := s.tns, next := min 8 (bandsOf s.elementCount), lanes := t.render.lanes,
      finished := [], evalTime := 0, cost := 0, outOfView := 0, outside := 0, noProfile := 0,
      probeElement := s.rdN P.ProbeElement 0, probe := none } ∧
    (∀ l < 8, SMap.get 0 t.render.lanes l = if l < bandsOf s.elementCount then l + 1 else 0) ∧
    t.cycleStatus = BitVec.ofNat 64
      (2 ^ 31 + s.fld P.CycleStatus 0 16 12 * 2 ^ 16 + min (bandsOf s.elementCount) 4095) ∧
    Frame [] [] [.render] s t := by
  obtain ⟨n, hn⟩ := State.ownCommand_of_not_driven (act := State.startCycle) own
  obtain ⟨t, ht, state, lanes⟩ : ∃ t, s.ownCommand 3 State.startCycle = t ∧
      BandsTaken (bandsOf s.elementCount) 8 (State.begun { s with now := n }) t :=
    ⟨_, hn.trans (State.startCycle_of_frame (s := { s with now := n }) frame idle),
      bandsTaken (s := State.begun { s with now := n }) rfl rfl 8⟩
  have render : t.render = _ := congrArg State.render state
  have kept : Frame [] [] [.render] s t.settle := by
    rw [state]
    exact ((((Frame.refl ..).now n).setRender _ (by decide)).setRender _ (by decide)).settle
  refine ⟨t.settle, congrArg done ht, ?_, ?_, ?_, kept⟩
  · rw [State.settle_render]
    exact render
  · rw [State.settle_render]
    exact lanes
  · have count : t.settle.elementCount = s.elementCount := by
      unfold State.elementCount
      rw [State.settle_blob, state]
      rfl
    have abandoned : t.settle.fld P.CycleStatus 0 16 12 = s.fld P.CycleStatus 0 16 12 := by
      unfold State.fld
      rw [kept.rd (by decide) (by decide) (by decide) (by decide)]
    have active : t.settle.render.active = true := by
      rw [State.settle_render, render]
      rfl
    unfold State.cycleStatus
    dsimp only
    rw [count, abandoned, active]
    simp

theorem completes_canvasCycleStart_idle
    (h : s.render.frame = none ∨ s.render.active = true ∨ s.now.driven.contains 3 = true) :
    Completes .canvasCycleStart s fun t => Frame [] [] [] s t := by
  refine ⟨(s.ownCommand 3 State.startCycle).settle, rfl, (frame_ownCommand_of_idle ?_).settle⟩
  rcases h with h | h | h
  · exact .inr fun _ => State.startCycle_of_idle (.inl h)
  · exact .inr fun _ => State.startCycle_of_idle (.inr h)
  · exact .inl h

/-! ### A band's elements pass to the store (R199, R227) -/

/-- The value that element `n` takes in the store for frame `k`. -/
def State.cellOf (s : State) (k n : Nat) : List Half :=
  s.colourElement (tableRecord (s.blob P.ElementTable) n) (s.evalElement (tableRecord (s.blob P.ElementTable) n)
    (s.mapElement (tableRecord (s.blob P.ElementTable) n)) (k % 2 ^ 32)).1

/-- The render record after element `n` of frame `k` has been evaluated. -/
def State.evaluated (s : State) (k n : Nat) : Render :=
  let e := tableRecord (s.blob P.ElementTable) n
  let m := s.mapElement e
  let r := s.render
  { r with
    store := SMap.set [] r.store n (s.cellOf k n)
    cost := r.cost + (s.evalElement e m (k % 2 ^ 32)).2
    outOfView := r.outOfView + m.hidden.toNat
    outside := r.outside + (!m.hidden && !(s.inExtent e.canvas m.u m.v)).toNat
    noProfile := r.noProfile + (s.bareElement e).toNat
    probe := if n = r.probeElement then some (m.u, m.v, s.boxSide e m) else r.probe }

/-- The state but for what the lanes of the cycle change: the render record and the ports with a changed element. -/
def State.withCycle (s : State) (r : Render) (changed : List Nat) : State :=
  { s with render := r, sheet := { s.sheet with changed := changed } }

section
variable (s : State) (r : Render) (changed : List Nat)

@[simp] theorem State.withCycle_rd (p e : Nat) : (s.withCycle r changed).rd p e = s.rd p e := rfl

@[simp] theorem State.withCycle_rdN (p e : Nat) : (s.withCycle r changed).rdN p e = s.rdN p e := rfl

@[simp] theorem State.withCycle_lv (p e : Nat) : (s.withCycle r changed).lv p e = s.lv p e := rfl

@[simp] theorem State.withCycle_lvN (p e : Nat) : (s.withCycle r changed).lvN p e = s.lvN p e := rfl

@[simp] theorem State.withCycle_lvS32 (p e : Nat) : (s.withCycle r changed).lvS32 p e = s.lvS32 p e := rfl

@[simp] theorem State.withCycle_blob (p : Nat) : (s.withCycle r changed).blob p = s.blob p := rfl

@[simp] theorem State.withCycle_inExtent (c : Nat) (u v : Int) :
    (s.withCycle r changed).inExtent c u v = s.inExtent c u v := rfl

@[simp] theorem State.withCycle_mapElement (e : ElementRecord) :
    (s.withCycle r changed).mapElement e = s.mapElement e := rfl

@[simp] theorem State.withCycle_boxSide (e : ElementRecord) (m : Mapped) :
    (s.withCycle r changed).boxSide e m = s.boxSide e m := rfl

@[simp] theorem State.withCycle_colourElement (e : ElementRecord) (x : Rgba) :
    (s.withCycle r changed).colourElement e x = s.colourElement e x := rfl

@[simp] theorem State.withCycle_genSample (g : Nat) (u v : Int) (k32 : Nat) :
    (s.withCycle r changed).genSample g u v k32 = s.genSample g u v k32 := rfl

@[simp] theorem State.withCycle_layerFrame (l : Nat) : (s.withCycle r changed).layerFrame l = s.layerFrame l := rfl

@[simp] theorem State.withCycle_frameSize (f : SourceFrame) :
    (s.withCycle r changed).frameSize f = s.frameSize f := rfl

@[simp] theorem State.withCycle_inDst (l : Nat) (u v : Int) :
    (s.withCycle r changed).inDst l u v = s.inDst l u v := rfl

@[simp] theorem State.withCycle_sourceX (l : Nat) (u : Int) : (s.withCycle r changed).sourceX l u = s.sourceX l u := rfl

@[simp] theorem State.withCycle_sourceY (l : Nat) (v : Int) : (s.withCycle r changed).sourceY l v = s.sourceY l v := rfl

@[simp] theorem State.withCycle_getDram (a n : Nat) : (s.withCycle r changed).getDram a n = s.getDram a n := by
  induction n generalizing a with
  | zero => rfl
  | succ n ih => exact congrArg (s.dramByte a :: ·) (ih (a + 1))

@[simp] theorem State.withCycle_streamGroup (n slot x y : Nat) :
    (s.withCycle r changed).streamGroup n slot x y = s.streamGroup n slot x y :=
  State.withCycle_getDram ..

@[simp] theorem State.withCycle_chroma (n slot x y : Nat) :
    (s.withCycle r changed).chroma n slot x y = s.chroma n slot x y := by
  simp [State.chroma, State.chromaAt]

@[simp] theorem State.withCycle_framePixel (f : SourceFrame) (x y : Nat) :
    (s.withCycle r changed).framePixel f x y = s.framePixel f x y := by
  cases f with
  | video n slot => simp [State.framePixel, State.videoPixel]
  | raster base width height stride format => simp [State.framePixel]

@[simp] theorem State.withCycle_tap (l : Nat) (f : SourceFrame) (x y : Int) :
    (s.withCycle r changed).tap l f x y = s.tap l f x y := by
  simp [State.tap]

@[simp] theorem State.withCycle_imageSample (l : Nat) (f : SourceFrame) (filter side : Nat) (u v : Int) :
    (s.withCycle r changed).imageSample l f filter side u v = s.imageSample l f filter side u v := by
  simp [State.imageSample, State.nearest]

@[simp] theorem State.withCycle_layerSample (canvas layer : Nat) (e : ElementRecord) (side : Nat) (u v : Int)
    (k32 : Nat) : (s.withCycle r changed).layerSample canvas layer e side u v k32 =
      s.layerSample canvas layer e side u v k32 := by
  simp only [State.layerSample, State.withCycle_lv, State.withCycle_inDst, State.withCycle_genSample,
    State.withCycle_imageSample, State.withCycle_layerFrame]
  rfl

@[simp] theorem State.withCycle_evalElement (e : ElementRecord) (m : Mapped) (k32 : Nat) :
    (s.withCycle r changed).evalElement e m k32 = s.evalElement e m k32 := by
  simp [State.evalElement, State.stackAt]
/-- An element's value depends on nothing that the lanes change. -/
theorem State.cellOf_withCycle (k n : Nat) : (s.withCycle r changed).cellOf k n = s.cellOf k n := by
  simp [State.cellOf]

end

theorem State.frame_withCycle (s : State) (r : Render) (changed : List Nat) :
    Frame [] [] [.render, .sheet] s (s.withCycle r changed) :=
  ((Frame.refl ..).setRender r (by decide)).sheet _ (by decide)

theorem State.renderElement_eq (s : State) (k n : Nat) :
    ∃ changed, s.renderElement k n = s.withCycle (s.evaluated k n) changed := by
  unfold State.renderElement State.markChanged
  dsimp only
  split
  · split
    · exact ⟨_, rfl⟩
    · exact ⟨s.sheet.changed, rfl⟩
  · exact ⟨s.sheet.changed, rfl⟩

/-- The elements `ns` of frame `k` have been evaluated: their values stand in the store, and the cycle's sums and the
changed ports alone have changed beside. -/
structure Evaluated (k : Nat) (ns : List Nat) (s t : State) : Prop where
  state : t = s.withCycle t.render t.sheet.changed
  render : t.render = { s.render with
    store := t.render.store, cost := t.render.cost, outOfView := t.render.outOfView, outside := t.render.outside,
    noProfile := t.render.noProfile, probe := t.render.probe }
  cells : ∀ n ∈ ns, SMap.get [] t.render.store n = s.cellOf k n
  others : ∀ n ∉ ns, SMap.get [] t.render.store n = SMap.get [] s.render.store n

theorem Evaluated.refl (k : Nat) (s : State) : Evaluated k [] s s :=
  ⟨rfl, rfl, fun _ h => absurd h List.not_mem_nil, fun _ _ => rfl⟩

theorem Evaluated.renderElement {k : Nat} {ns : List Nat} (h : Evaluated k ns s t) (n : Nat) :
    Evaluated k (ns ++ [n]) s (t.renderElement k n) := by
  obtain ⟨state, render, cells, others⟩ := h
  have cell : t.cellOf k n = s.cellOf k n := by rw [state, State.cellOf_withCycle]
  obtain ⟨changed, one⟩ := t.renderElement_eq k n
  have store : (t.renderElement k n).render.store = SMap.set [] t.render.store n (s.cellOf k n) := by
    rw [one, ← cell]
    rfl
  refine ⟨?_, ?_, fun m hm => ?_, fun m hm => ?_⟩
  · rw [one, state]
    rfl
  · rw [one]
    show t.evaluated k n = _
    unfold State.evaluated
    dsimp only
    rw [render]
    rfl
  · rw [store]
    by_cases own : m = n
    · rw [own, SMap.get_set_same]
    · rw [SMap.get_set_other _ _ _ _ _ _ own]
      exact cells m (by simpa [own] using hm)
  · have apart : m ∉ ns ∧ m ≠ n := by simpa using hm
    rw [store, SMap.get_set_other _ _ _ _ _ _ apart.2]
    exact others m apart.1

/-- The elements of band `j` (R199). -/
def State.bandElements (s : State) (j : Nat) : List Nat :=
  (List.range (min (1024 * (j + 1)) s.elementCount - 1024 * j)).map (1024 * j + ·)

theorem State.mem_bandElements {j n : Nat} : n ∈ s.bandElements j ↔ n < s.elementCount ∧ n / 1024 = j := by
  simp only [State.bandElements, List.mem_map, List.mem_range]
  constructor
  · rintro ⟨i, hi, rfl⟩
    omega
  · rintro ⟨hn, hj⟩
    exact ⟨n - 1024 * j, by omega, by omega⟩

theorem Evaluated.foldl {k : Nat} {ns : List Nat} (h : Evaluated k ns s t) (ms : List Nat) :
    Evaluated k (ns ++ ms) s (ms.foldl (fun s n => s.renderElement k n) t) := by
  induction ms generalizing ns t with
  | nil =>
    rw [List.append_nil]
    exact h
  | cons m ms ih =>
    rw [List.append_cons]
    exact ih (h.renderElement m)

/-! ### The end of a band (R199) -/

/-- The record once band `j` is finished, `time` after the start of the cycle's active phase. -/
def Render.finishBand (r : Render) (j time : Nat) : Render :=
  { r with finished := r.finished ++ [j], cost := r.cost + 64, evalTime := time }

/-- The band of a lane is done: its elements are evaluated, it counts as finished, and the lane takes the next. -/
theorem State.finishBand_of_taken {lane k j : Nat} (frame : s.render.frame = some k)
    (taken : SMap.get 0 s.render.lanes lane = j + 1) (active : s.render.active = true) :
    ∃ t, Evaluated k (s.bandElements j) s t ∧ s.finishBand lane = s.withCycle
      ((t.render.finishBand j (s.tns - s.render.started).toNat).takeBand (bandsOf s.elementCount) lane)
      t.sheet.changed := by
  have evaluated : Evaluated k (s.bandElements j) s _ := (Evaluated.refl k s).foldl (s.bandElements j)
  refine ⟨_, evaluated, ?_⟩
  have finish : s.finishBand lane =
      let t := (s.bandElements j).foldl (fun s n => s.renderElement k n) s
      (t.setRender (t.render.finishBand j (t.tns - t.render.started).toNat)).takeBand lane := by
    unfold State.finishBand State.bandElements
    rw [frame, taken, List.foldl_map]
    exact if_pos active
  rw [finish]
  generalize (s.bandElements j).foldl (fun s n => s.renderElement k n) s = t at evaluated
  obtain ⟨state, render, -, -⟩ := evaluated
  have started : t.render.started = s.render.started := by rw [render]
  dsimp only
  rw [State.takeBand_eq, started]
  generalize t.render = r at state
  rw [state]
  rfl

theorem State.finishBand_of_idle {lane : Nat}
    (h : s.render.frame = none ∨ SMap.get 0 s.render.lanes lane = 0 ∨ s.render.active = false) :
    s.finishBand lane = s := by
  unfold State.finishBand
  split
  · next frame taken =>
    have still : s.render.active = false := by simpa [frame, taken] using h
    rw [still, if_neg Bool.false_ne_true]
  · rfl

theorem completes_bandDone {lane : Fin 8} {k j : Nat} (frame : s.render.frame = some k)
    (taken : SMap.get 0 s.render.lanes lane = j + 1) (active : s.render.active = true) :
    Completes (.bandDone lane) s fun t =>
      t.render.finished = s.render.finished ++ [j] ∧ t.render.evalTime = (s.tns - s.render.started).toNat ∧
      SMap.get 0 t.render.lanes lane = (if s.render.next < bandsOf s.elementCount then s.render.next + 1 else 0) ∧
      (∀ n < s.elementCount, n / 1024 = j → SMap.get [] t.render.store n = s.cellOf k n) ∧
      (∀ n, n / 1024 ≠ j → SMap.get [] t.render.store n = SMap.get [] s.render.store n) ∧
      t.sheet = { s.sheet with changed := t.sheet.changed } ∧ Frame [] [] [.render, .sheet] s t := by
  obtain ⟨t, ⟨-, render, cells, others⟩, finish⟩ := State.finishBand_of_taken frame taken active
  refine ⟨(s.finishBand lane).settle, rfl, ?_⟩
  dsimp only
  rw [State.settle_render, State.settle_sheet, finish]
  refine ⟨?_, rfl, ?_, fun n hn own => ?_, fun n apart => ?_, rfl, (s.frame_withCycle _ _).settle⟩
  · have before : t.render.finished = s.render.finished := by rw [render]
    rw [← before]
    rfl
  · have next : t.render.next = s.render.next := by rw [render]
    rw [← next]
    exact SMap.get_set_same ..
  · exact cells n (State.mem_bandElements.mpr ⟨hn, own⟩)
  · exact others n fun h => apart (State.mem_bandElements.mp h).2

theorem completes_bandDone_idle {lane : Fin 8}
    (h : s.render.frame = none ∨ SMap.get 0 s.render.lanes lane = 0 ∨ s.render.active = false) :
    Completes (.bandDone lane) s fun t => Frame [] [] [] s t := by
  refine ⟨(s.finishBand lane).settle, rfl, ?_⟩
  rw [State.finishBand_of_idle h]
  exact (Frame.refl ..).settle

/-- Settles O35, clause by clause: the start of the cycle, a start that does nothing, a band that is done, and one that
is no lane's. -/
theorem canvasCycle : Obligations.CanvasCycle := by
  unfold Obligations.CanvasCycle
  refine ⟨?_, ?_, ?_, ?_⟩
  · rintro s ⟨frame, idle, own⟩
    exact completes_canvasCycleStart frame idle own
  · intro s h
    exact completes_canvasCycleStart_idle h
  · rintro s lane k j ⟨frame, taken, active⟩
    obtain ⟨t, ht, finished, time, next, cells, others, kept⟩ := completes_bandDone frame taken active
    exact ⟨t, ht, finished, time, next, cells, fun n _ apart => others n (by omega), kept⟩
  · intro s lane h
    exact completes_bandDone_idle h

end Sys2Proof.Machine
end

section
namespace Sys2Proof.Machine

variable {s t u : State}

/-! ### The shadow value of a key -/

theorem State.shadow_eq_rd (s : State) (k : Nat) : s.shadow k = s.rd (k / 256) (k % 256) := by
  have key : Dict.key (k / 256) (k % 256) = k := by
    unfold Dict.key
    omega
  unfold State.rd
  rw [key]
  rfl

theorem Dict.key_div (p e : Nat) : Dict.key p e / 256 = p := by
  unfold Dict.key
  omega

/-- A frame leaves the shadow values of the parameters that it does not name. -/
theorem Frame.shadow {ps : List Nat} {fs : List Part} (h : Frame ps [] fs s t) {k : Nat}
    (hk : k / 256 ∉ housekeeping ++ ps) : t.shadow k = s.shadow k := by
  obtain ⟨kept, unnamed⟩ := not_or.mp (mt List.mem_append.mpr hk)
  rw [State.shadow_eq_rd, State.shadow_eq_rd]
  exact h.rd (Nat.mod_lt _ (by decide)) kept unnamed List.not_mem_nil

theorem SMap.find_foldl_insert {V : Type} (f : Nat → V) (keys : List Nat) (m : SMap V) (k : Nat) :
    SMap.find (keys.foldl (fun m j => SMap.insert m j (f j)) m) k =
      if k ∈ keys then some (f k) else SMap.find m k := by
  induction keys generalizing m with
  | nil => rfl
  | cons j keys ih =>
    rw [List.foldl_cons, ih]
    by_cases later : k ∈ keys
    · rw [if_pos later, if_pos (List.mem_cons_of_mem j later)]
    · by_cases here : k = j
      · rw [if_neg later, here, SMap.find_insert_same, if_pos List.mem_cons_self]
      · rw [if_neg later, SMap.find_insert_other _ _ _ _ here, if_neg (by simp [here, later])]

/-! ### A snapshot into the pending copy (R201, R218) -/

/-- Of the items (canvas and bit number) and keys listed, and of no others, `t` has taken the shadow values of `s` into
the pending copy, where they await their latch. Beside it only `ps` and what any granted write may change changed. -/
structure Snapshot (ps : List Nat) (items : List (Nat × Nat)) (keys : List Nat) (s t : State) : Prop where
  render : t.render = { s.render with committed := t.render.committed, items := t.render.items }
  committed : ∀ k, SMap.find t.render.committed k =
    if k ∈ keys then some (s.shadow k) else SMap.find s.render.committed k
  pending : ∀ c i, t.itemPending c i = (s.itemPending c i || decide ((c, i) ∈ items))
  frame : Frame ps [] [.answer, .render, .twin, .wdp] s t

variable {ps : List Nat} {items : List (Nat × Nat)} {keys : List Nat}

theorem Snapshot.refl (ps : List Nat) (s : State) : Snapshot ps [] [] s s :=
  ⟨rfl, fun _ => rfl, fun _ _ => by simp, Frame.refl ..⟩

theorem Snapshot.trans {items' : List (Nat × Nat)} {keys' : List Nat} (h : Snapshot ps items keys s t)
    (k : Snapshot ps items' keys' t u) (hk : ∀ k ∈ keys', k / 256 ∉ housekeeping ++ ps) :
    Snapshot ps (items ++ items') (keys ++ keys') s u := by
  refine ⟨?_, fun j => ?_, fun c i => ?_, h.frame.trans k.frame⟩
  · rw [k.render, h.render]
  · rw [k.committed, h.committed]
    by_cases later : j ∈ keys'
    · rw [if_pos later, if_pos (List.mem_append_right keys later), h.frame.shadow (hk j later)]
    · simp [later]
  · rw [k.pending, h.pending, Bool.or_assoc]
    simp

/-- What comes after the snapshot leaves the pending copy. -/
theorem Snapshot.after (h : Snapshot ps items keys s t) (k : Frame ps [] [.answer, .twin, .wdp] t u) :
    Snapshot ps items keys s u := by
  have render := k.2.render (by decide)
  refine ⟨?_, fun j => ?_, fun c i => ?_, h.frame.trans (k.weaken (by simp) (by simp) (by simp))⟩
  · rw [render]
    exact h.render
  · rw [render]
    exact h.committed j
  · unfold State.itemPending
    rw [render]
    exact h.pending c i

/-- The note of this clock plays no part in a snapshot. -/
theorem Snapshot.of_arbitrate {rq : Requester} (h : Snapshot ps items keys (s.arbitrate rq) t) :
    Snapshot ps items keys s t := by
  have frame := (frame_arbitrate s rq ps [] [.answer, .render, .twin, .wdp]).trans h.frame
  obtain ⟨n, hn⟩ := s.arbitrate_eq rq
  rw [hn] at h
  exact ⟨h.render, h.committed, h.pending, frame⟩

/-- The counter of commits that replace one of the item which awaits its latch. -/
def replaceCounter (item : Nat) : Nat := if item = 32 then P.ProjectionReplaceCount else P.CommitReplaceCount

/-- An item's snapshot counts where it replaces one, and takes the shadow values of its keys. -/
theorem snapshot_commitKeys (c item : Nat) (frame : Option Nat) (counts : replaceCounter item ∈ ps)
    (hk : ∀ k ∈ keys, k / 256 ∉ housekeeping ++ ps) :
    Snapshot ps [(c, item)] keys s (s.commitKeys c item keys frame) := by
  obtain ⟨t, ht, render, counted⟩ : ∃ t, (if s.itemPending c item then s.count (replaceCounter item) 0 else s) = t ∧
      t.render = s.render ∧ Frame ps [] [.answer, .render, .twin, .wdp] s t := by
    refine ⟨_, rfl, ?_, ?_⟩
    · split
      · exact State.count_render ..
      · rfl
    · split
      · exact (Frame.refl ..).count _ _ (.inl counts)
      · exact Frame.refl ..
  have taken : s.commitKeys c item keys frame = t.setRender { s.render with
      committed := keys.foldl (fun m k => SMap.insert m k (t.shadow k)) s.render.committed
      items := s.render.items.filter (fun x => !(x.canvas == c && x.item == item)) ++ [⟨c, item, frame⟩] } := by
    rw [← render, ← ht]
    rfl
  rw [taken]
  refine ⟨rfl, fun k => ?_, fun c' i => ?_, counted.setRender _ (by decide)⟩
  · refine (SMap.find_foldl_insert t.shadow keys s.render.committed k).trans ?_
    by_cases mine : k ∈ keys
    · rw [if_pos mine, if_pos mine, counted.shadow (hk k mine)]
    · rw [if_neg mine, if_neg mine]
  · show List.any (_ ++ _) _ = _
    unfold State.itemPending
    by_cases own : c' = c ∧ i = item
    · simp [own]
    · have apart : ∀ x : PendingItem, (!(x.canvas == c && x.item == item) && (x.canvas == c' && x.item == i)) =
          (x.canvas == c' && x.item == i) := by
        intro x
        cases hx : x.canvas == c' && x.item == i with
        | false => exact Bool.and_false _
        | true =>
          obtain ⟨rfl, rfl⟩ : x.canvas = c' ∧ x.item = i := by simpa using hx
          simpa using Decidable.not_and_iff_not_or_not.mp own
      have new : (c == c' && item == i) = false := by
        rw [Bool.eq_false_iff]
        intro h
        obtain ⟨rfl, rfl⟩ : c = c' ∧ item = i := by simpa using h
        exact own ⟨rfl, rfl⟩
      rw [List.any_append, List.any_filter]
      simp only [apart, List.any_cons, List.any_nil, new]
      simp [own]

/-- Commits of several items, one after another. -/
theorem Snapshot.foldl {α : Type} (item : α → Nat × Nat) (keysOf : α → List Nat) (frame : Option Nat) (l : List α)
    (h : Snapshot ps items keys s t) (counts : ∀ a ∈ l, replaceCounter (item a).2 ∈ ps)
    (hk : ∀ a ∈ l, ∀ k ∈ keysOf a, k / 256 ∉ housekeeping ++ ps) :
    Snapshot ps (items ++ l.map item) (keys ++ l.flatMap keysOf) s
      (l.foldl (fun s a => s.commitKeys (item a).1 (item a).2 (keysOf a) frame) t) := by
  induction l generalizing items keys t with
  | nil =>
    rw [List.map_nil, List.flatMap_nil, List.append_nil, List.append_nil]
    exact h
  | cons a l ih =>
    have first := hk a List.mem_cons_self
    have taken := snapshot_commitKeys (s := t) (item a).1 (item a).2 frame (counts a List.mem_cons_self) first
    rw [List.map_cons, List.append_cons, List.flatMap_cons, ← List.append_assoc]
    exact ih (h.trans taken first) (fun b hb => counts b (List.mem_cons_of_mem a hb))
      (fun b hb => hk b (List.mem_cons_of_mem a hb))

/-- Commits of several items from a state on. -/
theorem snapshot_foldl {α : Type} (item : α → Nat × Nat) (keysOf : α → List Nat) (frame : Option Nat) (l : List α)
    (counts : ∀ a ∈ l, replaceCounter (item a).2 ∈ ps)
    (hk : ∀ a ∈ l, ∀ k ∈ keysOf a, k / 256 ∉ housekeeping ++ ps) : Snapshot ps (l.map item) (l.flatMap keysOf) s
      (l.foldl (fun s a => s.commitKeys (item a).1 (item a).2 (keysOf a) frame) s) :=
  (Snapshot.refl ps s).foldl item keysOf frame l counts hk

/-! ### After the snapshot -/

/-- What a commit may count and show (R201 to R204), and the count of a write that a lost partner did not see (R375). -/
def commitParams : List Nat :=
  [P.SplitWriteCount, P.CommitReplaceCount, P.CommitPending, P.ProjectionPending, P.CommitTarget, P.LayerStatus]

theorem State.frame_mirrorWrite (s : State) (via : Via) (r : Row) (e : Nat) (v : Wide) :
    Frame [P.SplitWriteCount] [] [.answer, .twin, .wdp] s (s.mirrorWrite via r e v) := by
  have emitted : ∀ x, Frame [P.SplitWriteCount] [] [.answer, .twin, .wdp] s (s.emit x) := fun x =>
    (Frame.refl ..).setTwin _ (by decide)
  unfold State.mirrorWrite State.splitWrite
  dsimp only
  split
  · exact Frame.refl ..
  · split
    · split
      · exact emitted _
      · exact emitted _
    · split
      · exact Frame.refl ..
      · split
        · exact ((Frame.refl ..).log ..).count _ _ (.inl (by decide))
        · exact Frame.refl ..

theorem State.frame_markRelease (s : State) (l : Nat) :
    Frame commitParams [] [.answer, .twin, .wdp] s (s.markRelease l) :=
  (Frame.refl ..).setFld _ _ _ _ _ (.inl (by decide))

theorem State.frame_showPending (s : State) : Frame commitParams [] [.answer, .twin, .wdp] s s.showPending :=
  (Frame.foldl _ (fun _ _ => (Frame.refl ..).wr _ _ _ (.inl (by decide))) _ (Frame.refl ..)).wr _ _ _ (.inl (by decide))

/-- After a commit of canvas `c`, ReleaseState of its layers, the pending bits and, if it took an item, the target. -/
def State.showCommit (s : State) (c : Nat) (layers : List Nat) (empty : Bool) (frame : Option Nat) : State :=
  let t := (layers.foldl (fun t l => t.markRelease (16 * c + l)) s).showPending
  if empty then t else t.wr P.CommitTarget 0 (BitVec.ofNat 64 (t.commitTarget frame % 2 ^ 32))

theorem State.frame_showCommit (s : State) (c : Nat) (layers : List Nat) (empty : Bool) (frame : Option Nat) :
    Frame commitParams [] [.answer, .twin, .wdp] s (s.showCommit c layers empty frame) := by
  have marked := Frame.foldl (fun t l => t.markRelease (16 * c + l)) (fun t l => t.frame_markRelease (16 * c + l))
    layers (Frame.refl commitParams [] [.answer, .twin, .wdp] s)
  have shown := marked.trans (State.frame_showPending _)
  unfold State.showCommit
  dsimp only
  split
  · exact shown
  · exact shown.wr _ _ _ (.inl (by decide))

/-! ### The keys of an item -/

/-- The item that a key of the layers, the settings, the generators and the projections belongs to. -/
def keyItem (k : Nat) : Nat :=
  if k / 256 < 0x5100 then 16 else if k / 256 < 0x5200 then k % 256 % 16 else if k / 256 < 0x6100 then 24 + k % 256 % 8
  else 32

theorem keyItem_of_mem : ∀ c < 8, ∀ i < 33, i < 17 ∨ 24 ≤ i → ∀ k ∈ itemKeys c i, keyItem k = i := by decide +kernel

theorem itemKeys_unnamed : ∀ c < 8, ∀ i < 33, ∀ k ∈ itemKeys c i,
    k / 256 ∉ housekeeping ++ P.ProjectionReplaceCount :: commitParams := by decide +kernel

theorem itemKeys_disjoint {c i j k : Nat} (hc : c < 8) (hi : i < 33 ∧ (i < 17 ∨ 24 ≤ i))
    (hj : j < 33 ∧ (j < 17 ∨ 24 ≤ j)) (mine : k ∈ itemKeys c i) (its : k ∈ itemKeys c j) : i = j :=
  (keyItem_of_mem c hc i hi.1 hi.2 k mine).symm.trans (keyItem_of_mem c hc j hj.1 hj.2 k its)

/-! ### The three commits -/

/-- The layers whose bits are 1 in the value of a layer commit or a frame commit. -/
def namedLayers (v : Nat) : List Nat := (List.range 16).filter (fun l => v.testBit l)

theorem mem_namedLayers {v l : Nat} : l ∈ namedLayers v ↔ l < 16 ∧ v.testBit l = true := by
  simp [namedLayers]

/-- The items that a layer commit of value `v` names, in the order in which they are taken. -/
def layerItems (v : Nat) : List Nat :=
  namedLayers v ++ (if v.testBit 16 then [16] else []) ++
    ((List.range 8).filter (fun g => v.testBit (24 + g))).map (24 + ·)

theorem mem_layerItems {v i : Nat} : i ∈ layerItems v ↔ v.testBit i = true ∧ (i < 17 ∨ 24 ≤ i ∧ i < 32) := by
  have settings : i ∈ (if v.testBit 16 then [16] else []) ↔ v.testBit 16 = true ∧ i = 16 := by
    split <;> simp_all
  simp only [layerItems, List.mem_append, mem_namedLayers, settings, List.mem_filter, List.mem_range, List.mem_map]
  constructor
  · rintro ((⟨hi, bit⟩ | ⟨bit, rfl⟩) | ⟨g, ⟨hg, bit⟩, rfl⟩)
    · exact ⟨bit, by omega⟩
    · exact ⟨bit, by omega⟩
    · exact ⟨bit, by omega⟩
  · rintro ⟨bit, hi⟩
    by_cases layer : i < 16
    · exact .inl (.inl ⟨layer, bit⟩)
    · by_cases canvas : i = 16
      · exact .inl (.inr ⟨canvas ▸ bit, canvas⟩)
      · obtain ⟨g, rfl⟩ : ∃ g, i = 24 + g := ⟨i - 24, by omega⟩
        exact .inr ⟨g, ⟨by omega, bit⟩, rfl⟩

theorem not_mem_housekeeping_of_mem_itemKeys {c i : Nat} (hc : c < 8) (hi : i < 33) :
    ∀ k ∈ itemKeys c i, k / 256 ∉ housekeeping ++ commitParams := fun k hk h =>
  itemKeys_unnamed c hc i hi k hk (by
    rw [List.mem_append] at h ⊢
    exact h.imp_right (List.mem_cons_of_mem _))

theorem State.commitLayers_of_bad {c v l : Nat} {frame : Option Nat} (hl : l < 16) (bit : v.testBit l = true)
    (bad : s.strideBad (16 * c + l) = true) : s.commitLayers c v frame = (s, false) := by
  have named : (namedLayers v).any (fun l => s.strideBad (16 * c + l)) = true :=
    List.any_eq_true.mpr ⟨l, mem_namedLayers.mpr ⟨hl, bit⟩, bad⟩
  exact if_pos named

theorem State.commitLayers_of_sound {c v : Nat} {frame : Option Nat}
    (sound : ∀ l < 16, v.testBit l = true → s.strideBad (16 * c + l) = false) :
    s.commitLayers c v frame = (((layerItems v).foldl (fun s i => s.commitKeys c i (itemKeys c i) frame) s).showCommit c
      (namedLayers v) (layerItems v).isEmpty frame, true) := by
  have good : ¬(namedLayers v).any (fun l => s.strideBad (16 * c + l)) = true := by
    simpa [mem_namedLayers] using sound
  exact if_neg good

theorem snapshot_commitLayers {c v : Nat} (hc : c < 8) (frame : Option Nat)
    (sound : ∀ l < 16, v.testBit l = true → s.strideBad (16 * c + l) = false) :
    ∃ u, s.commitLayers c v frame = (u, true) ∧
      Snapshot commitParams ((layerItems v).map (c, ·)) ((layerItems v).flatMap (itemKeys c)) s u := by
  have small : ∀ i ∈ layerItems v, i < 32 := fun i hi => by
    have := (mem_layerItems.mp hi).2
    omega
  have taken := snapshot_foldl (s := s) (ps := commitParams) (fun i => (c, i)) (itemKeys c) frame (layerItems v)
    (fun i hi => by
      rw [replaceCounter, if_neg (Nat.ne_of_lt (small i hi))]
      decide)
    (fun i hi => not_mem_housekeeping_of_mem_itemKeys hc (Nat.lt_trans (small i hi) (by decide)))
  exact ⟨_, State.commitLayers_of_sound sound, taken.after (State.frame_showCommit ..)⟩

theorem snapshot_commitFrames (c v : Nat) (frame : Option Nat) :
    Snapshot commitParams ((namedLayers v).map (c, ·))
      ((namedLayers v).flatMap (fun l => [Dict.key P.LayerClipAddress (16 * c + l)])) s (s.commitFrames c v frame) := by
  have taken := snapshot_foldl (s := s) (ps := commitParams) (fun i => (c, i))
    (fun l => [Dict.key P.LayerClipAddress (16 * c + l)]) frame (namedLayers v)
    (fun l hl => by
      have layer := (mem_namedLayers.mp hl).1
      rw [replaceCounter, if_neg (Nat.ne_of_lt (Nat.lt_trans layer (by decide)))]
      decide)
    (fun l _ k hk => by
      rw [List.mem_singleton.mp hk, Dict.key_div]
      decide)
  exact taken.after (State.frame_showCommit _ c _ (namedLayers v).isEmpty frame)

/-- The canvases of which a projection commit of value `v` takes the projection (R218). -/
def State.projectionsTaken (s : State) (v : Nat) : List Nat :=
  (List.range 8).filter (fun c => v.testBit c && field (s.lv P.ProjectionControl c) 8 1 == 0)

theorem State.mem_projectionsTaken {v c : Nat} : c ∈ s.projectionsTaken v ↔
    c < 8 ∧ v.testBit c = true ∧ field (s.lv P.ProjectionControl c) 8 1 = 0 := by
  simp [State.projectionsTaken]

theorem snapshot_commitProjections (v : Nat) (frame : Option Nat) :
    Snapshot (P.ProjectionReplaceCount :: commitParams) ((s.projectionsTaken v).map (·, 32))
      ((s.projectionsTaken v).flatMap (itemKeys · 32)) s (s.commitProjections v frame) := by
  have taken := snapshot_foldl (s := s) (ps := P.ProjectionReplaceCount :: commitParams) (fun c => (c, 32))
    (itemKeys · 32) frame (s.projectionsTaken v) (fun _ _ => List.mem_cons_self)
    (fun c hc => itemKeys_unnamed c (State.mem_projectionsTaken.mp hc).1 32 (by decide))
  exact taken.after ((State.frame_showPending _).weaken (List.subset_cons_self _ _) (by simp) (by simp))

/-! ### A granted write of areas P5 and P6 -/

/-- The row of a commit (Tables 9.11 and 10.8): write-only, content-affecting and mirrored. -/
def commitRow (p : Nat) (ty : PType) (elems : Nat) (hi : Int) (mask : Nat) : Row :=
  ⟨p, ty, .wo, elems, 0, 1, 0, hi, mask, 0, 0, true, false, true, .none, 0⟩

abbrev layerCommitRow : Row := commitRow P.LayerCommit .u32 8 0xFFFFFFFF 0xFF01FFFF

abbrev frameCommitRow : Row := commitRow P.FrameCommit .u16 8 0xFFFF 0xFFFF

abbrev projectionCommitRow : Row := commitRow P.ProjectionCommit .u8 1 0xFF 0xFF

theorem row_layerCommit : Dict.row P.LayerCommit = some layerCommitRow := by decide +kernel

theorem row_frameCommit : Dict.row P.FrameCommit = some frameCommitRow := by decide +kernel

theorem row_projectionCommit : Dict.row P.ProjectionCommit = some projectionCommitRow := by decide +kernel

/-- Of areas P5 and P6, a parameter that decides no group's membership does its own effect, and if that completes goes
to the partner. -/
theorem State.writeElement_of_write456 {via : Via} {r : Row} {e : Nat} {v : Wide}
    (area : r.num / 0x1000 = 5 ∨ r.num / 0x1000 = 6) (groups : groupParams.contains r.num = false) :
    s.writeElement via r e v = if (s.write456 via r e v).2 = 0
      then (State.mirrorWrite (s.write456 via r e v).1 via r e v, 0) else s.write456 via r e v := by
  unfold State.writeElement
  rcases area with area | area <;>
  · rw [area]
    simp only [groups, Bool.false_eq_true, if_false]

/-- A granted write answers the status of its effect, if that keeps the room of a response, and changes nothing more. -/
theorem completes_of_writeElement {c : Instr} {rq : Requester} {p e v : Nat} {r : Row} {a : Byte}
    (act : exec c s = done (s.serveOne rq p e v)) (row : Dict.row p = some r)
    (kind : r.num = p ∧ (r.ty ≠ .str ∧ r.ty ≠ .blob) ∧ p ≠ P.CueWrite) (granted : s.grants rq p e v = true)
    (effect : (s.arbitrate rq).writeElement (s.via rq) r e (BitVec.ofNat 64 v) = (u, a))
    (room : u.rd P.WdpMaxResponse 0 = s.rd P.WdpMaxResponse 0) :
    Completes c s fun t => t.wdp.answer = ⟨a, []⟩ ∧ Frame [] [] [.answer] u t := by
  obtain ⟨num, scalar, cue⟩ := kind
  have one := s.serveOne_of_grants rq p e v r row num scalar cue granted
  rw [State.arbitrate_via, effect] at one
  refine ⟨_, act.trans (congrArg done one), ?_, (frame_answerOne u rq a).settle⟩
  rw [State.settle_wdp_answer, State.answerOne_answer]
  rw [State.responseLimit_congr room]
  exact State.responseLimit_of_grants granted

/-- A granted commit that takes a snapshot is Completed. -/
theorem completes_commit {c : Instr} {rq : Requester} {p e v elems mask : Nat} {ty : PType} {hi : Int}
    (act : exec c s = done (s.serveOne rq p e v)) (row : Dict.row p = some (commitRow p ty elems hi mask))
    (kind : (ty ≠ .str ∧ ty ≠ .blob) ∧ p ≠ P.CueWrite)
    (area : (p / 0x1000 = 5 ∨ p / 0x1000 = 6) ∧ groupParams.contains p = false) (granted : s.grants rq p e v = true)
    (effect : (s.arbitrate rq).write456 (s.via rq) (commitRow p ty elems hi mask) e (BitVec.ofNat 64 v) = (u, 0))
    (taken : Snapshot ps items keys (s.arbitrate rq) u) (split : P.SplitWriteCount ∈ ps)
    (room : P.WdpMaxResponse ∉ ps) :
    Completes c s fun t => t.wdp.answer = ⟨0, []⟩ ∧ Snapshot ps items keys s t := by
  have mirrored := taken.after ((State.frame_mirrorWrite u (s.via rq) (commitRow p ty elems hi mask) e
    (BitVec.ofNat 64 v)).weaken (by simpa using split) (by simp) (by simp))
  have whole := State.writeElement_of_write456 (s := s.arbitrate rq) (via := s.via rq)
    (r := commitRow p ty elems hi mask) (e := e) (v := BitVec.ofNat 64 v) area.1 area.2
  rw [effect, if_pos rfl] at whole
  have kept := mirrored.of_arbitrate.frame.rd (q := P.WdpMaxResponse) (f := 0) (by decide) (by decide) room
    List.not_mem_nil
  obtain ⟨t, ht, answer, after⟩ := completes_of_writeElement act row ⟨rfl, kind⟩ granted whole kept
  exact ⟨t, ht, answer, (mirrored.after (after.weaken (by simp) (by simp) (by simp))).of_arbitrate⟩

@[simp] theorem State.arbitrate_strideBad (s : State) (rq : Requester) (l : Nat) :
    (s.arbitrate rq).strideBad l = s.strideBad l := by
  obtain ⟨n, hn⟩ := s.arbitrate_eq rq
  rw [hn]
  rfl

@[simp] theorem State.arbitrate_projectionsTaken (s : State) (rq : Requester) (v : Nat) :
    (s.arbitrate rq).projectionsTaken v = s.projectionsTaken v := by
  obtain ⟨n, hn⟩ := s.arbitrate_eq rq
  rw [hn]
  rfl

/-- A value of at most 64 bits, written, is the number it spells. -/
theorem toNat_ofNat_toNat {w : Nat} (x : BitVec w) (hw : w ≤ 64) : (BitVec.ofNat 64 x.toNat).toNat = x.toNat := by
  rw [BitVec.ofNat_toNat, BitVec.toNat_setWidth_of_le hw]

/-- A layer commit is Completed where the commit is taken, and otherwise Range. -/
theorem State.write456_layerCommit (s : State) (via : Via) (c : Nat) (value : Word) :
    s.write456 via layerCommitRow c (BitVec.ofNat 64 value.toNat) =
      ((s.commitLayers c value.toNat (s.timedFrame via layerCommitRow)).1,
        if (s.commitLayers c value.toNat (s.timedFrame via layerCommitRow)).2 then 0 else 3) := by
  unfold State.write456
  rw [toNat_ofNat_toNat value (by decide)]
  rfl

theorem completes_layerCommit {rq : Requester} {canvas : Fin 8} {value : Word}
    (granted : s.grants rq P.LayerCommit canvas value.toNat = true)
    (sound : ∀ l < 16, value.getLsbD l = true → s.strideBad (16 * canvas.val + l) = false) :
    Completes (.layerCommit rq canvas value) s fun t => t.wdp.answer = ⟨0, []⟩ ∧
      Snapshot commitParams ((layerItems value.toNat).map (canvas.val, ·))
        ((layerItems value.toNat).flatMap (itemKeys canvas)) s t := by
  obtain ⟨u, outcome, taken⟩ := snapshot_commitLayers (s := s.arbitrate rq) (v := value.toNat) canvas.isLt
    ((s.arbitrate rq).timedFrame (s.via rq) layerCommitRow) (by simpa [BitVec.testBit_toNat] using sound)
  refine completes_commit rfl row_layerCommit (by decide) (by decide) granted ?_ taken (by decide) (by decide)
  rw [State.write456_layerCommit, outcome, if_pos rfl]

/-- A layer commit of which one layer's stride is below its line is Range, and commits nothing (R194). -/
theorem completes_layerCommit_bad {rq : Requester} {canvas : Fin 8} {value : Word} {l : Nat}
    (granted : s.grants rq P.LayerCommit canvas value.toNat = true) (hl : l < 16) (bit : value.getLsbD l = true)
    (bad : s.strideBad (16 * canvas.val + l) = true) : Completes (.layerCommit rq canvas value) s fun t =>
      t.wdp.answer = ⟨3, []⟩ ∧ Frame [] [] [.answer] s t := by
  have refused := State.commitLayers_of_bad (s := s.arbitrate rq) (v := value.toNat)
    (frame := (s.arbitrate rq).timedFrame (s.via rq) layerCommitRow) hl bit
    ((State.arbitrate_strideBad ..).trans bad)
  have effect : (s.arbitrate rq).writeElement (s.via rq) layerCommitRow canvas (BitVec.ofNat 64 value.toNat) =
      (s.arbitrate rq, 3) := by
    rw [State.writeElement_of_write456 (by decide) (by decide), State.write456_layerCommit, refused]
    rfl
  obtain ⟨t, ht, answer, after⟩ := completes_of_writeElement (c := .layerCommit rq canvas value) rfl row_layerCommit
    (by decide) granted effect (State.rd_congr (s.arbitrate_regs rq) _ _)
  exact ⟨t, ht, answer, (frame_arbitrate s rq _ _ _).trans after⟩

theorem completes_frameCommit {rq : Requester} {canvas : Fin 8} {value : Half}
    (granted : s.grants rq P.FrameCommit canvas value.toNat = true) :
    Completes (.frameCommit rq canvas value) s fun t => t.wdp.answer = ⟨0, []⟩ ∧
      Snapshot commitParams ((namedLayers value.toNat).map (canvas.val, ·))
        ((namedLayers value.toNat).flatMap (fun l => [Dict.key P.LayerClipAddress (16 * canvas.val + l)])) s t := by
  have taken := snapshot_commitFrames (s := s.arbitrate rq) canvas value.toNat
    ((s.arbitrate rq).timedFrame (s.via rq) frameCommitRow)
  refine completes_commit rfl row_frameCommit (by decide) (by decide) granted ?_ taken (by decide) (by decide)
  unfold State.write456
  rw [toNat_ofNat_toNat value (by decide)]
  rfl

theorem completes_projectionCommit {rq : Requester} {value : Byte}
    (granted : s.grants rq P.ProjectionCommit 0 value.toNat = true) :
    Completes (.projectionCommit rq value) s fun t => t.wdp.answer = ⟨0, []⟩ ∧
      Snapshot (P.ProjectionReplaceCount :: commitParams) ((s.projectionsTaken value.toNat).map (·, 32))
        ((s.projectionsTaken value.toNat).flatMap (itemKeys · 32)) s t := by
  have taken := snapshot_commitProjections (s := s.arbitrate rq) value.toNat
    ((s.arbitrate rq).timedFrame (s.via rq) projectionCommitRow)
  rw [State.arbitrate_projectionsTaken] at taken
  refine completes_commit rfl row_projectionCommit (by decide) (by decide) granted ?_ taken (by decide) (by decide)
  unfold State.write456
  rw [toNat_ofNat_toNat value (by decide)]
  rfl

/-! ### What awaits its latch after a commit -/

theorem Snapshot.find_of_mem (h : Snapshot ps items keys s t) {k : Nat} (hk : k ∈ keys) :
    SMap.find t.render.committed k = some (s.shadow k) := by
  rw [h.committed, if_pos hk]

theorem Snapshot.find_of_not_mem (h : Snapshot ps items keys s t) {k : Nat} (hk : k ∉ keys) :
    SMap.find t.render.committed k = SMap.find s.render.committed k := by
  rw [h.committed, if_neg hk]

theorem Snapshot.pending_of_mem (h : Snapshot ps items keys s t) {c i : Nat} (hi : (c, i) ∈ items) :
    t.itemPending c i = true := by
  rw [h.pending, decide_eq_true hi, Bool.or_true]

theorem Snapshot.pending_of_not_mem (h : Snapshot ps items keys s t) {c i : Nat} (hi : (c, i) ∉ items) :
    t.itemPending c i = s.itemPending c i := by
  rw [h.pending, decide_eq_false hi, Bool.or_false]

/-- A layer commit takes exactly the layers, settings and generators whose bits are 1. -/
theorem Snapshot.layerCommit {c v : Nat}
    (h : Snapshot ps ((layerItems v).map (c, ·)) ((layerItems v).flatMap (itemKeys c)) s t) (hc : c < 8) :
    (∀ i < 32, i < 17 ∨ 24 ≤ i → v.testBit i = true → t.itemPending c i = true ∧
      (itemKeys c i).all (fun k => SMap.find t.render.committed k == some (s.shadow k)) = true) ∧
    (∀ i < 33, i < 17 ∨ 24 ≤ i → (i < 32 → v.testBit i = false) → t.itemPending c i = s.itemPending c i ∧
      (itemKeys c i).all (fun k => SMap.find t.render.committed k == SMap.find s.render.committed k) = true) := by
  refine ⟨fun i hi kind bit => ?_, fun i hi kind bit => ?_⟩
  · have named : i ∈ layerItems v := mem_layerItems.mpr ⟨bit, by omega⟩
    refine ⟨h.pending_of_mem (List.mem_map_of_mem named), List.all_eq_true.mpr fun k hk => ?_⟩
    rw [h.find_of_mem (List.mem_flatMap.mpr ⟨i, named, hk⟩)]
    exact beq_self_eq_true _
  · have unnamed : i ∉ layerItems v := fun named => by
      obtain ⟨set, place⟩ := mem_layerItems.mp named
      rw [bit (by omega)] at set
      contradiction
    refine ⟨h.pending_of_not_mem (by simpa using unnamed), List.all_eq_true.mpr fun k hk => ?_⟩
    rw [h.find_of_not_mem]
    · exact beq_self_eq_true _
    · intro its
      obtain ⟨j, named, hj⟩ := List.mem_flatMap.mp its
      have place := (mem_layerItems.mp named).2
      exact unnamed (itemKeys_disjoint hc ⟨hi, kind⟩ (by omega) hk hj ▸ named)

/-- A frame commit takes the clip addresses of the layers whose bits are 1, and nothing else. -/
theorem Snapshot.frameCommit {c v : Nat} (h : Snapshot ps ((namedLayers v).map (c, ·))
      ((namedLayers v).flatMap (fun l => [Dict.key P.LayerClipAddress (16 * c + l)])) s t) :
    (∀ l < 16, v.testBit l = true → t.itemPending c l = true ∧
      SMap.find t.render.committed (Dict.key P.LayerClipAddress (16 * c + l)) =
        some (s.rd P.LayerClipAddress (16 * c + l))) ∧
    (∀ l < 16, v.testBit l = false → t.itemPending c l = s.itemPending c l) ∧
    (∀ k, k / 256 ≠ P.LayerClipAddress → SMap.find t.render.committed k = SMap.find s.render.committed k) := by
  refine ⟨fun l hl bit => ?_, fun l hl bit => ?_, fun k hk => ?_⟩
  · have mine := mem_namedLayers.mpr ⟨hl, bit⟩
    exact ⟨h.pending_of_mem (List.mem_map_of_mem mine),
      h.find_of_mem (List.mem_flatMap.mpr ⟨l, mine, List.mem_singleton_self _⟩)⟩
  · exact h.pending_of_not_mem (by simp [mem_namedLayers, bit])
  · refine h.find_of_not_mem fun its => hk ?_
    obtain ⟨l, -, hl⟩ := List.mem_flatMap.mp its
    rw [List.mem_singleton.mp hl, Dict.key_div]

/-- A projection commit takes the projections whose bits are 1 and whose AutoCommit is not live. -/
theorem Snapshot.projectionCommit {v : Nat} (h : Snapshot ps ((s.projectionsTaken v).map (·, 32))
      ((s.projectionsTaken v).flatMap (itemKeys · 32)) s t) :
    (∀ c < 8, v.testBit c = true → field (s.lv P.ProjectionControl c) 8 1 = 0 → t.itemPending c 32 = true ∧
      (itemKeys c 32).all (fun k => SMap.find t.render.committed k == some (s.shadow k)) = true) ∧
    (∀ c < 8, v.testBit c = false ∨ field (s.lv P.ProjectionControl c) 8 1 = 1 →
      t.itemPending c 32 = s.itemPending c 32) := by
  refine ⟨fun c hc bit manual => ?_, fun c hc left => ?_⟩
  · have mine := State.mem_projectionsTaken.mpr ⟨hc, bit, manual⟩
    refine ⟨h.pending_of_mem (List.mem_map_of_mem mine), List.all_eq_true.mpr fun k hk => ?_⟩
    rw [h.find_of_mem (List.mem_flatMap.mpr ⟨c, mine, hk⟩)]
    exact beq_self_eq_true _
  · refine h.pending_of_not_mem fun named => ?_
    obtain ⟨x, taken, hx⟩ := List.mem_map.mp named
    cases hx
    obtain ⟨-, bit, manual⟩ := State.mem_projectionsTaken.mp taken
    rcases left with left | left
    · rw [left] at bit
      contradiction
    · rw [manual] at left
      contradiction

/-- Settles O34, clause by clause: a layer commit, one that R194 refuses, a frame commit and a projection commit. -/
theorem commitsWaitForTheirLatch : Obligations.CommitsWaitForTheirLatch := by
  unfold Obligations.CommitsWaitForTheirLatch
  refine ⟨?_, ?_, ?_, ?_⟩
  · rintro s rq canvas value ⟨granted, sound⟩
    obtain ⟨t, ht, answer, taken⟩ := completes_layerCommit granted sound
    obtain ⟨named, others⟩ := taken.layerCommit canvas.isLt
    exact ⟨t, ht, answer, named, others, taken.render, taken.frame⟩
  · rintro s rq canvas value l ⟨granted, hl, bit, bad⟩
    exact completes_layerCommit_bad granted hl bit bad
  · intro s rq canvas value granted
    obtain ⟨t, ht, answer, taken⟩ := completes_frameCommit granted
    obtain ⟨named, others, kept⟩ := taken.frameCommit
    exact ⟨t, ht, answer, named, others, fun k _ apart => kept k apart, taken.render, taken.frame⟩
  · intro s rq value granted
    obtain ⟨t, ht, answer, taken⟩ := completes_projectionCommit granted
    obtain ⟨named, others⟩ := taken.projectionCommit
    exact ⟨t, ht, answer, named, others, taken.render, taken.frame⟩

end Sys2Proof.Machine
end

section
namespace Sys2Proof.Machine

variable {ps : List Nat} {es : List (Nat × Nat)} {fs : List Part} {s t u : State}

/-! ### Late frames are counted (R248) -/

/-- The values in which the late frames of destination `d` are counted and shown. -/
def lateParams (d : Nat) : List Nat :=
  P.LateDropCount :: P.LateFrameCount :: if d < 64 then [P.PortStatus, P.PortMargin, P.PortMinMargin] else []

/-- Counting late frames changes those values of their destination, and Sheet's note of the frame counted last. -/
theorem Frame.countLate (d frame n : Nat) (h : Frame ps es fs s t) (hf : .sheet ∈ fs)
    (named : ∀ p ∈ lateParams d, p ∈ ps ∨ (p, d % 256) ∈ es) : Frame ps es fs s (t.countLate d frame n) := by
  have may : ∀ p ∈ lateParams d, p ∈ ps ∨ p ∈ housekeeping ∨ (p, d % 256) ∈ es := fun p hp =>
    (named p hp).imp_right .inr
  have dropped : Frame ps es fs s (t.countBy P.LateDropCount d n) := h.countBy _ _ _ (may _ (by simp [lateParams]))
  unfold State.countLate
  dsimp only
  generalize t.countBy P.LateDropCount d n = a at dropped ⊢
  have late : Frame ps es fs s (if SMap.get none a.sheet.late d = some frame then a else
      { a.count P.LateFrameCount d with sheet := { a.sheet with late := SMap.set none a.sheet.late d (some frame) } }) := by
    split
    · exact dropped
    · exact (dropped.count _ _ (may _ (by simp [lateParams]))).sheet _ hf
  refine Frame.event _ _ _ _ ?_
  split
  · next port =>
    refine ((Frame.setBit _ _ _ _ late (may _ ?_)).wr _ _ _ (may _ ?_)).wr _ _ _ (may _ ?_)
    all_goals simp [lateParams, port]
  · exact late

/-- Beside values, the housekeeping and Sheet's note nothing changes. -/
theorem State.countLate_parts (s : State) (d frame n : Nat) :
    (s.countLate d frame n).sheet.packing = s.sheet.packing ∧ (s.countLate d frame n).ports = s.ports ∧
      (s.countLate d frame n).stay = s.stay ∧ (s.countLate d frame n).halyard = s.halyard := by
  unfold State.countLate
  dsimp only
  rw [State.event_sheet, State.event_ports, State.event_stay, State.event_halyard]
  split <;> split <;> simp [State.setBit, State.setFld, State.wr]

section
variable (s : State) (d frame n : Nat)

@[simp] theorem State.countLate_packing : (s.countLate d frame n).sheet.packing = s.sheet.packing := by
  obtain ⟨h, -, -, -⟩ := s.countLate_parts d frame n
  exact h

@[simp] theorem State.countLate_ports : (s.countLate d frame n).ports = s.ports := by
  obtain ⟨-, h, -, -⟩ := s.countLate_parts d frame n
  exact h

@[simp] theorem State.countLate_stay : (s.countLate d frame n).stay = s.stay := by
  obtain ⟨-, -, h, -⟩ := s.countLate_parts d frame n
  exact h

@[simp] theorem State.countLate_halyard : (s.countLate d frame n).halyard = s.halyard := by
  obtain ⟨-, -, -, h⟩ := s.countLate_parts d frame n
  exact h

end

/-! ### The close of a shroud port's window (R248) -/

/-- A show frame whose window has closed with frames of it still waiting. -/
def State.showOver (s : State) (f : ShowFrame) : Bool := due f.close s.tns && f.frames.any (fun x => x.tag.isSome)

/-- Count what is left of a show frame as late. -/
def State.dropShow (d : Nat) (s : State) (f : ShowFrame) : State :=
  (s.wr P.PortWireTime d (BitVec.ofNat 64 f.wire)).countLate d f.frame f.frames.length

theorem State.closeWindow_of_port {d : Nat} (hd : d < 64) : s.closeWindow d =
    ((s.port d).shows.filter s.showOver).foldl (State.dropShow d)
      (s.setPort d { s.port d with shows := (s.port d).shows.filter fun f => !s.showOver f }) := if_pos hd

theorem State.ports_foldl_dropShow (d : Nat) (l : List ShowFrame) : (l.foldl (State.dropShow d) s).ports = s.ports :=
  List.foldlRecOn (motive := fun t : State => t.ports = s.ports) l _ rfl fun t ht f _ => by
    rw [State.dropShow, State.countLate_ports]
    exact ht

/-- The values that the close of a shroud port's window may change. -/
def windowParams : List Nat :=
  [P.LateFrameCount, P.LateDropCount, P.PortStatus, P.PortMargin, P.PortMinMargin, P.PortWireTime]

theorem Frame.dropShows {d : Nat} (hd : d < 64) (l : List ShowFrame)
    (h : Frame [] (windowParams.map (·, d)) [.ports, .sheet, .wdp] s t) :
    Frame [] (windowParams.map (·, d)) [.ports, .sheet, .wdp] s (l.foldl (State.dropShow d) t) := by
  have own : d % 256 = d := Nat.mod_eq_of_lt (by omega)
  refine Frame.foldl _ (fun t f => ((Frame.refl ..).wr _ _ _ (.inr (.inr ?_))).countLate _ _ _ (by decide) ?_) _ h
  · rw [own]
    exact List.mem_map_of_mem (by decide)
  · intro p hp
    rw [own]
    rw [lateParams, if_pos hd] at hp
    have sub : P.LateDropCount :: P.LateFrameCount :: [P.PortStatus, P.PortMargin, P.PortMinMargin] ⊆ windowParams := by
      decide
    exact .inr (List.mem_map_of_mem (sub hp))

theorem completes_sheetWindowClose_port (port : Fin 64) :
    Completes (.sheetWindowClose ⟨port.val, by omega⟩) s fun t =>
      t.port port = { s.port port with shows := (s.port port).shows.filter fun f => !s.showOver f } ∧
      (∀ q, q ≠ port.val → t.port q = s.port q) ∧
      Frame [] (windowParams.map (·, port.val)) [.ports, .sheet, .wdp] s t := by
  refine ⟨(s.closeWindow port).settle, rfl, ?_, fun q hq => ?_, ?_⟩
  · rw [State.settle_port, State.closeWindow_of_port port.isLt, State.port, State.ports_foldl_dropShow]
    exact State.port_setPort_same ..
  · rw [State.settle_port, State.closeWindow_of_port port.isLt, State.port, State.ports_foldl_dropShow]
    exact (State.port_setPort ..).trans (if_neg hq)
  · rw [State.closeWindow_of_port port.isLt]
    exact (((Frame.refl ..).setPort _ _ (by decide)).dropShows port.isLt _).settle

/-! ### The close of a cascade output's window (R248) -/

/-- A waiting cascade frame of output `d` whose window has closed. -/
def State.cascadeOver (s : State) (d : Nat) (x : Egress) : Bool :=
  match x.tag with
  | some g => g.dest == d && due g.close s.tns
  | none => false

/-- Drop from a stay port, and count, what waits for an output whose window closes. -/
def State.closeOutputOn (d : Nat) (s : State) (p : Nat) : State :=
  let gone := (s.stayPort p).cascade.filter (s.cascadeOver d)
  let t := s.setStayPort p { s.stayPort p with cascade := (s.stayPort p).cascade.filter fun x => !s.cascadeOver d x }
  match gone with
  | [] => t
  | x :: _ => t.countLate d ((x.tag.map (·.frame)).getD 0) gone.length

theorem State.closeWindow_of_output {d : Nat} (hd : 64 ≤ d) :
    s.closeWindow d = (List.range 4).foldl (State.closeOutputOn d) s := if_neg (Nat.not_lt.mpr hd)

/-- The window of output `d` has closed on the first `n` stay ports. -/
structure CascadeClosed (d n : Nat) (s t : State) : Prop where
  ports : ∀ p, t.stayPort p = if p < n then
    { s.stayPort p with cascade := (s.stayPort p).cascade.filter fun x => !s.cascadeOver d x } else s.stayPort p
  halyard : t.halyard = s.halyard
  frame : Frame [P.LateFrameCount, P.LateDropCount] [] [.stay, .sheet, .wdp] s t

theorem State.closeOutputOn_parts (d : Nat) (s : State) (p : Nat) :
    (s.closeOutputOn d p).stay = (s.setStayPort p { s.stayPort p with
      cascade := (s.stayPort p).cascade.filter fun x => !s.cascadeOver d x }).stay ∧
    (s.closeOutputOn d p).halyard = s.halyard := by
  unfold State.closeOutputOn
  dsimp only
  split
  · exact ⟨rfl, rfl⟩
  · exact ⟨State.countLate_stay .., State.countLate_halyard ..⟩

theorem Frame.closeOutputOn {d : Nat} (hd : 64 ≤ d) (p : Nat)
    (h : Frame [P.LateFrameCount, P.LateDropCount] [] [.stay, .sheet, .wdp] s t) :
    Frame [P.LateFrameCount, P.LateDropCount] [] [.stay, .sheet, .wdp] s (State.closeOutputOn d t p) := by
  have filtered := h.setStayPort p { t.stayPort p with
    cascade := (t.stayPort p).cascade.filter fun x => !t.cascadeOver d x } (by decide)
  unfold State.closeOutputOn
  dsimp only
  split
  · exact filtered
  · refine filtered.countLate _ _ _ (by decide) fun q hq => .inl ?_
    rw [lateParams, if_neg (by omega)] at hq
    have sub : [P.LateDropCount, P.LateFrameCount] ⊆ [P.LateFrameCount, P.LateDropCount] := by decide
    exact sub hq

theorem cascadeClosed {d : Nat} (hd : 64 ≤ d) (n : Nat) :
    CascadeClosed d n s ((List.range n).foldl (State.closeOutputOn d) s) := by
  induction n with
  | zero => exact ⟨fun p => (if_neg (Nat.not_lt_zero p)).symm, rfl, Frame.refl ..⟩
  | succ n ih =>
    rw [List.range_succ, List.foldl_append]
    generalize (List.range n).foldl (State.closeOutputOn d) s = t at ih
    obtain ⟨ports, halyard, frame⟩ := ih
    obtain ⟨stay, clock⟩ := State.closeOutputOn_parts d t n
    refine ⟨fun p => ?_, clock.trans halyard, frame.closeOutputOn hd n⟩
    have isOver : t.cascadeOver d = s.cascadeOver d := by
      unfold State.cascadeOver State.tns
      rw [halyard]
    have held : t.stayPort n = s.stayPort n := (ports n).trans (if_neg (Nat.lt_irrefl n))
    show (State.closeOutputOn d t n).stayPort p = _
    rw [State.stayPort, stay, isOver, held]
    refine (State.stayPort_setStayPort ..).trans ?_
    rw [ports p]
    by_cases own : p = n
    · rw [own, if_pos rfl, if_pos (Nat.lt_succ_self n)]
    · have same : p < n ↔ p < n + 1 := by omega
      simp only [own, same, if_false]

theorem completes_sheetWindowClose_output (output : Fin 8) :
    Completes (.sheetWindowClose ⟨64 + output.val, by omega⟩) s fun t =>
      (∀ p < 4, t.stayPort p = { s.stayPort p with
        cascade := (s.stayPort p).cascade.filter fun x => !s.cascadeOver (64 + output.val) x }) ∧
      Frame [P.LateFrameCount, P.LateDropCount] [] [.stay, .sheet, .wdp] s t := by
  obtain ⟨ports, -, frame⟩ := cascadeClosed (s := s) (Nat.le_add_right 64 output.val) 4
  refine ⟨(s.closeWindow (64 + output.val)).settle, rfl, fun p hp => ?_, ?_⟩
  · rw [State.settle_stayPort, State.closeWindow_of_output (Nat.le_add_right ..), ports p, if_pos hp]
  · rw [State.closeWindow_of_output (Nat.le_add_right ..)]
    exact frame.settle

end Sys2Proof.Machine
end

section
namespace Sys2Proof.Machine

variable {s t u : State}

/-! ### What the ports send leaves the pack pass as it is (R246, R283) -/

section
variable (s : State) (p : Nat) (x : Egress)

@[simp] theorem State.countShow_packing : (s.countShow p x).sheet.packing = s.sheet.packing := by
  unfold State.countShow
  dsimp only
  split
  · rfl
  · split <;> rfl
  · rfl

@[simp] theorem State.noteData_packing : (s.noteData p x).sheet.packing = s.sheet.packing := by
  unfold State.noteData
  split
  · dsimp only
    split <;> rfl
  · rfl

@[simp] theorem State.noteTerminated_packing : (s.noteTerminated p x).sheet.packing = s.sheet.packing := by
  unfold State.noteTerminated
  split <;> rfl

@[simp] theorem State.trimShow_packing (n : Nat) : (s.trimShow p n).sheet.packing = s.sheet.packing := by
  induction n generalizing s with
  | zero => rfl
  | succ n ih =>
    unfold State.trimShow
    dsimp only
    split
    · rfl
    · split
      · exact ih _
      · split
        · rfl
        · rw [ih, State.countLate_packing]
          rfl

@[simp] theorem State.discardPort_packing : (s.discardPort p).sheet.packing = s.sheet.packing := by
  unfold State.discardPort
  dsimp only
  generalize (s.port p).shows.flatMap (·.frames) = l
  generalize ht : s.setPort p { s.port p with express := [], time := [], shows := [], bulk := [], sending := none } = t
  have kept : t.sheet.packing = s.sheet.packing := by
    rw [← ht]
    rfl
  have counted : (l.foldl (fun s x => s.countShow p x) t).sheet.packing = s.sheet.packing :=
    List.foldlRecOn (motive := fun u : State => u.sheet.packing = s.sheet.packing) l _ kept fun u hu x _ => by
      rw [State.countShow_packing, hu]
  split
  · exact counted
  · rw [State.countBy_sheet, counted]

@[simp] theorem State.enterLpi_packing : (s.enterLpi p).sheet.packing = s.sheet.packing := by
  unfold State.enterLpi
  dsimp only
  split <;> rfl

@[simp] theorem State.servePort_packing : (s.servePort p).sheet.packing = s.sheet.packing := by
  unfold State.servePort
  dsimp only
  split
  · exact s.discardPort_packing p
  · split
    · rfl
    · split
      · rfl
      · split
        · split
          · rw [State.count_sheet]
            rfl
          · rfl
        · rfl
      · have trimmed := s.trimShow_packing p ((s.port p).shows.length + 1)
        generalize s.trimShow p ((s.port p).shows.length + 1) = a at trimmed ⊢
        split
        · split
          · rw [State.noteTerminated_packing, State.noteData_packing, State.countShow_packing]
            exact trimmed
          · exact trimmed
        · exact trimmed
        · rw [State.enterLpi_packing, trimmed]

end

/-! ### What the pack pass hands to the ports leaves of the rest (R246, R269) -/

/-- `t` comes of `s` by frames that shroud and stay ports take or send: of the values only those of egress change, of the
parts only the ports and Sheet, whose pack pass stands. -/
structure Sends (s t : State) : Prop where
  frame : Frame egressParams [] [.ports, .sheet, .stay] s t
  packing : t.sheet.packing = s.sheet.packing

theorem Sends.refl (s : State) : Sends s s := ⟨Frame.refl .., rfl⟩

theorem Sends.trans (h : Sends s t) (k : Sends t u) : Sends s u :=
  ⟨h.frame.trans k.frame, k.packing.trans h.packing⟩

theorem Sends.ite {c : Prop} {dec : Decidable c} (h : Sends s t) (k : Sends s u) : Sends s (if c then t else u) := by
  split
  · exact h
  · exact k

theorem Sends.foldl {α : Type} {f : State → α → State} {l : List α} (h : Sends s t)
    (hf : ∀ {u a}, Sends s u → Sends s (f u a)) : Sends s (l.foldl f t) :=
  List.foldlRecOn l f h fun _ k _ _ => hf k

section
variable {p e n : Nat}

theorem Sends.wr {v : Wide} (h : Sends s t) (hp : p ∈ egressParams := by decide) : Sends s (t.wr p e v) :=
  ⟨h.frame.wr _ _ _ (.inl hp), h.packing⟩

theorem Sends.traffic (h : Sends s t) (hp : p ∈ egressParams := by decide) : Sends s (t.traffic p e n) :=
  ⟨(h.frame.quiet (State.tally_quiet t p e n) (KeepsRegs.of_regs rfl)).wr p e _ (.inl hp), h.packing⟩

theorem Sends.setPort {q : ShroudPort} (h : Sends s t) : Sends s (t.setPort p q) :=
  ⟨h.frame.setPort _ _ (by decide), h.packing⟩

theorem Sends.setStayPort {q : StayPort} (h : Sends s t) : Sends s (t.setStayPort p q) :=
  ⟨h.frame.setStayPort _ _ (by decide), h.packing⟩

theorem Sends.servePort (h : Sends s t) : Sends s (t.servePort p) :=
  h.trans ⟨(Serves.refl t).servePort.frame.weaken (by simp) (by simp) (by simp), t.servePort_packing p⟩

theorem Sends.wakeLpi (h : Sends s t) : Sends s (t.wakeLpi p) := h.wr.wr

theorem lateParams_subset (d : Nat) : lateParams d ⊆ egressParams := by
  unfold lateParams
  split <;> decide

theorem Sends.countLate {d frame : Nat} (h : Sends s t) : Sends s (t.countLate d frame n) :=
  ⟨h.frame.countLate _ _ _ (by decide) fun _ hp => .inl (lateParams_subset d hp),
    (State.countLate_packing ..).trans h.packing⟩

theorem Sends.dropLateCascade (h : Sends s t) : Sends s (t.dropLateCascade p n) := by
  induction n generalizing t with
  | zero => exact h
  | succ n ih =>
    unfold State.dropLateCascade
    dsimp only
    split
    · exact h
    · split
      · exact h
      · exact .ite h (ih h.setStayPort.countLate)

theorem Sends.stayServe (h : Sends s t) : Sends s (t.stayServe p) := by
  unfold State.stayServe
  dsimp only
  split
  · exact h
  · have trimmed := Sends.ite (c := (t.stayPort p).priority.isEmpty = true) (dec := inferInstance)
      (h.dropLateCascade (p := p) (n := (t.stayPort p).cascade.length)) h
    generalize (if (t.stayPort p).priority.isEmpty then
      t.dropLateCascade p (t.stayPort p).cascade.length else t) = a at trimmed ⊢
    split
    · exact trimmed.setStayPort
    · split
      · exact trimmed.setStayPort.traffic.traffic
      · exact trimmed.setStayPort
    · exact trimmed.setStayPort
    · exact trimmed

theorem Sends.sendCascade {x : Egress} (h : Sends s t) : Sends s (t.sendCascade p x) := h.setStayPort.stayServe

end

/-! ### The end of the pack pass (R222, R243, R246, R308) -/

/-- Place the frame hash of a destination with its frame index. -/
def State.placeHash (frame : Nat) (s : State) (h : Nat × Word) : State :=
  (s.wr P.FrameHash h.1 (h.2.setWidth 64)).wr P.FrameHashIndex h.1 (BitVec.ofNat 64 (frame % 2 ^ 32))

/-- The pass is over: its time is shown, the old table area is free, and its hashes are placed. -/
def State.packPlaced (s : State) (x : Packed) : State :=
  let t := ({ s with sheet := { s.sheet with packing := none } } : State).setRender { s.render with oldArea := false }
  x.hashes.foldl (State.placeHash x.frame) (t.wr P.PackTime 0 (BitVec.ofNat 64 (s.tns - x.started).toNat))

/-- Masthead with the frame's values behind those that wait, of which it keeps the last four. -/
def Masthead.taking (m : Masthead) (x : Packed) : Masthead :=
  { m with waiting := (m.waiting ++ [({ time := x.time, values := x.masthead } : LampFrame)]).drop
                        (m.waiting.length + 1 - 4) }

/-- Masthead takes the frame's values. -/
def State.handLamps (s : State) (x : Packed) : State :=
  s.setMast (s.masthead.taking x)

/-- The frames beyond the 4,096th of a destination count as late, and the others pass to their ports. -/
def State.sendPacked (s : State) (x : Packed) : State :=
  x.traffic.foldl (fun (s : State) t =>
    if t.1 < 64 then
      if t.2.frames.isEmpty then (s.wr P.PortWireTime t.1 0).servePort t.1
      else ((s.wakeLpi t.1).setPort t.1 { s.port t.1 with shows := (s.port t.1).shows ++ [t.2] }).servePort t.1
    else t.2.frames.foldl (fun s f => s.sendCascade (t.1 - 64) f) s)
    (x.overflow.foldl (fun s o => if o.2 = 0 then s else s.countLate o.1 x.frame o.2) s)

theorem State.finishPack_of_packing {x : Packed} (h : s.sheet.packing = some x) : s.finishPack =
    if x.dropped then s.packPlaced x
    else if ((s.packPlaced x).handLamps x).sheet.stopping then (s.packPlaced x).handLamps x
    else ((s.packPlaced x).handLamps x).sendPacked x := by
  unfold State.finishPack
  rw [h]
  rfl

theorem State.finishPack_of_idle (h : s.sheet.packing = none) : s.finishPack = s := by
  unfold State.finishPack
  rw [h]

theorem sends_sendPacked (s : State) (x : Packed) : Sends s (s.sendPacked x) := by
  have counted : Sends s (x.overflow.foldl (fun s o => if o.2 = 0 then s else s.countLate o.1 x.frame o.2) s) :=
    (Sends.refl s).foldl fun h => .ite h h.countLate
  exact counted.foldl fun h =>
    .ite (.ite h.wr.servePort h.wakeLpi.setPort.servePort) (h.foldl fun k => k.sendCascade)

/-- Hashes placed at other destinations leave the values of this one. -/
theorem State.rd_foldl_placeHash_of_ne {frame e q : Nat} {l : List (Nat × Word)}
    (h : ∀ y ∈ l, e % 256 ≠ y.1 % 256) : (l.foldl (State.placeHash frame) s).rd q e = s.rd q e :=
  List.foldlRecOn (motive := fun t : State => t.rd q e = s.rd q e) l _ rfl fun t ht y hy => by
    rw [State.placeHash, State.rd_wr_other _ _ _ _ _ _ (.inr (h y hy)), State.rd_wr_other _ _ _ _ _ _ (.inr (h y hy)), ht]

/-- Every hash of distinct destinations stands in its place with the frame's index. -/
theorem State.rd_foldl_placeHash {frame : Nat} {l : List (Nat × Word)} (rising : (l.map (·.1)).Pairwise (· < ·))
    (bound : ∀ y ∈ l, y.1 < 256) {h : Nat × Word} (hm : h ∈ l) :
    (l.foldl (State.placeHash frame) s).rd P.FrameHash h.1 = h.2.setWidth 64 ∧
      (l.foldl (State.placeHash frame) s).rd P.FrameHashIndex h.1 = BitVec.ofNat 64 (frame % 2 ^ 32) := by
  induction l generalizing s with
  | nil => contradiction
  | cons y l ih =>
    obtain ⟨above, rising⟩ := List.pairwise_cons.mp rising
    have rest : ∀ z ∈ l, z.1 < 256 := fun z hz => bound z (List.mem_cons_of_mem _ hz)
    rw [List.foldl_cons]
    rcases List.mem_cons.mp hm with rfl | hm
    · have apart : ∀ z ∈ l, h.1 % 256 ≠ z.1 % 256 := fun z hz => by
        have higher : h.1 < z.1 := above z.1 (List.mem_map_of_mem hz)
        have bounded := rest z hz
        omega
      rw [State.rd_foldl_placeHash_of_ne apart, State.rd_foldl_placeHash_of_ne apart, State.placeHash,
        State.rd_wr_same, State.rd_wr_param _ _ _ _ _ _ (by decide), State.rd_wr_same]
      exact ⟨rfl, rfl⟩
    · exact ih rising rest hm

/-- Placing hashes changes values alone. -/
theorem State.foldl_placeHash_eq (frame : Nat) (l : List (Nat × Word)) (s : State) :
    ∃ r, l.foldl (State.placeHash frame) s = { s with regs := r } := by
  induction l generalizing s with
  | nil => exact ⟨s.regs, rfl⟩
  | cons y l ih => exact ih (s.placeHash frame y)

/-- The pass is over, and `lamps` waits at Masthead; beside what the pass itself shows only egress has changed. -/
structure PackDone (x : Packed) (lamps : Masthead) (s t : State) : Prop where
  packing : t.sheet.packing = none
  render : t.render = { s.render with oldArea := false }
  time : t.rd P.PackTime 0 = BitVec.ofNat 64 (s.tns - x.started).toNat
  hashes : ∀ h ∈ x.hashes, t.rd P.FrameHash h.1 = h.2.setWidth 64 ∧
    t.rd P.FrameHashIndex h.1 = BitVec.ofNat 64 (x.frame % 2 ^ 32)
  masthead : t.masthead = lamps
  frame : Frame (P.PackTime :: P.FrameHash :: P.FrameHashIndex :: egressParams) []
    [.sheet, .render, .masthead, .ports, .stay, .wdp] s t

theorem packDone_packPlaced {x : Packed} (rising : (x.hashes.map (·.1)).Pairwise (· < ·))
    (bound : ∀ h ∈ x.hashes, h.1 < 65) : PackDone x s.masthead s (s.packPlaced x) := by
  unfold State.packPlaced
  dsimp only
  generalize hu : (State.setRender { s with sheet := { s.sheet with packing := none } }
    { s.render with oldArea := false }).wr P.PackTime 0 (BitVec.ofNat 64 (s.tns - x.started).toNat) = u
  have kept : Frame [P.FrameHash, P.FrameHashIndex] [] [] u (x.hashes.foldl (State.placeHash x.frame) u) :=
    Frame.foldl _ (fun t y => ((Frame.refl ..).wr _ _ _ (.inl (by decide))).wr _ _ _ (.inl (by decide))) _
      (Frame.refl ..)
  obtain ⟨r, hr⟩ := State.foldl_placeHash_eq x.frame x.hashes u
  have own : Frame [P.PackTime] [] [.sheet, .render] s u := by
    rw [← hu]
    exact (((Frame.refl ..).sheet _ (by decide)).setRender _ (by decide)).wr _ _ _ (by decide)
  refine ⟨?_, ?_, ?_, fun h hm => ?_, ?_, ?_⟩
  · rw [hr, ← hu]
    rfl
  · rw [hr, ← hu]
    rfl
  · rw [kept.rd (by decide) (by decide) (by decide) (by decide), ← hu, State.rd_wr_same]
  · exact State.rd_foldl_placeHash rising (fun y hy => Nat.lt_trans (bound y hy) (by decide)) hm
  · rw [hr, ← hu]
    rfl
  · exact (own.weaken (by simp) (by simp) (by simp)).trans (kept.weaken (by simp) (by simp) (by simp))

theorem PackDone.handLamps {x : Packed} {m : Masthead} (h : PackDone x m s t) :
    PackDone x (m.taking x) s (t.handLamps x) where
  packing := h.packing
  render := h.render
  time := h.time
  hashes := h.hashes
  masthead := by
    rw [← h.masthead]
    rfl
  frame := h.frame.setMast _ (by decide)

/-- What the ports send afterwards touches none of it. -/
theorem PackDone.sends {x : Packed} {m : Masthead} (h : PackDone x m s t) (bound : ∀ h ∈ x.hashes, h.1 < 65)
    (k : Sends t u) : PackDone x m s u := by
  obtain ⟨frame, packing⟩ := k
  have ⟨_, parts⟩ := frame
  refine ⟨packing.trans h.packing, ?_, ?_, fun y hy => ?_, ?_, ?_⟩
  · exact (parts.render (by decide)).trans h.render
  · rw [frame.rd (by decide) (by decide) (by decide) (by decide)]
    exact h.time
  · have small : y.1 < 256 := Nat.lt_trans (bound y hy) (by decide)
    rw [frame.rd small (by decide) (by decide) List.not_mem_nil, frame.rd small (by decide) (by decide) List.not_mem_nil]
    exact h.hashes y hy
  · exact (parts.masthead (by decide)).trans h.masthead
  · exact h.frame.trans (frame.weaken
      (List.subset_append_right [P.PackTime, P.FrameHash, P.FrameHashIndex] egressParams) (by simp) (by simp))

theorem PackDone.settle {x : Packed} {m : Masthead} (h : PackDone x m s t) : PackDone x m s t.settle where
  packing := by
    rw [State.settle_sheet]
    exact h.packing
  render := t.settle_render.trans h.render
  time := (State.rd_settle _ _ _ (by decide)).trans h.time
  hashes y hy := by
    rw [State.rd_settle _ _ _ (by decide), State.rd_settle _ _ _ (by decide)]
    exact h.hashes y hy
  masthead := t.settle_masthead.trans h.masthead
  frame := h.frame.settle

theorem completes_packPassDone {x : Packed} (packing : s.sheet.packing = some x)
    (rising : (x.hashes.map (·.1)).Pairwise (· < ·)) (bound : ∀ h ∈ x.hashes, h.1 < 65) :
    Completes .packPassDone s fun t => PackDone x (if x.dropped then s.masthead else s.masthead.taking x) s t := by
  refine ⟨s.finishPack.settle, rfl, PackDone.settle ?_⟩
  have placed := packDone_packPlaced (s := s) rising bound
  rw [State.finishPack_of_packing packing]
  split
  · exact placed
  · split
    · exact placed.handLamps
    · exact placed.handLamps.sends bound (sends_sendPacked _ x)

theorem completes_packPassDone_idle (h : s.sheet.packing = none) :
    Completes .packPassDone s fun t => Frame [] [] [] s t := by
  refine ⟨s.finishPack.settle, rfl, ?_⟩
  rw [State.finishPack_of_idle h]
  exact (Frame.refl ..).settle

end Sys2Proof.Machine
end

section
namespace Sys2Proof.Machine

variable {s t : State}

/-! ### The opening of a show frame's window (R246) -/

theorem State.endCycle_of_closed {k : Nat} (h : s.sheet.closed = some k) : s.endCycle = s := by
  unfold State.endCycle
  rw [h]

theorem State.endCycle_of_no_frame (h : s.render.frame = none) : s.endCycle = s := by
  unfold State.endCycle
  rw [h]
  split
  · contradiction
  · rfl

theorem State.openWindow_of_idle (closed : s.sheet.closed = none) (frame : s.render.frame = none) :
    s.openWindow = s := by
  unfold State.openWindow
  dsimp only
  rw [State.endCycle_of_no_frame frame, closed]

/-- Show traffic is formed for the frame: its output and Sheet's are on, and time is set (R21, R41, R246). -/
def State.sendsFrame (s : State) (c : FrameContext) : Bool :=
  c.output && !c.dropped && s.sendsOutput && !s.sheet.stopping && s.timeState != Ts.unset

/-- The values that the opening of a window may change. -/
def openParams : List (Nat × Nat) := (P.SacnOverLimitLast, 0) :: (List.range 64).map fun p => (P.PortStatus, p)

/-- `t` comes of `s` by notes of the frame that is packed: in the ports' status and in Sheet, but neither in what it has
sent, nor in what it may send again, nor in which frame has closed. -/
structure Notes (s t : State) : Prop where
  frame : Frame [] openParams [.sheet] s t
  lastSent : t.sheet.lastSent = s.sheet.lastSent
  resume : t.sheet.resume = s.sheet.resume
  closed : t.sheet.closed = s.sheet.closed

theorem Notes.refl (s : State) : Notes s s := ⟨Frame.refl .., rfl, rfl, rfl⟩

theorem Notes.foldl {α : Type} {f : State → α → State} {l : List α} (h : Notes s t)
    (hf : ∀ {u a}, a ∈ l → Notes s u → Notes s (f u a)) : Notes s (l.foldl f t) :=
  List.foldlRecOn l f h fun _ k _ m => hf m k

theorem Notes.sheet {x : Sheet} (h : Notes s t) (lastSent : x.lastSent = t.sheet.lastSent := by rfl)
    (resume : x.resume = t.sheet.resume := by rfl) (closed : x.closed = t.sheet.closed := by rfl) :
    Notes s { t with sheet := x } :=
  ⟨h.frame.sheet x (by decide), lastSent.trans h.lastSent, resume.trans h.resume, closed.trans h.closed⟩

theorem Notes.wr {p e : Nat} {v : Wide} (h : Notes s t) (named : (p, e % 256) ∈ openParams) : Notes s (t.wr p e v) :=
  ⟨h.frame.wr _ _ _ (.inr (.inr named)), h.lastSent, h.resume, h.closed⟩

/-- A port's status is shown for the content of another frame. -/
theorem Notes.showPort {c : FrameContext} {p : Nat} {clone static : Bool} (h : Notes s t) (hp : p ∈ List.range 64) :
    Notes s { t with regs := ((t.under c).showPort p clone static).regs } :=
  h.wr (by
    have own : p % 256 = p := Nat.mod_eq_of_lt (Nat.lt_trans (List.mem_range.mp hp) (by decide))
    rw [own]
    exact List.mem_cons_of_mem _ (List.mem_map_of_mem hp))

/-- The state with another record of Sheet. -/
def State.withSheet (s : State) (x : Sheet) : State := { s with sheet := x }

/-- Counting the unchanged frames of each port is a note in Sheet. -/
theorem State.countStatic_eq (s : State) (c : FrameContext) :
    ∃ m, s.countStatic c = s.withSheet { s.sheet with unchanged := m } := by
  unfold State.countStatic
  dsimp only
  refine List.foldlRecOn (motive := fun t : State => ∃ m, t = s.withSheet { s.sheet with unchanged := m }) _ _
    ⟨s.sheet.unchanged, rfl⟩ ?_
  rintro t ⟨m, rfl⟩ p -
  exact ⟨_, rfl⟩

/-- The pack pass has taken frame `k` of context `c`. -/
structure Packing (k : Nat) (c : FrameContext) (s t : State) : Prop where
  packed : ∃ traffic overflow, t.sheet.packing = some {
      frame := k, time := c.time, started := s.tns, traffic := traffic, hashes := (s.under c).frameHashes k
      masthead := (s.under c).lampValues k, dropped := c.dropped, overflow := overflow } ∧
    (s.sendsFrame c = false → traffic = [] ∧ overflow = [])
  closed : t.sheet.closed = none
  lastSent : t.sheet.lastSent = s.sheet.lastSent
  resume : t.sheet.resume = s.sheet.resume
  frame : Frame [] openParams [.sheet] s t

/-- The pass's intermediate values are named in the order in which it forms them; of them the record is read off, and the
states between `counted` and `limited` differ by notes alone. -/
theorem packing_openWindow {k : Nat} {c : FrameContext} (closed : s.sheet.closed = some k)
    (context : s.contextOf k = some c) : Packing k c s s.openWindow := by
  unfold State.openWindow
  rw [State.endCycle_of_closed closed]
  extract_lets -underBinder
  rw [closed]
  dsimp -zeta only
  extract_lets -underBinder sheet taken
  have kept : taken.contextOf k = some c := context
  rw [kept]
  dsimp -zeta only
  extract_lets -underBinder counted v sends sendsClone init nothing all within shroud outputs casc traffic packed shown
    noted limited last
  obtain ⟨m, hm⟩ : ∃ m, counted = s.withSheet { s.sheet with closed := none, unchanged := m } :=
    taken.countStatic_eq c
  have time : counted.tns = s.tns := by
    rw [hm]
    rfl
  have hashes : v.frameHashes k = (s.under c).frameHashes k := by
    show (counted.under c).frameHashes k = _
    rw [hm]
    rfl
  have lamps : v.lampValues k = (s.under c).lampValues k := by
    show (counted.under c).lampValues k = _
    rw [hm]
    rfl
  have gate : sends = s.sendsFrame c := by
    show counted.sendsFrame c = _
    rw [hm]
    rfl
  have begun : Frame [] openParams [.sheet] s counted := by
    rw [hm]
    exact (Frame.refl ..).sheet _ (by decide)
  have statuses : Notes counted shown := (Notes.refl counted).foldl fun port h => h.showPort port
  have references : Notes counted noted := by
    unfold noted
    split
    · refine statuses.foldl fun {u a} _ h => ?_
      split
      · exact h.sheet
      · exact h
    · exact statuses
  have limits : Notes counted limited := references.wr (by decide)
  refine ⟨⟨packed.traffic, packed.overflow, ?_, fun quiet => ?_⟩, ?_, ?_, ?_, ?_⟩
  · rw [← time, ← hashes, ← lamps]
  · have none_sent : ¬ sends = true := by
      rw [gate, quiet]
      exact Bool.false_ne_true
    exact ⟨if_neg none_sent, if_neg none_sent⟩
  · exact limits.closed.trans (congrArg (·.sheet.closed) hm)
  · exact limits.lastSent.trans (congrArg (·.sheet.lastSent) hm)
  · exact limits.resume.trans (congrArg (·.sheet.resume) hm)
  · exact (begun.trans limits.frame).sheet _ (by decide)

theorem Packing.settle {k : Nat} {c : FrameContext} (h : Packing k c s t) : Packing k c s t.settle := by
  obtain ⟨packed, closed, lastSent, resume, frame⟩ := h
  rw [← State.settle_sheet t] at packed closed lastSent resume
  exact ⟨packed, closed, lastSent, resume, frame.settle⟩

theorem completes_sheetWindowOpen {k : Nat} {c : FrameContext} (closed : s.sheet.closed = some k)
    (context : s.contextOf k = some c) (own : s.now.driven.contains 4 = false) :
    Completes .sheetWindowOpen s fun t => Packing k c s t := by
  obtain ⟨n, hn⟩ := State.ownCommand_of_not_driven (act := State.openWindow) own
  refine ⟨(s.ownCommand 4 State.openWindow).settle, rfl, Packing.settle ?_⟩
  rw [hn]
  obtain ⟨packed, closed, lastSent, resume, frame⟩ := packing_openWindow (s := { s with now := n }) closed context
  exact ⟨packed, closed, lastSent, resume, ((Frame.refl ..).now n).trans frame⟩

theorem completes_sheetWindowOpen_idle
    (h : (s.sheet.closed = none ∧ s.render.frame = none) ∨ s.now.driven.contains 4 = true) :
    Completes .sheetWindowOpen s fun t => Frame [] [] [] s t := by
  refine ⟨(s.ownCommand 4 State.openWindow).settle, rfl, (frame_ownCommand_of_idle ?_).settle⟩
  exact h.symm.imp_right fun ⟨closed, frame⟩ _ => State.openWindow_of_idle closed frame

theorem State.sendsFrame_eq_false {c : FrameContext} (h : c.output = false ∨ c.dropped = true ∨ s.sendsOutput = false ∨
    s.sheet.stopping = true ∨ s.timeState = Ts.unset) : s.sendsFrame c = false := by
  unfold State.sendsFrame
  rcases h with h | h | h | h | h <;> simp [h]

/-- Settles O36, clause by clause: the opening of a window, one whose frame is not sent, one with nothing to pack, the end
of the pass, one with no pass, and the close of a port's and of an output's window. -/
theorem packPassAndWindows : Obligations.PackPassAndWindows := by
  unfold Obligations.PackPassAndWindows
  refine ⟨?_, ?_, ?_, ?_, ?_, ?_, ?_⟩
  · rintro s k c ⟨closed, context, own⟩
    obtain ⟨t, ht, ⟨traffic, overflow, packed, -⟩, taken, -, -, frame⟩ := completes_sheetWindowOpen closed context own
    refine ⟨t, ht, taken, ?_, ?_, ?_, frame⟩
    all_goals
      rw [packed]
      rfl
  · rintro s k c ⟨closed, context, own, held⟩
    obtain ⟨t, ht, ⟨traffic, overflow, packed, quiet⟩, -, lastSent, resume, -⟩ :=
      completes_sheetWindowOpen closed context own
    obtain ⟨rfl, rfl⟩ := quiet (State.sendsFrame_eq_false held)
    refine ⟨t, ht, ?_, lastSent, resume⟩
    rw [packed]
    rfl
  · intro s h
    exact completes_sheetWindowOpen_idle h
  · rintro s x ⟨packing, rising, bound⟩
    obtain ⟨t, ht, passed, render, time, hashes, masthead, frame⟩ := completes_packPassDone packing rising bound
    refine ⟨t, ht, passed, render, time, List.all_eq_true.mpr fun h hm => ?_, masthead, frame⟩
    obtain ⟨hash, index⟩ := hashes h hm
    rw [hash, index, beq_self_eq_true, beq_self_eq_true]
    rfl
  · intro s packing
    exact completes_packPassDone_idle packing
  · intro s port
    obtain ⟨t, ht, closed, others, frame⟩ := completes_sheetWindowClose_port (s := s) port
    exact ⟨t, ht, congrArg (·.shows) closed, congrArg (·.time) closed, congrArg (·.express) closed,
      congrArg (·.bulk) closed, congrArg (·.sending) closed, fun q _ => others q, frame⟩
  · intro s output
    exact completes_sheetWindowClose_output output

end Sys2Proof.Machine
end

section
namespace Sys2Proof.Machine

variable {s t u : State}

/-! ### The log writer and the trace take what a command gives them (R397, R422) -/

/-- Nothing joins the log writer's queue or the decisions, and nothing leaves them. -/
structure SameInputs (s t : State) : Prop where
  log : t.trouble.queue = s.trouble.queue
  trace : t.capstan.decisions = s.capstan.decisions

theorem SameInputs.refl (s : State) : SameInputs s s := ⟨rfl, rfl⟩

theorem SameInputs.trans (h : SameInputs s t) (k : SameInputs t u) : SameInputs s u :=
  ⟨k.log.trans h.log, k.trace.trans h.trace⟩

theorem SameInputs.foldl {α : Type} {f : State → α → State} (hf : ∀ s a, SameInputs s (f s a)) :
    ∀ (l : List α) (s : State), SameInputs s (l.foldl f s)
  | [], s => .refl s
  | a :: l, s => (hf s a).trans (SameInputs.foldl hf l (f s a))

theorem State.bump_sameInputs (s : State) (p e n : Nat) : SameInputs s (s.bump p e n).1 := by
  unfold State.bump
  dsimp only
  split
  · exact ⟨rfl, rfl⟩
  · split
    · exact ⟨rfl, rfl⟩
    · exact ⟨rfl, rfl⟩

theorem State.raise_sameInputs (s : State) (p e i : Nat) : SameInputs s (s.raise p e i) := by
  unfold State.raise
  dsimp only
  split
  · exact ⟨rfl, rfl⟩
  · exact ⟨rfl, rfl⟩

theorem State.offerAll_sameInputs (r : EventRecord) : ∀ (l : List Nat) (s : State), SameInputs s (s.offerAll r l).1
  | [], s => .refl s
  | n :: ns, s =>
    have offered : SameInputs s (s.setSub n ((s.sub n).offer r).1) := ⟨rfl, rfl⟩
    offered.trans (State.offerAll_sameInputs r ns _)

/-- An event gives the log writer nothing, unless the count of lost records saturates (R107). -/
theorem State.notify_sameInputs (s : State) (cls p e : Nat) (a : Word) : SameInputs s (s.notify cls p e a).1 := by
  unfold State.notify
  dsimp only
  generalize EventRecord.mk cls e p _ _ a = r
  generalize List.range 8 = l
  have offered : SameInputs s ((s.raise P.EventPending 0 cls).offerAll r l).1 :=
    (State.raise_sameInputs ..).trans (State.offerAll_sameInputs r l _)
  revert offered
  generalize State.offerAll _ r l = q
  intro offered
  split
  · exact offered
  · exact offered.trans (State.bump_sameInputs ..)

theorem State.enterEntry_sameInputs (s : State) (x : TroubleEntry) : SameInputs s (s.enterEntry x).1 := by
  have entered : ∀ ring v, SameInputs s (({ s with trouble := { s.trouble with ring := ring } } : State).wr P.TroubleIndex 0 v) :=
    fun _ _ => ⟨rfl, rfl⟩
  unfold State.enterEntry
  dsimp only
  split
  · exact (entered _ _).trans (State.bump_sameInputs ..)
  · exact entered _ _

/-- The entries of counters that saturate while the writer works pass its queue by (R420). -/
theorem State.enterEntryAll_sameInputs (s : State) (x : TroubleEntry) : SameInputs s (s.enterEntryAll x) := by
  have entered := State.enterEntry_sameInputs
  have notified : ∀ (u : State) p, SameInputs s u → SameInputs s (((u.enterEntry (x.saturation p)).1.notify 1 p 0 0).1) :=
    fun u p h => h.trans ((entered u _).trans (State.notify_sameInputs ..))
  unfold State.enterEntryAll
  dsimp only
  split
  · split
    · exact notified _ _ (notified _ _ (entered s x))
    · exact notified _ _ (entered s x)
  · exact entered s x

theorem State.takeEntries_sameInputs (s : State) (q : List TroubleEntry) : SameInputs s (s.takeEntries q) := by
  unfold State.takeEntries
  split
  · exact .refl s
  · have recalled : SameInputs s s.recallEntries.2 := ⟨rfl, rfl⟩
    have entered := SameInputs.foldl State.enterEntryAll_sameInputs (sortEntries (s.recallEntries.1 ++ q)) s.recallEntries.2
    exact recalled.trans ⟨entered.log, entered.trace⟩

theorem State.enterDecision_sameInputs (s : State) (x : TraceEntry) : SameInputs s (s.enterDecision x) := by
  unfold State.enterDecision
  split
  · exact .refl s
  · exact ⟨rfl, rfl⟩

theorem State.enterDecisions_sameInputs (s : State) (d : List TraceEntry) : SameInputs s (s.enterDecisions d) := by
  unfold State.enterDecisions
  split
  · exact .refl s
  · have recalled : ∀ n, SameInputs s { s.recallDecisions.2 with now := { s.recallDecisions.2.now with traced := n } } :=
      fun _ => ⟨rfl, rfl⟩
    exact (recalled _).trans (SameInputs.foldl State.enterDecision_sameInputs _ _)

/-- A settled command has given all it had to the log and the trace. -/
theorem State.settled_settle (s : State) : Settled s.settle := by
  have decided : s.drainTrace.capstan.decisions = [] := (State.enterDecisions_sameInputs _ s.capstan.decisions).trace
  have taken := State.takeEntries_sameInputs { s.drainTrace with trouble := { s.drainTrace.trouble with queue := [] } }
    s.drainTrace.trouble.queue
  exact ⟨taken.log, taken.trace.trans decided⟩

/-! ### Every command ends by settling -/

/-- The outcome is that of a command that settles. -/
def EndsSettled (o : Host.Outcome State Fault Refusal) : Prop := ∃ s, o = Machine.done s

theorem EndsSettled.done (s : State) : EndsSettled (Machine.done s) := ⟨s, rfl⟩

theorem EndsSettled.ite {c : Prop} {dec : Decidable c} {a b : Host.Outcome State Fault Refusal} (ha : EndsSettled a)
    (hb : EndsSettled b) : EndsSettled (if c then a else b) := by
  split
  · exact ha
  · exact hb

theorem EndsSettled.iteDone {c : Prop} {dec : Decidable c} (s t : State) :
    EndsSettled (if c then Machine.done s else Machine.done t) := .ite (.done s) (.done t)

/-! ### The commands that go by what stands in the state -/

theorem endsSettled_fuseProgrammingDone (s : State) : EndsSettled (execFuseProgrammingDone s) := by
  unfold execFuseProgrammingDone
  split
  · exact .done _
  · exact .done _

theorem endsSettled_sacnSyncTimeout (address : Half) (s : State) : EndsSettled (execSacnSyncTimeout address s) := by
  unfold execSacnSyncTimeout
  split
  · exact .done _
  · exact .done _

theorem endsSettled_sourceTimeout (univ : Half) (cid : BitVec 128) (s : State) :
    EndsSettled (execSourceTimeout univ cid s) := by
  unfold execSourceTimeout
  split
  · exact .done _
  · exact .done _

theorem endsSettled_snapshotCaptureDone (s : State) : EndsSettled (execSnapshotCaptureDone s) := by
  unfold execSnapshotCaptureDone
  split
  · exact .done _
  · exact .done _

theorem endsSettled_trimDarkTimeout (s : State) : EndsSettled (execTrimDarkTimeout s) := by
  unfold execTrimDarkTimeout
  split
  · exact .iteDone ..
  · exact .done _

theorem endsSettled_kiteChannelAccessFailure (s : State) : EndsSettled (execKiteChannelAccessFailure s) := by
  unfold execKiteChannelAccessFailure
  split
  · exact .done _
  · exact .iteDone ..

theorem endsSettled_imageWriteDone (mismatch : Option Word) (s : State) :
    EndsSettled (execImageWriteDone mismatch s) := by
  unfold execImageWriteDone
  split
  · exact .done _
  · cases mismatch with
    | none => exact .done _
    | some offset => exact .done _

theorem endsSettled_healthTimerExpiry (s : State) : EndsSettled (execHealthTimerExpiry s) := by
  unfold execHealthTimerExpiry
  split
  · exact .done _
  · exact .done _

theorem endsSettled_settingsSaveDone (ok : Bool) (s : State) : EndsSettled (execSettingsSaveDone ok s) := by
  unfold execSettingsSaveDone
  split
  · exact .done _
  · exact .iteDone ..

theorem endsSettled_logExportDone (s : State) : EndsSettled (execLogExportDone s) := by
  unfold execLogExportDone
  split
  · exact .done _
  · exact .done _

/-- Every command's meaning ends in `done`, behind at most a few conditions. -/
theorem EndsSettled.exec (c : Instr) (s : State) : EndsSettled (Machine.exec c s) := by
  cases c with
  | fuseProgrammingDone => exact endsSettled_fuseProgrammingDone s
  | sacnSyncTimeout address => exact endsSettled_sacnSyncTimeout address s
  | sourceTimeout univ cid => exact endsSettled_sourceTimeout univ cid s
  | snapshotCaptureDone => exact endsSettled_snapshotCaptureDone s
  | trimDarkTimeout => exact endsSettled_trimDarkTimeout s
  | kiteChannelAccessFailure => exact endsSettled_kiteChannelAccessFailure s
  | imageWriteDone mismatch => exact endsSettled_imageWriteDone mismatch s
  | healthTimerExpiry => exact endsSettled_healthTimerExpiry s
  | settingsSaveDone ok => exact endsSettled_settingsSaveDone ok s
  | logExportDone => exact endsSettled_logExportDone s
  | pllLossOfLock | imageVerify => exact .ite (.iteDone ..) (.done _)
  | resetRelease => exact .ite (.ite (.done _) (.iteDone ..)) (.done _)
  | txFaultCheck => exact .ite (.iteDone ..) (.done _)
  | stayPennantReceived | cuePoll | scanSupplyFault | scrubPeriodic | bosunWriteTransfer =>
    exact .ite (.done _) (.iteDone ..)
  | brownout | resetPin | watchdogExpiry | clockFault | pllRelockAttempt | commandedReset | sramWipeDone | dramTrained
  | dramWipeDone | bootHandover | settingsApply | deviceReady | retiredEraseDone | luffWake | struckWake | read
  | readInfo | sessionProve | sessionClose | sessionProveTimeout | sessionIdleTimeout | bosunRead | timeNowRead | tnsWrap
  | triggerFire | moduleInserted | moduleIdRead | moduleRemoved | txFaultRise | txFaultRetry | stayLinkFault
  | stayLinkUp | lossHoldExpiry | cascadeFrame | cueRead | cueExecute | egressFrameDone | derateStep
  | switchOvercurrent | showLossTimeout | trimFirstAuto | keyEraEnd | pennantBurstReceived | joinWaitExpiry | btDone
  | bulkRoom | relayTimeout | scrubDone | mirrorBlobVerified => exact .iteDone ..
  | _ => exact .done _

theorem EndsSettled.step (s : State) : EndsSettled (Machine.step s) := by
  unfold Machine.step
  split
  · exact .done _
  · exact .exec _ _

/-- Settles O3: a step is an idle clock edge or a command, and each ends in `done`, which settles
(`State.settled_settle`). -/
theorem everyStepSettles : Obligations.EveryStepSettles := by
  unfold Obligations.EveryStepSettles
  intro s t h
  obtain ⟨u, hu⟩ := EndsSettled.step s
  obtain rfl : u.settle = t := Host.Outcome.next.inj (hu.symm.trans h)
  exact u.settled_settle

end Sys2Proof.Machine
end

section
namespace Sys2Proof.Machine

/-! ### A store of threads that lists one number twice (R387, R391) -/

/-- A device that runs, whose store of threads lists thread 1 twice: as Waiting, which the number reads as, and as
Ready. -/
def twiceListed : State :=
  let s := State.reset.setCore 0 { State.reset.core 0 with released := true }
  { s with
    power := { s.power with phase := .ready }
    capstan := { s.capstan with threads := [(1, { Thread.init with state := .waiting }),
                                            (1, { Thread.init with state := .ready })] } }

theorem coreRuns_twiceListed : twiceListed.coreRuns 0 = true := by decide +kernel

/-- What a core that runs stores to Ready acts at once. -/
theorem exec_schedReady_of_runs {s : State} {core : Fin 4} (thread : Byte) (runs : s.coreRuns core = true) :
    exec (.schedReady core thread) s = done (s.makeReady thread.toNat (BitVec.ofNat 32 core)).place :=
  congrArg done (if_pos runs)

/-- A store to word 0 of a descriptor brings the slots up to date. -/
theorem exec_threadPriorityWrite_of_runs {s : State} {core : Fin 4} (thread : Byte) (value : Word)
    (runs : s.coreRuns core = true) :
    exec (.threadPriorityWrite core thread 0 value) s = done (s.storeWord0 thread.toNat value).place :=
  congrArg done (if_pos runs)

/-- Refutes O50: a ready of a Free thread may change no thread that is neither Ready nor Slotted, but the clause does not
ask that the store list each thread once, as every reachable one does. In `twiceListed` the second entry of thread 1 is
a candidate, so a ready of thread 0 puts thread 1 in the slot of core 0, although its number reads Waiting. -/
theorem not_readyCancelAndEvents : ¬ Obligations.ReadyCancelAndEvents := by
  unfold Obligations.ReadyCancelAndEvents
  rintro ⟨-, -, -, -, readyFree, -⟩
  obtain ⟨t, ht, -, -, others, -⟩ := readyFree twiceListed 0 0 0 ⟨coreRuns_twiceListed, rfl, by decide +kernel⟩
  rw [exec_schedReady_of_runs _ coreRuns_twiceListed] at ht
  cases ht
  have same := others 1 (by decide) (by decide) (by decide +kernel) (by decide +kernel)
  have slotted : ((twiceListed.makeReady 0 0).place.thread 1).state = .slotted := by decide +kernel
  have waiting : (twiceListed.thread 1).state = .waiting := by decide +kernel
  rw [State.settle_thread] at same
  exact absurd (slotted.symm.trans ((congrArg Thread.state same).trans waiting)) (by decide)

/-- Refutes O51: a store to a descriptor may change no other thread that is neither Ready nor Slotted, but the clause
does not ask that the store list each thread once, as every reachable one does. In `twiceListed` the slots are brought
up to date, and the second entry of thread 1 puts it in the slot of core 0, although its number reads Waiting. -/
theorem not_dispatchAndTheRunningThread : ¬ Obligations.DispatchAndTheRunningThread := by
  unfold Obligations.DispatchAndTheRunningThread
  rintro ⟨-, -, -, -, -, -, -, -, -, priorityWrite, -⟩
  obtain ⟨t, ht, -, -, -, -, others, -⟩ := priorityWrite twiceListed 0 0 0 0 ⟨coreRuns_twiceListed, rfl⟩
  rw [exec_threadPriorityWrite_of_runs _ _ coreRuns_twiceListed] at ht
  cases ht
  have same := others 1 (by decide) (by decide) (by decide +kernel) (by decide +kernel)
  have slotted : ((twiceListed.storeWord0 0 0).place.thread 1).state = .slotted := by decide +kernel
  have waiting : (twiceListed.thread 1).state = .waiting := by decide +kernel
  rw [State.settle_thread] at same
  exact absurd (slotted.symm.trans ((congrArg Thread.state same).trans waiting)) (by decide)

end Sys2Proof.Machine
end

section
namespace Sys2Proof.Machine

variable {s t u : State}

/-! ### What counters, events and log entries note of the clock (R5, R13)

A quiet change may move the whole note of the clock. Counters, events and log entries move less: the bits raised and
what has counted, and nothing of the trace or the log's ring. -/

/-- `t` differs from `s` in nothing but values, the bits raised and the counts of this clock, the log writer's queue and
the subscriptions. -/
def Noted (s t : State) : Prop :=
  ∃ raised counted regs queue subs,
    t = { s with now := { s.now with raised := raised, counted := counted }
                 regs := regs
                 trouble := { s.trouble with queue := queue }
                 wdp := { s.wdp with subs := subs } }

theorem Noted.refl (s : State) : Noted s s := ⟨s.now.raised, s.now.counted, s.regs, s.trouble.queue, s.wdp.subs, rfl⟩

theorem Noted.trans (h : Noted s t) (k : Noted t u) : Noted s u := by
  obtain ⟨a, b, c, d, e, rfl⟩ := h
  obtain ⟨a', b', c', d', e', rfl⟩ := k
  exact ⟨a', b', c', d', e', rfl⟩

theorem Noted.capstan (h : Noted s t) : t.capstan = s.capstan := by obtain ⟨_, _, _, _, _, rfl⟩ := h; rfl

/-- What the clock has noted beside the bits raised and the counts stands. -/
theorem Noted.now (h : Noted s t) :
    ∃ raised counted, t.now = { s.now with raised := raised, counted := counted } := by
  obtain ⟨a, b, _, _, _, rfl⟩ := h
  exact ⟨a, b, rfl⟩

theorem State.wr_noted (s : State) (p e : Nat) (v : Wide) : Noted s (s.wr p e v) :=
  ⟨s.now.raised, s.now.counted, _, s.trouble.queue, s.wdp.subs, rfl⟩

theorem State.tally_noted (s : State) (p e n : Nat) : Noted s (s.tally p e n) :=
  ⟨s.now.raised, _, s.regs, s.trouble.queue, s.wdp.subs, rfl⟩

theorem State.setSub_noted (s : State) (n : Nat) (x : Subscription) : Noted s (s.setSub n x) :=
  ⟨s.now.raised, s.now.counted, s.regs, s.trouble.queue, _, rfl⟩

theorem State.traffic_noted (s : State) (p e n : Nat) : Noted s (s.traffic p e n) :=
  (s.tally_noted p e n).trans (State.wr_noted ..)

theorem State.raise_noted (s : State) (p e i : Nat) : Noted s (s.raise p e i) := by
  unfold State.raise
  dsimp only
  split
  · exact State.wr_noted ..
  · exact ⟨_, s.now.counted, _, s.trouble.queue, s.wdp.subs, rfl⟩

theorem State.bump_noted (s : State) (p e n : Nat) : Noted s (s.bump p e n).1 := by
  unfold State.bump
  dsimp only
  split
  · exact State.tally_noted ..
  · split
    · exact (State.tally_noted ..).trans (State.wr_noted ..)
    · exact (State.tally_noted ..).trans (State.wr_noted ..)

theorem State.enqueue_noted (s : State) (source code aux : Nat) (a b : Word) :
    Noted s (s.enqueue source code aux a b).1 := by
  unfold State.enqueue
  split
  · exact State.bump_noted ..
  · exact ⟨s.now.raised, s.now.counted, s.regs, _, s.wdp.subs, rfl⟩

theorem State.offerAll_noted (r : EventRecord) : ∀ (l : List Nat) (s : State), Noted s (s.offerAll r l).1
  | [], s => .refl s
  | n :: ns, s => (State.setSub_noted s n _).trans (State.offerAll_noted r ns _)

theorem State.notify_noted (s : State) (cls p e : Nat) (a : Word) : Noted s (s.notify cls p e a).1 := by
  unfold State.notify
  dsimp only
  generalize EventRecord.mk cls e p _ _ a = r
  generalize List.range 8 = l
  have offered : Noted s ((s.raise P.EventPending 0 cls).offerAll r l).1 :=
    (State.raise_noted ..).trans (State.offerAll_noted r l _)
  revert offered
  generalize State.offerAll _ r l = q
  intro offered
  split
  · exact offered
  · exact offered.trans (State.bump_noted ..)

theorem State.saturateAll_noted : ∀ (n : Nat) (s : State) (l : List (Nat × Nat)), Noted s (State.saturateAll n s l)
  | 0, s, _ => by unfold State.saturateAll; exact .refl s
  | n + 1, s, [] => by unfold State.saturateAll; exact .refl s
  | n + 1, s, (p, e) :: rest => by
    unfold State.saturateAll
    have entered := State.enqueue_noted s (areaSource p) 1 0 (peArg p e) 0
    revert entered
    generalize s.enqueue (areaSource p) 1 0 (peArg p e) 0 = q
    obtain ⟨t, dropped⟩ := q
    intro entered
    have notified := State.notify_noted t 1 p e 0
    dsimp only at entered ⊢
    revert notified
    generalize t.notify 1 p e 0 = q
    obtain ⟨u, lost⟩ := q
    intro notified
    exact entered.trans (notified.trans (State.saturateAll_noted n _ _))

/-- What may saturate a counter notes no more when it does. -/
theorem Noted.then_saturated {q : State × Bool} (h : Noted s q.1) (p e : Nat) :
    Noted s (if q.2 = true then q.1.saturated p e else q.1) := by
  split
  · exact h.trans (State.saturateAll_noted ..)
  · exact h

theorem State.log_noted (s : State) (source code aux : Nat) (a b : Word) : Noted s (s.log source code aux a b) :=
  (State.enqueue_noted s source code aux a b).then_saturated ..

theorem State.event_noted (s : State) (cls p e : Nat) (a : Word) : Noted s (s.event cls p e a) := by
  unfold State.event
  have notified := State.notify_noted s cls p e a
  revert notified
  generalize s.notify cls p e a = q
  intro notified
  exact notified.then_saturated ..

theorem State.countBy_noted (s : State) (p e n : Nat) : Noted s (s.countBy p e n) :=
  (State.bump_noted s p e n).then_saturated ..

theorem State.count_noted (s : State) (p e : Nat) : Noted s (s.count p e) := State.countBy_noted ..

end Sys2Proof.Machine
end

section
namespace Sys2Proof.Machine

variable {s t u : State}

/-! ### The best of a list of threads (R390) -/

/-- `a` is served no later than `b`: it has the higher priority, or an equal one and was made ready no later. -/
def NoLater (a b : Nat × Thread) : Prop :=
  b.2.priority < a.2.priority ∨ (b.2.priority = a.2.priority ∧
    (a.2.ticket < b.2.ticket ∨ (a.2.ticket = b.2.ticket ∧ a.1 ≤ b.1)))

theorem NoLater.refl (a : Nat × Thread) : NoLater a a := .inr ⟨rfl, .inr ⟨rfl, Nat.le_refl _⟩⟩

theorem NoLater.trans {a b c : Nat × Thread} (h : NoLater a b) (k : NoLater b c) : NoLater a c := by
  unfold NoLater at *
  bv_omega

theorem readiedBefore_iff {a b : Nat × Thread} :
    readiedBefore a b = true ↔ a.2.ticket < b.2.ticket ∨ (a.2.ticket = b.2.ticket ∧ a.1 < b.1) := by
  simp [readiedBefore]

/-- Being served before is the strict order to `NoLater`. -/
theorem servedBefore_iff {a b : Nat × Thread} : servedBefore a b = true ↔ ¬NoLater b a := by
  simp only [servedBefore, Bool.or_eq_true, Bool.and_eq_true, decide_eq_true_eq, beq_iff_eq, readiedBefore_iff, NoLater]
  bv_omega

theorem NoLater.of_servedBefore {a b : Nat × Thread} (h : servedBefore a b = true) : NoLater a b := by
  rw [servedBefore_iff] at h
  unfold NoLater at *
  bv_omega

theorem NoLater.of_not_servedBefore {a b : Nat × Thread} (h : servedBefore a b = false) : NoLater b a := by
  by_contra k
  rw [servedBefore_iff.mpr k] at h
  contradiction

/-- None is the best only where none may run on the core. -/
theorem bestFor_eq_none {c : Nat} {l : List (Nat × Thread)} (h : bestFor c l = none) :
    ∀ x ∈ l, x.2.affinity.getLsbD c = false := by
  induction l with
  | nil => simp
  | cons x xs ih =>
    unfold bestFor at h
    split at h
    · rename_i rest
      simp only [List.mem_cons, forall_eq_or_imp]
      exact ⟨by simpa using h, ih rest⟩
    · split at h
      · contradiction
      · contradiction

/-- The best is one of the list that may run on the core, and is served no later than any other that may. -/
theorem bestFor_eq_some {c : Nat} {l : List (Nat × Thread)} {a : Nat × Thread} (h : bestFor c l = some a) :
    a ∈ l ∧ a.2.affinity.getLsbD c = true ∧ ∀ x ∈ l, x.2.affinity.getLsbD c = true → NoLater a x := by
  induction l generalizing a with
  | nil => simp [bestFor] at h
  | cons x xs ih =>
    unfold bestFor at h
    split at h
    · rename_i rest
      have alone := bestFor_eq_none rest
      split at h
      · rename_i may
        cases h
        refine ⟨List.mem_cons_self, may, fun y hy may' => ?_⟩
        rcases List.mem_cons.mp hy with rfl | hy
        · exact .refl _
        · simp [alone y hy] at may'
      · contradiction
    · rename_i y rest
      obtain ⟨mem, may, first⟩ := ih rest
      split at h
      · rename_i before
        simp only [Bool.and_eq_true] at before
        obtain ⟨may', before⟩ := before
        cases h
        refine ⟨List.mem_cons_self, may', fun z hz mayZ => ?_⟩
        rcases List.mem_cons.mp hz with rfl | hz
        · exact .refl _
        · exact (NoLater.of_servedBefore before).trans (first z hz mayZ)
      · rename_i before
        cases h
        refine ⟨List.mem_cons_of_mem _ mem, may, fun z hz mayZ => ?_⟩
        rcases List.mem_cons.mp hz with rfl | hz
        · simp only [mayZ, Bool.true_and, Bool.not_eq_true] at before
          exact .of_not_servedBefore before
        · exact first z hz mayZ

/-- The threads that a slot may hold are those of the store that are Ready or hold one. -/
theorem State.mem_candidates {x : Nat × Thread} :
    x ∈ s.candidates ↔ x ∈ s.capstan.threads ∧ (x.2.state = .ready ∨ x.2.state = .slotted) := by
  simp [State.candidates]

/-! ### The end of Luff (R71) -/

/-- The end of Luff changes the cores and the power record alone. -/
theorem State.leaveLuff_eq (s : State) :
    ∃ cores power, s.leaveLuff = { s with capstan := { s.capstan with cores := cores }, power := power } := by
  have restart : ∀ (l : List Nat) (s : State), ∃ cores,
      l.foldl (fun s c => s.setCore c { s.core c with clockStopped := false }) s =
        { s with capstan := { s.capstan with cores := cores } } := by
    intro l
    induction l with
    | nil => exact fun s => ⟨s.capstan.cores, rfl⟩
    | cons c cs ih =>
      intro s
      obtain ⟨cores, h⟩ := ih (s.setCore c { s.core c with clockStopped := false })
      exact ⟨cores, h⟩
  unfold State.leaveLuff
  split
  · obtain ⟨cores, h⟩ := restart (List.range 4) { s with power := { s.power with sleep := .run } }
    exact ⟨cores, _, h⟩
  · exact ⟨s.capstan.cores, s.power, rfl⟩

@[simp] theorem State.leaveLuff_thread (s : State) (n : Nat) : s.leaveLuff.thread n = s.thread n := by
  obtain ⟨cores, power, h⟩ := s.leaveLuff_eq
  rw [h]
  rfl

@[simp] theorem State.leaveLuff_now (s : State) : s.leaveLuff.now = s.now := by
  obtain ⟨cores, power, h⟩ := s.leaveLuff_eq
  rw [h]

@[simp] theorem State.leaveLuff_nextTicket (s : State) : s.leaveLuff.capstan.nextTicket = s.capstan.nextTicket := by
  obtain ⟨cores, power, h⟩ := s.leaveLuff_eq
  rw [h]

@[simp] theorem State.leaveLuff_halyard (s : State) : s.leaveLuff.halyard = s.halyard := by
  obtain ⟨cores, power, h⟩ := s.leaveLuff_eq
  rw [h]

/-! ### Tickets

A ticket is given where a thread goes to the tail of its list; what brings the slots up to date gives none. -/

/-- Every thread's ticket and the ticket of the clock are as before. -/
structure KeepsTickets (s t : State) : Prop where
  next : t.capstan.nextTicket = s.capstan.nextTicket
  ticket : ∀ n, (t.thread n).ticket = (s.thread n).ticket

theorem KeepsTickets.refl (s : State) : KeepsTickets s s := ⟨rfl, fun _ => rfl⟩

theorem KeepsTickets.trans (h : KeepsTickets s t) (k : KeepsTickets t u) : KeepsTickets s u :=
  ⟨k.next.trans h.next, fun n => (k.ticket n).trans (h.ticket n)⟩

theorem KeepsTickets.foldl {α : Type} {f : State → α → State} (hf : ∀ s a, KeepsTickets s (f s a)) :
    ∀ (l : List α) (s : State), KeepsTickets s (l.foldl f s)
  | [], s => .refl s
  | a :: l, s => (hf s a).trans (KeepsTickets.foldl hf l (f s a))

theorem Noted.keepsTickets (h : Noted s t) : KeepsTickets s t :=
  ⟨by rw [h.capstan], fun n => by simp only [State.thread, h.capstan]⟩

theorem KeepsTickets.setThread (n : Nat) {x : Thread} (h : x.ticket = (s.thread n).ticket) :
    KeepsTickets s (s.setThread n x) := by
  refine ⟨rfl, fun m => ?_⟩
  rw [State.thread_setThread]
  split
  · rename_i e
    rw [e, h]
  · rfl

theorem State.setCore_keepsTickets (s : State) (c : Nat) (x : DeckCore) : KeepsTickets s (s.setCore c x) :=
  ⟨rfl, fun _ => rfl⟩

theorem State.decision_keepsTickets (s : State) (code core thread : Nat) (d : Word) :
    KeepsTickets s (s.decision code core thread d) := ⟨rfl, fun _ => rfl⟩

theorem State.leaveLuff_keepsTickets (s : State) : KeepsTickets s s.leaveLuff := by
  obtain ⟨cores, power, h⟩ := s.leaveLuff_eq
  rw [h]
  exact ⟨rfl, fun _ => rfl⟩

theorem State.raiseIrq_keepsTickets (s : State) (c bit : Nat) : KeepsTickets s (s.raiseIrq c bit) := by
  unfold State.raiseIrq
  exact (s.setCore_keepsTickets c _).trans (State.leaveLuff_keepsTickets _)

theorem State.enterFlow_keepsTickets (s : State) (n : Nat) : KeepsTickets s (s.enterFlow n) := by
  unfold State.enterFlow
  dsimp only
  split
  · exact ⟨rfl, fun _ => rfl⟩
  · exact .refl s

theorem State.reopenFlows_keepsTickets (s : State) : KeepsTickets s s.reopenFlows := by
  refine KeepsTickets.trans (t := { s with now := { s.now with flowed := [] } }) ⟨rfl, fun _ => rfl⟩
    (KeepsTickets.foldl (fun s f => ?_) _ _)
  split
  · split
    · exact ⟨rfl, fun _ => rfl⟩
    · exact .refl s
  · exact .refl s

theorem State.unslot_keepsTickets (s : State) (c : Nat) (want : Option Nat) : KeepsTickets s (s.unslot c want) := by
  unfold State.unslot
  split
  · exact .refl s
  · split
    · exact .refl s
    · dsimp only
      split
      · refine .trans ?_ (State.decision_keepsTickets ..)
        refine .trans (s.setCore_keepsTickets c _) (KeepsTickets.setThread _ ?_)
        rfl
      · exact s.setCore_keepsTickets c _

theorem State.slotIn_keepsTickets (s : State) (c : Nat) (want : Option Nat) : KeepsTickets s (s.slotIn c want) := by
  have entered : ∀ (t : State) n, KeepsTickets s t → KeepsTickets s
      (if ((t.enterFlow n).core c).running.isNone then (t.enterFlow n).raiseIrq c Irq.slotWake else t.enterFlow n) := by
    intro t n h
    split
    · exact (h.trans (t.enterFlow_keepsTickets n)).trans (State.raiseIrq_keepsTickets ..)
    · exact h.trans (t.enterFlow_keepsTickets n)
  unfold State.slotIn
  split
  · exact .refl s
  · rename_i n
    dsimp only
    refine entered _ n ?_
    split
    · exact .refl s
    · refine .trans (.trans (KeepsTickets.setThread n ?_) (State.setCore_keepsTickets ..)) (State.decision_keepsTickets ..)
      rfl

theorem State.preemptCheck_keepsTickets (s : State) (c : Nat) : KeepsTickets s (s.preemptCheck c) := by
  unfold State.preemptCheck
  split
  · dsimp only
    split
    · refine .trans ?_ (State.raiseIrq_keepsTickets ..)
      exact (s.decision_keepsTickets ..).trans (State.traffic_noted ..).keepsTickets
    · exact .refl s
  · exact .refl s

/-- Bringing the slots up to date gives no ticket. -/
theorem State.place_keepsTickets (s : State) : KeepsTickets s s.place := by
  unfold State.place
  split
  · exact .refl s
  · refine .trans ?_ (KeepsTickets.foldl State.preemptCheck_keepsTickets _ _)
    refine .trans ?_ (KeepsTickets.foldl (fun s c => s.slotIn_keepsTickets c _) _ _)
    exact .trans s.reopenFlows_keepsTickets (KeepsTickets.foldl (fun s c => s.unslot_keepsTickets c _) _ _)

end Sys2Proof.Machine
end

section
namespace Sys2Proof.Machine

variable {s t u : State}

/-! ### An event readies the threads bound to it, with the ticket of the clock (R389, R390) -/

/-- Thread `n` alone may have changed, and the clock's cancels are those it had and perhaps one of `n`. -/
structure ReadiesOnly (n : Nat) (s t : State) : Prop where
  next : t.capstan.nextTicket = s.capstan.nextTicket
  thread : ∀ m, m ≠ n → t.thread m = s.thread m
  cancelled : ∀ x ∈ t.now.cancelled, x ∈ s.now.cancelled ∨ x.1 = n

theorem ReadiesOnly.refl (n : Nat) (s : State) : ReadiesOnly n s s := ⟨rfl, fun _ _ => rfl, fun _ h => .inl h⟩

theorem ReadiesOnly.trans {n : Nat} (h : ReadiesOnly n s t) (k : ReadiesOnly n t u) : ReadiesOnly n s u :=
  ⟨k.next.trans h.next, fun m hm => (k.thread m hm).trans (h.thread m hm),
    fun x hx => (k.cancelled x hx).elim (h.cancelled x) .inr⟩

theorem Noted.readiesOnly (n : Nat) (h : Noted s t) : ReadiesOnly n s t := by
  obtain ⟨_, _, now⟩ := h.now
  exact ⟨by rw [h.capstan], fun m _ => by simp only [State.thread, h.capstan], fun x hx => .inl (by rwa [now] at hx)⟩

theorem ReadiesOnly.decision {n : Nat} (h : ReadiesOnly n s t) (code core thread : Nat) (d : Word) :
    ReadiesOnly n s (t.decision code core thread d) := h.trans ⟨rfl, fun _ _ => rfl, fun _ hx => .inl hx⟩

theorem State.setThread_readiesOnly (s : State) (n : Nat) (x : Thread) : ReadiesOnly n s (s.setThread n x) :=
  ⟨rfl, fun m hm => by rw [State.thread_setThread, if_neg hm], fun _ h => .inl h⟩

theorem State.toReady_readiesOnly (s : State) (n : Nat) : ReadiesOnly n s (s.toReady n) := by
  refine (s.setThread_readiesOnly n { s.thread n with state := .ready, ticket := s.capstan.nextTicket }).trans
    ⟨?_, fun m _ => ?_, fun x hx => ?_⟩
  · exact State.leaveLuff_nextTicket _
  · exact State.leaveLuff_thread _ _
  · exact .inl (by rwa [State.toReady, State.leaveLuff_now] at hx)

theorem State.makeReady_readiesOnly (s : State) (n : Nat) (source : Word) : ReadiesOnly n s (s.makeReady n source) := by
  have cancelledNow : ReadiesOnly n s
      ((((s.decision 1 0 n source).count P.CancelCount 0).decision 3 0 n 0).noteCancel n true) := by
    refine .trans (t := ((s.decision 1 0 n source).count P.CancelCount 0).decision 3 0 n 0) ?_ ?_
    · refine .decision ?_ ..
      exact (ReadiesOnly.decision (.refl n s) ..).trans ((State.count_noted ..).readiesOnly n)
    · exact ⟨rfl, fun _ _ => rfl, fun x hx => (List.mem_cons.mp hx).elim (fun h => .inr (congrArg Prod.fst h)) .inl⟩
  have readied : ReadiesOnly n s (match s.now.cancelled.find? (fun x => x.1 == n) with
      | none => (s.toReady n).decision 1 0 n source
      | some (_, changed) =>
        let s := s.decision 1 0 n source
        if changed then s else ((s.count P.CancelCount 0).decision 3 0 n 0).noteCancel n true) := by
    split
    · exact (s.toReady_readiesOnly n).decision ..
    · dsimp only
      split
      · exact (ReadiesOnly.refl n s).decision ..
      · exact cancelledNow
  unfold State.makeReady
  dsimp only
  split
  · exact readied
  · exact readied
  · exact ((State.count_noted ..).readiesOnly n).decision ..
  · exact ((State.count_noted ..).readiesOnly n).decision ..
  · split
    · exact .refl n s
    · exact s.setThread_readiesOnly n _
  · exact .refl n s

/-- A thread that waits for a ready, and was not cancelled in this clock, goes to the tail of its list with the clock's
ticket. -/
theorem State.ticket_makeReady {n : Nat} {source : Word}
    (waits : (s.thread n).state = .dormant ∨ (s.thread n).state = .waiting) (cancelled : ∀ x ∈ s.now.cancelled, x.1 ≠ n) :
    ((s.makeReady n source).thread n).ticket = s.capstan.nextTicket := by
  have none : s.now.cancelled.find? (fun x => x.1 == n) = none := by
    simpa using cancelled
  have readied : s.makeReady n source = (s.toReady n).decision 1 0 n source := by
    unfold State.makeReady
    rcases waits with h | h
    · simp only [h, none]
    · simp only [h, none]
  rw [readied]
  show ((s.toReady n).thread n).ticket = _
  rw [State.toReady, State.leaveLuff_thread, State.thread_setThread_same]

/-- Making others ready leaves a thread as it is. -/
theorem State.thread_foldl_makeReady_of_not_mem {source : Word} {j : Nat} :
    ∀ {l : List (Nat × Thread)} {s : State}, j ∉ l.map (·.1) →
      (l.foldl (fun s x => s.makeReady x.1 source) s).thread j = s.thread j
  | [], _, _ => rfl
  | x :: l, s, h => by
    simp only [List.map_cons, List.mem_cons, not_or] at h
    obtain ⟨apart, rest⟩ := h
    exact (State.thread_foldl_makeReady_of_not_mem rest).trans ((s.makeReady_readiesOnly x.1 source).thread j apart)

/-- Of threads with different numbers made ready one after another, each that waits gets the ticket of the clock. -/
theorem State.ticket_foldl_makeReady {source : Word} {j : Nat} :
    ∀ {l : List (Nat × Thread)} {s : State}, (l.map (·.1)).Nodup → j ∈ l.map (·.1) →
      ((s.thread j).state = .dormant ∨ (s.thread j).state = .waiting) → (∀ x ∈ s.now.cancelled, x.1 ≠ j) →
      ((l.foldl (fun s x => s.makeReady x.1 source) s).thread j).ticket = s.capstan.nextTicket
  | [], _, _, h, _, _ => by simp at h
  | x :: l, s, nodup, mem, waits, cancelled => by
    simp only [List.map_cons, List.nodup_cons] at nodup
    obtain ⟨apart, nodup⟩ := nodup
    have step := s.makeReady_readiesOnly x.1 source
    by_cases e : j = x.1
    · subst e
      simp only [List.foldl_cons, State.thread_foldl_makeReady_of_not_mem apart]
      exact State.ticket_makeReady waits cancelled
    · have mem : j ∈ l.map (·.1) := (List.mem_cons.mp mem).resolve_left e
      have same := step.thread j e
      refine (State.ticket_foldl_makeReady nodup mem (by rwa [same]) fun y hy => ?_).trans step.next
      rcases step.cancelled y hy with h | h
      · exact cancelled y h
      · exact h ▸ Ne.symm e

/-- A number that the store lists once reads as its entry. -/
theorem SMap.get_of_mem {V : Type} {d v : V} {k : Nat} : ∀ {m : SMap V}, (m.map (·.1)).Pairwise (· < ·) →
    (k, v) ∈ m → SMap.get d m k = v
  | [], _, h => by simp at h
  | (a, b) :: m, rising, h => by
    simp only [List.map_cons, List.pairwise_cons] at rising
    obtain ⟨above, rising⟩ := rising
    have later := SMap.get_of_mem (d := d) (k := k) (v := v) rising
    unfold SMap.get at later ⊢
    rw [SMap.find]
    rcases List.mem_cons.mp h with h | h
    · cases h
      rw [if_pos rfl]
    · have higher := above k (List.mem_map_of_mem h)
      rw [if_neg (by omega)]
      exact later h

/-- An event gives every thread bound to it that waits, and was not cancelled in this clock, the ticket of the clock. -/
theorem State.ticket_fireEvent {code : Byte} {source : Word} {j : Nat}
    (rising : (s.capstan.threads.map (·.1)).Pairwise (· < ·)) (listed : j ∈ s.capstan.threads.map (·.1))
    (bound : (s.thread j).event = code) (waits : (s.thread j).state = .dormant ∨ (s.thread j).state = .waiting)
    (cancelled : ∀ x ∈ s.now.cancelled, x.1 ≠ j) :
    ((s.fireEvent code source).thread j).ticket = s.capstan.nextTicket := by
  obtain ⟨⟨k, v⟩, mem, rfl⟩ := List.mem_map.mp listed
  have entry : s.thread k = v := SMap.get_of_mem rising mem
  rw [show ((k, v) : Nat × Thread).1 = k from rfl, entry] at bound waits
  have distinct : (s.capstan.threads.map (·.1)).Nodup := rising.imp Nat.ne_of_lt
  unfold State.fireEvent
  dsimp only
  rw [(State.place_keepsTickets _).ticket]
  refine State.ticket_foldl_makeReady (distinct.sublist (List.filter_sublist.map _)) ?_ (by rwa [entry]) cancelled
  exact List.mem_map_of_mem (List.mem_filter.mpr ⟨mem, by rcases waits with h | h <;> simp [bound, h]⟩)

/-! ### The edge of the clock moves the ticket on (R390) -/

theorem State.rtcAdvance_eq (s : State) (n : Nat) :
    ∃ rtcPhase regs, s.rtcAdvance n = { s with rtcPhase := rtcPhase, regs := regs } := by
  unfold State.rtcAdvance
  dsimp only
  split
  · exact ⟨_, _, rfl⟩
  · exact ⟨_, _, rfl⟩

/-- A wrap of TNS gives no ticket and drives no unit. -/
theorem State.wrapEvent_ticket (s : State) :
    s.wrapEvent.capstan.nextTicket = s.capstan.nextTicket ∧ s.wrapEvent.halyard = s.halyard := by
  have raised := s.raise_noted P.TimeStatus 0 0
  have halyard : (s.raise P.TimeStatus 0 0).halyard = s.halyard := by
    obtain ⟨_, _, _, _, _, h⟩ := raised
    rw [h]
  unfold State.wrapEvent
  exact ⟨(State.raiseIrq_keepsTickets ..).next.trans raised.keepsTickets.next, (State.leaveLuff_halyard _).trans halyard⟩

/-- An edge of the clock moves the ticket on by one, and drives no unit. -/
theorem State.tick_ticket (s : State) :
    s.tick.capstan.nextTicket = s.capstan.nextTicket + 1 ∧ s.tick.halyard.drives = s.halyard.drives := by
  unfold State.tick State.advance
  dsimp only
  generalize h : State.rtcAdvance _ 1 = u
  obtain ⟨_, _, eq⟩ := State.rtcAdvance_eq _ 1
  rw [h] at eq
  subst eq
  split
  · split
    · rw [(State.wrapEvent_ticket _).1, (State.wrapEvent_ticket _).2]
      exact ⟨rfl, rfl⟩
    · exact ⟨rfl, rfl⟩
  · exact ⟨rfl, rfl⟩

/-- Settling gives no ticket. -/
theorem State.nextTicket_settle (s : State) : s.settle.capstan.nextTicket = s.capstan.nextTicket := by
  have rest : s.settle.capstan.rest.nextTicket = s.capstan.rest.nextTicket := by rw [State.settle_capstan_rest]
  exact rest

/-- On an empty queue, with no unit driven, a step is the edge of the clock alone. -/
theorem step_of_idle (empty : s.pending = []) (rest : s.halyard.drives = []) :
    step s = done { s.tick with halyard := { s.tick.halyard with drives := [] } } := by
  unfold step
  rw [empty]
  show done s.idle = _
  unfold State.idle State.driveUnits
  rw [s.tick_ticket.2, rest]
  rfl

/-- Settles O59, clause by clause: the best of the eligible threads, none where none is eligible, the edge that moves the
ticket on, and the one ticket of the threads that an event readies. -/
theorem bestEligibleThread : Obligations.BestEligibleThread := by
  unfold Obligations.BestEligibleThread
  refine ⟨fun s c n u best => ?_, fun s c none x mem state allowed => ?_, fun s ⟨empty, rest⟩ => ?_,
    fun s code rising => ⟨_, rfl, fun m _ j _ listedJ listedM boundJ boundM waitsJ waitsM cancelled => ?_⟩⟩
  · obtain ⟨mem, may, first⟩ := bestFor_eq_some best
    obtain ⟨mem, allowed⟩ := List.mem_filter.mp mem
    obtain ⟨mem, state⟩ := State.mem_candidates.mp mem
    refine ⟨mem, state, may, allowed, fun x hx stateX allowedX mayX => ?_⟩
    exact first x (List.mem_filter.mpr ⟨State.mem_candidates.mpr ⟨hx, stateX⟩, allowedX⟩) mayX
  · exact bestFor_eq_none none x (List.mem_filter.mpr ⟨State.mem_candidates.mpr ⟨mem, state⟩, allowed⟩)
  · refine ⟨_, step_of_idle empty rest, ?_⟩
    rw [State.nextTicket_settle]
    exact s.tick_ticket.1
  · simp only [State.settle_thread]
    exact ⟨State.ticket_fireEvent rising listedJ boundJ waitsJ fun x hx => (cancelled x hx).1,
      State.ticket_fireEvent rising listedM boundM waitsM fun x hx => (cancelled x hx).2⟩

end Sys2Proof.Machine
end

section
namespace Sys2Proof.Machine

/-! ### A trap of an applet whose thread is listed twice (R385, R391) -/

/-- A device whose core 0 runs in user mode, and whose store of threads lists applet thread 224 twice: as Waiting, which
the number reads as, and as Ready. -/
def appletListedTwice : State :=
  let s := State.reset.setCore 0 { State.reset.core 0 with released := true, user := true }
  { s with
    power := { s.power with phase := .ready }
    capstan := { s.capstan with threads := [(224, { Thread.init with state := .waiting }),
                                            (224, { Thread.init with state := .ready })] } }

theorem exec_trap_of_runs {s : State} {core : Fin 4} (cause value pc : Word) (runs : s.coreRuns core = true) :
    exec (.trap core cause value pc) s = done (s.takeTrap core (s.core core).user cause value pc) :=
  congrArg done (if_pos runs)

/-- Refutes O52: after a trap in user mode every applet thread that waited is to be Dormant, but the clause does not ask
that the store list each thread once, as every reachable one does. In `appletListedTwice` the cancel makes the entry that
thread 224 reads as Dormant, and its second entry, still a candidate, puts it in the slot of core 0. -/
theorem not_trapsAndEnvironmentCalls : ¬ Obligations.TrapsAndEnvironmentCalls := by
  unfold Obligations.TrapsAndEnvironmentCalls
  rintro ⟨-, userTrap, -⟩
  have runs : appletListedTwice.coreRuns 0 = true := by decide +kernel
  have waits : (appletListedTwice.thread 224).state = .waiting := by decide +kernel
  obtain ⟨t, ht, -, -, -, -, -, -, -, -, -, -, dormant, -⟩ := userTrap appletListedTwice 0 0 0 0 ⟨runs, by decide +kernel⟩
  rw [exec_trap_of_runs _ _ _ runs] at ht
  obtain rfl := Host.Outcome.next.inj ht
  have cancelled := dormant 0 (by decide) (.inr (.inr waits))
  rw [State.settle_thread] at cancelled
  have slotted : ((appletListedTwice.takeTrap 0 (appletListedTwice.core 0).user 0 0 0).thread 224).state = .slotted := by
    decide +kernel
  exact absurd (slotted.symm.trans cancelled) (by decide)

end Sys2Proof.Machine
end

section
namespace Sys2Proof.Machine

/-! ### The elements that a trim code's parameter defines (R86, R332) -/

/-- The row of PB010 SinkTrim: 48 codes of 6 bits, at the mid code 32. -/
def sinkTrimRow : Row :=
  ⟨P.SinkTrim, .u8, .rwr, 48, 0, 2, 0, 63, 0xFF, 0, 32, false, false, false, .none, 0⟩

theorem row_sinkTrim : Dict.row P.SinkTrim = some sinkTrimRow := by decide +kernel

/-- Beyond the 48 sinks PB010 has no element, and what the store reads there after reset is 0. -/
theorem rd_reset_sinkTrim_beyond : State.reset.rd P.SinkTrim 48 = 0 := by decide +kernel

/-- Refutes O45: the clause on reset asks for the mid code in every element below 256, and PB010 SinkTrim defines 48 of
them. The store reads 0 for element 48. -/
theorem not_trimCodesAreVolatile : ¬ Obligations.TrimCodesAreVolatile := by
  unfold Obligations.TrimCodesAreVolatile
  rintro ⟨volatile, -⟩
  obtain ⟨-, -, atReset, -⟩ := volatile 0 sinkTrimRow row_sinkTrim
  have mid : State.reset.rd P.SinkTrim 48 = 32 := atReset 48 (by decide)
  rw [rd_reset_sinkTrim_beyond] at mid
  exact absurd mid (by decide)

end Sys2Proof.Machine
end

section
namespace Sys2Proof.Machine

variable {s t u : State}

/-! ### A granted write of a parameter that no partner mirrors -/

/-- The row of a write-only scalar of one element and every value, of a write level, that is neither stored nor
mirrored. -/
def commandRow (p : Nat) (ty : PType) (level hi : Nat) : Row :=
  ⟨p, ty, .wo, 1, 0, level, 0, hi, hi, 0, 0, false, false, false, .none, 0⟩

/-- What such a parameter's write does is its area's effect alone. -/
theorem State.writeElement_of_unmirrored {via : Via} {r : Row} {e : Nat} {v : Wide} {area : State × Byte}
    (split : s.writeElement via r e v = if area.2 = 0 then (area.1.mirrorWrite via r e v, 0) else area)
    (own : r.mirrored = false) : s.writeElement via r e v = area := by
  have unmirrored : area.1.mirrorWrite via r e v = area.1 := by
    unfold State.mirrorWrite
    rw [own]
    rfl
  rw [split, unmirrored]
  split
  · next ok => rw [← ok]
  · rfl

/-- A granted write, with the status that its effect gives. -/
theorem State.serveOne_eq_answerOne {rq : Requester} {p e v : Nat} {r : Row} {a : Byte} (row : Dict.row p = some r)
    (kind : r.num = p ∧ (r.ty ≠ .str ∧ r.ty ≠ .blob) ∧ p ≠ P.CueWrite) (granted : s.grants rq p e v = true)
    (effect : (s.arbitrate rq).writeElement (s.via rq) r e (BitVec.ofNat 64 v) = (u, a)) :
    s.serveOne rq p e v = u.answerOne rq a [] := by
  obtain ⟨num, scalar, cue⟩ := kind
  have one := s.serveOne_of_grants rq p e v r row num scalar cue granted
  rwa [State.arbitrate_via, effect] at one

/-- An answer without data fits the response of a granted write, where its effect leaves the room of a response. -/
theorem State.answer_of_granted {rq : Requester} {p e v : Nat} {a : Byte} (granted : s.grants rq p e v = true)
    (room : u.rd P.WdpMaxResponse 0 = s.rd P.WdpMaxResponse 0) : (u.answerOne rq a []).wdp.answer = ⟨a, []⟩ := by
  rw [State.answerOne_answer]
  rw [State.responseLimit_congr room]
  exact State.responseLimit_of_grants granted

/-- A granted write answers the status of its effect. What the effect leaves stands, the answer aside. -/
theorem completes_granted {c : Instr} {rq : Requester} {p e v : Nat} {r : Row} {a : Byte} {ps : List Nat}
    {es : List (Nat × Nat)} {fs : List Part} (act : exec c s = done (s.serveOne rq p e v)) (row : Dict.row p = some r)
    (kind : r.num = p ∧ (r.ty ≠ .str ∧ r.ty ≠ .blob) ∧ p ≠ P.CueWrite) (granted : s.grants rq p e v = true)
    (effect : (s.arbitrate rq).writeElement (s.via rq) r e (BitVec.ofNat 64 v) = (u, a))
    (frame : Frame ps es (.answer :: fs) (s.arbitrate rq) u)
    (room : P.WdpMaxResponse ∉ ps ∧ (P.WdpMaxResponse, 0) ∉ es) :
    Completes c s fun t => t.wdp.answer = ⟨a, []⟩ ∧ Frame [] [] [.answer] u t ∧ Frame ps es (.answer :: fs) s t := by
  have kept := (frame_arbitrate s rq _ _ _).trans frame
  have answered := (frame_answerOne u rq a).settle
  refine ⟨_, act.trans (congrArg done (State.serveOne_eq_answerOne row kind granted effect)), ?_, answered,
    kept.trans (answered.weaken (by simp) (by simp) (by simp))⟩
  rw [State.settle_wdp_answer]
  exact State.answer_of_granted granted (kept.rd (by decide) (by decide) room.1 room.2)

end Sys2Proof.Machine
end

section
namespace Sys2Proof.Machine

variable {s t u : State}

/-! ### Protection regions cover whole pages of 4 KiB (R384) -/

theorem le_trailingOnes : ∀ {n fuel v : Nat}, n ≤ fuel → v % 2 ^ n = 2 ^ n - 1 → n ≤ trailingOnes v fuel
  | 0, _, _, _, _ => Nat.zero_le _
  | n + 1, 0, _, h, _ => by omega
  | n + 1, fuel + 1, v, h, ones => by
    have positive : 0 < 2 ^ n := Nat.two_pow_pos n
    have split : (2 : Nat) ^ (n + 1) = 2 * 2 ^ n := by rw [Nat.pow_succ]; omega
    have low : v % (2 * 2 ^ n) = v % 2 + 2 * (v / 2 % 2 ^ n) := Nat.mod_mul
    rw [split] at ones
    have rest : v / 2 % 2 ^ n = 2 ^ n - 1 := by omega
    have odd : v % 2 = 1 := by omega
    unfold trailingOnes
    rw [if_pos odd]
    have := le_trailingOnes (fuel := fuel) (by omega) rest
    omega

theorem or_511_mod_512 (a : Nat) : (a ||| 511) % 2 ^ 9 = 2 ^ 9 - 1 := by
  refine Nat.eq_of_testBit_eq fun i => ?_
  rw [show 511 = 2 ^ 9 - 1 from rfl, Nat.testBit_mod_two_pow, Nat.testBit_or, Nat.testBit_two_pow_sub_one]
  cases decide (i < 9) <;> simp

/-- A region begins and ends at a boundary of its 4 KiB granularity. -/
theorem DeckCore.pmpRegion_dvd {k : DeckCore} {i lo hi : Nat} (h : k.pmpRegion i = some (lo, hi)) :
    4096 ∣ lo ∧ 4096 ∣ hi := by
  unfold DeckCore.pmpRegion at h
  split at h
  · simp only [Option.some.injEq, Prod.mk.injEq] at h
    obtain ⟨rfl, rfl⟩ := h
    refine ⟨?_, Nat.dvd_mul_left ..⟩
    split
    · exact Nat.dvd_zero _
    · exact Nat.dvd_mul_left ..
  · simp only [Option.some.injEq, Prod.mk.injEq] at h
    obtain ⟨rfl, rfl⟩ := h
    have whole : 4096 ∣ 2 ^ (trailingOnes ((k.rdCsr (Csr.pmpaddr + i)).toNat ||| 511) 32 + 3) := by
      have := le_trailingOnes (fuel := 32) (by decide) (or_511_mod_512 (k.rdCsr (Csr.pmpaddr + i)).toNat)
      exact Nat.pow_dvd_pow 2 (m := 12) (by omega)
    exact ⟨Nat.dvd_mul_left_of_dvd whole _, (Nat.dvd_add (Nat.dvd_mul_left_of_dvd whole _) whole)⟩
  · contradiction

/-- Region `i` covers an address. -/
def DeckCore.covers (k : DeckCore) (a i : Nat) : Bool := match k.pmpRegion i with
  | some (lo, hi) => decide (lo ≤ a) && decide (a < hi)
  | none => false

theorem DeckCore.pmpMatch_eq (k : DeckCore) (a : Nat) : k.pmpMatch a = (List.range 16).find? (k.covers a) := rfl

theorem DeckCore.covers_of_same_page {a b : Nat} (h : a / 4096 = b / 4096) (k : DeckCore) (i : Nat) :
    k.covers a i = k.covers b i := by
  unfold DeckCore.covers
  cases region : k.pmpRegion i with
  | none => rfl
  | some x =>
    obtain ⟨⟨m, hm⟩, n, hn⟩ := DeckCore.pmpRegion_dvd (lo := x.1) (hi := x.2) region
    have above : (x.1 ≤ a) = (x.1 ≤ b) := propext (by omega)
    have below : (a < x.2) = (b < x.2) := propext (by omega)
    simp only [above, below]

/-- What the regions grant is one for a whole page. -/
theorem DeckCore.allows_of_same_page {a b : Nat} (h : a / 4096 = b / 4096) (k : DeckCore) (user : Bool) (kind : Nat) :
    k.allows user a kind = k.allows user b kind := by
  unfold DeckCore.allows
  rw [DeckCore.pmpMatch_eq, DeckCore.pmpMatch_eq, funext (DeckCore.covers_of_same_page h k)]

theorem windowEnd_le_of_same_page {a b : Nat} (h : a / 4096 = b / 4096) (above : 1140850688 ≤ a) : 1140850688 ≤ b := by
  omega

/-- Aligned accesses to two words of one page of the window are granted alike. -/
theorem State.faults_of_same_page {rq : Requester} {p q v w : Nat} {store : Bool}
    (page : (p * 0x400 + v * 4) / 4096 = (q * 0x400 + w * 4) / 4096)
    (h : s.faults rq (wordAddr rq p v) store = false) : s.faults rq (wordAddr rq q w) store = false := by
  unfold State.faults at h ⊢
  unfold wordAddr windowBase windowEnd at *
  split
  · rename_i c m path
    rw [path] at h
    simp only [Bool.or_eq_false_iff, Bool.not_eq_false', Bool.and_eq_true, beq_iff_eq, decide_eq_false_iff_not] at h ⊢
    obtain ⟨⟨⟨aligned, width⟩, inside⟩, granted⟩ := h
    rw [aligned] at inside granted ⊢
    simp only [Fin.val_zero, Nat.add_zero] at inside granted ⊢
    have samePage : (1073741824 + p * 1024 + v * 4) / 4096 = (1073741824 + q * 1024 + w * 4) / 4096 := by omega
    have inside' := mt (windowEnd_le_of_same_page samePage.symm) inside
    rw [DeckCore.allows_of_same_page samePage] at granted
    exact ⟨⟨⟨trivial, width⟩, inside'⟩, granted⟩
  · rfl

end Sys2Proof.Machine
end

section
namespace Sys2Proof.Machine

variable {s t u : State}

/-! ### Pattern engines put in a state one after another (R318, R321) -/

/-- Put an engine in a state, or leave it. -/
def State.putEngine (s : State) (e : Nat) (x : Option Engine) : State := match x with
  | some x => s.setEngine e x
  | none => s

/-- The engines of a list are in the states that a plan gives, and nothing else has changed. -/
structure EnginesPut (plan : Nat → Option Engine) (l : List Nat) (s t : State) : Prop where
  rest : t = { s with masthead := { s.masthead with engines := t.masthead.engines } }
  engine : ∀ e, t.engine e = if e ∈ l then (plan e).getD (s.engine e) else s.engine e

theorem State.engine_setEngine (s : State) (n e : Nat) (x : Engine) :
    (s.setEngine n x).engine e = if e = n then x else s.engine e := by
  unfold State.engine State.setEngine State.setMast
  split
  · next h => rw [h]; exact SMap.get_set_same ..
  · next h => exact SMap.get_set_other _ _ _ _ _ _ h

theorem EnginesPut.put (plan : Nat → Option Engine) (e : Nat) (s : State) :
    EnginesPut plan [e] s (s.putEngine e (plan e)) := by
  unfold State.putEngine
  cases h : plan e with
  | none =>
    refine ⟨rfl, fun f => ?_⟩
    by_cases named : f = e
    · simp [named, h]
    · simp [named]
  | some x =>
    refine ⟨rfl, fun f => ?_⟩
    by_cases named : f = e
    · simp [named, h, State.engine_setEngine]
    · simp [named, State.engine_setEngine]

/-- A step for each engine of a list, by the plan that the dictionary's values give it. -/
theorem EnginesPut.foldl {plan : Nat → Option Engine} {f : State → Nat → State}
    (hf : ∀ u, u.regs = s.regs → ∀ e, f u e = u.putEngine e (plan e)) :
    ∀ (l : List Nat) {u : State}, u.regs = s.regs → l.Nodup → EnginesPut plan l u (l.foldl f u)
  | [], _, _, _ => ⟨rfl, fun _ => by simp⟩
  | e :: l, u, hu, nodup => by
    obtain ⟨apart, nodup⟩ := List.nodup_cons.mp nodup
    obtain ⟨rest, engine⟩ := EnginesPut.put plan e u
    rw [← hf u hu e] at rest engine
    have regs : (f u e).regs = s.regs := by rw [rest]; exact hu
    obtain ⟨rest', engine'⟩ := EnginesPut.foldl hf l regs nodup
    refine ⟨?_, fun i => ?_⟩
    · rw [List.foldl_cons, rest', rest]
    · rw [List.foldl_cons, engine', engine]
      by_cases h : i = e
      · subst h
        simp [apart]
      · simp [h]

theorem EnginesPut.frame {plan : Nat → Option Engine} {l : List Nat} (h : EnginesPut plan l s t) (ps : List Nat)
    (es : List (Nat × Nat)) {fs : List Part} (hf : .masthead ∈ fs) : Frame ps es fs s t := by
  rw [h.rest]
  exact (Frame.refl ..).setMast _ hf

theorem EnginesPut.masthead {plan : Nat → Option Engine} {l : List Nat} (h : EnginesPut plan l s t) :
    t.masthead = { s.masthead with engines := t.masthead.engines } := congrArg State.masthead h.rest

/-! ### The starts and stops -/

/-- An engine that starts: running from its entry point (R321). -/
def State.started (s : State) (e : Nat) : Engine :=
  { Engine.init with running := true, pc := s.fld P.EngineControl e 8 8 }

theorem State.started_congr (h : t.regs = s.regs) (e : Nat) : t.started e = s.started e := by
  unfold State.started State.fld
  rw [State.rd_congr h]

theorem State.startEngine_eq_put (h : t.regs = s.regs) (e : Nat) :
    t.startEngine e = t.putEngine e (if s.bit P.EngineControl e 0 then some (s.started e) else none) := by
  have same : t.bit P.EngineControl e 0 = s.bit P.EngineControl e 0 := State.bit_congr (State.rd_congr h _ _) 0
  unfold State.startEngine
  rw [same]
  split
  · exact congrArg (t.setEngine e) (State.started_congr h e)
  · rfl

/-- A start starts each enabled engine named whose StartOn is 0. -/
theorem enginesPut_startEngines (s : State) (v : Nat) :
    EnginesPut (fun e => if v.testBit e && s.fld P.EngineControl e 2 2 == 0 && s.bit P.EngineControl e 0
      then some (s.started e) else none) (List.range 8) s (s.startEngines v 0) := by
  refine EnginesPut.foldl (fun u hu e => ?_) _ rfl List.nodup_range
  have same : u.fld P.EngineControl e 2 2 = s.fld P.EngineControl e 2 2 := by unfold State.fld; rw [State.rd_congr hu]
  rw [Nat.zero_testBit, if_neg Bool.false_ne_true, same, State.startEngine_eq_put hu]
  cases v.testBit e && s.fld P.EngineControl e 2 2 == 0 with
  | true => rfl
  | false => rfl

/-- A stop returns each engine named. -/
theorem enginesPut_stopEngines (s : State) (v : Nat) :
    EnginesPut (fun e => if v.testBit e then some Engine.init else none) (List.range 8) s (s.stopEngines v) := by
  refine EnginesPut.foldl (fun u _ e => ?_) _ rfl List.nodup_range
  split
  · rfl
  · rfl

/-- When the show is lost the enabled engines with StartOn 2 start. -/
theorem enginesPut_enginesOn (h : t.regs = s.regs) (code : Nat) :
    EnginesPut (fun e => if s.bit P.EngineControl e 0 then some (s.started e) else none) (s.enginesOn code) t
      ((s.enginesOn code).foldl State.startEngine t) :=
  EnginesPut.foldl (fun _ hu e => State.startEngine_eq_put hu e) _ h (List.nodup_range.filter _)

/-! ### The commands -/

theorem row_engineStart : Dict.row P.EngineStart = some (commandRow P.EngineStart .u8 1 255) := by decide +kernel

theorem row_engineStop : Dict.row P.EngineStop = some (commandRow P.EngineStop .u8 1 255) := by decide +kernel

/-- An engine that a plan over all of them leaves out stands. -/
theorem EnginesPut.engine_lt {plan : Nat → Option Engine} (h : EnginesPut plan (List.range 8) s t) {e : Nat}
    (he : e < 8) : t.engine e = (plan e).getD (s.engine e) := by
  rw [h.engine, if_pos (List.mem_range.mpr he)]

/-- The arbiter's turn plays no part in what the engines are. -/
theorem State.arbitrate_masthead (s : State) (rq : Requester) : (s.arbitrate rq).masthead = s.masthead := by
  obtain ⟨n, hn⟩ := s.arbitrate_eq rq
  rw [hn]

theorem State.engine_congr (h : t.masthead = s.masthead) (e : Nat) : t.engine e = s.engine e := by
  unfold State.engine
  rw [h]

theorem State.fld_congr {p e lo n : Nat} (h : t.rd p e = s.rd p e) : t.fld p e lo n = s.fld p e lo n := by
  unfold State.fld
  rw [h]

theorem State.writeElement_engineStop (s : State) (via : Via) (v : Wide) :
    s.writeElement via (commandRow P.EngineStop .u8 1 255) 0 v = (s.stopEngines v.toNat, 0) :=
  State.writeElement_of_unmirrored rfl rfl

theorem State.writeElement_engineStart (s : State) (via : Via) (v : Wide) :
    s.writeElement via (commandRow P.EngineStart .u8 1 255) 0 v = (s.startEngines v.toNat 0, 0) :=
  State.writeElement_of_unmirrored rfl rfl

/-- A granted write of EngineStop stops each engine named. -/
theorem completes_engineStop {rq : Requester} {value : Byte}
    (granted : s.grants rq P.EngineStop 0 value.toNat = true) :
    Completes (.engineStop rq value) s fun t => t.wdp.answer = ⟨0, []⟩ ∧
      (∀ e < 8, t.engine e = if value.getLsbD e then Engine.init else s.engine e) ∧
      t.masthead = { s.masthead with engines := t.masthead.engines } ∧ Frame [] [] [.answer, .masthead] s t := by
  have put := enginesPut_stopEngines (s.arbitrate rq) (BitVec.ofNat 64 value.toNat).toNat
  obtain ⟨t, ht, answer, ⟨-, parts⟩, frame⟩ := completes_granted (c := .engineStop rq value) rfl row_engineStop
    (by decide) granted (State.writeElement_engineStop ..) (put.frame [] [] (fs := [.answer, .masthead]) (by decide))
    (by decide)
  have masthead := parts.masthead (by decide)
  refine ⟨t, ht, answer, fun e he => ?_, ?_, frame⟩
  · rw [State.engine_congr masthead, put.engine_lt he, toNat_ofNat_byte, State.engine_congr (s.arbitrate_masthead rq)]
    show (if value.getLsbD e = true then some Engine.init else none).getD _ = _
    split
    · rfl
    · rfl
  · rw [masthead, put.masthead, State.arbitrate_masthead]

/-- What a granted write has passed before its own effect. -/
theorem State.of_grants {rq : Requester} {p e v : Nat} (h : s.grants rq p e v = true) :
    s.pathServes rq = true ∧ s.sessionOk rq = true ∧ s.storeFaults rq p e = false := by
  unfold State.grants at h
  split at h
  · contradiction
  · simp only [Bool.and_eq_true, Bool.not_eq_true'] at h
    obtain ⟨⟨⟨⟨⟨⟨⟨⟨⟨serves, session⟩, faults⟩, -⟩, -⟩, -⟩, -⟩, -⟩, -⟩, -⟩ := h
    exact ⟨serves, session, faults⟩

/-- An answer without data that fits is the answer alone. -/
theorem State.answerOne_eq_answer {rq : Requester} (a : Byte) (room : 40 ≤ s.responseLimit rq) :
    s.answerOne rq a [] = s.answer a [] := by
  unfold State.answerOne
  dsimp only
  rw [if_neg]
  rw [show (pad4 []).length = 0 from rfl]
  split <;> omega

/-- A granted write of EngineStart moves the engines, the answer and the clock's note. -/
theorem State.serveOne_engineStart_eq {rq : Requester} {value : Byte}
    (granted : s.grants rq P.EngineStart 0 value.toNat = true) :
    ∃ now engines, s.serveOne rq P.EngineStart 0 value.toNat = { s with
        now := now
        masthead := { s.masthead with engines := engines }
        wdp := { s.wdp with answer := ⟨0, []⟩ } } ∧
      engines = ((s.arbitrate rq).startEngines value.toNat 0).masthead.engines := by
  have put := enginesPut_startEngines (s.arbitrate rq) value.toNat
  have one := State.serveOne_eq_answerOne row_engineStart (by decide) granted (State.writeElement_engineStart ..)
  have room := ((frame_arbitrate s rq _ _ _).trans (put.frame [] [] (fs := [.masthead]) (by decide))).rd
    (q := P.WdpMaxResponse) (f := 0) (by decide) (by decide) (by decide) (by decide)
  have fits := State.responseLimit_congr room rq ▸ State.responseLimit_of_grants granted
  obtain ⟨now, arbitrated⟩ := s.arbitrate_eq rq
  rw [toNat_ofNat_byte, State.answerOne_eq_answer 0 fits, put.rest] at one
  refine ⟨now, _, one.trans ?_, rfl⟩
  rw [arbitrated]
  rfl

/-- A store to EngineStop is granted where one to EngineStart is: their words stand in one page of the window. -/
theorem State.faults_engineStop_of_engineStart {rq : Requester} (h : s.storeFaults rq P.EngineStart 0 = false) :
    s.faults rq (wordAddr rq P.EngineStop 0) true = false := by
  have word : pageWord P.EngineStart 0 = 0 := by decide +kernel
  unfold State.storeFaults at h
  rw [word] at h
  exact State.faults_of_same_page (by decide) h

/-- A granted write of EngineStart starts each enabled engine named whose StartOn is 0; a stop of the same clock that may
be made prevails. -/
theorem completes_engineStart {rq : Requester} {value stopped : Byte}
    (granted : s.grants rq P.EngineStart 0 value.toNat = true) (permitted : s.permits rq P.EngineStop = true) :
    Completes (.engineStart rq value stopped) s fun t =>
      (∀ e < 8, t.engine e = if stopped.getLsbD e then Engine.init
        else if value.getLsbD e && s.fld P.EngineControl e 2 2 == 0 && s.bit P.EngineControl e 0 then s.started e
        else s.engine e) ∧
      t.masthead = { s.masthead with engines := t.masthead.engines } ∧ t.wdp.answer = ⟨0, []⟩ ∧
      Frame [] [] [.answer, .masthead] s t := by
  obtain ⟨serves, session, faults⟩ := State.of_grants granted
  have start := enginesPut_startEngines (s.arbitrate rq) value.toNat
  obtain ⟨now, engines, one, started⟩ := State.serveOne_engineStart_eq granted
  generalize served : s.serveOne rq P.EngineStart 0 value.toNat = w at one
  have stop := enginesPut_stopEngines w stopped.toNat
  have allowed : (w.permits rq P.EngineStop && w.pathServes rq && w.sessionOk rq &&
      !w.faults rq (wordAddr rq P.EngineStop 0) true) = true := by
    have same : (w.permits rq P.EngineStop && w.pathServes rq && w.sessionOk rq &&
        !w.faults rq (wordAddr rq P.EngineStop 0) true) = (s.permits rq P.EngineStop && s.pathServes rq &&
        s.sessionOk rq && !s.faults rq (wordAddr rq P.EngineStop 0) true) := by
      rw [one]
      rfl
    rw [same, permitted, serves, session, State.faults_engineStop_of_engineStart faults]
    rfl
  have act : exec (.engineStart rq value stopped) s = done (w.stopEngines stopped.toNat) := by
    rw [← served] at allowed ⊢
    exact congrArg done (if_pos allowed)
  have moved : Frame [] [] [.answer, .masthead] s w := by
    rw [one]
    exact (((Frame.refl ..).now now).setMast _ (by decide)).answer _ _ (by decide)
  have wEngine : ∀ e, w.engine e = ((s.arbitrate rq).startEngines value.toNat 0).engine e := fun e => by
    rw [one]
    show SMap.get _ engines e = _
    rw [started]
    rfl
  refine ⟨_, act, fun e he => ?_, ?_, ?_, (moved.trans (stop.frame _ _ (by decide))).settle⟩
  · rw [State.engine_congr (State.settle_masthead _), stop.engine_lt he]
    rw [wEngine, start.engine_lt he, State.engine_congr (s.arbitrate_masthead rq)]
    rw [State.fld_congr (State.rd_congr (s.arbitrate_regs rq) _ _)]
    rw [State.bit_congr (State.rd_congr (s.arbitrate_regs rq) _ _), State.started_congr (s.arbitrate_regs rq)]
    show (if stopped.getLsbD e = true then some Engine.init else none).getD _ = _
    split
    · rfl
    · show (if (value.getLsbD e && _ && _) = true then some _ else none).getD _ = _
      split
      · rfl
      · rfl
  · rw [State.settle_masthead, stop.masthead, one]
  · rw [State.settle_wdp_answer, stop.rest, one]

/-- When the show is lost the engines with StartOn 2 start, once. -/
theorem completes_showLossTimeout (runs : s.lampRuns = true) (elements : s.lampRaster = false)
    (first : s.masthead.showLost = false) : Completes .showLossTimeout s fun t => t.masthead.showLost = true ∧
      (∀ e < 8, t.engine e = if s.fld P.EngineControl e 2 2 == 2 && s.bit P.EngineControl e 0 then s.started e
        else s.engine e) ∧
      t.masthead = { s.masthead with engines := t.masthead.engines, showLost := true } ∧ Frame [] [] [.masthead] s t := by
  have put := enginesPut_enginesOn (s := s) (t := s.setMast { s.masthead with showLost := true }) rfl 2
  have act : exec .showLossTimeout s = done ((s.enginesOn 2).foldl State.startEngine
      (s.setMast { s.masthead with showLost := true })) :=
    if_pos (by rw [runs, elements, first]; rfl)
  have lost := (Frame.refl [] [] [.masthead] s).setMast { s.masthead with showLost := true } (by decide)
  refine ⟨_, act, ?_, fun e he => ?_, ?_, (lost.trans (put.frame _ _ (by decide))).settle⟩
  · rw [State.settle_masthead, put.masthead]
    rfl
  · rw [State.engine_congr (State.settle_masthead _), put.engine]
    have on : e ∈ s.enginesOn 2 ↔ (s.fld P.EngineControl e 2 2 == 2) = true := by
      simp [State.enginesOn, he]
    by_cases code : (s.fld P.EngineControl e 2 2 == 2) = true
    · rw [if_pos (on.mpr code), code, Bool.true_and]
      split
      · rfl
      · rfl
    · rw [if_neg (mt on.mp code), Bool.eq_false_iff.mpr code, Bool.false_and]
      rfl
  · rw [State.settle_masthead, put.masthead]
    rfl

/-- Settles O42, clause by clause: the start, the stop, the loss of the show, and a timeout that does nothing. -/
theorem patternEngines : Obligations.PatternEngines := by
  unfold Obligations.PatternEngines
  refine ⟨fun s rq value stopped ⟨granted, permitted⟩ => ?_, fun s rq value granted => ?_,
    fun s ⟨runs, elements, first⟩ => completes_showLossTimeout runs elements first, fun s idle => ?_⟩
  · obtain ⟨t, ht, engines, masthead, answer, frame⟩ := completes_engineStart (stopped := stopped) granted permitted
    exact ⟨t, ht, engines, masthead, answer, frame.weaken (by simp) (by simp) (by simp)⟩
  · obtain ⟨t, ht, answer, engines, masthead, frame⟩ := completes_engineStop granted
    exact ⟨t, ht, answer, engines, masthead, frame.weaken (by simp) (by simp) (by simp)⟩
  · have still : (s.lampRuns && !s.lampRaster && !s.masthead.showLost) = false := by
      rcases idle with h | h | h <;> simp [h]
    have act : exec .showLossTimeout s = done s := if_neg (by rw [still]; exact Bool.false_ne_true)
    exact ⟨_, act, (Frame.refl ..).settle⟩

end Sys2Proof.Machine
end

section
namespace Sys2Proof.Machine

/-! ### A frame that wakes the device from Reefed (R73, R295) -/

/-- A device in Reefed that shroud port 0 may wake: its link is up, and its pattern 0 takes the first byte of a frame, which
is to be 0. -/
def reefedListener : State :=
  let s := { State.reset with power := { State.reset.power with phase := .ready, sleep := .reefed } }
  let s := (s.setBit P.LinkStatus 0 0 true).setBit P.PhyControl 0 0 true
  let s := (s.setBit P.WakeEnable 0 0 true).wr P.ShroudMaxFrame 0 1522
  ((s.setPatternWord 0 0 0 1).setPatternWord 0 0 1 1).setPatternWord 0 0 5 ((crc16 [0]).setWidth 64)

/-- A frame of 64 zeros. -/
def zeroFrame : List Byte := List.replicate 64 0

/-- The wake from Reefed that the frame begins shows in PowerStatus. -/
theorem reefedListener_wakes :
    (reefedListener.receiveShroud 0 zeroFrame true 0 0).rd P.PowerStatus 0 ≠ reefedListener.rd P.PowerStatus 0 := by
  decide +kernel

/-- Refutes O38: the frame of an accepted frame names the counters and the state of the ports but not PowerStatus and WakePort, which the wake event of R295 writes. In Reefed a port whose pattern matches hears the frame, counts it
and begins the wake. -/
theorem not_shroudLinksAndReception : ¬ Obligations.ShroudLinksAndReception := by
  unfold Obligations.ShroudLinksAndReception
  rintro ⟨-, -, -, -, -, -, -, accepted, -⟩
  obtain ⟨t, ht, -, -, -, -, same, -⟩ := accepted reefedListener 0 zeroFrame true 0 0 (by decide +kernel)
  have next : exec (.shroudFrameReceived 0 zeroFrame true 0 0) reefedListener =
      done (reefedListener.receiveShroud 0 zeroFrame true 0 0) := rfl
  obtain rfl := Host.Outcome.next.inj (next.symm.trans ht)
  have kept := same P.PowerStatus 0 (by decide) (by decide) (by decide) (by decide)
  exact reefedListener_wakes ((State.rd_settle _ P.PowerStatus 0 (by decide)).symm.trans kept)

end Sys2Proof.Machine
end

section
namespace Sys2Proof.Machine

/-! ### An anchor sent while KeyExpired is set (R340, R346) -/

/-- An active Kite whose key index reads 3, as no write of TxKeyIndex leaves it: element 2 of KeyEra, which has two
elements, gives the present era and serves with KeyB, while the eras of the two keys are another. -/
def straySender : State :=
  let s := { State.reset with power := { State.reset.power with phase := .ready, sleep := .run } }
  let s := (s.setBit P.KiteControl 0 0 true).setBit P.PllLockStatus 0 0 true
  let s := (s.setFld P.TwinStatus 0 24 2 Role.active.code).wr P.TimeState 0 (BitVec.ofNat 64 Ts.locked)
  let s := ((s.wr P.KeyEra 0 9).wr P.KeyEra 1 9).wr P.TxKeyIndex 0 3
  s.setBlob P.KeyB (List.replicate 16 0)

/-- The bit that the anchor's check of the era shows. -/
theorem straySender_expired : (straySender.ownCommand 7 State.sendAnchor).bit P.KiteStatus 0 4 = true := by
  decide +kernel

/-- Refutes O46: an anchor that goes on air under a key is to leave KeyExpired clear, but the clause does not ask that the
key index name one of the two keys, as every write of TxKeyIndex is held to. In `straySender` neither key is of the
present era and the sender finds one all the same. -/
theorem not_kiteSending : ¬ Obligations.KiteSending := by
  unfold Obligations.KiteSending
  rintro ⟨anchor, -⟩
  obtain ⟨t, ht, -, -, -, -, -, -, -, clear, -⟩ := anchor straySender 3 (by decide +kernel)
  have next : exec .kiteAnchor straySender = done (straySender.ownCommand 7 State.sendAnchor) := rfl
  obtain rfl := Host.Outcome.next.inj (next.symm.trans ht)
  have kept := State.bit_congr (State.rd_settle (straySender.ownCommand 7 State.sendAnchor) P.KiteStatus 0 (by decide)) 4
  rw [kept, straySender_expired] at clear
  exact absurd clear (by decide)

end Sys2Proof.Machine
end

section
namespace Sys2Proof.Machine

/-! ### A counter that does not saturate (R11) -/

/-- A count of `n` below the top of a 32-bit counter. -/
theorem toNat_counted_lt {v : Wide} {n : Nat} (h : v.toNat + n < 0xFFFFFFFF) : (counted v n).toNat = v.toNat + n := by
  unfold counted counterMax
  split
  · omega
  · split
    · omega
    · rw [BitVec.toNat_ofNat]
      omega

/-- A counter that does not reach its top counts by `n`. -/
theorem State.rdN_countBy_lt {p e n : Nat} (s : State) (hp : p ∉ housekeeping) (h : s.rdN p e + n < 0xFFFFFFFF) :
    (s.countBy p e n).rdN p e = s.rdN p e + n := by
  unfold State.rdN at *
  rw [State.rd_countBy_same _ _ _ _ hp, toNat_counted_lt h]

/-- A counter that does not reach its top counts by one, whatever was done beside it, and the end of the command leaves
it. -/
theorem rdN_settle_count {s u : State} {p e : Nat} (hp : p ∉ housekeeping) (same : u.rd p e = s.rd p e)
    (h : s.rdN p e < 0xFFFFFFFE) : (u.count p e).settle.rdN p e = s.rdN p e + 1 := by
  have below : u.rdN p e + 1 < 0xFFFFFFFF := by
    unfold State.rdN at *
    rw [same]
    omega
  have counts := u.rdN_countBy_lt hp below
  unfold State.rdN at *
  rw [State.rd_settle _ _ _ hp, ← same]
  exact counts

/-- A traffic counter counts by `n`. -/
theorem State.rd_traffic_same (s : State) (p e n : Nat) : (s.traffic p e n).rd p e = s.rd p e + BitVec.ofNat 64 n :=
  State.rd_wr_same _ _ _ _

theorem State.rd_traffic_param (s : State) (p e n q f : Nat) (h : q ≠ p) : (s.traffic p e n).rd q f = s.rd q f :=
  State.rd_wr_param _ _ _ _ _ _ h

theorem Frame.traffic {ps : List Nat} {es : List (Nat × Nat)} {fs : List Part} {t : State} (p e n : Nat)
    (h : Frame ps es fs s t) (hp : p ∈ ps ∨ p ∈ housekeeping ∨ (p, e % 256) ∈ es) : Frame ps es fs s (t.traffic p e n) :=
  Frame.wr _ _ _ (h.quiet (State.tally_quiet ..) (KeepsRegs.of_regs rfl)) hp

end Sys2Proof.Machine
end

section
namespace Sys2Proof.Machine

variable {s t u : State}

/-! ### What Kite's decisions rest on (R340 to R347) -/

/-- `t` holds every dictionary value of `s` but those of `l`, its time, its power state and its bodies: on these rest the
decisions of Kite. -/
structure SensesAs (l : List Nat) (s t : State) : Prop where
  rd : ∀ p e, p ∉ l → t.rd p e = s.rd p e
  power : t.power = s.power
  halyard : t.halyard = s.halyard
  blobs : t.blobs = s.blobs
  clock : t.clock = s.clock

/-- What a frame that Kite hears changes of the dictionary (R342). -/
def heardParams : List Nat := [P.KiteStatus, P.RxFrameCount_PC041]

theorem SensesAs.rdN {l : List Nat} (h : SensesAs l s t) {p : Nat} (hp : p ∉ l) (e : Nat) : t.rdN p e = s.rdN p e := by
  rw [State.rdN, h.rd _ _ hp, State.rdN]

theorem SensesAs.bit {l : List Nat} (h : SensesAs l s t) {p : Nat} (hp : p ∉ l) (e i : Nat) : t.bit p e i = s.bit p e i :=
  State.bit_congr (h.rd _ _ hp) i

theorem SensesAs.fld {l : List Nat} (h : SensesAs l s t) {p : Nat} (hp : p ∉ l) (e lo n : Nat) :
    t.fld p e lo n = s.fld p e lo n :=
  State.fld_congr (h.rd _ _ hp)

theorem SensesAs.tns {l : List Nat} (h : SensesAs l s t) : t.tns = s.tns := by
  rw [State.tns, h.halyard, State.tns]

theorem SensesAs.blob {l : List Nat} (h : SensesAs l s t) (p : Nat) : t.blob p = s.blob p := by
  rw [State.blob, h.blobs, State.blob]

theorem SensesAs.fullTime (h : SensesAs heardParams s t) : t.fullTime = s.fullTime := by
  simp only [State.fullTime, State.fullOf, h.tns, h.rdN (p := P.WrapCount) (by decide),
    h.bit (p := P.TimeStatus) (by decide)]

theorem SensesAs.keyExpired (h : SensesAs heardParams s t) : t.keyExpired = s.keyExpired := by
  simp only [State.keyExpired, h.fullTime, h.rdN (p := P.KeyEra) (by decide), h.bit (p := P.KiteControl) (by decide)]

theorem SensesAs.role (h : SensesAs heardParams s t) : t.role = s.role := by
  simp only [State.role, h.fld (p := P.TwinStatus) (by decide)]

theorem SensesAs.timeState (h : SensesAs heardParams s t) : t.timeState = s.timeState := by
  simp only [State.timeState, h.rdN (p := P.TimeState) (by decide)]

theorem SensesAs.kiteRuns (h : SensesAs heardParams s t) : t.kiteRuns = s.kiteRuns := by
  simp only [State.kiteRuns, State.kiteOn, State.serving, State.stayActive, h.power,
    h.bit (p := P.KiteControl) (by decide), h.bit (p := P.PllLockStatus) (by decide)]

theorem SensesAs.anchors (h : SensesAs heardParams s t) : t.anchors = s.anchors := by
  simp only [State.anchors, State.commands, h.kiteRuns, h.role, h.timeState]

theorem SensesAs.reachesAnchor (h : SensesAs heardParams s t) (e ns lead : Nat) :
    t.reachesAnchor e ns lead = s.reachesAnchor e ns lead := by
  simp only [State.reachesAnchor, State.nextAnchor, State.anchorPeriod, State.anchorOffset, State.hubPsdu, h.anchors,
    h.rdN (p := P.AnchorInterval) (by decide), h.rdN (p := P.AnchorOffset) (by decide),
    h.rdN (p := P.SecurityLevel) (by decide)]
  rfl

theorem SensesAs.kiteCheck (h : SensesAs heardParams s t) (x : KiteIn) (reefed : Bool) :
    t.kiteCheck x reefed = s.kiteCheck x reefed := by
  simp only [State.kiteCheck, State.keyIn, State.kiteKey, State.partnerExt, h.fullTime, h.tns, h.blob,
    h.rdN (p := P.KeyEra) (by decide), h.rdN (p := P.AcceptWindow) (by decide)]
  rfl

/-! ### A frame that Kite hears (R342) -/

/-- The strength of a frame is shown. -/
def State.shownStrength (s : State) (rssi : Byte) : State := s.setFld P.KiteStatus 0 8 8 rssi.toNat

/-- The strength of a frame is shown, and the frame counts. -/
def State.heard (s : State) (rssi : Byte) : State := (s.shownStrength rssi).traffic P.RxFrameCount_PC041 0 1

theorem State.heard_kite (s : State) (rssi : Byte) : (s.heard rssi).kite = s.kite := rfl

theorem State.heard_senses (s : State) (rssi : Byte) : SensesAs heardParams s (s.heard rssi) where
  rd p e hp := by
    obtain ⟨status, count⟩ := not_or.mp (List.mem_cons.not.mp hp)
    rw [State.heard, State.rd_traffic_param _ _ _ _ _ _ (fun h => count (List.mem_singleton.mpr h)),
      State.shownStrength, State.rd_setFld_param _ _ _ _ _ _ _ _ status]
  power := rfl
  halyard := rfl
  blobs := rfl
  clock := rfl

theorem State.frame_heard (s : State) (rssi : Byte) :
    Frame [] [(P.KiteStatus, 0), (P.RxFrameCount_PC041, 0)] [] s (s.heard rssi) :=
  ((Frame.refl ..).setFld _ _ _ _ _ (by decide)).traffic _ _ _ (by decide)

theorem toNat_lt_byte (x : Byte) : x.toNat % 2 ^ 8 = x.toNat := Nat.mod_eq_of_lt x.isLt

theorem State.fld_shownStrength (s : State) (rssi : Byte) : (s.shownStrength rssi).fld P.KiteStatus 0 8 8 = rssi.toNat := by
  rw [State.shownStrength, State.fld_setFld_same _ _ _ _ _ _ (by decide), toNat_lt_byte]

theorem State.fld_heard (s : State) (rssi : Byte) : (s.heard rssi).fld P.KiteStatus 0 8 8 = rssi.toNat := by
  rw [State.heard, State.fld_congr (State.rd_traffic_param _ _ _ _ _ _ (by decide)), State.fld_shownStrength]

theorem State.rd_heard_count (s : State) (rssi : Byte) :
    (s.heard rssi).rd P.RxFrameCount_PC041 0 = s.rd P.RxFrameCount_PC041 0 + 1 := by
  rw [State.heard, State.rd_traffic_same, State.shownStrength, State.rd_setFld_param _ _ _ _ _ _ _ _ (by decide)]
  rfl

/-! ### The checks of a frame after its acknowledgement -/

/-- What is done with a frame that has counted: an acknowledgement ends the wait, a data frame of the subset to the hub is
taken, and another is discarded. -/
def State.kiteTake (s : State) (b : List Byte) : State :=
  let x := KiteIn.ofPsdu b
  if x.isAck b.length && s.kiteRuns then
    match s.kite.awaiting with
    | some f => if f.seq = x.seq then s.setKite { s.kite with awaiting := none } else s
    | none => s
  else if x.supported b.length && x.pan == s.rdN P.PanId 0 && (x.dest == 0xFFFF || x.dest == s.rdN P.ShortAddress 0) then
    s.kiteData x
  else s.count P.RxDiscardCount 0

/-- A data frame is acknowledged before the other checks (R342). -/
def State.kiteAnswer (s : State) (b : List Byte) : State :=
  if (KiteIn.ofPsdu b).isData b.length then s.kiteAck (KiteIn.ofPsdu b) else s

theorem State.receiveKite_of_runs (runs : s.kiteRuns = true) (b : List Byte) (rssi : Byte) :
    s.receiveKite b true rssi = ((s.heard rssi).kiteAnswer b).kiteTake b := by
  unfold State.receiveKite
  rw [runs]
  rfl

theorem State.receiveKite_of_bad (runs : s.kiteRuns = true) (b : List Byte) (rssi : Byte) :
    s.receiveKite b false rssi = s.shownStrength rssi := by
  unfold State.receiveKite
  rw [runs]
  rfl

theorem State.receiveKite_of_deaf (off : s.kiteRuns = false) (deaf : s.kiteListens = false) (b : List Byte)
    (fcsOk : Bool) (rssi : Byte) : s.receiveKite b fcsOk rssi = s := by
  unfold State.receiveKite
  rw [off, deaf]
  rfl

/-- A frame that is no data frame, or does not ask for it, is not acknowledged. -/
theorem State.kiteAnswer_of_unasked {b : List Byte}
    (unasked : (KiteIn.ofPsdu b).isData b.length = false ∨ (KiteIn.ofPsdu b).control / 32 % 2 = 0) : s.kiteAnswer b = s := by
  unfold State.kiteAnswer
  rcases unasked with data | asks
  · rw [data]
    rfl
  · split
    · unfold State.kiteAck
      rw [asks]
      rfl
    · rfl

theorem KiteIn.isAck_of_length {x : KiteIn} {n : Nat} (h : n ≠ 5) : x.isAck n = false := by
  simp [KiteIn.isAck, h]

theorem KiteIn.length_of_isAck {x : KiteIn} {n : Nat} (h : x.isAck n = true) : n = 5 := by
  simp only [KiteIn.isAck, Bool.and_eq_true, beq_iff_eq] at h
  exact h.1.1.1

theorem KiteIn.isData_of_short {x : KiteIn} {n : Nat} (h : n < 11) : x.isData n = false := by
  simp [KiteIn.isData, Nat.not_le.mpr h]

theorem KiteIn.length_of_isData {x : KiteIn} {n : Nat} (h : x.isData n = true) : 11 ≤ n := by
  by_contra short
  rw [KiteIn.isData_of_short (Nat.not_le.mp short)] at h
  exact Bool.false_ne_true h

/-- An acknowledgement with the number of the frame that waits ends the wait (R343). -/
theorem State.kiteTake_of_ack {b : List Byte} (runs : s.kiteRuns = true) (ack : (KiteIn.ofPsdu b).isAck b.length = true)
    {f : KiteOut} (waits : s.kite.awaiting = some f) : s.kiteTake b =
      s.setKite { s.kite with awaiting := if (KiteIn.ofPsdu b).seq = f.seq then none else some f } := by
  unfold State.kiteTake
  dsimp only
  rw [ack, runs, waits, if_pos (show (true && true) = true from rfl)]
  dsimp only
  by_cases same : f.seq = (KiteIn.ofPsdu b).seq
  · rw [if_pos same, if_pos same.symm]
  · rw [if_neg same, if_neg (Ne.symm same), ← waits]
    rfl

theorem State.kiteTake_of_foreign {b : List Byte} (ack : (KiteIn.ofPsdu b).isAck b.length = false)
    (unsupported : (KiteIn.ofPsdu b).supported b.length = false) : s.kiteTake b = s.count P.RxDiscardCount 0 := by
  unfold State.kiteTake
  dsimp only
  rw [ack, unsupported]
  rfl

/-- A data frame of the subset, in the hub's PAN and for the hub or all. -/
structure ForHub (s : State) (b : List Byte) : Prop where
  noAck : b.length ≠ 5
  supported : (KiteIn.ofPsdu b).supported b.length = true
  pan : (KiteIn.ofPsdu b).pan = s.rdN P.PanId 0
  dest : (KiteIn.ofPsdu b).dest = 0xFFFF ∨ (KiteIn.ofPsdu b).dest = s.rdN P.ShortAddress 0

theorem ForHub.heard {b : List Byte} (h : ForHub s b) (rssi : Byte) : ForHub (s.heard rssi) b where
  noAck := h.noAck
  supported := h.supported
  pan := h.pan.trans ((s.heard_senses rssi).rdN (by decide) 0).symm
  dest := h.dest.imp_right fun d => d.trans ((s.heard_senses rssi).rdN (by decide) 0).symm

theorem State.kiteTake_of_forHub {b : List Byte} (h : ForHub s b) : s.kiteTake b = s.kiteData (KiteIn.ofPsdu b) := by
  unfold State.kiteTake
  dsimp only
  rw [KiteIn.isAck_of_length h.noAck, h.supported, beq_iff_eq.mpr h.pan, Bool.false_and, if_neg Bool.false_ne_true,
    if_pos]
  rcases h.dest with d | d
  · rw [d]
    rfl
  · rw [beq_iff_eq.mpr d, Bool.or_true]
    rfl

/-! ### The security check and the recent-frame cache (R343, R345) -/

theorem State.kiteCheck_counts {x : KiteIn} {reefed : Bool} {c : Nat} (h : s.kiteCheck x reefed = .inl c) :
    c ∈ [P.RxDiscardCount, P.UnknownSourceCount, P.MicFailCount, P.StaleTagCount] := by
  unfold State.kiteCheck at h
  dsimp only at h
  generalize (if eraOf s.fullTime = 0 then [0] else _ : List Nat) = eras at h
  split at h
  · obtain rfl := Sum.inl.inj h
    decide
  split at h
  · obtain rfl := Sum.inl.inj h
    decide
  split at h
  · obtain rfl := Sum.inl.inj h
    decide
  split at h
  · obtain rfl := Sum.inl.inj h
    decide
  split at h
  · obtain rfl := Sum.inl.inj h
    decide
  · exact absurd h Sum.inr_ne_inl

theorem State.kiteData_of_refused {x : KiteIn} {c : Nat} (runs : s.kiteRuns = true) (h : s.kiteCheck x false = .inl c) :
    s.kiteData x = s.count c 0 := by
  unfold State.kiteData
  dsimp only
  rw [runs, Bool.not_true, h]

/-- The frame is in the recent-frame cache. -/
def State.recalls (s : State) (x : KiteIn) : Bool := s.cacheAged.any fun c => c.1 == x.src && c.2.1 == x.seq

theorem State.kiteData_of_recalled {x : KiteIn} {m : List Byte} (runs : s.kiteRuns = true)
    (h : s.kiteCheck x false = .inr m) (again : s.recalls x = true) :
    s.kiteData x = (s.setKite { s.kite with cache := s.cacheAged }).count P.DuplicateCount_PC052 0 := by
  unfold State.kiteData
  dsimp only
  rw [runs, Bool.not_true, h]
  exact if_pos again

/-- The cache takes a frame. -/
def State.remember (s : State) (x : KiteIn) : State :=
  s.setKite { s.kite with cache := ((x.src, x.seq, s.clock) :: s.cacheAged).take 16 }

/-- A frame that the cache takes counts as discarded where its payload is of no kind the hub takes, and may wake the
device. -/
theorem State.kiteData_of_new {x : KiteIn} {m : List Byte} (runs : s.kiteRuns = true) (h : s.kiteCheck x false = .inr m)
    (new : s.recalls x = false) : s.kiteData x =
      if kitePayloadOk m then
        if m.getD 0 0 == 3 && x.dest == (s.remember x).rdN P.ShortAddress 0 then (s.remember x).wakeEvent .kite
        else s.remember x
      else (s.remember x).count P.RxDiscardCount 0 := by
  unfold State.kiteData
  dsimp only
  rw [runs, Bool.not_true, h]
  refine (if_neg (Bool.eq_false_iff.mp new)).trans ?_
  cases kitePayloadOk m
  · rfl
  · rfl

end Sys2Proof.Machine
end

section
namespace Sys2Proof.Machine

variable {s t u : State}

/-! ### What is on air after a frame (R342) -/

theorem State.wakeEvent_kite (s : State) (w : WakeSource) : (s.wakeEvent w).kite = s.kite := by
  unfold State.wakeEvent State.beginWake
  split
  · split
    · split
      · rfl
      · rfl
    · rfl
  · split
    · split
      · simp
      · simp
    · rfl
  · split
    · split
      · simp
      · simp
    · rfl
  · rfl

/-- A radio that runs is in Run or Luff, or early in an entry: a wake event is latched at most. -/
theorem State.wakeEvent_of_kiteRuns (runs : s.kiteRuns = true) (w : WakeSource) :
    ∃ p, s.wakeEvent w = { s with power := p } := by
  have active : s.stayActive = true := (Bool.and_eq_true_iff.mp runs).2
  unfold State.stayActive at active
  unfold State.wakeEvent
  split
  · split
    · split
      · exact ⟨_, rfl⟩
      · exact ⟨s.power, rfl⟩
    · exact ⟨s.power, rfl⟩
  · simp_all
  · simp_all
  · exact ⟨s.power, rfl⟩

/-- The frame on air and its end. -/
def Kite.air (k : Kite) : List Byte × Nat := (k.onAir, k.airEnd)

theorem State.air_kiteData (s : State) (x : KiteIn) : (s.kiteData x).kite.air = s.kite.air := by
  unfold State.kiteData
  dsimp only
  split
  · rw [State.count_kite]
  · split
    · rw [State.count_kite]
      rfl
    · split
      · rw [State.count_kite]
        rfl
      · split
        · rw [State.wakeEvent_kite]
          rfl
        · split
          · rw [State.count_kite]
            rfl
          · rfl

theorem State.air_kiteTake (s : State) (b : List Byte) : (s.kiteTake b).kite.air = s.kite.air := by
  unfold State.kiteTake
  dsimp only
  split
  · split
    · split
      · rfl
      · rfl
    · rfl
  · split
    · exact State.air_kiteData ..
    · rw [State.count_kite]

/-- The acknowledgement of a frame's number. -/
def ackFrame (seq : Byte) : List Byte := [0x02, 0x10, seq] ++ leBytes 2 (fcs16 [0x02, 0x10, seq]).toNat

/-- A data frame to the hub that asks for it is acknowledged. -/
theorem State.air_kiteAnswer {b : List Byte} (data : (KiteIn.ofPsdu b).isData b.length = true)
    (asks : (KiteIn.ofPsdu b).control / 32 % 2 = 1) (dest : (KiteIn.ofPsdu b).dest = s.rdN P.ShortAddress 0)
    (pan : (KiteIn.ofPsdu b).pan = s.rdN P.PanId 0) (decides : s.role = .active ∨ s.paired = false)
    (set : s.timeState ≠ Ts.unset) (keyed : s.keyExpired = false)
    (clear : s.reachesAnchor (s.fullTime + 192000) (airNs 5) 0 = false) :
    (s.kiteAnswer b).kite.air = (ackFrame (KiteIn.ofPsdu b).seq, s.fullTime + 192000 + airNs 5) := by
  have speaks : (s.role == .active || !s.paired) = true := by
    rcases decides with h | h
    · rw [h]
      rfl
    · rw [h, Bool.not_false, Bool.or_true]
  unfold State.kiteAnswer State.kiteAck
  dsimp only
  rw [if_pos data, asks, beq_iff_eq.mpr dest, beq_iff_eq.mpr pan, speaks, bne_iff_ne.mpr set, keyed, clear]
  rfl

theorem completes_receive_acknowledges {b : List Byte} {rssi : Byte} (runs : s.kiteRuns = true)
    (data : (KiteIn.ofPsdu b).isData b.length = true) (asks : (KiteIn.ofPsdu b).control / 32 % 2 = 1)
    (dest : (KiteIn.ofPsdu b).dest = s.rdN P.ShortAddress 0) (pan : (KiteIn.ofPsdu b).pan = s.rdN P.PanId 0)
    (decides : s.role = .active ∨ s.paired = false) (set : s.timeState ≠ Ts.unset) (keyed : s.keyExpired = false)
    (clear : s.reachesAnchor (s.fullTime + 192000) (airNs 5) 0 = false) :
    Completes (.kiteFrameReceived b true rssi) s fun t => t.kite.onAir = ackFrame (KiteIn.ofPsdu b).seq ∧
      t.kite.airEnd = s.fullTime + 192000 + airNs 5 := by
  have h := s.heard_senses rssi
  have paired : (s.heard rssi).paired = s.paired := h.bit (by decide) 0 0
  have answered := State.air_kiteAnswer (s := s.heard rssi) data asks (dest.trans (h.rdN (by decide) 0).symm)
    (pan.trans (h.rdN (by decide) 0).symm) (by rwa [h.role, paired]) (by rwa [h.timeState]) (by rwa [h.keyExpired])
    (by rwa [h.fullTime, h.reachesAnchor])
  rw [h.fullTime, ← State.air_kiteTake _ b] at answered
  have act : exec (.kiteFrameReceived b true rssi) s = done (((s.heard rssi).kiteAnswer b).kiteTake b) :=
    congrArg done (State.receiveKite_of_runs runs b rssi)
  refine ⟨_, act, ?_, ?_⟩
  · rw [State.settle_kite]
    exact congrArg Prod.fst answered
  · rw [State.settle_kite]
    exact congrArg Prod.snd answered

/-! ### The outcomes of a frame that asks for no acknowledgement -/

/-- A command that ends a frame heard without an acknowledgement: what its effect on the frame's count leaves of the
strength shown, and its frame. -/
theorem completes_receive {b : List Byte} {rssi : Byte} {u : State} {ps : List Nat} {es : List (Nat × Nat)}
    {fs : List Part} {Q : State → Prop} (runs : s.kiteRuns = true)
    (unasked : (KiteIn.ofPsdu b).isData b.length = false ∨ (KiteIn.ofPsdu b).control / 32 % 2 = 0)
    (effect : (s.heard rssi).kiteTake b = u) (frame : Frame ps es fs (s.heard rssi) u)
    (named : (P.KiteStatus, 0) ∈ es ∧ (P.RxFrameCount_PC041, 0) ∈ es)
    (status : u.rd P.KiteStatus 0 = (s.heard rssi).rd P.KiteStatus 0)
    (rest : Frame ps es fs s u.settle → Q u.settle) :
    Completes (.kiteFrameReceived b true rssi) s fun t => t.fld P.KiteStatus 0 8 8 = rssi.toNat ∧ Q t := by
  obtain ⟨shown, count⟩ := named
  have act : exec (.kiteFrameReceived b true rssi) s = done u := congrArg done (by
    rw [State.receiveKite_of_runs runs, State.kiteAnswer_of_unasked unasked, effect])
  have whole : Frame ps es fs s u := ((s.frame_heard rssi).weaken (List.nil_subset _)
    (List.cons_subset.mpr ⟨shown, List.cons_subset.mpr ⟨count, List.nil_subset _⟩⟩) (List.nil_subset _)).trans frame
  refine ⟨_, act, ?_, rest whole.settle⟩
  rw [State.fld_congr (State.rd_settle _ _ _ (by decide)), State.fld_congr status, State.fld_heard]

theorem completes_receive_ack {b : List Byte} {rssi : Byte} {f : KiteOut} (runs : s.kiteRuns = true)
    (ack : (KiteIn.ofPsdu b).isAck b.length = true) (waits : s.kite.awaiting = some f) :
    Completes (.kiteFrameReceived b true rssi) s fun t => t.fld P.KiteStatus 0 8 8 = rssi.toNat ∧
      t.rd P.RxFrameCount_PC041 0 = s.rd P.RxFrameCount_PC041 0 + 1 ∧
      t.kite = { s.kite with awaiting := if (KiteIn.ofPsdu b).seq = f.seq then none else some f } ∧
      Frame [] [(P.KiteStatus, 0), (P.RxFrameCount_PC041, 0)] [.kite] s t := by
  have short : b.length < 11 := by rw [KiteIn.length_of_isAck ack]; decide
  have effect := State.kiteTake_of_ack (s := s.heard rssi) (b := b)
    (by rwa [(s.heard_senses rssi).kiteRuns]) ack (by rwa [State.heard_kite])
  refine completes_receive runs (.inl (KiteIn.isData_of_short short)) effect
    ((Frame.refl ..).setKite _ (by decide)) (by decide) rfl fun frame => ⟨?_, ?_, frame⟩
  · rw [State.rd_settle _ _ _ (by decide)]
    exact s.rd_heard_count rssi
  · rw [State.settle_kite]
    rfl

theorem completes_receive_foreign {b : List Byte} {rssi : Byte} (runs : s.kiteRuns = true)
    (ack : (KiteIn.ofPsdu b).isAck b.length = false) (unsupported : (KiteIn.ofPsdu b).supported b.length = false)
    (unasked : (KiteIn.ofPsdu b).isData b.length = false ∨ (KiteIn.ofPsdu b).control / 32 % 2 = 0) :
    Completes (.kiteFrameReceived b true rssi) s fun t => t.fld P.KiteStatus 0 8 8 = rssi.toNat ∧
      t.rd P.RxFrameCount_PC041 0 = s.rd P.RxFrameCount_PC041 0 + 1 ∧
      (s.rdN P.RxDiscardCount 0 < 0xFFFFFFFE → t.rdN P.RxDiscardCount 0 = s.rdN P.RxDiscardCount 0 + 1) ∧
      Frame [] [(P.KiteStatus, 0), (P.RxFrameCount_PC041, 0), (P.RxDiscardCount, 0)] [.wdp] s t := by
  refine completes_receive runs unasked (State.kiteTake_of_foreign ack unsupported)
    ((Frame.refl ..).count _ _ (by decide)) (by decide) (State.rd_count _ _ _ _ _ (by decide) (by decide))
    fun frame => ⟨?_, rdN_settle_count (by decide) ((s.heard_senses rssi).rd _ _ (by decide)), frame⟩
  rw [State.rd_settle _ _ _ (by decide), State.rd_count _ _ _ _ _ (by decide) (by decide), State.rd_heard_count]

theorem completes_receive_refused {b : List Byte} {rssi : Byte} {c : Nat} (runs : s.kiteRuns = true) (hub : ForHub s b)
    (asks : (KiteIn.ofPsdu b).control / 32 % 2 = 0) (refused : s.kiteCheck (KiteIn.ofPsdu b) false = .inl c) :
    Completes (.kiteFrameReceived b true rssi) s fun t => t.fld P.KiteStatus 0 8 8 = rssi.toNat ∧
      (s.rdN c 0 < 0xFFFFFFFE → t.rdN c 0 = s.rdN c 0 + 1) ∧ t.kite = s.kite ∧
      Frame [] [(P.KiteStatus, 0), (P.RxFrameCount_PC041, 0), (c, 0)] [.wdp] s t := by
  have senses := s.heard_senses rssi
  have effect := (State.kiteTake_of_forHub (hub.heard rssi)).trans
    (State.kiteData_of_refused (by rwa [senses.kiteRuns]) ((senses.kiteCheck _ _).trans refused))
  have counter : ∀ x ∈ [P.RxDiscardCount, P.UnknownSourceCount, P.MicFailCount, P.StaleTagCount],
      x ∉ housekeeping ∧ x ∉ heardParams ∧ P.KiteStatus ≠ x := by decide
  obtain ⟨kept, unheard, other⟩ := counter c (State.kiteCheck_counts refused)
  refine completes_receive runs (.inr asks) effect ((Frame.refl ..).count _ _ (by simp)) (by simp)
    (State.rd_count _ _ _ _ _ other (by decide)) fun frame =>
      ⟨rdN_settle_count kept (senses.rd _ _ unheard), ?_, frame⟩
  rw [State.settle_kite, State.count_kite, State.heard_kite]

theorem completes_receive_recalled {b : List Byte} {rssi : Byte} {m : List Byte} (runs : s.kiteRuns = true)
    (hub : ForHub s b) (asks : (KiteIn.ofPsdu b).control / 32 % 2 = 0)
    (passes : s.kiteCheck (KiteIn.ofPsdu b) false = .inr m) (again : s.recalls (KiteIn.ofPsdu b) = true) :
    Completes (.kiteFrameReceived b true rssi) s fun t => t.fld P.KiteStatus 0 8 8 = rssi.toNat ∧
      (s.rdN P.DuplicateCount_PC052 0 < 0xFFFFFFFE →
        t.rdN P.DuplicateCount_PC052 0 = s.rdN P.DuplicateCount_PC052 0 + 1) ∧
      t.kite = { s.kite with cache := s.cacheAged } ∧
      Frame [] [(P.KiteStatus, 0), (P.RxFrameCount_PC041, 0), (P.DuplicateCount_PC052, 0)] [.kite, .wdp] s t := by
  have senses := s.heard_senses rssi
  have effect := (State.kiteTake_of_forHub (hub.heard rssi)).trans
    (State.kiteData_of_recalled (by rwa [senses.kiteRuns]) ((senses.kiteCheck _ _).trans passes) again)
  refine completes_receive runs (.inr asks) effect (((Frame.refl ..).setKite _ (by decide)).count _ _ (by decide))
    (by decide) (State.rd_count _ _ _ _ _ (by decide) (by decide)) fun frame =>
      ⟨rdN_settle_count (by decide) (senses.rd _ _ (by decide)), ?_, frame⟩
  rw [State.settle_kite, State.count_kite]
  rfl

theorem completes_receive_new {b : List Byte} {rssi : Byte} {m : List Byte} (runs : s.kiteRuns = true)
    (hub : ForHub s b) (asks : (KiteIn.ofPsdu b).control / 32 % 2 = 0)
    (passes : s.kiteCheck (KiteIn.ofPsdu b) false = .inr m) (new : s.recalls (KiteIn.ofPsdu b) = false) :
    Completes (.kiteFrameReceived b true rssi) s fun t => t.fld P.KiteStatus 0 8 8 = rssi.toNat ∧
      t.kite = { s.kite with cache := (((KiteIn.ofPsdu b).src, (KiteIn.ofPsdu b).seq, s.clock) :: s.cacheAged).take 16 } ∧
      (s.rdN P.RxDiscardCount 0 < 0xFFFFFFFE →
        t.rdN P.RxDiscardCount 0 = s.rdN P.RxDiscardCount 0 + (!kitePayloadOk m).toNat) ∧
      Frame [] [(P.KiteStatus, 0), (P.RxFrameCount_PC041, 0), (P.RxDiscardCount, 0)] [.kite, .power, .wdp] s t := by
  have senses := s.heard_senses rssi
  have heardRuns : (s.heard rssi).kiteRuns = true := by rwa [senses.kiteRuns]
  have effect := (State.kiteTake_of_forHub (hub.heard rssi)).trans
    (State.kiteData_of_new heardRuns ((senses.kiteCheck _ _).trans passes) new)
  have remembered := (Frame.refl [] [(P.KiteStatus, 0), (P.RxFrameCount_PC041, 0), (P.RxDiscardCount, 0)]
    [.kite, .power, .wdp] (s.heard rssi)).setKite { (s.heard rssi).kite with
      cache := (((KiteIn.ofPsdu b).src, (KiteIn.ofPsdu b).seq, s.clock) :: s.cacheAged).take 16 } (by decide)
  cases ok : kitePayloadOk m
  case false =>
    rw [ok, if_neg Bool.false_ne_true] at effect
    refine completes_receive runs (.inr asks) effect (remembered.count _ _ (by decide)) (by decide)
      (State.rd_count _ _ _ _ _ (by decide) (by decide)) fun frame =>
        ⟨?_, rdN_settle_count (by decide) (senses.rd _ _ (by decide)), frame⟩
    rw [State.settle_kite, State.count_kite]
    rfl
  case true =>
    rw [ok, if_pos rfl] at effect
    obtain ⟨p, effect⟩ : ∃ p, (s.heard rssi).kiteTake b =
        { (s.heard rssi).remember (KiteIn.ofPsdu b) with power := p } := by
      rw [effect]
      split
      · exact State.wakeEvent_of_kiteRuns (s := (s.heard rssi).remember _) heardRuns _
      · exact ⟨(s.heard rssi).power, rfl⟩
    refine completes_receive runs (.inr asks) effect (remembered.power p (by decide)) (by decide) rfl
      fun frame => ⟨?_, fun _ => ?_, frame⟩
    · rw [State.settle_kite]
      rfl
    · unfold State.rdN
      rw [State.rd_settle _ _ _ (by decide)]
      exact congrArg BitVec.toNat (senses.rd P.RxDiscardCount 0 (by decide))

/-- Settles O47, clause by clause: the acknowledgement, a radio that is off, a bad FCS, an acknowledgement received, a
frame outside the subset, and a data frame that is refused, a duplicate or new. -/
theorem kiteReception : Obligations.KiteReception := by
  unfold Obligations.KiteReception
  refine ⟨?_, fun s b fcsOk rssi ⟨off, deaf⟩ => ?_, ?_, ?_, ?_, ?_, ?_, ?_⟩
  · rintro s b _ rssi ⟨runs, rfl, data, asks, dest, pan, decides, set, keyed, clear⟩
    exact completes_receive_acknowledges runs data asks dest pan decides set keyed clear
  · have act : exec (.kiteFrameReceived b fcsOk rssi) s = done s :=
      congrArg done (State.receiveKite_of_deaf off deaf b fcsOk rssi)
    exact ⟨_, act, (Frame.refl ..).settle⟩
  · rintro s b _ rssi ⟨runs, rfl⟩
    have act : exec (.kiteFrameReceived b false rssi) s = done (s.shownStrength rssi) :=
      congrArg done (State.receiveKite_of_bad runs b rssi)
    refine ⟨_, act, ?_, ((Frame.refl ..).setFld _ _ _ _ _ (by decide)).settle⟩
    rw [State.fld_congr (State.rd_settle _ _ _ (by decide)), State.fld_shownStrength]
  · rintro s b _ rssi f ⟨runs, rfl, ack, waits⟩
    exact completes_receive_ack runs ack waits
  · rintro s b _ rssi ⟨runs, rfl, ack, unsupported, unasked⟩
    exact completes_receive_foreign runs ack unsupported unasked
  · rintro s b _ rssi c ⟨runs, rfl, noAck, supported, pan, dest, asks, refused⟩
    exact completes_receive_refused runs ⟨noAck, supported, pan, dest⟩ asks refused
  · rintro s b _ rssi m ⟨runs, rfl, noAck, supported, pan, dest, asks, passes, again⟩
    exact completes_receive_recalled runs ⟨noAck, supported, pan, dest⟩ asks passes again
  · rintro s b _ rssi m ⟨runs, rfl, noAck, supported, pan, dest, asks, passes, new⟩
    exact completes_receive_new runs ⟨noAck, supported, pan, dest⟩ asks passes new

end Sys2Proof.Machine
end

section
namespace Sys2Proof.Machine

variable {s t u : State}

/-! ### Bytes of the two memories at rising addresses -/

theorem State.getSram_eq_map (s : State) : ∀ (n a : Nat), s.getSram a n = (List.range n).map fun i => s.sramByte (a + i)
  | 0, _ => rfl
  | n + 1, a => by
    rw [State.getSram, s.getSram_eq_map n (a + 1), List.range_succ_eq_map, List.map_cons, List.map_map]
    refine congrArg (s.sramByte a :: ·) (List.map_congr_left fun i _ => ?_)
    rw [Function.comp_apply, show a + 1 + i = a + (i + 1) by omega]

theorem State.getDram_eq_map (s : State) : ∀ (n a : Nat), s.getDram a n = (List.range n).map fun i => s.dramByte (a + i)
  | 0, _ => rfl
  | n + 1, a => by
    rw [State.getDram, s.getDram_eq_map n (a + 1), List.range_succ_eq_map, List.map_cons, List.map_map]
    refine congrArg (s.dramByte a :: ·) (List.map_congr_left fun i _ => ?_)
    rw [Function.comp_apply, show a + 1 + i = a + (i + 1) by omega]

@[simp] theorem State.length_getSram (s : State) (a n : Nat) : (s.getSram a n).length = n := by
  rw [State.getSram_eq_map, List.length_map, List.length_range]

@[simp] theorem State.length_getDram (s : State) (a n : Nat) : (s.getDram a n).length = n := by
  rw [State.getDram_eq_map, List.length_map, List.length_range]

theorem State.getD_getSram (s : State) {a n i : Nat} (h : i < n) : (s.getSram a n).getD i 0 = s.sramByte (a + i) := by
  rw [State.getSram_eq_map, getD_map_range _ _ h]

theorem State.getD_getDram (s : State) {a n i : Nat} (h : i < n) : (s.getDram a n).getD i 0 = s.dramByte (a + i) := by
  rw [State.getDram_eq_map, getD_map_range _ _ h]

theorem State.sramByte_congr (h : t.sram = s.sram) (a : Nat) : t.sramByte a = s.sramByte a := by
  rw [State.sramByte, h, State.sramByte]

theorem State.dramByte_congr (h : t.dram = s.dram) (a : Nat) : t.dramByte a = s.dramByte a := by
  rw [State.dramByte, h, State.dramByte]

theorem State.getSram_congr (h : t.sram = s.sram) (a n : Nat) : t.getSram a n = s.getSram a n := by
  rw [State.getSram_eq_map, State.getSram_eq_map]
  exact List.map_congr_left fun i _ => State.sramByte_congr h _

/-- Writing bytes of firmware SRAM changes it alone. -/
theorem State.setSram_eq : ∀ (bs : List Byte) (s : State) (a : Nat), ∃ m, s.setSram a bs = { s with sram := m }
  | [], s, _ => ⟨s.sram, rfl⟩
  | b :: bs, s, a => by
    rw [State.setSram]
    split
    · obtain ⟨m, hm⟩ := State.setSram_eq bs { s with sram := SMap.set 0 s.sram a b } (a + 1)
      exact ⟨m, hm⟩
    · exact State.setSram_eq bs s (a + 1)

/-- A byte before or behind the written ones stands. -/
theorem State.sramByte_setSram_outside {x : Nat} : ∀ (bs : List Byte) (s : State) (a : Nat),
    x < a ∨ a + bs.length ≤ x → (s.setSram a bs).sramByte x = s.sramByte x
  | [], _, _, _ => rfl
  | b :: bs, s, a, h => by
    rw [List.length_cons] at h
    rw [State.setSram, State.sramByte_setSram_outside bs _ _ (by omega)]
    split
    · exact SMap.get_set_other _ _ _ _ _ _ (by omega)
    · rfl

/-- Inside firmware SRAM the written bytes read back. -/
theorem State.sramByte_setSram_inside {bs : List Byte} {i : Nat} (hi : i < bs.length) (s : State) {a : Nat}
    (inside : sramExtent a bs.length = true) : (s.setSram a bs).sramByte (a + i) = bs.getD i 0 := by
  unfold sramExtent at inside
  rw [Bool.and_eq_true, decide_eq_true_eq, decide_eq_true_eq] at inside
  obtain ⟨low, high⟩ := inside
  induction bs generalizing s a i with
  | nil => exact absurd hi (Nat.not_lt_zero i)
  | cons b bs ih =>
    rw [List.length_cons] at high hi
    rw [State.setSram]
    cases i with
    | zero =>
      rw [State.sramByte_setSram_outside bs _ _ (by omega), if_pos]
      · exact SMap.get_set_same _ _ _ _
      · rw [Bool.and_eq_true, decide_eq_true_eq, decide_eq_true_eq]
        exact ⟨low, by omega⟩
    | succ i =>
      rw [show a + (i + 1) = a + 1 + i by omega, ih (by omega) _ (by omega) (by omega)]
      rfl

/-- Inside DRAM the written bytes read back, but the reserved region reads zero. -/
theorem State.dramByte_setDram {bs : List Byte} {i : Nat} (hi : i < bs.length) (s : State) {a : Nat}
    (inside : a + bs.length ≤ dramSize) :
    (s.setDram a bs).dramByte (a + i) = if dramReserved (a + i) then 0 else bs.getD i 0 := by
  induction bs generalizing s a i with
  | nil => exact absurd hi (Nat.not_lt_zero i)
  | cons b bs ih =>
    rw [List.length_cons] at inside hi
    rw [State.setDram]
    cases i with
    | zero =>
      rw [State.dramByte_setDram_outside bs _ _ (by omega)]
      cases reserved : dramReserved (a + 0) with
      | true =>
        unfold State.dramByte
        rw [reserved]
        rfl
      | false => exact s.dramByte_setDramByte_same b reserved (by omega)
    | succ i =>
      rw [show a + (i + 1) = a + 1 + i by omega, ih (by omega) _ (by omega)]
      rfl

/-- A change of firmware SRAM alone. -/
theorem Frame.sram {ps : List Nat} {es : List (Nat × Nat)} {fs : List Part} (m : SMap Byte) (h : Frame ps es fs s t)
    (hf : .memory ∈ fs) : Frame ps es fs s { t with sram := m } :=
  h.parts rfl (by constructor <;> intros <;> first | rfl | exact ⟨rfl, rfl⟩ | contradiction)

theorem Frame.setDram {ps : List Nat} {es : List (Nat × Nat)} {fs : List Part} (a : Nat) (bs : List Byte)
    (h : Frame ps es fs s t) (hf : .memory ∈ fs) : Frame ps es fs s (t.setDram a bs) := by
  obtain ⟨d, hd⟩ := t.setDram_eq bs a
  rw [hd]
  exact h.dram d hf

theorem Frame.setSram {ps : List Nat} {es : List (Nat × Nat)} {fs : List Part} (a : Nat) (bs : List Byte)
    (h : Frame ps es fs s t) (hf : .memory ∈ fs) : Frame ps es fs s (t.setSram a bs) := by
  obtain ⟨m, hm⟩ := t.setSram_eq bs a
  rw [hm]
  exact h.sram m hf

/-! ### One core's block-transfer port changes (R398) -/

/-- The block-transfer port of a core reads `b`; the core is as it was beside it, and so are the other cores and the
threads. -/
def PortIs (core : Nat) (b : BtPort) (s t : State) : Prop :=
  (t.core core).bt = b ∧ { t.core core with bt := (s.core core).bt } = s.core core ∧
    (∀ c < 4, c ≠ core → t.core c = s.core c) ∧ t.capstan.threads = s.capstan.threads

theorem PortIs.refl (core : Nat) (s : State) : PortIs core (s.core core).bt s s := ⟨rfl, rfl, fun _ _ _ => rfl, rfl⟩

theorem State.core_setBt (s : State) (c i : Nat) (b : BtPort) :
    (s.setBt c b).core i = if i = c then { s.core c with bt := b } else s.core i :=
  s.core_setCore c i _

theorem PortIs.setBt {core : Nat} {b : BtPort} (h : PortIs core b s t) (b' : BtPort) : PortIs core b' s (t.setBt core b') := by
  obtain ⟨-, rest, others, threads⟩ := h
  refine ⟨by rw [State.core_setBt, if_pos rfl], ?_, fun c hc other => ?_, threads⟩
  · rw [State.core_setBt, if_pos rfl]
    exact rest
  · rw [State.core_setBt, if_neg other, others c hc other]

/-- The port and the cores are read from Capstan alone. -/
theorem PortIs.congr {core : Nat} {b : BtPort} (h : PortIs core b s t) (cores : u.capstan.cores = t.capstan.cores)
    (threads : u.capstan.threads = t.capstan.threads) : PortIs core b s u := by
  have same : ∀ c, u.core c = t.core c := fun c => by rw [State.core, cores, State.core]
  obtain ⟨own, rest, others, kept⟩ := h
  exact ⟨by rw [same, own], by rw [same, rest], fun c hc other => by rw [same, others c hc other], threads.trans kept⟩

theorem PortIs.settle {core : Nat} {b : BtPort} (h : PortIs core b s t) : PortIs core b s t.settle :=
  h.congr (State.settle_capstan_cores _) (State.settle_capstan_threads _)

theorem Frame.setBt {ps : List Nat} {es : List (Nat × Nat)} {fs : List Part} (c : Nat) (b : BtPort)
    (h : Frame ps es fs s t) (hf : .capstan ∈ fs) : Frame ps es fs s (t.setBt c b) := h.setCore _ _ hf

/-- The state in which the operation of a start acts: the registers as the store leaves them, and the port running. -/
def State.begunBt (s : State) (core : Fin 4) (regs : BtPort → BtPort) : State :=
  s.setBt core { regs (s.core core).bt with running := true }

theorem State.btRequester_begunBt (s : State) (core : Fin 4) (regs : BtPort → BtPort) :
    (s.begunBt core regs).btRequester core = s.btRequester core := by
  unfold State.btRequester State.begunBt
  rw [State.core_setBt, if_pos rfl]

theorem portIs_begunBt (s : State) (core : Fin 4) (regs : BtPort → BtPort) :
    PortIs core { regs (s.core core).bt with running := true } s (s.begunBt core regs) :=
  (PortIs.refl core s).setBt _

theorem frame_begunBt (s : State) (core : Fin 4) (regs : BtPort → BtPort) (fs : List Part) (hf : .capstan ∈ fs) :
    Frame [] [] fs s (s.begunBt core regs) := (Frame.refl ..).setBt _ _ hf

theorem State.startBt_of_idle {core : Fin 4} {regs : BtPort → BtPort} {op : State → State × Byte} {a : Byte}
    (runs : s.coreRuns core = true) (idle : (s.core core).bt.running = false)
    (effect : op (s.begunBt core regs) = (u, a)) :
    s.startBt core regs op = u.setBt core { (u.core core).bt with result := a } := by
  unfold State.startBt
  dsimp only
  rw [runs, idle]
  unfold State.begunBt at effect
  rw [if_neg (by decide), if_neg (by decide), effect]

/-- A start on an idle port: its operation acts at once and its answer waits in the port for the end. -/
theorem completes_startBt {c : Instr} {core : Fin 4} {regs : BtPort → BtPort} {op : State → State × Byte} {a : Byte}
    {b : BtPort} {fs : List Part} (act : exec c s = done (s.startBt core regs op)) (runs : s.coreRuns core = true)
    (idle : (s.core core).bt.running = false) (effect : op (s.begunBt core regs) = (u, a)) (port : PortIs core b s u)
    (frame : Frame [] [] fs s u) (hf : .capstan ∈ fs) :
    Completes c s fun t => PortIs core { b with result := a } s t ∧ Frame [] [] fs s t ∧ t.wdp.xfers = u.wdp.xfers ∧
      t.dram = u.dram ∧ t.sram = u.sram := by
  obtain rfl : (u.core core).bt = b := port.1
  refine ⟨_, act.trans (congrArg done (State.startBt_of_idle runs idle effect)), (port.setBt _).settle,
    (frame.setBt _ _ hf).settle, ?_, ?_, ?_⟩
  · rw [State.settle_wdp_xfers]
    rfl
  · rw [State.settle_dram]
    rfl
  · rw [State.settle_sram]
    rfl

end Sys2Proof.Machine
end

section
namespace Sys2Proof.Machine

variable {s t u : State} {core : Fin 4}

/-! ### Copies between the memories (R398) -/

/-- The registers of a copy. -/
def copyRegs (sram length dramLow dramHigh : Word) (b : BtPort) : BtPort :=
  { b with control := btControl 0 0 0, sram := sram, length := length, dramLow := dramLow, dramHigh := dramHigh }

theorem dramAddress_aligned {high low : Nat} (h : low % 4 = 0) : (high * 2 ^ 32 + low) % 4 = 0 := by omega

theorem State.copyBt_toDram {a n d : Nat} (ha : a % 4 = 0) (hn : n % 4 = 0) (hd : d % 4 = 0)
    (sram : sramExtent a n = true) (dram : d + n ≤ dramSize) :
    s.copyBt a n d true = (s.setDram d (s.getSram a n), 0) :=
  if_pos ⟨ha, hn, hd, sram, dram⟩

theorem State.copyBt_toSram {a n d : Nat} (ha : a % 4 = 0) (hn : n % 4 = 0) (hd : d % 4 = 0)
    (sram : sramExtent a n = true) (dram : d + n ≤ dramSize) :
    s.copyBt a n d false = (s.setSram a (s.getDram d n), 0) :=
  if_pos ⟨ha, hn, hd, sram, dram⟩

theorem State.setDram_capstan (s : State) (a : Nat) (bs : List Byte) : (s.setDram a bs).capstan = s.capstan := by
  obtain ⟨d, hd⟩ := s.setDram_eq bs a
  rw [hd]

theorem State.setSram_capstan (s : State) (a : Nat) (bs : List Byte) : (s.setSram a bs).capstan = s.capstan := by
  obtain ⟨m, hm⟩ := s.setSram_eq bs a
  rw [hm]

theorem State.setDram_sram (s : State) (a : Nat) (bs : List Byte) : (s.setDram a bs).sram = s.sram := by
  obtain ⟨d, hd⟩ := s.setDram_eq bs a
  rw [hd]

theorem State.setDram_wdp (s : State) (a : Nat) (bs : List Byte) : (s.setDram a bs).wdp = s.wdp := by
  obtain ⟨d, hd⟩ := s.setDram_eq bs a
  rw [hd]

theorem State.setSram_dram (s : State) (a : Nat) (bs : List Byte) : (s.setSram a bs).dram = s.dram := by
  obtain ⟨m, hm⟩ := s.setSram_eq bs a
  rw [hm]

theorem PortIs.setDram {c : Nat} {b : BtPort} (h : PortIs c b s t) (a : Nat) (bs : List Byte) :
    PortIs c b s (t.setDram a bs) :=
  h.congr (congrArg _ (t.setDram_capstan a bs)) (congrArg _ (t.setDram_capstan a bs))

theorem PortIs.setSram {c : Nat} {b : BtPort} (h : PortIs c b s t) (a : Nat) (bs : List Byte) :
    PortIs c b s (t.setSram a bs) :=
  h.congr (congrArg _ (t.setSram_capstan a bs)) (congrArg _ (t.setSram_capstan a bs))

theorem completes_btCopy_toDram {sram length dramLow dramHigh : Word} {d : Nat}
    (address : dramHigh.toNat * 2 ^ 32 + dramLow.toNat = d) (runs : s.coreRuns core = true)
    (idle : (s.core core).bt.running = false) (hs : sram.toNat % 4 = 0) (hl : length.toNat % 4 = 0)
    (hd : dramLow.toNat % 4 = 0) (extent : sramExtent sram.toNat length.toNat = true)
    (fits : d + length.toNat ≤ dramSize) :
    Completes (.btCopy core sram length dramLow dramHigh true) s fun t =>
      PortIs core { (s.core core).bt with control := btControl 0 0 0, sram := sram, length := length,
                                          dramLow := dramLow, dramHigh := dramHigh, running := true, result := 0 } s t ∧
      (∀ i < length.toNat, t.dramByte (d + i) =
        if dramReserved (d + i) then 0 else s.sramByte (sram.toNat + i)) ∧
      (∀ a, a < d ∨
        d + length.toNat ≤ a → t.dramByte a = s.dramByte a) ∧
      t.sram = s.sram ∧ Frame [] [] [.capstan, .memory] s t := by
  have aligned : d % 4 = 0 := address ▸ dramAddress_aligned hd
  have act : exec (.btCopy core sram length dramLow dramHigh true) s =
      done (s.startBt core (copyRegs sram length dramLow dramHigh)
        fun v => v.copyBt sram.toNat length.toNat d true) := by
    rw [← address]
    rfl
  obtain ⟨t, ht, port, frame, -, dram, sram'⟩ := completes_startBt (fs := [.capstan, .memory]) act runs idle
    (State.copyBt_toDram hs hl aligned extent fits) ((portIs_begunBt ..).setDram _ _)
    ((frame_begunBt s core _ _ (by decide)).setDram _ _ (by decide)) (by decide)
  refine ⟨t, ht, port, fun i hi => ?_, fun a ha => ?_, sram'.trans (State.setDram_sram ..), frame⟩
  · rw [State.dramByte_congr dram, State.dramByte_setDram (by rwa [State.length_getSram]) _
      (by rwa [State.length_getSram]), State.getD_getSram _ hi]
    rfl
  · rw [State.dramByte_congr dram]
    exact State.dramByte_setDram_outside _ _ _ (by rwa [State.length_getSram])

theorem completes_btCopy_toSram {sram length dramLow dramHigh : Word} {d : Nat}
    (address : dramHigh.toNat * 2 ^ 32 + dramLow.toNat = d) (runs : s.coreRuns core = true)
    (idle : (s.core core).bt.running = false) (hs : sram.toNat % 4 = 0) (hl : length.toNat % 4 = 0)
    (hd : dramLow.toNat % 4 = 0) (extent : sramExtent sram.toNat length.toNat = true)
    (fits : d + length.toNat ≤ dramSize) :
    Completes (.btCopy core sram length dramLow dramHigh false) s fun t =>
      PortIs core { (s.core core).bt with control := btControl 0 0 0, sram := sram, length := length,
                                          dramLow := dramLow, dramHigh := dramHigh, running := true, result := 0 } s t ∧
      (∀ i < length.toNat,
        t.sramByte (sram.toNat + i) = s.dramByte (d + i)) ∧
      (∀ a, a < sram.toNat ∨ sram.toNat + length.toNat ≤ a → t.sramByte a = s.sramByte a) ∧ t.dram = s.dram ∧
      Frame [] [] [.capstan, .memory] s t := by
  have aligned : d % 4 = 0 := address ▸ dramAddress_aligned hd
  have act : exec (.btCopy core sram length dramLow dramHigh false) s =
      done (s.startBt core (copyRegs sram length dramLow dramHigh)
        fun v => v.copyBt sram.toNat length.toNat d false) := by
    rw [← address]
    rfl
  obtain ⟨t, ht, port, frame, -, dram, sram'⟩ := completes_startBt (fs := [.capstan, .memory]) act runs idle
    (State.copyBt_toSram hs hl aligned extent fits) ((portIs_begunBt ..).setSram _ _)
    ((frame_begunBt s core _ _ (by decide)).setSram _ _ (by decide)) (by decide)
  refine ⟨t, ht, port, fun i hi => ?_, fun a ha => ?_, dram.trans (State.setSram_dram ..), frame⟩
  · rw [State.sramByte_congr sram', State.sramByte_setSram_inside (by rwa [State.length_getDram]) _
      (by rwa [State.length_getDram]), State.getD_getDram _ hi]
    rfl
  · rw [State.sramByte_congr sram']
    exact State.sramByte_setSram_outside _ _ _ (by rwa [State.length_getDram])

/-! ### Starts that find no idle port, and the end of an operation -/

theorem completes_btCopy_busy {sram length dramLow dramHigh : Word} {toDram : Bool} (runs : s.coreRuns core = true)
    (busy : (s.core core).bt.running = true) : Completes (.btCopy core sram length dramLow dramHigh toDram) s fun t =>
      PortIs core { (s.core core).bt with status := 1 } s t ∧ Frame [] [] [.capstan] s t := by
  have act : exec (.btCopy core sram length dramLow dramHigh toDram) s =
      done (s.setBt core { (s.core core).bt with status := 1 }) := congrArg done (by
    unfold State.startBt
    dsimp only
    rw [runs, if_neg (by decide), if_pos busy])
  exact ⟨_, act, ((PortIs.refl ..).setBt _).settle, ((Frame.refl ..).setBt _ _ (by decide)).settle⟩

theorem completes_btCopy_stopped {sram length dramLow dramHigh : Word} {toDram : Bool}
    (stopped : s.coreRuns core = false) : Completes (.btCopy core sram length dramLow dramHigh toDram) s fun t =>
      Frame [] [] [] s t := by
  have act : exec (.btCopy core sram length dramLow dramHigh toDram) s = done s := congrArg done (by
    unfold State.startBt
    dsimp only
    rw [stopped, if_pos (by decide)])
  exact ⟨_, act, (Frame.refl ..).settle⟩

theorem completes_btDone (busy : (s.core core).bt.running = true) : Completes (.btDone core) s fun t =>
    PortIs core { (s.core core).bt with running := false, status := (s.core core).bt.result } s t ∧
    Frame [] [] [.capstan] s t :=
  ⟨_, if_pos busy, ((PortIs.refl ..).setBt _).settle, ((Frame.refl ..).setBt _ _ (by decide)).settle⟩

theorem completes_btDone_idle (idle : (s.core core).bt.running = false) : Completes (.btDone core) s fun t =>
    Frame [] [] [] s t :=
  ⟨_, if_neg (by simp [idle]), (Frame.refl ..).settle⟩

/-! ### Block operations at the core's level -/

theorem toNat_slotNumber {n : Nat} (h : n < 4) : (BitVec.ofNat 8 n).toNat % 16 = n := by
  rw [BitVec.toNat_ofNat]
  omega

theorem SlotIs.of_xfers {k : Nat} {x : Xfer} (xfers : u.wdp.xfers = (t.setXfer k x).wdp.xfers)
    (same : t.wdp.xfers = s.wdp.xfers) : SlotIs k x s u := by
  refine slotIs_setXfer (xfers.trans ?_)
  unfold State.setXfer
  dsimp only
  rw [same]

theorem completes_btOpen {param : Half} {total : Word} {r : Row} {n : Nat} (runs : s.coreRuns core = true)
    (idle : (s.core core).bt.running = false) (row : Dict.row param.toNat = some r) (blob : r.ty = .blob)
    (permitted : s.permits (s.btRequester core) param.toNat = true)
    (active : s.notActive (s.via (s.btRequester core)) r = false)
    (unheld : ∀ m < 4, (s.xfer m).state ≠ .free → (s.xfer m).param ≠ param.toNat) (size : total.toNat ≤ r.size)
    (gate : s.openGate param.toNat = 0) (hn : n < 4) (free : (s.xfer n).state = .free)
    (lowest : ∀ m < n, (s.xfer m).state ≠ .free) : Completes (.btOpen core param total) s fun t =>
      PortIs core { (s.core core).bt with control := btControl param.toNat n 1, length := total, running := true,
                                          result := 0 } s t ∧
      SlotIs n (openedSlot (s.btRequester core) param.toNat total.toNat) s t ∧
      Frame [] [] [.capstan, .transfers] s t := by
  let regs : BtPort → BtPort := fun b => { b with control := btControl param.toNat 0 1, length := total }
  have opens := State.openBlock_takes (s := s.begunBt core regs) (rq := s.btRequester core) row blob permitted active unheld size gate hn free lowest
  rw [← s.btRequester_begunBt core regs] at opens
  let v := (s.begunBt core regs).setXfer n (openedSlot ((s.begunBt core regs).btRequester core) param.toNat total.toNat)
  let b := { (v.core core).bt with control := btControl param.toNat n 1 }
  have begun : PortIs core { regs (s.core core).bt with running := true } s v := (portIs_begunBt ..).congr rfl rfl
  have port : PortIs core b s (v.setBt core b) := begun.setBt _
  have own : b = { (s.core core).bt with control := btControl param.toNat n 1, length := total, running := true } :=
    congrArg (fun x : BtPort => { x with control := btControl param.toNat n 1 }) begun.1
  obtain ⟨t, ht, ends, frame, xfers, -, -⟩ := completes_startBt (c := .btOpen core param total) (a := 0)
    (fs := [.capstan, .transfers]) rfl runs idle (regs := regs) (u := v.setBt core b) (by
      dsimp only
      rw [opens]
      dsimp only
      rw [toNat_slotNumber hn]) port
    (((frame_begunBt s core regs _ (by decide)).setXfer _ _ (by decide)).setBt _ _ (by decide)) (by decide)
  rw [own] at ends
  refine ⟨t, ht, ends, ?_, frame⟩
  rw [← s.btRequester_begunBt core regs]
  exact SlotIs.of_xfers (t := s.begunBt core regs) xfers rfl

theorem completes_btData {param : Half} {slot : BitVec 4} {sram length offset : Word} (runs : s.coreRuns core = true)
    (idle : (s.core core).bt.running = false) (extent : sramExtent sram.toNat length.toNat = true)
    (permitted : s.permits (s.btRequester core) param.toNat = true)
    (own : s.ownsSlot (s.btRequester core) param.toNat slot.toNat = true)
    (opened : (s.xfer slot.toNat).state = .opened) (fits : offset.toNat + length.toNat ≤ (s.xfer slot.toNat).total)
    (area : (s.xfer slot.toNat).total ≤ 0x2000000) : Completes (.btData core param slot sram length offset) s fun t =>
      PortIs core { (s.core core).bt with control := btControl param.toNat slot.toNat 2, sram := sram,
                                          length := length, dramLow := offset, running := true, result := 0 } s t ∧
      SlotIs slot.toNat { s.xfer slot.toNat with state := .opened } s t ∧
      (∀ i < length.toNat, t.dramByte (s.stagingBase slot.toNat param.toNat + offset.toNat + i) =
        s.sramByte (sram.toNat + i)) ∧
      (∀ a, a < s.stagingBase slot.toNat param.toNat + offset.toNat ∨
        s.stagingBase slot.toNat param.toNat + offset.toNat + length.toNat ≤ a → t.dramByte a = s.dramByte a) ∧
      t.sram = s.sram ∧ Frame [] [] [.capstan, .transfers, .memory] s t := by
  let regs : BtPort → BtPort := fun b =>
    { b with control := btControl param.toNat slot.toNat 2, sram := sram, length := length, dramLow := offset }
  let v := s.begunBt core regs
  have below := s.stagingBase_le (State.ownsSlot_lt own) param.toNat
  have takes := State.dataBlock_takes (s := v) (rq := s.btRequester core)
    (p := param.toNat) (data := v.getSram sram.toNat length.toNat) permitted own (.inl opened)
    (by rwa [State.length_getSram])
  rw [← s.btRequester_begunBt core regs] at takes
  have staged : v.stagingBase slot.toNat param.toNat = s.stagingBase slot.toNat param.toNat := rfl
  rw [staged] at takes
  generalize s.stagingBase slot.toNat param.toNat = base at takes below staged ⊢
  obtain ⟨t, ht, port, frame, xfers, dram, sram'⟩ := completes_startBt (c := .btData core param slot sram length offset)
    (a := 0) (fs := [.capstan, .transfers, .memory]) rfl runs idle (regs := regs)
    (u := (v.setDram (base + offset.toNat) (v.getSram sram.toNat length.toNat)).setXfer slot.toNat
      { s.xfer slot.toNat with state := .opened }) (by
      dsimp only
      rw [if_pos extent]
      exact congrArg (fun q : OpResult => (q.1, q.2.1)) takes)
    (((portIs_begunBt s core regs).setDram _ _).congr rfl rfl)
    (((frame_begunBt s core regs _ (by decide)).setDram _ _ (by decide)).setXfer _ _ (by decide)) (by decide)
  have bytes : t.dram = (v.setDram (base + offset.toNat) (v.getSram sram.toNat length.toNat)).dram := dram
  refine ⟨t, ht, port, ?_, fun i hi => ?_, fun a ha => ?_, sram'.trans (State.setDram_sram ..), frame⟩
  · exact SlotIs.of_xfers xfers (congrArg Wdp.xfers (State.setDram_wdp v _ _))
  · rw [State.dramByte_congr bytes, State.dramByte_setDram_inside (by rwa [State.length_getSram]) _
      (by rw [State.length_getSram]; omega), State.getD_getSram _ hi]
    rfl
  · rw [State.dramByte_congr bytes]
    exact State.dramByte_setDram_outside _ _ _ (by rwa [State.length_getSram])

theorem completes_btCommit {param : Half} {slot : BitVec 4} {digest : Word} (runs : s.coreRuns core = true)
    (idle : (s.core core).bt.running = false) (extent : sramExtent digest.toNat 32 = true)
    (permitted : s.permits (s.btRequester core) param.toNat = true)
    (own : s.ownsSlot (s.btRequester core) param.toNat slot.toNat = true)
    (opened : (s.xfer slot.toNat).state = .opened) (fresh : (s.xfer slot.toNat).result = none)
    (applet : param.toNat ≠ P.AppletImage) (relay : param.toNat ≠ P.RelayRequest) :
    Completes (.btCommit core param slot digest) s fun t =>
      PortIs core { (s.core core).bt with control := btControl param.toNat slot.toNat 3, digest := digest,
                                          running := true, result := 0x0F } s t ∧
      SlotIs slot.toNat { s.xfer slot.toNat with state := .verifying, digest := s.getSram digest.toNat 32 } s t ∧
      Frame [] [] [.capstan, .transfers] s t := by
  let regs : BtPort → BtPort := fun b => { b with control := btControl param.toNat slot.toNat 3, digest := digest }
  let v := s.begunBt core regs
  have starts := State.commitBlock_starts (s := v) (rq := s.btRequester core) (p := param.toNat)
    (digest := v.getSram digest.toNat 32) permitted own opened fresh applet relay
  rw [← s.btRequester_begunBt core regs] at starts
  obtain ⟨t, ht, port, frame, xfers, -, -⟩ := completes_startBt (c := .btCommit core param slot digest) (a := 0x0F)
    (fs := [.capstan, .transfers]) rfl runs idle (regs := regs) (u := v.setXfer slot.toNat
      { s.xfer slot.toNat with state := .verifying, digest := v.getSram digest.toNat 32 }) (by
      dsimp only
      rw [if_pos extent]
      exact congrArg (fun q : OpResult => (q.1, q.2.1)) starts)
    ((portIs_begunBt s core regs).congr rfl rfl) ((frame_begunBt s core regs _ (by decide)).setXfer _ _ (by decide))
    (by decide)
  refine ⟨t, ht, port, ?_, frame⟩
  rw [← State.getSram_congr (show v.sram = s.sram from rfl)]
  exact SlotIs.of_xfers (t := v) xfers rfl

theorem completes_btAbort {param : Half} {slot : BitVec 4} (runs : s.coreRuns core = true)
    (idle : (s.core core).bt.running = false) (permitted : s.permits (s.btRequester core) param.toNat = true)
    (own : s.ownsSlot (s.btRequester core) param.toNat slot.toNat = true)
    (unlatched : (s.xfer slot.toNat).state ≠ .latchPending) (unwritten : (s.xfer slot.toNat).writing = false) :
    Completes (.btAbort core param slot false) s fun t =>
      PortIs core { (s.core core).bt with control := btControl param.toNat slot.toNat 4, running := true, result := 0 }
        s t ∧
      SlotIs slot.toNat Xfer.free s t ∧ Frame [] [] [.capstan, .transfers, .twin] s t := by
  let regs : BtPort → BtPort := fun b => { b with control := btControl param.toNat slot.toNat 4 }
  let v := s.begunBt core regs
  have frees := State.abortBlock_frees (s := v) (rq := s.btRequester core) (p := param.toNat) permitted own unlatched unwritten
  rw [← s.btRequester_begunBt core regs] at frees
  obtain ⟨t, ht, port, frame, xfers, -, -⟩ := completes_startBt (c := .btAbort core param slot false) (a := 0)
    (fs := [.capstan, .transfers, .twin]) rfl runs idle (regs := regs) (u := v.freeSlot slot.toNat)
    (congrArg (fun q : OpResult => (q.1, q.2.1)) frees) ((portIs_begunBt s core regs).congr rfl rfl)
    ((frame_begunBt s core regs _ (by decide)).freeSlot _ (by decide) (by decide)) (by decide)
  exact ⟨t, ht, port, SlotIs.of_xfers (t := v) xfers rfl, frame⟩

theorem completes_btAbort_completed {param : Half} {slot : BitVec 4} (runs : s.coreRuns core = true)
    (idle : (s.core core).bt.running = false) (permitted : s.permits (s.btRequester core) param.toNat = true) :
    Completes (.btAbort core param slot true) s fun t =>
      PortIs core { (s.core core).bt with control := btControl param.toNat slot.toNat 4, running := true,
                                          result := 0x0D } s t ∧ Frame [] [] [.capstan] s t := by
  let regs : BtPort → BtPort := fun b => { b with control := btControl param.toNat slot.toNat 4 }
  have completed := State.abortBlock_completed (s := s.begunBt core regs) (rq := s.btRequester core)
    (p := param.toNat) (slot := slot.toNat) permitted (.inl (rfl : true = true))
  rw [← s.btRequester_begunBt core regs] at completed
  obtain ⟨t, ht, port, frame, -⟩ := completes_startBt (c := .btAbort core param slot true) (a := 0x0D)
    (fs := [.capstan]) rfl runs idle (regs := regs) (congrArg (fun q : OpResult => (q.1, q.2.1)) completed)
    (portIs_begunBt s core regs) (frame_begunBt s core regs _ (by decide)) (by decide)
  exact ⟨t, ht, port, frame⟩

theorem State.readBlock_reads {rq : Requester} {p off len : Nat} {r : Row} (row : Dict.row p = some r)
    (blob : r.ty = .blob) (readable : r.acc ≠ .wo) (level : r.readLevel ≤ s.level rq)
    (reaches : s.reaches p false = true) : s.readBlock rq p off len = (s, 0, sliceBytes (s.body p) off len) := by
  unfold State.readBlock
  rw [row]
  dsimp only
  rw [if_neg (by simp [blob, Nat.not_lt.mpr level, reaches]), if_neg readable]

theorem completes_btRead {param : Half} {sram length offset : Word} {r : Row} (runs : s.coreRuns core = true)
    (idle : (s.core core).bt.running = false) (extent : sramExtent sram.toNat length.toNat = true)
    (row : Dict.row param.toNat = some r) (blob : r.ty = .blob) (readable : r.acc ≠ .wo)
    (level : r.readLevel ≤ s.level (s.btRequester core)) (reaches : s.reaches param.toNat false = true) :
    Completes (.btRead core param sram length offset) s fun t =>
      PortIs core { (s.core core).bt with control := btControl param.toNat 0 5, sram := sram, length := length,
                                          dramLow := offset, running := true, result := 0 } s t ∧
      (∀ i < (sliceBytes (s.body param.toNat) offset.toNat length.toNat).length, t.sramByte (sram.toNat + i) =
        (sliceBytes (s.body param.toNat) offset.toNat length.toNat).getD i 0) ∧
      (∀ a, a < sram.toNat ∨ sram.toNat + length.toNat ≤ a → t.sramByte a = s.sramByte a) ∧ t.dram = s.dram ∧
      Frame [] [] [.capstan, .memory] s t := by
  let regs : BtPort → BtPort := fun b =>
    { b with control := btControl param.toNat 0 5, sram := sram, length := length, dramLow := offset }
  let v := s.begunBt core regs
  have reads : v.readBlock (s.btRequester core) param.toNat offset.toNat length.toNat =
      (v, 0, sliceBytes (s.body param.toNat) offset.toNat length.toNat) :=
    State.readBlock_reads (s := v) row blob readable level reaches
  rw [← s.btRequester_begunBt core regs] at reads
  have short : (sliceBytes (s.body param.toNat) offset.toNat length.toNat).length ≤ length.toNat := by
    rw [sliceBytes, List.length_take]
    exact Nat.min_le_left _ _
  generalize sliceBytes (s.body param.toNat) offset.toNat length.toNat = bytes at *
  have inside : sramExtent sram.toNat bytes.length = true := by
    unfold sramExtent at *
    rw [Bool.and_eq_true, decide_eq_true_eq, decide_eq_true_eq] at *
    exact ⟨extent.1, by omega⟩
  obtain ⟨t, ht, port, frame, -, dram, sram'⟩ := completes_startBt (c := .btRead core param sram length offset)
    (a := 0) (fs := [.capstan, .memory]) rfl runs idle (regs := regs) (u := v.setSram sram.toNat bytes) (by
      dsimp only
      rw [if_pos extent]
      exact congrArg (fun q : OpResult => (q.1.setSram sram.toNat q.2.2, q.2.1)) reads)
    ((portIs_begunBt s core regs).setSram _ _) ((frame_begunBt s core regs _ (by decide)).setSram _ _ (by decide))
    (by decide)
  refine ⟨t, ht, port, fun i hi => ?_, fun a ha => ?_, dram.trans (State.setSram_dram ..), frame⟩
  · rw [State.sramByte_congr sram', State.sramByte_setSram_inside hi _ inside]
  · rw [State.sramByte_congr sram']
    exact State.sramByte_setSram_outside _ _ _ (by omega)

/-- Settles O53, clause by clause: the copies each way, a busy port and a stopped core, the block operations, and the
end. -/
theorem localBlockTransferPorts : Obligations.LocalBlockTransferPorts := by
  unfold Obligations.LocalBlockTransferPorts
  refine ⟨?toDram, ?toSram, ?busy, ?stopped, ?opened, ?filled, ?commits, ?aborted, ?completed, ?reads, ?ends, ?idle⟩
  case toDram =>
    rintro s core sram length dramLow dramHigh ⟨runs, idle, hs, hl, hd, extent, fits⟩
    obtain ⟨t, act, ⟨own, rest, others, threads⟩, memory⟩ := completes_btCopy_toDram rfl runs idle hs hl hd extent fits
    exact ⟨t, act, own, rest, others, threads, memory⟩
  case toSram =>
    rintro s core sram length dramLow dramHigh ⟨runs, idle, hs, hl, hd, extent, fits⟩
    obtain ⟨t, act, ⟨own, rest, others, threads⟩, memory⟩ := completes_btCopy_toSram rfl runs idle hs hl hd extent fits
    exact ⟨t, act, own, rest, others, threads, memory⟩
  case busy =>
    rintro s core sram length dramLow dramHigh toDram ⟨runs, busy⟩
    obtain ⟨t, act, ⟨own, -, others, threads⟩, frame⟩ := completes_btCopy_busy runs busy
    exact ⟨t, act, own, others, threads, frame⟩
  case stopped =>
    rintro s core sram length dramLow dramHigh toDram stopped
    exact completes_btCopy_stopped stopped
  case opened =>
    rintro s core param total r n
      ⟨runs, idle, row, blob, permitted, active, unheld, size, gate, hn, free, lowest⟩
    obtain ⟨t, act, ⟨own, rest, others, threads⟩, ⟨slot, slots⟩, frame⟩ :=
      completes_btOpen runs idle row blob permitted active unheld size gate hn free lowest
    exact ⟨t, act, own, rest, others, threads, slot, slots, frame⟩
  case filled =>
    rintro s core param slot sram length offset ⟨runs, idle, extent, permitted, owns, filling, fits, area⟩
    obtain ⟨t, act, ⟨own, rest, others, threads⟩, ⟨filled, slots⟩, memory⟩ :=
      completes_btData runs idle extent permitted owns filling fits area
    exact ⟨t, act, own, rest, others, threads, filled, slots, memory⟩
  case commits =>
    rintro s core param slot digest ⟨runs, idle, extent, permitted, owns, filled, fresh, applet, relay⟩
    obtain ⟨t, act, ⟨own, rest, others, threads⟩, ⟨hashed, slots⟩, frame⟩ :=
      completes_btCommit runs idle extent permitted owns filled fresh applet relay
    exact ⟨t, act, own, rest, others, threads, hashed, slots, frame⟩
  case aborted =>
    rintro s core param slot ⟨runs, idle, permitted, owns, unlatched, unwritten⟩
    obtain ⟨t, act, ⟨own, rest, others, threads⟩, ⟨freed, slots⟩, frame⟩ :=
      completes_btAbort runs idle permitted owns unlatched unwritten
    exact ⟨t, act, own, rest, others, threads, freed, slots, frame⟩
  case completed =>
    rintro s core param slot ⟨runs, idle, permitted⟩
    obtain ⟨t, act, ⟨own, rest, others, threads⟩, frame⟩ := completes_btAbort_completed runs idle permitted
    exact ⟨t, act, own, rest, others, threads, frame⟩
  case reads =>
    rintro s core param sram length offset r ⟨runs, idle, extent, row, blob, readable, level, reaches⟩
    obtain ⟨t, act, ⟨own, rest, others, threads⟩, memory⟩ :=
      completes_btRead runs idle extent row blob readable level reaches
    exact ⟨t, act, own, rest, others, threads, memory⟩
  case ends =>
    rintro s core busy
    obtain ⟨t, act, ⟨own, -, others, threads⟩, frame⟩ := completes_btDone busy
    exact ⟨t, act, own, others, threads, frame⟩
  case idle =>
    rintro s core idle
    exact completes_btDone_idle idle

end Sys2Proof.Machine
end

section
namespace Sys2Proof.Machine

variable {s t u : State}

/-! ### Settings in force (R309) -/

theorem SMap.find_filter {V : Type} (f : Nat × V → Bool) {k : Nat} (keep : ∀ v, f (k, v) = true) :
    ∀ m : SMap V, SMap.find (m.filter f) k = SMap.find m k
  | [] => rfl
  | (i, v) :: m => by
    rw [List.filter_cons, SMap.find]
    split
    · next kept => rw [SMap.find, SMap.find_filter f keep m]
    · next gone =>
      rw [if_neg fun h : i = k => gone (h ▸ keep v), SMap.find_filter f keep m]

theorem State.mset_of_cycleSetting {p e : Nat} (inForce : t.masthead.inForce = s.regs.filter fun kv => cycleSetting kv.1)
    (h : cycleSetting (Dict.key p e) = true) : t.mset p e = s.rd p e := by
  unfold State.mset State.rd SMap.get
  rw [inForce, SMap.find_filter (fun kv => cycleSetting kv.1) (k := Dict.key p e) (fun _ => h)]

theorem State.mset_congr (h : t.masthead.inForce = s.masthead.inForce) (p e : Nat) : t.mset p e = s.mset p e := by
  unfold State.mset
  rw [h]

theorem cycleSetting_key {p : Nat} (h : p ∈ [P.MastheadControl, P.LoopGain, P.LoopMin, P.PdReference, P.DerateStart,
    P.DerateEnd, P.DerateMin, P.ShutdownTemp] ++ (List.range 8).map (P.GlobalCurrent + ·)) (e : Nat) :
    cycleSetting (Dict.key p e) = true := by
  have key : Dict.key p e / 256 = p := by
    unfold Dict.key
    omega
  unfold cycleSetting
  rw [key]
  clear key
  revert p
  decide

/-! ### Thermal limits at a cycle start (R314 to R316) -/

/-- The dictionary parameters that a cycle start may write. -/
def cycleParams : List Nat :=
  [P.MastheadStatus, P.CycleLength, P.ActiveTicks, P.LedOpenMask, P.RasterStatus, P.IgnoredLast, P.DerateFactor]

/-- What the thermal limits leave: all but the status, the derating factor and the note that it resumes. -/
structure ThermalKeeps (s t : State) : Prop where
  frame : Frame cycleParams [] [.masthead] s t
  live : t.live = s.live
  trim : t.trim = s.trim
  masthead : t.masthead = { s.masthead with resuming := t.masthead.resuming }
  rd : ∀ p e, p ∉ housekeeping → p ≠ P.MastheadStatus → p ≠ P.DerateFactor → t.rd p e = s.rd p e

theorem ThermalKeeps.refl (s : State) : ThermalKeeps s s := ⟨.refl .., rfl, rfl, rfl, fun _ _ _ _ _ => rfl⟩

theorem ThermalKeeps.trans (h : ThermalKeeps s t) (k : ThermalKeeps t u) : ThermalKeeps s u where
  frame := h.frame.trans k.frame
  live := k.live.trans h.live
  trim := k.trim.trans h.trim
  masthead := by
    rw [k.masthead, h.masthead]
  rd p e hp status factor := (k.rd p e hp status factor).trans (h.rd p e hp status factor)

theorem thermalKeeps_setBit (s : State) (i : Nat) (b : Bool) : ThermalKeeps s (s.setBit P.MastheadStatus 0 i b) where
  frame := (Frame.refl ..).setBit _ _ _ _ (by decide)
  live := rfl
  trim := rfl
  masthead := rfl
  rd p e _ status _ := State.rd_setBit_param _ _ _ _ _ _ _ status

theorem State.rd_thermalEvent (s : State) (kind : Nat) {p : Nat} (e : Nat) (hp : p ∉ housekeeping) :
    (s.thermalEvent kind).rd p e = s.rd p e := by
  unfold State.thermalEvent
  dsimp only
  rw [State.rd_event _ _ _ _ _ _ _ hp, State.rd_log _ _ _ _ _ _ _ _ hp]

theorem thermalKeeps_thermalEvent (s : State) (kind : Nat) : ThermalKeeps s (s.thermalEvent kind) where
  frame := by
    unfold State.thermalEvent
    exact ((Frame.refl ..).log _ _ _ _ _).event _ _ _ _
  live := by simp [State.thermalEvent]
  trim := by simp [State.thermalEvent]
  masthead := by rw [State.thermalEvent, State.event_masthead, State.log_masthead]
  rd p e hp _ _ := s.rd_thermalEvent kind e hp

theorem thermalKeeps_thermalBit (s : State) (i kind : Nat) (b : Bool) : ThermalKeeps s (s.thermalBit i kind b) := by
  unfold State.thermalBit
  dsimp only
  split
  · exact (thermalKeeps_setBit s i b).trans (thermalKeeps_thermalEvent _ kind)
  · exact thermalKeeps_setBit s i b

theorem State.bit_thermalBit (s : State) (i kind j : Nat) (b : Bool) (h : j < 64) :
    (s.thermalBit i kind b).bit P.MastheadStatus 0 j = if j = i then b else s.bit P.MastheadStatus 0 j := by
  rw [← State.bit_setBit s P.MastheadStatus 0 i j b h]
  unfold State.thermalBit
  dsimp only
  split
  · exact State.bit_congr (State.rd_thermalEvent _ _ _ (by decide)) j
  · rfl

theorem State.rd_thermalBit (s : State) (i kind p e : Nat) (b : Bool) (h : p ≠ P.MastheadStatus)
    (hp : p ∉ housekeeping) :
    (s.thermalBit i kind b).rd p e = s.rd p e := by
  unfold State.thermalBit
  dsimp only
  split
  · rw [State.rd_thermalEvent _ _ _ hp, State.rd_setBit_param _ _ _ _ _ _ _ h]
  · exact State.rd_setBit_param _ _ _ _ _ _ _ h

theorem State.masthead_thermalBit (s : State) (i kind : Nat) (b : Bool) :
    (s.thermalBit i kind b).masthead = s.masthead := by
  unfold State.thermalBit State.thermalEvent
  dsimp only
  split <;> simp

theorem thermalKeeps_setDerate (s : State) (f : Wide) : ThermalKeeps s (s.setDerate f) := by
  refine ThermalKeeps.trans (t := s.wr P.DerateFactor 0 f) ?_ (thermalKeeps_thermalBit ..)
  exact ⟨(Frame.refl ..).wr _ _ _ (by decide), rfl, rfl, rfl, fun p e _ _ h => State.rd_wr_param _ _ _ _ _ _ h⟩

theorem State.rd_setDerate (s : State) (f : Wide) : (s.setDerate f).rd P.DerateFactor 0 = f := by
  unfold State.setDerate
  rw [State.rd_thermalBit _ _ _ _ _ _ (by decide) (by decide), State.rd_wr_same]

theorem State.masthead_setDerate (s : State) (f : Wide) : (s.setDerate f).masthead = s.masthead :=
  State.masthead_thermalBit ..

theorem State.shutdown_setDerate (s : State) (f : Wide) :
    (s.setDerate f).bit P.MastheadStatus 0 5 = s.bit P.MastheadStatus 0 5 := by
  unfold State.setDerate
  rw [State.bit_thermalBit _ _ _ _ _ (by decide), if_neg (by decide)]
  exact State.bit_congr (State.rd_wr_param _ _ _ _ _ _ (by decide)) _

/-- The thermal bits that follow the conversions change nothing that the limits read. -/
theorem thermalKeeps_reportNtc (s : State) : ThermalKeeps s s.reportNtc :=
  ((thermalKeeps_thermalBit ..).trans (thermalKeeps_thermalBit ..)).trans (thermalKeeps_thermalBit ..)

theorem State.rd_reportNtc (s : State) {p : Nat} (h : p ≠ P.MastheadStatus) (hp : p ∉ housekeeping) (e : Nat) :
    s.reportNtc.rd p e = s.rd p e := by
  unfold State.reportNtc
  dsimp only
  rw [State.rd_thermalBit _ _ _ _ _ _ h hp, State.rd_thermalBit _ _ _ _ _ _ h hp, State.rd_thermalBit _ _ _ _ _ _ h hp]

theorem State.shutdown_reportNtc (s : State) :
    s.reportNtc.bit P.MastheadStatus 0 5 = s.bit P.MastheadStatus 0 5 := by
  unfold State.reportNtc
  dsimp only
  rw [State.bit_thermalBit _ _ _ _ _ (by decide), if_neg (by decide), State.bit_thermalBit _ _ _ _ _ (by decide),
    if_neg (by decide), State.bit_thermalBit _ _ _ _ _ (by decide), if_neg (by decide)]

theorem State.masthead_reportNtc (s : State) : s.reportNtc.masthead = s.masthead := by
  unfold State.reportNtc
  dsimp only
  rw [State.masthead_thermalBit, State.masthead_thermalBit, State.masthead_thermalBit]

/-- What the shutdown limit does (R316): the bit, and the factor only where a shutdown ends. -/
structure ShutdownChecked (s t : State) : Prop extends ThermalKeeps s t where
  same : t.bit P.MastheadStatus 0 5 = s.bit P.MastheadStatus 0 5 →
    t.rd P.DerateFactor 0 = s.rd P.DerateFactor 0 ∧ t.masthead.resuming = s.masthead.resuming
  cool : s.bit P.MastheadStatus 0 5 = false → s.rdI P.NtcTemperature 0 16 < s.msetS16 P.ShutdownTemp →
    t.bit P.MastheadStatus 0 5 = false
  hot : s.bit P.MastheadStatus 0 5 = true → s.msetS16 P.ShutdownTemp - 80 < s.rdI P.NtcTemperature 0 16 →
    t.bit P.MastheadStatus 0 5 = true

theorem shutdownChecked_checkShutdown (s : State) : ShutdownChecked s s.checkShutdown := by
  unfold State.checkShutdown
  dsimp only
  split
  · next beyond =>
    have shut : (s.thermalBit 5 2 true).bit P.MastheadStatus 0 5 = true := by
      rw [State.bit_thermalBit _ _ _ _ _ (by decide), if_pos rfl]
    exact ⟨thermalKeeps_thermalBit .., fun _ => ⟨State.rd_thermalBit _ _ _ _ _ _ (by decide) (by decide),
      congrArg _ (State.masthead_thermalBit ..)⟩, fun _ under => absurd beyond (by omega), fun _ _ => shut⟩
  · next under =>
    split
    · next ends =>
      obtain ⟨low, shut⟩ := ends
      let v := (s.setBit P.MastheadStatus 0 5 false).setMast { s.masthead with resuming := true }
      have open_ : ((v.thermalEvent 3).setDerate (s.mset P.DerateMin 0)).bit P.MastheadStatus 0 5 = false := by
        rw [State.shutdown_setDerate, State.bit_congr (State.rd_thermalEvent _ _ _ (by decide))]
        exact (State.bit_setBit s _ _ _ _ _ (by decide)).trans (if_pos rfl)
      have resumes : ThermalKeeps s v := (thermalKeeps_setBit s 5 false).trans
        ⟨(Frame.refl ..).setMast _ (by decide), rfl, rfl, rfl, fun _ _ _ _ _ => rfl⟩
      refine ⟨(resumes.trans (thermalKeeps_thermalEvent ..)).trans (thermalKeeps_setDerate ..), fun same => ?_,
        fun _ _ => open_, fun _ warm => absurd low (by omega)⟩
      exact absurd (open_.symm.trans (same.trans shut)) (by decide)
    · exact ⟨.refl s, fun _ => ⟨rfl, rfl⟩, fun clear _ => clear, fun shut _ => shut⟩

/-- With derating off the factor is 32,768, but while it resumes (R315). -/
theorem thermalKeeps_freeDerate (s : State) : ThermalKeeps s s.freeDerate := by
  unfold State.freeDerate
  split
  · exact .refl s
  · exact thermalKeeps_setDerate ..

theorem State.shutdown_freeDerate (s : State) : s.freeDerate.bit P.MastheadStatus 0 5 = s.bit P.MastheadStatus 0 5 := by
  unfold State.freeDerate
  split
  · rfl
  · exact State.shutdown_setDerate ..

theorem State.rd_freeDerate_of_derateOn (h : s.derateOn = true) :
    s.freeDerate.rd P.DerateFactor 0 = s.rd P.DerateFactor 0 := by
  unfold State.freeDerate
  rw [if_pos (by simp [h])]

theorem State.rdN_freeDerate_of_off (off : s.derateOn = false) (h : s.masthead.resuming = false) :
    s.freeDerate.rdN P.DerateFactor 0 = 32768 := by
  unfold State.freeDerate
  split
  · next whole =>
    rw [off, h] at whole
    exact of_decide_eq_true whole
  · unfold State.rdN
    rw [State.rd_setDerate]
    rfl

end Sys2Proof.Machine
end

section
namespace Sys2Proof.Machine

variable {s t u : State}

/-! ### From the settings to the on-times -/

/-- What a cycle start has put in force before its pictures and engines, which leave it. -/
def Masthead.taken (m : Masthead) :
    SMap Wide × Option (List Byte) × Nat × Bool × SMap Nat × Option Nat :=
  (m.inForce, m.table, m.factor, m.burst, m.gain, m.cycle)

/-- What was put in force stands, and with it what the cycle start shows. -/
structure LampKeeps (s t : State) : Prop where
  frame : Frame cycleParams [] [.masthead] s t
  live : t.live = s.live
  taken : t.masthead.taken = s.masthead.taken
  rd : ∀ p e, p ∉ housekeeping → p ≠ P.MastheadStatus → p ≠ P.RasterStatus → p ≠ P.IgnoredLast → t.rd p e = s.rd p e
  shutdown : t.bit P.MastheadStatus 0 5 = s.bit P.MastheadStatus 0 5

theorem LampKeeps.refl (s : State) : LampKeeps s s := ⟨.refl .., rfl, rfl, fun _ _ _ _ _ _ => rfl, rfl⟩

theorem LampKeeps.trans (h : LampKeeps s t) (k : LampKeeps t u) : LampKeeps s u where
  frame := h.frame.trans k.frame
  live := k.live.trans h.live
  taken := k.taken.trans h.taken
  rd p e hp status raster ignored := (k.rd p e hp status raster ignored).trans (h.rd p e hp status raster ignored)
  shutdown := k.shutdown.trans h.shutdown

theorem LampKeeps.foldl {α : Type} {f : State → α → State} (hf : ∀ t a, LampKeeps t (f t a)) :
    ∀ (l : List α) {t : State}, LampKeeps s t → LampKeeps s (l.foldl f t)
  | [], _, h => h
  | a :: l, t, h => LampKeeps.foldl hf l (h.trans (hf t a))

theorem lampKeeps_setMast (s : State) {m : Masthead} (h : m.taken = s.masthead.taken) : LampKeeps s (s.setMast m) :=
  ⟨(Frame.refl ..).setMast _ (by decide), rfl, h, fun _ _ _ _ _ _ => rfl, rfl⟩

theorem lampKeeps_setBit (s : State) (i : Nat) (b : Bool) (h : 5 ≠ i) : LampKeeps s (s.setBit P.MastheadStatus 0 i b) where
  frame := (Frame.refl ..).setBit _ _ _ _ (by decide)
  live := rfl
  taken := rfl
  rd p e _ status _ _ := State.rd_setBit_param _ _ _ _ _ _ _ status
  shutdown := (State.bit_setBit s _ _ _ _ _ (by decide)).trans (if_neg h)

theorem lampKeeps_wr (s : State) {p : Nat} (v : Wide) (h : p = P.RasterStatus ∨ p = P.IgnoredLast) :
    LampKeeps s (s.wr p 0 v) where
  frame := (Frame.refl ..).wr _ _ _ (.inl (by obtain rfl | rfl := h <;> decide))
  live := rfl
  taken := rfl
  rd q e _ _ raster ignored := State.rd_wr_param _ _ _ _ _ _ (by obtain rfl | rfl := h <;> assumption)
  shutdown := State.bit_congr (State.rd_wr_param _ _ _ _ _ _ (by obtain rfl | rfl := h <;> decide)) _

theorem lampKeeps_log (s : State) (a b c : Nat) (x y : Word) : LampKeeps s (s.log a b c x y) where
  frame := (Frame.refl ..).log _ _ _ _ _
  live := State.log_live ..
  taken := by rw [State.log_masthead]
  rd _ _ hp _ _ _ := State.rd_log _ _ _ _ _ _ _ _ hp
  shutdown := State.bit_congr (State.rd_log _ _ _ _ _ _ _ _ (by decide)) _

theorem lampKeeps_settle (s : State) : LampKeeps s s.settle where
  frame := (Frame.refl ..).settle
  live := State.settle_live s
  taken := by rw [State.settle_masthead]
  rd _ _ hp _ _ _ := State.rd_settle _ _ _ hp
  shutdown := State.bit_congr (State.rd_settle _ _ _ (by decide)) _

theorem lampKeeps_setEngine (s : State) (e : Nat) (x : Engine) : LampKeeps s (s.setEngine e x) :=
  lampKeeps_setMast s rfl

theorem lampKeeps_engineCycle (now : Nat) (s : State) (e : Nat) : LampKeeps s (s.engineCycle now e) := by
  unfold State.engineCycle
  extract_lets x cs waits
  clear_value waits
  split
  · exact .refl s
  · split
    · split
      · exact lampKeeps_setEngine ..
      · exact .refl s
    · dsimp only
      split
      · exact (lampKeeps_setEngine ..).trans (lampKeeps_log ..)
      · exact lampKeeps_setEngine ..

theorem lampKeeps_stopEngines (s : State) (l : List Nat) : LampKeeps s (l.foldl State.stopEngine s) :=
  .foldl (fun t e => lampKeeps_setEngine t e Engine.init) l (.refl s)

theorem lampKeeps_applyLamp (s : State) (e : T32) : LampKeeps s (s.applyLamp e) := by
  unfold State.applyLamp
  dsimp only
  split
  · exact .refl s
  · refine LampKeeps.trans ?_ (lampKeeps_wr _ _ (.inr rfl))
    split
    · refine LampKeeps.trans ?_ (lampKeeps_stopEngines ..)
      exact lampKeeps_setMast s rfl
    · exact lampKeeps_setMast s rfl

theorem lampKeeps_applyRaster (s : State) : LampKeeps s s.applyRaster := by
  unfold State.applyRaster
  dsimp only
  split
  · refine LampKeeps.trans ?_ (lampKeeps_wr _ _ (.inl rfl))
    exact lampKeeps_setMast s rfl
  · exact .refl s

/-- The on-times of a cycle of `l` ns and `n` ticks, and whether there are any. -/
def State.cycleFormed (s : State) (l n : Nat) : State :=
  (s.setMast { s.masthead with length := l, ticks := n, onTime := s.formOnTimes n }).setBit P.MastheadStatus 0 0
    (!(s.formOnTimes n).isEmpty)

theorem lampKeeps_cycleFormed (s : State) (l n : Nat) : LampKeeps s (s.cycleFormed l n) := by
  refine LampKeeps.trans ?_ (lampKeeps_setBit _ _ _ (by decide))
  exact lampKeeps_setMast s rfl

theorem LampKeeps.inForce (h : LampKeeps s t) : t.masthead.inForce = s.masthead.inForce :=
  congrArg (fun k => k.1) h.taken

theorem State.nextCycle_congr (live : t.live = s.live) (inForce : t.masthead.inForce = s.masthead.inForce) (e : Nat) :
    t.nextCycle e = s.nextCycle e := by
  have lv : ∀ p e, t.lv p e = s.lv p e := fun p e => by rw [State.lv, live, State.lv]
  unfold State.nextCycle State.pwmLocked State.lampLock lvS32 State.lvN
  simp only [State.mset_congr inForce, lv]

theorem State.activeTicks_congr (inForce : t.masthead.inForce = s.masthead.inForce) (l : Nat) :
    t.activeTicks l = s.activeTicks l := by
  unfold State.activeTicks State.lampStatic State.activeTime State.slotTime
  simp only [State.mset_congr inForce]

/-- What the cycle that ends shows: its open sinks, its length and its ticks. -/
def State.cycleEnded (s : State) (failed : BitVec 48) : State := match s.masthead.cycle with
  | some c =>
    let t := (s.updateOpen failed).ageRows
    (t.wr P.CycleLength 0 (BitVec.ofNat 64 ((s.fullTime - c) % 2 ^ 32))).wr P.ActiveTicks 0
      (BitVec.ofNat 64 t.masthead.ticks)
  | none => s.ageRows

/-- The state with the settings of the cycle that starts at the present time in force. -/
def State.cycleTaken (s : State) (failed : BitVec 48) : State :=
  let t := (s.cycleEnded failed).takeSettings
  t.setMast { t.masthead with cycle := some s.fullTime }

/-- A cycle start of a running Masthead: after the settings, its length, ticks and on-times are formed from a state in
which they stand. -/
theorem State.startPwm_of_lampRuns (runs : s.lampRuns = true) (failed : BitVec 48) : ∃ x l, LampKeeps (s.cycleTaken failed) x ∧
    l = (x.nextCycle s.fullTime - (s.fullTime : Int)).toNat ∧
    s.startPwm failed = x.cycleFormed l (x.activeTicks l) := by
  unfold State.startPwm
  rw [if_neg (by simp [runs])]
  extract_lets now ended reported settled m taken applied m' picture l locked flagged n x onTime m'' formed
  have starts : taken = s.cycleTaken failed := rfl
  have pictured : LampKeeps taken picture := by
    have shown : LampKeeps taken applied := (lampKeeps_applyLamp ..).trans (lampKeeps_applyRaster ..)
    refine iteInduction (fun _ => LampKeeps.trans (shown.trans ?_) (lampKeeps_stopEngines ..)) fun _ => shown
    exact lampKeeps_setMast _ rfl
  have flags : LampKeeps picture flagged := by
    have lock : LampKeeps picture locked := lampKeeps_setBit _ _ _ (by decide)
    exact iteInduction (fun _ => lock) fun _ => lock.trans (lampKeeps_setBit _ _ _ (by decide))
  have cycles : LampKeeps flagged x := .foldl (lampKeeps_engineCycle now) _ (.refl _)
  refine ⟨x, l, starts ▸ (pictured.trans flags).trans cycles, ?_, ?_⟩
  · rw [State.nextCycle_congr (flags.trans cycles).live (flags.trans cycles).inForce]
  · rw [State.activeTicks_congr cycles.inForce]
    rfl

end Sys2Proof.Machine
end

section
namespace Sys2Proof.Machine

variable {s t u : State}

/-! ### The cycle that ends, and the settings of the one that starts -/

theorem State.updateOpen_eq (s : State) (failed : BitVec 48) :
    ∃ g, s.updateOpen failed = { s with regs := g } ∧ (∀ p e, p ≠ P.LedOpenMask → (s.updateOpen failed).rd p e = s.rd p e) ∧
      Frame cycleParams [] [.masthead] s (s.updateOpen failed) := by
  unfold State.updateOpen
  dsimp only
  generalize (List.range 48).filter _ = long
  induction long generalizing s with
  | nil => exact ⟨s.regs, rfl, fun _ _ _ => rfl, .refl ..⟩
  | cons i long ih =>
    obtain ⟨g, rest, rd, frame⟩ := ih (s.setBit P.LedOpenMask 0 i (failed.getLsbD i))
    refine ⟨g, rest, fun p e h => (rd p e h).trans (State.rd_setBit_param _ _ _ _ _ _ _ h), ?_⟩
    exact ((Frame.refl ..).setBit _ _ _ _ (by decide)).trans frame

/-- What the end of a cycle leaves. -/
structure CycleEnded (s t : State) : Prop where
  frame : Frame cycleParams [] [.masthead] s t
  blobs : t.blobs = s.blobs
  trim : t.trim = s.trim
  burstWaits : t.masthead.burstWaits = s.masthead.burstWaits
  resuming : t.masthead.resuming = s.masthead.resuming
  rd : ∀ p e, p ≠ P.LedOpenMask → p ≠ P.CycleLength → p ≠ P.ActiveTicks → t.rd p e = s.rd p e

theorem CycleEnded.ageRows (h : CycleEnded s t) : CycleEnded s t.ageRows :=
  ⟨h.frame.setMast _ (by decide), h.blobs, h.trim, h.burstWaits, h.resuming, h.rd⟩

theorem CycleEnded.wr (h : CycleEnded s t) {p : Nat} (v : Wide) (hp : p = P.CycleLength ∨ p = P.ActiveTicks) :
    CycleEnded s (t.wr p 0 v) where
  frame := h.frame.wr _ _ _ (.inl (by obtain rfl | rfl := hp <;> decide))
  blobs := h.blobs
  trim := h.trim
  burstWaits := h.burstWaits
  resuming := h.resuming
  rd q e mask length ticks := (State.rd_wr_param _ _ _ _ _ _ (by obtain rfl | rfl := hp <;> assumption)).trans
    (h.rd q e mask length ticks)

theorem cycleEnded_updateOpen (s : State) (failed : BitVec 48) : CycleEnded s (s.updateOpen failed) := by
  obtain ⟨g, regs, rd, frame⟩ := s.updateOpen_eq failed
  exact ⟨frame, by rw [regs], by rw [regs], by rw [regs], by rw [regs], fun p e mask _ _ => rd p e mask⟩

theorem cycleEnded_cycleEnded (s : State) (failed : BitVec 48) : CycleEnded s (s.cycleEnded failed) := by
  unfold State.cycleEnded
  split
  · exact ((cycleEnded_updateOpen s failed).ageRows.wr _ (.inl rfl)).wr _ (.inr rfl)
  · exact CycleEnded.ageRows ⟨.refl .., rfl, rfl, rfl, rfl, fun _ _ _ _ _ => rfl⟩

theorem State.rd_reported (s : State) (v w : Wide) :
    ((s.wr P.CycleLength 0 v).wr P.ActiveTicks 0 w).rd P.CycleLength 0 = v ∧
    ((s.wr P.CycleLength 0 v).wr P.ActiveTicks 0 w).rd P.ActiveTicks 0 = w := by
  rw [State.rd_wr_param _ _ _ _ _ _ (by decide), State.rd_wr_same, State.rd_wr_same]
  exact ⟨rfl, rfl⟩

/-- The cycle that ends shows its length and its ticks. -/
theorem State.shown_cycleEnded {c : Nat} (cycle : s.masthead.cycle = some c) (failed : BitVec 48) :
    (s.cycleEnded failed).rd P.CycleLength 0 = BitVec.ofNat 64 ((s.fullTime - c) % 2 ^ 32) ∧
    (s.cycleEnded failed).rd P.ActiveTicks 0 = BitVec.ofNat 64 s.masthead.ticks := by
  obtain ⟨g, regs, -⟩ := s.updateOpen_eq failed
  have ticks : (s.updateOpen failed).ageRows.masthead.ticks = s.masthead.ticks := by rw [regs]; rfl
  unfold State.cycleEnded
  rw [cycle, ← ticks]
  exact State.rd_reported ..

/-- The settings are in force and the thermal limits have followed them (R309, R315, R316). -/
structure LimitsTaken (s t : State) : Prop where
  frame : Frame cycleParams [] [.masthead] s t
  trim : t.trim = s.trim
  inForce : t.masthead.inForce = s.regs.filter fun kv => cycleSetting kv.1
  table : t.masthead.table = some (s.blob P.NtcTable)
  burstWaits : t.masthead.burstWaits = s.masthead.burstWaits
  rd : ∀ p e, p ∉ housekeeping → p ≠ P.MastheadStatus → p ≠ P.DerateFactor → t.rd p e = s.rd p e
  derated : s.bit P.MastheadControl 0 7 = true → t.bit P.MastheadStatus 0 5 = s.bit P.MastheadStatus 0 5 →
    t.rd P.DerateFactor 0 = s.rd P.DerateFactor 0
  whole : s.bit P.MastheadControl 0 7 = false → s.masthead.resuming = false →
    t.bit P.MastheadStatus 0 5 = s.bit P.MastheadStatus 0 5 → t.rdN P.DerateFactor 0 = 32768
  cool : s.bit P.MastheadStatus 0 5 = false →
    s.rdI P.NtcTemperature 0 16 < ((s.rd P.ShutdownTemp 0).setWidth 16).toInt → t.bit P.MastheadStatus 0 5 = false
  hot : s.bit P.MastheadStatus 0 5 = true →
    ((s.rd P.ShutdownTemp 0).setWidth 16).toInt - 80 < s.rdI P.NtcTemperature 0 16 → t.bit P.MastheadStatus 0 5 = true

/-- The settings of a cycle start, before the thermal limits. -/
def State.settingsTaken (s : State) : State :=
  s.setMast { s.masthead with inForce := s.regs.filter (fun kv => cycleSetting kv.1), table := some (s.blob P.NtcTable) }

theorem State.mset_settingsTaken {v : State} (s : State) (same : v.masthead.inForce = s.settingsTaken.masthead.inForce)
    {p : Nat} (h : cycleSetting (Dict.key p 0) = true) : v.mset p 0 = s.rd p 0 := State.mset_of_cycleSetting same h

theorem limitsTaken_freeDerate (s : State) : LimitsTaken s s.settingsTaken.reportNtc.checkShutdown.freeDerate := by
  have report := thermalKeeps_reportNtc s.settingsTaken
  have status := State.shutdown_reportNtc s.settingsTaken
  have factor := State.rd_reportNtc s.settingsTaken (p := P.DerateFactor) (by decide) (by decide) 0
  have ntc := report.rd P.NtcTemperature 0 (by decide) (by decide) (by decide)
  have resuming := congrArg Masthead.resuming (State.masthead_reportNtc s.settingsTaken)
  have limit := s.mset_settingsTaken (v := s.settingsTaken.reportNtc) (p := P.ShutdownTemp)
    (by rw [State.masthead_reportNtc]) rfl
  obtain ⟨check, same, cool, hot⟩ := shutdownChecked_checkShutdown s.settingsTaken.reportNtc
  unfold State.rdI State.msetS16 at cool hot
  rw [limit, ntc, status] at cool hot
  rw [status, factor, resuming] at same
  have control := s.mset_settingsTaken (v := s.settingsTaken.reportNtc.checkShutdown) (p := P.MastheadControl)
    (by rw [(report.trans check).masthead]) rfl
  have derates : s.settingsTaken.reportNtc.checkShutdown.derateOn = s.bit P.MastheadControl 0 7 := by
    unfold State.derateOn State.bit
    rw [control]
  have shut := State.shutdown_freeDerate s.settingsTaken.reportNtc.checkShutdown
  have keeps := (report.trans check).trans (thermalKeeps_freeDerate _)
  refine ⟨?frame, keeps.trim, ?inForce, ?table, ?waits, keeps.rd, ?derated, ?whole, ?cool, ?hot⟩
  case frame => exact Frame.trans ((Frame.refl ..).setMast _ (by decide)) keeps.frame
  case inForce => rw [keeps.masthead]; rfl
  case table => rw [keeps.masthead]; rfl
  case waits => rw [keeps.masthead]; rfl
  case derated =>
    intro on unchanged
    rw [State.rd_freeDerate_of_derateOn (derates.trans on)]
    exact (same (shut.symm.trans unchanged)).1
  case whole =>
    intro off rests unchanged
    exact State.rdN_freeDerate_of_off (derates.trans off) ((same (shut.symm.trans unchanged)).2.trans rests)
  case cool => exact fun clear low => shut.trans (cool clear low)
  case hot => exact fun set high => shut.trans (hot set high)

/-- What a cycle start puts in force (R309, R312, R315). -/
structure CycleTaken (s t : State) : Prop where
  frame : Frame cycleParams [] [.masthead] s t
  cycle : t.masthead.cycle = some s.fullTime
  inForce : ∀ p e, cycleSetting (Dict.key p e) = true → p ∉ cycleParams → t.mset p e = s.rd p e
  table : t.masthead.table = some (s.blob P.NtcTable)
  factor : t.masthead.factor = t.rdN P.DerateFactor 0
  derated : s.bit P.MastheadControl 0 7 = true → t.bit P.MastheadStatus 0 5 = s.bit P.MastheadStatus 0 5 →
    t.rd P.DerateFactor 0 = s.rd P.DerateFactor 0
  whole : s.bit P.MastheadControl 0 7 = false → s.masthead.resuming = false →
    t.bit P.MastheadStatus 0 5 = s.bit P.MastheadStatus 0 5 → t.rdN P.DerateFactor 0 = 32768
  burst : t.masthead.burst = (s.masthead.burstWaits && s.trim.isNone)
  gain : ∀ c < 4, SMap.get 29491 t.masthead.gain c = s.rdN P.LoopCorrection c
  shown : ∀ c, s.masthead.cycle = some c → t.rd P.CycleLength 0 = BitVec.ofNat 64 ((s.fullTime - c) % 2 ^ 32) ∧
    t.rd P.ActiveTicks 0 = BitVec.ofNat 64 s.masthead.ticks
  cool : s.bit P.MastheadStatus 0 5 = false →
    s.rdI P.NtcTemperature 0 16 < ((s.rd P.ShutdownTemp 0).setWidth 16).toInt → t.bit P.MastheadStatus 0 5 = false
  hot : s.bit P.MastheadStatus 0 5 = true →
    ((s.rd P.ShutdownTemp 0).setWidth 16).toInt - 80 < s.rdI P.NtcTemperature 0 16 → t.bit P.MastheadStatus 0 5 = true

theorem SMap.get_foldl_set {V : Type} [DecidableEq V] (d : V) (f : Nat → V) : ∀ (keys : List Nat) (m : SMap V) (k : Nat),
    SMap.get d (keys.foldl (fun m j => SMap.set d m j (f j)) m) k = if k ∈ keys then f k else SMap.get d m k
  | [], _, _ => by simp
  | j :: keys, m, k => by
    rw [List.foldl_cons, SMap.get_foldl_set d f keys]
    by_cases h : k = j
    · subst h
      simp [SMap.get_set_same]
    · simp [h, SMap.get_set_other _ _ _ _ _ _ h]

/-- The settings that a cycle start takes from a state whose thermal limits have been followed. -/
def State.forced (s : State) (cycle : Nat) : State :=
  s.setMast { s.masthead with
    factor := s.rdN P.DerateFactor 0, burst := s.masthead.burstWaits && s.trim.isNone,
    burstWaits := s.masthead.burstWaits && !(s.masthead.burstWaits && s.trim.isNone),
    gain := (List.range 4).foldl (fun g c => SMap.set 29491 g c (s.rdN P.LoopCorrection c)) [], cycle := some cycle }

theorem State.cycleTaken_eq (s : State) (failed : BitVec 48) : s.cycleTaken failed =
    (s.cycleEnded failed).settingsTaken.reportNtc.checkShutdown.freeDerate.forced s.fullTime := by
  unfold State.cycleTaken State.takeSettings State.forced State.settingsTaken
  rfl

theorem cycleTaken_cycleTaken (s : State) (failed : BitVec 48) : CycleTaken s (s.cycleTaken failed) := by
  have ended := cycleEnded_cycleEnded s failed
  have shown := fun c => State.shown_cycleEnded (s := s) (c := c) (failed := failed)
  have limits := limitsTaken_freeDerate (s.cycleEnded failed)
  rw [State.cycleTaken_eq]
  generalize s.cycleEnded failed = b at *
  generalize b.settingsTaken.reportNtc.checkShutdown.freeDerate = f at *
  have kept : ∀ p e, p ∉ housekeeping → p ∉ cycleParams → f.rd p e = s.rd p e := fun p e hp other => by
    simp only [cycleParams, List.mem_cons, List.not_mem_nil, or_false, not_or] at other
    obtain ⟨status, length, ticks, mask, -, -, factor⟩ := other
    exact (limits.rd p e hp status factor).trans (ended.rd p e mask length ticks)
  have bits : ∀ p i, p ≠ P.LedOpenMask → p ≠ P.CycleLength → p ≠ P.ActiveTicks → b.bit p 0 i = s.bit p 0 i :=
    fun p i mask length ticks => State.bit_congr (ended.rd p 0 mask length ticks) i
  have control := bits P.MastheadControl 7 (by decide) (by decide) (by decide)
  have status := bits P.MastheadStatus 5 (by decide) (by decide) (by decide)
  have temperature : b.rdI P.NtcTemperature 0 16 = s.rdI P.NtcTemperature 0 16 := by
    unfold State.rdI
    rw [ended.rd P.NtcTemperature 0 (by decide) (by decide) (by decide)]
  have limit := ended.rd P.ShutdownTemp 0 (by decide) (by decide) (by decide)
  obtain ⟨frame, trim, inForce, table, waits, rd, derated, whole, cool, hot⟩ := limits
  rw [control, status, ended.rd P.DerateFactor 0 (by decide) (by decide) (by decide)] at derated
  rw [control, status, ended.resuming] at whole
  rw [status, temperature, limit] at cool hot
  refine ⟨(ended.frame.trans frame).setMast _ (by decide), rfl, fun p e setting other => ?_, ?_, rfl, derated, whole, ?_,
    fun c hc => ?_, fun c hc => ?_, cool, hot⟩
  · simp only [cycleParams, List.mem_cons, List.not_mem_nil, or_false, not_or] at other
    obtain ⟨-, length, ticks, mask, -⟩ := other
    exact (State.mset_of_cycleSetting inForce setting).trans (ended.rd p e mask length ticks)
  · exact table.trans (congrArg some (by unfold State.blob; rw [ended.blobs]))
  · show (f.masthead.burstWaits && f.trim.isNone) = _
    rw [waits, trim, ended.burstWaits, ended.trim]
  · refine (SMap.get_foldl_set 29491 (fun c => f.rdN P.LoopCorrection c) (List.range 4) [] c).trans ?_
    rw [if_pos (List.mem_range.mpr hc)]
    exact congrArg BitVec.toNat (kept _ _ (by decide) (by decide))
  · obtain ⟨length, ticks⟩ := shown c hc
    exact ⟨(rd _ _ (by decide) (by decide) (by decide)).trans length,
      (rd _ _ (by decide) (by decide) (by decide)).trans ticks⟩

end Sys2Proof.Machine
end

section
namespace Sys2Proof.Machine

variable {s t u : State}

/-! ### The on-times of a cycle (R303, R304) -/

theorem SMap.get_foldl_set_unless {V : Type} [DecidableEq V] (d : V) (skip : Nat → Bool) (f : Nat → V) :
    ∀ (keys : List Nat) (m : SMap V) (k : Nat),
    SMap.get d (keys.foldl (fun m j => if skip j then m else SMap.set d m j (f j)) m) k =
      if k ∈ keys ∧ skip k = false then f k else SMap.get d m k
  | [], _, _ => by simp
  | j :: keys, m, k => by
    rw [List.foldl_cons, SMap.get_foldl_set_unless d skip f keys]
    by_cases h : k = j
    · subst h
      cases skipped : skip k
      · simp [SMap.get_set_same]
      · simp
    · cases skipped : skip j
      · simp [h, SMap.get_set_other _ _ _ _ _ _ h]
      · simp [h]

theorem State.formOnTimes_of_dark (h : s.lampOn = false ∨ s.bit P.MastheadStatus 0 5 = true) (n : Nat) :
    s.formOnTimes n = [] := by
  unfold State.formOnTimes
  obtain h | h := h <;> simp [h]

/-- The on-time of a sink. -/
theorem State.get_formOnTimes (on : s.lampOn = true) (clear : s.bit P.MastheadStatus 0 5 = false) (n k : Nat) :
    SMap.get 0 (s.formOnTimes n) k = if k ∈ s.lampAll ∧ s.keyOff k = false then
      onTicks (s.shownValue s.sourceValues k)
        (if s.loopOn then SMap.get 29491 s.masthead.gain (s.sinkClass k) else 32768) s.masthead.factor n else 0 := by
  unfold State.formOnTimes
  rw [if_neg (by simp [on, clear])]
  exact SMap.get_foldl_set_unless ..

theorem State.sinkClass_lt (s : State) (k : Nat) : s.sinkClass k < 4 := by
  unfold State.sinkClass
  split <;> omega

/-- What the on-times are formed from, and what is formed, in a state after the cycle start. -/
structure FormedAs (l n : Nat) (s t : State) : Prop where
  masthead : t.masthead = { s.masthead with length := l, ticks := n, onTime := s.formOnTimes n }
  blobs : t.blobs = s.blobs
  rd : ∀ p e, p ∉ housekeeping → p ≠ P.MastheadStatus → t.rd p e = s.rd p e
  bits : ∀ i < 64, t.bit P.MastheadStatus 0 i = if i = 0 then !(s.formOnTimes n).isEmpty else s.bit P.MastheadStatus 0 i

theorem formedAs_cycleFormed (s : State) (l n : Nat) : FormedAs l n s (s.cycleFormed l n).settle where
  masthead := by
    rw [State.settle_masthead]
    rfl
  blobs := by
    rw [State.settle_blobs]
    rfl
  rd p e hp status := by
    rw [State.rd_settle _ _ _ hp]
    exact State.rd_setBit_param _ _ _ _ _ _ _ status
  bits i hi := by
    rw [State.bit_congr (State.rd_settle _ _ _ (by decide))]
    exact State.bit_setBit _ _ _ _ _ _ hi

section
variable {l n : Nat} (h : FormedAs l n s t)
include h

theorem FormedAs.mset (p e : Nat) : t.mset p e = s.mset p e := State.mset_congr (by rw [h.masthead]) p e

theorem FormedAs.lampStatic : t.lampStatic = s.lampStatic := by
  unfold State.lampStatic
  rw [h.mset]

theorem FormedAs.lampAll : t.lampAll = s.lampAll := by
  unfold State.lampAll
  rw [h.lampStatic]

theorem FormedAs.keyOff (k : Nat) : t.keyOff k = s.keyOff k := by
  unfold State.keyOff
  rw [h.lampStatic, State.bit_congr (h.rd P.SwitchLatched 0 (by decide) (by decide)), h.bits 3 (by decide),
    h.bits 9 (by decide)]
  rfl

theorem FormedAs.sinkClass (k : Nat) : t.sinkClass k = s.sinkClass k := by
  unfold State.sinkClass
  rw [h.lampStatic, h.mset]

theorem FormedAs.rasterValue (f k : Nat) : t.rasterValue f k = s.rasterValue f k := by
  unfold State.rasterValue State.blob
  rw [h.lampStatic, h.blobs]

theorem FormedAs.sourceValues : t.sourceValues = s.sourceValues := by
  unfold State.sourceValues State.lampRaster
  rw [h.mset, h.lampAll, h.lampStatic, h.masthead]
  simp only [h.rasterValue]

theorem FormedAs.fld {p : Nat} (e lo w : Nat) (hp : p ∉ housekeeping) (status : p ≠ P.MastheadStatus) :
    t.fld p e lo w = s.fld p e lo w := State.fld_congr (h.rd p e hp status)

theorem FormedAs.engine (e : Nat) : t.engine e = s.engine e := by
  unfold State.engine
  rw [h.masthead]

theorem FormedAs.channelOwner (c : Nat) : t.channelOwner c = s.channelOwner c := by
  unfold State.channelOwner State.engineFirst State.engineLast
  simp only [h.engine, h.fld _ _ _ (show P.EngineRange ∉ housekeeping by decide) (by decide)]

theorem FormedAs.shownValue (src : SMap Nat) (k : Nat) : t.shownValue src k = s.shownValue src k := by
  unfold State.shownValue
  simp only [h.lampStatic, h.channelOwner, h.engine,
    h.fld _ _ _ (show P.EngineColour ∉ housekeeping by decide) (by decide)]

end

/-- What every cycle start of a running Masthead ends in: its settings, and its length, ticks and on-times formed under
them. -/
structure CycleStarted (s x t : State) (l : Nat) : Prop where
  taken : ∃ a, CycleTaken s a ∧ LampKeeps a x ∧ LampKeeps a t
  length : l = (t.nextCycle s.fullTime - (s.fullTime : Int)).toNat
  formed : FormedAs l (t.activeTicks l) x t

theorem completes_pwmCycleStart (runs : s.lampRuns = true) (failed : BitVec 48) :
    ∃ t, exec (.pwmCycleStart failed) s = .next t ∧ ∃ x l, CycleStarted s x t l := by
  obtain ⟨x, l, keeps, length, start⟩ := State.startPwm_of_lampRuns runs failed
  have last : LampKeeps x (x.cycleFormed l (x.activeTicks l)).settle :=
    (lampKeeps_cycleFormed ..).trans (lampKeeps_settle _)
  refine ⟨_, congrArg done start, x, l, ⟨_, cycleTaken_cycleTaken s failed, keeps, keeps.trans last⟩, length.trans ?_, ?_⟩
  · rw [State.nextCycle_congr last.live last.inForce]
  · rw [State.activeTicks_congr last.inForce]
    exact formedAs_cycleFormed ..

theorem LampKeeps.mset (h : LampKeeps s t) (p e : Nat) : t.mset p e = s.mset p e := State.mset_congr h.inForce p e

/-- A setting in force after a cycle start. -/
theorem CycleStarted.mset {x : State} {l : Nat} (h : CycleStarted s x t l) {p : Nat} (e : Nat)
    (setting : cycleSetting (Dict.key p e) = true) (hp : p ∉ cycleParams) : t.mset p e = s.rd p e := by
  obtain ⟨a, taken, -, keeps⟩ := h.taken
  rw [keeps.mset, taken.inForce p e setting hp]

theorem CycleStarted.ticks {x : State} {l : Nat} (h : CycleStarted s x t l) : t.masthead.ticks = t.activeTicks l :=
  congrArg Masthead.ticks h.formed.masthead

theorem CycleStarted.onTime {x : State} {l : Nat} (h : CycleStarted s x t l) :
    t.masthead.onTime = x.formOnTimes t.masthead.ticks := by
  rw [h.ticks]
  exact congrArg Masthead.onTime h.formed.masthead

theorem CycleStarted.shows {x : State} {l : Nat} (h : CycleStarted s x t l) :
    t.bit P.MastheadStatus 0 0 = !t.masthead.onTime.isEmpty := by
  rw [h.formed.bits 0 (by decide), if_pos rfl, h.onTime, h.ticks]

/-- Sinks conduct as MastheadControl of the settings in force says. -/
theorem CycleStarted.lampOn {x : State} {l : Nat} (h : CycleStarted s x t l) :
    x.lampOn = s.bit P.MastheadControl 0 0 := by
  unfold State.lampOn
  rw [← h.formed.mset, h.mset 0 rfl (by decide)]
  rfl

/-- Thermal shutdown stands as the settings left it. -/
theorem CycleStarted.shutdown {x : State} {l : Nat} (h : CycleStarted s x t l) :
    x.bit P.MastheadStatus 0 5 = t.bit P.MastheadStatus 0 5 := (h.formed.bits 5 (by decide)).symm

/-- The on-time of a sink after a cycle start (R304). -/
theorem CycleStarted.get_onTime {x : State} {l : Nat} (h : CycleStarted s x t l) (on : s.bit P.MastheadControl 0 0 = true)
    (clear : t.bit P.MastheadStatus 0 5 = false) (k : Nat) : SMap.get 0 t.masthead.onTime k =
      if k ∈ t.lampAll ∧ t.keyOff k = false then
        onTicks (t.shownValue t.sourceValues k) (if t.loopOn then s.rdN P.LoopCorrection (t.sinkClass k) else 32768)
          (t.rdN P.DerateFactor 0) t.masthead.ticks else 0 := by
  obtain ⟨a, taken, keeps, final⟩ := h.taken
  have gain : x.masthead.gain = a.masthead.gain := congrArg (fun k => k.2.2.2.2.1) keeps.taken
  have factor : x.masthead.factor = t.rdN P.DerateFactor 0 := calc
    x.masthead.factor = a.masthead.factor := congrArg (fun k => k.2.2.1) keeps.taken
    _ = a.rdN P.DerateFactor 0 := taken.factor
    _ = t.rdN P.DerateFactor 0 := congrArg BitVec.toNat
      (final.rd P.DerateFactor 0 (by decide) (by decide) (by decide) (by decide)).symm
  have loop : t.loopOn = x.loopOn := by
    unfold State.loopOn
    rw [h.formed.mset]
  rw [h.onTime, State.get_formOnTimes (h.lampOn.trans on) (h.shutdown.trans clear), factor, gain,
    taken.gain _ (x.sinkClass_lt k), h.formed.lampAll, h.formed.keyOff, h.formed.sourceValues, h.formed.shownValue,
    h.formed.sinkClass, loop]

/-- What a cycle start shows and puts in force. -/
theorem CycleStarted.inForce {x : State} {l : Nat} (h : CycleStarted s x t l) :
    t.masthead.cycle = some s.fullTime ∧
    (∀ p ∈ [P.MastheadControl, P.LoopGain, P.LoopMin, P.PdReference, P.DerateStart, P.DerateEnd, P.DerateMin,
      P.ShutdownTemp] ++ (List.range 8).map (P.GlobalCurrent + ·), ∀ e < 48, t.mset p e = s.rd p e) ∧
    t.masthead.table = some (s.blob P.NtcTable) ∧ t.masthead.factor = t.rdN P.DerateFactor 0 ∧
    t.masthead.burst = (s.masthead.burstWaits && s.trim.isNone) ∧
    (∀ c < 4, SMap.get 29491 t.masthead.gain c = s.rdN P.LoopCorrection c) := by
  obtain ⟨a, taken, -, keeps⟩ := h.taken
  have cycle : t.masthead.cycle = a.masthead.cycle := congrArg (fun k => k.2.2.2.2.2) keeps.taken
  have gain : t.masthead.gain = a.masthead.gain := congrArg (fun k => k.2.2.2.2.1) keeps.taken
  have burst : t.masthead.burst = a.masthead.burst := congrArg (fun k => k.2.2.2.1) keeps.taken
  have factor : t.masthead.factor = a.masthead.factor := congrArg (fun k => k.2.2.1) keeps.taken
  have table : t.masthead.table = a.masthead.table := congrArg (fun k => k.2.1) keeps.taken
  have shown := keeps.rd P.DerateFactor 0 (by decide) (by decide) (by decide) (by decide)
  have others : ∀ p ∈ [P.MastheadControl, P.LoopGain, P.LoopMin, P.PdReference, P.DerateStart, P.DerateEnd, P.DerateMin,
      P.ShutdownTemp] ++ (List.range 8).map (P.GlobalCurrent + ·), p ∉ cycleParams := by decide
  refine ⟨cycle.trans taken.cycle, fun p hp e _ => h.mset e (cycleSetting_key hp e) (others p hp), table.trans taken.table,
    ?_, burst.trans taken.burst, fun c hc => ?_⟩
  · rw [factor, taken.factor, State.rdN, State.rdN, shown]
  · rw [gain, taken.gain c hc]

/-- What a cycle start shows of derating and of the cycle that ends. -/
theorem CycleStarted.derated {x : State} {l : Nat} (h : CycleStarted s x t l) :
    (s.bit P.MastheadControl 0 7 = true → t.bit P.MastheadStatus 0 5 = s.bit P.MastheadStatus 0 5 →
      t.rd P.DerateFactor 0 = s.rd P.DerateFactor 0) ∧
    (s.bit P.MastheadControl 0 7 = false → s.masthead.resuming = false →
      t.bit P.MastheadStatus 0 5 = s.bit P.MastheadStatus 0 5 → t.rdN P.DerateFactor 0 = 32768) ∧
    (∀ c, s.masthead.cycle = some c → t.rd P.CycleLength 0 = BitVec.ofNat 64 ((s.fullTime - c) % 2 ^ 32) ∧
      t.rd P.ActiveTicks 0 = BitVec.ofNat 64 s.masthead.ticks) ∧
    Frame cycleParams [] [.masthead] s t := by
  obtain ⟨a, taken, -, keeps⟩ := h.taken
  have factor := keeps.rd P.DerateFactor 0 (by decide) (by decide) (by decide) (by decide)
  have length := keeps.rd P.CycleLength 0 (by decide) (by decide) (by decide) (by decide)
  have ticks := keeps.rd P.ActiveTicks 0 (by decide) (by decide) (by decide) (by decide)
  rw [keeps.shutdown, State.rdN, factor, length, ticks]
  exact ⟨taken.derated, taken.whole, taken.shown, taken.frame.trans keeps.frame⟩

theorem CycleStarted.shutdown_clear {x : State} {l : Nat} (h : CycleStarted s x t l)
    (clear : s.bit P.MastheadStatus 0 5 = false)
    (low : s.rdI P.NtcTemperature 0 16 < ((s.rd P.ShutdownTemp 0).setWidth 16).toInt) :
    t.bit P.MastheadStatus 0 5 = false := by
  obtain ⟨a, taken, -, keeps⟩ := h.taken
  rw [keeps.shutdown, taken.cool clear low]

/-- No sink conducts while Masthead is disabled or in thermal shutdown. -/
theorem CycleStarted.onTime_of_dark {x : State} {l : Nat} (h : CycleStarted s x t l)
    (dark : s.bit P.MastheadControl 0 0 = false ∨ (s.bit P.MastheadStatus 0 5 = true ∧
      ((s.rd P.ShutdownTemp 0).setWidth 16).toInt - 80 < s.rdI P.NtcTemperature 0 16)) : t.masthead.onTime = [] := by
  obtain ⟨a, taken, -, keeps⟩ := h.taken
  rw [h.onTime, State.formOnTimes_of_dark]
  obtain off | ⟨set, warm⟩ := dark
  · exact .inl (h.lampOn.trans off)
  · exact .inr (by rw [h.shutdown, keeps.shutdown, taken.hot set warm])

/-! ### A raster commit -/

/-- The row of RasterCommit: write-only, its values the sixteen raster frames. -/
def rasterCommitRow : Row := { commandRow P.RasterCommit .u8 1 255 with hi := 15 }

theorem row_rasterCommit : Dict.row P.RasterCommit = some rasterCommitRow := by decide +kernel

theorem State.writeElement_rasterCommit (s : State) (via : Via) (v : Wide) :
    s.writeElement via rasterCommitRow 0 v = (s.commitRaster v.toNat, 0) :=
  State.writeElement_of_unmirrored rfl rfl

/-- A commit counts the one that it replaces. -/
def State.replaceRaster (s : State) : State :=
  if s.bit P.RasterStatus 0 12 then s.count P.RasterReplaceCount 0 else s

theorem State.rd_replaceRaster (s : State) : s.replaceRaster.rd P.RasterStatus 0 = s.rd P.RasterStatus 0 := by
  unfold State.replaceRaster
  split
  · exact State.rd_count _ _ _ _ _ (by decide) (by decide)
  · rfl

theorem State.rdN_replaceRaster (h : s.rdN P.RasterReplaceCount 0 < 0xFFFFFFFE) :
    s.replaceRaster.rdN P.RasterReplaceCount 0 = s.rdN P.RasterReplaceCount 0 + (s.bit P.RasterStatus 0 12).toNat := by
  unfold State.replaceRaster
  cases waiting : s.bit P.RasterStatus 0 12
  · rfl
  · exact State.rdN_countBy_lt s (by decide) (by omega)

theorem frame_commitRaster (s : State) (f : Nat) (fs : List Part) :
    Frame [P.SplitWriteCount] [(P.RasterStatus, 0), (P.RasterReplaceCount, 0)] fs s (s.commitRaster f) := by
  have counted : Frame [P.SplitWriteCount] [(P.RasterStatus, 0), (P.RasterReplaceCount, 0)] fs s s.replaceRaster :=
    iteInduction (fun _ => (Frame.refl ..).count _ _ (by decide)) fun _ => .refl ..
  exact (counted.setBit _ _ _ _ (by decide)).setFld _ _ _ _ _ (by decide)

/-- What a commit leaves in the raster status: the frame waits, and the frame shown stands. -/
theorem State.rasterStatus_commitRaster (s : State) (f : Nat) : (s.commitRaster f).bit P.RasterStatus 0 12 = true ∧
    (s.commitRaster f).fld P.RasterStatus 0 8 4 = f % 16 ∧
    (s.commitRaster f).fld P.RasterStatus 0 4 4 = s.fld P.RasterStatus 0 4 4 := by
  have set : (s.replaceRaster.setBit P.RasterStatus 0 12 true).bit P.RasterStatus 0 12 = true := by
    rw [State.bit_setBit _ _ _ _ _ _ (by decide), if_pos rfl]
  refine ⟨?_, State.fld_setFld_same _ _ _ _ _ _ (by decide), ?_⟩
  · refine Eq.trans ?_ set
    unfold State.commitRaster State.setFld State.bit
    rw [State.rd_wr_same, getLsbD_putField _ _ _ _ _ (by decide), if_neg (by decide)]
    rfl
  · calc (s.commitRaster f).fld P.RasterStatus 0 4 4
      _ = (s.replaceRaster.setBit P.RasterStatus 0 12 true).fld P.RasterStatus 0 4 4 :=
        State.fld_setFld_other _ _ _ _ _ _ _ _ (by decide) (by decide)
      _ = s.replaceRaster.fld P.RasterStatus 0 4 4 := State.fld_setFld_other _ _ _ _ _ _ _ _ (by decide) (by decide)
      _ = s.fld P.RasterStatus 0 4 4 := State.fld_congr s.rd_replaceRaster

theorem State.rdN_commitRaster (f : Nat) (h : s.rdN P.RasterReplaceCount 0 < 0xFFFFFFFE) :
    (s.commitRaster f).rdN P.RasterReplaceCount 0 =
      s.rdN P.RasterReplaceCount 0 + (s.bit P.RasterStatus 0 12).toNat := by
  rw [← State.rdN_replaceRaster h]
  refine congrArg BitVec.toNat (Eq.trans (State.rd_setFld_param _ _ _ _ _ _ _ _ (by decide)) ?_)
  exact State.rd_setBit_param _ _ _ _ _ _ _ (by decide)

/-- A granted raster commit. -/
theorem completes_rasterCommit {rq : Requester} {frame : Byte}
    (granted : s.grants rq P.RasterCommit 0 frame.toNat = true) : Completes (.rasterCommit rq frame) s fun t =>
      t.wdp.answer = ⟨0, []⟩ ∧ t.bit P.RasterStatus 0 12 = true ∧
      t.fld P.RasterStatus 0 8 4 = frame.toNat % 16 ∧ t.fld P.RasterStatus 0 4 4 = s.fld P.RasterStatus 0 4 4 ∧
      (s.rdN P.RasterReplaceCount 0 < 0xFFFFFFFE →
        t.rdN P.RasterReplaceCount 0 = s.rdN P.RasterReplaceCount 0 + (s.bit P.RasterStatus 0 12).toNat) ∧
      Frame [P.SplitWriteCount] [(P.RasterStatus, 0), (P.RasterReplaceCount, 0)] [.answer, .twin, .wdp] s t := by
  obtain ⟨t, ht, answer, kept, frames⟩ := completes_granted (c := .rasterCommit rq frame) rfl row_rasterCommit (by decide)
    granted (State.writeElement_rasterCommit ..)
    (frame_commitRaster (s.arbitrate rq) _ [.answer, .twin, .wdp]) (by decide)
  obtain ⟨waits, next, shown⟩ := (s.arbitrate rq).rasterStatus_commitRaster (BitVec.ofNat 64 frame.toNat).toNat
  have status := kept.rd (q := P.RasterStatus) (f := 0) (by decide) (by decide) (by decide) (by decide)
  have count := kept.rd (q := P.RasterReplaceCount) (f := 0) (by decide) (by decide) (by decide) (by decide)
  have before : ∀ p, (s.arbitrate rq).rd p 0 = s.rd p 0 := fun p => State.rd_congr (s.arbitrate_regs rq) p 0
  refine ⟨t, ht, answer, (State.bit_congr status 12).trans waits, ?_, ?_, fun low => ?_, frames⟩
  · rw [State.fld_congr status, next, toNat_ofNat_byte]
  · rw [State.fld_congr status, shown, State.fld_congr (before _)]
  · have counts := State.rdN_commitRaster (s := s.arbitrate rq) (BitVec.ofNat 64 frame.toNat).toNat
      (by rwa [State.rdN, before])
    rw [State.rdN, count]
    rw [State.rdN, State.rdN, before, State.bit_congr (before _)] at counts
    exact counts

theorem toNat_cycleLength {v : Wide} {n : Nat} (h : v = BitVec.ofNat 64 (n % 2 ^ 32)) : v.toNat = n % 2 ^ 32 := by
  rw [h, BitVec.toNat_ofNat]
  omega

/-- Settles O41: what the settings put in force stands to the end of the cycle start, where the on-times are formed. -/
theorem pwmCycleStart : Obligations.PwmCycleStart := by
  unfold Obligations.PwmCycleStart
  refine ⟨?starts, ?conducts, ?dark, ?stopped, ?commits⟩
  case starts =>
    rintro s failed runs
    obtain ⟨t, ht, x, l, h⟩ := completes_pwmCycleStart runs failed
    obtain ⟨cycle, settings, table, factor, burst, gain⟩ := h.inForce
    obtain ⟨derated, whole, shown, frame⟩ := h.derated
    have length : t.masthead.length = l := congrArg Masthead.length h.formed.masthead
    exact ⟨t, ht, cycle, settings, table, factor, derated, whole, burst, gain, length.trans h.length,
      length ▸ h.ticks, h.shows, fun c hc => ⟨(toNat_cycleLength (shown c hc).1), (shown c hc).2⟩, frame⟩
  case conducts =>
    rintro s failed ⟨runs, on, clear, low⟩
    obtain ⟨t, ht, x, l, h⟩ := completes_pwmCycleStart runs failed
    have cool := h.shutdown_clear clear low
    refine ⟨t, ht, fun k hk conducts => ?_, fun k _ off => ?_⟩
    · rw [h.get_onTime on cool, if_pos ⟨hk, conducts⟩]
    · rw [h.get_onTime on cool, if_neg fun k => Bool.noConfusion (k.2.symm.trans off)]
  case dark =>
    rintro s failed ⟨runs, dark⟩
    obtain ⟨t, ht, x, l, h⟩ := completes_pwmCycleStart runs failed
    have none := h.onTime_of_dark dark
    exact ⟨t, ht, none, by rw [h.shows, none]; rfl⟩
  case stopped =>
    rintro s failed stopped
    have act : exec (.pwmCycleStart failed) s = done s := congrArg done (if_pos (by simp [stopped]))
    exact ⟨_, act, (Frame.refl ..).settle⟩
  case commits =>
    rintro s rq frame granted
    exact completes_rasterCommit granted

end Sys2Proof.Machine
end

section
namespace Sys2Proof.Machine

variable {s t u : State}

/-! ### The shared resources (R430, R431) -/

theorem State.holder_congr {r : Nat} (h : t.rd P.MaintenanceStatus 0 = s.rd P.MaintenanceStatus 0) :
    t.holder r = s.holder r := State.fld_congr h

theorem State.holder_hold (s : State) (r code : Nat) (h : r + 3 ≤ 64) : (s.hold r code).holder r = code % 8 :=
  State.fld_setFld_same s _ _ _ _ _ h

theorem State.taken_of_holder {r : Nat} (h : s.holder r ≠ 0) : s.taken r = true := by
  unfold State.taken State.resourceFree
  simp [h]

theorem State.rd_release (s : State) (r : Nat) {p : Nat} (e : Nat) (hp : p ∉ housekeeping)
    (h : p ≠ P.MaintenanceStatus) : (s.release r).rd p e = s.rd p e := by
  unfold State.release
  dsimp only
  rw [State.rd_event _ _ _ _ _ _ _ hp, State.rd_setFld_param _ _ _ _ _ _ _ _ h]
  rfl

theorem State.holder_release (s : State) (r : Nat) (h : r + 3 ≤ 64) : (s.release r).holder r = 0 := by
  unfold State.release
  dsimp only
  rw [State.holder_congr (State.rd_event _ _ _ _ _ _ _ (by decide))]
  exact State.fld_setFld_same _ _ _ _ _ _ h

theorem Frame.release {ps : List Nat} {es : List (Nat × Nat)} {fs : List Part} (h : Frame ps es fs s t) (r : Nat)
    (hp : P.MaintenanceStatus ∈ ps ∨ (P.MaintenanceStatus, 0) ∈ es) : Frame ps es fs s (t.release r) := by
  unfold State.release
  dsimp only
  refine Frame.event _ _ _ _ (Frame.setFld _ _ _ _ _ (h.now _) ?_)
  exact hp.imp_right Or.inr

/-! ### The start of a Trim run (R324 to R326) -/

/-- The run that starts with the targets of TrimControl. -/
def State.trimRun (s : State) (automatic : Bool) : TrimRun :=
  { sweepStart := s.fullTime, sensor := (s.rd P.TrimControl 0).getLsbD 6,
    photodiodes := (s.rd P.TrimControl 0).getLsbD 5, sinks := (s.rd P.TrimControl 0).getLsbD 4, automatic := automatic,
    range := s.rdN P.PdRange 0, first := none, clamped := false }

/-- A run that has started. -/
structure TrimStarted (automatic : Bool) (s t : State) : Prop where
  frame : Frame [P.MaintenanceStatus] [(P.TrimStatus, 0)] [.trim, .masthead, .trouble] s t
  trim : t.trim = some (s.trimRun automatic)
  holds : t.holder Res.adc = 1
  masthead : t.masthead = { s.masthead with burst := false }
  running : t.fld P.TrimStatus 0 6 2 = 2
  automatic : t.bit P.TrimStatus 0 5 = automatic

theorem State.fld_setBit_other (s : State) (p e i lo n : Nat) (b : Bool) (h : lo + n ≤ i ∨ i + 1 ≤ lo)
    (h64 : lo + n ≤ 64) : (s.setBit p e i b).fld p e lo n = s.fld p e lo n :=
  State.fld_setFld_other s p e i 1 _ lo n h h64

theorem trimStarted_startTrim (s : State) (automatic : Bool) : TrimStarted automatic s (s.startTrim automatic) where
  frame := by
    have status : Frame [P.MaintenanceStatus] [(P.TrimStatus, 0)] [.trim, .masthead, .trouble] s
        ((((s.hold Res.adc Hold.trim).setFld P.TrimStatus 0 6 2 2).setBit P.TrimStatus 0 5 automatic).setBit
          P.TrimStatus 0 2 false) :=
      ((((Frame.refl ..).setFld _ _ _ _ _ (by decide)).setFld _ _ _ _ _ (by decide)).setBit _ _ _ _ (by decide)).setBit
        _ _ _ _ (by decide)
    exact status.parts rfl (by constructor <;> intros <;> first | rfl | exact ⟨rfl, rfl⟩ | contradiction)
  trim := rfl
  holds := by
    refine (State.holder_congr ?_).trans (s.holder_hold Res.adc Hold.trim (by decide))
    exact (State.rd_setBit_param _ _ _ 2 _ _ _ (by decide)).trans ((State.rd_setBit_param _ _ _ 5 _ _ _ (by decide)).trans
      (State.rd_setFld_param _ _ _ _ _ _ _ _ (by decide)))
  masthead := rfl
  running := calc
    (s.startTrim automatic).fld P.TrimStatus 0 6 2 = _ := State.fld_setBit_other _ _ _ 2 _ _ _ (by decide) (by decide)
    _ = _ := State.fld_setBit_other _ _ _ 5 _ _ _ (by decide) (by decide)
    _ = 2 := State.fld_setFld_same _ _ _ _ _ _ (by decide)
  automatic := calc
    (s.startTrim automatic).bit P.TrimStatus 0 5 = _ := State.bit_setBit _ _ _ 2 _ _ (by decide)
    _ = automatic := (if_neg (by decide)).trans ((State.bit_setBit _ _ _ _ _ _ (by decide)).trans (if_pos rfl))

theorem TrimStarted.settle {automatic : Bool} (h : TrimStarted automatic s t) : TrimStarted automatic s t.settle where
  frame := h.frame.settle
  trim := (State.settle_trim t).trans h.trim
  holds := (State.holder_congr (State.rd_settle _ _ _ (by decide))).trans h.holds
  masthead := (State.settle_masthead t).trans h.masthead
  running := (State.fld_congr (State.rd_settle _ _ _ (by decide))).trans h.running
  automatic := (State.bit_congr (State.rd_settle _ _ _ (by decide)) _).trans h.automatic

/-! ### The end of a Trim run (R328) -/

/-- The elements that the end of every run writes. -/
def trimEndElements : List (Nat × Nat) :=
  [(P.TrimControl, 0), (P.TrimStatus, 0), (P.RunTemperature, 0), (P.TrimRunCount, 0), (P.MaintenanceStatus, 0)]

/-- A run that has ended with a result code. -/
structure TrimEnded (code : Nat) (s t : State) : Prop where
  frame : Frame [] trimEndElements [.trim] s t
  trim : t.trim = none
  free : t.holder Res.adc = 0
  temperature : t.rd P.RunTemperature 0 = s.rd P.DieTemperature 0
  counted : s.rdN P.TrimRunCount 0 < 0xFFFFFFFE → t.rdN P.TrimRunCount 0 = s.rdN P.TrimRunCount 0 + 1
  idle : t.fld P.TrimStatus 0 6 2 = 0
  result : t.fld P.TrimStatus 0 8 8 = code

/-- What the end of a run writes before it counts and frees the converters. -/
def State.trimClosed (s : State) (code : Nat) : State :=
  let s := ((({ s with trim := none } : State).setFld P.TrimStatus 0 6 2 0).setFld P.TrimStatus 0 8 8 code).setBit
    P.TrimControl 0 1 false
  s.wr P.RunTemperature 0 (s.rd P.DieTemperature 0)

theorem State.endTrim_eq (s : State) (result cause : Nat) : s.endTrim result cause =
    ((s.trimClosed (result * 16 + cause)).count P.TrimRunCount 0).release Res.adc := by
  unfold State.endTrim State.trimClosed
  rfl

theorem frame_trimClosed (s : State) (code : Nat) : Frame [] trimEndElements [.trim] s (s.trimClosed code) := by
  have ended : Frame [] trimEndElements [.trim] s { s with trim := none } :=
    (Frame.refl ..).parts rfl (by constructor <;> intros <;> first | rfl | exact ⟨rfl, rfl⟩ | contradiction)
  exact (((ended.setFld _ _ _ _ _ (by decide)).setFld _ _ _ _ _ (by decide)).setBit _ _ _ _ (by decide)).wr _ _ _
    (by decide)

theorem State.rd_trimClosed (s : State) (code : Nat) {p : Nat} (hp : p ∉ [P.TrimStatus, P.TrimControl, P.RunTemperature]) :
    (s.trimClosed code).rd p 0 = s.rd p 0 := by
  simp only [List.mem_cons, List.not_mem_nil, or_false, not_or] at hp
  obtain ⟨status, control, temperature⟩ := hp
  unfold State.trimClosed
  dsimp only
  rw [State.rd_wr_param _ _ _ _ _ _ temperature, State.rd_setBit_param _ _ _ _ _ _ _ control,
    State.rd_setFld_param _ _ _ _ _ _ _ _ status, State.rd_setFld_param _ _ _ _ _ _ _ _ status]
  rfl

theorem State.temperature_trimClosed (s : State) (code : Nat) :
    (s.trimClosed code).rd P.RunTemperature 0 = s.rd P.DieTemperature 0 := by
  unfold State.trimClosed
  dsimp only
  rw [State.rd_wr_same, State.rd_setBit_param _ _ _ _ _ _ _ (by decide), State.rd_setFld_param _ _ _ _ _ _ _ _ (by decide),
    State.rd_setFld_param _ _ _ _ _ _ _ _ (by decide)]
  rfl

theorem State.status_trimClosed (s : State) {code : Nat} (h : code < 256) :
    (s.trimClosed code).fld P.TrimStatus 0 6 2 = 0 ∧ (s.trimClosed code).fld P.TrimStatus 0 8 8 = code := by
  have status : (s.trimClosed code).rd P.TrimStatus 0 =
      ((({ s with trim := none } : State).setFld P.TrimStatus 0 6 2 0).setFld P.TrimStatus 0 8 8 code).rd P.TrimStatus 0 :=
    (State.rd_wr_param _ _ _ _ _ _ (by decide)).trans (State.rd_setBit_param _ _ _ _ _ _ _ (by decide))
  rw [State.fld_congr status, State.fld_congr status, State.fld_setFld_same _ _ _ _ _ _ (by decide),
    State.fld_setFld_other _ _ _ _ _ _ _ _ (by decide) (by decide), State.fld_setFld_same _ _ _ _ _ _ (by decide)]
  exact ⟨rfl, Nat.mod_eq_of_lt h⟩

theorem trimEnded_endTrim (s : State) {result cause : Nat} (h : result * 16 + cause < 256) :
    TrimEnded (result * 16 + cause) s (s.endTrim result cause) := by
  rw [State.endTrim_eq]
  generalize result * 16 + cause = code at *
  have count := s.rd_trimClosed code (p := P.TrimRunCount) (by decide)
  obtain ⟨idle, shown⟩ := s.status_trimClosed h
  have temperature := s.temperature_trimClosed code
  have frame := frame_trimClosed s code
  have trim : (s.trimClosed code).trim = none := rfl
  generalize s.trimClosed code = v at *
  have last : ∀ p, p ∉ housekeeping → p ≠ P.MaintenanceStatus → p ≠ P.TrimRunCount →
      ((v.count P.TrimRunCount 0).release Res.adc).rd p 0 = v.rd p 0 := fun p hp hold counted =>
    (State.rd_release _ _ _ hp hold).trans (State.rd_count _ _ _ _ _ counted hp)
  refine ⟨(frame.count _ _ (by decide)).release _ (by decide), ?_, State.holder_release _ _ (by decide),
    (last _ (by decide) (by decide) (by decide)).trans temperature, fun low => ?_,
    (State.fld_congr (last _ (by decide) (by decide) (by decide))).trans idle,
    (State.fld_congr (last _ (by decide) (by decide) (by decide))).trans shown⟩
  · unfold State.release
    dsimp only
    rw [State.event_trim]
    exact (State.count_trim ..).trans trim
  · have counts := v.rdN_countBy_lt (p := P.TrimRunCount) (e := 0) (n := 1) (by decide) (by
      rw [State.rdN, count, ← State.rdN]
      omega)
    rw [State.rdN, State.rdN, count, ← State.rdN, ← State.rdN] at counts
    rw [State.rdN, State.rd_release _ _ _ (by decide) (by decide)]
    exact counts

theorem TrimEnded.settle {code : Nat} (h : TrimEnded code s t) : TrimEnded code s t.settle where
  frame := h.frame.settle
  trim := (State.settle_trim t).trans h.trim
  free := (State.holder_congr (State.rd_settle _ _ _ (by decide))).trans h.free
  temperature := (State.rd_settle _ P.RunTemperature 0 (by decide)).trans h.temperature
  counted low := (congrArg BitVec.toNat (State.rd_settle _ P.TrimRunCount 0 (by decide))).trans (h.counted low)
  idle := (State.fld_congr (State.rd_settle _ _ _ (by decide))).trans h.idle
  result := (State.fld_congr (State.rd_settle _ _ _ (by decide))).trans h.result

/-- What the statements say of the end of a run. -/
def TrimDone (code : Nat) (s t : State) : Prop :=
  t.trim = none ∧ t.holder Res.adc = 0 ∧ t.rd P.RunTemperature 0 = s.rd P.DieTemperature 0 ∧
    (s.rdN P.TrimRunCount 0 < 0xFFFFFFFE → t.rdN P.TrimRunCount 0 = s.rdN P.TrimRunCount 0 + 1) ∧
    t.fld P.TrimStatus 0 6 2 = 0 ∧ t.fld P.TrimStatus 0 8 8 = code

/-- A run ends as from any state with the same temperature and count. -/
theorem TrimEnded.done {code : Nat} (h : TrimEnded code u t) (temperature : u.rd P.DieTemperature 0 = s.rd P.DieTemperature 0)
    (count : u.rd P.TrimRunCount 0 = s.rd P.TrimRunCount 0) : TrimDone code s t := by
  refine ⟨h.trim, h.free, h.temperature.trans temperature, fun low => ?_, h.idle, h.result⟩
  have same : u.rdN P.TrimRunCount 0 = s.rdN P.TrimRunCount 0 := congrArg BitVec.toNat count
  rw [← same]
  exact h.counted (same ▸ low)

/-- What a flag counts, enters and raises before the run ends. -/
def State.flagged (s : State) (cause : Nat) : State :=
  ((s.count P.TrimFlagCount 0).log 0x1B 0x0040 cause (((s.count P.TrimFlagCount 0).rd P.LastDisagreement 0).setWidth 32) 0).event
    Ev.trimFlagged P.TrimStatus 0 (BitVec.ofNat 32 cause)

theorem State.flagTrim_eq (s : State) (cause : Nat) : s.flagTrim cause = (s.flagged cause).endTrim 2 cause := rfl

theorem frame_flagged (s : State) (cause : Nat) : Frame [] [(P.TrimFlagCount, 0)] [] s (s.flagged cause) := by
  unfold State.flagged
  exact ((((Frame.refl ..).count _ _ (by decide)).log _ _ _ _ _).event _ _ _ _)

theorem State.rd_flagged (s : State) (cause : Nat) {p : Nat} (e : Nat) (hp : p ∉ housekeeping) :
    (s.flagged cause).rd p e = (s.count P.TrimFlagCount 0).rd p e := by
  unfold State.flagged
  rw [State.rd_event _ _ _ _ _ _ _ hp, State.rd_log _ _ _ _ _ _ _ _ hp]

end Sys2Proof.Machine
end

section
namespace Sys2Proof.Machine

variable {s t u : State}

/-! ### Values written one after another -/

theorem State.rd_foldl_wr_other {p e : Nat → Nat} {v : Nat → Wide} {q f : Nat} : ∀ (l : List Nat) (s : State),
    (∀ i ∈ l, q ≠ p i ∨ f % 256 ≠ e i % 256) → (l.foldl (fun s i => s.wr (p i) (e i) (v i)) s).rd q f = s.rd q f
  | [], _, _ => rfl
  | i :: l, s, apart => by
    rw [List.foldl_cons, State.rd_foldl_wr_other l _ fun j hj => apart j (List.mem_cons_of_mem _ hj)]
    exact State.rd_wr_other _ _ _ _ _ _ (apart i List.mem_cons_self)

theorem State.rd_foldl_wr {p e : Nat → Nat} {v : Nat → Wide} {k : Nat} {l : List Nat} (s : State) (listed : k ∈ l)
    (apart : ∀ i ∈ l, i ≠ k → p k ≠ p i ∨ e k % 256 ≠ e i % 256) :
    (l.foldl (fun s i => s.wr (p i) (e i) (v i)) s).rd (p k) (e k) = v k := by
  induction l generalizing s with
  | nil => exact absurd listed List.not_mem_nil
  | cons i l ih =>
    have later := fun j hj => apart j (List.mem_cons_of_mem i hj)
    rw [List.foldl_cons]
    by_cases again : k ∈ l
    · exact ih _ again later
    · obtain rfl : k = i := (List.mem_cons.mp listed).resolve_right again
      rw [State.rd_foldl_wr_other l _ fun j hj => later j hj fun h => again (h ▸ hj)]
      exact State.rd_wr_same ..

/-- Such writes change the dictionary's values alone. -/
theorem State.foldl_wr_eq {p e : Nat → Nat} {v : Nat → Wide} (l : List Nat) (s : State) :
    ∃ g, l.foldl (fun s i => s.wr (p i) (e i) (v i)) s = { s with regs := g } := by
  induction l generalizing s with
  | nil => exact ⟨s.regs, rfl⟩
  | cons i l ih => exact ih (s.wr (p i) (e i) (v i))

theorem Frame.foldl_wr {ps : List Nat} {es : List (Nat × Nat)} {fs : List Part} {p e : Nat → Nat} {v : Nat → Wide} :
    ∀ (l : List Nat) {t : State}, Frame ps es fs s t → (∀ i ∈ l, p i ∈ ps) →
    Frame ps es fs s (l.foldl (fun s i => s.wr (p i) (e i) (v i)) t)
  | [], _, h, _ => h
  | i :: l, _, h, named => Frame.foldl_wr l (h.wr _ _ _ (.inl (named i List.mem_cons_self)))
      fun j hj => named j (List.mem_cons_of_mem i hj)

/-! ### Sweeps (R327, R328) -/

/-- What a sweep shows before its codes are used: the currents measured. -/
def State.measured (s : State) (sinks : Bool) (x : TrimSweep) : State :=
  if sinks then
    (List.range 48).foldl (fun s i => s.wr P.SinkMeasured i (BitVec.ofNat 64 (x.sinks.getD i 0 % 65536))) s.free.2
  else s.free.2

theorem frame_measured (s : State) (sinks : Bool) (x : TrimSweep) (es : List (Nat × Nat)) :
    Frame [P.SinkMeasured] es [.free] s (s.measured sinks x) := by
  have drawn : Frame [P.SinkMeasured] es [.free] s s.free.2 :=
    (Frame.refl ..).parts rfl (by constructor <;> intros <;> first | rfl | exact ⟨rfl, rfl⟩ | contradiction)
  unfold State.measured
  split
  · exact drawn.foldl_wr (p := fun _ => P.SinkMeasured) _ fun _ _ => List.mem_singleton.mpr rfl
  · exact drawn

theorem State.rd_measured (s : State) (sinks : Bool) (x : TrimSweep) {p : Nat} (e : Nat) (h : p ≠ P.SinkMeasured) :
    (s.measured sinks x).rd p e = s.rd p e := by
  unfold State.measured
  split
  · exact State.rd_foldl_wr_other (p := fun _ => P.SinkMeasured) _ _ fun _ _ => .inl h
  · rfl

theorem State.currents_measured (s : State) (x : TrimSweep) {i : Nat} (h : i < 48) :
    (s.measured true x).rdN P.SinkMeasured i = x.sinks.getD i 0 % 65536 := by
  have shown : (s.measured true x).rd P.SinkMeasured i = BitVec.ofNat 64 (x.sinks.getD i 0 % 65536) :=
    State.rd_foldl_wr (p := fun _ => P.SinkMeasured) (e := fun i => i) _ (List.mem_range.mpr h) fun j hj other => by
      rw [List.mem_range] at hj
      exact .inr (by omega)
  rw [State.rdN, shown, BitVec.toNat_ofNat]
  omega

theorem State.fullTime_congr (wraps : t.rd P.WrapCount 0 = s.rd P.WrapCount 0)
    (status : t.rd P.TimeStatus 0 = s.rd P.TimeStatus 0) (halyard : t.halyard = s.halyard) : t.fullTime = s.fullTime := by
  unfold State.fullTime State.fullOf State.tns State.rdN State.bit
  rw [wraps, status, halyard]

theorem State.measured_eq (s : State) (sinks : Bool) (x : TrimSweep) :
    ∃ g, s.measured sinks x = { s.free.2 with regs := g } := by
  unfold State.measured
  split
  · exact State.foldl_wr_eq (p := fun _ => P.SinkMeasured) _ _
  · exact ⟨s.regs, rfl⟩

theorem State.fullTime_measured (s : State) (sinks : Bool) (x : TrimSweep) :
    (s.measured sinks x).fullTime = s.fullTime := by
  obtain ⟨g, hg⟩ := s.measured_eq sinks x
  refine State.fullTime_congr (s.rd_measured _ _ _ (by decide)) (s.rd_measured _ _ _ (by decide)) ?_
  rw [hg]
  rfl

/-- The first sweep keeps its codes for the second. -/
theorem State.sweepDone_first {x : TrimSweep} {r : TrimRun} (run : s.trim = some r) (first : r.first = none) :
    s.sweepDone x = ({ s.measured r.sinks x with
      trim := some { r with sweepStart := s.fullTime, first := some (s.sweepCodes r x s.free.1).1,
                            clamped := (s.sweepCodes r x s.free.1).2 } } : State).setBit P.TrimStatus 0 6 true := by
  rw [← s.fullTime_measured r.sinks x]
  unfold State.sweepDone
  rw [run]
  dsimp only
  rw [first]
  rfl

/-- The second sweep compares its codes with those of the first. -/
theorem State.sweepDone_second {x : TrimSweep} {r : TrimRun} {a : SMap Nat} (run : s.trim = some r)
    (first : r.first = some a) : s.sweepDone x = (s.measured r.sinks x).compareTrim a (s.sweepCodes r x s.free.1).1
      (r.clamped || (s.sweepCodes r x s.free.1).2) := by
  unfold State.sweepDone
  rw [run]
  dsimp only
  rw [first]
  rfl

end Sys2Proof.Machine
end

section
namespace Sys2Proof.Machine

variable {s t u : State}

/-! ### What follows a second sweep, and the end of a run without one (R328) -/

theorem TrimDone.of_rd {code : Nat} (h : TrimDone code u t) (temperature : u.rd P.DieTemperature 0 = s.rd P.DieTemperature 0)
    (count : u.rd P.TrimRunCount 0 = s.rd P.TrimRunCount 0) : TrimDone code s t := by
  unfold TrimDone State.rdN at *
  rwa [temperature, count] at h

/-- A flagged run has ended and is counted. -/
theorem trimDone_flagTrim (s : State) {cause : Nat} (h : cause < 16) :
    TrimDone (2 * 16 + cause) s (s.flagTrim cause).settle ∧
    (s.rdN P.TrimFlagCount 0 < 0xFFFFFFFE →
      (s.flagTrim cause).settle.rdN P.TrimFlagCount 0 = s.rdN P.TrimFlagCount 0 + 1) ∧
    Frame [] ((P.TrimFlagCount, 0) :: trimEndElements) [.trim] s (s.flagTrim cause).settle := by
  have ended := (trimEnded_endTrim (s.flagged cause) (result := 2) (cause := cause) (by omega)).settle
  rw [← State.flagTrim_eq] at ended
  have kept : ∀ p, p ∉ housekeeping → p ≠ P.TrimFlagCount → (s.flagged cause).rd p 0 = s.rd p 0 := fun p hp other =>
    (s.rd_flagged cause 0 hp).trans (State.rd_count _ _ _ _ _ other hp)
  refine ⟨ended.done (kept _ (by decide) (by decide)) (kept _ (by decide) (by decide)), fun low => ?_,
    ((frame_flagged s cause).weaken (by simp) (by simp) (by simp)).trans (ended.frame.weaken (by simp) (by simp) (by simp))⟩
  have last := ended.frame.rd (q := P.TrimFlagCount) (f := 0) (by decide) (by decide) (by decide) (by decide)
  rw [State.rdN, last, s.rd_flagged cause 0 (by decide)]
  exact State.rdN_countBy_lt s (by decide) (by omega)

/-- The codes that two agreeing sweeps give are written. -/
def State.meansApplied (s : State) (a b : SMap Nat) : State :=
  (a.map (·.1)).foldl (fun (s : State) k =>
    s.wr (trimParam (k / 64)) (k % 64) (BitVec.ofNat 64 ((SMap.get 0 a k + SMap.get 0 b k + 1) / 2))) s

theorem trimParam_mem {q : Nat} (h : q < 4) : trimParam q ∈ [P.SinkTrim, P.PdOffsetTrim, P.PdGainTrim, P.SensorTrim] := by
  revert q
  decide

theorem State.rd_meansApplied {a b : SMap Nat} (s : State) (rising : (a.map (·.1)).Pairwise (· < ·))
    (small : ∀ k ∈ a, k.1 < 256) {k : Nat × Nat} (h : k ∈ a) :
    (s.meansApplied a b).rd (trimParam (k.1 / 64)) (k.1 % 64) = BitVec.ofNat 64 ((k.2 + SMap.get 0 b k.1 + 1) / 2) := by
  rw [← SMap.get_of_mem (d := 0) (m := a) (k := k.1) (v := k.2) rising h]
  refine State.rd_foldl_wr (k := k.1) (p := fun k => trimParam (k / 64)) (e := fun k => k % 64)
    (v := fun k => BitVec.ofNat 64 ((SMap.get 0 a k + SMap.get 0 b k + 1) / 2)) s (List.mem_map_of_mem h) fun i hi other => ?_
  obtain ⟨j, hj, rfl⟩ := List.mem_map.mp hi
  have hk := small k h
  have hj := small j hj
  unfold trimParam
  omega

theorem State.rd_meansApplied_other {a b : SMap Nat} (s : State) (small : ∀ k ∈ a, k.1 < 256) {p : Nat} (e : Nat)
    (h : p ∉ [P.SinkTrim, P.PdOffsetTrim, P.PdGainTrim, P.SensorTrim]) : (s.meansApplied a b).rd p e = s.rd p e := by
  refine State.rd_foldl_wr_other (p := fun k => trimParam (k / 64)) (e := fun k => k % 64) _ _ fun i hi => .inl fun same => ?_
  obtain ⟨j, hj, rfl⟩ := List.mem_map.mp hi
  have hj := small j hj
  exact h (same ▸ trimParam_mem (by omega))

theorem frame_meansApplied {a b : SMap Nat} (s : State) (small : ∀ k ∈ a, k.1 < 256) (es : List (Nat × Nat))
    (fs : List Part) : Frame [P.SinkTrim, P.PdOffsetTrim, P.PdGainTrim, P.SensorTrim] es fs s (s.meansApplied a b) := by
  refine Frame.foldl_wr (p := fun k => trimParam (k / 64)) (e := fun k => k % 64) _ (.refl ..) fun i hi => ?_
  obtain ⟨j, hj, rfl⟩ := List.mem_map.mp hi
  have hj := small j hj
  exact trimParam_mem (by omega)

/-- Two sweeps that agree: their means apply, and the run ends OK. -/
theorem State.compareTrim_of_agree {a b : SMap Nat} {clamped : Bool}
    (agree : ∀ k ∈ a, codeGap a b k.1 ≤ s.rdN P.TrimTolerance 0) :
    s.compareTrim a b clamped = ((s.meansApplied a b).setBit P.TrimStatus 0 3 clamped).endTrim 1 0 := by
  unfold State.compareTrim
  refine if_pos (List.all_eq_true.mpr fun i hi => ?_)
  obtain ⟨k, hk, rfl⟩ := List.mem_map.mp hi
  exact decide_eq_true (agree k hk)

/-- Two sweeps that disagree in some code: the worst is shown, and the run ends flagged. -/
theorem State.compareTrim_of_disagree {a b : SMap Nat} (clamped : Bool)
    (apart : a.any (fun k => decide (s.rdN P.TrimTolerance 0 < codeGap a b k.1)) = true) :
    ∃ v, s.compareTrim a b clamped = (s.wr P.LastDisagreement 0 v).flagTrim 1 := by
  obtain ⟨k, hk, wide⟩ := List.any_eq_true.mp apart
  unfold State.compareTrim
  refine ⟨_, if_neg fun agree => ?_⟩
  have near := of_decide_eq_true (List.all_eq_true.mp agree k.1 (List.mem_map_of_mem hk))
  exact absurd (of_decide_eq_true wide) (Nat.not_lt.mpr near)

/-! ### The commands of a run (R324, R331) -/

/-- The row of TrimControl: its targets and AutoEnable are stored, its commands are not. -/
def trimControlRow : Row := ⟨P.TrimControl, .u32, .rw, 1, 0, 1, 0, 4294967295, 240, 0, 240, false, true, false, .none, 0⟩

theorem row_trimControl : Dict.row P.TrimControl = some trimControlRow := by decide +kernel

theorem State.writeElement_trimControl (s : State) (via : Via) (v : Wide) :
    s.writeElement via trimControlRow 0 v = s.writeTrim v := State.writeElement_of_unmirrored rfl rfl

theorem State.writeTrim_untargeted {v : Wide} (starts : v.getLsbD 0 = true) (none : field v 4 3 = 0) :
    s.writeTrim v = (s, 2) := by
  unfold State.writeTrim
  rw [if_pos (by simp [starts, none])]

theorem State.writeTrim_busy {v : Wide} (starts : v.getLsbD 0 = true) (some : field v 4 3 ≠ 0)
    (taken : s.taken Res.adc = true) (late : s.autoJustBegan = false) : s.writeTrim v = (s.refuseStart, 1) := by
  unfold State.writeTrim
  rw [if_neg (by simp [some]), if_pos (by simp [starts, taken, late])]

theorem State.writeTrim_starts {v : Wide} (starts : v.getLsbD 0 = true) (stays : v.getLsbD 1 = false)
    (some : field v 4 3 ≠ 0) (free : s.taken Res.adc = false) :
    s.writeTrim v = ((s.setFld P.TrimControl 0 4 4 (field v 4 4)).startTrim false, 0) := by
  unfold State.writeTrim
  rw [if_neg (by simp [some]), if_neg (by simp [free]), starts, stays]
  rfl

theorem State.writeTrim_aborts {v : Wide} (rests : v.getLsbD 0 = false) (aborts : v.getLsbD 1 = true)
    (running : s.trim.isSome = true) :
    s.writeTrim v = ((s.setFld P.TrimControl 0 4 4 (field v 4 4)).endTrim 3 0, 0) := by
  unfold State.writeTrim
  rw [rests, aborts]
  exact congrArg (·, 0) (if_pos running)

theorem field_ofNat (n lo w : Nat) (h : n < 2 ^ 64) : field (BitVec.ofNat 64 n) lo w = n / 2 ^ lo % 2 ^ w := by
  unfold field
  rw [BitVec.toNat_ofNat, Nat.mod_eq_of_lt h, Nat.shiftRight_eq_div_pow]

end Sys2Proof.Machine
end

section
namespace Sys2Proof.Machine

variable {s t u : State}

theorem getLsbD_ofNat_word (value : Word) {i : Nat} (h : i < 64) :
    (BitVec.ofNat 64 value.toNat).getLsbD i = value.getLsbD i := by
  rw [BitVec.getLsbD_ofNat, decide_eq_true h, Bool.true_and]
  rfl

/-- What the statements say of a run that has started. -/
def TrimRuns (automatic : Bool) (run : TrimRun) (s t : State) : Prop :=
  t.trim = some run ∧ t.taken Res.adc = true ∧ t.masthead = { s.masthead with burst := false } ∧
    t.fld P.TrimStatus 0 6 2 = 2 ∧ t.bit P.TrimStatus 0 5 = automatic

/-- A run that has started runs on when the command is answered and has settled. -/
theorem TrimStarted.runs {automatic : Bool} (h : TrimStarted automatic s t) (kept : Frame [] [] [.answer] t u) :
    TrimRuns automatic (s.trimRun automatic) s u := by
  have rd : ∀ p, p ∉ housekeeping → u.rd p 0 = t.rd p 0 := fun p hp =>
    kept.rd (by decide) hp List.not_mem_nil List.not_mem_nil
  refine ⟨(kept.2.trim (by decide)).trans h.trim, State.taken_of_holder ?_, (kept.2.masthead (by decide)).trans h.masthead,
    (State.fld_congr (rd _ (by decide))).trans h.running, (State.bit_congr (rd _ (by decide)) _).trans h.automatic⟩
  rw [State.holder_congr (rd _ (by decide)), h.holds]
  decide

theorem TrimDone.kept {code : Nat} (h : TrimDone code s t) (k : Frame [] [] [.answer] t u) : TrimDone code s u := by
  have rd : ∀ p, p ∉ housekeeping → u.rd p 0 = t.rd p 0 := fun p hp =>
    k.rd (by decide) hp List.not_mem_nil List.not_mem_nil
  obtain ⟨trim, free, temperature, counted, idle, result⟩ := h
  refine ⟨(k.2.trim (by decide)).trans trim, (State.holder_congr (rd _ (by decide))).trans free,
    (rd _ (by decide)).trans temperature, fun low => ?_, (State.fld_congr (rd _ (by decide))).trans idle,
    (State.fld_congr (rd _ (by decide))).trans result⟩
  rw [State.rdN, rd _ (by decide)]
  exact counted low

theorem frame_settle (s : State) (fs : List Part) : Frame [] [] fs s s.settle := (Frame.refl ..).settle

/-! ### Runs that a command starts or refuses -/

theorem State.autoJustBegan_arbitrate (rq : Requester) (h : s.autoJustBegan = false) :
    (s.arbitrate rq).autoJustBegan = false := by
  unfold State.arbitrate
  split
  · rfl
  · exact h

/-- The run of a start: the targets of the word written. -/
theorem State.trimRun_written (s : State) (v : Wide) :
    (s.setFld P.TrimControl 0 4 4 (field v 4 4)).trimRun false =
      { sweepStart := s.fullTime, sensor := v.getLsbD 6, photodiodes := v.getLsbD 5, sinks := v.getLsbD 4,
        automatic := false, range := s.rdN P.PdRange 0, first := none, clamped := false } := by
  let w := s.setFld P.TrimControl 0 4 4 (field v 4 4)
  have other : ∀ p, p ≠ P.TrimControl → w.rd p 0 = s.rd p 0 := fun p h => State.rd_setFld_param _ _ _ _ _ _ _ _ h
  have bits : ∀ i, i < 4 → (w.rd P.TrimControl 0).getLsbD (4 + i) = v.getLsbD (4 + i) := fun i hi => by
    have put : w.rd P.TrimControl 0 = putField (s.rd P.TrimControl 0) 4 4 (field v 4 4) := State.rd_wr_same ..
    rw [put, getLsbD_putField _ _ _ _ _ (by omega), if_pos ⟨by omega, by omega⟩, testBit_field,
      show 4 + i - 4 = i by omega, decide_eq_true hi, Bool.true_and]
  have time : w.fullTime = s.fullTime := State.fullTime_congr (other _ (by decide)) (other _ (by decide)) rfl
  unfold State.trimRun
  rw [show s.setFld P.TrimControl 0 4 4 (field v 4 4) = w from rfl, bits 2 (by decide), bits 1 (by decide),
    bits 0 (by decide), time, State.rdN, other _ (by decide)]
  rfl

theorem State.fullTime_arbitrate (s : State) (rq : Requester) : (s.arbitrate rq).fullTime = s.fullTime := by
  obtain ⟨n, hn⟩ := s.arbitrate_eq rq
  rw [hn]
  rfl

theorem completes_trimStart {rq : Requester} {value : Word} (granted : s.grants rq P.TrimControl 0 value.toNat = true)
    (starts : value.getLsbD 0 = true) (stays : value.getLsbD 1 = false) (some : value.toNat / 16 % 8 ≠ 0)
    (free : (s.arbitrate rq).taken Res.adc = false) : Completes (.trimStart rq value) s fun t => t.wdp.answer = ⟨0, []⟩ ∧
      TrimRuns false { sweepStart := s.fullTime, sensor := value.getLsbD 6, photodiodes := value.getLsbD 5,
                       sinks := value.getLsbD 4, automatic := false, range := s.rdN P.PdRange 0, first := none,
                       clamped := false } s t ∧
      t.fld P.TrimControl 0 4 4 = value.toNat / 16 % 16 ∧
      Frame [P.SplitWriteCount, P.MaintenanceStatus] [(P.TrimControl, 0), (P.TrimStatus, 0)]
        [.answer, .trim, .masthead, .trouble, .update, .twin, .wdp] s t := by
  have small : value.toNat < 2 ^ 64 := by omega
  let v := BitVec.ofNat 64 value.toNat
  let w := (s.arbitrate rq).setFld P.TrimControl 0 4 4 (field v 4 4)
  have run := (s.arbitrate rq).trimRun_written v
  rw [getLsbD_ofNat_word value (by decide), getLsbD_ofNat_word value (by decide), getLsbD_ofNat_word value (by decide),
    State.fullTime_arbitrate, State.rdN, State.rd_congr (s.arbitrate_regs rq)] at run
  have started := trimStarted_startTrim w false
  have effect : (s.arbitrate rq).writeElement (s.via rq) trimControlRow 0 v = (w.startTrim false, 0) := by
    rw [State.writeElement_trimControl]
    exact State.writeTrim_starts ((getLsbD_ofNat_word value (by decide)).trans starts)
      ((getLsbD_ofNat_word value (by decide)).trans stays) (by rwa [field_ofNat _ _ _ small]) free
  have frame : Frame [P.SplitWriteCount, P.MaintenanceStatus] [(P.TrimControl, 0), (P.TrimStatus, 0)]
      [.answer, .trim, .masthead, .trouble, .update, .twin, .wdp] (s.arbitrate rq) (w.startTrim false) :=
    Frame.trans ((Frame.refl ..).setFld _ _ _ _ _ (by decide)) (started.frame.weaken (by simp) (by simp) (by simp))
  obtain ⟨t, ht, answer, kept, all⟩ := completes_granted (c := .trimStart rq value) rfl row_trimControl (by decide) granted
    effect frame (by decide)
  obtain ⟨trim, taken, masthead, running, manual⟩ := started.runs kept
  refine ⟨t, ht, answer, ⟨trim.trans (congrArg Option.some run), taken, ?_, running, manual⟩, ?_, all⟩
  · rw [masthead]
    show { (s.arbitrate rq).masthead with burst := false } = _
    rw [State.arbitrate_masthead]
  · have control := kept.rd (q := P.TrimControl) (f := 0) (by decide) (by decide) (by decide) (by decide)
    have written := started.frame.rd (q := P.TrimControl) (f := 0) (by decide) (by decide) (by decide) (by decide)
    rw [State.fld_congr (control.trans written), State.fld_setFld_same _ _ _ _ _ _ (by decide), field_ofNat _ _ _ small]
    omega

/-- A start without a target. -/
theorem completes_trimStart_untargeted {rq : Requester} {value : Word}
    (granted : s.grants rq P.TrimControl 0 value.toNat = true) (starts : value.getLsbD 0 = true)
    (none : value.toNat / 16 % 8 = 0) : Completes (.trimStart rq value) s fun t => t.wdp.answer = ⟨2, []⟩ ∧
      Frame [] [] [.answer] s t := by
  have small : value.toNat < 2 ^ 64 := by omega
  have effect : (s.arbitrate rq).writeElement (s.via rq) trimControlRow 0 (BitVec.ofNat 64 value.toNat) =
      (s.arbitrate rq, 2) := by
    rw [State.writeElement_trimControl]
    exact State.writeTrim_untargeted ((getLsbD_ofNat_word value (by decide)).trans starts)
      (by rwa [field_ofNat _ _ _ small])
  obtain ⟨t, ht, answer, -, frame⟩ := completes_granted (c := .trimStart rq value) (fs := []) rfl row_trimControl (by decide)
    granted effect (Frame.refl [] [] _ _) (by decide)
  exact ⟨t, ht, answer, frame⟩

/-- A start while the converters are taken. -/
theorem completes_trimStart_busy {rq : Requester} {value : Word}
    (granted : s.grants rq P.TrimControl 0 value.toNat = true) (starts : value.getLsbD 0 = true)
    (some : value.toNat / 16 % 8 ≠ 0) (taken : (s.arbitrate rq).taken Res.adc = true) (late : s.autoJustBegan = false) :
    Completes (.trimStart rq value) s fun t => t.wdp.answer = ⟨1, []⟩ ∧ t.trim = s.trim ∧
      t.rd P.TrimControl 0 = s.rd P.TrimControl 0 ∧ t.rd P.TrimStatus 0 = s.rd P.TrimStatus 0 := by
  have small : value.toNat < 2 ^ 64 := by omega
  have effect : (s.arbitrate rq).writeElement (s.via rq) trimControlRow 0 (BitVec.ofNat 64 value.toNat) =
      ((s.arbitrate rq).refuseStart, 1) := by
    rw [State.writeElement_trimControl]
    exact State.writeTrim_busy ((getLsbD_ofNat_word value (by decide)).trans starts) (by rwa [field_ofNat _ _ _ small]) taken
      (State.autoJustBegan_arbitrate rq late)
  obtain ⟨t, ht, answer, -, frame⟩ := completes_granted (c := .trimStart rq value) (fs := []) rfl row_trimControl (by decide)
    granted effect (Frame.count (ps := [P.ArbiterBusyCount]) (es := []) _ _ (.refl ..) (by decide)) (by decide)
  exact ⟨t, ht, answer, frame.2.trim (by decide), frame.rd (by decide) (by decide) (by decide) (by decide),
    frame.rd (by decide) (by decide) (by decide) (by decide)⟩

end Sys2Proof.Machine
end

section
namespace Sys2Proof.Machine

variable {s t u : State}

/-! ### The abort of a run (R331) -/

theorem frame_trimEnded {code : Nat} {ps : List Nat} {es : List (Nat × Nat)} {fs : List Part} (h : TrimEnded code u t)
    (k : Frame ps es fs s u) (he : trimEndElements ⊆ es) (hf : Part.trim ∈ fs) : Frame ps es fs s t :=
  k.trans (h.frame.weaken (by simp) he (by simpa using hf))

theorem completes_trimAbort {rq : Requester}
    (granted : s.grants rq P.TrimControl 0 (2 + 16 * s.fld P.TrimControl 0 4 4) = true) (running : s.trim.isSome = true) :
    Completes (.trimAbort rq false) s fun t => TrimDone 48 s t ∧ t.wdp.answer = ⟨0, []⟩ ∧
      (∀ q < 4, ∀ i < 256, t.rd (trimParam q) i = s.rd (trimParam q) i) ∧
      Frame [P.SplitWriteCount] [(P.TrimControl, 0), (P.TrimStatus, 0), (P.RunTemperature, 0), (P.TrimRunCount, 0),
        (P.MaintenanceStatus, 0)] [.answer, .trim, .trouble, .update, .twin, .wdp] s t := by
  have targets : s.fld P.TrimControl 0 4 4 < 16 := Nat.mod_lt _ (by decide)
  have act : exec (.trimAbort rq false) s =
      done (s.serveOne rq P.TrimControl 0 (2 + 16 * s.fld P.TrimControl 0 4 4)) := congrArg done (if_neg (by simp))
  generalize s.fld P.TrimControl 0 4 4 = n at *
  let v := BitVec.ofNat 64 (2 + 16 * n)
  let w := (s.arbitrate rq).setFld P.TrimControl 0 4 4 (field v 4 4)
  have bits : v.getLsbD 0 = false ∧ v.getLsbD 1 = true := by
    refine ⟨?_, ?_⟩ <;> rw [BitVec.getLsbD_ofNat, Nat.testBit_eq_decide_div_mod_eq] <;> simp <;> omega
  have effect : (s.arbitrate rq).writeElement (s.via rq) trimControlRow 0 v = (w.endTrim 3 0, 0) := by
    rw [State.writeElement_trimControl]
    refine State.writeTrim_aborts bits.1 bits.2 ?_
    obtain ⟨m, hm⟩ := s.arbitrate_eq rq
    rwa [hm]
  have ended := trimEnded_endTrim w (result := 3) (cause := 0) (by decide)
  have before : ∀ p, p ≠ P.TrimControl → w.rd p 0 = s.rd p 0 := fun p h =>
    (State.rd_setFld_param _ _ _ _ _ _ _ _ h).trans (State.rd_congr (s.arbitrate_regs rq) _ _)
  obtain ⟨t, ht, answer, kept, frame⟩ := completes_granted (c := .trimAbort rq false) act row_trimControl (by decide) granted
    effect (frame_trimEnded (ps := [P.SplitWriteCount]) (es := trimEndElements)
      (fs := [.answer, .trim, .trouble, .update, .twin, .wdp]) ended
      ((Frame.refl ..).setFld _ _ _ _ _ (by decide)) (fun _ h => h) (by decide)) (by decide)
  refine ⟨t, ht, (ended.done (before _ (by decide)) (before _ (by decide))).kept kept, answer, fun q hq i hi => ?_, frame⟩
  have codes : ∀ q < 4, trimParam q ∉ housekeeping ∧ trimParam q ∉ [P.SplitWriteCount] ∧
      ∀ x ∈ trimEndElements, x.1 ≠ trimParam q := by decide
  obtain ⟨hk, split, others⟩ := codes q hq
  exact frame.rd hi hk split fun h => others _ h rfl

/-! ### The first automatic run (R325, R326) -/

theorem State.trimFirstAuto_starts (allowed : s.autoAllowed = true) (none : s.noRun = true)
    (targets : s.fld P.TrimControl 0 4 3 ≠ 0) (fresh : s.now.trimStarted = false)
    (free : s.resourceFree Res.adc = true) : exec .trimFirstAuto s = done (s.startTrim true) := by
  refine (if_pos (by simp [allowed, none])).trans (congrArg done ?_)
  unfold State.autoTrim
  rw [if_neg (by simp [targets, fresh]), if_pos free]

theorem State.trimFirstAuto_defers (allowed : s.autoAllowed = true) (none : s.noRun = true)
    (targets : s.fld P.TrimControl 0 4 3 ≠ 0) (fresh : s.now.trimStarted = false)
    (held : s.resourceFree Res.adc = false) : exec .trimFirstAuto s =
      done { s.setBit P.TrimStatus 0 2 true with trouble := { s.trouble with trimDeferred := true } } := by
  refine (if_pos (by simp [allowed, none])).trans (congrArg done ?_)
  unfold State.autoTrim
  rw [if_neg (by simp [targets, fresh]), if_neg (by simp [held])]

theorem State.trimFirstAuto_rests (h : s.autoAllowed = false ∨ s.noRun = false ∨ s.fld P.TrimControl 0 4 3 = 0 ∨
    s.now.trimStarted = true) : exec .trimFirstAuto s = done s := by
  by_cases called : (s.autoAllowed && s.noRun) = true
  · refine (if_pos called).trans (congrArg done (if_pos ?_))
    rw [Bool.and_eq_true] at called
    obtain h | h | h := h
    · exact absurd (called.1.symm.trans h) (by decide)
    · exact absurd (called.2.symm.trans h) (by decide)
    · exact h
  · exact if_neg called

theorem completes_trimFirstAuto_deferred (allowed : s.autoAllowed = true) (none : s.noRun = true)
    (targets : s.fld P.TrimControl 0 4 3 ≠ 0) (fresh : s.now.trimStarted = false)
    (held : s.resourceFree Res.adc = false) : Completes .trimFirstAuto s fun t => t.bit P.TrimStatus 0 2 = true ∧
      t.trouble.trimDeferred = true ∧ t.trim = s.trim ∧ Frame [] [(P.TrimStatus, 0)] [.trouble] s t := by
  refine ⟨_, State.trimFirstAuto_defers allowed none targets fresh held, ?_, ?_, ?_, ?_⟩
  · rw [State.bit_congr (State.rd_settle _ _ _ (by decide))]
    exact (State.bit_setBit s _ _ _ _ _ (by decide)).trans (if_pos rfl)
  · exact congrArg Trouble.trimDeferred ((frame_settle _ []).2.trouble (by decide))
  · rw [State.settle_trim]
    rfl
  · refine Frame.settle (Frame.parts ((Frame.refl ..).setBit P.TrimStatus 0 2 true (by decide)) rfl ?_)
    constructor <;> intros <;> first | rfl | exact ⟨rfl, rfl⟩ | contradiction

/-! ### The sweeps -/

theorem completes_trimSweepDone_first {x : TrimSweep} {r : TrimRun} (run : s.trim = some r) (first : r.first = none) :
    Completes (.trimSweepDone x) s fun t =>
      t.trim = some { r with sweepStart := s.fullTime, first := some (s.sweepCodes r x s.free.1).1,
                             clamped := (s.sweepCodes r x s.free.1).2 } ∧ t.bit P.TrimStatus 0 6 = true ∧
      (∀ i < 48, r.sinks = true → t.rdN P.SinkMeasured i = x.sinks.getD i 0 % 65536) ∧
      (r.sinks = false → ∀ i < 48, t.rd P.SinkMeasured i = s.rd P.SinkMeasured i) ∧
      Frame [P.SinkMeasured] [(P.TrimStatus, 0)] [.trim, .free] s t := by
  have shown : ∀ i, ({ s.measured r.sinks x with trim := some { r with
      sweepStart := s.fullTime, first := some (s.sweepCodes r x s.free.1).1, clamped := (s.sweepCodes r x s.free.1).2 } } :
        State).rd P.SinkMeasured i = (s.measured r.sinks x).rd P.SinkMeasured i := fun _ => rfl
  have last : ∀ i, ((s.sweepDone x).settle).rd P.SinkMeasured i = (s.measured r.sinks x).rd P.SinkMeasured i := fun i => by
    rw [State.rd_settle _ _ _ (by decide), State.sweepDone_first run first,
      State.rd_setBit_param _ _ _ _ _ _ _ (by decide), shown]
  refine ⟨(s.sweepDone x).settle, rfl, ?_, ?_, fun i hi sinks => ?_, fun sinks i _ => ?_, ?_⟩
  · rw [State.settle_trim, State.sweepDone_first run first]
    rfl
  · rw [State.bit_congr (State.rd_settle _ _ _ (by decide)), State.sweepDone_first run first,
      State.bit_setBit _ _ _ _ _ _ (by decide), if_pos rfl]
  · rw [State.rdN, last, sinks]
    exact s.currents_measured x hi
  · rw [last, sinks]
    rfl
  · rw [State.sweepDone_first run first]
    have measured := (frame_measured s r.sinks x [(P.TrimStatus, 0)]).weaken (ps := [P.SinkMeasured])
      (es := [(P.TrimStatus, 0)]) (fs := [.trim, .free]) (by simp) (by simp) (by simp)
    refine Frame.settle (Frame.setBit _ _ _ _ (Frame.parts measured rfl ?_) (by decide))
    constructor <;> intros <;> first | rfl | exact ⟨rfl, rfl⟩ | contradiction

/-- The parameters that an agreeing second sweep writes. -/
def trimCodeParams : List Nat := [P.SinkMeasured, P.SinkTrim, P.PdOffsetTrim, P.PdGainTrim, P.SensorTrim]

theorem completes_trimSweepDone_agreed {x : TrimSweep} {r : TrimRun} {a : SMap Nat} (run : s.trim = some r)
    (first : r.first = some a) (rising : (a.map (·.1)).Pairwise (· < ·)) (small : ∀ k ∈ a, k.1 < 256)
    (agree : ∀ k ∈ a, codeGap a (s.sweepCodes r x s.free.1).1 k.1 ≤ s.rdN P.TrimTolerance 0) :
    Completes (.trimSweepDone x) s fun t => TrimDone 16 s t ∧
      a.all (fun k => t.rd (trimParam (k.1 / 64)) (k.1 % 64) == BitVec.ofNat 64
        ((k.2 + SMap.get 0 (s.sweepCodes r x s.free.1).1 k.1 + 1) / 2)) = true ∧
      Frame trimCodeParams trimEndElements [.trim, .update, .wdp, .free] s t := by
  have second := State.sweepDone_second (x := x) run first
  generalize (s.sweepCodes r x s.free.1).1 = b at *
  generalize (r.clamped || (s.sweepCodes r x s.free.1).2) = clamped at *
  let m := s.measured r.sinks x
  let w := (m.meansApplied a b).setBit P.TrimStatus 0 3 clamped
  have tolerance : m.rdN P.TrimTolerance 0 = s.rdN P.TrimTolerance 0 :=
    congrArg BitVec.toNat (s.rd_measured _ _ _ (by decide))
  rw [State.compareTrim_of_agree (by rwa [tolerance])] at second
  have before : ∀ p, p ∉ [P.SinkMeasured, P.SinkTrim, P.PdOffsetTrim, P.PdGainTrim, P.SensorTrim, P.TrimStatus] →
      w.rd p 0 = s.rd p 0 := fun p h => by
    simp only [List.mem_cons, List.not_mem_nil, or_false, not_or] at h
    obtain ⟨measured, sink, offset, gain, sensor, status⟩ := h
    refine (State.rd_setBit_param _ _ _ _ _ _ _ status).trans ((m.rd_meansApplied_other small 0 ?_).trans
      (s.rd_measured _ _ _ measured))
    simp only [List.mem_cons, List.not_mem_nil, or_false, not_or]
    exact ⟨sink, offset, gain, sensor⟩
  have applied : Frame trimCodeParams trimEndElements [.trim, .update, .wdp, .free] s w :=
    Frame.setBit _ _ _ _ (((frame_measured s r.sinks x _).weaken (by simp [trimCodeParams]) (fun _ h => h) (by simp)).trans
      ((frame_meansApplied m small _ _).weaken (by simp [trimCodeParams]) (fun _ h => h) (fun _ h => h))) (by decide)
  have ended := (trimEnded_endTrim w (result := 1) (cause := 0) (by decide)).settle
  refine ⟨_, congrArg done second, ended.done (before _ (by decide)) (before _ (by decide)),
    List.all_eq_true.mpr fun k hk => ?_, frame_trimEnded ended applied (fun _ h => h) (by decide)⟩
  have codes : ∀ q < 4, trimParam q ∉ housekeeping ∧ trimParam q ≠ P.TrimStatus ∧
      ∀ x ∈ trimEndElements, x.1 ≠ trimParam q := by decide
  have below := small k hk
  obtain ⟨hp, status, others⟩ := codes (k.1 / 64) (by omega)
  have written : w.rd (trimParam (k.1 / 64)) (k.1 % 64) = _ :=
    (State.rd_setBit_param _ _ _ _ _ _ _ status).trans (m.rd_meansApplied rising small hk)
  rw [beq_iff_eq, ← written]
  exact ended.frame.rd (by omega) hp List.not_mem_nil fun h => others _ h rfl

theorem completes_trimSweepDone_flagged {x : TrimSweep} {r : TrimRun} {a : SMap Nat} (run : s.trim = some r)
    (first : r.first = some a)
    (apart : a.any (fun k => decide (s.rdN P.TrimTolerance 0 < codeGap a (s.sweepCodes r x s.free.1).1 k.1)) = true) :
    Completes (.trimSweepDone x) s fun t => TrimDone 33 s t ∧
      (s.rdN P.TrimFlagCount 0 < 0xFFFFFFFE → t.rdN P.TrimFlagCount 0 = s.rdN P.TrimFlagCount 0 + 1) ∧
      (∀ q < 4, ∀ i < 256, t.rd (trimParam q) i = s.rd (trimParam q) i) ∧
      Frame [P.SinkMeasured] [(P.LastDisagreement, 0), (P.TrimFlagCount, 0), (P.TrimControl, 0), (P.TrimStatus, 0),
        (P.RunTemperature, 0), (P.TrimRunCount, 0), (P.MaintenanceStatus, 0)] [.trim, .update, .wdp, .free] s t := by
  have second := State.sweepDone_second (x := x) run first
  let m := s.measured r.sinks x
  have tolerance : m.rdN P.TrimTolerance 0 = s.rdN P.TrimTolerance 0 :=
    congrArg BitVec.toNat (s.rd_measured _ _ _ (by decide))
  obtain ⟨v, flags⟩ := State.compareTrim_of_disagree (s := m) (r.clamped || (s.sweepCodes r x s.free.1).2)
    (by rwa [tolerance])
  let w := m.wr P.LastDisagreement 0 v
  have before : ∀ p e, p ≠ P.LastDisagreement → p ≠ P.SinkMeasured → w.rd p e = s.rd p e := fun p e shown measured =>
    (State.rd_wr_param _ _ _ _ _ _ shown).trans (s.rd_measured _ _ _ measured)
  obtain ⟨done_, counted, frame⟩ := trimDone_flagTrim w (cause := 1) (by decide)
  have all : Frame [P.SinkMeasured] ((P.LastDisagreement, 0) :: (P.TrimFlagCount, 0) :: trimEndElements)
      [.trim, .update, .wdp, .free] s (w.flagTrim 1).settle :=
    (Frame.wr _ _ _ ((frame_measured s r.sinks x _).weaken (fun _ h => h) (fun _ h => h) (by simp)) (by decide)).trans
      (frame.weaken (by simp) (by simp) (by simp))
  refine ⟨_, congrArg done (second.trans flags), done_.of_rd (before _ _ (by decide) (by decide))
    (before _ _ (by decide) (by decide)), ?_, fun q hq i hi => ?_, all⟩
  · rw [← show w.rdN P.TrimFlagCount 0 = s.rdN P.TrimFlagCount 0 from
      congrArg BitVec.toNat (before _ _ (by decide) (by decide))]
    exact counted
  · have codes : ∀ q < 4, trimParam q ∉ housekeeping ∧ trimParam q ∉ [P.SinkMeasured] ∧
        ∀ x ∈ (P.LastDisagreement, 0) :: (P.TrimFlagCount, 0) :: trimEndElements, x.1 ≠ trimParam q := by decide
    obtain ⟨hp, measured, others⟩ := codes q hq
    exact all.rd hi hp measured fun h => others _ h rfl

/-! ### Darkness that does not come -/

theorem completes_trimDarkTimeout {r : TrimRun} (run : s.trim = some r) (dark : r.photodiodes = true) :
    Completes .trimDarkTimeout s fun t => TrimDone 34 s t ∧
      (s.rdN P.TrimFlagCount 0 < 0xFFFFFFFE → t.rdN P.TrimFlagCount 0 = s.rdN P.TrimFlagCount 0 + 1) ∧
      Frame [] ((P.TrimFlagCount, 0) :: trimEndElements) [.trim] s t := by
  have act : exec .trimDarkTimeout s = done (s.flagTrim 2) := by
    show execTrimDarkTimeout s = _
    unfold execTrimDarkTimeout
    rw [run]
    exact if_pos dark
  exact ⟨_, act, trimDone_flagTrim s (cause := 2) (by decide)⟩

theorem State.trimDarkTimeout_rests (h : s.trim = none ∨ s.trim.map (·.photodiodes) = some false) :
    exec .trimDarkTimeout s = done s := by
  show execTrimDarkTimeout s = _
  unfold execTrimDarkTimeout
  cases run : s.trim with
  | none => rfl
  | some r =>
    rw [run] at h
    have dark : r.photodiodes = false := by simpa using h
    exact if_neg (by simp [dark])

/-- Settles O44: a run's start, its two sweeps and each of its ends. -/
theorem trimRuns : Obligations.TrimRuns := by
  unfold Obligations.TrimRuns
  refine ⟨?start, ?untargeted, ?busy, ?auto, ?rests, ?deferred, ?first, ?agreed, ?flagged, ?idle, ?dark, ?lit, ?aborted⟩
  case start =>
    rintro s rq value ⟨granted, starts, stays, some, free⟩
    obtain ⟨t, ht, answer, ⟨trim, taken, masthead, running, manual⟩, targets, frame⟩ :=
      completes_trimStart granted starts stays some free
    exact ⟨t, ht, answer, trim, taken, masthead, running, manual, targets, frame⟩
  case untargeted =>
    rintro s rq value ⟨granted, starts, none⟩
    exact completes_trimStart_untargeted granted starts none
  case busy =>
    rintro s rq value ⟨granted, starts, some, taken, late⟩
    exact completes_trimStart_busy granted starts some taken late
  case auto =>
    rintro s ⟨allowed, none, targets, fresh, free⟩
    have started := trimStarted_startTrim s true
    obtain ⟨trim, taken, -, running, automatic⟩ := started.runs (frame_settle _ _)
    exact ⟨_, State.trimFirstAuto_starts allowed none targets fresh free, trim, automatic, running, taken,
      started.frame.settle.weaken (by simp) (by simp) (by simp)⟩
  case rests =>
    rintro s h
    exact ⟨_, State.trimFirstAuto_rests h, (Frame.refl ..).settle⟩
  case deferred =>
    rintro s ⟨allowed, none, targets, fresh, held⟩
    exact completes_trimFirstAuto_deferred allowed none targets fresh held
  case first =>
    rintro s x r ⟨run, first⟩
    exact completes_trimSweepDone_first run first
  case agreed =>
    rintro s x r a ⟨run, first, rising, small, agree⟩
    obtain ⟨t, ht, ⟨trim, free, temperature, counted, idle, result⟩, codes, frame⟩ :=
      completes_trimSweepDone_agreed run first rising small agree
    exact ⟨t, ht, trim, free, temperature, counted, idle, result, codes, frame⟩
  case flagged =>
    rintro s x r a ⟨run, first, apart⟩
    obtain ⟨t, ht, ⟨trim, free, temperature, counted, idle, result⟩, rest⟩ :=
      completes_trimSweepDone_flagged run first apart
    exact ⟨t, ht, trim, free, temperature, counted, idle, result, rest⟩
  case idle =>
    rintro s x none
    have act : exec (.trimSweepDone x) s = done s := by
      refine congrArg done ?_
      unfold State.sweepDone
      rw [none]
    exact ⟨_, act, (Frame.refl ..).settle⟩
  case dark =>
    rintro s r ⟨run, dark⟩
    obtain ⟨t, ht, ⟨trim, free, temperature, counted, idle, result⟩, flags, frame⟩ := completes_trimDarkTimeout run dark
    exact ⟨t, ht, trim, free, temperature, counted, idle, result, flags,
      frame.weaken (fun _ h => h) (fun _ h => h) (by simp)⟩
  case lit =>
    rintro s h
    exact ⟨_, State.trimDarkTimeout_rests h, (Frame.refl ..).settle⟩
  case aborted =>
    rintro s rq ⟨granted, running⟩
    obtain ⟨t, ht, ⟨trim, free, temperature, counted, idle, result⟩, rest⟩ := completes_trimAbort granted running
    exact ⟨t, ht, trim, free, temperature, counted, idle, result, rest⟩

end Sys2Proof.Machine
end

section
namespace Sys2Proof.Machine

variable {s t u : State}

/-! ### The statistics snapshot (R292 to R294) -/

/-- A new record of the ports' shared block. -/
theorem Frame.shroud {ps : List Nat} {es : List (Nat × Nat)} {fs : List Part} (x : Shroud) (h : Frame ps es fs s t)
    (hf : .shroud ∈ fs) : Frame ps es fs s { t with shroud := x } :=
  h.parts rfl (by constructor <;> intros <;> first | rfl | exact ⟨rfl, rfl⟩ | contradiction)

/-- The records are read from the counters and their counts of this clock. -/
theorem State.snapshotRecords_congr (counted : t.now.counted = s.now.counted)
    (rd : ∀ p ∈ shroudSlots ++ staySlots, ∀ e, t.rd p e = s.rd p e) : t.snapshotRecords = s.snapshotRecords := by
  have slots : ∀ p ∈ shroudSlots ++ staySlots, ∀ e, t.slotBytes p e = s.slotBytes p e := fun p hp e => by
    unfold State.slotBytes State.untallied
    rw [counted, rd p hp e]
  unfold State.snapshotRecords
  refine congrArg₂ (· ++ ·) (List.flatMap_congr fun p _ => List.flatMap_congr fun c hc => ?_)
    (List.flatMap_congr fun p _ => congrArg (· ++ _) (List.flatMap_congr fun c hc => ?_))
  · exact slots c (List.mem_append_left _ hc) _
  · exact slots c (List.mem_append_right _ hc) _

/-- What a capture takes. -/
def State.captureBytes (s : State) : List Byte :=
  leBytes 4 s.tns.toNat ++ leBytes 4 s.seconds.toNat ++ s.snapshotRecords

theorem State.capture_eq (s : State) : s.capture = { s with shroud := { s.shroud with captured := some s.captureBytes } } :=
  rfl

theorem State.captureDue_of_due (pending : s.bit P.SnapshotControl 0 2 = true) (fresh : s.shroud.captured = none)
    (isDue : due ((s.rd P.SnapshotAt 0).setWidth 32) s.tns = true) : s.captureDue = s.capture := by
  unfold State.captureDue
  rw [if_pos (by simp [pending, fresh, isDue])]

theorem State.captureDue_of_not (h : s.bit P.SnapshotControl 0 2 = false ∨ s.shroud.captured.isSome = true ∨
    due ((s.rd P.SnapshotAt 0).setWidth 32) s.tns = false) : s.captureDue = s := by
  unfold State.captureDue
  refine if_neg fun called => ?_
  simp only [Bool.and_eq_true, Option.isNone_iff_eq_none] at called
  obtain ⟨⟨pending, fresh⟩, isDue⟩ := called
  obtain h | h | h := h
  · exact absurd (pending.symm.trans h) (by decide)
  · rw [fresh] at h
    exact absurd h (by decide)
  · exact absurd (isDue.symm.trans h) (by decide)

/-- The state in which a snapshot is pending: its control bits written, and what it has captured, if anything. -/
def State.snapshotPending (s : State) (scheduled : Bool) (c : Option (List Byte)) : State :=
  (({ s with shroud := { s.shroud with captured := c } } : State).setBit P.SnapshotControl 0 1 scheduled).setBit
    P.SnapshotControl 0 2 true

theorem State.rd_snapshotPending (s : State) (scheduled : Bool) (c : Option (List Byte)) {p : Nat} (e : Nat)
    (h : p ≠ P.SnapshotControl) : (s.snapshotPending scheduled c).rd p e = s.rd p e := by
  unfold State.snapshotPending
  rw [State.rd_setBit_param _ _ _ _ _ _ _ h, State.rd_setBit_param _ _ _ _ _ _ _ h]
  rfl

theorem State.pending_snapshotPending (s : State) (scheduled : Bool) (c : Option (List Byte)) :
    (s.snapshotPending scheduled c).bit P.SnapshotControl 0 2 = true := by
  unfold State.snapshotPending
  rw [State.bit_setBit _ _ _ _ _ _ (by decide), if_pos rfl]

/-- What is captured is what the state before the write would capture. -/
theorem State.captureBytes_snapshotPending (s : State) (scheduled : Bool) (c : Option (List Byte)) :
    (s.snapshotPending scheduled c).captureBytes = s.captureBytes := by
  have time : (s.snapshotPending scheduled c).fullTime = s.fullTime :=
    State.fullTime_congr (s.rd_snapshotPending _ _ _ (by decide)) (s.rd_snapshotPending _ _ _ (by decide)) rfl
  have slots : ∀ p ∈ shroudSlots ++ staySlots, p ≠ P.SnapshotControl := by decide
  have records : (s.snapshotPending scheduled c).snapshotRecords = s.snapshotRecords :=
    State.snapshotRecords_congr rfl fun p hp e => s.rd_snapshotPending _ _ _ (slots p hp)
  unfold State.captureBytes State.seconds
  rw [time, records]
  rfl

theorem State.captureBytes_arbitrate (s : State) (rq : Requester) : (s.arbitrate rq).captureBytes =
    leBytes 4 s.tns.toNat ++ leBytes 4 s.seconds.toNat ++ (s.arbitrate rq).snapshotRecords := by
  unfold State.captureBytes State.seconds
  rw [State.fullTime_arbitrate]
  obtain ⟨n, hn⟩ := s.arbitrate_eq rq
  rw [hn]
  rfl

/-- The rows of SnapshotControl and CableTestControl: one stored bit each. -/
def portControlRow (p mask : Nat) : Row := ⟨p, .u32, .rw, 1, 0, 1, 0, 4294967295, mask, 0, 0, false, true, false, .none, 0⟩

theorem row_snapshotControl : Dict.row P.SnapshotControl = some (portControlRow P.SnapshotControl 2) := by decide +kernel

theorem State.writeElement_snapshotControl (s : State) (via : Via) (v : Wide) :
    s.writeElement via (portControlRow P.SnapshotControl 2) 0 v = s.writeSnapshot v :=
  State.writeElement_of_unmirrored rfl rfl

theorem State.writeSnapshot_takes {v : Wide} (takes : v.getLsbD 0 = true) (scheduled : Bool)
    (when_ : v.getLsbD 1 = scheduled) : s.writeSnapshot v =
      (if scheduled then (s.snapshotPending scheduled none).captureDue else (s.snapshotPending scheduled none).capture, 0) := by
  unfold State.writeSnapshot
  rw [takes, when_]
  cases scheduled
  · rfl
  · rfl

theorem frame_snapshotPending (s : State) (scheduled : Bool) (c : Option (List Byte)) :
    Frame [P.SplitWriteCount] [(P.SnapshotControl, 0)] [.answer, .shroud, .twin, .wdp] s
      (s.snapshotPending scheduled c) := by
  unfold State.snapshotPending
  exact (((Frame.refl ..).shroud _ (by decide)).setBit _ _ _ _ (by decide)).setBit _ _ _ _ (by decide)

theorem State.arbitrate_shroud (s : State) (rq : Requester) : (s.arbitrate rq).shroud = s.shroud := by
  obtain ⟨n, hn⟩ := s.arbitrate_eq rq
  rw [hn]

/-- A granted write that takes a snapshot, with what it captures, if anything. -/
theorem completes_snapshotTake {rq : Requester} {value : Word} {c : Option (List Byte)}
    (granted : s.grants rq P.SnapshotControl 0 value.toNat = true)
    (effect : (s.arbitrate rq).writeSnapshot (BitVec.ofNat 64 value.toNat) =
      ((s.arbitrate rq).snapshotPending (value.getLsbD 1) c, 0)) :
    Completes (.snapshotTake rq value) s fun t => t.wdp.answer = ⟨0, []⟩ ∧ t.bit P.SnapshotControl 0 2 = true ∧
      t.shroud = { s.shroud with captured := c } ∧
      Frame [P.SplitWriteCount] [(P.SnapshotControl, 0)] [.answer, .shroud, .twin, .wdp] s t := by
  obtain ⟨t, ht, answer, kept, frame⟩ := completes_granted (c := .snapshotTake rq value) rfl row_snapshotControl (by decide)
    granted ((State.writeElement_snapshotControl ..).trans effect) (frame_snapshotPending ..) (by decide)
  have pending := (s.arbitrate rq).pending_snapshotPending (value.getLsbD 1) c
  have shroud := kept.2.shroud (by decide)
  refine ⟨t, ht, answer, ?_, ?_, frame⟩
  · rw [← pending]
    exact State.bit_congr (kept.rd (by decide) (by decide) (by decide) (by decide)) 2
  · rw [shroud, ← s.arbitrate_shroud rq]
    rfl

/-- What a write that takes a snapshot captures. -/
theorem State.capture_snapshotPending (s : State) (rq : Requester) (scheduled : Bool) :
    ((s.arbitrate rq).snapshotPending scheduled none).capture = (s.arbitrate rq).snapshotPending scheduled
      (some (leBytes 4 s.tns.toNat ++ leBytes 4 s.seconds.toNat ++ (s.arbitrate rq).snapshotRecords)) := by
  rw [State.capture_eq, State.captureBytes_snapshotPending, State.captureBytes_arbitrate]
  rfl

theorem State.due_snapshotPending (s : State) (rq : Requester) (scheduled : Bool) :
    due ((((s.arbitrate rq).snapshotPending scheduled none).rd P.SnapshotAt 0).setWidth 32)
      ((s.arbitrate rq).snapshotPending scheduled none).tns = due ((s.rd P.SnapshotAt 0).setWidth 32) s.tns := by
  rw [State.rd_snapshotPending _ _ _ _ (by decide), State.rd_congr (s.arbitrate_regs rq)]
  obtain ⟨n, hn⟩ := s.arbitrate_eq rq
  rw [hn]
  rfl

theorem completes_snapshotTake_atOnce {rq : Requester} {value : Word}
    (granted : s.grants rq P.SnapshotControl 0 value.toNat = true) (takes : value.getLsbD 0 = true)
    (now : value.getLsbD 1 = false ∨ due ((s.rd P.SnapshotAt 0).setWidth 32) s.tns = true) :
    Completes (.snapshotTake rq value) s fun t => t.wdp.answer = ⟨0, []⟩ ∧ t.bit P.SnapshotControl 0 2 = true ∧
      t.shroud = { s.shroud with captured := some (leBytes 4 s.tns.toNat ++ leBytes 4 s.seconds.toNat ++
        (s.arbitrate rq).snapshotRecords) } ∧
      Frame [P.SplitWriteCount] [(P.SnapshotControl, 0)] [.answer, .shroud, .twin, .wdp] s t := by
  refine completes_snapshotTake granted ?_
  rw [State.writeSnapshot_takes ((getLsbD_ofNat_word value (by decide)).trans takes) (value.getLsbD 1)
    (getLsbD_ofNat_word value (by decide)), ← State.capture_snapshotPending]
  refine congrArg (·, 0) ?_
  split
  · next scheduled =>
    refine State.captureDue_of_due (State.pending_snapshotPending ..) rfl ?_
    rw [State.due_snapshotPending]
    exact now.resolve_left (by simp [scheduled])
  · rfl

theorem completes_snapshotTake_later {rq : Requester} {value : Word}
    (granted : s.grants rq P.SnapshotControl 0 value.toNat = true) (takes : value.getLsbD 0 = true)
    (scheduled : value.getLsbD 1 = true) (later : due ((s.rd P.SnapshotAt 0).setWidth 32) s.tns = false) :
    Completes (.snapshotTake rq value) s fun t => t.wdp.answer = ⟨0, []⟩ ∧ t.bit P.SnapshotControl 0 2 = true ∧
      t.shroud = { s.shroud with captured := none } ∧
      Frame [P.SplitWriteCount] [(P.SnapshotControl, 0)] [.answer, .shroud, .twin, .wdp] s t := by
  refine completes_snapshotTake granted ?_
  rw [State.writeSnapshot_takes ((getLsbD_ofNat_word value (by decide)).trans takes) (value.getLsbD 1)
    (getLsbD_ofNat_word value (by decide)), if_pos scheduled,
    State.captureDue_of_not (.inr (.inr ((s.due_snapshotPending rq _).trans later)))]

theorem completes_snapshotDue (pending : s.bit P.SnapshotControl 0 2 = true) (fresh : s.shroud.captured = none)
    (isDue : due ((s.rd P.SnapshotAt 0).setWidth 32) s.tns = true) : Completes .snapshotDue s fun t =>
      t.shroud = { s.shroud with
        captured := some (leBytes 4 s.tns.toNat ++ leBytes 4 s.seconds.toNat ++ s.snapshotRecords) } ∧
      Frame [] [] [.shroud] s t := by
  refine ⟨_, congrArg done (State.captureDue_of_due pending fresh isDue), ?_, ((Frame.refl ..).shroud _ (by decide)).settle⟩
  rw [State.settle_shroud]
  rfl

/-- The end of a capture writes the snapshot, its sequence number and the cleared Pending. -/
theorem completes_snapshotCaptureDone {b : List Byte} (captured : s.shroud.captured = some b) :
    Completes .snapshotCaptureDone s fun t => t.shroud = { s.shroud with captured := none } ∧
      t.rdN P.SnapshotSequence 0 = (s.rdN P.SnapshotSequence 0 + 1) % 2 ^ 32 ∧
      t.blob P.SnapshotData = b.take 8 ++ leBytes 4 (t.rdN P.SnapshotSequence 0) ++ [0, 0, 0, 0] ++ b.drop 8 ∧
      (∀ i < 64, t.bit P.SnapshotControl 0 i = (s.bit P.SnapshotControl 0 i && i != 2)) ∧
      Frame [] [(P.SnapshotSequence, 0), (P.SnapshotControl, 0)] [.shroud, .bodies] s t := by
  have act : exec .snapshotCaptureDone s = _ := show execSnapshotCaptureDone s = _ by
    unfold execSnapshotCaptureDone
    rw [captured]
  have below : (s.rdN P.SnapshotSequence 0 + 1) % 2 ^ 32 < 2 ^ 32 := Nat.mod_lt _ (by decide)
  generalize (s.rdN P.SnapshotSequence 0 + 1) % 2 ^ 32 = n at act below ⊢
  let v := ({ s with shroud := { s.shroud with captured := none } } : State).setBlob P.SnapshotData
    (b.take 8 ++ leBytes 4 n ++ List.replicate 4 0 ++ b.drop 8)
  let w := v.wr P.SnapshotSequence 0 (BitVec.ofNat 64 n)
  have sequence : (w.setBit P.SnapshotControl 0 2 false).settle.rdN P.SnapshotSequence 0 = n := by
    rw [State.rdN, State.rd_settle _ _ _ (by decide), State.rd_setBit_param _ _ _ _ _ _ _ (by decide), State.rd_wr_same,
      BitVec.toNat_ofNat, Nat.mod_eq_of_lt (by omega)]
  refine ⟨_, act, ?_, sequence, ?_, fun i hi => ?_, ?_⟩
  · rw [State.settle_shroud]
    rfl
  · rw [sequence]
    unfold State.blob
    rw [State.settle_blobs]
    exact SMap.get_set_same ..
  · rw [State.bit_congr (State.rd_settle _ _ _ (by decide)), State.bit_setBit _ _ _ _ _ _ hi]
    have same : w.bit P.SnapshotControl 0 i = s.bit P.SnapshotControl 0 i :=
      State.bit_congr (State.rd_wr_param _ _ _ _ _ _ (by decide)) i
    by_cases h : i = 2
    · simp [h]
    · rw [if_neg h, same]
      simp [h]
  · have captured : Frame [] [(P.SnapshotSequence, 0), (P.SnapshotControl, 0)] [.shroud, .bodies] s v :=
      ((Frame.refl ..).shroud _ (by decide)).setBlob _ _ (by decide)
    exact ((captured.wr _ _ _ (by decide)).setBit _ _ _ _ (by decide)).settle

theorem State.snapshotCaptureDone_rests (h : s.shroud.captured = none) : exec .snapshotCaptureDone s = done s := by
  show execSnapshotCaptureDone s = _
  unfold execSnapshotCaptureDone
  rw [h]

end Sys2Proof.Machine
end

section
namespace Sys2Proof.Machine

variable {s t u : State}

/-! ### The frames of a port whose link goes down (R274) -/

/-- The counters of the frames that a port discards. -/
def discardParams : List Nat :=
  [P.TxShowFrameCount, P.TxShowByteCount, P.SacnPacketCount_P810B, P.HoldFrameCount, P.TxDiscardCount]

theorem Frame.countShow {es : List (Nat × Nat)} {fs : List Part} (p : Nat) (x : Egress)
    (h : Frame discardParams es fs s t) : Frame discardParams es fs s (t.countShow p x) := by
  unfold State.countShow
  dsimp only
  have counted := (h.traffic P.TxShowFrameCount p 1 (.inl (by decide))).traffic P.TxShowByteCount p x.len
    (.inl (by decide))
  split
  · exact counted.traffic _ _ _ (.inl (by decide))
  · exact iteInduction (fun _ => counted.traffic _ _ _ (.inl (by decide))) fun _ => counted
  · exact counted

theorem frame_discardPort (s : State) (p : Nat) (es : List (Nat × Nat)) :
    Frame discardParams es [.ports] s (s.discardPort p) := by
  unfold State.discardPort
  dsimp only
  have shows := Frame.foldl (fun s x => s.countShow p x) (fun t x => Frame.countShow p x (Frame.refl ..))
    ((s.port p).shows.flatMap (·.frames))
    (Frame.setPort (ps := discardParams) (es := es) (fs := [.ports]) (s := s) p
      { s.port p with express := [], time := [], shows := [], bulk := [], sending := none } (.refl ..) (by decide))
  exact iteInduction (fun _ => shows) fun _ => shows.countBy _ _ _ (.inl (by decide))

/-- The parameters of a link that goes down. -/
def linkDownParams : List Nat :=
  [P.LinkStatus, P.PortStatus, P.LinkDownCount_P9105, P.LinkDelay] ++ discardParams

theorem Frame.setShroudPtp {ps : List Nat} {es : List (Nat × Nat)} {fs : List Part} (n : Nat) (x : ShroudPtp)
    (h : Frame ps es fs s t) (hf : .time ∈ fs) : Frame ps es fs s (t.setShroudPtp n x) :=
  h.parts rfl (by constructor <;> intros <;> first | rfl | exact ⟨rfl, rfl⟩ | contradiction)

theorem frame_shroudDown (s : State) (p : Nat) (es : List (Nat × Nat)) :
    Frame linkDownParams es [.ports, .time] s (s.shroudDown p) := by
  unfold State.shroudDown
  refine iteInduction (fun _ => ?_) fun _ => .refl ..
  refine Frame.trans ?_ ((frame_discardPort _ p es).weaken (List.subset_append_right _ _) (fun _ h => h) (by simp))
  refine Frame.setShroudPtp _ _ (Frame.wr _ _ _ (Frame.count _ _ (Frame.setBit _ _ _ _ (Frame.wr _ _ _ (.refl ..) ?_) ?_) ?_)
    ?_) (by decide)
  all_goals exact .inl (by decide)

/-- A port whose link has gone down is not up. -/
theorem State.shroudUp_shroudDown (s : State) {p : Nat} (hp : p < 256) : (s.shroudDown p).shroudUp p = false := by
  unfold State.shroudDown
  cases up : s.shroudUp p with
  | false => exact up
  | true =>
    dsimp only
    rw [if_pos rfl]
    have gone := fun v : State => (frame_discardPort v p []).rd (q := P.LinkStatus) (f := p) hp (by decide) (by decide)
      List.not_mem_nil
    unfold State.shroudUp
    rw [State.bit_congr (gone _)]
    refine (State.bit_congr (t := State.setShroudPtp _ _ _) (s := s.wr P.LinkStatus p (s.rd P.LinkStatus p &&& 0x80)) ?_ 0).trans ?_
    · refine (State.rd_wr_param _ _ _ _ _ _ (by decide)).trans ?_
      rw [State.rd_count _ _ _ _ _ (by decide) (by decide), State.rd_setBit_param _ _ _ _ _ _ _ (by decide)]
    · unfold State.bit
      rw [State.rd_wr_same, BitVec.getLsbD_and]
      simp

/-! ### The cable test (R296, R297) -/

/-- The end of a test: nothing left to test, its status cleared, the converters free. -/
structure CableEnded (s t : State) : Prop where
  frame : Frame [P.CableTestControl, P.MaintenanceStatus] [] [.shroud] s t
  cable : t.shroud.cable = []
  running : t.bit P.CableTestControl 0 1 = false
  aborting : t.bit P.CableTestControl 0 2 = false
  port : t.fld P.CableTestControl 0 8 6 = 0
  free : t.holder Res.adc = 0

theorem cableEnded_endCable (s : State) : CableEnded s s.endCable := by
  let v := (({ s with shroud := { s.shroud with cable := [], cableAbort := false } } : State).setBit P.CableTestControl 0 1
    false).setBit P.CableTestControl 0 2 false
  let w := v.setFld P.CableTestControl 0 8 6 0
  have ends : s.endCable = w.release Res.adc := rfl
  have framed : Frame [P.CableTestControl, P.MaintenanceStatus] [] [.shroud] s w :=
    ((((Frame.refl ..).shroud _ (by decide)).setBit _ _ _ _ (by decide)).setBit _ _ _ _ (by decide)).setFld _ _ _ _ _ (by decide)
  have control : (w.release Res.adc).rd P.CableTestControl 0 = w.rd P.CableTestControl 0 :=
    State.rd_release _ _ _ (by decide) (by decide)
  have bits : ∀ i, i < 8 → w.bit P.CableTestControl 0 i = v.bit P.CableTestControl 0 i := fun i hi => by
    have put : w.rd P.CableTestControl 0 = putField (v.rd P.CableTestControl 0) 8 6 0 := State.rd_wr_same ..
    unfold State.bit
    rw [put, getLsbD_putField _ _ _ _ _ (by omega), if_neg (by omega)]
  rw [ends]
  refine ⟨framed.release _ (by decide), ?_, ?_, ?_, ?_, State.holder_release _ _ (by decide)⟩
  · unfold State.release
    dsimp only
    rw [State.event_shroud]
    rfl
  · rw [State.bit_congr control, bits 1 (by decide), State.bit_setBit _ _ _ _ _ _ (by decide), if_neg (by decide),
      State.bit_setBit _ _ _ _ _ _ (by decide), if_pos rfl]
  · rw [State.bit_congr control, bits 2 (by decide), State.bit_setBit _ _ _ _ _ _ (by decide), if_pos rfl]
  · rw [State.fld_congr control]
    exact State.fld_setFld_same _ _ _ _ _ _ (by decide)

theorem CableEnded.settle (h : CableEnded s t) : CableEnded s t.settle := by
  have control : t.settle.rd P.CableTestControl 0 = t.rd P.CableTestControl 0 := State.rd_settle _ _ _ (by decide)
  exact ⟨h.frame.settle, by rw [State.settle_shroud, h.cable], (State.bit_congr control _).trans h.running,
    (State.bit_congr control _).trans h.aborting, (State.fld_congr control).trans h.port,
    (State.holder_congr (State.rd_settle _ _ _ (by decide))).trans h.free⟩

/-- A result of Table 13.15 with the distance of a fault. -/
def cableValue (status distance : Nat) : Wide := BitVec.ofNat 64 (status % 16 * 2 ^ 28 + distance % 65536)

theorem cableValue_of_lt {status distance : Nat} (hs : status < 16) (hd : distance < 65536) :
    cableValue status distance = BitVec.ofNat 64 (status * 2 ^ 28 + distance) := by
  unfold cableValue
  rw [Nat.mod_eq_of_lt hs, Nat.mod_eq_of_lt hd]

/-- The test of one port is over: its link may come up again and its result is shown. -/
def State.cableShown (s : State) (p : Nat) (v : Wide) : State := (s.setBit P.LinkStatus p 7 false).wr P.CableResult p v

theorem State.setCableResult_eq (s : State) (p status distance : Nat) :
    (s.setBit P.LinkStatus p 7 false).setCableResult p status distance =
      s.cableShown p (cableValue status distance) := rfl

theorem State.result_cableShown (s : State) (p : Nat) (v : Wide) : (s.cableShown p v).rd P.CableResult p = v :=
  State.rd_wr_same ..

theorem State.tested_cableShown (s : State) (p : Nat) (v : Wide) : (s.cableShown p v).bit P.LinkStatus p 7 = false := by
  unfold State.cableShown
  rw [State.bit_congr (State.rd_wr_param _ _ _ _ _ _ (by decide)), State.bit_setBit _ _ _ _ _ _ (by decide), if_pos rfl]

theorem State.rd_cableShown_other (s : State) {p q : Nat} (v : Wide) (r : Nat) (hp : p < 256) (hq : q < 256)
    (h : q ≠ p) : (s.cableShown p v).rd r q = s.rd r q := by
  unfold State.cableShown State.setBit State.setFld
  rw [State.rd_wr_other _ _ _ _ _ _ (.inr (by omega)), State.rd_wr_other _ _ _ _ _ _ (.inr (by omega))]

theorem frame_cableShown (s : State) (p : Nat) (v : Wide) : Frame [P.CableResult, P.LinkStatus] [] [] s (s.cableShown p v) :=
  ((Frame.refl ..).setBit _ _ _ _ (.inl (by decide))).wr _ _ _ (.inl (by decide))

/-- The end of the last port's test ends the test. -/
theorem State.cablePortDone_last {p status distance : Nat} (last : s.shroud.cable = [p]) :
    s.cablePortDone status distance =
      (s.cableShown p (cableValue status (if status = 0 then 0 else distance))).endCable := by
  unfold State.cablePortDone
  rw [last]
  dsimp only
  unfold State.abortCable State.nextCable
  rw [State.setCableResult_eq, List.foldl_nil, ite_self]

/-- An abort takes effect after the port under test: the others are reported aborted. -/
theorem State.cablePortDone_aborted {p q status distance : Nat} (two : s.shroud.cable = [p, q])
    (abort : s.shroud.cableAbort = true) : s.cablePortDone status distance =
      ((s.cableShown p (cableValue status (if status = 0 then 0 else distance))).cableShown q
        (cableValue Cable.aborted 0)).endCable := by
  unfold State.cablePortDone
  rw [two]
  dsimp only
  have aborts : ∀ v, (s.cableShown p v).shroud.cableAbort = true := fun _ => abort
  rw [State.setCableResult_eq, if_pos (aborts _)]
  unfold State.abortCable
  rw [List.foldl_cons, List.foldl_nil, State.setCableResult_eq]

theorem completes_cablePortTestDone_last {status : Fin 16} {distance : Half} {p : Nat} (last : s.shroud.cable = [p])
    (hp : p < 64) : Completes (.cablePortTestDone status distance) s fun t => t.shroud.cable = [] ∧
      t.rd P.CableResult p = BitVec.ofNat 64 (status.val * 2 ^ 28 + (if status.val = 0 then 0 else distance.toNat)) ∧
      t.bit P.LinkStatus p 7 = false ∧ t.bit P.CableTestControl 0 1 = false ∧ t.bit P.CableTestControl 0 2 = false ∧
      t.fld P.CableTestControl 0 8 6 = 0 ∧ t.holder Res.adc = 0 ∧
      (∀ q < 64, q ≠ p → t.rd P.CableResult q = s.rd P.CableResult q ∧ t.rd P.LinkStatus q = s.rd P.LinkStatus q) ∧
      Frame [P.CableResult, P.LinkStatus, P.CableTestControl, P.MaintenanceStatus] [] [.shroud, .update] s t := by
  have far : (if status.val = 0 then 0 else distance.toNat) < 65536 := by
    split
    · decide
    · exact distance.isLt
  have act : exec (.cablePortTestDone status distance) s = _ := congrArg done (State.cablePortDone_last last)
  rw [cableValue_of_lt status.isLt far] at act
  generalize BitVec.ofNat 64 (status.val * 2 ^ 28 + (if status.val = 0 then 0 else distance.toNat)) = value at act ⊢
  have ended := (cableEnded_endCable (s.cableShown p value)).settle
  have kept : ∀ r q, q < 256 → r ∉ housekeeping → r ∉ [P.CableTestControl, P.MaintenanceStatus] →
      (s.cableShown p value).endCable.settle.rd r q = (s.cableShown p value).rd r q :=
    fun r q hq hk hr => ended.frame.rd hq hk hr List.not_mem_nil
  refine ⟨_, act, ended.cable, ?_, ?_, ended.running, ended.aborting, ended.port, ended.free,
    fun q hq other => ⟨?_, ?_⟩, ?_⟩
  · rw [kept _ _ (by omega) (by decide) (by decide), State.result_cableShown]
  · rw [State.bit_congr (kept _ _ (by omega) (by decide) (by decide)), State.tested_cableShown]
  · rw [kept _ _ (by omega) (by decide) (by decide), State.rd_cableShown_other _ _ _ (by omega) (by omega) other]
  · rw [kept _ _ (by omega) (by decide) (by decide), State.rd_cableShown_other _ _ _ (by omega) (by omega) other]
  · exact ((frame_cableShown s p value).weaken (by simp) (by simp) (by simp)).trans
      (ended.frame.weaken (by simp) (by simp) (by simp))

theorem completes_cablePortTestDone_aborted {status : Fin 16} {distance : Half} {p q : Nat}
    (two : s.shroud.cable = [p, q]) (hq : q < 64) (abort : s.shroud.cableAbort = true) :
    Completes (.cablePortTestDone status distance) s fun t => t.shroud.cable = [] ∧
      t.rd P.CableResult q = BitVec.ofNat 64 (Cable.aborted * 2 ^ 28) ∧ t.bit P.CableTestControl 0 1 = false := by
  have act : exec (.cablePortTestDone status distance) s = _ := congrArg done (State.cablePortDone_aborted two abort)
  generalize s.cableShown p _ = v at act
  have ended := (cableEnded_endCable (v.cableShown q (cableValue Cable.aborted 0))).settle
  refine ⟨_, act, ended.cable, ?_, ended.running⟩
  rw [ended.frame.rd (by omega) (by decide) (by decide) List.not_mem_nil, State.result_cableShown]
  rfl

theorem State.cablePortDone_idle {status distance : Nat} (none : s.shroud.cable = []) :
    s.cablePortDone status distance = s := by
  unfold State.cablePortDone
  rw [none]

end Sys2Proof.Machine
end

section
namespace Sys2Proof.Machine

variable {s t u : State}

/-! ### A cable test starts, is refused or is to be aborted -/

/-- What the start of a port's test may write. -/
def cableParams : List Nat := [P.CableTestControl, P.MaintenanceStatus] ++ linkDownParams

/-- A test that has begun with the first of its ports. -/
structure CableBegun (p : Nat) (ps : List Nat) (s t : State) : Prop where
  frame : Frame cableParams [] [.answer, .shroud, .ports, .time] s t
  cable : t.shroud.cable = p :: ps
  running : t.bit P.CableTestControl 0 1 = true
  port : t.fld P.CableTestControl 0 8 6 = p
  tested : t.bit P.LinkStatus p 7 = true
  down : t.shroudUp p = false
  holds : t.holder Res.adc = 2

/-- The next port is tested where Force is set, its link first taken down. -/
theorem State.nextCable_of_force {p : Nat} (ps : List Nat) (force : s.bit P.CableTestControl 0 3 = true) :
    s.nextCable (p :: ps) =
      (((s.shroudDown p).setBit P.LinkStatus p 7 true).setFld P.CableTestControl 0 8 6 p).setCable (p :: ps) := by
  unfold State.nextCable
  exact if_neg (by simp [force])

theorem bit_setFld_other (s : State) (p e lo n x i : Nat) (hi : i < 64) (h : i < lo ∨ lo + n ≤ i) :
    (s.setFld p e lo n x).bit p e i = s.bit p e i := by
  have put : (s.setFld p e lo n x).rd p e = putField (s.rd p e) lo n x := State.rd_wr_same ..
  unfold State.bit
  rw [put, getLsbD_putField _ _ _ _ _ hi, if_neg (by omega)]

theorem cableBegun_nextCable {p : Nat} (ps : List Nat) (hp : p < 64) (force : s.bit P.CableTestControl 0 3 = true)
    (running : s.bit P.CableTestControl 0 1 = true) (holds : s.holder Res.adc = 2) :
    CableBegun p ps s (s.nextCable (p :: ps)) := by
  rw [State.nextCable_of_force ps force]
  have down := frame_shroudDown s p []
  have gone := s.shroudUp_shroudDown (p := p) (by omega)
  generalize s.shroudDown p = d at *
  have control : d.rd P.CableTestControl 0 = s.rd P.CableTestControl 0 :=
    down.rd (by decide) (by decide) (by decide) (by decide)
  have hold : d.rd P.MaintenanceStatus 0 = s.rd P.MaintenanceStatus 0 :=
    down.rd (by decide) (by decide) (by decide) (by decide)
  have other : ∀ q e, q ≠ P.LinkStatus → (d.setBit P.LinkStatus p 7 true).rd q e = d.rd q e := fun q e h =>
    State.rd_setBit_param _ _ _ _ _ _ _ h
  have tested := State.bit_setBit d P.LinkStatus p 7 7 true (by decide)
  have up := State.bit_setBit d P.LinkStatus p 7 0 true (by decide)
  have linked : Frame cableParams [] [.answer, .shroud, .ports, .time] s (d.setBit P.LinkStatus p 7 true) :=
    (down.weaken (by simp [cableParams]) (by simp) (by simp)).setBit _ _ _ _ (.inl (by decide))
  generalize d.setBit P.LinkStatus p 7 true = v at *
  have link : (v.setFld P.CableTestControl 0 8 6 p).rd P.LinkStatus p = v.rd P.LinkStatus p :=
    State.rd_setFld_param _ _ _ _ _ _ _ _ (by decide)
  have run := bit_setFld_other v P.CableTestControl 0 8 6 p 1 (by decide) (.inl (by decide))
  have port := State.fld_setFld_same v P.CableTestControl 0 8 6 p (by decide)
  have maintenance : (v.setFld P.CableTestControl 0 8 6 p).rd P.MaintenanceStatus 0 = v.rd P.MaintenanceStatus 0 :=
    State.rd_setFld_param _ _ _ _ _ _ _ _ (by decide)
  have begun := linked.setFld P.CableTestControl 0 8 6 p (.inl (by decide))
  generalize v.setFld P.CableTestControl 0 8 6 p = w at *
  have same : ∀ q e, (w.setCable (p :: ps)).rd q e = w.rd q e := fun _ _ => rfl
  refine ⟨begun.shroud _ (by decide), rfl, ?_, ?_, ?_, ?_, ?_⟩
  · rw [State.bit_congr (same _ _), run, State.bit_congr (other _ _ (by decide)), State.bit_congr control, running]
  · rw [State.fld_congr (same _ _), port]
    exact Nat.mod_eq_of_lt hp
  · rw [State.bit_congr (same _ _), State.bit_congr link, tested, if_pos rfl]
  · unfold State.shroudUp at *
    rw [State.bit_congr (same _ _), State.bit_congr link, up, if_neg (by decide), gone]
  · rw [State.holder_congr (same _ _), State.holder_congr maintenance, State.holder_congr (other _ _ (by decide)),
      State.holder_congr hold, holds]

theorem row_cableTestControl : Dict.row P.CableTestControl = some (portControlRow P.CableTestControl 8) := by decide +kernel

theorem State.writeElement_cableTestControl (s : State) (via : Via) (v : Wide) :
    s.writeElement via (portControlRow P.CableTestControl 8) 0 v = s.writeCableTest v :=
  State.writeElement_of_unmirrored rfl rfl

/-- An abort that comes with a write is noted while a test runs. -/
def State.cableAborting (s : State) (abort : Bool) : State :=
  if abort then { s.setBit P.CableTestControl 0 2 true with shroud := { s.shroud with cableAbort := true } } else s

theorem frame_cableAborting (s : State) (abort : Bool) (ps : List Nat) (hp : P.CableTestControl ∈ ps) :
    Frame ps [] [.answer, .shroud, .ports, .time] s (s.cableAborting abort) :=
  iteInduction (fun _ => ((Frame.refl ..).setBit _ _ _ _ (.inl hp)).shroud _ (by decide)) fun _ => .refl ..

theorem State.bit_cableAborting (s : State) (abort : Bool) {i : Nat} (hi : i < 64) (h : i ≠ 2) :
    (s.cableAborting abort).bit P.CableTestControl 0 i = s.bit P.CableTestControl 0 i := by
  unfold State.cableAborting
  split
  · exact (State.bit_setBit s _ _ _ _ _ hi).trans (if_neg h)
  · rfl

/-- The converters are held for a test that runs. -/
def State.cableHeld (s : State) : State := (s.hold Res.adc Hold.cable).setBit P.CableTestControl 0 1 true

/-- What stands when the first port of a test is chosen. -/
def State.cableReady (s : State) (abort : Bool) : State :=
  ((s.setBit P.CableTestControl 0 3 true).cableAborting abort).cableHeld

theorem frame_cableReady (s : State) (abort : Bool) :
    Frame cableParams [] [.answer, .shroud, .ports, .time] s (s.cableReady abort) := by
  have forced : Frame cableParams [] [.answer, .shroud, .ports, .time] s (s.setBit P.CableTestControl 0 3 true) :=
    (Frame.refl ..).setBit _ _ _ _ (.inl (by decide))
  exact ((forced.trans (frame_cableAborting _ abort cableParams (by decide))).setFld _ _ _ _ _ (.inl (by decide))).setBit
    _ _ _ _ (.inl (by decide))

theorem State.cableReady_stands (s : State) (abort : Bool) : (s.cableReady abort).bit P.CableTestControl 0 3 = true ∧
    (s.cableReady abort).bit P.CableTestControl 0 1 = true ∧ (s.cableReady abort).holder Res.adc = 2 := by
  unfold State.cableReady State.cableHeld State.hold
  refine ⟨?_, ?_, ?_⟩
  · rw [State.bit_setBit _ _ _ _ _ _ (by decide), if_neg (by decide),
      State.bit_congr (State.rd_setFld_param _ _ _ _ _ _ _ _ (by decide)), State.bit_cableAborting _ _ (by decide) (by decide),
      State.bit_setBit _ _ _ _ _ _ (by decide), if_pos rfl]
  · rw [State.bit_setBit _ _ _ _ _ _ (by decide), if_pos rfl]
  · rw [State.holder_congr (State.rd_setBit_param _ _ _ _ _ _ _ (by decide))]
    exact State.fld_setFld_same _ _ _ _ _ _ (by decide)

theorem State.writeCableTest_starts {v : Wide} (starts : v.getLsbD 0 = true) (force : v.getLsbD 3 = true)
    (free : s.taken Res.adc = false) : s.writeCableTest v =
      ((s.cableReady (v.getLsbD 2 && s.bit P.CableTestControl 0 1)).nextCable
        ((List.range 64).filter
          ((s.cableReady (v.getLsbD 2 && s.bit P.CableTestControl 0 1)).bit P.CableTestPorts 0)), 0) := by
  unfold State.writeCableTest
  dsimp only
  rw [starts, force, free, if_neg (by decide), if_pos rfl]
  rfl

theorem State.writeCableTest_busy {v : Wide} (starts : v.getLsbD 0 = true) (taken : s.taken Res.adc = true) :
    s.writeCableTest v = (s.refuseStart, 1) := by
  unfold State.writeCableTest
  exact if_pos (by simp [starts, taken])

theorem State.writeCableTest_aborts {v : Wide} (rests : v.getLsbD 0 = false) (aborts : v.getLsbD 2 = true)
    (running : s.bit P.CableTestControl 0 1 = true) :
    s.writeCableTest v = ((s.setBit P.CableTestControl 0 3 (v.getLsbD 3)).cableAborting true, 0) := by
  unfold State.writeCableTest
  dsimp only
  rw [rests, aborts, running, Bool.false_and, if_neg (by decide), if_neg (by decide)]
  rfl

/-- A granted start takes the converters and tests the first port named. -/
theorem completes_cableTestStart {rq : Requester} {value : Word} {p : Nat} {ps : List Nat}
    (granted : s.grants rq P.CableTestControl 0 value.toNat = true) (starts : value.getLsbD 0 = true)
    (free : (s.arbitrate rq).taken Res.adc = false) (force : value.getLsbD 3 = true)
    (ports : (List.range 64).filter (fun q => s.bit P.CableTestPorts 0 q) = p :: ps) :
    Completes (.cableTestStart rq value) s fun t => t.wdp.answer = ⟨0, []⟩ ∧ t.shroud.cable = p :: ps ∧
      t.bit P.CableTestControl 0 1 = true ∧ t.fld P.CableTestControl 0 8 6 = p ∧ t.bit P.LinkStatus p 7 = true ∧
      t.shroudUp p = false ∧ t.taken Res.adc = true ∧ t.dram = s.dram ∧ t.content = s.content := by
  have hp : p < 64 := List.mem_range.mp (List.mem_of_mem_filter (ports ▸ List.mem_cons_self))
  let v := BitVec.ofNat 64 value.toNat
  let r := (s.arbitrate rq).cableReady (v.getLsbD 2 && (s.arbitrate rq).bit P.CableTestControl 0 1)
  have ready : Frame cableParams [] [.answer, .shroud, .ports, .time] (s.arbitrate rq) r := frame_cableReady ..
  have listed : ∀ q, r.bit P.CableTestPorts 0 q = s.bit P.CableTestPorts 0 q := fun q => by
    rw [State.bit_congr (ready.rd (by decide) (by decide) (by decide) (by decide)),
      State.bit_congr (State.rd_congr (s.arbitrate_regs rq) _ _)]
  have named : (List.range 64).filter (r.bit P.CableTestPorts 0) = p :: ps := by
    rw [funext listed]
    exact ports
  obtain ⟨forced, running, holds⟩ := (s.arbitrate rq).cableReady_stands (v.getLsbD 2 && (s.arbitrate rq).bit P.CableTestControl 0 1)
  have begun := cableBegun_nextCable ps hp forced running holds
  have effect : (s.arbitrate rq).writeElement (s.via rq) (portControlRow P.CableTestControl 8) 0 v =
      (r.nextCable (p :: ps), 0) := by
    rw [State.writeElement_cableTestControl, State.writeCableTest_starts
      ((getLsbD_ofNat_word value (by decide)).trans starts) ((getLsbD_ofNat_word value (by decide)).trans force) free, named]
  obtain ⟨t, ht, answer, kept, frame⟩ := completes_granted (c := .cableTestStart rq value) (fs := [.shroud, .ports, .time]) rfl
    row_cableTestControl (by decide) granted effect (ready.trans begun.frame) (by decide)
  have rd : ∀ q f, f < 256 → q ∉ housekeeping → t.rd q f = (r.nextCable (p :: ps)).rd q f := fun q f hf hq =>
    kept.rd hf hq List.not_mem_nil List.not_mem_nil
  refine ⟨t, ht, answer, (congrArg Shroud.cable (kept.2.shroud (by decide))).trans begun.cable,
    (State.bit_congr (rd _ _ (by decide) (by decide)) _).trans begun.running,
    (State.fld_congr (rd _ _ (by decide) (by decide))).trans begun.port,
    (State.bit_congr (rd _ _ (by omega) (by decide)) _).trans begun.tested,
    (State.bit_congr (rd _ _ (by omega) (by decide)) _).trans begun.down, State.taken_of_holder ?_, frame.2.dram (by decide),
    frame.2.content (by decide)⟩
  rw [State.holder_congr (rd _ _ (by decide) (by decide)), begun.holds]
  decide

/-- A start while the converters are taken. -/
theorem completes_cableTestStart_busy {rq : Requester} {value : Word}
    (granted : s.grants rq P.CableTestControl 0 value.toNat = true) (starts : value.getLsbD 0 = true)
    (taken : (s.arbitrate rq).taken Res.adc = true) : Completes (.cableTestStart rq value) s fun t =>
      t.wdp.answer = ⟨1, []⟩ ∧ t.shroud = s.shroud ∧ t.rd P.CableTestControl 0 = s.rd P.CableTestControl 0 := by
  have effect : (s.arbitrate rq).writeElement (s.via rq) (portControlRow P.CableTestControl 8) 0
      (BitVec.ofNat 64 value.toNat) = ((s.arbitrate rq).refuseStart, 1) := by
    rw [State.writeElement_cableTestControl]
    exact State.writeCableTest_busy ((getLsbD_ofNat_word value (by decide)).trans starts) taken
  obtain ⟨t, ht, answer, -, frame⟩ := completes_granted (c := .cableTestStart rq value) (fs := []) rfl row_cableTestControl
    (by decide) granted effect (Frame.count (ps := [P.ArbiterBusyCount]) (es := []) _ _ (.refl ..) (by decide)) (by decide)
  exact ⟨t, ht, answer, frame.2.shroud (by decide), frame.rd (by decide) (by decide) (by decide) (by decide)⟩

/-- A granted abort is noted, and the port under test goes on. -/
theorem completes_cableTestAbort {rq : Requester}
    (granted : s.grants rq P.CableTestControl 0 (4 + bitAt 3 (s.bit P.CableTestControl 0 3)) = true)
    (running : s.bit P.CableTestControl 0 1 = true) : Completes (.cableTestAbort rq false) s fun t =>
      t.shroud.cableAbort = true ∧ t.bit P.CableTestControl 0 2 = true ∧ t.shroud.cable = s.shroud.cable ∧
      Frame [P.SplitWriteCount] [(P.CableTestControl, 0)] [.answer, .shroud, .twin, .wdp] s t := by
  have act : exec (.cableTestAbort rq false) s =
      done (s.serveOne rq P.CableTestControl 0 (4 + bitAt 3 (s.bit P.CableTestControl 0 3))) :=
    congrArg done (if_neg (by simp))
  have bits : ∀ force : Bool, (BitVec.ofNat 64 (4 + bitAt 3 force)).getLsbD 0 = false ∧
      (BitVec.ofNat 64 (4 + bitAt 3 force)).getLsbD 2 = true := by decide
  obtain ⟨rests, aborts⟩ := bits (s.bit P.CableTestControl 0 3)
  generalize 4 + bitAt 3 (s.bit P.CableTestControl 0 3) = n at *
  let w := (s.arbitrate rq).setBit P.CableTestControl 0 3 ((BitVec.ofNat 64 n).getLsbD 3)
  have effect : (s.arbitrate rq).writeElement (s.via rq) (portControlRow P.CableTestControl 8) 0 (BitVec.ofNat 64 n) =
      (w.cableAborting true, 0) := by
    rw [State.writeElement_cableTestControl]
    refine State.writeCableTest_aborts rests aborts ?_
    rwa [State.bit_congr (State.rd_congr (s.arbitrate_regs rq) _ _)]
  have noted : Frame [P.SplitWriteCount] [(P.CableTestControl, 0)] [.answer, .shroud, .twin, .wdp] (s.arbitrate rq)
      (w.cableAborting true) :=
    (((Frame.refl ..).setBit _ _ _ _ (by decide)).setBit _ _ _ _ (by decide)).shroud _ (by decide)
  obtain ⟨t, ht, -, kept, frame⟩ := completes_granted (c := .cableTestAbort rq false) act row_cableTestControl (by decide)
    granted effect noted (by decide)
  have shroud : t.shroud = { s.shroud with cableAbort := true } := by
    rw [kept.2.shroud (by decide), ← s.arbitrate_shroud rq]
    rfl
  refine ⟨t, ht, by rw [shroud], ?_, by rw [shroud], frame⟩
  rw [State.bit_congr (kept.rd (by decide) (by decide) (by decide) (by decide))]
  exact (State.bit_setBit w _ _ _ _ _ (by decide)).trans (if_pos rfl)

/-- Settles O40: the snapshot's writes, its due time and its end, and the cable test's start, abort and ports. -/
theorem snapshotAndCableTest : Obligations.SnapshotAndCableTest := by
  unfold Obligations.SnapshotAndCableTest
  refine ⟨?atOnce, ?later, ?past, ?due, ?rests, ?captured, ?uncaptured, ?starts, ?busy, ?aborts, ?last, ?aborted, ?idle⟩
  case atOnce =>
    rintro s rq value ⟨granted, takes, now⟩
    exact completes_snapshotTake_atOnce granted takes (.inl now)
  case later =>
    rintro s rq value ⟨granted, takes, scheduled, later⟩
    exact completes_snapshotTake_later granted takes scheduled later
  case past =>
    rintro s rq value ⟨granted, takes, -, past⟩
    exact completes_snapshotTake_atOnce granted takes (.inr past)
  case due =>
    rintro s ⟨pending, fresh, isDue⟩
    exact completes_snapshotDue pending fresh isDue
  case rests =>
    rintro s h
    exact ⟨_, congrArg done (State.captureDue_of_not h), (Frame.refl ..).settle⟩
  case captured =>
    rintro s b captured
    exact completes_snapshotCaptureDone captured
  case uncaptured =>
    rintro s none
    exact ⟨_, State.snapshotCaptureDone_rests none, (Frame.refl ..).settle⟩
  case starts =>
    rintro s rq value p ps ⟨granted, starts, free, force, ports⟩
    exact completes_cableTestStart granted starts free force ports
  case busy =>
    rintro s rq value ⟨granted, starts, taken⟩
    exact completes_cableTestStart_busy granted starts taken
  case aborts =>
    rintro s rq ⟨granted, running⟩
    exact completes_cableTestAbort granted running
  case last =>
    rintro s status distance p ⟨last, hp⟩
    exact completes_cablePortTestDone_last last hp
  case aborted =>
    rintro s status distance p q ⟨two, -, -, hq, abort⟩
    exact completes_cablePortTestDone_aborted two hq abort
  case idle =>
    rintro s status distance none
    exact ⟨_, congrArg done (State.cablePortDone_idle none), (Frame.refl ..).settle⟩

end Sys2Proof.Machine
end

section
namespace Sys2Proof.Machine

variable {s t u : State} {p : Nat}

/-! ### Serving one shroud port touches no other (R274, R283) -/

/-- The other ports stand, and so do the other ports' links. -/
structure PortAlone (p : Nat) (s t : State) : Prop where
  ports : ∀ q, q ≠ p → t.port q = s.port q
  links : ∀ q < 256, q ≠ p → t.rd P.LinkStatus q = s.rd P.LinkStatus q

theorem PortAlone.refl (p : Nat) (s : State) : PortAlone p s s := ⟨fun _ _ => rfl, fun _ _ _ => rfl⟩

theorem PortAlone.trans (h : PortAlone p s t) (k : PortAlone p t u) : PortAlone p s u :=
  ⟨fun q hq => (k.ports q hq).trans (h.ports q hq), fun q hq other => (k.links q hq other).trans (h.links q hq other)⟩

theorem PortAlone.ite {c : Prop} {dec : Decidable c} (h : PortAlone p s t) (k : PortAlone p s u) :
    PortAlone p s (if c then t else u) := iteInduction (fun _ => h) fun _ => k

theorem PortAlone.setPort (h : PortAlone p s t) (x : ShroudPort) : PortAlone p s (t.setPort p x) :=
  h.trans ⟨fun q other => by rw [State.port_setPort, if_neg other], fun _ _ _ => rfl⟩

/-- A change of no port and no link. -/
theorem PortAlone.apart (h : PortAlone p s t) (ports : u.ports = t.ports)
    (links : ∀ q, u.rd P.LinkStatus q = t.rd P.LinkStatus q) : PortAlone p s u :=
  h.trans ⟨fun q _ => by rw [State.port, ports, State.port], fun q _ _ => links q⟩

theorem PortAlone.wr {r e : Nat} (h : PortAlone p s t) (v : Wide) (hr : P.LinkStatus ≠ r) : PortAlone p s (t.wr r e v) :=
  h.apart rfl fun _ => State.rd_wr_param _ _ _ _ _ _ hr

theorem PortAlone.countBy {r e n : Nat} (h : PortAlone p s t) (hr : P.LinkStatus ≠ r) :
    PortAlone p s (t.countBy r e n) :=
  h.apart (State.countBy_ports ..) fun _ => State.rd_countBy _ _ _ _ _ _ hr (by decide)

theorem PortAlone.traffic {r e n : Nat} (h : PortAlone p s t) (hr : P.LinkStatus ≠ r) :
    PortAlone p s (t.traffic r e n) :=
  h.apart (State.traffic_ports ..) fun _ => State.rd_traffic_param _ _ _ _ _ _ hr

theorem PortAlone.event {cls r e : Nat} {a : Word} (h : PortAlone p s t) : PortAlone p s (t.event cls r e a) :=
  h.apart (State.event_ports ..) fun _ => State.rd_event _ _ _ _ _ _ _ (by decide)

theorem PortAlone.foldl {α : Type} {f : State → α → State} (hf : ∀ t a, PortAlone p t (f t a)) :
    ∀ (l : List α) {t : State}, PortAlone p s t → PortAlone p s (l.foldl f t)
  | [], _, h => h
  | a :: l, t, h => PortAlone.foldl hf l (h.trans (hf t a))

theorem portAlone_countShow (s : State) (x : Egress) (d : Nat) : PortAlone p s (s.countShow d x) := by
  unfold State.countShow
  dsimp only
  have counted : PortAlone p s ((s.traffic P.TxShowFrameCount d 1).traffic P.TxShowByteCount d x.len) :=
    ((PortAlone.refl p s).traffic (by decide)).traffic (by decide)
  split
  · exact counted.traffic (by decide)
  · exact .ite (counted.traffic (by decide)) counted
  · exact counted

theorem portAlone_discardPort (s : State) (p : Nat) : PortAlone p s (s.discardPort p) := by
  unfold State.discardPort
  dsimp only
  have shows := PortAlone.foldl (fun t x => portAlone_countShow (p := p) t x p) ((s.port p).shows.flatMap (·.frames))
    ((PortAlone.refl p s).setPort { s.port p with express := [], time := [], shows := [], bulk := [], sending := none })
  exact .ite shows (shows.countBy (by decide))

theorem portAlone_countLate (s : State) (d frame n : Nat) : PortAlone p s (s.countLate d frame n) := by
  unfold State.countLate
  dsimp only
  have dropped : PortAlone p s (s.countBy P.LateDropCount d n) := (PortAlone.refl p s).countBy (by decide)
  generalize s.countBy P.LateDropCount d n = v at *
  have counted : PortAlone p s (v.count P.LateFrameCount d) := dropped.countBy (by decide)
  have late : PortAlone p s (if SMap.get none v.sheet.late d = some frame then v else { v.count P.LateFrameCount d with
      sheet := { v.sheet with late := SMap.set none v.sheet.late d (some frame) } }) :=
    .ite dropped (counted.apart rfl fun _ => rfl)
  exact (PortAlone.ite (((late.wr _ (by decide)).wr _ (by decide)).wr _ (by decide)) late).event

theorem portAlone_trimShow (p : Nat) : ∀ (n : Nat) (s : State), PortAlone p s (s.trimShow p n)
  | 0, s => .refl p s
  | n + 1, s => by
    unfold State.trimShow
    dsimp only
    split
    · exact .refl p s
    · split
      · exact ((PortAlone.refl p s).setPort _).trans (portAlone_trimShow p n _)
      · exact .ite (.refl p s) (((((PortAlone.refl p s).setPort _).wr _ (by decide)).trans
          (portAlone_countLate ..)).trans (portAlone_trimShow p n _))

theorem portAlone_noteData (s : State) (x : Egress) : PortAlone p s (s.noteData p x) := by
  unfold State.noteData
  split
  · exact .ite ((PortAlone.refl p s).apart rfl fun _ => rfl) ((PortAlone.refl p s).apart rfl fun _ => rfl)
  · exact .refl p s

theorem portAlone_noteTerminated (s : State) (x : Egress) : PortAlone p s (s.noteTerminated p x) := by
  unfold State.noteTerminated
  split
  · exact (PortAlone.refl p s).apart rfl fun _ => rfl
  · exact .refl p s

theorem portAlone_enterLpi (s : State) (hp : p < 256) : PortAlone p s (s.enterLpi p) := by
  unfold State.enterLpi
  refine .ite ?_ (.refl p s)
  have status : PortAlone p s (s.setBit P.PortStatus p 8 true) := (PortAlone.refl p s).wr _ (by decide)
  refine status.trans ⟨fun _ _ => rfl, fun q hq other => ?_⟩
  exact State.rd_wr_other _ _ _ _ _ _ (.inr (by omega))

/-- Serving a port. -/
theorem portAlone_servePort (s : State) (hp : p < 256) : PortAlone p s (s.servePort p) := by
  unfold State.servePort
  dsimp only
  refine .ite (portAlone_discardPort s p) (.ite (.refl p s) ?_)
  split
  · exact ((PortAlone.refl p s).setPort _).traffic (by decide)
  · split
    · exact .ite (((PortAlone.refl p s).setPort _).countBy (by decide)) ((PortAlone.refl p s).setPort _)
    · exact (PortAlone.refl p s).setPort _
  · have trimmed := portAlone_trimShow p ((s.port p).shows.length + 1) s
    split
    · split
      · exact (((trimmed.setPort _).trans (portAlone_countShow ..)).trans (portAlone_noteData ..)).trans
          (portAlone_noteTerminated ..)
      · exact trimmed
    · exact trimmed.setPort _
    · exact trimmed.trans (portAlone_enterLpi _ hp)

/-! ### What is served by strict priority -/

theorem State.servePort_of_down (h : s.shroudUp p = false) : s.servePort p = s.discardPort p :=
  if_pos (by simp [h])

theorem State.servePort_of_sending (up : s.shroudUp p = true) (h : (s.port p).sending.isSome = true) :
    s.servePort p = s := by
  unfold State.servePort
  rw [if_neg (by simp [up]), if_pos (by simp [h])]

/-- An express frame begins first. -/
theorem State.servePort_express {x : Egress} {xs : List Egress} (up : s.shroudUp p = true) (locked : s.hpllLocked = true)
    (free : (s.port p).sending = none) (express : (s.port p).express = x :: xs) : s.servePort p =
      (s.setPort p { s.port p with sending := some x, express := xs }).traffic P.ExpressForwardCount 0 1 := by
  unfold State.servePort
  rw [if_neg (by simp [up]), if_neg (by simp [free, locked])]
  dsimp only
  rw [express]

/-- A time frame begins where no express frame waits. -/
theorem State.servePort_time {x : Egress} {xs : List Egress} (up : s.shroudUp p = true) (locked : s.hpllLocked = true)
    (free : (s.port p).sending = none) (express : (s.port p).express = []) (time : (s.port p).time = x :: xs) :
    s.servePort p = s.setPort p { s.port p with sending := some x, time := xs } ∨
    s.servePort p = (s.setPort p { s.port p with sending := some x, time := xs }).count P.SyncDelayedCount p := by
  unfold State.servePort
  rw [if_neg (by simp [up]), if_neg (by simp [free, locked])]
  dsimp only
  rw [express, time]
  dsimp only
  split
  · split
    · exact .inr rfl
    · exact .inl rfl
  · exact .inl rfl

end Sys2Proof.Machine
end

section
namespace Sys2Proof.Machine

variable {s t u : State} {p : Nat}

/-! ### Steps over distinct ports -/

/-- What the steps of other ports leave. -/
theorem foldl_others {f : State → Nat → State} {kept : State → Prop} {k : Nat} {l : List Nat}
    (others : ∀ u, ∀ q ∈ l, q ≠ k → kept u → kept (f u q)) (apart : k ∉ l) (h : kept s) : kept (l.foldl f s) :=
  List.foldlRecOn l f h fun u hu q hq => others u q hq (fun same => apart (same ▸ hq)) hu

/-- What the step of a port gives, of what the steps of the others leave. -/
theorem foldl_own {f : State → Nat → State} {before after : State → Prop} {k : Nat} {l : List Nat} (nodup : l.Nodup)
    (listed : k ∈ l) (others : ∀ u, ∀ q ∈ l, q ≠ k → before u → before (f u q)) (own : ∀ u, before u → after (f u k))
    (later : ∀ u, ∀ q ∈ l, q ≠ k → after u → after (f u q)) (h : before s) : after (l.foldl f s) := by
  induction l generalizing s with
  | nil => exact absurd listed List.not_mem_nil
  | cons q l ih =>
    obtain ⟨apart, nodup⟩ := List.nodup_cons.mp nodup
    rw [List.foldl_cons]
    by_cases same : k = q
    · subst same
      exact foldl_others (fun u q hq => later u q (List.mem_cons_of_mem _ hq)) apart (own s h)
    · exact ih nodup ((List.mem_cons.mp listed).resolve_left same) (fun u q hq => others u q (List.mem_cons_of_mem _ hq))
        (fun u q hq => later u q (List.mem_cons_of_mem _ hq)) (others s q List.mem_cons_self (Ne.symm same) h)

/-! ### Copies of an express frame are queued (R285, R286) -/

/-- The frame that a port sends as its copy. -/
def expressEgress (port : Nat) (copy : List Byte) (len p : Nat) : Egress :=
  { frame := .express port false copy, len := shroudLen len, net := some (shroudHead p shroudGroup 49230) }

theorem Serves.wakeLpi (h : Serves s t) : Serves s (t.wakeLpi p) := (h.setBit).setBit

theorem Serves.sendExpress {x : Egress} (h : Serves s t) (room : (t.port p).express.length < 4) :
    Serves s (t.sendExpress p x) := by
  unfold State.sendExpress
  dsimp only
  rw [if_neg (Nat.not_le.mpr room)]
  have woken : Serves s (t.wakeLpi p) := h.wakeLpi
  have queued : Serves s ((t.wakeLpi p).setPort p { t.port p with express := (t.port p).express ++ [x] }) :=
    woken.setPort fun q => q
  exact queued.servePort

theorem portAlone_wakeLpi (s : State) (hp : p < 256) : PortAlone p s (s.wakeLpi p) := by
  have status : PortAlone p s (s.setBit P.PortStatus p 8 false) := (PortAlone.refl p s).wr _ (by decide)
  exact status.trans ⟨fun _ _ => rfl, fun q hq other => State.rd_wr_other _ _ _ _ _ _ (.inr (by omega))⟩

theorem portAlone_sendExpress (s : State) (x : Egress) (hp : p < 256) : PortAlone p s (s.sendExpress p x) := by
  unfold State.sendExpress
  exact .ite ((PortAlone.refl p s).countBy (by decide))
    (((portAlone_wakeLpi s hp).setPort _).trans (portAlone_servePort _ hp))

/-- A port's link after its low-power idle is cleared. -/
theorem State.shroudUp_wakeLpi (s : State) : (s.wakeLpi p).shroudUp p = s.shroudUp p := by
  unfold State.shroudUp State.wakeLpi
  rw [State.bit_setBit _ _ _ _ _ _ (by decide), if_neg (by decide)]
  exact State.bit_congr (State.rd_setBit_param _ _ _ _ _ _ _ (by decide)) 0

/-- A busy port with its link up queues the copy. -/
theorem State.sendExpress_of_sending {x : Egress} (room : (s.port p).express.length < 4) (up : s.shroudUp p = true)
    (sending : (s.port p).sending.isSome = true) : s.sendExpress p x =
      (s.wakeLpi p).setPort p { s.port p with express := (s.port p).express ++ [x] } := by
  unfold State.sendExpress
  dsimp only
  rw [if_neg (Nat.not_le.mpr room)]
  have link : ∀ q, ((s.wakeLpi p).setPort p q).shroudUp p = (s.wakeLpi p).shroudUp p := fun _ => rfl
  have linked : ((s.wakeLpi p).setPort p { s.port p with express := (s.port p).express ++ [x] }).shroudUp p = true := by
    rw [link, State.shroudUp_wakeLpi, up]
  refine State.servePort_of_sending linked ?_
  rw [State.port_setPort, if_pos rfl]
  exact sending

theorem State.port_sendExpress {x : Egress} (room : (s.port p).express.length < 4) (up : s.shroudUp p = true)
    (sending : (s.port p).sending.isSome = true) :
    ((s.sendExpress p x).port p).express = (s.port p).express ++ [x] := by
  rw [State.sendExpress_of_sending room up sending, State.port_setPort, if_pos rfl]

/-- The copies are queued on distinct ports: each busy one takes its own, and no other is touched. -/
theorem express_queued {x : Nat → Egress} {l : List Nat} (nodup : l.Nodup) (small : ∀ q ∈ l, q < 64)
    (up : ∀ q ∈ l, s.shroudUp q = true) (room : ∀ q ∈ l, (s.port q).express.length < 4) :
    Serves s (l.foldl (fun s p => s.sendExpress p (x p)) s) ∧
    (∀ k ∉ l, (l.foldl (fun s p => s.sendExpress p (x p)) s).port k = s.port k) ∧
    ∀ k ∈ l, (s.port k).sending.isSome = true →
      ((l.foldl (fun s p => s.sendExpress p (x p)) s).port k).express = (s.port k).express ++ [x k] := by
  refine ⟨?_, fun k hk => ?_, fun k hk busy => ?_⟩
  · induction l generalizing s with
    | nil => exact .refl s
    | cons q l ih =>
      obtain ⟨apart, nodup⟩ := List.nodup_cons.mp nodup
      have alone := portAlone_sendExpress (p := q) s (x q) (by have := small q List.mem_cons_self; omega)
      refine ((Serves.refl s).sendExpress (room q List.mem_cons_self)).trans (ih nodup
        (fun r hr => small r (List.mem_cons_of_mem _ hr)) (fun r hr => ?_) (fun r hr => ?_))
      · have below := small r (List.mem_cons_of_mem _ hr)
        unfold State.shroudUp
        rw [State.bit_congr (alone.links r (by omega) fun same => apart (same ▸ hr))]
        exact up r (List.mem_cons_of_mem _ hr)
      · rw [alone.ports r fun same => apart (same ▸ hr)]
        exact room r (List.mem_cons_of_mem _ hr)
  · refine foldl_others (kept := fun u => u.port k = s.port k) (fun u q hq other same => ?_) hk rfl
    have below := small q hq
    exact ((portAlone_sendExpress u (x q) (by omega)).ports k (Ne.symm other)).trans same
  · refine foldl_own (before := fun u => u.port k = s.port k ∧ u.shroudUp k = true)
      (after := fun u => (u.port k).express = (s.port k).express ++ [x k]) nodup hk (fun u q hq other h => ?_)
      (fun u h => ?_) (fun u q hq other h => ?_) ⟨rfl, up k hk⟩
    · obtain ⟨same, link⟩ := h
      have below := small q hq
      have hk := small k hk
      have alone := portAlone_sendExpress u (x q) (p := q) (by omega)
      exact ⟨(alone.ports k (Ne.symm other)).trans same,
        (State.bit_congr (alone.links k (by omega) (Ne.symm other)) 0).trans link⟩
    · obtain ⟨same, link⟩ := h
      rw [State.port_sendExpress (by rw [same]; exact room k hk) link (by rwa [same]), same]
    · have below := small q hq
      rw [(portAlone_sendExpress u (x q) (by omega)).ports k (Ne.symm other)]
      exact h

end Sys2Proof.Machine
end

section
namespace Sys2Proof.Machine

variable {s t u : State} {p : Nat}

/-! ### Taking an express frame (R285, R286) -/

/-- The conditions under which a frame comes to the express path. -/
def State.expressComes (s : State) (port : Nat) (f : RxFrame) (d : List Byte) : Prop :=
  s.stayActive = true ∧ s.stayUp port = true ∧ s.stayEnabled port = true ∧ s.rdN P.ExpressEnable 0 = 1 ∧
    s.accepts port f = true ∧ s.vlanOk port f = true ∧ shroudClass d = Cls.express

/-- The routed ports that have room for a copy, and those that have none. -/
def State.expressPorts (s : State) (d : List Byte) : List Nat :=
  (s.expressRoute (shroudStream d)).filter fun p => decide ((s.port p).express.length < 4)
def State.expressFull (s : State) (d : List Byte) : List Nat :=
  (s.expressRoute (shroudStream d)).filter fun p => decide (4 ≤ (s.port p).express.length)

/-- The copies of an express frame queued, its drops counted. -/
def State.expressCopied (s : State) (port : Nat) (d : List Byte) : State :=
  (s.expressFull d).foldl (fun s p => s.count P.ExpressDropCount p)
    ((s.expressPorts d).foldl (fun s' p => s'.sendExpress p (expressEgress port (s.expressCopy d) (d.length - 32) p)) s)

theorem State.takeExpress_eq {port : Nat} {f : RxFrame} {v6 frag : Bool} {dst : IpDst} {src : BitVec 128} {sp : Half}
    {d : List Byte} (comes : s.expressComes port f d) (payload : f.payload = .udp v6 dst src sp 49230 frag d) :
    s.takeExpress port f = if !frag && s.expressTaken v6 dst f.len d then
      (s.expressCopied port d).setExpress port { ports := s.expressPorts d, taken := true }
      else s.count P.ExpressRejectCount 0 := by
  obtain ⟨active, up, enabled, on, accepted, vlan, cls⟩ := comes
  unfold State.takeExpress
  rw [payload]
  dsimp only
  rw [if_pos (by simp [active, up, enabled, on, accepted, vlan, cls])]
  rfl

theorem State.takeExpress_closed {port : Nat} {f : RxFrame} (h : s.stayActive = false ∨ s.stayUp port = false ∨
    s.stayEnabled port = false ∨ s.rdN P.ExpressEnable 0 ≠ 1) : s.takeExpress port f = s := by
  unfold State.takeExpress
  split
  · refine if_neg fun called => ?_
    simp only [Bool.and_eq_true, beq_iff_eq] at called
    obtain ⟨⟨⟨⟨⟨⟨⟨active, up⟩, enabled⟩, on⟩, -⟩, -⟩, -⟩, -⟩ := called
    obtain h | h | h | h := h
    · exact absurd (active.symm.trans h) (by decide)
    · exact absurd (up.symm.trans h) (by decide)
    · exact absurd (enabled.symm.trans h) (by decide)
    · exact h on
  · rfl

theorem State.mem_expressRoute {n : Nat} (h : p ∈ s.expressRoute n) : p < 64 ∧ s.shroudUp p = true := by
  unfold State.expressRoute at h
  dsimp only at h
  rw [List.mem_filter, Bool.and_eq_true] at h
  exact ⟨List.mem_range.mp h.1, h.2.2⟩

theorem State.nodup_expressPorts (s : State) (d : List Byte) : (s.expressPorts d).Nodup := by
  unfold State.expressPorts State.expressRoute
  exact (List.nodup_range.filter _).filter _

theorem State.mem_expressPorts {d : List Byte} : p ∈ s.expressPorts d ↔
    p ∈ s.expressRoute (shroudStream d) ∧ (s.port p).express.length < 4 := by
  unfold State.expressPorts
  rw [List.mem_filter, decide_eq_true_eq]

theorem foldl_count_ports (l : List Nat) (r : Nat) (s : State) : (l.foldl (fun s p => s.count r p) s).ports = s.ports :=
  List.foldlRecOn (motive := fun t : State => t.ports = s.ports) l _ rfl fun t h _ _ => (State.count_ports t _ _).trans h

/-- What the copies leave of the ports, and the frame of queueing them. -/
theorem expressCopied_ports (s : State) (port : Nat) (d : List Byte) :
    (∀ k ∉ s.expressPorts d, (s.expressCopied port d).port k = s.port k) ∧
    (∀ k ∈ s.expressPorts d, (s.port k).sending.isSome = true → ((s.expressCopied port d).port k).express =
      (s.port k).express ++ [expressEgress port (s.expressCopy d) (d.length - 32) k]) ∧
    Frame (P.ExpressDropCount :: egressParams) [] [.shroud, .ports, .sheet, .wdp] s (s.expressCopied port d) := by
  obtain ⟨serves, others, own⟩ := express_queued (s := s) (l := s.expressPorts d)
    (x := expressEgress port (s.expressCopy d) (d.length - 32)) (s.nodup_expressPorts d)
    (fun q hq => (State.mem_expressRoute (State.mem_expressPorts.mp hq).1).1)
    (fun q hq => (State.mem_expressRoute (State.mem_expressPorts.mp hq).1).2)
    (fun q hq => (State.mem_expressPorts.mp hq).2)
  have same : ∀ k, (s.expressCopied port d).port k = ((s.expressPorts d).foldl (fun s' p =>
      s'.sendExpress p (expressEgress port (s.expressCopy d) (d.length - 32) p)) s).port k := fun k => by
    unfold State.expressCopied State.port
    rw [foldl_count_ports]
  refine ⟨fun k hk => (same k).trans (others k hk), fun k hk busy => ?_, ?_⟩
  · rw [same]
    exact own k hk busy
  · exact Frame.foldl _ (fun v q => (Frame.refl ..).count _ _ (.inl (by decide))) _
      (serves.frame.weaken (by simp) (by simp) (by simp))

theorem Frame.setExpress {ps : List Nat} {es : List (Nat × Nat)} {fs : List Part} (port : Nat) (x : ExpressCopy)
    (h : Frame ps es fs s t) (hf : .shroud ∈ fs) : Frame ps es fs s (t.setExpress port x) := h.shroud _ hf

theorem State.express_setExpress (s : State) (port : Nat) (x : ExpressCopy) :
    SMap.get ExpressCopy.init (s.setExpress port x).shroud.express port = x := SMap.get_set_same ..

/-- A frame that meets the conditions is copied. -/
theorem completes_expressFrame_taken {port : Fin 4} {f : RxFrame} {v6 : Bool} {dst : IpDst} {src : BitVec 128} {sp : Half}
    {d : List Byte} (comes : s.expressComes port f d) (payload : f.payload = .udp v6 dst src sp 49230 false d)
    (taken : s.expressTaken v6 dst f.len d = true) : Completes (.expressFrame port f) s fun t =>
      SMap.get ExpressCopy.init t.shroud.express port = { ports := s.expressPorts d, taken := true } ∧
      (∀ p < 64, p ∈ s.expressRoute (shroudStream d) → (s.port p).sending.isSome = true →
        (t.port p).express = if (s.port p).express.length < 4 then
          (s.port p).express ++ [expressEgress port (s.expressCopy d) (d.length - 32) p] else (s.port p).express) ∧
      (∀ p < 64, p ∉ s.expressRoute (shroudStream d) → t.port p = s.port p) ∧
      Frame (P.ExpressDropCount :: egressParams) [] [.shroud, .ports, .sheet, .wdp] s t := by
  have act : exec (.expressFrame port f) s = _ :=
    congrArg done ((State.takeExpress_eq comes payload).trans (if_pos (by simp [taken])))
  obtain ⟨others, own, frame⟩ := expressCopied_ports s port d
  have ports : ∀ k x, ((s.expressCopied port d).setExpress port x).settle.port k = (s.expressCopied port d).port k :=
    fun k x => by
      unfold State.port
      rw [State.settle_ports]
      rfl
  refine ⟨_, act, ?_, fun k _ routed busy => ?_, fun k _ unrouted => ?_, (frame.setExpress _ _ (by decide)).settle⟩
  · rw [State.settle_shroud, State.express_setExpress]
  · rw [ports]
    split
    · next room => exact own k (State.mem_expressPorts.mpr ⟨routed, room⟩) busy
    · next full => rw [others k fun h => full (State.mem_expressPorts.mp h).2]
  · rw [ports, others k fun h => unrouted (State.mem_expressPorts.mp h).1]

/-- A frame that does not is rejected and counted. -/
theorem completes_expressFrame_rejected {port : Fin 4} {f : RxFrame} {v6 frag : Bool} {dst : IpDst} {src : BitVec 128}
    {sp : Half} {d : List Byte} (comes : s.expressComes port f d) (payload : f.payload = .udp v6 dst src sp 49230 frag d)
    (bad : frag = true ∨ s.expressTaken v6 dst f.len d = false) : Completes (.expressFrame port f) s fun t =>
      (s.rdN P.ExpressRejectCount 0 < 0xFFFFFFFE →
        t.rdN P.ExpressRejectCount 0 = s.rdN P.ExpressRejectCount 0 + 1) ∧
      Frame [] [(P.ExpressRejectCount, 0)] [.wdp] s t := by
  have act : exec (.expressFrame port f) s = _ := congrArg done ((State.takeExpress_eq comes payload).trans
    (if_neg (by obtain h | h := bad <;> simp [h])))
  exact ⟨_, act, fun low => rdN_settle_count (by decide) rfl low, ((Frame.refl ..).count _ _ (by decide)).settle⟩

/-! ### The end of an express frame (R287) -/

/-- A port from which a copy that has not begun is withdrawn. -/
def State.withdrawn (s : State) (port p : Nat) : State :=
  s.setPort p { s.port p with express := replaceLast port (fun _ => []) (s.port p).express }

/-- A port whose copy is stomped, where it waits or leaves. -/
def State.stomped (s : State) (port p : Nat) : State :=
  if waitsExpress port (s.port p).express then
    s.setPort p { s.port p with express := replaceLast port (fun x => [x.stomp]) (s.port p).express }
  else if s.expressBegun port p then s.setPort p { s.port p with sending := (s.port p).sending.map Egress.stomp }
  else s

theorem State.endExpress_untaken {port : Nat} {ok : Bool}
    (h : (SMap.get ExpressCopy.init s.shroud.express port).taken = false) : s.endExpress port ok = s :=
  if_pos (by simp [h])

theorem State.endExpress_good {port : Nat} (h : (SMap.get ExpressCopy.init s.shroud.express port).taken = true) :
    s.endExpress port true = s.setExpress port ExpressCopy.init := by
  unfold State.endExpress
  exact (if_neg (by simp [h])).trans (if_pos rfl)

theorem State.endExpress_withdrawn {port : Nat} {l : List Nat}
    (h : SMap.get ExpressCopy.init s.shroud.express port = ⟨l, true⟩) (unbegun : ∀ p ∈ l, s.expressBegun port p = false) :
    s.endExpress port false = (l.foldl (fun s p => s.withdrawn port p) (s.setExpress port ExpressCopy.init)).count
      P.ExpressRejectCount 0 := by
  unfold State.endExpress
  rw [h]
  refine (if_neg (by simp)).trans ((if_neg (by decide)).trans (if_neg ?_))
  simpa using unbegun

theorem State.endExpress_stomped {port : Nat} {l : List Nat}
    (h : SMap.get ExpressCopy.init s.shroud.express port = ⟨l, true⟩) (begun : l.any (fun p => s.expressBegun port p) = true) :
    s.endExpress port false = (l.foldl (fun s p => s.stomped port p) (s.setExpress port ExpressCopy.init)).count
      P.ExpressStompCount 0 := by
  unfold State.endExpress
  rw [h]
  exact (if_neg (by simp)).trans ((if_neg (by decide)).trans (if_pos begun))

theorem State.port_withdrawn (s : State) (port q k : Nat) : (s.withdrawn port q).port k =
    if k = q then { s.port q with express := replaceLast port (fun _ => []) (s.port q).express } else s.port k :=
  State.port_setPort ..

theorem State.port_stomped_other (s : State) (port : Nat) {q k : Nat} (h : k ≠ q) : (s.stomped port q).port k = s.port k := by
  unfold State.stomped
  split
  · rw [State.port_setPort, if_neg h]
  · split
    · rw [State.port_setPort, if_neg h]
    · rfl

theorem State.expressBegun_congr {port k : Nat} (h : t.port k = s.port k) : t.expressBegun port k = s.expressBegun port k := by
  unfold State.expressBegun
  rw [h]

theorem State.sending_stomped {port k : Nat} (begun : s.expressBegun port k = true) :
    ((s.stomped port k).port k).sending = (s.port k).sending.map Egress.stomp := by
  have gone : waitsExpress port (s.port k).express = false := by
    unfold State.expressBegun at begun
    simp only [Bool.and_eq_true, Bool.not_eq_true'] at begun
    exact begun.1
  unfold State.stomped
  rw [if_neg (by simp [gone]), if_pos begun, State.port_setPort, if_pos rfl]

theorem Frame.stomped {ps : List Nat} {es : List (Nat × Nat)} {fs : List Part} (port p : Nat) (h : Frame ps es fs s t)
    (hf : .ports ∈ fs) : Frame ps es fs s (t.stomped port p) :=
  iteInduction (fun _ => h.setPort _ _ hf) fun _ => iteInduction (fun _ => h.setPort _ _ hf) fun _ => h

theorem State.port_settle_count (s : State) (r k : Nat) : (s.count r 0).settle.port k = s.port k := by
  unfold State.port
  rw [State.settle_ports, State.count_ports]

theorem completes_expressIngressEnd_withdrawn {port : Fin 4} {l : List Nat}
    (h : SMap.get ExpressCopy.init s.shroud.express port = ⟨l, true⟩) (nodup : l.Nodup)
    (unbegun : ∀ p ∈ l, s.expressBegun port p = false) : Completes (.expressIngressEnd port false) s fun t =>
      SMap.get ExpressCopy.init t.shroud.express port = ExpressCopy.init ∧
      (∀ p < 64, p ∈ l → waitsExpress port (s.port p).express = true →
        (t.port p).express = replaceLast port (fun _ => []) (s.port p).express) ∧
      (∀ p < 64, p ∉ l → t.port p = s.port p) ∧
      (s.rdN P.ExpressRejectCount 0 < 0xFFFFFFFE →
        t.rdN P.ExpressRejectCount 0 = s.rdN P.ExpressRejectCount 0 + 1) ∧
      Frame [] [(P.ExpressRejectCount, 0)] [.shroud, .ports, .wdp] s t := by
  let v := s.setExpress port ExpressCopy.init
  let w := l.foldl (fun s p => s.withdrawn port p) v
  have act : exec (.expressIngressEnd port false) s = _ := congrArg done (State.endExpress_withdrawn h unbegun)
  have ended : Frame [] [(P.ExpressRejectCount, 0)] [.shroud, .ports, .wdp] s w :=
    Frame.foldl _ (fun u q => (Frame.refl ..).setPort _ _ (by decide)) l ((Frame.refl ..).setExpress port _ (by decide))
  have shroud : w.shroud = v.shroud :=
    List.foldlRecOn (motive := fun u : State => u.shroud = v.shroud) l _ rfl fun u hu _ _ => hu
  refine ⟨_, act, ?_, fun k _ listed _ => ?_, fun k _ unlisted => ?_, fun low => ?_, (ended.count _ _ (by decide)).settle⟩
  · rw [State.settle_shroud, State.count_shroud, shroud]
    exact State.express_setExpress ..
  · rw [State.port_settle_count]
    refine foldl_own (before := fun u => u.port k = s.port k)
      (after := fun u => (u.port k).express = replaceLast port (fun _ => []) (s.port k).express) nodup listed
      (fun u q _ other same => ?_) (fun u same => ?_) (fun u q _ other done_ => ?_) rfl
    · rw [State.port_withdrawn, if_neg (Ne.symm other), same]
    · rw [State.port_withdrawn, if_pos rfl, same]
    · rw [State.port_withdrawn, if_neg (Ne.symm other), done_]
  · rw [State.port_settle_count]
    refine foldl_others (kept := fun u => u.port k = s.port k) (fun u q _ other same => ?_) unlisted rfl
    rw [State.port_withdrawn, if_neg (Ne.symm other), same]
  · have kept : w.regs = s.regs :=
      List.foldlRecOn (motive := fun u : State => u.regs = s.regs) l _ rfl fun u hu _ _ => hu
    exact rdN_settle_count (by decide) (State.rd_congr kept _ _) low

theorem completes_expressIngressEnd_stomped {port : Fin 4} {l : List Nat}
    (h : SMap.get ExpressCopy.init s.shroud.express port = ⟨l, true⟩) (nodup : l.Nodup)
    (begun : l.any (fun p => s.expressBegun port p) = true) : Completes (.expressIngressEnd port false) s fun t =>
      SMap.get ExpressCopy.init t.shroud.express port = ExpressCopy.init ∧
      (s.rdN P.ExpressStompCount 0 < 0xFFFFFFFE →
        t.rdN P.ExpressStompCount 0 = s.rdN P.ExpressStompCount 0 + 1) ∧
      (∀ p < 64, p ∉ l → t.port p = s.port p) ∧
      (∀ p < 64, p ∈ l → s.expressBegun port p = true →
        (t.port p).sending = (s.port p).sending.map Egress.stomp) ∧
      Frame [] [(P.ExpressStompCount, 0)] [.shroud, .ports, .wdp] s t := by
  let v := s.setExpress port ExpressCopy.init
  let w := l.foldl (fun s p => s.stomped port p) v
  have act : exec (.expressIngressEnd port false) s = _ := congrArg done (State.endExpress_stomped h begun)
  have ended : Frame [] [(P.ExpressStompCount, 0)] [.shroud, .ports, .wdp] s w :=
    Frame.foldl _ (fun u q => (Frame.refl ..).stomped _ _ (by decide)) l ((Frame.refl ..).setExpress port _ (by decide))
  have steps : w.shroud = v.shroud ∧ w.regs = s.regs :=
    List.foldlRecOn (motive := fun u : State => u.shroud = v.shroud ∧ u.regs = s.regs) l _ ⟨rfl, rfl⟩ fun u hu q _ =>
      iteInduction (motive := fun u' : State => u'.shroud = v.shroud ∧ u'.regs = s.regs) (fun _ => hu) fun _ =>
        iteInduction (motive := fun u' : State => u'.shroud = v.shroud ∧ u'.regs = s.regs) (fun _ => hu) fun _ => hu
  obtain ⟨shroud, regs⟩ := steps
  refine ⟨_, act, ?_, fun low => ?_, fun k _ unlisted => ?_, fun k _ listed leaving => ?_,
    (ended.count _ _ (by decide)).settle⟩
  · rw [State.settle_shroud, State.count_shroud, shroud]
    exact State.express_setExpress ..
  · exact rdN_settle_count (by decide) (State.rd_congr regs _ _) low
  · rw [State.port_settle_count]
    refine foldl_others (kept := fun u => u.port k = s.port k) (fun u q _ other same => ?_) unlisted rfl
    rw [State.port_stomped_other _ _ (Ne.symm other), same]
  · rw [State.port_settle_count]
    refine foldl_own (before := fun u => u.port k = s.port k)
      (after := fun u => (u.port k).sending = (s.port k).sending.map Egress.stomp) nodup listed
      (fun u q _ other same => ?_) (fun u same => ?_) (fun u q _ other done_ => ?_) rfl
    · rw [State.port_stomped_other _ _ (Ne.symm other), same]
    · rw [State.sending_stomped ((State.expressBegun_congr same).trans leaving), same]
    · rw [State.port_stomped_other _ _ (Ne.symm other), done_]

/-- Settles O39: the copies of a frame that is taken, and what becomes of them at its end. -/
theorem expressPath : Obligations.ExpressPath := by
  unfold Obligations.ExpressPath
  refine ⟨?taken, ?rejected, ?closed, ?good, ?withdrawn, ?stomped, ?untaken⟩
  case taken =>
    rintro s port f v6 dst src sp frag d ⟨active, up, enabled, on, accepted, vlan, payload, cls, rfl, taken⟩
    exact completes_expressFrame_taken ⟨active, up, enabled, on, accepted, vlan, cls⟩ payload taken
  case rejected =>
    rintro s port f v6 dst src sp frag d ⟨active, up, enabled, on, accepted, vlan, payload, cls, bad⟩
    exact completes_expressFrame_rejected ⟨active, up, enabled, on, accepted, vlan, cls⟩ payload bad
  case closed =>
    rintro s port f h
    exact ⟨_, congrArg done (State.takeExpress_closed h), (Frame.refl ..).settle⟩
  case good =>
    rintro s port taken
    refine ⟨_, congrArg done (State.endExpress_good taken), ?_, ((Frame.refl ..).setExpress _ _ (by decide)).settle⟩
    rw [State.settle_shroud, State.express_setExpress]
  case withdrawn =>
    rintro s port l ⟨h, nodup, unbegun⟩
    exact completes_expressIngressEnd_withdrawn h nodup unbegun
  case stomped =>
    rintro s port l ⟨h, nodup, begun⟩
    exact completes_expressIngressEnd_stomped h nodup begun
  case untaken =>
    rintro s port ok h
    exact ⟨_, congrArg done (State.endExpress_untaken h), (Frame.refl ..).settle⟩

end Sys2Proof.Machine
end

section
namespace Sys2Proof.Machine

variable {s t u : State} {p : Nat}

/-! ### The end of a frame on a shroud port (R274, R283) -/

/-- What the frame counts of a port and the wire time of its show frame leave: every queue but the show traffic. -/
structure WireAdded (p : Nat) (s t : State) : Prop where
  frame : Frame [P.PortWireTime, P.PortMargin, P.PortMinMargin] [] [.ports] s t
  others : ∀ q, q ≠ p → t.port q = s.port q
  own : t.port p = { s.port p with shows := (t.port p).shows }

theorem wireAdded_setShows (s : State) (p : Nat) (fs : List ShowFrame) :
    WireAdded p s (s.setPort p { s.port p with shows := fs }) where
  frame := (Frame.refl ..).setPort _ _ (by decide)
  others q h := by rw [State.port_setPort, if_neg h]
  own := by rw [State.port_setPort, if_pos rfl]

theorem WireAdded.showDone (h : WireAdded p s t) (f : ShowFrame) : WireAdded p s (t.showDone p f) where
  frame := ((h.frame.wr _ _ _ (.inl (by decide))).wr _ _ _ (.inl (by decide))).wr _ _ _ (.inl (by decide))
  others := h.others
  own := h.own

theorem wireAdded_addWire (s : State) (p : Nat) (x : Egress) : WireAdded p s (s.addWire p x) := by
  unfold State.addWire
  dsimp only
  split
  · exact ⟨.refl .., fun _ _ => rfl, rfl⟩
  · exact iteInduction (motive := WireAdded p s) (fun _ => (wireAdded_setShows ..).showDone _)
      fun _ => wireAdded_setShows ..

/-- The parameters that the end of a frame on a shroud port may write. -/
def frameDoneParams : List Nat := [P.TxFrameCount_P9012, P.TxByteCount_P9013] ++ egressParams

/-- A frame has left the port: it is counted, and its wire time added. -/
structure FrameLeft (p : Nat) (x : Egress) (s t : State) : Prop where
  frame : Frame frameDoneParams [] [.ports] s t
  others : ∀ q, q ≠ p → t.port q = s.port q
  own : t.port p = { s.port p with sending := none, shows := (t.port p).shows }
  frames : t.rd P.TxFrameCount_P9012 p = s.rd P.TxFrameCount_P9012 p + 1
  bytes : t.rd P.TxByteCount_P9013 p = s.rd P.TxByteCount_P9013 p + BitVec.ofNat 64 x.len
  link : t.shroudUp p = s.shroudUp p
  locked : t.hpllLocked = s.hpllLocked

/-- The state in which the next frame of a port is chosen. -/
def State.frameLeft (s : State) (p : Nat) (x : Egress) : State :=
  (((s.setPort p { s.port p with sending := none }).traffic P.TxFrameCount_P9012 p 1).traffic P.TxByteCount_P9013 p
    x.len).addWire p x

theorem State.portFrameDone_eq {x : Egress} (sending : (s.port p).sending = some x) :
    s.portFrameDone p = (s.frameLeft p x).servePort p := by
  unfold State.portFrameDone
  rw [sending]
  rfl

theorem frameLeft_frameLeft (s : State) (hp : p < 256) (x : Egress) : FrameLeft p x s (s.frameLeft p x) := by
  let q := s.setPort p { s.port p with sending := none }
  let v := q.traffic P.TxFrameCount_P9012 p 1
  let w := v.traffic P.TxByteCount_P9013 p x.len
  have wire := wireAdded_addWire w p x
  have ports : w.ports = q.ports := (State.traffic_ports ..).trans (State.traffic_ports ..)
  have port : ∀ k, w.port k = q.port k := fun k => by rw [State.port, ports, State.port]
  have counted : Frame frameDoneParams [] [.ports] s w :=
    Frame.traffic _ _ _ (Frame.traffic _ _ _ ((Frame.refl ..).setPort _ _ (by decide)) (.inl (by decide))) (.inl (by decide))
  have kept : ∀ r f, f < 256 → r ∉ housekeeping → r ∉ [P.PortWireTime, P.PortMargin, P.PortMinMargin] →
      (s.frameLeft p x).rd r f = w.rd r f := fun r f hf hk hr => wire.frame.rd hf hk hr List.not_mem_nil
  have other : ∀ r f, r ≠ P.TxByteCount_P9013 → r ≠ P.TxFrameCount_P9012 → w.rd r f = s.rd r f := fun r f bytes frames =>
    (State.rd_traffic_param _ _ _ _ _ _ bytes).trans (State.rd_traffic_param _ _ _ _ _ _ frames)
  refine ⟨counted.trans (wire.frame.weaken (by decide) (by decide) (by decide)), fun k h => ?_, ?_, ?_, ?_, ?_, ?_⟩
  · rw [State.frameLeft, wire.others k h, port, State.port_setPort, if_neg h]
  · have own : (s.frameLeft p x).port p = { w.port p with shows := ((s.frameLeft p x).port p).shows } := wire.own
    rw [port, State.port_setPort, if_pos rfl] at own
    exact own
  · rw [kept _ _ hp (by decide) (by decide), State.rd_traffic_param _ _ _ _ _ _ (by decide), State.rd_traffic_same]
    rfl
  · rw [kept _ _ hp (by decide) (by decide), State.rd_traffic_same, State.rd_traffic_param _ _ _ _ _ _ (by decide)]
    rfl
  · exact State.bit_congr ((kept _ _ hp (by decide) (by decide)).trans (other _ _ (by decide) (by decide))) 0
  · exact State.bit_congr ((kept _ _ (by decide) (by decide) (by decide)).trans (other _ _ (by decide) (by decide))) 1

/-- What the statements say of the end of a frame behind which another begins. -/
def NextBegun (p : Nat) (x : Egress) (s t : State) : Prop :=
  t.rd P.TxFrameCount_P9012 p = s.rd P.TxFrameCount_P9012 p + 1 ∧
    t.rd P.TxByteCount_P9013 p = s.rd P.TxByteCount_P9013 p + BitVec.ofNat 64 x.len ∧
    (∀ q < 64, q ≠ p → t.port q = s.port q) ∧ Frame frameDoneParams [] [.ports, .sheet, .wdp] s t

/-- The next frame begins by a change of the port's queues and one counter. -/
theorem FrameLeft.begins {x : Egress} {r : Nat} {n : ShroudPort} (h : FrameLeft p x s t)
    (hr : r ∈ egressParams) (next : u = t.setPort p n ∨ u = (t.setPort p n).count r p ∨ u = (t.setPort p n).traffic r 0 1) :
    NextBegun p x s u.settle ∧ u.settle.port p = n := by
  have apart : ∀ q ∈ egressParams, P.TxFrameCount_P9012 ≠ q ∧ P.TxByteCount_P9013 ≠ q := by decide
  obtain ⟨frames, bytes⟩ := apart r hr
  have named : r ∈ frameDoneParams := List.mem_append_right _ hr
  have queued : Frame frameDoneParams [] [.ports, .sheet, .wdp] s (t.setPort p n) :=
    (h.frame.weaken (fun _ h => h) (fun _ h => h) (by simp)).setPort _ _ (by decide)
  have port : ∀ k, (t.setPort p n).port k = if k = p then n else t.port k := fun k => State.port_setPort ..
  have facts : u.rd P.TxFrameCount_P9012 p = t.rd P.TxFrameCount_P9012 p ∧
      u.rd P.TxByteCount_P9013 p = t.rd P.TxByteCount_P9013 p ∧ u.ports = (t.setPort p n).ports ∧
      Frame frameDoneParams [] [.ports, .sheet, .wdp] s u := by
    obtain rfl | rfl | rfl := next
    · exact ⟨rfl, rfl, rfl, queued⟩
    · exact ⟨State.rd_count _ _ _ _ _ frames (by decide), State.rd_count _ _ _ _ _ bytes (by decide), State.count_ports ..,
        queued.count _ _ (.inl named)⟩
    · exact ⟨State.rd_traffic_param _ _ _ _ _ _ frames, State.rd_traffic_param _ _ _ _ _ _ bytes, State.traffic_ports ..,
        queued.traffic _ _ _ (.inl named)⟩
  obtain ⟨frames, bytes, ports, frame⟩ := facts
  have settled : ∀ k, u.settle.port k = if k = p then n else t.port k := fun k => by
    rw [← port]
    unfold State.port
    rw [State.settle_ports, ports]
  refine ⟨⟨?_, ?_, fun q _ other => ?_, frame.settle⟩, ?_⟩
  · rw [State.rd_settle _ _ _ (by decide), frames, h.frames]
  · rw [State.rd_settle _ _ _ (by decide), bytes, h.bytes]
  · rw [settled, if_neg other, h.others q other]
  · rw [settled, if_pos rfl]

theorem State.exec_egressFrameDone (port : Fin 64) :
    exec (.egressFrameDone ⟨port.val, by omega⟩) s = done (s.portFrameDone port.val) := if_pos port.isLt

theorem State.exec_egressFrameDone_stay (port : Fin 4) :
    exec (.egressFrameDone ⟨64 + port.val, by omega⟩) s = done (s.stayFrameDone port.val) := by
  refine (if_neg (by simp)).trans ?_
  rw [show 64 + port.val - 64 = port.val by omega]

/-- The next express frame begins. -/
theorem completes_egressFrameDone_express {port : Fin 64} {x y : Egress} {ys : List Egress}
    (sending : (s.port port).sending = some x) (up : s.shroudUp port = true) (locked : s.hpllLocked = true)
    (express : (s.port port).express = y :: ys) : Completes (.egressFrameDone ⟨port.val, by omega⟩) s fun t =>
      NextBegun port x s t ∧ (t.port port).sending = some y ∧ (t.port port).express = ys ∧
      (t.port port).time = (s.port port).time ∧ (t.port port).bulk = (s.port port).bulk := by
  have left := frameLeft_frameLeft s (p := port) (by omega) x
  have next := State.servePort_express (s := s.frameLeft port x) (p := port) (x := y) (xs := ys) (left.link.trans up)
    (left.locked.trans locked) (by rw [left.own]) (by rw [left.own, express])
  obtain ⟨begun, own⟩ := left.begins (r := P.ExpressForwardCount) (by decide) (.inr (.inr next))
  refine ⟨_, State.exec_egressFrameDone port, ?_⟩
  rw [State.portFrameDone_eq sending]
  refine ⟨begun, ?_, ?_, ?_, ?_⟩ <;> rw [own]
  · rw [left.own]
  · rw [left.own]

/-- The next time frame begins where no express frame waits. -/
theorem completes_egressFrameDone_time {port : Fin 64} {x y : Egress} {ys : List Egress}
    (sending : (s.port port).sending = some x) (up : s.shroudUp port = true) (locked : s.hpllLocked = true)
    (express : (s.port port).express = []) (time : (s.port port).time = y :: ys) :
    Completes (.egressFrameDone ⟨port.val, by omega⟩) s fun t =>
      NextBegun port x s t ∧ (t.port port).sending = some y ∧ (t.port port).express = [] ∧ (t.port port).time = ys ∧
      (t.port port).bulk = (s.port port).bulk := by
  have left := frameLeft_frameLeft s (p := port) (by omega) x
  have next := State.servePort_time (s := s.frameLeft port x) (p := port) (x := y) (xs := ys) (left.link.trans up)
    (left.locked.trans locked) (by rw [left.own]) (by rw [left.own, express]) (by rw [left.own, time])
  obtain ⟨begun, own⟩ := left.begins (r := P.SyncDelayedCount) (by decide) (next.imp_right .inl)
  refine ⟨_, State.exec_egressFrameDone port, ?_⟩
  rw [State.portFrameDone_eq sending]
  refine ⟨begun, ?_, ?_, ?_, ?_⟩ <;> rw [own]
  · rw [left.own]
    exact express
  · rw [left.own]

theorem State.ports_countShow (s : State) (x : Egress) : (s.countShow p x).ports = s.ports := by
  unfold State.countShow
  dsimp only
  split
  · simp
  · split <;> simp
  · simp

theorem State.port_discardPort (s : State) : (s.discardPort p).port p =
    { express := [], time := [], shows := [], bulk := [], sending := none } := by
  unfold State.discardPort
  dsimp only
  let v := s.setPort p { s.port p with express := [], time := [], shows := [], bulk := [], sending := none }
  have shows : ∀ l : List Egress, (l.foldl (fun s x => s.countShow p x) v).ports = v.ports := fun l =>
    List.foldlRecOn (motive := fun u : State => u.ports = v.ports) l _ rfl fun u hu x _ => (u.ports_countShow x).trans hu
  have emptied : v.port p = { express := [], time := [], shows := [], bulk := [], sending := none } := by
    rw [State.port_setPort, if_pos rfl]
  refine Eq.trans ?_ emptied
  unfold State.port
  split
  · exact congrArg (SMap.get ShroudPort.init · p) (shows _)
  · exact congrArg (SMap.get ShroudPort.init · p) ((State.countBy_ports ..).trans (shows _))

/-- While the link is down what waits is discarded. -/
theorem completes_egressFrameDone_down {port : Fin 64} (sending : (s.port port).sending.isSome = true)
    (down : s.shroudUp port = false) : Completes (.egressFrameDone ⟨port.val, by omega⟩) s fun t =>
      t.port port = { express := [], time := [], shows := [], bulk := [], sending := none } ∧
      (∀ q < 64, q ≠ port.val → t.port q = s.port q) ∧
      Frame frameDoneParams [] [.ports, .sheet, .wdp] s t := by
  obtain ⟨x, sending⟩ := Option.isSome_iff_exists.mp sending
  have left := frameLeft_frameLeft s (p := port) (by omega) x
  have served : s.portFrameDone port = (s.frameLeft port x).discardPort port :=
    (State.portFrameDone_eq sending).trans (State.servePort_of_down (left.link.trans down))
  have alone := portAlone_discardPort (s.frameLeft port x) port
  have frame := ((Serves.refl (s.frameLeft port x)).discardPort (p := port)).frame
  have settled : ∀ k, (s.portFrameDone port).settle.port k = ((s.frameLeft port x).discardPort port).port k := fun k => by
    unfold State.port
    rw [State.settle_ports, served]
  refine ⟨_, State.exec_egressFrameDone port, ?_, fun q _ other => ?_, ?_⟩
  · rw [settled, State.port_discardPort]
  · rw [settled, alone.ports q other, left.others q other]
  · rw [served]
    exact ((left.frame.weaken (fun _ h => h) (fun _ h => h) (by simp)).trans
      (frame.weaken (List.subset_append_right _ _) (fun _ h => h) (by simp))).settle

theorem State.portFrameDone_idle (h : (s.port p).sending = none) : s.portFrameDone p = s := by
  unfold State.portFrameDone
  rw [h]

end Sys2Proof.Machine
end

section
namespace Sys2Proof.Machine

variable {s t u : State} {p : Nat}

/-! ### The end of a frame on a stay port -/

/-- The other stay ports stand, and so do the counts of frames sent. -/
structure StayServed (p : Nat) (s t : State) : Prop where
  frame : Frame egressParams [] [.stay, .sheet, .wdp] s t
  others : ∀ q, q ≠ p → t.stayPort q = s.stayPort q

theorem StayServed.refl (p : Nat) (s : State) : StayServed p s s := ⟨.refl .., fun _ _ => rfl⟩

theorem StayServed.trans (h : StayServed p s t) (k : StayServed p t u) : StayServed p s u :=
  ⟨h.frame.trans k.frame, fun q hq => (k.others q hq).trans (h.others q hq)⟩

theorem StayServed.setStayPort (h : StayServed p s t) (x : StayPort) : StayServed p s (t.setStayPort p x) :=
  ⟨h.frame.setStayPort _ _ (by decide), fun q hq => by rw [State.stayPort_setStayPort, if_neg hq, h.others q hq]⟩

theorem StayServed.traffic {r e n : Nat} (h : StayServed p s t) (hr : r ∈ egressParams) :
    StayServed p s (t.traffic r e n) :=
  ⟨h.frame.traffic _ _ _ (.inl hr), fun q hq => by
    rw [State.stayPort, State.traffic_stay]
    exact h.others q hq⟩

theorem stayServed_countLate (s : State) (d frame n : Nat) : StayServed p s (s.countLate d frame n) where
  frame := by
    unfold State.countLate
    dsimp only
    have dropped : Frame egressParams [] [.stay, .sheet, .wdp] s (s.countBy P.LateDropCount d n) :=
      (Frame.refl ..).countBy _ _ _ (.inl (by decide))
    generalize s.countBy P.LateDropCount d n = v at *
    have late := iteInduction (c := SMap.get none v.sheet.late d = some frame)
      (motive := Frame egressParams [] [.stay, .sheet, .wdp] s) (fun _ => dropped)
      fun _ => (dropped.count P.LateFrameCount d (.inl (by decide))).sheet
        { v.sheet with late := SMap.set none v.sheet.late d (some frame) } (by decide)
    refine Frame.event _ _ _ _ (iteInduction (motive := Frame egressParams [] [.stay, .sheet, .wdp] s) (fun _ => ?_) fun _ => late)
    exact ((late.setBit _ _ _ _ (.inl (by decide))).wr _ _ _ (.inl (by decide))).wr _ _ _ (.inl (by decide))
  others q _ := by
    have stay : (s.countLate d frame n).stay = s.stay := (Serves.refl s).countLate.frame.2.stay (by decide)
    rw [State.stayPort, stay, State.stayPort]

theorem stayServed_dropLateCascade (p : Nat) : ∀ (n : Nat) (s : State), StayServed p s (s.dropLateCascade p n)
  | 0, s => .refl p s
  | n + 1, s => by
    unfold State.dropLateCascade
    dsimp only
    split
    · exact .refl p s
    · split
      · exact .refl p s
      · refine iteInduction (motive := StayServed p s) (fun _ => .refl p s) fun _ => ?_
        exact (((StayServed.refl p s).setStayPort _).trans (stayServed_countLate ..)).trans (stayServed_dropLateCascade p n _)

theorem stayServed_stayServe (s : State) (p : Nat) : StayServed p s (s.stayServe p) := by
  unfold State.stayServe
  dsimp only
  refine iteInduction (motive := StayServed p s) (fun _ => .refl p s) fun _ => ?_
  have trimmed : StayServed p s (if (s.stayPort p).priority.isEmpty then
      s.dropLateCascade p (s.stayPort p).cascade.length else s) :=
    iteInduction (motive := StayServed p s) (fun _ => stayServed_dropLateCascade ..) fun _ => .refl p s
  generalize (if (s.stayPort p).priority.isEmpty then
      s.dropLateCascade p (s.stayPort p).cascade.length else s) = v at *
  split
  · exact trimmed.setStayPort _
  · split
    · exact ((trimmed.setStayPort _).traffic (by decide)).traffic (by decide)
    · exact trimmed.setStayPort _
  · exact trimmed.setStayPort _
  · exact trimmed

/-- A frame of a stay port has left: it is counted and the next is served. -/
theorem completes_egressFrameDone_stay {port : Fin 4} {x : Egress} (sending : (s.stayPort port).sending = some x) :
    Completes (.egressFrameDone ⟨64 + port.val, by omega⟩) s fun t =>
      t.rd P.TxFrameCount_P3022 port = s.rd P.TxFrameCount_P3022 port + 1 ∧
      t.rd P.TxByteCount_P3023 port = s.rd P.TxByteCount_P3023 port + BitVec.ofNat 64 x.len ∧
      (∀ q < 4, q ≠ port.val → t.stayPort q = s.stayPort q) ∧
      Frame (P.TxFrameCount_P3022 :: P.TxByteCount_P3023 :: egressParams) [] [.stay, .sheet, .wdp] s t := by
  let v := (s.setStayPort port { s.stayPort port with sending := none }).traffic P.TxFrameCount_P3022 port 1
  let w := v.traffic P.TxByteCount_P3023 port x.len
  have done_ : s.stayFrameDone port = w.stayServe port := by
    unfold State.stayFrameDone
    rw [sending]
  have served := stayServed_stayServe w port
  have kept : ∀ r, r ∉ housekeeping → r ∉ egressParams → (w.stayServe port).rd r port = w.rd r port := fun r hk hr =>
    served.frame.rd (by omega) hk hr List.not_mem_nil
  refine ⟨_, (State.exec_egressFrameDone_stay port).trans (congrArg done done_), ?_, ?_, fun q _ other => ?_, ?_⟩
  · rw [State.rd_settle _ _ _ (by decide), kept _ (by decide) (by decide), State.rd_traffic_param _ _ _ _ _ _ (by decide),
      State.rd_traffic_same]
    rfl
  · rw [State.rd_settle _ _ _ (by decide), kept _ (by decide) (by decide), State.rd_traffic_same,
      State.rd_traffic_param _ _ _ _ _ _ (by decide)]
    rfl
  · rw [State.stayPort, State.settle_stay]
    refine (served.others q other).trans ?_
    have stay : w.stay = (s.setStayPort port { s.stayPort port with sending := none }).stay :=
      (State.traffic_stay ..).trans (State.traffic_stay ..)
    rw [State.stayPort, stay, ← State.stayPort, State.stayPort_setStayPort, if_neg other]
  · have counted : Frame (P.TxFrameCount_P3022 :: P.TxByteCount_P3023 :: egressParams) [] [.stay, .sheet, .wdp] s w :=
      Frame.traffic _ _ _ (Frame.traffic _ _ _ ((Frame.refl ..).setStayPort _ _ (by decide)) (.inl (by decide)))
        (.inl (by decide))
    exact (counted.trans (served.frame.weaken (by simp) (by simp) (fun _ h => h))).settle

theorem State.stayFrameDone_idle (h : (s.stayPort p).sending = none) : s.stayFrameDone p = s := by
  unfold State.stayFrameDone
  rw [h]

/-! ### Synchronisation packets (R261) and the wake from low-power idle (R265) -/

theorem frame_wakeLpi (s : State) (hp : p < 256) (fs : List Part) :
    Frame [] [(P.PortStatus, p), (P.LinkStatus, p)] fs s (s.wakeLpi p) := by
  unfold State.wakeLpi
  have at_p : p % 256 = p := Nat.mod_eq_of_lt hp
  refine Frame.setBit _ _ _ _ (Frame.setBit _ _ _ _ (.refl ..) ?_) ?_
  · rw [at_p]
    simp
  · rw [at_p]
    simp

theorem State.bits_wakeLpi (s : State) {i : Nat} (hi : i < 64) :
    (s.wakeLpi p).bit P.PortStatus p i = (s.bit P.PortStatus p i && i != 8) ∧
    (s.wakeLpi p).bit P.LinkStatus p i = (s.bit P.LinkStatus p i && i != 5) := by
  unfold State.wakeLpi
  have other : (s.setBit P.PortStatus p 8 false).bit P.LinkStatus p i = s.bit P.LinkStatus p i :=
    State.bit_congr (State.rd_setBit_param _ _ _ _ _ _ _ (by decide)) i
  rw [State.bit_congr (State.rd_setBit_param _ _ _ _ _ _ _ (by decide)), State.bit_setBit _ _ _ _ _ _ hi,
    State.bit_setBit _ _ _ _ _ _ hi, other]
  constructor
  · by_cases h : i = 8 <;> simp [h]
  · by_cases h : i = 5 <;> simp [h]

/-- A busy port with its link up queues a time frame. -/
theorem State.sendTime_of_sending {x : Egress} (room : (s.port p).time.length < 8) (up : s.shroudUp p = true)
    (sending : (s.port p).sending.isSome = true) : s.sendTime p x =
      ((s.wakeLpi p).setPort p { s.port p with time := (s.port p).time ++ [x] }, true) := by
  unfold State.sendTime
  dsimp only
  rw [if_neg (Nat.not_le.mpr room)]
  have link : ∀ q, ((s.wakeLpi p).setPort p q).shroudUp p = (s.wakeLpi p).shroudUp p := fun _ => rfl
  have linked : ((s.wakeLpi p).setPort p { s.port p with time := (s.port p).time ++ [x] }).shroudUp p = true := by
    rw [link, State.shroudUp_wakeLpi, up]
  refine congrArg (·, true) (State.servePort_of_sending linked ?_)
  rw [State.port_setPort, if_pos rfl]
  exact sending

/-- The state whose oldest frame to be synchronised is taken. -/
def State.syncTaken (s : State) (p : Nat) (ks : List Nat) : State :=
  { s with sheet := { s.sheet with dataFrame := SMap.set [] s.sheet.dataFrame p ks } }

theorem State.live_frameView_syncTaken (s : State) (ks : List Nat) (k : Nat) :
    ((s.syncTaken p ks).frameView k).live = (s.frameView k).live := by
  have same : (s.syncTaken p ks).contextOf k = s.contextOf k := rfl
  unfold State.frameView
  rw [same]
  cases s.contextOf k with
  | none => rfl
  | some c => rfl

theorem completes_sacnSyncSend {port : Fin 64} {k : Nat} {ks : List Nat}
    (oldest : SMap.get [] s.sheet.dataFrame port = k :: ks) (address : (s.frameView k).lvN P.SacnSyncAddress port ≠ 0)
    (mode : (s.frameView k).sacnMode port = true) (runs : s.portsRun = true) (up : s.shroudUp port = true)
    (sending : (s.port port).sending.isSome = true) (room : (s.port port).time.length < 8) :
    Completes (.sacnSyncSend port) s fun t => SMap.get [] t.sheet.dataFrame port = ks ∧
      (t.port port).time = (s.port port).time ++ [{
        frame := .sacnSync (s.sacnSync (k % 256) ((s.frameView k).lvN P.SacnSyncAddress port)), len := s.sacnLen port 49,
        tag := some ⟨k, port, s.tns⟩,
        net := some (s.sacnHead port (BitVec.ofNat 16 ((s.frameView k).lvN P.SacnSyncAddress port))) }] ∧
      (∀ q < 64, q ≠ port.val → t.port q = s.port q) ∧
      Frame [] [(P.PortStatus, port.val), (P.LinkStatus, port.val)] [.sheet, .ports] s t := by
  let v := s.syncTaken port ks
  have live := s.live_frameView_syncTaken (p := port) ks k
  have lv : ∀ r e, (v.frameView k).lvN r e = (s.frameView k).lvN r e := fun r e => by
    unfold State.lvN State.lv
    rw [live]
  have served : (v.frameView k).sacnMode port = true := by
    unfold State.sacnMode at *
    rw [lv]
    exact mode
  have sends : s.sendSync port = (v.sendTime port {
      frame := .sacnSync (s.sacnSync (k % 256) ((v.frameView k).lvN P.SacnSyncAddress port)), len := s.sacnLen port 49,
      tag := some ⟨k, port, s.tns⟩,
      net := some (s.sacnHead port (BitVec.ofNat 16 ((v.frameView k).lvN P.SacnSyncAddress port))) }).1 := by
    unfold State.sendSync
    rw [oldest]
    refine if_neg fun h => ?_
    obtain h | h | h := h
    · exact address ((lv _ _).symm.trans h)
    · exact absurd (h.symm.trans (congrArg Bool.not served)) (by decide)
    · exact absurd (h.symm.trans (congrArg Bool.not runs)) (by decide)
  rw [lv] at sends
  generalize (s.frameView k).lvN P.SacnSyncAddress port = a at sends ⊢
  rw [State.sendTime_of_sending (s := v) room up sending] at sends
  have ports : ∀ q, (s.sendSync port).settle.port q = (s.sendSync port).port q := fun q => by
    rw [State.port, State.settle_ports, State.port]
  refine ⟨_, rfl, ?_, ?_, fun q _ other => ?_, ?_⟩
  · rw [State.settle_sheet, sends]
    exact SMap.get_set_same ..
  · rw [ports, sends, State.port_setPort, if_pos rfl]
    rfl
  · rw [ports, sends, State.port_setPort, if_neg other]
    rfl
  · rw [sends]
    have taken : Frame [] [(P.PortStatus, port.val), (P.LinkStatus, port.val)] [.sheet, .ports] s v :=
      (Frame.refl ..).sheet _ (by decide)
    exact (Frame.setPort _ _ (taken.trans (frame_wakeLpi v (by omega) _)) (by decide)).settle

theorem State.sendSync_idle (h : SMap.get [] s.sheet.dataFrame p = []) : s.sendSync p = s := by
  unfold State.sendSync
  rw [h]

theorem completes_lpiWakeLead (port : Fin 64) : Completes (.lpiWakeLead port) s fun t =>
    (∀ i < 64, t.bit P.PortStatus port i = (s.bit P.PortStatus port i && i != 8)) ∧
    (∀ i < 64, t.bit P.LinkStatus port i = (s.bit P.LinkStatus port i && i != 5)) ∧
    Frame [] [(P.PortStatus, port.val), (P.LinkStatus, port.val)] [] s t := by
  have settled : ∀ r, r ∉ housekeeping → (s.wakeLpi port).settle.rd r port = (s.wakeLpi port).rd r port :=
    fun r hr => State.rd_settle _ _ _ hr
  refine ⟨_, rfl, fun i hi => ?_, fun i hi => ?_, (frame_wakeLpi s (by omega) []).settle⟩
  · rw [State.bit_congr (settled _ (by decide))]
    exact (s.bits_wakeLpi hi).1
  · rw [State.bit_congr (settled _ (by decide))]
    exact (s.bits_wakeLpi hi).2

/-- Settles O37: the end of a frame on the ports of both kinds, the synchronisation packet and the wake. -/
theorem portsSendByStrictPriority : Obligations.PortsSendByStrictPriority := by
  unfold Obligations.PortsSendByStrictPriority
  refine ⟨?express, ?time, ?down, ?idle, ?stay, ?stayIdle, ?sync, ?unsynced, ?wake⟩
  case express =>
    rintro s port x y ys ⟨sending, up, locked, express⟩
    obtain ⟨t, ht, ⟨frames, bytes, others, frame⟩, next, rest, time, bulk⟩ :=
      completes_egressFrameDone_express sending up locked express
    exact ⟨t, ht, frames, bytes, next, rest, time, bulk, others, frame⟩
  case time =>
    rintro s port x y ys ⟨sending, up, locked, express, time⟩
    obtain ⟨t, ht, ⟨frames, bytes, others, frame⟩, next, none, rest, bulk⟩ :=
      completes_egressFrameDone_time sending up locked express time
    exact ⟨t, ht, frames, bytes, next, none, rest, bulk, others, frame⟩
  case down =>
    rintro s port ⟨sending, down⟩
    exact completes_egressFrameDone_down sending down
  case idle =>
    rintro s port idle
    exact ⟨_, (State.exec_egressFrameDone port).trans (congrArg done (State.portFrameDone_idle idle)),
      (Frame.refl ..).settle⟩
  case stay =>
    rintro s port x sending
    exact completes_egressFrameDone_stay sending
  case stayIdle =>
    rintro s port idle
    exact ⟨_, (State.exec_egressFrameDone_stay port).trans (congrArg done (State.stayFrameDone_idle idle)),
      (Frame.refl ..).settle⟩
  case sync =>
    rintro s port k ks ⟨oldest, address, mode, runs, up, sending, room⟩
    exact completes_sacnSyncSend oldest address mode runs up sending room
  case unsynced =>
    rintro s port none
    exact ⟨_, congrArg done (State.sendSync_idle none), (Frame.refl ..).settle⟩
  case wake =>
    rintro s port
    exact completes_lpiWakeLead port

end Sys2Proof.Machine
end

section
namespace Sys2Proof.Machine

variable {s t u : State}

/-! ### Role, epoch and mirror state (R357) -/

theorem State.role_congr (h : t.rd P.TwinStatus 0 = s.rd P.TwinStatus 0) : t.role = s.role := by
  unfold State.role
  rw [State.fld_congr h]

theorem State.epoch_congr (h : t.rd P.TwinStatus 0 = s.rd P.TwinStatus 0) : t.epoch = s.epoch := by
  unfold State.epoch
  rw [State.fld_congr h]

theorem State.mirrorState_congr (h : t.rd P.TwinStatus 0 = s.rd P.TwinStatus 0) : t.mirrorState = s.mirrorState := by
  unfold State.mirrorState
  rw [State.fld_congr h]

theorem Role.code_lt (r : Role) : r.code % 2 ^ 2 = r.code := by cases r <;> rfl

/-- A role is read as it was written. -/
theorem State.role_of_code {r : Role} (h : s.fld P.TwinStatus 0 24 2 = r.code) : s.role = r := by
  unfold State.role
  rw [h]
  cases r <;> rfl

/-- `t` has role `r` and epoch `e`; of what `s` shows of the twin the rest stands. -/
structure TookRole (r : Role) (e : BitVec 7) (s t : State) : Prop where
  role : t.role = r
  epoch : t.epoch = e
  mirror : t.mirrorState = s.mirrorState
  flags : ∀ i, 16 ≤ i → i < 24 → t.bit P.TwinStatus 0 i = s.bit P.TwinStatus 0 i
  twin : ∃ l, t.twin = { s.twin with lastEpoch := l }
  frame : Frame [P.TwinStatus] [] [.twin] s t

theorem State.noteEpoch_rd (s : State) (e : BitVec 7) (p i : Nat) : (s.noteEpoch e).rd p i = s.rd p i := by
  unfold State.noteEpoch
  split
  · rfl
  · split
    · rfl
    · split <;> rfl

theorem frame_noteEpoch (s : State) (e : BitVec 7) (ps : List Nat) : Frame ps [] [.twin] s (s.noteEpoch e) := by
  unfold State.noteEpoch
  refine iteInduction (motive := Frame ps [] [.twin] s) (fun _ => .refl ..) fun _ => ?_
  split
  · exact (Frame.refl ..).setTwin _ (by decide)
  · exact iteInduction (motive := Frame ps [] [.twin] s) (fun _ => (Frame.refl ..).setTwin _ (by decide)) fun _ => .refl ..

theorem State.twin_noteEpoch (s : State) (e : BitVec 7) : ∃ l, (s.noteEpoch e).twin = { s.twin with lastEpoch := l } := by
  unfold State.noteEpoch
  split
  · exact ⟨_, rfl⟩
  · split
    · exact ⟨_, rfl⟩
    · split <;> exact ⟨_, rfl⟩

/-- The two fields of a role that is shown. -/
def State.roleShown (s : State) (r : Role) (e : BitVec 7) : State :=
  (s.setFld P.TwinStatus 0 24 2 r.code).setFld P.TwinStatus 0 0 7 e.toNat

theorem State.fields_roleShown (s : State) (r : Role) (e : BitVec 7) :
    (s.roleShown r e).fld P.TwinStatus 0 24 2 = r.code ∧ (s.roleShown r e).fld P.TwinStatus 0 0 7 = e.toNat ∧
    (s.roleShown r e).fld P.TwinStatus 0 16 2 = s.fld P.TwinStatus 0 16 2 := by
  unfold State.roleShown
  refine ⟨?_, ?_, ?_⟩
  · rw [State.fld_setFld_other _ _ _ _ _ _ _ _ (.inr (by decide)) (by decide), State.fld_setFld_same _ _ _ _ _ _ (by decide),
      r.code_lt]
  · rw [State.fld_setFld_same _ _ _ _ _ _ (by decide)]
    exact Nat.mod_eq_of_lt e.isLt
  · rw [State.fld_setFld_other _ _ _ _ _ _ _ _ (.inr (by decide)) (by decide),
      State.fld_setFld_other _ _ _ _ _ _ _ _ (.inl (by decide)) (by decide)]

theorem State.bit_roleShown (s : State) (r : Role) (e : BitVec 7) {i : Nat} (hi : 16 ≤ i) (h : i < 24) :
    (s.roleShown r e).bit P.TwinStatus 0 i = s.bit P.TwinStatus 0 i := by
  unfold State.roleShown
  rw [bit_setFld_other _ _ _ _ _ _ _ (by omega) (.inr (by omega)), bit_setFld_other _ _ _ _ _ _ _ (by omega) (.inl h)]

theorem tookRole_setRole (s : State) (r : Role) (e : BitVec 7) : TookRole r e s (s.setRole r e) := by
  unfold State.setRole
  refine iteInduction (fun same => ?_) fun _ => ?_
  · exact ⟨same.1, same.2, rfl, fun _ _ _ => rfl, ⟨_, rfl⟩, .refl ..⟩
  · obtain ⟨code, epoch, mirror⟩ := s.fields_roleShown r e
    have flags := fun i => s.bit_roleShown r e (i := i)
    have shown : Frame [P.TwinStatus] [] [.twin] s (s.roleShown r e) :=
      ((Frame.refl ..).setFld _ _ _ _ _ (.inl (by decide))).setFld _ _ _ _ _ (.inl (by decide))
    have twin : (s.roleShown r e).twin = s.twin := rfl
    have named : (s.setFld P.TwinStatus 0 24 2 r.code).setFld P.TwinStatus 0 0 7 e.toNat = s.roleShown r e := rfl
    dsimp only
    rw [named]
    generalize s.roleShown r e = v at *
    generalize BitVec.ofNat 32 (r.code * 128 + e.toNat) = x
    have same : ((v.noteEpoch e).event Ev.twinRole P.TwinStatus 0 x).rd P.TwinStatus 0 = v.rd P.TwinStatus 0 := by
      rw [State.rd_event _ _ _ _ _ _ _ (by decide), State.noteEpoch_rd]
    refine ⟨(State.role_congr same).trans (State.role_of_code code), (State.epoch_congr same).trans ?_,
      (State.mirrorState_congr same).trans ?_, fun i hi h => (State.bit_congr same i).trans (flags i hi h), ?_,
      (shown.trans (frame_noteEpoch v e _)).event _ _ _ _⟩
    · unfold State.epoch
      rw [epoch, BitVec.ofNat_toNat, BitVec.setWidth_eq]
    · unfold State.mirrorState
      rw [mirror]
    · obtain ⟨l, noted⟩ := v.twin_noteEpoch e
      exact ⟨l, by rw [State.event_twin, noted, twin]⟩

/-- The mirror state is shown; role, epoch and flags stand. -/
structure ShowsMirror (m : MirrorState) (s t : State) : Prop where
  mirror : t.mirrorState = m
  role : t.role = s.role
  epoch : t.epoch = s.epoch
  flags : ∀ i, 18 ≤ i → i < 24 → t.bit P.TwinStatus 0 i = s.bit P.TwinStatus 0 i
  twin : t.twin = s.twin
  frame : Frame [P.TwinStatus] [] [] s t

theorem showsMirror_setMirrorState (s : State) (m : MirrorState) : ShowsMirror m s (s.setMirrorState m) := by
  unfold State.setMirrorState
  have code : m.code % 2 ^ 2 = m.code := by cases m <;> rfl
  refine ⟨?_, ?_, ?_, fun i hi h => bit_setFld_other _ _ _ _ _ _ _ (by omega) (.inr (by omega)), rfl,
    (Frame.refl ..).setFld _ _ _ _ _ (.inl (by decide))⟩
  · unfold State.mirrorState
    rw [State.fld_setFld_same _ _ _ _ _ _ (by decide), code]
    cases m <;> rfl
  · unfold State.role
    rw [State.fld_setFld_other _ _ _ _ _ _ _ _ (.inr (by decide)) (by decide)]
  · unfold State.epoch
    rw [State.fld_setFld_other _ _ _ _ _ _ _ _ (.inl (by decide)) (by decide)]

/-! ### A cue done on the partner (R368) -/

/-- Only the cue processor's state changes. -/
def CueOnly (s t : State) : Prop := ∃ q, t = { s with cue := q }

theorem CueOnly.refl (s : State) : CueOnly s s := ⟨s.cue, rfl⟩

theorem CueOnly.trans (h : CueOnly s t) (k : CueOnly t u) : CueOnly s u := by
  obtain ⟨_, rfl⟩ := h
  obtain ⟨q, rfl⟩ := k
  exact ⟨q, rfl⟩

theorem CueOnly.rd (h : CueOnly s t) (p e : Nat) : t.rd p e = s.rd p e := by
  obtain ⟨_, rfl⟩ := h
  rfl

theorem CueOnly.twin (h : CueOnly s t) : t.twin = s.twin := by
  obtain ⟨_, rfl⟩ := h
  rfl

theorem cueOnly_foldl {α : Type} {f : State → α → State} (one : ∀ t a, CueOnly t (f t a)) :
    ∀ (l : List α) (s : State), CueOnly s (l.foldl f s)
  | [], s => .refl s
  | a :: l, s => (one s a).trans (cueOnly_foldl one l (f s a))

theorem cueOnly_endRamps (s : State) (p e k : Nat) : CueOnly s (s.endRamps p e k) := ⟨_, rfl⟩

theorem cueOnly_startRamp (s : State) (rq : Requester) (level k : Nat) (w span : Wide) :
    CueOnly s (s.startRamp rq level k w span) := by
  have began : CueOnly s (if cueWrites level (Cw.param w) (Cw.elem w) then s.endRamps (Cw.param w) (Cw.elem w) k else s) :=
    iteInduction (fun _ => cueOnly_endRamps ..) fun _ => .refl s
  exact began.trans ⟨_, rfl⟩

theorem cueOnly_followRamps (rq : Requester) (level k : Nat) : ∀ (ws : List Wide) (s : State),
    CueOnly s (s.followRamps rq level k ws)
  | [], s => .refl s
  | w :: ws, s => by
    unfold State.followRamps
    refine CueOnly.trans ?_ (cueOnly_followRamps rq level k ws _)
    split
    · exact iteInduction (fun _ => cueOnly_endRamps ..) fun _ => .refl s
    · exact iteInduction (fun _ => cueOnly_startRamp ..) fun _ => .refl s
    · exact .refl s

theorem cueOnly_takeCue (s : State) (n : Word) : CueOnly s (s.takeCue n).2 := by
  unfold State.takeCue
  split
  · exact .refl s
  · exact ⟨_, rfl⟩

theorem cueOnly_cueDone (s : State) (n : Word) (k : Nat) : CueOnly s (s.cueDone n k) := by
  unfold State.cueDone
  have taken := cueOnly_takeCue s n
  generalize s.takeCue n = x at *
  obtain ⟨ws, v⟩ := x
  dsimp only
  split
  · exact taken.trans (cueOnly_followRamps ..)
  · exact taken

end Sys2Proof.Machine
end

section
namespace Sys2Proof.Machine

variable {s t u : State}

/-! ### The unit assumes Active (R359) -/

/-- `t` is Active with the epoch above the one `s` remembers. -/
structure AssumedActive (s t : State) : Prop where
  role : t.role = .active
  epoch : t.epoch = nextEpoch s.twin.lastEpoch
  flags : ∀ i, 18 ≤ i → i < 24 → t.bit P.TwinStatus 0 i = s.bit P.TwinStatus 0 i
  handOver : t.twin.handOver = none
  heard : t.twin.partnerHeard = s.twin.partnerHeard
  rd : ∀ p e, p ∉ housekeeping → p ≠ P.TwinStatus → e < 256 → t.rd p e = s.rd p e

theorem assumedActive_becomeActive (s : State) (next : Word) : AssumedActive s (s.becomeActive next) := by
  unfold State.becomeActive
  extract_lets shows groups v w x
  have cues : CueOnly s v := cueOnly_foldl (fun t r => iteInduction (fun _ => cueOnly_cueDone ..) fun _ => .refl t) groups s
  have took : TookRole .active (nextEpoch v.twin.lastEpoch) v w := tookRole_setRole ..
  have shown : ShowsMirror .none w x := showsMirror_setMirrorState ..
  obtain ⟨l, twin⟩ := took.twin
  clear_value x w v
  have heard : x.twin.partnerHeard = s.twin.partnerHeard := by rw [shown.twin, twin, cues.twin]
  have epoch : x.epoch = nextEpoch s.twin.lastEpoch := by rw [shown.epoch, took.epoch, cues.twin]
  refine ⟨(State.role_congr rfl).trans (shown.role.trans took.role), (State.epoch_congr rfl).trans epoch,
    fun i hi h => ?_, rfl, heard, fun p e hp other he => ?_⟩
  · exact ((shown.flags i hi h).trans (took.flags i (by omega) h)).trans (State.bit_congr (cues.rd _ _) i)
  · have hps : p ∉ [P.TwinStatus] := by simpa using other
    exact (shown.frame.rd he hp hps List.not_mem_nil).trans
      ((took.frame.rd he hp hps List.not_mem_nil).trans (cues.rd p e))

/-- A standby without strap conflict takes over. -/
structure TookOver (s t : State) : Prop where
  role : t.role = .active
  epoch : t.epoch = nextEpoch s.twin.lastEpoch
  flags : ∀ i, 18 ≤ i → i < 24 → t.bit P.TwinStatus 0 i = s.bit P.TwinStatus 0 i
  counts : s.rdN P.TakeoverCount 0 < 0xFFFFFFFE → t.rdN P.TakeoverCount 0 = s.rdN P.TakeoverCount 0 + 1
  heard : t.twin.partnerHeard = s.twin.partnerHeard

theorem tookOver_takeOver (clear : s.bit P.TwinStatus 0 23 = false) : TookOver s s.takeOver := by
  have active := assumedActive_becomeActive s (s.twin.expected.getD s.twin.nextRecord)
  have takes : s.takeOver = (s.becomeActive (s.twin.expected.getD s.twin.nextRecord)).count P.TakeoverCount 0 :=
    if_neg (by simp [clear])
  rw [takes]
  generalize s.becomeActive (s.twin.expected.getD s.twin.nextRecord) = v at *
  have same : (v.count P.TakeoverCount 0).rd P.TwinStatus 0 = v.rd P.TwinStatus 0 := State.rd_count _ _ _ _ _ (by decide) (by decide)
  have held : v.rdN P.TakeoverCount 0 = s.rdN P.TakeoverCount 0 :=
    congrArg BitVec.toNat (active.rd _ _ (by decide) (by decide) (by decide))
  refine ⟨(State.role_congr same).trans active.role, (State.epoch_congr same).trans active.epoch,
    fun i hi h => (State.bit_congr same i).trans (active.flags i hi h), fun below => ?_, ?_⟩
  · rw [← held] at below ⊢
    exact State.rdN_countBy_lt v (by decide) (by omega)
  · rw [State.count_twin, active.heard]

/-! ### The loss of a path (R363) -/

/-- The alarms of the two paths have followed the loss of one of them. -/
structure PathClosed (path : Fin 2) (s t : State) : Prop where
  dead : t.bit P.TwinStatus 0 (18 + path.val) = false
  alarm : t.bit P.TwinStatus 0 20 = (s.paired && s.bit P.TwinStatus 0 (19 - path.val))
  lost : t.bit P.TwinStatus 0 21 = (s.paired && !s.bit P.TwinStatus 0 (19 - path.val))
  conflict : t.bit P.TwinStatus 0 23 = s.bit P.TwinStatus 0 23
  counts : s.rdN P.PathLossCount path < 0xFFFFFFFE → t.rdN P.PathLossCount path = s.rdN P.PathLossCount path + 1
  role : t.role = s.role
  lastEpoch : t.twin.lastEpoch = s.twin.lastEpoch
  heard : t.twin.partnerHeard = s.bit P.TwinStatus 0 (19 - path.val)
  frame : Frame [P.TwinStatus] [(P.PathLossCount, path.val)] [.twin] s t

/-- The flags of a pair with one path, or neither, alive. -/
structure FlagsFollow (s t : State) : Prop where
  alarm : t.bit P.TwinStatus 0 20 = (s.paired && (s.pennantAlive != s.stayAlive))
  lost : t.bit P.TwinStatus 0 21 = (s.paired && !s.pennantAlive && !s.stayAlive)
  others : ∀ i < 64, i ≠ 20 → i ≠ 21 → t.bit P.TwinStatus 0 i = s.bit P.TwinStatus 0 i
  role : t.role = s.role
  twin : t.twin = { s.twin with partnerHeard := s.pennantAlive || s.stayAlive }
  frame : Frame [P.TwinStatus] [] [.twin] s t

theorem State.role_setBit (s : State) (i : Nat) (b : Bool) (h : i < 24) : (s.setBit P.TwinStatus 0 i b).role = s.role := by
  unfold State.role
  rw [State.fld_setBit_other _ _ _ _ _ _ _ (by omega) (by decide)]

theorem flagsFollow_pathFlags (s : State) : FlagsFollow s s.pathFlags := by
  unfold State.pathFlags
  extract_lets a b v w
  have paired : v.paired = s.paired := State.bit_congr (State.rd_setBit_param _ _ _ _ _ _ _ (by decide)) 0
  have first := fun i (hi : i < 64) => State.bit_setBit s P.TwinStatus 0 20 i (s.paired && (a != b)) hi
  have second := fun i (hi : i < 64) => State.bit_setBit v P.TwinStatus 0 21 i (v.paired && !a && !b) hi
  refine ⟨?_, ?_, fun i hi h h' => ?_, ?_, rfl, ?_⟩
  · exact ((second 20 (by decide)).trans (if_neg (by decide))).trans ((first 20 (by decide)).trans (if_pos rfl))
  · rw [← paired]
    exact (second 21 (by decide)).trans (if_pos rfl)
  · exact ((second i hi).trans (if_neg h')).trans ((first i hi).trans (if_neg h))
  · exact (State.role_setBit v 21 _ (by decide)).trans (State.role_setBit s 20 _ (by decide))
  · exact (((Frame.refl ..).setBit _ _ _ _ (.inl (by decide))).setBit _ _ _ _ (.inl (by decide))).setTwin _ (by decide)

/-- A path has gone, is counted and entered in the log. -/
def State.pathCounted (s : State) (path : Nat) (x : Twin) : State :=
  (((s.setBit P.TwinStatus 0 (18 + path) false).setTwin x).count P.PathLossCount path).log 0x1D 0x0050 path 0 0

theorem State.rd_pathCounted_status (s : State) (path : Nat) (x : Twin) :
    (s.pathCounted path x).rd P.TwinStatus 0 = (s.setBit P.TwinStatus 0 (18 + path) false).rd P.TwinStatus 0 := by
  unfold State.pathCounted
  rw [State.rd_log _ _ _ _ _ _ _ _ (by decide), State.rd_count _ _ _ _ _ (by decide) (by decide)]
  rfl

theorem State.rdN_pathCounted (s : State) (path : Nat) (x : Twin) (h : s.rdN P.PathLossCount path < 0xFFFFFFFE) :
    (s.pathCounted path x).rdN P.PathLossCount path = s.rdN P.PathLossCount path + 1 := by
  unfold State.pathCounted
  have same : ∀ v : State, (v.setTwin x).rdN P.PathLossCount path = v.rdN P.PathLossCount path := fun _ => rfl
  have held : (s.setBit P.TwinStatus 0 (18 + path) false).rdN P.PathLossCount path = s.rdN P.PathLossCount path :=
    congrArg BitVec.toNat (State.rd_setBit_param s P.TwinStatus 0 (18 + path) P.PathLossCount path false (by decide))
  rw [← same] at held
  generalize (s.setBit P.TwinStatus 0 (18 + path) false).setTwin x = v at *
  rw [← held] at h ⊢
  unfold State.rdN at *
  rw [State.rd_log _ _ _ _ _ _ _ _ (by decide)]
  exact State.rdN_countBy_lt v (by decide) (by unfold State.rdN; omega)

theorem pathClosed_pathFlags (path : Fin 2) (x : Twin) (same : x.lastEpoch = s.twin.lastEpoch) :
    PathClosed path s (s.pathCounted path x).pathFlags := by
  have status := s.rd_pathCounted_status path x
  have bits := fun i (hi : i < 64) => (State.bit_congr status i).trans
    (State.bit_setBit s P.TwinStatus 0 (18 + path.val) i false hi)
  have counted := s.rdN_pathCounted path x
  have frame : Frame [P.TwinStatus] [(P.PathLossCount, path.val)] [.twin] s (s.pathCounted path x) :=
    ((((Frame.refl ..).setBit _ _ _ _ (.inl (by decide))).setTwin x (by decide)).count _ _
      (.inr (.inr (by simp [Nat.mod_eq_of_lt (show path.val < 256 by omega)])))).log _ _ _ _ _
  have twin : (s.pathCounted path x).twin = x := by
    unfold State.pathCounted
    rw [State.log_twin, State.count_twin]
    rfl
  have role : (s.pathCounted path x).role = s.role := (State.role_congr status).trans (s.role_setBit _ _ (by omega))
  generalize s.pathCounted path x = v at *
  have paired : v.paired = s.paired :=
    State.bit_congr (frame.rd (by decide) (by decide) (by decide) (by simp)) 0
  have flags := flagsFollow_pathFlags v
  have alive : v.pennantAlive = (s.bit P.TwinStatus 0 18 && path.val != 0) ∧
      v.stayAlive = (s.bit P.TwinStatus 0 19 && path.val != 1) := by
    unfold State.pennantAlive State.stayAlive
    rw [bits 18 (by decide), bits 19 (by decide)]
    rcases path with ⟨_ | _ | n, h⟩
    · simp
    · simp
    · omega
  have other : (v.pennantAlive != v.stayAlive) = s.bit P.TwinStatus 0 (19 - path.val) ∧
      (v.pennantAlive || v.stayAlive) = s.bit P.TwinStatus 0 (19 - path.val) := by
    rw [alive.1, alive.2]
    rcases path with ⟨_ | _ | n, h⟩
    · simp
    · simp
    · omega
  have whole : Frame [P.TwinStatus] [(P.PathLossCount, path.val)] [.twin] s v.pathFlags :=
    frame.trans (flags.frame.weaken (by simp) (by simp) (by simp))
  refine ⟨?_, ?_, ?_, ?_, fun below => ?_, flags.role.trans role, ?_, ?_, whole⟩
  · rw [flags.others _ (by omega) (by omega) (by omega), bits _ (by omega), if_pos rfl]
  · rw [flags.alarm, paired, other.1]
  · rw [flags.lost, paired, Bool.and_assoc, ← Bool.not_or, other.2]
  · rw [flags.others _ (by decide) (by decide) (by decide), bits _ (by decide), if_neg (by omega)]
  · have kept : v.pathFlags.rd P.PathLossCount path = v.rd P.PathLossCount path :=
      flags.frame.rd (by omega) (by decide) (by decide) List.not_mem_nil
    exact (congrArg BitVec.toNat kept).trans (counted below)
  · rw [flags.twin, ← same, ← twin]
  · rw [flags.twin]
    exact other.2

end Sys2Proof.Machine
end

section
namespace Sys2Proof.Machine

variable {s t u : State}

/-! ### What the loss of a path does to the unit (R363) -/

/-- A standby that loses the pennant path is Stale; an active unit that loses it ends a resynchronisation. -/
def State.pathForgotten (s : State) (path : Nat) : State :=
  if path = 0 ∧ s.role = .standby then s.goStale
  else if path = 0 then s.setTwin { s.twin with resyncing := false }
  else s

theorem State.losePath_dead (path : Fin 2) (h : s.bit P.TwinStatus 0 (18 + path.val) = false) : s.losePath path = s :=
  if_neg (by simp [h])

/-- What the twin's state keeps as a path is lost. -/
def State.pathTwin (s : State) (path : Nat) : Twin :=
  let s := s.setBit P.TwinStatus 0 (18 + path) false
  if path = 0 then { s.twin with pennantRun := 0 } else { s.twin with stayRun := 0 }

theorem State.lastEpoch_pathTwin (s : State) (path : Nat) : (s.pathTwin path).lastEpoch = s.twin.lastEpoch := by
  unfold State.pathTwin
  dsimp only
  split <;> rfl

theorem State.losePath_alive (path : Fin 2) (h : s.bit P.TwinStatus 0 (18 + path.val) = true) : s.losePath path =
    let v := (s.pathCounted path (s.pathTwin path)).pathFlags.pathForgotten path
    if v.bit P.TwinStatus 0 21 then v.partnerLost else v := by
  unfold State.losePath State.pathForgotten State.pathCounted State.pathTwin
  dsimp only
  rw [if_pos h]

/-- Role, flags and remembered epoch stand. -/
structure Steady (s t : State) : Prop where
  role : t.role = s.role
  flags : ∀ i, 18 ≤ i → i < 24 → t.bit P.TwinStatus 0 i = s.bit P.TwinStatus 0 i
  lastEpoch : t.twin.lastEpoch = s.twin.lastEpoch
  heard : t.twin.partnerHeard = s.twin.partnerHeard
  frame : Frame [P.TwinStatus] [] [.twin] s t

theorem Steady.setTwin (h : Steady s t) (x : Twin) (last : x.lastEpoch = t.twin.lastEpoch)
    (heard : x.partnerHeard = t.twin.partnerHeard) : Steady s (t.setTwin x) :=
  ⟨(State.role_congr rfl).trans h.role, fun i hi hj => (State.bit_congr rfl i).trans (h.flags i hi hj),
    last.trans h.lastEpoch, heard.trans h.heard, h.frame.setTwin _ (by decide)⟩

theorem Steady.refl (s : State) : Steady s s := ⟨rfl, fun _ _ _ => rfl, rfl, rfl, .refl ..⟩

theorem steady_setMirrorState (s : State) (m : MirrorState) : Steady s (s.setMirrorState m) := by
  have shown := showsMirror_setMirrorState s m
  exact ⟨shown.role, shown.flags, congrArg Twin.lastEpoch shown.twin, congrArg Twin.partnerHeard shown.twin,
    shown.frame.weaken (by simp) (by simp) (by simp)⟩

theorem steady_pathForgotten (s : State) (path : Nat) : Steady s (s.pathForgotten path) := by
  unfold State.pathForgotten
  refine iteInduction (motive := Steady s) (fun _ => ?_)
    fun _ => iteInduction (motive := Steady s) (fun _ => (Steady.refl s).setTwin _ rfl rfl) fun _ => .refl s
  exact (steady_setMirrorState s .stale).setTwin _ rfl rfl

theorem State.partnerLost_standby (h : s.role = .standby) :
    s.partnerLost = (s.setTwin { s.twin with partnerSeq := none }).takeOver := by
  have role : (s.setTwin { s.twin with partnerSeq := none }).role = .standby := (State.role_congr rfl).trans h
  unfold State.partnerLost
  dsimp only
  generalize s.setTwin { s.twin with partnerSeq := none } = v at *
  rw [role]

theorem frame_proceedAlone (s : State) (ps : List Nat) : Frame ps [] [.twin, .bodyWrites, .transfers] s s.proceedAlone :=
  ((Frame.refl ..).setTwin _ (by decide)).foldl _ (fun _ _ => (Frame.refl ..).placeAtLatch _ _ (by decide) (by decide)) _

theorem frame_partnerLost (s : State) (h : s.role ≠ .standby) :
    Frame [] [] [.twin, .bodyWrites, .transfers] s s.partnerLost := by
  have role : (s.setTwin { s.twin with partnerSeq := none }).role = s.role := State.role_congr rfl
  have first : Frame [] [] [.twin, .bodyWrites, .transfers] s (s.setTwin { s.twin with partnerSeq := none }) :=
    (Frame.refl ..).setTwin _ (by decide)
  unfold State.partnerLost
  dsimp only
  generalize s.setTwin { s.twin with partnerSeq := none } = v at *
  split
  · next standby => exact absurd (role.symm.trans standby) h
  · exact (first.trans (frame_proceedAlone v [])).setTwin _ (by decide)
  · exact first

/-- The loss of a live path on a unit that is not the standby. -/
theorem completes_pathLoss (path : Fin 2) (alive : s.bit P.TwinStatus 0 (18 + path.val) = true) (role : s.role ≠ .standby) :
    Completes (.pathLoss path) s fun t => t.bit P.TwinStatus 0 (18 + path.val) = false ∧
      (s.rdN P.PathLossCount path < 0xFFFFFFFE → t.rdN P.PathLossCount path = s.rdN P.PathLossCount path + 1) ∧
      t.bit P.TwinStatus 0 20 = (s.paired && s.bit P.TwinStatus 0 (19 - path.val)) ∧
      t.bit P.TwinStatus 0 21 = (s.paired && !s.bit P.TwinStatus 0 (19 - path.val)) ∧
      (∀ c < 2, c ≠ path.val → t.rd P.PathLossCount c = s.rd P.PathLossCount c) ∧
      Frame (P.PathLossCount :: P.TwinStatus :: P.TakeoverCount :: egressParams) []
        [.twin, .cue, .bodyWrites, .transfers, .wdp] s t := by
  have closed := pathClosed_pathFlags (s := s) path (s.pathTwin path) (s.lastEpoch_pathTwin path)
  have effect := State.losePath_alive path alive
  generalize (s.pathCounted path (s.pathTwin path)).pathFlags = v at *
  have steady := steady_pathForgotten v path
  generalize v.pathForgotten path = w at *
  have last : Frame [] [] [.twin, .bodyWrites, .transfers] w (s.losePath path).settle := by
    rw [effect]
    exact (iteInduction (motive := Frame [] [] [.twin, .bodyWrites, .transfers] w)
      (fun _ => frame_partnerLost w (by rw [steady.role, closed.role]; exact role)) fun _ => .refl ..).settle
  have status := fun i => State.bit_congr (last.rd (q := P.TwinStatus) (f := 0) (by decide) (by decide) (by decide) (by decide)) i
  have counts : (s.losePath path).settle.rd P.PathLossCount path = v.rd P.PathLossCount path :=
    (last.rd (by omega) (by decide) (by decide) List.not_mem_nil).trans
      (steady.frame.rd (by omega) (by decide) (by decide) List.not_mem_nil)
  have whole : Frame [P.TwinStatus] [(P.PathLossCount, path.val)] [.twin, .bodyWrites, .transfers] s (s.losePath path).settle :=
    (closed.frame.weaken (by simp) (by simp) (by simp)).trans
      ((steady.frame.weaken (by simp) (by simp) (by simp)).trans (last.weaken (by simp) (by simp) (by simp)))
  refine ⟨_, rfl, ?_, fun below => ?_, ?_, ?_, fun c hc other => ?_, ?_⟩
  · rw [status, steady.flags _ (by omega) (by omega), closed.dead]
  · exact (congrArg BitVec.toNat counts).trans (closed.counts below)
  · rw [status, steady.flags _ (by decide) (by decide), closed.alarm]
  · rw [status, steady.flags _ (by decide) (by decide), closed.lost]
  · exact whole.rd (by omega) (by decide) (by decide) (by simpa using other)
  · have parts : SameParts [.twin, .cue, .bodyWrites, .transfers, .wdp] s (s.losePath path).settle :=
      (whole.weaken (fun _ h => h) (fun _ h => h) (by simp)).2
    refine ⟨fun p e he hp hps _ => whole.1 p e he hp ?_ ?_, parts⟩
    · simp only [List.mem_cons, not_or] at hps ⊢
      exact ⟨hps.2.1, List.not_mem_nil⟩
    · intro h
      refine hps ?_
      rw [(Prod.mk.inj (List.mem_singleton.mp h)).1]
      exact List.mem_cons_self

/-- The loss of the last path on a standby that no strap conflict holds. -/
theorem completes_pathLoss_standby (path : Fin 2) (alive : s.bit P.TwinStatus 0 (18 + path.val) = true)
    (alone : s.bit P.TwinStatus 0 (19 - path.val) = false) (standby : s.role = .standby) (paired : s.paired = true)
    (clear : s.bit P.TwinStatus 0 23 = false) : Completes (.pathLoss path) s fun t => t.role = .active ∧
      t.epoch = nextEpoch s.twin.lastEpoch ∧
      (s.rdN P.TakeoverCount 0 < 0xFFFFFFFE → t.rdN P.TakeoverCount 0 = s.rdN P.TakeoverCount 0 + 1) ∧
      t.bit P.TwinStatus 0 21 = true ∧ t.twin.partnerHeard = false := by
  have closed := pathClosed_pathFlags (s := s) path (s.pathTwin path) (s.lastEpoch_pathTwin path)
  have effect := State.losePath_alive path alive
  generalize (s.pathCounted path (s.pathTwin path)).pathFlags = v at *
  have steady := steady_pathForgotten v path
  generalize v.pathForgotten path = w at *
  have lost : w.bit P.TwinStatus 0 21 = true := by
    rw [steady.flags _ (by decide) (by decide), closed.lost, paired, alone]
    rfl
  have role : w.role = .standby := by rw [steady.role, closed.role, standby]
  have taken : Steady v (w.setTwin { w.twin with partnerSeq := none }) := steady.setTwin _ rfl rfl
  have same : ∀ p e, (w.setTwin { w.twin with partnerSeq := none }).rd p e = w.rd p e := fun _ _ => rfl
  dsimp only at effect
  rw [if_pos lost, State.partnerLost_standby role] at effect
  generalize w.setTwin { w.twin with partnerSeq := none } = x at *
  have takes := tookOver_takeOver (s := x) (by rw [taken.flags _ (by decide) (by decide), closed.conflict, clear])
  have held : x.rdN P.TakeoverCount 0 = s.rdN P.TakeoverCount 0 := by
    unfold State.rdN
    rw [taken.frame.rd (by decide) (by decide) (by decide) List.not_mem_nil,
      closed.frame.rd (by decide) (by decide) (by decide) (by simp)]
  rw [← effect] at takes
  have status : (s.losePath path).settle.rd P.TwinStatus 0 = (s.losePath path).rd P.TwinStatus 0 :=
    State.rd_settle _ _ _ (by decide)
  have count : (s.losePath path).settle.rdN P.TakeoverCount 0 = (s.losePath path).rdN P.TakeoverCount 0 :=
    congrArg BitVec.toNat (State.rd_settle _ _ _ (by decide))
  refine ⟨_, rfl, (State.role_congr status).trans takes.role, (State.epoch_congr status).trans ?_, fun below => ?_, ?_, ?_⟩
  · rw [takes.epoch, taken.lastEpoch, closed.lastEpoch]
  · rw [count, takes.counts (by rw [held]; exact below), held]
  · rw [State.bit_congr status, takes.flags _ (by decide) (by decide), taken.flags _ (by decide) (by decide), closed.lost, paired,
      alone]
    rfl
  · rw [State.settle_twin, takes.heard, taken.heard, closed.heard, alone]

theorem completes_pathLoss_dead (path : Fin 2) (dead : s.bit P.TwinStatus 0 (18 + path.val) = false) :
    Completes (.pathLoss path) s fun t => Frame [] [] [] s t :=
  ⟨_, congrArg done (State.losePath_dead path dead), (Frame.refl ..).settle⟩

/-! ### The end of a strap conflict (R364) -/

theorem completes_strapConflictClear (standby : s.role = .standby) (lost : s.bit P.TwinStatus 0 21 = true) :
    Completes .strapConflictClear s fun t => t.bit P.TwinStatus 0 23 = false ∧ t.role = .active ∧
      t.epoch = nextEpoch s.twin.lastEpoch ∧
      (s.rdN P.TakeoverCount 0 < 0xFFFFFFFE → t.rdN P.TakeoverCount 0 = s.rdN P.TakeoverCount 0 + 1) := by
  have cleared := fun i (hi : i < 64) => State.bit_setBit s P.TwinStatus 0 23 i false hi
  have role := (s.role_setBit 23 false (by decide)).trans standby
  have count : (s.setBit P.TwinStatus 0 23 false).rdN P.TakeoverCount 0 = s.rdN P.TakeoverCount 0 :=
    congrArg BitVec.toNat (State.rd_setBit_param s P.TwinStatus 0 23 P.TakeoverCount 0 false (by decide))
  have twin : (s.setBit P.TwinStatus 0 23 false).twin = s.twin := rfl
  have act : exec .strapConflictClear s = done (if (s.setBit P.TwinStatus 0 23 false).role == .standby &&
      (s.setBit P.TwinStatus 0 23 false).bit P.TwinStatus 0 21 then (s.setBit P.TwinStatus 0 23 false).takeOver
      else s.setBit P.TwinStatus 0 23 false) := rfl
  generalize s.setBit P.TwinStatus 0 23 false = v at *
  have lost' := (cleared 21 (by decide)).trans ((if_neg (by decide)).trans lost)
  have conflict := (cleared 23 (by decide)).trans (if_pos rfl)
  rw [if_pos (by rw [role, lost']; rfl)] at act
  have takes := tookOver_takeOver conflict
  have status : v.takeOver.settle.rd P.TwinStatus 0 = v.takeOver.rd P.TwinStatus 0 := State.rd_settle _ _ _ (by decide)
  have counted : v.takeOver.settle.rdN P.TakeoverCount 0 = v.takeOver.rdN P.TakeoverCount 0 :=
    congrArg BitVec.toNat (State.rd_settle _ _ _ (by decide))
  refine ⟨_, act, ?_, (State.role_congr status).trans takes.role, (State.epoch_congr status).trans ?_, fun below => ?_⟩
  · rw [State.bit_congr status, takes.flags _ (by decide) (by decide), conflict]
  · rw [takes.epoch, twin]
  · rw [counted, takes.counts (by rw [count]; exact below), count]

theorem completes_strapConflictClear_rests (h : s.role ≠ .standby ∨ s.bit P.TwinStatus 0 21 = false) :
    Completes .strapConflictClear s fun t =>
      (∀ i < 64, t.bit P.TwinStatus 0 i = (s.bit P.TwinStatus 0 i && i != 23)) ∧ Frame [] [(P.TwinStatus, 0)] [] s t := by
  have cleared := fun i (hi : i < 64) => State.bit_setBit s P.TwinStatus 0 23 i false hi
  have role := s.role_setBit 23 false (by decide)
  have frame : Frame [] [(P.TwinStatus, 0)] [] s (s.setBit P.TwinStatus 0 23 false) :=
    (Frame.refl ..).setBit _ _ _ _ (by decide)
  have act : exec .strapConflictClear s = done (if (s.setBit P.TwinStatus 0 23 false).role == .standby &&
      (s.setBit P.TwinStatus 0 23 false).bit P.TwinStatus 0 21 then (s.setBit P.TwinStatus 0 23 false).takeOver
      else s.setBit P.TwinStatus 0 23 false) := rfl
  generalize s.setBit P.TwinStatus 0 23 false = v at *
  have lost' := (cleared 21 (by decide)).trans (if_neg (by decide))
  rw [if_neg (by rw [role, lost']; rcases h with h | h <;> simp [h])] at act
  refine ⟨_, act, fun i hi => ?_, frame.settle⟩
  rw [State.bit_congr (State.rd_settle _ _ _ (by decide)), cleared i hi]
  by_cases h : i = 23 <;> simp [h]

end Sys2Proof.Machine
end

section
namespace Sys2Proof.Machine

variable {s t u : State}

/-! ### The end of the wait to join (Table 17.7) -/

theorem completes_joinWaitExpiry {v : State} (joins : s.role = .joining) (paired : s.paired = true)
    (silent : s.twin.partnerHeard = false) (clear : s.bit P.TwinStatus 0 23 = false) (free : s.twin.roleAtLatch = none)
    (takes : s.roleAt .active = v) : exec .joinWaitExpiry s = .next v.settle := by
  rw [← takes]
  exact if_pos (by simp [joins, paired, silent, clear, free])

theorem completes_joinWaitExpiry_rests (h : s.role ≠ .joining ∨ s.paired = false ∨ s.twin.partnerHeard = true ∨
    s.bit P.TwinStatus 0 23 = true ∨ s.twin.roleAtLatch.isSome = true) :
    Completes .joinWaitExpiry s fun t => Frame [] [] [] s t := by
  refine ⟨_, if_neg fun active => ?_, (Frame.refl ..).settle⟩
  simp only [Bool.and_eq_true, beq_iff_eq, Bool.not_eq_true', Option.isNone_iff_eq_none] at active
  obtain ⟨⟨⟨⟨joins, paired⟩, silent⟩, clear⟩, free⟩ := active
  simp [joins, paired, silent, clear, free] at h

/-! ### Requests for a role (R373) -/

theorem row_roleRequest : Dict.row P.RoleRequest = some (commandRow P.RoleRequest .u8 2 255) := by decide +kernel

theorem State.writeElement_roleRequest (s : State) (via : Via) (v : Wide) :
    s.writeElement via (commandRow P.RoleRequest .u8 2 255) 0 v = s.requestRole (v.setWidth 8) :=
  State.writeElement_of_unmirrored rfl rfl

theorem setWidth_ofNat_byte (b : Byte) : (BitVec.ofNat 64 b.toNat).setWidth 8 = b := by
  rw [BitVec.setWidth_ofNat_of_le (by decide), BitVec.ofNat_toNat, BitVec.setWidth_eq]

/-- The state whose hand-over is scheduled for frame `k`. -/
def State.handingOver (s : State) (k : Nat) : State :=
  (s.setTwin { s.twin with handOver := some (k, s.twin.nextRecord) }).emit
    { kind := 0x0A, flags := 4, target := BitVec.ofNat 32 k, data := [] }

theorem State.requestRole_grants (active : s.role = .active) (seeded : s.seeded = true) (heard : s.twin.partnerHeard = true)
    (standby : s.twin.partnerRole = .standby) (inStep : s.twin.partnerMirror = .inSync) :
    s.requestRole 0x5A = (s.handingOver s.mirrorFrame, 0) := by
  unfold State.requestRole
  rw [if_neg (by decide)]
  exact if_pos ⟨active, seeded, heard, standby, inStep⟩

theorem State.requestRole_refuses (h : s.role ≠ .active ∨ s.seeded = false ∨ s.twin.partnerHeard = false ∨
    s.twin.partnerRole ≠ .standby ∨ s.twin.partnerMirror ≠ .inSync) : s.requestRole 0x5A = (s, 2) := by
  unfold State.requestRole
  rw [if_neg (by decide)]
  refine if_neg fun ⟨active, seeded, heard, standby, inStep⟩ => ?_
  simp [active, seeded, heard, standby, inStep] at h

theorem State.arbitrate_twin (s : State) (rq : Requester) : (s.arbitrate rq).twin = s.twin :=
  (frame_arbitrate s rq [] [] []).2.twin (by decide)

theorem State.seeded_arbitrate (s : State) (rq : Requester) : (s.arbitrate rq).seeded = s.seeded :=
  State.bit_congr (State.rd_congr (s.arbitrate_regs rq) _ _) _

theorem State.mirrorFrame_arbitrate (s : State) (rq : Requester) : (s.arbitrate rq).mirrorFrame = s.mirrorFrame := by
  obtain ⟨n, hn⟩ := s.arbitrate_eq rq
  rw [hn]
  rfl

theorem completes_roleRequest {rq : Requester} (granted : s.grants rq P.RoleRequest 0 0x5A = true)
    (active : s.role = .active) (seeded : s.seeded = true) (heard : s.twin.partnerHeard = true)
    (standby : s.twin.partnerRole = .standby) (inStep : s.twin.partnerMirror = .inSync) :
    Completes (.roleRequest rq 0x5A) s fun t => t.wdp.answer = ⟨0, []⟩ ∧
      t.twin = { s.twin with handOver := some (s.mirrorFrame, s.twin.nextRecord), unacked := s.twin.unacked ++
                               [(s.twin.nextRecord, { kind := 0x0A, flags := 4, target := BitVec.ofNat 32 s.mirrorFrame,
                                                      data := [] })], nextRecord := s.twin.nextRecord + 1 } ∧
      Frame [] [] [.answer, .twin] s t := by
  have regs := State.rd_congr (s.arbitrate_regs rq)
  have twin := s.arbitrate_twin rq
  have frame := s.mirrorFrame_arbitrate rq
  have effect : (s.arbitrate rq).writeElement (s.via rq) (commandRow P.RoleRequest .u8 2 255) 0
      (BitVec.ofNat 64 (0x5A : Byte).toNat) = ((s.arbitrate rq).handingOver s.mirrorFrame, 0) := by
    rw [State.writeElement_roleRequest, setWidth_ofNat_byte, ← frame]
    exact State.requestRole_grants ((State.role_congr (regs _ _)).trans active) ((s.seeded_arbitrate rq).trans seeded)
      (twin ▸ heard) (twin ▸ standby) (twin ▸ inStep)
  have moved : Frame [] [] [.answer, .twin] (s.arbitrate rq) ((s.arbitrate rq).handingOver s.mirrorFrame) :=
    ((Frame.refl ..).setTwin _ (by decide)).setTwin _ (by decide)
  obtain ⟨t, ht, answer, kept, whole⟩ := completes_granted (c := .roleRequest rq 0x5A) (fs := [.twin]) rfl row_roleRequest
    (by decide) granted effect moved (by decide)
  refine ⟨t, ht, answer, ?_, whole⟩
  rw [kept.2.twin (by decide), ← twin]
  rfl

theorem completes_roleRequest_refused {rq : Requester} (granted : s.grants rq P.RoleRequest 0 0x5A = true)
    (h : s.role ≠ .active ∨ s.seeded = false ∨ s.twin.partnerHeard = false ∨ s.twin.partnerRole ≠ .standby ∨
      s.twin.partnerMirror ≠ .inSync) : Completes (.roleRequest rq 0x5A) s fun t => t.wdp.answer = ⟨2, []⟩ ∧
        Frame [] [] [.answer] s t := by
  have regs := State.rd_congr (s.arbitrate_regs rq)
  have twin := s.arbitrate_twin rq
  have effect : (s.arbitrate rq).writeElement (s.via rq) (commandRow P.RoleRequest .u8 2 255) 0
      (BitVec.ofNat 64 (0x5A : Byte).toNat) = (s.arbitrate rq, 2) := by
    rw [State.writeElement_roleRequest, setWidth_ofNat_byte]
    refine State.requestRole_refuses ?_
    rwa [State.role_congr (regs _ _), s.seeded_arbitrate rq, twin]
  obtain ⟨t, ht, answer, -, whole⟩ := completes_granted (c := .roleRequest rq 0x5A) (ps := []) (es := []) (fs := []) rfl
    row_roleRequest (by decide) granted effect (.refl ..) (by decide)
  exact ⟨t, ht, answer, whole⟩

theorem completes_roleRequest_other {rq : Requester} {value : Byte} (other : value ≠ 0x5A)
    (granted : s.grants rq P.RoleRequest 0 value.toNat = true) :
    Completes (.roleRequest rq value) s fun t => Frame [] [] [.answer] s t := by
  have effect : (s.arbitrate rq).writeElement (s.via rq) (commandRow P.RoleRequest .u8 2 255) 0
      (BitVec.ofNat 64 value.toNat) = (s.arbitrate rq, 0) := by
    rw [State.writeElement_roleRequest, setWidth_ofNat_byte]
    exact if_pos other
  obtain ⟨t, ht, -, -, whole⟩ := completes_granted (c := .roleRequest rq value) (ps := []) (es := []) (fs := []) rfl
    row_roleRequest (by decide) granted effect (.refl ..) (by decide)
  exact ⟨t, ht, whole⟩

/-! ### Twin control (R379) -/

/-- The dictionary's row of PD000. -/
def twinControlRow : Row := ⟨P.TwinControl, .u32, .rwr, 1, 0, 2, 0, 4294967295, 243, 0, 242, false, true, false, .none, 0⟩

theorem row_twinControl : Dict.row P.TwinControl = some twinControlRow := by decide +kernel

theorem State.writeElement_twinControl (s : State) (via : Via) (v : Wide) :
    s.writeElement via twinControlRow 0 v = (s.writeTwinControl v, 0) :=
  State.writeElement_of_unmirrored rfl rfl

theorem setWidth_ofNat_word (w : Word) : (BitVec.ofNat 64 w.toNat).setWidth 32 = w := by
  rw [BitVec.setWidth_ofNat_of_le (by decide), BitVec.ofNat_toNat, BitVec.setWidth_eq]

/-- The control as it waits for the next latch. -/
def State.controlWaits (s : State) (x : Word) : State := s.setTwin { s.twin with controlPending := some x }

theorem completes_twinControlWrite_later {rq : Requester} {value : Word}
    (granted : s.grants rq P.TwinControl 0 value.toNat = true) (seeded : s.seeded = true) :
    Completes (.twinControlWrite rq value) s fun t => t.wdp.answer = ⟨0, []⟩ ∧
      t.twin = { s.twin with controlPending := some (value &&& 0xF3) } ∧ Frame [] [] [.answer, .twin] s t := by
  have twin := s.arbitrate_twin rq
  have effect : (s.arbitrate rq).writeElement (s.via rq) twinControlRow 0 (BitVec.ofNat 64 value.toNat) =
      ((s.arbitrate rq).controlWaits (value &&& 0xF3), 0) := by
    rw [State.writeElement_twinControl]
    unfold State.writeTwinControl
    dsimp only
    rw [setWidth_ofNat_word, if_pos ((s.seeded_arbitrate rq).trans seeded)]
    rfl
  obtain ⟨t, ht, answer, kept, whole⟩ := completes_granted (c := .twinControlWrite rq value) (ps := []) (es := [])
    (fs := [.twin]) rfl row_twinControl (by decide) granted effect ((Frame.refl ..).setTwin _ (by decide)) (by decide)
  refine ⟨t, ht, answer, ?_, whole⟩
  rw [kept.2.twin (by decide), ← twin]
  rfl

theorem frame_sendGeneral (s : State) (p : Nat) (x : Egress) : Frame egressParams [] [.stay, .sheet, .wdp] s (s.sendGeneral p x) := by
  unfold State.sendGeneral
  refine iteInduction (motive := Frame egressParams [] [.stay, .sheet, .wdp] s) (fun _ => ?_) fun _ => ?_
  · exact (Frame.refl ..).count _ _ (.inl (by decide))
  · exact ((StayServed.refl p s).setStayPort _).frame.trans (stayServed_stayServe _ p).frame

theorem frame_syncGroups (s : State) (p : Nat) : Frame egressParams [] [.stay, .sheet, .wdp] s (s.syncGroups p) := by
  unfold State.syncGroups
  refine iteInduction (motive := Frame egressParams [] [.stay, .sheet, .wdp] s) (fun _ => .refl ..) fun _ => ?_
  have joined : Frame egressParams [] [.stay, .sheet, .wdp] s
      (s.setStayPort p { s.stayPort p with joined := s.wantedGroups p }) := (Frame.refl ..).setStayPort _ _ (by decide)
  refine joined.trans ?_
  unfold State.sendReports
  refine iteInduction (motive := Frame egressParams [] [.stay, .sheet, .wdp] _) (fun _ => ?_) fun _ => .refl ..
  exact (Frame.refl ..).foldl _ (fun t x => frame_sendGeneral t p x) _

theorem frame_syncAllGroups (s : State) : Frame egressParams [] [.stay, .sheet, .wdp] s s.syncAllGroups :=
  (Frame.refl ..).foldl _ frame_syncGroups _

/-- What a change of role by the control may write. -/
def controlParams : List Nat := P.TwinControl :: P.TwinStatus :: egressParams

/-- The parts that such a change may write. -/
def controlParts : List Part := [.answer, .twin, .bodyWrites, .transfers, .stay, .sheet, .wdp]

/-- A unit that starts to join. -/
structure Joins (s t : State) : Prop where
  role : t.role = .joining
  mirror : t.mirrorState = .stale
  output : t.twin.output = false
  pending : t.twin.controlPending = s.twin.controlPending
  frame : Frame [P.TwinStatus] [] [.twin] s t

theorem joins_becomeJoining (s : State) : Joins s s.becomeJoining := by
  have took := tookRole_setRole s .joining s.epoch
  have shown := showsMirror_setMirrorState (s.setRole .joining s.epoch) .stale
  obtain ⟨l, twin⟩ := took.twin
  unfold State.becomeJoining State.setOutput
  dsimp only
  generalize s.setRole .joining s.epoch = v at *
  generalize v.setMirrorState .stale = w at *
  refine ⟨(State.role_congr rfl).trans (shown.role.trans took.role), (State.mirrorState_congr rfl).trans shown.mirror, rfl, ?_, ?_⟩
  · rw [← congrArg Twin.controlPending (shown.twin.trans twin)]
    rfl
  · exact (took.frame.trans (shown.frame.weaken (by simp) (by simp) (by simp))).setTwin _ (by decide)

/-- A unit that goes on alone. -/
structure GoesSolo (s t : State) : Prop where
  role : t.role = .solo
  epoch : t.epoch = 0
  output : t.twin.output = true
  pending : t.twin.controlPending = s.twin.controlPending
  frame : Frame [P.TwinStatus] [] [.twin, .bodyWrites, .transfers] s t

theorem State.controlPending_proceedAlone (s : State) :
    s.proceedAlone.twin.controlPending = s.twin.controlPending := by
  have placed : Frame [] [] [.bodyWrites, .transfers] (s.setTwin { s.twin with blobCommit := [] }) s.proceedAlone :=
    (Frame.refl ..).foldl _ (fun _ _ => (Frame.refl ..).placeAtLatch _ _ (by decide) (by decide)) _
  rw [placed.2.twin (by decide)]
  rfl

theorem State.epoch_setBit (s : State) (i : Nat) (b : Bool) (h : 7 ≤ i) : (s.setBit P.TwinStatus 0 i b).epoch = s.epoch := by
  unfold State.epoch
  rw [State.fld_setBit_other _ _ _ _ _ _ _ (.inl h) (by decide)]

theorem State.fields_clearDual (s : State) : s.clearDual.role = s.role ∧ s.clearDual.epoch = s.epoch := by
  unfold State.clearDual
  exact ⟨(State.role_congr rfl).trans (s.role_setBit 22 false (by decide)),
    (State.epoch_congr rfl).trans (s.epoch_setBit 22 false (by decide))⟩

theorem frame_clearDual (s : State) : Frame [P.TwinStatus] [] [.twin] s s.clearDual :=
  ((Frame.refl ..).setBit _ _ _ _ (.inl (by decide))).setTwin _ (by decide)

theorem goesSolo_becomeSolo (s : State) : GoesSolo s s.becomeSolo := by
  have alone := frame_proceedAlone s [P.TwinStatus]
  have pending := s.controlPending_proceedAlone
  have took := tookRole_setRole s.proceedAlone .solo 0
  have shown := showsMirror_setMirrorState (s.proceedAlone.setRole .solo 0) .none
  obtain ⟨l, twin⟩ := took.twin
  unfold State.becomeSolo
  dsimp only
  generalize s.proceedAlone = v at *
  generalize v.setRole .solo 0 = w at *
  generalize w.setMirrorState .none = x at *
  obtain ⟨role, epoch⟩ := x.fields_clearDual
  have dual := frame_clearDual x
  have dualTwin : x.clearDual.twin.controlPending = x.twin.controlPending := rfl
  generalize x.clearDual = y at *
  refine ⟨(State.role_congr rfl).trans (role.trans (shown.role.trans took.role)),
    (State.epoch_congr rfl).trans (epoch.trans (shown.epoch.trans took.epoch)), rfl, ?_, ?_⟩
  · rw [← pending, ← congrArg Twin.controlPending (shown.twin.trans twin), ← dualTwin]
    rfl
  · exact Frame.setTwin _ (alone.trans ((took.frame.weaken (by simp) (by simp) (by simp)).trans
      ((shown.frame.weaken (by simp) (by simp) (by simp)).trans (dual.weaken (by simp) (by simp) (by simp))))) (by decide)

/-- The control as it is written. -/
def State.controlWritten (s : State) (v : Word) : State :=
  let s := s.wr P.TwinControl 0 ((v &&& 0xF3).setWidth 64)
  s.setTwin { s.twin with controlPending := none }

theorem State.rd_controlWritten (s : State) (v : Word) :
    (s.controlWritten v).rd P.TwinControl 0 = (v &&& 0xF3).setWidth 64 := by
  have same : (s.controlWritten v).rd P.TwinControl 0 = (s.wr P.TwinControl 0 ((v &&& 0xF3).setWidth 64)).rd P.TwinControl 0 := rfl
  rw [same, State.rd_wr_same]

theorem frame_controlWritten (s : State) (v : Word) : Frame controlParams [] controlParts s (s.controlWritten v) :=
  ((Frame.refl ..).wr _ _ _ (.inl (by decide))).setTwin _ (by decide)

/-- The unit whose control is written joins, goes on alone or stays as it is. -/
def State.controlActs (s : State) (was : Bool) : State :=
  if !was && s.paired then s.becomeJoining else if was && !s.paired then s.becomeSolo else s

theorem State.applyTwinControl_eq (s : State) (v : Word) :
    s.applyTwinControl v = ((s.controlWritten v).controlActs s.paired).syncAllGroups := rfl

theorem State.controlActs_kept (s : State) (was : Bool) :
    (s.controlActs was).twin.controlPending = s.twin.controlPending ∧
    Frame [P.TwinStatus] [] [.twin, .bodyWrites, .transfers] s (s.controlActs was) := by
  unfold State.controlActs
  split
  · have joins := joins_becomeJoining s
    exact ⟨joins.pending, joins.frame.weaken (by simp) (by simp) (by simp)⟩
  · split
    · have solo := goesSolo_becomeSolo s
      exact ⟨solo.pending, solo.frame⟩
    · exact ⟨rfl, .refl ..⟩

theorem completes_twinControlWrite {rq : Requester} {value : Word} (granted : s.grants rq P.TwinControl 0 value.toNat = true)
    (seeded : s.seeded = false) : Completes (.twinControlWrite rq value) s fun t => t.wdp.answer = ⟨0, []⟩ ∧
      t.rd P.TwinControl 0 = (value &&& 0xF3).setWidth 64 ∧ t.twin.controlPending = none ∧
      (s.paired = false → value.getLsbD 0 = true → t.role = .joining ∧ t.mirrorState = .stale ∧ t.twin.output = false) ∧
      (s.paired = true → value.getLsbD 0 = false → t.role = .solo ∧ t.epoch = 0 ∧ t.twin.output = true) := by
  have twice : (value &&& 0xF3) &&& 0xF3 = value &&& 0xF3 := by rw [BitVec.and_assoc, BitVec.and_self]
  have effect : (s.arbitrate rq).writeElement (s.via rq) twinControlRow 0 (BitVec.ofNat 64 value.toNat) =
      ((((s.arbitrate rq).controlWritten (value &&& 0xF3)).controlActs s.paired).syncAllGroups, 0) := by
    have was : (s.arbitrate rq).paired = s.paired := State.bit_congr (State.rd_congr (s.arbitrate_regs rq) _ _) _
    rw [State.writeElement_twinControl, ← was, ← State.applyTwinControl_eq]
    unfold State.writeTwinControl
    dsimp only
    rw [setWidth_ofNat_word, s.seeded_arbitrate rq, seeded, if_neg (by decide)]
  have control := (s.arbitrate rq).rd_controlWritten (value &&& 0xF3)
  rw [twice] at control
  have written := frame_controlWritten (s.arbitrate rq) (value &&& 0xF3)
  have cleared : ((s.arbitrate rq).controlWritten (value &&& 0xF3)).twin.controlPending = none := rfl
  generalize (s.arbitrate rq).controlWritten (value &&& 0xF3) = v at *
  have named : v.paired = value.getLsbD 0 := by
    unfold State.paired State.bit
    rw [control, BitVec.getLsbD_setWidth, BitVec.getLsbD_and]
    simp
  obtain ⟨pending, acted⟩ := v.controlActs_kept s.paired
  have joined := frame_syncAllGroups (v.controlActs s.paired)
  have acts : v.controlActs s.paired = if !s.paired && value.getLsbD 0 then v.becomeJoining
      else if s.paired && !value.getLsbD 0 then v.becomeSolo else v := by rw [← named]; rfl
  generalize v.controlActs s.paired = w at *
  have kept : Frame controlParams [] controlParts (s.arbitrate rq) w.syncAllGroups :=
    written.trans ((acted.weaken (by simp [controlParams]) (by simp) (by simp [controlParts])).trans
      (joined.weaken (by simp [controlParams]) (by simp) (by simp [controlParts])))
  obtain ⟨t, ht, answer, settled, -⟩ := completes_granted (c := .twinControlWrite rq value) rfl row_twinControl (by decide)
    granted effect kept (by decide)
  have after : Frame egressParams [] [.answer, .stay, .sheet, .wdp] w t :=
    (joined.weaken (by simp) (by simp) (by simp)).trans (settled.weaken (by simp) (by simp) (by simp))
  have status : t.rd P.TwinStatus 0 = w.rd P.TwinStatus 0 := after.rd (by decide) (by decide) (by decide) (by decide)
  have twin : t.twin = w.twin := after.2.twin (by decide)
  refine ⟨t, ht, answer, ?_, ?_, fun unpaired joins => ?_, fun paired leaves => ?_⟩
  · rw [after.rd (by decide) (by decide) (by decide) (by decide), acted.rd (by decide) (by decide) (by decide) (by decide), control]
  · rw [twin, pending, cleared]
  · rw [unpaired, joins, if_pos (by decide)] at acts
    have joined := joins_becomeJoining v
    rw [← acts] at joined
    exact ⟨(State.role_congr status).trans joined.role, (State.mirrorState_congr status).trans joined.mirror,
      (congrArg Twin.output twin).trans joined.output⟩
  · rw [paired, leaves, if_neg (by decide), if_pos (by decide)] at acts
    have solo := goesSolo_becomeSolo v
    rw [← acts] at solo
    exact ⟨(State.role_congr status).trans solo.role, (State.epoch_congr status).trans solo.epoch,
      (congrArg Twin.output twin).trans solo.output⟩

/-- Settles O48: the losses of a path, the changes of role and the writes that ask for one. -/
theorem twinPathsAndRoles : Obligations.TwinPathsAndRoles := by
  unfold Obligations.TwinPathsAndRoles
  refine ⟨?lost, ?standby, ?dead, ?clears, ?rests, ?atLatch, ?atOnce, ?waits, ?resend, ?grants, ?refuses, ?other, ?later, ?now⟩
  case lost =>
    rintro s path ⟨alive, role⟩
    exact completes_pathLoss path alive role
  case standby =>
    rintro s path ⟨alive, alone, standby, paired, clear⟩
    exact completes_pathLoss_standby path alive alone standby paired clear
  case dead => exact fun s path dead => completes_pathLoss_dead path dead
  case clears =>
    rintro s ⟨standby, lost⟩
    exact completes_strapConflictClear standby lost
  case rests => exact fun s h => completes_strapConflictClear_rests h
  case atLatch =>
    rintro s ⟨joins, paired, silent, clear, free, seeded⟩
    have takes : s.roleAt .active = s.setTwin { s.twin with roleAtLatch := some .active } := if_pos seeded
    exact ⟨_, completes_joinWaitExpiry joins paired silent clear free takes, State.settle_twin _,
      ((Frame.refl ..).setTwin _ (by decide)).settle⟩
  case atOnce =>
    rintro s ⟨joins, paired, silent, clear, free, unseeded⟩
    have takes : s.roleAt .active = s.becomeActive s.twin.nextRecord := if_neg (by simp [unseeded])
    have active := assumedActive_becomeActive s s.twin.nextRecord
    have status : (s.becomeActive s.twin.nextRecord).settle.rd P.TwinStatus 0 =
        (s.becomeActive s.twin.nextRecord).rd P.TwinStatus 0 := State.rd_settle _ _ _ (by decide)
    refine ⟨_, completes_joinWaitExpiry joins paired silent clear free takes, (State.role_congr status).trans active.role,
      (State.epoch_congr status).trans active.epoch, ?_⟩
    rw [State.settle_twin, active.handOver]
  case waits => exact fun s h => completes_joinWaitExpiry_rests h
  case resend => exact fun s => ⟨_, rfl, State.settle_twin _, ((Frame.refl ..).setTwin _ (by decide)).settle⟩
  case grants =>
    rintro s rq ⟨granted, active, seeded, heard, standby, inStep⟩
    exact completes_roleRequest granted active seeded heard standby inStep
  case refuses =>
    rintro s rq ⟨granted, h⟩
    exact completes_roleRequest_refused granted h
  case other =>
    rintro s rq value ⟨other, granted⟩
    exact completes_roleRequest_other other granted
  case later =>
    rintro s rq value ⟨granted, seeded⟩
    exact completes_twinControlWrite_later granted seeded
  case now =>
    rintro s rq value ⟨granted, unseeded⟩
    exact completes_twinControlWrite granted unseeded

end Sys2Proof.Machine
end

section
namespace Sys2Proof.Machine

variable {s t u : State}

/-! ### What a pennant of the partner leaves (R359, R371) -/

/-- The values that a pennant's judgement may write. -/
def judgedParams : List Nat :=
  [P.TwinStatus, P.DualActiveCount, P.HashMismatchCount, P.ResyncCount_PD027, P.ResyncProgress]

/-- The parts that it may write. -/
def judgedParts : List Part := [.twin, .cue, .bodyWrites, .transfers]

/-- The partner's role and epoch as they are shown stand, and so do the instants at which its paths were heard. -/
structure Judged (s t : State) : Prop where
  frame : Frame judgedParams [] judgedParts s t
  partner : ∀ lo n, 7 ≤ lo → lo + n ≤ 16 → t.fld P.TwinStatus 0 lo n = s.fld P.TwinStatus 0 lo n
  pennantAt : t.twin.pennantAt = s.twin.pennantAt
  stayAt : t.twin.stayAt = s.twin.stayAt

namespace Judged

theorem refl (s : State) : Judged s s := ⟨.refl .., fun _ _ _ _ => rfl, rfl, rfl⟩

theorem trans (h : Judged s t) (k : Judged t u) : Judged s u :=
  ⟨h.frame.trans k.frame, fun lo n hl hn => (k.partner lo n hl hn).trans (h.partner lo n hl hn), k.pennantAt.trans h.pennantAt,
    k.stayAt.trans h.stayAt⟩

theorem setTwin (h : Judged s t) (x : Twin) (pennant : x.pennantAt = t.twin.pennantAt) (stay : x.stayAt = t.twin.stayAt) :
    Judged s (t.setTwin x) :=
  ⟨h.frame.setTwin _ (by decide), fun lo n hl hn => (State.fld_congr rfl).trans (h.partner lo n hl hn),
    pennant.trans h.pennantAt, stay.trans h.stayAt⟩

/-- A step whose frame names neither the twin's state nor its status. -/
theorem of_frame {ps : List Nat} {fs : List Part} (h : Frame ps [] fs s t) (hps : ∀ p ∈ ps, p ∈ judgedParams)
    (hfs : ∀ f ∈ fs, f ∈ judgedParts) (status : P.TwinStatus ∉ ps) (twin : .twin ∉ fs) : Judged s t :=
  ⟨h.weaken hps (fun _ h => h) hfs,
    fun lo n _ _ => State.fld_congr (h.rd (by decide) (by decide) status List.not_mem_nil),
    congrArg Twin.pennantAt (h.2.twin twin), congrArg Twin.stayAt (h.2.twin twin)⟩

/-- A field of the status that shows nothing of the partner. -/
theorem setFld (h : Judged s t) (lo n x : Nat) (apart : lo + n ≤ 7 ∨ 16 ≤ lo) : Judged s (t.setFld P.TwinStatus 0 lo n x) :=
  ⟨h.frame.setFld _ _ _ _ _ (.inl (by decide)), fun a k ha hk =>
    (State.fld_setFld_other _ _ _ _ _ _ _ _ (by omega) (by omega)).trans (h.partner a k ha hk), h.pennantAt, h.stayAt⟩

theorem setBit (h : Judged s t) (i : Nat) (b : Bool) (apart : 16 ≤ i) : Judged s (t.setBit P.TwinStatus 0 i b) :=
  h.setFld i 1 _ (.inr apart)

theorem foldl {α : Type} {f : State → α → State} (one : ∀ t a, Judged t (f t a)) : ∀ (l : List α) (s : State),
    Judged s (l.foldl f s)
  | [], s => .refl s
  | a :: l, s => (one s a).trans (foldl one l (f s a))

theorem emit (h : Judged s t) (r : MirrorRecord) : Judged s (t.emit r) := h.setTwin _ rfl rfl

end Judged

theorem judged_event (s : State) (a b c : Nat) (x : Word) : Judged s (s.event a b c x) :=
  .of_frame (ps := []) (fs := []) ((Frame.refl ..).event _ _ _ _) (by simp) (by simp) (by decide) (by decide)

theorem judged_log (s : State) (a b c : Nat) (x y : Word) : Judged s (s.log a b c x y) :=
  .of_frame (ps := []) (fs := []) ((Frame.refl ..).log _ _ _ _ _) (by simp) (by simp) (by decide) (by decide)

theorem judged_count (s : State) {p : Nat} (e : Nat) (hp : p ∈ [P.DualActiveCount, P.HashMismatchCount, P.ResyncCount_PD027]) :
    Judged s (s.count p e) :=
  .of_frame (ps := [P.DualActiveCount, P.HashMismatchCount, P.ResyncCount_PD027]) (fs := [])
    ((Frame.refl ..).count _ _ (.inl hp)) (by decide) (by simp) (by decide) (by decide)

theorem judged_placeAtLatch (s : State) (slot : Nat) (frame : Option Nat) : Judged s (s.placeAtLatch slot frame) :=
  .of_frame (ps := []) (fs := [.bodyWrites, .transfers]) ((Frame.refl ..).placeAtLatch _ _ (by decide) (by decide)) (by simp)
    (by decide) (by decide) (by decide)

theorem judged_noteEpoch (s : State) (e : BitVec 7) : Judged s (s.noteEpoch e) := by
  obtain ⟨l, twin⟩ := s.twin_noteEpoch e
  exact ⟨(frame_noteEpoch s e _).weaken (fun _ h => h) (fun _ h => h) (by decide),
    fun _ _ _ _ => State.fld_congr (s.noteEpoch_rd e _ _), by rw [twin], by rw [twin]⟩

theorem judged_setRole (s : State) (r : Role) (e : BitVec 7) : Judged s (s.setRole r e) := by
  unfold State.setRole
  refine iteInduction (motive := Judged s) (fun _ => .refl s) fun _ => ?_
  have shown : Judged s ((s.setFld P.TwinStatus 0 24 2 r.code).setFld P.TwinStatus 0 0 7 e.toNat) :=
    ((Judged.refl s).setFld 24 2 _ (.inr (by decide))).setFld 0 7 _ (.inl (by decide))
  dsimp only
  generalize (s.setFld P.TwinStatus 0 24 2 r.code).setFld P.TwinStatus 0 0 7 e.toNat = v at *
  exact (shown.trans (judged_noteEpoch v e)).trans (judged_event ..)

theorem judged_setMirrorState (s : State) (m : MirrorState) : Judged s (s.setMirrorState m) :=
  (Judged.refl s).setFld 16 2 _ (.inr (by decide))

theorem judged_clearDual (s : State) : Judged s s.clearDual :=
  ((Judged.refl s).setBit 22 _ (by decide)).setTwin _ rfl rfl

theorem judged_goStale (s : State) : Judged s s.goStale := (judged_setMirrorState s .stale).setTwin _ rfl rfl

theorem judged_endCommits (s : State) : Judged s s.endCommits := by
  refine ((Judged.refl s).setTwin { s.twin with blobCommit := [] } rfl rfl).trans (Judged.foldl (fun t c => ?_) _ _)
  have freed : Judged t (t.setXfer c.1 { t.xfer c.1 with state := .free, result := some 0x0C }) :=
    .of_frame (ps := []) (fs := [.transfers]) ((Frame.refl ..).setXfer _ _ (by decide)) (by simp) (by decide) (by decide)
      (by decide)
  exact freed.trans (judged_event ..)

theorem Frame.cue {ps : List Nat} {es : List (Nat × Nat)} {fs : List Part} (x : Cue) (h : Frame ps es fs s t)
    (hf : .cue ∈ fs) : Frame ps es fs s { t with cue := x } :=
  h.parts rfl (by constructor <;> intros <;> first | rfl | exact ⟨rfl, rfl⟩ | contradiction)

theorem judged_of_cueOnly (h : CueOnly s t) : Judged s t := by
  obtain ⟨q, rfl⟩ := h
  exact .of_frame (ps := []) (fs := [.cue]) ((Frame.refl ..).cue q (by decide)) (by simp) (by decide) (by decide) (by decide)

theorem judged_returnCues (s : State) : Judged s s.returnCues := by
  have emptied : CueOnly s { s with cue := { s.cue with kernel := [] } } := ⟨_, rfl⟩
  exact judged_of_cueOnly (emptied.trans (cueOnly_foldl (fun t c => ⟨_, rfl⟩) _ _))

end Sys2Proof.Machine
end

section
namespace Sys2Proof.Machine

variable {s t u : State}

/-! ### The unit's role follows its partner's (R359, R371, R375) -/

theorem judged_becomeStale (s : State) : Judged s s.becomeStale := by
  unfold State.becomeStale
  extract_lets v w
  have v_eq : Judged s v := ((judged_endCommits s).trans (judged_returnCues _)).trans (judged_setRole ..)
  have w_eq : Judged v w := (judged_goStale v).trans (judged_clearDual _)
  clear_value w v
  exact (v_eq.trans w_eq).setTwin _ rfl rfl

theorem judged_becomeActive (s : State) (next : Word) : Judged s (s.becomeActive next) := by
  unfold State.becomeActive
  extract_lets shows groups v w x
  have cues : Judged s v := judged_of_cueOnly
    (cueOnly_foldl (fun t r => iteInduction (fun _ => cueOnly_cueDone ..) fun _ => .refl t) groups s)
  have took : Judged v w := judged_setRole ..
  have shown : Judged w x := judged_setMirrorState ..
  clear_value x w v
  exact ((cues.trans took).trans shown).setTwin _ rfl rfl

theorem judged_proceedAlone (s : State) : Judged s s.proceedAlone := by
  unfold State.proceedAlone
  refine Judged.trans ?_ (Judged.foldl (fun t c => ?_) _ _)
  · exact (Judged.refl s).setTwin _ rfl rfl
  · exact judged_placeAtLatch ..

theorem judged_becomeSolo (s : State) : Judged s s.becomeSolo := by
  unfold State.becomeSolo
  extract_lets v w
  have alone : Judged s v := (judged_proceedAlone s).trans (judged_setRole ..)
  have shown : Judged v w := (judged_setMirrorState ..).trans (judged_clearDual _)
  clear_value w v
  exact (alone.trans shown).setTwin _ rfl rfl

theorem judged_becomeJoining (s : State) : Judged s s.becomeJoining := by
  unfold State.becomeJoining
  extract_lets v
  have took : Judged s v := judged_setRole ..
  clear_value v
  exact (took.trans (judged_setMirrorState ..)).setTwin _ rfl rfl

theorem judged_takeRole (s : State) (r : Role) : Judged s (s.takeRole r) := by
  cases r with
  | standby => exact judged_becomeStale s
  | active => exact judged_becomeActive s _
  | solo => exact judged_becomeSolo s
  | joining => exact judged_becomeJoining s

theorem judged_roleAt (s : State) (r : Role) : Judged s (s.roleAt r) :=
  iteInduction (motive := Judged s) (fun _ => (Judged.refl s).setTwin _ rfl rfl) fun _ => judged_takeRole s r

theorem judged_dropCommits (s : State) : Judged s s.dropCommits := by
  unfold State.dropCommits
  refine Judged.foldl (fun t c => ?_) _ _
  refine Judged.trans ?_ (judged_placeAtLatch ..)
  exact (Judged.refl t).setTwin _ rfl rfl

theorem judged_emitBlob (s : State) (p : Nat) (body : List Byte) (commit : Bool) : Judged s (s.emitBlob p body commit) := by
  unfold State.emitBlob
  extract_lets v w
  have sent : Judged s w := (Judged.foldl (fun t r => (Judged.refl t).emit r) _ s).emit _
  clear_value w
  exact sent.setTwin _ rfl rfl

theorem judged_emitTime (s : State) : Judged s s.emitTime := by
  unfold State.emitTime
  extract_lets v
  have sent : Judged s v := (Judged.refl s).emit _
  clear_value v
  exact sent.setTwin _ rfl rfl

theorem judged_startResync (s : State) : Judged s s.startResync := by
  unfold State.startResync
  extract_lets k blobs x a b c d e f g y h i
  have ab : Judged s a := (Judged.refl s).setTwin _ rfl rfl
  have bb : Judged a b := .of_frame (ps := [P.ResyncProgress]) (fs := []) ((Frame.refl ..).wr _ _ _ (.inl (by decide)))
    (by decide) (by simp) (by decide) (by decide)
  have cb : Judged b c := (Judged.refl b).emit _
  have db : Judged c d := .foldl (fun t r => (Judged.refl t).emit r) _ _
  have eb : Judged d e := .foldl (fun t p => judged_emitBlob t p _ _) _ _
  have fb : Judged e f := .foldl (fun t p => (Judged.refl t).emit _) _ _
  have gb : Judged f g := .foldl (fun t p => (Judged.refl t).emit _) _ _
  have yb : Judged g y := judged_emitTime g
  have hb : Judged y h := (Judged.refl y).emit _
  have ib : Judged h i := .foldl (fun t c => judged_emitBlob t _ _ _) _ _
  clear_value i h y g f e d c b a
  exact (((((((((ab.trans bb).trans cb).trans db).trans eb).trans fb).trans gb).trans yb).trans hb).trans ib).trans
    (judged_count i 0 (by decide))

theorem judged_watchStandby (s : State) (h : PennantHead) (wasStale : Bool) : Judged s (s.watchStandby h wasStale) := by
  unfold State.watchStandby
  refine iteInduction (motive := Judged s) (fun _ => (Judged.refl s).setTwin _ rfl rfl) fun _ =>
    iteInduction (motive := Judged s) (fun _ => ?_) fun _ =>
      iteInduction (motive := Judged s) (fun _ => (Judged.refl s).setTwin _ rfl rfl) fun _ => .refl s
  exact iteInduction (motive := Judged s) (fun _ => (judged_dropCommits s).trans (judged_startResync _)) fun _ => .refl s

theorem judged_bothActive (s : State) (h : PennantHead) (run : Nat) : Judged s (s.bothActive h run) := by
  unfold State.bothActive
  extract_lets _ v _ w
  have counted : Judged s v := iteInduction (motive := Judged s) (fun _ => .refl s)
    fun _ => (judged_count s 0 (by decide)).setTwin _ rfl rfl
  have shown : Judged v w := ((Judged.refl v).setBit 22 _ (by decide)).setTwin _ rfl rfl
  clear_value w v
  exact iteInduction (motive := Judged s) (fun _ => (counted.trans shown).trans (judged_roleAt ..))
    fun _ => counted.trans shown

theorem judged_judgePartner (s : State) (h : PennantHead) (run : Nat) (wasStale : Bool) :
    Judged s (s.judgePartner h run wasStale) := by
  unfold State.judgePartner
  split
  · refine iteInduction (motive := Judged s) (fun _ => .refl s) fun _ => ?_
    split
    · exact judged_becomeStale s
    · exact judged_becomeStale s
    · exact iteInduction (motive := Judged s) (fun _ => judged_becomeStale s) fun _ => judged_roleAt ..
    · exact .refl s
  · exact iteInduction (motive := Judged s) (fun _ => judged_bothActive ..)
      fun _ => (judged_clearDual s).trans (judged_watchStandby ..)
  · exact .refl s

theorem judged_holdMirror (s : State) : Judged s s.holdMirror := by
  unfold State.holdMirror
  dsimp only
  refine iteInduction (motive := Judged s) (fun _ => .refl s) fun _ => iteInduction (motive := Judged s) (fun _ => ?_)
    fun _ => iteInduction (motive := Judged s) (fun _ => ?_) fun _ => .refl s
  · exact ((Judged.refl s).setTwin { s.twin with resyncHeld := true } rfl rfl).setFld 16 2 _ (.inr (by decide))
  · exact ((Judged.refl s).setTwin { s.twin with resyncHeld := false } rfl rfl).setFld 16 2 _ (.inr (by decide))

theorem judged_compareHash (s : State) (h : PennantHead) : Judged s (s.compareHash h) := by
  unfold State.compareHash
  extract_lets inStep second v
  refine iteInduction (motive := Judged s) (fun _ => ?_) fun _ => .refl s
  have counted : Judged s v := judged_count s 0 (by decide)
  clear_value v
  exact iteInduction (motive := Judged s) (fun _ => counted)
    fun _ => (counted.trans (judged_log ..)).setTwin _ (by rw [State.log_twin]) (by rw [State.log_twin])

theorem judged_adoptEpoch (s : State) (e : BitVec 7) : Judged s (s.adoptEpoch e) := by
  unfold State.adoptEpoch
  dsimp only
  split
  · exact (judged_noteEpoch s e).trans (judged_setRole ..)
  · exact (judged_noteEpoch s e).trans (judged_setRole ..)
  · exact judged_noteEpoch s e

/-! ### A valid pennant of the partner -/

/-- What a valid pennant leaves: its path was heard now, it counts, and the partner's role and epoch are shown. -/
structure PartnerHeard (path : Nat) (h : PennantHead) (s t : State) : Prop where
  count : t.rd P.PennantCount 0 = s.rd P.PennantCount 0 + 1
  role : t.fld P.TwinStatus 0 14 2 = h.role.code
  epoch : t.fld P.TwinStatus 0 7 7 = h.epoch.toNat
  pennantAt : path = 0 → t.twin.pennantAt = some s.clock
  stayAt : path ≠ 0 → t.twin.stayAt = some s.clock
  frame : Frame (P.PennantCount :: judgedParams) [] judgedParts s t

theorem PartnerHeard.judged {path : Nat} {h : PennantHead} (heard : PartnerHeard path h s t) (j : Judged t u) :
    PartnerHeard path h s u :=
  ⟨(j.frame.rd (by decide) (by decide) (by decide) List.not_mem_nil).trans heard.count,
    (j.partner 14 2 (by decide) (by decide)).trans heard.role, (j.partner 7 7 (by decide) (by decide)).trans heard.epoch,
    fun hp => j.pennantAt.trans (heard.pennantAt hp), fun hp => j.stayAt.trans (heard.stayAt hp),
    heard.frame.trans (j.frame.weaken (by simp) (by simp) (fun _ h => h))⟩

/-- The path that brought the pennant was heard now. -/
structure PathHeardNow (path : Nat) (s t : State) : Prop where
  pennantAt : path = 0 → t.twin.pennantAt = some s.clock
  stayAt : path ≠ 0 → t.twin.stayAt = some s.clock
  frame : Frame [P.TwinStatus] [] [.twin] s t

/-- A path that its third interval makes alive again, and the flags that follow. -/
theorem pathHeardNow_flags {path : Nat} (h : PathHeardNow path s t) (alive : Bool) (i : Nat) :
    PathHeardNow path s ((if alive then t.setBit P.TwinStatus 0 i true else t).pathFlags) := by
  let v := if alive then t.setBit P.TwinStatus 0 i true else t
  have shown : Frame [P.TwinStatus] [] [.twin] s v :=
    iteInduction (motive := Frame [P.TwinStatus] [] [.twin] s) (fun _ => h.frame.setBit _ _ _ _ (.inl (by decide)))
      fun _ => h.frame
  have twin : v.twin = t.twin := iteInduction (motive := fun x : State => x.twin = t.twin) (fun _ => rfl) fun _ => rfl
  have flags := flagsFollow_pathFlags v
  exact ⟨fun hp => (congrArg Twin.pennantAt (flags.twin)).trans ((congrArg Twin.pennantAt twin).trans (h.pennantAt hp)),
    fun hp => (congrArg Twin.stayAt (flags.twin)).trans ((congrArg Twin.stayAt twin).trans (h.stayAt hp)),
    shown.trans flags.frame⟩

theorem pathHeardNow_pathHeard (s : State) (path : Nat) (seq : Word) : PathHeardNow path s (s.pathHeard path seq) := by
  unfold State.pathHeard
  extract_lets t run v run' v'
  split
  · next hp =>
    have noted : PathHeardNow path s v := ⟨fun _ => rfl, fun other => absurd hp other, (Frame.refl ..).setTwin _ (by decide)⟩
    have flags := pathHeardNow_flags noted (decide (run ≥ 3)) 18
    simpa using flags
  · next hp =>
    have noted : PathHeardNow path s v' := ⟨fun own => absurd own hp, fun _ => rfl, (Frame.refl ..).setTwin _ (by decide)⟩
    have flags := pathHeardNow_flags noted (decide (run' ≥ 3)) 19
    simpa using flags

theorem partnerHeard_hearPartner (s : State) (path : Nat) (h : PennantHead) : PartnerHeard path h s (s.hearPartner path h) := by
  unfold State.hearPartner
  have counted := State.rd_traffic_same s P.PennantCount 0 1
  have clock : (s.traffic P.PennantCount 0 1).clock = s.clock := rfl
  have traffic : Frame (P.PennantCount :: judgedParams) [] judgedParts s (s.traffic P.PennantCount 0 1) :=
    (Frame.refl ..).traffic _ _ _ (.inl (by decide))
  extract_lets v w x ahead tw run wasStale y z
  have now : PathHeardNow path (s.traffic P.PennantCount 0 1) v := pathHeardNow_pathHeard ..
  generalize s.traffic P.PennantCount 0 1 = c at *
  have count : v.rd P.PennantCount 0 = c.rd P.PennantCount 0 := now.frame.rd (by decide) (by decide) (by decide) List.not_mem_nil
  have role : w.fld P.TwinStatus 0 14 2 = h.role.code :=
    (State.fld_setFld_other _ _ _ _ _ _ _ _ (.inr (by decide)) (by decide)).trans
      ((State.fld_setFld_same _ _ _ _ _ _ (by decide)).trans h.role.code_lt)
  have epoch : w.fld P.TwinStatus 0 7 7 = h.epoch.toNat :=
    (State.fld_setFld_same _ _ _ _ _ _ (by decide)).trans (Nat.mod_eq_of_lt h.epoch.isLt)
  have kept : w.rd P.PennantCount 0 = v.rd P.PennantCount 0 :=
    (State.rd_setFld_param _ _ _ _ _ _ _ _ (by decide)).trans (State.rd_setFld_param _ _ _ _ _ _ _ _ (by decide))
  have shown : Frame judgedParams [] judgedParts v w :=
    ((Frame.refl ..).setFld _ _ _ _ _ (.inl (by decide))).setFld _ _ _ _ _ (.inl (by decide))
  have twin : w.twin = v.twin := rfl
  have adopted : Judged w x := judged_adoptEpoch w h.epoch
  have heard : PartnerHeard path h s w := by
    refine ⟨kept.trans (count.trans counted), role, epoch, fun hp => ?_, fun hp => ?_, ?_⟩
    · rw [twin, now.pennantAt hp, clock]
    · rw [twin, now.stayAt hp, clock]
    · exact traffic.trans ((now.frame.weaken (by simp [judgedParams]) (by simp) (by simp [judgedParts])).trans
        (shown.weaken (by simp) (by simp) (fun _ h => h)))
  have noted : Judged x y := (Judged.refl x).setTwin _ rfl rfl
  have judged : Judged y z := (judged_judgePartner ..).trans (judged_holdMirror _)
  clear_value z y x w v
  refine heard.judged (iteInduction (motive := Judged w) (fun _ => adopted) fun _ => ?_)
  exact iteInduction (motive := Judged w) (fun _ => (adopted.trans noted).trans judged)
    fun _ => ((adopted.trans noted).trans judged).trans (judged_compareHash ..)

end Sys2Proof.Machine
end

section
namespace Sys2Proof.Machine

variable {s t u : State}

/-! ### The burst sent (R360 to R362) -/

/-- A frame on a stay port's priority queue is served before every other. -/
theorem State.stayServe_of_priority {p : Nat} {x : Egress} {xs : List Egress} (h : (s.stayPort p).priority = x :: xs) :
    s.stayServe p = if (s.stayPort p).sending.isSome || !s.stayUp p then s
      else s.setStayPort p { s.stayPort p with sending := some x, priority := xs } := by
  unfold State.stayServe
  have waiting : (s.stayPort p).priority.isEmpty = false := by rw [h]; rfl
  simp only [waiting, Bool.false_eq_true, if_false]
  rw [h]

theorem frame_sendPriority (s : State) (p : Nat) (x : Egress) : Frame egressParams [] [.stay, .wdp] s (s.sendPriority p x) := by
  unfold State.sendPriority
  refine iteInduction (motive := Frame egressParams [] [.stay, .wdp] s) (fun _ => (Frame.refl ..).count _ _ (.inl (by decide)))
    fun _ => ?_
  have queued : Frame egressParams [] [.stay, .wdp] s
      (s.setStayPort p { s.stayPort p with priority := (s.stayPort p).priority ++ [x] }) :=
    (Frame.refl ..).setStayPort _ _ (by decide)
  have waits : ((s.setStayPort p { s.stayPort p with priority := (s.stayPort p).priority ++ [x] }).stayPort p).priority =
      (s.stayPort p).priority ++ [x] := by rw [State.stayPort_setStayPort, if_pos rfl]
  generalize s.setStayPort p { s.stayPort p with priority := (s.stayPort p).priority ++ [x] } = v at *
  obtain ⟨y, ys, split⟩ := List.exists_cons_of_ne_nil (List.concat_ne_nil x (s.stayPort p).priority)
  rw [State.stayServe_of_priority (waits.trans split)]
  exact iteInduction (motive := Frame egressParams [] [.stay, .wdp] s) (fun _ => queued)
    fun _ => queued.setStayPort _ _ (by decide)

/-- The bytes of a burst: preamble, what it carries, and the check of that. -/
def pennantBurst (body : List Byte) : List Byte :=
  List.replicate 7 (0x55 : Byte) ++ [0xD5] ++ body ++ beBytes 4 (crc32 body).toNat

theorem pennantBurst_check (body : List Byte) : (pennantBurst body).drop ((pennantBurst body).length - 4) =
    beBytes 4 (crc32 (((pennantBurst body).drop 8).take ((pennantBurst body).length - 12))).toNat := by
  have check : (beBytes 4 (crc32 body).toNat).length = 4 := beBytes_length ..
  have length : (pennantBurst body).length = 8 + body.length + 4 := by
    unfold pennantBurst
    simp only [List.length_append, List.length_replicate, List.length_singleton, check]
  have body_eq : ((pennantBurst body).drop 8).take ((pennantBurst body).length - 12) = body := by
    rw [length]
    unfold pennantBurst
    rw [List.append_assoc, List.drop_left' (by simp), List.take_left' (by omega)]
  rw [body_eq, length]
  exact List.drop_left' (by simp; omega)

theorem pennantBurst_magic (rest : List Byte) :
    (pennantBurst (0x50 :: 0x44 :: rest)).take 10 = List.replicate 7 0x55 ++ [0xD5, 0x50, 0x44] := rfl

/-- A header begins with the magic number. -/
theorem State.pennantHeader_magic (s : State) (kind count : Nat) (next : Word) :
    ∃ rest, s.pennantHeader kind count next = 0x50 :: 0x44 :: rest := by
  have magic : beBytes 2 0x5044 = [0x50, 0x44] := by decide
  unfold State.pennantHeader
  rw [magic]
  simp only [List.append_assoc, List.cons_append]
  exact ⟨_, rfl⟩

/-- What sending a burst leaves. -/
structure BurstSent (s t : State) : Prop where
  sequence : t.twin.sequence = s.twin.sequence + 1
  burst : ∃ rest, t.twin.lastBurst = pennantBurst (0x50 :: 0x44 :: rest)
  twin : ∃ q n b, t.twin = { s.twin with sequence := q, sent := n, lastBurst := b }
  frame : Frame (P.MirrorRecordCount :: P.ResyncProgress :: egressParams) [] [.twin, .stay, .wdp] s t

theorem burstSent_sendPennant (s : State) : BurstSent s s.sendPennant := by
  unfold State.sendPennant
  extract_lets t rs next body burst stayHead stayMsg a b sentBytes c
  have magic : ∃ rest, burst = pennantBurst (0x50 :: 0x44 :: rest) := by
    obtain ⟨rest, head⟩ := s.pennantHeader_magic 0 rs.length next
    refine ⟨rest ++ rs.flatMap fun x => x.2.bytes, congrArg pennantBurst ?_⟩
    exact congrArg (· ++ rs.flatMap fun x => x.2.bytes) head
  have first : Frame (P.MirrorRecordCount :: P.ResyncProgress :: egressParams) [] [.twin, .stay, .wdp] s a :=
    (Frame.refl ..).setTwin _ (by decide)
  have counted : Frame (P.MirrorRecordCount :: P.ResyncProgress :: egressParams) [] [.stay, .wdp] a b :=
    iteInduction (motive := Frame (P.MirrorRecordCount :: P.ResyncProgress :: egressParams) [] [.stay, .wdp] a)
      (fun _ => .refl ..) fun _ => (Frame.refl ..).traffic _ _ _ (.inl (by decide))
  have progress : Frame (P.MirrorRecordCount :: P.ResyncProgress :: egressParams) [] [.stay, .wdp] b c :=
    iteInduction (motive := Frame (P.MirrorRecordCount :: P.ResyncProgress :: egressParams) [] [.stay, .wdp] b)
      (fun _ => (Frame.refl ..).wr _ _ _ (.inl (by decide))) fun _ => .refl ..
  have twin : a.twin = { s.twin with sequence := t.sequence + 1, sent := t.sent + rs.length, lastBurst := burst } := rfl
  clear_value c b a
  have sent : ∀ v : State, (v = c ∨ v = (List.range 4).foldl (fun s p =>
      if s.bit P.TwinControl 0 (4 + p) && s.stayEnabled p then
        s.sendPriority p { frame := .stayPennant stayMsg, len := s.stayUdpLen p (isV6 s.pennantGroup) 48,
                            net := some (s.stayGroupHead p s.pennantGroup 49232) }
      else s) c) → Frame (P.MirrorRecordCount :: P.ResyncProgress :: egressParams) [] [.stay, .wdp] a v := by
    rintro v (rfl | rfl)
    · exact counted.trans progress
    · refine (counted.trans progress).foldl _ (fun u p => ?_) _
      exact iteInduction (motive := Frame _ [] [.stay, .wdp] u)
        (fun _ => (frame_sendPriority ..).weaken (by simp) (by simp) (by simp)) fun _ => .refl ..
  have whole : ∀ v, Frame (P.MirrorRecordCount :: P.ResyncProgress :: egressParams) [] [.stay, .wdp] a v → BurstSent s v := by
    intro v after
    have kept : v.twin = a.twin := after.2.twin (by decide)
    obtain ⟨rest, own⟩ := magic
    exact ⟨(congrArg Twin.sequence (kept.trans twin)), ⟨rest, (congrArg Twin.lastBurst (kept.trans twin)).trans own⟩,
      ⟨_, _, _, kept.trans twin⟩, first.trans (after.weaken (by simp) (by simp) (by simp))⟩
  split
  · exact whole _ (sent _ (.inr rfl))
  · exact whole _ (sent _ (.inl rfl))

/-- Of the twin's state only what a Time record writes has changed. -/
structure TimeKept (s t : State) : Prop where
  twin : ∃ l n x, t.twin = { s.twin with unacked := l, nextRecord := n, timeSent := x }
  frame : Frame [] [] [.twin] s t

theorem timeKept_emitTime (s : State) : TimeKept s s.emitTime :=
  ⟨⟨_, _, _, rfl⟩, ((Frame.refl ..).setTwin _ (by decide)).setTwin _ (by decide)⟩

theorem timeKept_keepTime (s : State) : TimeKept s s.keepTime := by
  have rests : TimeKept s s := ⟨⟨_, _, _, rfl⟩, .refl ..⟩
  unfold State.keepTime
  refine iteInduction (motive := TimeKept s) (fun _ => ?_) fun _ => rests
  split
  · exact iteInduction (motive := TimeKept s) (fun _ => timeKept_emitTime s) fun _ => rests
  · exact timeKept_emitTime s

theorem completes_pennantBurstStart (active : s.stayActive = true) (paired : s.paired = true)
    (own : s.now.driven.contains 8 = false) :
    Completes .pennantBurstStart s fun t => t.twin.sequence = s.twin.sequence + 1 ∧
      t.twin.lastBurst.take 10 = List.replicate 7 0x55 ++ [0xD5, 0x50, 0x44] ∧
      t.twin.lastBurst.drop (t.twin.lastBurst.length - 4) = beBytes 4
        (crc32 ((t.twin.lastBurst.drop 8).take (t.twin.lastBurst.length - 12))).toNat ∧
      t.twin = { s.twin with sequence := t.twin.sequence, sent := t.twin.sent, lastBurst := t.twin.lastBurst,
                             unacked := t.twin.unacked, nextRecord := t.twin.nextRecord, timeSent := t.twin.timeSent } ∧
      Frame (P.MirrorRecordCount :: P.ResyncProgress :: egressParams) [] [.twin, .stay, .wdp] s t := by
  obtain ⟨n, hn⟩ := State.ownCommand_of_not_driven (act := State.heartbeat) own
  have beats : ({ s with now := n } : State).heartbeat = ({ s with now := n } : State).keepTime.sendPennant :=
    if_pos (Bool.and_eq_true_iff.mpr ⟨active, paired⟩)
  have noted : Frame [] [] [.twin] s { s with now := n } := (Frame.refl ..).now n
  have twin : ({ s with now := n } : State).twin = s.twin := rfl
  have act : exec .pennantBurstStart s = done ({ s with now := n } : State).keepTime.sendPennant :=
    congrArg done (hn.trans beats)
  generalize ({ s with now := n } : State) = v at *
  have timed := timeKept_keepTime v
  generalize v.keepTime = w at *
  have sent := burstSent_sendPennant w
  generalize w.sendPennant = x at *
  obtain ⟨l, m, time, kept⟩ := timed.twin
  obtain ⟨q, k, b, burst⟩ := sent.twin
  obtain ⟨rest, bytes⟩ := sent.burst
  refine ⟨_, act, ?_, ?_, ?_, ?_, ?_⟩
  · rw [State.settle_twin, sent.sequence, kept, twin]
  · rw [State.settle_twin, bytes]
    exact pennantBurst_magic rest
  · rw [State.settle_twin, bytes]
    exact pennantBurst_check _
  · rw [State.settle_twin, burst, kept, twin]
  · exact ((noted.trans timed.frame).weaken (by simp) (by simp) (by simp)).trans sent.frame |>.settle

theorem completes_pennantBurstStart_rests
    (h : s.stayActive = false ∨ s.paired = false ∨ s.now.driven.contains 8 = true) :
    Completes .pennantBurstStart s fun t => Frame [] [] [] s t := by
  refine ⟨_, rfl, (frame_ownCommand_of_idle ?_).settle⟩
  rcases h with idle | alone | driven
  · exact .inr fun n => if_neg (by simp [show ({ s with now := n } : State).stayActive = false from idle])
  · exact .inr fun n => if_neg (by simp [show ({ s with now := n } : State).paired = false from alone])
  · exact .inl driven

end Sys2Proof.Machine
end

section
namespace Sys2Proof.Machine

variable {s t u : State}

/-! ### Bursts received (R363, R364) -/

/-- What a burst carries between preamble and check. -/
def burstBody (bytes : List Byte) : List Byte := (bytes.drop 8).take (bytes.length - 12)

theorem exec_pennantBurstReceived {bytes : List Byte} (active : s.stayActive = true) (paired : s.paired = true) :
    exec (.pennantBurstReceived bytes) s = done (s.takeBurst bytes) :=
  if_pos (Bool.and_eq_true_iff.mpr ⟨active, paired⟩)

theorem completes_pennantBurstReceived_bad {bytes : List Byte} (active : s.stayActive = true) (paired : s.paired = true)
    (bad : bytes.length < 44 ∨ beBytes 4 (crc32 (burstBody bytes)).toNat ≠ bytes.drop (bytes.length - 4)) :
    Completes (.pennantBurstReceived bytes) s fun t =>
      (s.rdN P.PennantCrcErrorCount 0 < 0xFFFFFFFE →
        t.rdN P.PennantCrcErrorCount 0 = s.rdN P.PennantCrcErrorCount 0 + 1) ∧
      Frame [] [(P.PennantCrcErrorCount, 0)] [.wdp] s t := by
  have takes : s.takeBurst bytes = s.count P.PennantCrcErrorCount 0 := if_pos bad
  refine ⟨_, (exec_pennantBurstReceived active paired).trans (congrArg done takes), fun below => ?_,
    ((Frame.refl ..).count _ _ (by decide)).settle⟩
  rw [State.rdN, State.rd_settle _ _ _ (by decide)]
  exact s.rdN_countBy_lt (by decide) (by omega)

theorem State.takeBurst_good {bytes : List Byte} {h : PennantHead} (long : 44 ≤ bytes.length)
    (check : beBytes 4 (crc32 (burstBody bytes)).toNat = bytes.drop (bytes.length - 4))
    (head : parsePennant 0 (burstBody bytes) = some h) :
    s.takeBurst bytes = (s.takePennant 0 h).takeMirror h (parseMirror h.count ((burstBody bytes).drop 32)) := by
  have good : ¬(bytes.length < 44 ∨ beBytes 4 (crc32 (burstBody bytes)).toNat ≠ bytes.drop (bytes.length - 4)) :=
    fun bad => bad.elim (by omega) (· check)
  unfold burstBody at *
  unfold State.takeBurst
  dsimp only
  rw [if_neg good, head]

/-- A strap conflict is counted and shown. -/
structure StrapShown (s t : State) : Prop where
  counts : s.rdN P.StrapConflictCount 0 < 0xFFFFFFFE → t.rdN P.StrapConflictCount 0 = s.rdN P.StrapConflictCount 0 + 1
  shown : t.bit P.TwinStatus 0 23 = true
  twin : t.twin = s.twin
  unit : t.power = s.power
  frame : Frame [] [(P.StrapConflictCount, 0), (P.TwinStatus, 0)] [.wdp] s t

theorem strapShown_strapConflict (s : State) (role : Nat) : StrapShown s (s.strapConflict role) := by
  unfold State.strapConflict
  extract_lets first v
  have counts : s.rdN P.StrapConflictCount 0 < 0xFFFFFFFE → v.rdN P.StrapConflictCount 0 = s.rdN P.StrapConflictCount 0 + 1 := by
    intro below
    have same : v.rd P.StrapConflictCount 0 = (s.count P.StrapConflictCount 0).rd P.StrapConflictCount 0 :=
      State.rd_setBit_param _ P.TwinStatus 0 23 P.StrapConflictCount 0 true (by decide)
    exact (congrArg BitVec.toNat same).trans (s.rdN_countBy_lt (by decide) (by omega))
  have shown : v.bit P.TwinStatus 0 23 = true := (State.bit_setBit _ _ _ _ _ _ (by decide)).trans (if_pos rfl)
  have frame : Frame [] [(P.StrapConflictCount, 0), (P.TwinStatus, 0)] [] s v :=
    ((Frame.refl ..).count _ _ (by decide)).setBit _ _ _ _ (by decide)
  clear_value v
  have conflict : StrapShown s v := ⟨counts, shown, frame.2.twin (by decide), frame.2.power (by decide),
    frame.weaken (by simp) (by simp) (by simp)⟩
  refine iteInduction (motive := StrapShown s) (fun _ => ?_) fun _ => conflict
  have same : ∀ p, p ∉ housekeeping →
      ((v.log 0x1D 0x0053 role 0 0).event Ev.twinRole P.TwinStatus 0 0).rd p 0 = v.rd p 0 := fun p hp => by
    rw [State.rd_event _ _ _ _ _ _ _ hp, State.rd_log _ _ _ _ _ _ _ _ hp]
  have logged := (frame.log 0x1D 0x0053 role 0 0).event Ev.twinRole P.TwinStatus 0 0
  generalize (v.log 0x1D 0x0053 role 0 0).event Ev.twinRole P.TwinStatus 0 0 = w at *
  exact ⟨fun below => (congrArg BitVec.toNat (same _ (by decide))).trans (counts below),
    (State.bit_congr (same _ (by decide)) _).trans shown, logged.2.twin (by decide), logged.2.power (by decide),
    logged.weaken (by simp) (by simp) (by simp)⟩

theorem completes_pennantBurstReceived_own {bytes : List Byte} {h : PennantHead} (active : s.stayActive = true)
    (paired : s.paired = true) (long : 44 ≤ bytes.length)
    (check : beBytes 4 (crc32 (burstBody bytes)).toNat = bytes.drop (bytes.length - 4))
    (head : parsePennant 0 (burstBody bytes) = some h) (own : h.unitB = s.unitB) :
    Completes (.pennantBurstReceived bytes) s fun t =>
      (s.rdN P.StrapConflictCount 0 < 0xFFFFFFFE → t.rdN P.StrapConflictCount 0 = s.rdN P.StrapConflictCount 0 + 1) ∧
      t.bit P.TwinStatus 0 23 = true ∧ t.twin = s.twin ∧
      Frame [] [(P.StrapConflictCount, 0), (P.TwinStatus, 0)] [.wdp] s t := by
  have strap := strapShown_strapConflict s h.role.code
  have unit : (s.strapConflict h.role.code).unitB = s.unitB := congrArg (fun x : Power => x.straps.unitB) strap.unit
  have takes : s.takeBurst bytes = s.strapConflict h.role.code := by
    have pennant : s.takePennant 0 h = s.strapConflict h.role.code := if_pos (by rw [own]; exact beq_self_eq_true _)
    rw [State.takeBurst_good long check head, pennant]
    exact if_pos (by rw [own, unit]; exact beq_self_eq_true _)
  generalize s.strapConflict h.role.code = v at *
  have settled : ∀ p, p ∉ housekeeping → v.settle.rd p 0 = v.rd p 0 := fun p hp => State.rd_settle _ _ _ hp
  exact ⟨_, (exec_pennantBurstReceived active paired).trans (congrArg done takes),
    fun below => (congrArg BitVec.toNat (settled _ (by decide))).trans (strap.counts below),
    (State.bit_congr (settled _ (by decide)) _).trans strap.shown, (State.settle_twin v).trans strap.twin, strap.frame.settle⟩

/-- A pennant without records acknowledges alone. -/
theorem judged_takeMirror (s : State) (h : PennantHead) : Judged s (s.takeMirror h []) := by
  unfold State.takeMirror
  dsimp only
  refine iteInduction (motive := Judged s) (fun _ => .refl s) fun _ => iteInduction (motive := Judged s) (fun _ => .refl s)
    fun _ => ?_
  have acknowledged : Judged s (s.takeAck h.ack) := (Judged.refl s).setTwin _ rfl rfl
  generalize s.takeAck h.ack = v at *
  exact iteInduction (motive := Judged s) (fun _ => acknowledged) fun _ => acknowledged

theorem partnerHeard_takePennant {path : Nat} {h : PennantHead} (other : h.unitB ≠ s.unitB) :
    PartnerHeard path h s ((s.takePennant path h).takeMirror h []) := by
  have hears : s.takePennant path h = s.hearPartner path h := if_neg (by simpa using other)
  rw [hears]
  exact (partnerHeard_hearPartner s path h).judged (judged_takeMirror ..)

/-- What a command leaves whose end hears the partner. -/
theorem PartnerHeard.settled {path : Nat} {h : PennantHead} (heard : PartnerHeard path h s t) :
    t.settle.rd P.PennantCount 0 = s.rd P.PennantCount 0 + 1 ∧ t.settle.fld P.TwinStatus 0 14 2 = h.role.code ∧
    t.settle.fld P.TwinStatus 0 7 7 = h.epoch.toNat ∧
    Frame (P.TwinStatus :: P.PennantCount :: P.DualActiveCount :: P.HashMismatchCount :: P.ResyncCount_PD027 ::
      P.ResyncProgress :: P.MirrorRecordCount :: P.SplitWriteCount :: egressParams) []
      [.twin, .cue, .bodyWrites, .transfers, .wdp, .stay] s t.settle :=
  have same : ∀ p, p ∉ housekeeping → t.settle.rd p 0 = t.rd p 0 := fun p hp => State.rd_settle _ _ _ hp
  ⟨(same _ (by decide)).trans heard.count, (State.fld_congr (same _ (by decide))).trans heard.role,
    (State.fld_congr (same _ (by decide))).trans heard.epoch,
    (heard.frame.weaken (by simp [judgedParams]) (by simp) (by simp [judgedParts])).settle⟩

theorem completes_pennantBurstReceived {bytes : List Byte} {h : PennantHead} (active : s.stayActive = true)
    (paired : s.paired = true) (long : 44 ≤ bytes.length)
    (check : beBytes 4 (crc32 (burstBody bytes)).toNat = bytes.drop (bytes.length - 4))
    (head : parsePennant 0 (burstBody bytes) = some h) (other : h.unitB ≠ s.unitB) (bare : h.count = 0) :
    Completes (.pennantBurstReceived bytes) s fun t => t.rd P.PennantCount 0 = s.rd P.PennantCount 0 + 1 ∧
      t.fld P.TwinStatus 0 14 2 = h.role.code ∧ t.fld P.TwinStatus 0 7 7 = h.epoch.toNat ∧
      t.twin.pennantAt = some s.clock ∧
      Frame (P.TwinStatus :: P.PennantCount :: P.DualActiveCount :: P.HashMismatchCount :: P.ResyncCount_PD027 ::
        P.ResyncProgress :: P.MirrorRecordCount :: P.SplitWriteCount :: egressParams) []
        [.twin, .cue, .bodyWrites, .transfers, .wdp, .stay] s t := by
  have takes := State.takeBurst_good (s := s) long check head
  rw [bare] at takes
  have heard : PartnerHeard 0 h s (s.takeBurst bytes) := takes ▸ partnerHeard_takePennant other
  obtain ⟨count, role, epoch, frame⟩ := heard.settled
  exact ⟨_, exec_pennantBurstReceived active paired, count, role, epoch,
    (congrArg Twin.pennantAt (State.settle_twin _)).trans (heard.pennantAt rfl), frame⟩

theorem completes_pennantBurstReceived_rests (bytes : List Byte) (h : s.stayActive = false ∨ s.paired = false) :
    Completes (.pennantBurstReceived bytes) s fun t => Frame [] [] [] s t :=
  ⟨_, if_neg (by rcases h with h | h <;> simp [h]), (Frame.refl ..).settle⟩

/-! ### Stay pennants received (R362) -/

theorem exec_stayPennantReceived {port : Fin 4} {bytes : List Byte} (active : s.stayActive = true)
    (enabled : s.stayEnabled port = true) (paired : s.paired = true) (used : s.bit P.TwinControl 0 1 = true) :
    exec (.stayPennantReceived port bytes) s = done ((s.releaseRx port .pennant).takeStayPennant bytes) := by
  have kept : (s.releaseRx port .pennant).paired = s.paired := rfl
  have uses : (s.releaseRx port .pennant).bit P.TwinControl 0 1 = s.bit P.TwinControl 0 1 := rfl
  have act : exec (.stayPennantReceived port bytes) s =
      if (s.releaseRx port .pennant).paired && (s.releaseRx port .pennant).bit P.TwinControl 0 1 then
        done ((s.releaseRx port .pennant).takeStayPennant bytes) else done (s.releaseRx port .pennant) :=
    if_neg (by simp [active, enabled])
  rw [act, kept, uses, paired, used]
  rfl

theorem completes_stayPennantReceived_bad {port : Fin 4} {bytes : List Byte} (active : s.stayActive = true)
    (enabled : s.stayEnabled port = true) (paired : s.paired = true) (used : s.bit P.TwinControl 0 1 = true)
    (bad : bytes.length ≠ 48 ∨ (hmac (s.blob P.PairKey) (bytes.take 32)).take 16 ≠ bytes.drop 32) :
    Completes (.stayPennantReceived port bytes) s fun t =>
      (s.rdN P.StayTagFailCount 0 < 0xFFFFFFFE → t.rdN P.StayTagFailCount 0 = s.rdN P.StayTagFailCount 0 + 1) ∧
      t.twin = s.twin ∧ Frame [] [(P.StayTagFailCount, 0)] [.stay, .wdp] s t := by
  have key : (s.releaseRx port .pennant).blob P.PairKey = s.blob P.PairKey := rfl
  have count : (s.releaseRx port .pennant).rdN P.StayTagFailCount 0 = s.rdN P.StayTagFailCount 0 := rfl
  have released : Frame [] [(P.StayTagFailCount, 0)] [.stay] s (s.releaseRx port .pennant) :=
    (Frame.refl ..).setStayPort _ _ (by decide)
  have act := exec_stayPennantReceived (bytes := bytes) active enabled paired used
  generalize s.releaseRx port .pennant = v at *
  have takes : v.takeStayPennant bytes = v.count P.StayTagFailCount 0 := if_pos (by rw [key]; exact bad)
  have counted : Frame [] [(P.StayTagFailCount, 0)] [.stay] s (v.count P.StayTagFailCount 0).settle :=
    (released.count _ _ (by decide)).settle
  refine ⟨_, act.trans (congrArg done takes), fun below => ?_, counted.2.twin (by decide),
    counted.weaken (by simp) (by simp) (by simp)⟩
  rw [← count] at below ⊢
  rw [State.rdN, State.rd_settle _ _ _ (by decide)]
  exact v.rdN_countBy_lt (by decide) (by omega)

theorem completes_stayPennantReceived {port : Fin 4} {bytes : List Byte} {h : PennantHead} (active : s.stayActive = true)
    (enabled : s.stayEnabled port = true) (paired : s.paired = true) (used : s.bit P.TwinControl 0 1 = true)
    (long : bytes.length = 48) (tag : (hmac (s.blob P.PairKey) (bytes.take 32)).take 16 = bytes.drop 32)
    (head : parsePennant 1 (bytes.take 32) = some h) (other : h.unitB ≠ s.unitB) :
    Completes (.stayPennantReceived port bytes) s fun t =>
      t.rd P.PennantCount 0 = s.rd P.PennantCount 0 + 1 ∧ t.fld P.TwinStatus 0 14 2 = h.role.code ∧
      t.fld P.TwinStatus 0 7 7 = h.epoch.toNat ∧ t.twin.stayAt = some s.clock ∧
      Frame (P.TwinStatus :: P.PennantCount :: P.DualActiveCount :: P.HashMismatchCount :: P.ResyncCount_PD027 ::
        P.ResyncProgress :: P.MirrorRecordCount :: P.SplitWriteCount :: egressParams) []
        [.twin, .cue, .bodyWrites, .transfers, .wdp, .stay] s t := by
  have key : (s.releaseRx port .pennant).blob P.PairKey = s.blob P.PairKey := rfl
  have unit : (s.releaseRx port .pennant).unitB = s.unitB := rfl
  have clock : (s.releaseRx port .pennant).clock = s.clock := rfl
  have counted : (s.releaseRx port .pennant).rd P.PennantCount 0 = s.rd P.PennantCount 0 := rfl
  have released : Frame [] [] [.stay] s (s.releaseRx port .pennant) := (Frame.refl ..).setStayPort _ _ (by decide)
  have act := exec_stayPennantReceived (bytes := bytes) active enabled paired used
  generalize s.releaseRx port .pennant = v at *
  have takes : v.takeStayPennant bytes = (v.takePennant 1 h).takeMirror h [] := by
    unfold State.takeStayPennant
    dsimp only
    rw [if_neg (by rw [key]; simp [long, tag]), head]
  have heard : PartnerHeard 1 h v (v.takeStayPennant bytes) := takes ▸ partnerHeard_takePennant (by rwa [unit])
  obtain ⟨count, role, epoch, frame⟩ := heard.settled
  exact ⟨_, act, count.trans (by rw [counted]), role, epoch,
    (congrArg Twin.stayAt (State.settle_twin _)).trans ((heard.stayAt (by decide)).trans (congrArg some clock)),
    (released.weaken (by simp) (by simp) (by simp)).trans frame⟩

theorem completes_stayPennantReceived_rests (port : Fin 4) (bytes : List Byte)
    (h : s.stayActive = false ∨ s.stayEnabled port = false) :
    Completes (.stayPennantReceived port bytes) s fun t => Frame [] [] [] s t :=
  ⟨_, if_pos (by rcases h with h | h <;> simp [h]), (Frame.refl ..).settle⟩

/-! ### The end of a mirrored body's hash (R369) -/

theorem frame_goStale (s : State) (ps : List Nat) (hp : P.TwinStatus ∈ ps) : Frame ps [] [.twin, .bodies] s s.goStale :=
  ((Frame.refl ..).setFld _ _ _ _ _ (.inl hp)).setTwin _ (by decide)

theorem frame_bodyGood (s : State) (b : MirrorBody) : Frame (P.TwinStatus :: egressParams) [] [.twin, .bodies] s (s.bodyGood b) := by
  unfold State.bodyGood
  extract_lets _ v
  have good : Frame (P.TwinStatus :: egressParams) [] [.twin, .bodies] s v := (Frame.refl ..).setTwin _ (by decide)
  clear_value v
  split
  · exact iteInduction (motive := Frame _ [] [.twin, .bodies] s) (fun _ => good.setBlob _ _ (by decide))
      fun _ => good.setTwin _ (by decide)
  · exact good

theorem frame_bodyBad (s : State) (b : MirrorBody) : Frame (P.TwinStatus :: egressParams) [] [.twin, .bodies] s (s.bodyBad b) :=
  iteInduction (motive := Frame _ [] [.twin, .bodies] s) (fun _ => frame_goStale s _ (by decide))
    fun _ => (Frame.refl ..).setTwin _ (by decide)

theorem completes_mirrorBlobVerified {param : Half} {b : MirrorBody} (serving : s.serving = true) (standby : s.role = .standby)
    (oldest : s.twin.verifying.find? (fun x => x.param == param.toNat) = some b) :
    Completes (.mirrorBlobVerified param) s fun t => t.twin.unacked.getLast? = some (t.twin.nextRecord - 1,
        blobAckRecord param.toNat (if sha256 b.body == b.digest then 0 else 1)) ∧
      Frame (P.TwinStatus :: egressParams) [] [.twin, .bodies] s t := by
  have act : exec (.mirrorBlobVerified param) s = done (s.verifyMirror param.toNat) :=
    if_pos (by rw [serving, standby]; rfl)
  let v := s.setTwin { s.twin with verifying := s.twin.verifying.erase b }
  let w := if sha256 b.body == b.digest then v.bodyGood b else v.bodyBad b
  have verifies : s.verifyMirror param.toNat =
      w.emit (blobAckRecord param.toNat (if sha256 b.body == b.digest then 0 else 1)) := by
    unfold State.verifyMirror
    rw [oldest]
  have removed : Frame (P.TwinStatus :: egressParams) [] [.twin, .bodies] s v := (Frame.refl ..).setTwin _ (by decide)
  have judged : Frame (P.TwinStatus :: egressParams) [] [.twin, .bodies] v w :=
    iteInduction (motive := Frame _ [] [.twin, .bodies] v) (fun _ => frame_bodyGood v b) fun _ => frame_bodyBad v b
  clear_value w v
  refine ⟨_, act.trans (congrArg done verifies), ?_, ((removed.trans judged).setTwin _ (by decide)).settle⟩
  rw [State.settle_twin]
  have records : ∀ r, (w.emit r).twin.unacked = w.twin.unacked ++ [(w.twin.nextRecord, r)] := fun _ => rfl
  have next : ∀ r, (w.emit r).twin.nextRecord = w.twin.nextRecord + 1 := fun _ => rfl
  rw [records, next, List.getLast?_append_cons, List.getLast?_singleton, BitVec.add_sub_cancel]

theorem completes_mirrorBlobVerified_rests (param : Half) (h : s.serving = false ∨ s.role ≠ .standby ∨
    s.twin.verifying.find? (fun x => x.param == param.toNat) = none) :
    Completes (.mirrorBlobVerified param) s fun t => Frame [] [] [] s t := by
  have act : exec (.mirrorBlobVerified param) s = done s := by
    rcases h with idle | other | none
    · exact if_neg (by simp [idle])
    · exact if_neg (by simp [other])
    · have rests : s.verifyMirror param.toNat = s := by
        unfold State.verifyMirror
        rw [none]
      exact (congrArg (fun x => if s.serving && s.role == .standby then done x else done s) rests).trans (ite_self _)
  exact ⟨_, act, (Frame.refl ..).settle⟩

/-- Settles O49: bursts sent, bursts and stay pennants received, and the hash of a mirrored body. -/
theorem pennants : Obligations.Pennants := by
  unfold Obligations.Pennants
  refine ⟨?sends, ?silent, ?badCheck, ?ownLetter, ?partner, ?unpaired, ?badTag, ?stayPartner, ?unused, ?verified, ?rests⟩
  case sends =>
    rintro s ⟨active, paired, own⟩
    exact completes_pennantBurstStart active paired own
  case silent => exact fun s h => completes_pennantBurstStart_rests h
  case badCheck =>
    rintro s bytes ⟨active, paired, bad⟩
    exact completes_pennantBurstReceived_bad active paired bad
  case ownLetter =>
    rintro s bytes h ⟨active, paired, long, check, head, own⟩
    exact completes_pennantBurstReceived_own active paired long check head own
  case partner =>
    rintro s bytes h ⟨active, paired, long, check, head, other, bare⟩
    exact completes_pennantBurstReceived active paired long check head other bare
  case unpaired => exact fun s bytes h => completes_pennantBurstReceived_rests bytes h
  case badTag =>
    rintro s port bytes ⟨active, enabled, paired, used, bad⟩
    exact completes_stayPennantReceived_bad active enabled paired used bad
  case stayPartner =>
    rintro s port bytes h ⟨active, enabled, paired, used, long, tag, head, other⟩
    exact completes_stayPennantReceived active enabled paired used long tag head other
  case unused => exact fun s port bytes h => completes_stayPennantReceived_rests port bytes h
  case verified =>
    rintro s param b ⟨serving, standby, oldest⟩
    exact completes_mirrorBlobVerified serving standby oldest
  case rests => exact fun s param h => completes_mirrorBlobVerified_rests param h

end Sys2Proof.Machine
end

section
namespace Sys2Proof.Machine

variable {s t u : State}

/-! ### The trouble log's ring as entries are written (R420, R422) -/

/-- The log, its index and the number of this clock's entries stand. -/
structure SameLog (s t : State) : Prop where
  trouble : t.trouble = s.trouble
  index : t.rd P.TroubleIndex 0 = s.rd P.TroubleIndex 0
  logged : t.now.logged = s.now.logged

namespace SameLog

theorem refl (s : State) : SameLog s s := ⟨rfl, rfl, rfl⟩

theorem trans (h : SameLog s t) (k : SameLog t u) : SameLog s u :=
  ⟨k.trouble.trans h.trouble, k.index.trans h.index, k.logged.trans h.logged⟩

theorem foldl {α : Type} {f : State → α → State} (one : ∀ s a, SameLog s (f s a)) : ∀ (l : List α) (s : State),
    SameLog s (l.foldl f s)
  | [], s => .refl s
  | a :: l, s => (one s a).trans (foldl one l (f s a))

end SameLog

theorem sameLog_wr (s : State) (p e : Nat) (v : Wide) (h : p ≠ P.TroubleIndex) : SameLog s (s.wr p e v) :=
  ⟨rfl, State.rd_wr_param _ _ _ _ _ _ h.symm, rfl⟩

theorem sameLog_bump (s : State) (p e n : Nat) (h : p ≠ P.TroubleIndex) : SameLog s (s.bump p e n).1 := by
  have tallied : SameLog s (s.tally p e n) := ⟨rfl, rfl, rfl⟩
  unfold State.bump
  dsimp only
  split
  · exact tallied
  · split
    · exact tallied.trans (sameLog_wr _ _ _ _ h)
    · exact tallied.trans (sameLog_wr _ _ _ _ h)

theorem sameLog_raise (s : State) (p e i : Nat) (h : p ≠ P.TroubleIndex) : SameLog s (s.raise p e i) := by
  have set : SameLog s (s.setBit p e i true) := sameLog_wr _ _ _ _ h
  unfold State.raise
  dsimp only
  split
  · exact set
  · exact set.trans ⟨rfl, rfl, rfl⟩

theorem sameLog_offerAll (r : EventRecord) : ∀ (l : List Nat) (s : State), SameLog s (s.offerAll r l).1
  | [], s => .refl s
  | n :: ns, s =>
    have offered : SameLog s (s.setSub n ((s.sub n).offer r).1) := ⟨rfl, rfl, rfl⟩
    offered.trans (sameLog_offerAll r ns _)

theorem sameLog_notify (s : State) (cls p e : Nat) (a : Word) : SameLog s (s.notify cls p e a).1 := by
  unfold State.notify
  dsimp only
  generalize EventRecord.mk cls e p _ _ a = r
  generalize List.range 8 = l
  have offered : SameLog s ((s.raise P.EventPending 0 cls).offerAll r l).1 :=
    (sameLog_raise _ _ _ _ (by decide)).trans (sameLog_offerAll r l _)
  revert offered
  generalize State.offerAll _ r l = q
  intro offered
  split
  · exact offered
  · exact offered.trans (sameLog_bump _ _ _ _ (by decide))

theorem sameLog_drainTrace (s : State) : SameLog s s.drainTrace := by
  have enter : ∀ (t : State) (x : TraceEntry), SameLog t (t.enterDecision x) := by
    intro t x
    unfold State.enterDecision
    split
    · exact .refl t
    · have entered : ∀ ring v, SameLog t (({ t with capstan := { t.capstan with trace := ring } } : State).wr P.TraceIndex 0 v) :=
        fun ring v =>
          have filled : SameLog t { t with capstan := { t.capstan with trace := ring } } := ⟨rfl, rfl, rfl⟩
          filled.trans (sameLog_wr _ P.TraceIndex 0 v (by decide))
      exact entered _ _
  have emptied : SameLog s { s with capstan := { s.capstan with decisions := [] } } := ⟨rfl, rfl, rfl⟩
  unfold State.drainTrace
  generalize ({ s with capstan := { s.capstan with decisions := [] } } : State) = v at *
  unfold State.enterDecisions
  split
  · exact emptied
  · have cut : SameLog v { v with capstan := { v.capstan with trace := v.capstan.trace.drop v.now.traced } } := ⟨rfl, rfl, rfl⟩
    have recalled : SameLog v v.recallDecisions.2 := cut.trans (sameLog_wr _ _ _ _ (by decide))
    have noted : ∀ n, SameLog v { v.recallDecisions.2 with now := { v.recallDecisions.2.now with traced := n } } :=
      fun n => recalled.trans ⟨rfl, rfl, rfl⟩
    exact emptied.trans ((noted _).trans (.foldl enter _ _))

/-- A command that gives the log writer nothing leaves the log as it is. -/
theorem sameLog_settle (h : s.trouble.queue = []) : SameLog s s.settle := by
  have traced := sameLog_drainTrace s
  have empty : s.drainTrace.trouble.queue = [] := by rw [traced.trouble, h]
  have settled : s.settle = { s.drainTrace with trouble := { s.drainTrace.trouble with queue := [] } } := by
    unfold State.settle State.drainLog
    rw [empty]
    rfl
  rw [settled]
  refine traced.trans ⟨?_, rfl, rfl⟩
  generalize s.drainTrace = v at *
  simp only [← empty]

theorem toNat_low_word (x : Wide) : (x &&& 0xFFFFFFFF).toNat = x.toNat % 2 ^ 32 := by
  rw [BitVec.toNat_and]
  exact Nat.and_two_pow_sub_one_eq_mod x.toNat 32

/-- `n` entries have been written since `s`, none of them with code `c`. -/
structure EnteredBut (c n : Nat) (s t : State) : Prop where
  index : (t.rd P.TroubleIndex 0).toNat % 2 ^ 32 = ((s.rd P.TroubleIndex 0).toNat + n) % 2 ^ 32
  ring : ∀ y ∈ t.trouble.ring.take n, y.code.toNat ≠ c

namespace EnteredBut

variable {c n : Nat}

theorem refl (s : State) : EnteredBut c 0 s s := ⟨rfl, fun _ h => absurd h (by simp)⟩

theorem same (h : EnteredBut c n s t) (k : SameLog t u) : EnteredBut c n s u :=
  ⟨by rw [k.index, h.index], by rw [k.trouble]; exact h.ring⟩

theorem enterEntry (h : EnteredBut c n s t) {x : TroubleEntry} (hx : x.code.toNat ≠ c) :
    EnteredBut c (n + 1) s (t.enterEntry x).1 := by
  have written : ∀ w : State, w.trouble.ring = ({ x with sequence := (t.rd P.TroubleIndex 0).setWidth 32 } :: t.trouble.ring).take 4096 →
      w.rd P.TroubleIndex 0 = (t.rd P.TroubleIndex 0 + 1) &&& 0xFFFFFFFF → EnteredBut c (n + 1) s w := by
    intro w ring index
    constructor
    · have before := h.index
      have one : (1 : Wide).toNat = 1 := rfl
      rw [index, toNat_low_word, BitVec.toNat_add, one]
      omega
    · intro y hy
      rw [ring] at hy
      have among : y ∈ ({ x with sequence := (t.rd P.TroubleIndex 0).setWidth 32 } :: t.trouble.ring).take (n + 1) :=
        List.mem_of_mem_take (i := 4096) (by rwa [List.take_take, Nat.min_comm, ← List.take_take])
      rw [List.take_succ_cons] at among
      rcases List.mem_cons.mp among with rfl | old
      · exact hx
      · exact h.ring y old
  unfold State.enterEntry
  dsimp only
  have entered := written (({ t with trouble := { t.trouble with ring :=
    ({ x with sequence := (t.rd P.TroubleIndex 0).setWidth 32 } :: t.trouble.ring).take 4096 } } : State).wr P.TroubleIndex 0
    ((t.rd P.TroubleIndex 0 + 1) &&& 0xFFFFFFFF)) rfl (State.rd_wr_same ..)
  split
  · exact entered.same (sameLog_bump _ _ _ _ (by decide))
  · exact entered

theorem notify (h : EnteredBut c n s t) (cls p e : Nat) (a : Word) : EnteredBut c n s (t.notify cls p e a).1 :=
  h.same (sameLog_notify ..)

/-- One entry is written, with those of the counters that saturate by it. -/
theorem enterEntryAll (h : EnteredBut c n s t) {x : TroubleEntry} (hx : x.code.toNat ≠ c) (hc : 1 ≠ c) :
    ∃ m, EnteredBut c m s (t.enterEntryAll x) := by
  have saturation : ∀ p, (x.saturation p).code.toNat ≠ c := fun _ => hc
  unfold State.enterEntryAll
  dsimp only
  split
  · split
    · exact ⟨_, ((((h.enterEntry hx).enterEntry (saturation _)).notify _ _ _ _).enterEntry (saturation _)).notify _ _ _ _⟩
    · exact ⟨_, ((h.enterEntry hx).enterEntry (saturation _)).notify _ _ _ _⟩
  · exact ⟨_, h.enterEntry hx⟩

theorem foldl (hc : 1 ≠ c) : ∀ (q : List TroubleEntry) {n : Nat} {t : State}, EnteredBut c n s t → (∀ x ∈ q, x.code.toNat ≠ c) →
    ∃ m, EnteredBut c m s (q.foldl State.enterEntryAll t)
  | [], n, _, h, _ => ⟨n, h⟩
  | x :: q, _, _, h, hq => by
    obtain ⟨m, entered⟩ := h.enterEntryAll (hq x List.mem_cons_self) hc
    exact foldl hc q entered fun y hy => hq y (List.mem_cons_of_mem x hy)

end EnteredBut

/-- The entries of this clock are those that have been written: none has a code that none of them was given. -/
theorem enterEntries_without {c : Nat} (hc : 1 ≠ c) (s : State) (q : List TroubleEntry) (hq : ∀ x ∈ q, x.code.toNat ≠ c) :
    ∀ y ∈ (s.enterEntries q).trouble.ring.take (s.enterEntries q).now.logged, y.code.toNat ≠ c := by
  obtain ⟨m, entered⟩ := EnteredBut.foldl hc q (EnteredBut.refl (c := c) s) hq
  unfold State.enterEntries
  generalize q.foldl State.enterEntryAll s = t at *
  intro y hy
  have count : ((t.rd P.TroubleIndex 0 - s.rd P.TroubleIndex 0) &&& 0xFFFFFFFF).toNat ≤ m := by
    have index := entered.index
    have small : (s.rd P.TroubleIndex 0).toNat < 2 ^ 64 := (s.rd P.TroubleIndex 0).isLt
    rw [toNat_low_word, BitVec.toNat_sub]
    omega
  have few : y ∈ t.trouble.ring.take m := List.mem_of_mem_take (i := ((t.rd P.TroubleIndex 0 - s.rd P.TroubleIndex 0) &&& 0xFFFFFFFF).toNat)
    (by rw [List.take_take, Nat.min_eq_left count]; exact hy)
  exact entered.ring y few

end Sys2Proof.Machine
end

section
namespace Sys2Proof.Machine

variable {s t u : State}

/-! ### The flash: slots and banks -/

theorem Frame.nv {ps : List Nat} {es : List (Nat × Nat)} {fs : List Part} (x : NonVolatile) (h : Frame ps es fs s t)
    (hf : .nonVolatile ∈ fs) : Frame ps es fs s { t with nv := x } :=
  h.parts rfl (by constructor <;> intros <;> first | rfl | exact ⟨rfl, rfl⟩ | contradiction)

theorem State.setSlot_eq (s : State) (i : Fin 2) (x : Slot) : ∃ nv, s.setSlot i x = { s with nv := nv } ∧
    nv = { s.nv with slotA := nv.slotA, slotB := nv.slotB } := by
  unfold State.setSlot
  split <;> exact ⟨_, rfl, rfl⟩

theorem State.setBank_eq (s : State) (i : Fin 2) (b : Bank) : ∃ nv, s.setBank i b = { s with nv := nv } := by
  unfold State.setBank
  split <;> exact ⟨_, rfl⟩

theorem Frame.setSlot {ps : List Nat} {es : List (Nat × Nat)} {fs : List Part} (i : Fin 2) (x : Slot) (h : Frame ps es fs s t)
    (hf : .nonVolatile ∈ fs) : Frame ps es fs s (t.setSlot i x) := by
  obtain ⟨nv, eq, -⟩ := t.setSlot_eq i x
  rw [eq]
  exact h.nv nv hf

theorem Frame.setBank {ps : List Nat} {es : List (Nat × Nat)} {fs : List Part} (i : Fin 2) (b : Bank) (h : Frame ps es fs s t)
    (hf : .nonVolatile ∈ fs) : Frame ps es fs s (t.setBank i b) := by
  obtain ⟨nv, eq⟩ := t.setBank_eq i b
  rw [eq]
  exact h.nv nv hf

theorem State.setSlot_rd (s : State) (i : Fin 2) (x : Slot) (p e : Nat) : (s.setSlot i x).rd p e = s.rd p e := by
  obtain ⟨nv, eq, -⟩ := s.setSlot_eq i x
  rw [eq]
  rfl

theorem State.setBank_rd (s : State) (i : Fin 2) (b : Bank) (p e : Nat) : (s.setBank i b).rd p e = s.rd p e := by
  obtain ⟨nv, eq⟩ := s.setBank_eq i b
  rw [eq]
  rfl

theorem State.slotOf_setSlot_same (s : State) (i : Fin 2) (x : Slot) : (s.setSlot i x).slotOf i = x := by
  unfold State.slotOf State.setSlot
  split <;> rfl

theorem State.slotOf_setSlot_other (s : State) (i : Fin 2) (x : Slot) :
    (s.setSlot i x).slotOf (1 - i) = s.slotOf (1 - i) := by
  unfold State.slotOf State.setSlot
  match i with
  | 0 => rfl
  | 1 => rfl

theorem State.bankOf_setBank_same (s : State) (i : Fin 2) (b : Bank) : (s.setBank i b).bankOf i = b := by
  unfold State.bankOf State.setBank
  split <;> rfl

theorem State.bankOf_setBank_other (s : State) (i : Fin 2) (b : Bank) :
    (s.setBank i b).bankOf (1 - i) = s.bankOf (1 - i) := by
  unfold State.bankOf State.setBank
  match i with
  | 0 => rfl
  | 1 => rfl

theorem State.slotOf_congr (h : t.nv = s.nv) (i : Fin 2) : t.slotOf i = s.slotOf i := by
  unfold State.slotOf
  rw [h]

theorem State.bankOf_congr (h : t.nv = s.nv) (i : Fin 2) : t.bankOf i = s.bankOf i := by
  unfold State.bankOf
  rw [h]

theorem frame_endWriting (s : State) (param : Nat) (status : Byte) : Frame [] [] [.transfers] s (s.endWriting param status) :=
  (Frame.refl ..).foldl _ (fun t n => iteInduction (motive := Frame [] [] [.transfers] t)
    (fun _ => ((Frame.refl ..).setXfer _ _ (by decide)).event _ _ _ _) fun _ => .refl ..) _

/-! ### The end of an image write (R408) -/

/-- A flash activity has ended: what waited for it is answered, and the flash is free. -/
structure FlashFreed (s t : State) : Prop where
  rd : ∀ p, p ∉ housekeeping → p ≠ P.MaintenanceStatus → t.rd p 0 = s.rd p 0
  free : t.holder Res.flash = 0
  frame : Frame [] [(P.MaintenanceStatus, 0)] [.transfers] s t

theorem flashFreed_release (s : State) (param : Nat) (status : Byte) :
    FlashFreed s ((s.endWriting param status).release Res.flash) := by
  have ended := frame_endWriting s param status
  generalize s.endWriting param status = v at *
  exact ⟨fun p hp h => (v.rd_release Res.flash 0 hp h).trans (ended.rd (by decide) hp List.not_mem_nil List.not_mem_nil),
    v.holder_release Res.flash (by decide),
    Frame.release (ended.weaken (by simp) (by simp) (fun _ h => h)) Res.flash (.inr (by decide))⟩

/-- The state whose image write has ended with `n` bytes. -/
def State.imageEnded (s : State) (n : Nat) : State :=
  (s.setUpdate { s.update with image := none }).wr P.ImageWriteProgress 0 (BitVec.ofNat 64 n)

theorem State.imageEnded_stands (s : State) (n : Nat) : (s.imageEnded n).rd P.ImageWriteProgress 0 = BitVec.ofNat 64 n ∧
    (s.imageEnded n).update = { s.update with image := none } ∧ (s.imageEnded n).nv = s.nv ∧
    (s.imageEnded n).runningSlot = s.runningSlot ∧
    ∀ fs, Frame [] [(P.UpdateStatus, 0), (P.ImageWriteProgress, 0), (P.MaintenanceStatus, 0)] (.update :: fs) s (s.imageEnded n) :=
  ⟨State.rd_wr_same .., rfl, rfl, rfl, fun _ => ((Frame.refl ..).setUpdate _ List.mem_cons_self).wr _ _ _ (by decide)⟩

/-- The generation of the slot that is written. -/
def State.nextGeneration (s : State) : Word := match s.runningSlot with
  | some j => (s.slotOf j).generation + 1
  | none => 1

theorem State.nextGeneration_congr (run : t.runningSlot = s.runningSlot) (nv : t.nv = s.nv) :
    t.nextGeneration = s.nextGeneration := by
  unfold State.nextGeneration
  rw [run]
  cases s.runningSlot with
  | none => rfl
  | some j => exact congrArg (fun x : Slot => x.generation + 1) (State.slotOf_congr nv j)

/-- A slot that a matching write leaves. -/
def State.slotWritten (s : State) (i : Fin 2) (body : List Byte) : State :=
  s.setSlot i { Slot.empty with generation := s.nextGeneration, written := 0, image := body }

theorem exec_imageWriteDone {i : Fin 2} {body : List Byte} (writing : s.update.image = some (i, body)) :
    exec (.imageWriteDone none) s = done ((((((s.imageEnded body.length).slotWritten i body).writeState 4).endWriting
      P.ImageWrite 0)).release Res.flash) := by
  have act : exec (.imageWriteDone none) s = execImageWriteDone none s := rfl
  rw [act]
  unfold execImageWriteDone
  rw [writing]
  rfl

theorem exec_imageWriteDone_mismatch {off : Word} {i : Fin 2} {body : List Byte} (writing : s.update.image = some (i, body)) :
    exec (.imageWriteDone (some off)) s = done (((((s.imageEnded body.length).log 0x1F 0x0070 i.val off 0).writeState 5).endWriting
      P.ImageWrite 2).release Res.flash) := by
  have act : exec (.imageWriteDone (some off)) s = execImageWriteDone (some off) s := rfl
  rw [act]
  unfold execImageWriteDone
  rw [writing]
  rfl

theorem completes_imageWriteDone {i : Fin 2} {body : List Byte} (writing : s.update.image = some (i, body)) :
    Completes (.imageWriteDone none) s fun t =>
      t.slotOf i = { Slot.empty with generation := s.nextGeneration, written := 0, image := body } ∧
      t.slotOf (1 - i) = s.slotOf (1 - i) ∧ t.update = { s.update with image := none } ∧ t.fld P.UpdateStatus 0 4 4 = 4 ∧
      t.rd P.ImageWriteProgress 0 = BitVec.ofNat 64 body.length ∧ t.holder Res.flash = 0 ∧
      t.nv = { s.nv with slotA := t.nv.slotA, slotB := t.nv.slotB } ∧
      Frame [] [(P.UpdateStatus, 0), (P.ImageWriteProgress, 0), (P.MaintenanceStatus, 0)]
        [.update, .nonVolatile, .transfers, .wdp] s t := by
  obtain ⟨progress, update, nv, run, ended⟩ := s.imageEnded_stands body.length
  have act := exec_imageWriteDone writing
  generalize s.imageEnded body.length = v at *
  let w := (v.slotWritten i body).writeState 4
  have ends : exec (.imageWriteDone none) s = done ((w.endWriting P.ImageWrite 0).release Res.flash) := act
  have same : w.nv = (v.slotWritten i body).nv := rfl
  obtain ⟨x, slots, rest⟩ := v.setSlot_eq i { Slot.empty with generation := v.nextGeneration, written := 0, image := body }
  have named : (v.slotWritten i body).nv = x := congrArg State.nv slots
  have written : (v.slotWritten i body).slotOf i =
      { Slot.empty with generation := s.nextGeneration, written := 0, image := body } := by
    unfold State.slotWritten
    rw [State.slotOf_setSlot_same, State.nextGeneration_congr run nv]
  have other : (v.slotWritten i body).slotOf (1 - i) = s.slotOf (1 - i) :=
    (v.slotOf_setSlot_other i _).trans (State.slotOf_congr nv _)
  have code : w.fld P.UpdateStatus 0 4 4 = 4 := State.fld_setFld_same _ _ _ _ _ _ (by decide)
  have kept : w.rd P.ImageWriteProgress 0 = v.rd P.ImageWriteProgress 0 :=
    (State.rd_setFld_param _ _ _ _ _ _ _ _ (by decide)).trans (v.setSlot_rd i _ _ _)
  have framed : Frame [] [(P.UpdateStatus, 0), (P.ImageWriteProgress, 0), (P.MaintenanceStatus, 0)]
      [.update, .nonVolatile, .transfers, .wdp] v w :=
    ((Frame.refl ..).setSlot i _ (by decide)).setFld _ _ _ _ _ (by decide)
  have updated : (v.slotWritten i body).update = v.update := (congrArg State.update slots).trans rfl
  have held : w.update = v.update := updated
  clear_value w
  have freed := flashFreed_release w P.ImageWrite 0
  generalize (w.endWriting P.ImageWrite 0).release Res.flash = z at *
  have flash : z.settle.nv = w.nv := freed.frame.settle.2.nonVolatile (by decide)
  have rd : ∀ p, p ∉ housekeeping → p ≠ P.MaintenanceStatus → z.settle.rd p 0 = w.rd p 0 := fun p hp h =>
    (State.rd_settle _ _ _ hp).trans (freed.rd p hp h)
  refine ⟨_, ends, ?_, ?_, ?_, ?_, ?_, ?_, ?_, ?_⟩
  · rw [State.slotOf_congr (flash.trans same), written]
  · rw [State.slotOf_congr (flash.trans same), other]
  · rw [freed.frame.settle.2.update (by decide), held, update]
  · rw [State.fld_congr (rd _ (by decide) (by decide)), code]
  · rw [rd _ (by decide) (by decide), kept, progress]
  · rw [State.holder_congr (State.rd_settle _ _ _ (by decide)), freed.free]
  · rw [flash, same, named, ← nv]
    exact rest
  · exact (ended _).trans (framed.trans (freed.frame.settle.weaken (by simp) (by simp) (by simp)))

theorem completes_imageWriteDone_mismatch {off : Word} {i : Fin 2} {body : List Byte}
    (writing : s.update.image = some (i, body)) : Completes (.imageWriteDone (some off)) s fun t => t.nv = s.nv ∧
      t.update = { s.update with image := none } ∧ t.fld P.UpdateStatus 0 4 4 = 5 ∧ t.holder Res.flash = 0 ∧
      Frame [] [(P.UpdateStatus, 0), (P.ImageWriteProgress, 0), (P.MaintenanceStatus, 0)] [.update, .transfers, .wdp] s t := by
  obtain ⟨-, update, nv, -, ended⟩ := s.imageEnded_stands body.length
  have act := exec_imageWriteDone_mismatch (off := off) writing
  generalize s.imageEnded body.length = v at *
  have code : ((v.log 0x1F 0x0070 i.val off 0).writeState 5).fld P.UpdateStatus 0 4 4 = 5 :=
    State.fld_setFld_same _ _ _ _ _ _ (by decide)
  have framed : Frame [] [(P.UpdateStatus, 0)] [] v ((v.log 0x1F 0x0070 i.val off 0).writeState 5) :=
    ((Frame.refl ..).log _ _ _ _ _).setFld _ _ _ _ _ (by decide)
  generalize (v.log 0x1F 0x0070 i.val off 0).writeState 5 = w at *
  have freed := flashFreed_release w P.ImageWrite 2
  generalize (w.endWriting P.ImageWrite 2).release Res.flash = z at *
  have whole : Frame [] [(P.UpdateStatus, 0), (P.MaintenanceStatus, 0)] [.transfers, .wdp] v z.settle :=
    (framed.weaken (by simp) (by simp) (by simp)).trans (freed.frame.settle.weaken (by simp) (by simp) (by simp))
  refine ⟨_, act, (whole.2.nonVolatile (by decide)).trans nv, (whole.2.update (by decide)).trans update, ?_, ?_,
    (ended _).trans (whole.weaken (by simp) (by simp) (by simp))⟩
  · rw [State.fld_congr ((State.rd_settle _ _ _ (by decide)).trans (freed.rd _ (by decide) (by decide))), code]
  · rw [State.holder_congr (State.rd_settle _ _ _ (by decide)), freed.free]

theorem completes_imageWriteDone_idle (mismatch : Option Word) (none : s.update.image = none) :
    Completes (.imageWriteDone mismatch) s fun t => Frame [] [] [] s t := by
  have act : exec (.imageWriteDone mismatch) s = done s := by
    have own : exec (.imageWriteDone mismatch) s = execImageWriteDone mismatch s := rfl
    rw [own]
    unfold execImageWriteDone
    rw [none]
  exact ⟨_, act, (Frame.refl ..).settle⟩

end Sys2Proof.Machine
end

section
namespace Sys2Proof.Machine

variable {s t u : State}

/-! ### An abort in the clock of its activity's end (R431) -/

theorem completes_abort_sameClock {c : Instr} {rq : Requester} {p v : Nat} (act : exec c s = done (s.serveAbort rq p v true))
    (permitted : s.permits rq p = true) (granted : s.storeFaults rq p 0 = false) (heard : s.hears rq 0 = true) :
    Completes c s fun t => t.wdp.answer = ⟨0x0D, []⟩ ∧ Frame [] [] [.answer] s t := by
  unfold State.hears at heard
  simp only [Bool.and_eq_true, decide_eq_true_eq] at heard
  obtain ⟨⟨path, session⟩, room⟩ := heard
  have limit : (s.arbitrate rq).responseLimit rq = s.responseLimit rq :=
    State.responseLimit_congr (State.rd_congr (s.arbitrate_regs rq) _ _) rq
  have served : s.serveAbort rq p v true = (s.arbitrate rq).answer 0x0D [] := by
    unfold State.serveAbort
    rw [permitted, Bool.and_self, if_pos rfl, State.access_of s rq _ _ _ path session granted,
      State.answerOne_of_room 0x0D (by rw [limit]; exact room)]
  refine ⟨_, act.trans (congrArg done served), ?_, ?_⟩
  · rw [State.settle_wdp_answer]
    rfl
  · exact ((frame_arbitrate s rq _ _ _).answer _ _ (by decide)).settle

/-! ### Saves of the settings (R412 to R414) -/

theorem row_settingsControl : Dict.row P.SettingsControl = some (portControlRow P.SettingsControl 0) := by decide +kernel

theorem State.writeElement_settingsControl (s : State) (via : Via) (v : Wide) :
    s.writeElement via (portControlRow P.SettingsControl 0) 0 v = s.writeSettings v :=
  State.writeElement_of_unmirrored rfl rfl

/-- The bytes of a save of the settings as they stand. -/
def State.saveBytes (s : State) : List Byte :=
  bankBytes s.update.format s.nextSequence (storedRows.flatMap s.paramRecords)

/-- The flash is held and the bank of a save is erased. -/
def State.saveErased (s : State) : State := (s.hold Res.flash Hold.save).setBank s.saveTarget Bank.empty

/-- The save runs. -/
def State.saveRuns (s : State) (x : Update) : State := (s.setUpdate x).setBit P.SettingsControl 0 1 true

theorem State.startSave_eq (s : State) : s.startSave (storedRows.flatMap s.paramRecords) false =
    s.saveErased.saveRuns { s.saveErased.update with save := some (s.saveTarget, s.saveBytes, false) } := rfl

/-- A save has begun. -/
structure SaveBegun (s t : State) : Prop where
  update : t.update = { s.update with save := some (s.saveTarget, s.saveBytes, false) }
  bank : t.bankOf s.saveTarget = Bank.empty
  other : t.bankOf (1 - s.saveTarget) = s.bankOf (1 - s.saveTarget)
  holds : t.holder Res.flash = Hold.save
  running : t.bit P.SettingsControl 0 1 = true
  frame : Frame [] [(P.SettingsControl, 0), (P.MaintenanceStatus, 0)] [.update, .nonVolatile] s t

theorem saveBegun_startSave (s : State) : SaveBegun s (s.startSave (storedRows.flatMap s.paramRecords) false) := by
  rw [State.startSave_eq]
  have bank : s.saveErased.bankOf s.saveTarget = Bank.empty := State.bankOf_setBank_same _ _ _
  have other : s.saveErased.bankOf (1 - s.saveTarget) = s.bankOf (1 - s.saveTarget) := State.bankOf_setBank_other _ _ _
  have holds : s.saveErased.holder Res.flash = Hold.save := by
    unfold State.saveErased
    rw [State.holder_congr (State.setBank_rd ..)]
    exact s.holder_hold Res.flash Hold.save (by decide)
  have erased : Frame [] [(P.SettingsControl, 0), (P.MaintenanceStatus, 0)] [.nonVolatile] s s.saveErased :=
    Frame.setBank _ _ (Frame.setFld _ _ _ _ _ (.refl ..) (by decide)) (by decide)
  generalize s.saveErased = v at *
  have update : v.update = s.update := erased.2.update (by decide)
  have same : ∀ x, (v.saveRuns x).nv = v.nv := fun _ => rfl
  have kept : ∀ x, (v.saveRuns x).rd P.MaintenanceStatus 0 = v.rd P.MaintenanceStatus 0 := fun x =>
    State.rd_setBit_param (v.setUpdate x) _ _ _ _ _ _ (by decide)
  refine ⟨?_, (State.bankOf_congr (same _) _).trans bank, (State.bankOf_congr (same _) _).trans other,
    (State.holder_congr (kept _)).trans holds, (State.bit_setBit _ _ _ _ _ _ (by decide)).trans (if_pos rfl), ?_⟩
  · rw [update]
    rfl
  · exact Frame.setBit _ _ _ _ (Frame.setUpdate _ (erased.weaken (by simp) (by simp) (by simp)) (by decide)) (by decide)

theorem State.save_arbitrate (s : State) (rq : Requester) : (s.arbitrate rq).saveTarget = s.saveTarget ∧
    (s.arbitrate rq).saveBytes = s.saveBytes ∧ (s.arbitrate rq).update = s.update ∧ (s.arbitrate rq).nv = s.nv := by
  obtain ⟨n, hn⟩ := s.arbitrate_eq rq
  rw [hn]
  exact ⟨rfl, rfl, rfl, rfl⟩

theorem completes_settingsSave {rq : Requester} (granted : s.grants rq P.SettingsControl 0 1 = true)
    (free : (s.arbitrate rq).taken Res.flash = false) : Completes (.settingsSave rq) s fun t => t.wdp.answer = ⟨0, []⟩ ∧
      t.update = { s.update with save := some (s.saveTarget, s.saveBytes, false) } ∧ t.bankOf s.saveTarget = Bank.empty ∧
      t.bankOf (1 - s.saveTarget) = s.bankOf (1 - s.saveTarget) ∧ t.taken Res.flash = true ∧
      t.bit P.SettingsControl 0 1 = true ∧
      Frame [P.SplitWriteCount] [(P.SettingsControl, 0), (P.MaintenanceStatus, 0)]
        [.answer, .update, .nonVolatile, .twin, .wdp] s t := by
  obtain ⟨target, bytes, update, nv⟩ := s.save_arbitrate rq
  have begun := saveBegun_startSave (s.arbitrate rq)
  have effect : (s.arbitrate rq).writeElement (s.via rq) (portControlRow P.SettingsControl 0) 0 (BitVec.ofNat 64 1) =
      ((s.arbitrate rq).startSave (storedRows.flatMap (s.arbitrate rq).paramRecords) false, 0) := by
    rw [State.writeElement_settingsControl]
    unfold State.writeSettings
    rw [free]
    rfl
  generalize (s.arbitrate rq).startSave (storedRows.flatMap (s.arbitrate rq).paramRecords) false = v at *
  obtain ⟨t, ht, answer, kept, frame⟩ := completes_granted (c := .settingsSave rq)
    (fs := [.update, .nonVolatile, .twin, .wdp]) rfl row_settingsControl (by decide) granted effect
    (begun.frame.weaken (ps := [P.SplitWriteCount]) (by simp) (fun _ h => h) (by simp)) (by decide)
  have flash : t.nv = v.nv := kept.2.nonVolatile (by decide)
  have rd : ∀ p, p ∉ housekeeping → t.rd p 0 = v.rd p 0 := fun p hp =>
    kept.rd (by decide) hp List.not_mem_nil List.not_mem_nil
  refine ⟨t, ht, answer, ?_, ?_, ?_, State.taken_of_holder ?_, ?_, frame⟩
  · rw [kept.2.update (by decide), begun.update, update, target, bytes]
  · rw [State.bankOf_congr flash, ← target, begun.bank]
  · rw [State.bankOf_congr flash, ← target, begun.other, State.bankOf_congr nv]
  · rw [State.holder_congr (rd _ (by decide)), begun.holds]
    decide
  · rw [State.bit_congr (rd _ (by decide)), begun.running]

/-- A start that meets its resource taken is refused and counted. -/
theorem completes_granted_busy {c : Instr} {rq : Requester} {p v : Nat} {r : Row} (act : exec c s = done (s.serveOne rq p 0 v))
    (row : Dict.row p = some r) (kind : r.num = p ∧ (r.ty ≠ .str ∧ r.ty ≠ .blob) ∧ p ≠ P.CueWrite)
    (granted : s.grants rq p 0 v = true)
    (effect : (s.arbitrate rq).writeElement (s.via rq) r 0 (BitVec.ofNat 64 v) = ((s.arbitrate rq).refuseStart, 1)) :
    Completes c s fun t => t.wdp.answer = ⟨1, []⟩ ∧
      (s.rdN P.ArbiterBusyCount 0 < 0xFFFFFFFE → t.rdN P.ArbiterBusyCount 0 = s.rdN P.ArbiterBusyCount 0 + 1) ∧
      Frame [] [(P.ArbiterBusyCount, 0)] [.answer, .wdp] s t := by
  have counted : Frame [] [(P.ArbiterBusyCount, 0)] [.answer, .wdp] (s.arbitrate rq) (s.arbitrate rq).refuseStart :=
    (Frame.refl ..).count _ _ (by decide)
  obtain ⟨t, ht, answer, kept, frame⟩ := completes_granted (fs := [.wdp]) act row kind granted effect counted (by decide)
  refine ⟨t, ht, answer, fun below => ?_, frame⟩
  have held : (s.arbitrate rq).rdN P.ArbiterBusyCount 0 = s.rdN P.ArbiterBusyCount 0 :=
    congrArg BitVec.toNat (State.rd_congr (s.arbitrate_regs rq) _ _)
  have same : t.rdN P.ArbiterBusyCount 0 = (s.arbitrate rq).refuseStart.rdN P.ArbiterBusyCount 0 :=
    congrArg BitVec.toNat (kept.rd (by decide) (by decide) List.not_mem_nil List.not_mem_nil)
  rw [← held] at below ⊢
  rw [same]
  exact (s.arbitrate rq).rdN_countBy_lt (by decide) (by omega)

theorem completes_settingsSave_busy {rq : Requester} (granted : s.grants rq P.SettingsControl 0 1 = true)
    (taken : (s.arbitrate rq).taken Res.flash = true) : Completes (.settingsSave rq) s fun t => t.wdp.answer = ⟨1, []⟩ ∧
      (s.rdN P.ArbiterBusyCount 0 < 0xFFFFFFFE → t.rdN P.ArbiterBusyCount 0 = s.rdN P.ArbiterBusyCount 0 + 1) ∧
      t.nv = s.nv ∧ t.update = s.update ∧ Frame [] [(P.ArbiterBusyCount, 0)] [.answer, .wdp] s t := by
  have effect : (s.arbitrate rq).writeElement (s.via rq) (portControlRow P.SettingsControl 0) 0 (BitVec.ofNat 64 1) =
      ((s.arbitrate rq).refuseStart, 1) := by
    rw [State.writeElement_settingsControl]
    unfold State.writeSettings
    rw [taken]
    rfl
  obtain ⟨t, ht, answer, counts, frame⟩ := completes_granted_busy (c := .settingsSave rq) rfl row_settingsControl (by decide)
    granted effect
  exact ⟨t, ht, answer, counts, frame.2.nonVolatile (by decide), frame.2.update (by decide), frame⟩

/-- A save has ended with a result. -/
structure SaveEnded (result : Nat) (s t : State) : Prop where
  update : t.update = { s.update with save := none }
  result : t.fld P.SettingsStatus 0 12 4 = result
  rests : t.bit P.SettingsControl 0 1 = false
  free : t.holder Res.flash = 0
  frame : Frame [] [(P.SettingsControl, 0), (P.SettingsStatus, 0), (P.MaintenanceStatus, 0)] [.update, .transfers] s t

theorem saveEnded_endSave (s : State) {result : Nat} (h : result < 16) (status : Byte) :
    SaveEnded result s (s.endSave result status) := by
  unfold State.endSave
  extract_lets _ v
  have update : v.update = { s.update with save := none } := rfl
  have rests : v.bit P.SettingsControl 0 1 = false := (State.bit_setBit _ _ _ _ _ _ (by decide)).trans (if_pos rfl)
  have closed : Frame [] [(P.SettingsControl, 0), (P.SettingsStatus, 0), (P.MaintenanceStatus, 0)] [.update, .transfers] s v :=
    ((Frame.refl ..).setUpdate _ (by decide)).setBit _ _ _ _ (by decide)
  clear_value v
  have shown : (v.setFld P.SettingsStatus 0 12 4 result).fld P.SettingsStatus 0 12 4 = result :=
    (State.fld_setFld_same _ _ _ _ _ _ (by decide)).trans (Nat.mod_eq_of_lt h)
  have kept : (v.setFld P.SettingsStatus 0 12 4 result).rd P.SettingsControl 0 = v.rd P.SettingsControl 0 :=
    State.rd_setFld_param _ _ _ _ _ _ _ _ (by decide)
  have named : Frame [] [(P.SettingsControl, 0), (P.SettingsStatus, 0), (P.MaintenanceStatus, 0)] [.update, .transfers] v
      (v.setFld P.SettingsStatus 0 12 4 result) := (Frame.refl ..).setFld _ _ _ _ _ (by decide)
  have same : (v.setFld P.SettingsStatus 0 12 4 result).update = v.update := rfl
  generalize v.setFld P.SettingsStatus 0 12 4 result = w at *
  have freed := flashFreed_release w P.SettingsImage status
  refine ⟨?_, ?_, ?_, freed.free, (closed.trans named).trans (freed.frame.weaken (by simp) (by simp) (by simp))⟩
  · rw [freed.frame.2.update (by decide), same, update]
  · rw [State.fld_congr (freed.rd _ (by decide) (by decide)), shown]
  · rw [State.bit_congr (freed.rd _ (by decide) (by decide)), State.bit_congr kept, rests]

/-- What stands of an ended save after the command that ends it. -/
theorem SaveEnded.after {result : Nat} (h : SaveEnded result s t) {ps : List Nat} {fs : List Part}
    (k : Frame ps [] fs t u) (control : P.SettingsControl ∉ ps) (status : P.SettingsStatus ∉ ps)
    (maintenance : P.MaintenanceStatus ∉ ps) (part : .update ∉ fs) :
    u.update = { s.update with save := none } ∧ u.fld P.SettingsStatus 0 12 4 = result ∧
    u.bit P.SettingsControl 0 1 = false ∧ u.holder Res.flash = 0 :=
  ⟨(k.2.update part).trans h.update, (State.fld_congr (k.rd (by decide) (by decide) status List.not_mem_nil)).trans h.result,
    (State.bit_congr (k.rd (by decide) (by decide) control List.not_mem_nil) _).trans h.rests,
    (State.holder_congr (k.rd (by decide) (by decide) maintenance List.not_mem_nil)).trans h.free⟩

theorem completes_settingsSaveAbort {rq : Requester} (granted : s.grants rq P.SettingsControl 0 4 = true)
    (saving : s.update.save.isSome = true) : Completes (.settingsSaveAbort rq false) s fun t => t.wdp.answer = ⟨0, []⟩ ∧
      t.update = { s.update with save := none } ∧ t.nv = s.nv ∧ t.bit P.SettingsControl 0 1 = false ∧
      t.fld P.SettingsStatus 0 12 4 = 2 ∧ t.holder Res.flash = 0 ∧
      Frame [P.SplitWriteCount] [(P.SettingsControl, 0), (P.SettingsStatus, 0), (P.MaintenanceStatus, 0)]
        [.answer, .update, .transfers, .twin, .wdp] s t := by
  obtain ⟨-, -, update, -⟩ := s.save_arbitrate rq
  have act : exec (.settingsSaveAbort rq false) s = done (s.serveOne rq P.SettingsControl 0 4) := rfl
  have ended := saveEnded_endSave (s.arbitrate rq) (result := 2) (by decide) 2
  have effect : (s.arbitrate rq).writeElement (s.via rq) (portControlRow P.SettingsControl 0) 0 (BitVec.ofNat 64 4) =
      ((s.arbitrate rq).endSave 2 2, 0) := by
    rw [State.writeElement_settingsControl]
    have aborts : (s.arbitrate rq).abortSave = (s.arbitrate rq).endSave 2 2 := if_pos (by rw [update]; exact saving)
    rw [← aborts]
    rfl
  generalize (s.arbitrate rq).endSave 2 2 = v at *
  obtain ⟨t, ht, answer, kept, frame⟩ := completes_granted (c := .settingsSaveAbort rq false)
    (fs := [.update, .transfers, .twin, .wdp]) act row_settingsControl (by decide) granted effect
    (ended.frame.weaken (ps := [P.SplitWriteCount]) (by simp) (fun _ h => h) (by simp)) (by decide)
  obtain ⟨closed, result, rests, free⟩ := ended.after kept (by decide) (by decide) (by decide) (by decide)
  exact ⟨t, ht, answer, closed.trans (by rw [update]), frame.2.nonVolatile (by decide), rests, result, free, frame⟩

theorem exec_settingsSaveDone {ok : Bool} {i : Fin 2} {bytes : List Byte} {importing : Bool}
    (saving : s.update.save = some (i, bytes, importing)) : exec (.settingsSaveDone ok) s =
      if ok then done (((s.setBank i { bytes := bytes, commit := 0 }).count P.SettingsSaveCount 0).endSave 1 0)
      else done (s.endSave 3 2) := by
  have act : exec (.settingsSaveDone ok) s = execSettingsSaveDone ok s := rfl
  rw [act]
  unfold execSettingsSaveDone
  rw [saving]

theorem completes_settingsSaveDone {i : Fin 2} {bytes : List Byte} {importing : Bool}
    (saving : s.update.save = some (i, bytes, importing)) : Completes (.settingsSaveDone true) s fun t =>
      t.bankOf i = { bytes := bytes, commit := 0 } ∧ t.bankOf (1 - i) = s.bankOf (1 - i) ∧
      t.update = { s.update with save := none } ∧
      (s.rdN P.SettingsSaveCount 0 < 0xFFFFFFFE → t.rdN P.SettingsSaveCount 0 = s.rdN P.SettingsSaveCount 0 + 1) ∧
      t.fld P.SettingsStatus 0 12 4 = 1 ∧ t.bit P.SettingsControl 0 1 = false ∧ t.holder Res.flash = 0 ∧
      Frame [] [(P.SettingsSaveCount, 0), (P.SettingsControl, 0), (P.SettingsStatus, 0), (P.MaintenanceStatus, 0)]
        [.update, .nonVolatile, .transfers, .wdp] s t := by
  have act := (exec_settingsSaveDone (ok := true) saving).trans (if_pos rfl)
  let v := s.setBank i { bytes := bytes, commit := 0 }
  have own : v.bankOf i = { bytes := bytes, commit := 0 } := State.bankOf_setBank_same ..
  have other : v.bankOf (1 - i) = s.bankOf (1 - i) := State.bankOf_setBank_other ..
  have held : v.rdN P.SettingsSaveCount 0 = s.rdN P.SettingsSaveCount 0 := congrArg BitVec.toNat (s.setBank_rd ..)
  have programmed : Frame [] [(P.SettingsSaveCount, 0)] [.nonVolatile] s v := (Frame.refl ..).setBank _ _ (by decide)
  have ends : exec (.settingsSaveDone true) s = done ((v.count P.SettingsSaveCount 0).endSave 1 0) := act
  clear_value v
  have counts : s.rdN P.SettingsSaveCount 0 < 0xFFFFFFFE →
      (v.count P.SettingsSaveCount 0).rdN P.SettingsSaveCount 0 = s.rdN P.SettingsSaveCount 0 + 1 := by
    rw [← held]
    exact fun below => v.rdN_countBy_lt (by decide) (by omega)
  have flash : (v.count P.SettingsSaveCount 0).nv = v.nv := State.count_nv ..
  have counted := programmed.count P.SettingsSaveCount 0 (by decide)
  generalize v.count P.SettingsSaveCount 0 = w at *
  have ended := saveEnded_endSave w (result := 1) (by decide) 0
  generalize w.endSave 1 0 = z at *
  have settled : Frame [] [] [] z z.settle := (Frame.refl ..).settle
  obtain ⟨update, result, rests, free⟩ := ended.after settled (by decide) (by decide) (by decide) (by decide)
  have nv : z.settle.nv = v.nv := ((ended.frame.settle).2.nonVolatile (by decide)).trans flash
  have count : z.settle.rdN P.SettingsSaveCount 0 = w.rdN P.SettingsSaveCount 0 :=
    congrArg BitVec.toNat (ended.frame.settle.rd (by decide) (by decide) (by decide) (by decide))
  refine ⟨_, ends, (State.bankOf_congr nv _).trans own, (State.bankOf_congr nv _).trans other, ?_, fun below => ?_, result,
    rests, free, ?_⟩
  · rw [update, counted.2.update (by decide)]
  · rw [count, counts below]
  · exact (counted.weaken (by simp) (by simp) (by simp)).trans (ended.frame.settle.weaken (by simp) (by simp) (by simp))

theorem completes_settingsSaveDone_failed (saving : s.update.save.isSome = true) :
    Completes (.settingsSaveDone false) s fun t => t.nv = s.nv ∧ t.update = { s.update with save := none } ∧
      t.fld P.SettingsStatus 0 12 4 = 3 ∧ t.bit P.SettingsControl 0 1 = false ∧ t.holder Res.flash = 0 ∧
      Frame [] [(P.SettingsControl, 0), (P.SettingsStatus, 0), (P.MaintenanceStatus, 0)] [.update, .transfers, .wdp] s t := by
  obtain ⟨⟨i, bytes, importing⟩, save⟩ := Option.isSome_iff_exists.mp saving
  have act := (exec_settingsSaveDone (ok := false) save).trans (if_neg Bool.false_ne_true)
  have ended := saveEnded_endSave s (result := 3) (by decide) 2
  generalize s.endSave 3 2 = z at *
  have settled : Frame [] [] [] z z.settle := (Frame.refl ..).settle
  obtain ⟨update, result, rests, free⟩ := ended.after settled (by decide) (by decide) (by decide) (by decide)
  exact ⟨_, act, ended.frame.settle.2.nonVolatile (by decide), update, result, rests, free,
    ended.frame.settle.weaken (by simp) (by simp) (by simp)⟩

theorem completes_settingsSaveDone_idle (ok : Bool) (none : s.update.save = none) :
    Completes (.settingsSaveDone ok) s fun t => Frame [] [] [] s t := by
  have act : exec (.settingsSaveDone ok) s = done s := by
    have own : exec (.settingsSaveDone ok) s = execSettingsSaveDone ok s := rfl
    rw [own]
    unfold execSettingsSaveDone
    rw [none]
  exact ⟨_, act, (Frame.refl ..).settle⟩

end Sys2Proof.Machine
end

section
namespace Sys2Proof.Machine

variable {s t u : State}

/-! ### The confirmation of health (R410) -/

theorem row_healthConfirm : Dict.row P.HealthConfirm = some (commandRow P.HealthConfirm .u32 2 4294967295) := by
  decide +kernel

theorem State.writeElement_healthConfirm (s : State) (via : Via) (v : Wide) :
    s.writeElement via (commandRow P.HealthConfirm .u32 2 4294967295) 0 v = s.writeHealth v :=
  State.writeElement_of_unmirrored rfl rfl

theorem State.runningSlot_arbitrate (s : State) (rq : Requester) : (s.arbitrate rq).runningSlot = s.runningSlot := by
  unfold State.runningSlot
  rw [s.arbitrate_power rq]

theorem State.expired_arbitrate {rq : Requester} (h : s.now.expired = none) : (s.arbitrate rq).now.expired = none := by
  unfold State.arbitrate
  split
  · rfl
  · exact h

/-- The word of a write of 5AFEh. -/
theorem healthWord : ¬(BitVec.ofNat 64 (0x5AFE : Word).toNat).toNat % 2 ^ 32 ≠ 0x5AFE := by decide

/-- The running slot is confirmed and its timer ends. -/
def State.healthConfirmed (s : State) (i : Fin 2) : State :=
  (s.setSlot i { s.slotOf i with confirmed := 0 }).setUpdate { s.update with healthTimer := none }

/-- The word that confirms, in a clock that has brought no expiry, while the timer runs. -/
theorem State.writeHealth_timely {n : Nat} {i : Fin 2} (fresh : s.now.expired = none)
    (open_ : s.bit P.UpdateStatus 0 9 = false) (timer : s.update.healthTimer = some n) (runs : s.runningSlot = some i) :
    s.writeHealth (BitVec.ofNat 64 (0x5AFE : Word).toNat) = (s.healthConfirmed i, 0) := by
  unfold State.writeHealth
  rw [if_neg healthWord, fresh, runs]
  dsimp only
  rw [open_, if_neg Bool.false_ne_true, timer]
  rfl

/-- The word after the expiry. -/
theorem State.writeHealth_late (fresh : s.now.expired = none) (late : s.bit P.UpdateStatus 0 9 = true) :
    s.writeHealth (BitVec.ofNat 64 (0x5AFE : Word).toNat) = (s, 2) := by
  unfold State.writeHealth
  rw [if_neg healthWord, fresh]
  cases s.runningSlot with
  | none => exact if_pos late
  | some i => exact if_pos late

theorem completes_healthConfirm {rq : Requester} {i : Fin 2}
    (granted : s.grants rq P.HealthConfirm 0 (0x5AFE : Word).toNat = true) (fresh : s.now.expired = none)
    (open_ : s.bit P.UpdateStatus 0 9 = false) (timed : s.update.healthTimer.isSome = true) (runs : s.runningSlot = some i) :
    Completes (.healthConfirm rq 0x5AFE) s fun t => t.wdp.answer = ⟨0, []⟩ ∧
      t.update = { s.update with healthTimer := none } ∧ t.slotOf i = { s.slotOf i with confirmed := 0 } ∧
      t.slotOf (1 - i) = s.slotOf (1 - i) ∧
      Frame [P.SplitWriteCount] [] [.answer, .update, .nonVolatile, .twin, .wdp] s t := by
  obtain ⟨-, -, update, nv⟩ := s.save_arbitrate rq
  have shown : (s.arbitrate rq).bit P.UpdateStatus 0 9 = false :=
    (State.bit_congr (State.rd_congr (s.arbitrate_regs rq) _ _) _).trans open_
  have run := (s.runningSlot_arbitrate rq).trans runs
  have effect : (s.arbitrate rq).writeElement (s.via rq) (commandRow P.HealthConfirm .u32 2 4294967295) 0
      (BitVec.ofNat 64 (0x5AFE : Word).toNat) = ((s.arbitrate rq).healthConfirmed i, 0) := by
    obtain ⟨n, timer⟩ := Option.isSome_iff_exists.mp timed
    rw [State.writeElement_healthConfirm]
    exact State.writeHealth_timely (State.expired_arbitrate fresh) shown (by rw [update, timer]) run
  have confirmed : Frame [P.SplitWriteCount] [] [.answer, .update, .nonVolatile, .twin, .wdp] (s.arbitrate rq)
      ((s.arbitrate rq).healthConfirmed i) := ((Frame.refl ..).setSlot _ _ (by decide)).setUpdate _ (by decide)
  obtain ⟨t, ht, answer, kept, frame⟩ := completes_granted (c := .healthConfirm rq 0x5AFE) rfl row_healthConfirm (by decide)
    granted effect confirmed (by decide)
  have flash : t.nv = ((s.arbitrate rq).setSlot i { (s.arbitrate rq).slotOf i with confirmed := 0 }).nv :=
    kept.2.nonVolatile (by decide)
  refine ⟨t, ht, answer, ?_, ?_, ?_, frame⟩
  · rw [kept.2.update (by decide), ← update]
    rfl
  · rw [State.slotOf_congr flash, State.slotOf_setSlot_same, State.slotOf_congr nv]
  · rw [State.slotOf_congr flash, State.slotOf_setSlot_other, State.slotOf_congr nv]

theorem completes_healthConfirm_late {rq : Requester} (granted : s.grants rq P.HealthConfirm 0 (0x5AFE : Word).toNat = true)
    (fresh : s.now.expired = none) (late : s.bit P.UpdateStatus 0 9 = true) :
    Completes (.healthConfirm rq 0x5AFE) s fun t => t.wdp.answer = ⟨2, []⟩ ∧ Frame [] [] [.answer] s t := by
  have effect : (s.arbitrate rq).writeElement (s.via rq) (commandRow P.HealthConfirm .u32 2 4294967295) 0
      (BitVec.ofNat 64 (0x5AFE : Word).toNat) = (s.arbitrate rq, 2) := by
    rw [State.writeElement_healthConfirm]
    exact State.writeHealth_late (State.expired_arbitrate fresh)
      ((State.bit_congr (State.rd_congr (s.arbitrate_regs rq) _ _) _).trans late)
  obtain ⟨t, ht, answer, -, frame⟩ := completes_granted (c := .healthConfirm rq 0x5AFE) (ps := []) (es := []) (fs := []) rfl
    row_healthConfirm (by decide) granted effect (.refl ..) (by decide)
  exact ⟨t, ht, answer, frame⟩

/-- Another word is logged alone. -/
theorem State.writeHealth_other {value : Word} (h : value ≠ 0x5AFE) : s.writeHealth (BitVec.ofNat 64 value.toNat) =
    (s.log 0x1F 0x0073 0 ((BitVec.ofNat 64 value.toNat).setWidth 32) 0, 0) := by
  have same : (BitVec.ofNat 64 value.toNat).toNat % 2 ^ 32 = value.toNat := by
    have small : value.toNat < 2 ^ 32 := value.isLt
    rw [BitVec.toNat_ofNat]
    omega
  unfold State.writeHealth
  refine if_pos ?_
  rw [same]
  exact fun eq => h (BitVec.eq_of_toNat_eq eq)

theorem completes_healthConfirm_other {rq : Requester} {value : Word}
    (granted : s.grants rq P.HealthConfirm 0 value.toNat = true) (other : value ≠ 0x5AFE) :
    Completes (.healthConfirm rq value) s fun t => t.wdp.answer = ⟨0, []⟩ ∧ t.nv = s.nv ∧ t.update = s.update ∧
      Frame [P.SplitWriteCount] [] [.answer, .twin, .wdp] s t := by
  have effect : (s.arbitrate rq).writeElement (s.via rq) (commandRow P.HealthConfirm .u32 2 4294967295) 0
      (BitVec.ofNat 64 value.toNat) =
      ((s.arbitrate rq).log 0x1F 0x0073 0 ((BitVec.ofNat 64 value.toNat).setWidth 32) 0, 0) := by
    rw [State.writeElement_healthConfirm]
    exact State.writeHealth_other other
  obtain ⟨t, ht, answer, -, frame⟩ := completes_granted (c := .healthConfirm rq value) (ps := [P.SplitWriteCount]) (es := [])
    (fs := [.twin, .wdp]) rfl row_healthConfirm (by decide) granted effect ((Frame.refl ..).log _ _ _ _ _) (by decide)
  exact ⟨t, ht, answer, frame.2.nonVolatile (by decide), frame.2.update (by decide), frame⟩

/-! ### A confirmation in the clock of the expiry -/

/-- The log without the entry of the expiry. -/
def State.expiryRecalled (s : State) : State :=
  s.recallEntries.2.enterEntries (s.recallEntries.1.filter fun y => y.code.toNat != healthEntry)

theorem State.expiryRecalled_ring (s : State) :
    ∀ y ∈ s.expiryRecalled.trouble.ring.take s.expiryRecalled.now.logged, y.code.toNat ≠ healthEntry :=
  enterEntries_without (by decide) _ _ fun x hx => by simpa using (List.mem_filter.mp hx).2

theorem State.expiryRecalled_queue (s : State) : s.expiryRecalled.trouble.queue = s.trouble.queue :=
  (SameInputs.foldl State.enterEntryAll_sameInputs _ s.recallEntries.2).log

theorem frame_expiryRecalled (s : State) : Frame [] [] [] s s.expiryRecalled :=
  (Frame.refl ..).quiet (s.recallEntries_quiet.trans (State.enterEntries_quiet ..))
    (s.recallEntries_keeps.trans (State.enterEntries_keeps ..))

/-- What a confirmation in the clock of the expiry leaves. -/
def State.expiryUndone (s : State) (i : Fin 2) (x : Slot) : State :=
  let s := (s.expiryRecalled.setSlot i x).setBit P.UpdateStatus 0 9 false
  { s with now := { s.now with expired := none } }

theorem State.writeHealth_expired {i : Fin 2} {x : Slot} (expired : s.now.expired = some x) (runs : s.runningSlot = some i) :
    s.writeHealth (BitVec.ofNat 64 (0x5AFE : Word).toNat) = (s.expiryUndone i { x with confirmed := 0 }, 0) := by
  unfold State.writeHealth
  rw [if_neg healthWord, expired, runs]
  rfl

/-- What stands of it. -/
structure ExpiryUndone (i : Fin 2) (x : Slot) (s t : State) : Prop where
  own : t.slotOf i = x
  other : t.slotOf (1 - i) = s.slotOf (1 - i)
  shown : t.bit P.UpdateStatus 0 9 = false
  log : ∀ y ∈ t.trouble.ring.take t.now.logged, y.code.toNat ≠ healthEntry
  queue : t.trouble.queue = s.trouble.queue
  frame : Frame [] [(P.UpdateStatus, 0)] [.nonVolatile] s t

theorem expiryUndone_stands (s : State) (i : Fin 2) (x : Slot) : ExpiryUndone i x s (s.expiryUndone i x) := by
  have ring := s.expiryRecalled_ring
  have queue := s.expiryRecalled_queue
  have recalled := frame_expiryRecalled s
  unfold State.expiryUndone
  generalize s.expiryRecalled = v at *
  obtain ⟨nv, slots, -⟩ := v.setSlot_eq i x
  have own := v.slotOf_setSlot_same i x
  have other := v.slotOf_setSlot_other i x
  have placed : Frame [] [(P.UpdateStatus, 0)] [.nonVolatile] s (v.setSlot i x) :=
    Frame.setSlot _ _ (recalled.weaken (by simp) (by simp) (by simp)) (by decide)
  have log : (v.setSlot i x).trouble = v.trouble ∧ (v.setSlot i x).now = v.now := by rw [slots]; exact ⟨rfl, rfl⟩
  generalize v.setSlot i x = w at *
  obtain ⟨trouble, now⟩ := log
  dsimp only
  have bit := State.bit_setBit w P.UpdateStatus 0 9 9 false (by decide)
  have shown : Frame [] [(P.UpdateStatus, 0)] [.nonVolatile] s (w.setBit P.UpdateStatus 0 9 false) :=
    placed.setBit _ _ _ _ (by decide)
  have same : (w.setBit P.UpdateStatus 0 9 false).trouble = w.trouble ∧ (w.setBit P.UpdateStatus 0 9 false).now = w.now ∧
    (w.setBit P.UpdateStatus 0 9 false).nv = w.nv := ⟨rfl, rfl, rfl⟩
  generalize w.setBit P.UpdateStatus 0 9 false = z at *
  obtain ⟨log, clock, flash⟩ := same
  have whole : Frame [] [(P.UpdateStatus, 0)] [.nonVolatile] s { z with now := { z.now with expired := none } } := shown.now _
  refine ⟨(State.slotOf_congr flash i).trans own, ?_, (State.bit_congr rfl 9).trans (bit.trans (if_pos rfl)), ?_, ?_, whole⟩
  · exact (State.slotOf_congr flash _).trans (other.trans (State.slotOf_congr (recalled.2.nonVolatile (by decide)) _))
  · have logged : ({ z with now := { z.now with expired := none } } : State).now.logged = z.now.logged := rfl
    rw [logged, clock, now]
    show ∀ y ∈ z.trouble.ring.take _, _
    rw [log, trouble]
    exact ring
  · show z.trouble.queue = _
    rw [log, trouble, queue]

theorem completes_healthConfirm_expired {rq : Requester} {i : Fin 2} {x : Slot}
    (granted : s.grants rq P.HealthConfirm 0 (0x5AFE : Word).toNat = true)
    (expired : (s.arbitrate rq).now.expired = some x) (quiet : s.trouble.queue = []) (runs : s.runningSlot = some i) :
    Completes (.healthConfirm rq 0x5AFE) s fun t => t.wdp.answer = ⟨0, []⟩ ∧ t.slotOf i = { x with confirmed := 0 } ∧
      t.slotOf (1 - i) = s.slotOf (1 - i) ∧ t.bit P.UpdateStatus 0 9 = false ∧ t.update = s.update ∧
      (∀ y ∈ t.trouble.ring.take t.now.logged, y.code.toNat ≠ healthEntry) ∧
      Frame [P.SplitWriteCount] [(P.UpdateStatus, 0)] [.answer, .nonVolatile, .trouble, .twin, .wdp] s t := by
  obtain ⟨-, -, -, nv⟩ := s.save_arbitrate rq
  have undone := expiryUndone_stands (s.arbitrate rq) i { x with confirmed := 0 }
  have queue : (s.arbitrate rq).trouble.queue = [] := by
    obtain ⟨n, hn⟩ := s.arbitrate_eq rq
    rw [hn]
    exact quiet
  have effect : (s.arbitrate rq).writeElement (s.via rq) (commandRow P.HealthConfirm .u32 2 4294967295) 0
      (BitVec.ofNat 64 (0x5AFE : Word).toNat) = ((s.arbitrate rq).expiryUndone i { x with confirmed := 0 }, 0) := by
    rw [State.writeElement_healthConfirm]
    exact State.writeHealth_expired expired ((s.runningSlot_arbitrate rq).trans runs)
  generalize (s.arbitrate rq).expiryUndone i { x with confirmed := 0 } = v at *
  obtain ⟨t, ht, answer, kept, frame⟩ := completes_granted (c := .healthConfirm rq 0x5AFE) (ps := [P.SplitWriteCount])
    (fs := [.nonVolatile, .trouble, .twin, .wdp]) rfl row_healthConfirm (by decide) granted effect
    (undone.frame.weaken (by simp) (fun _ h => h) (by simp)) (by decide)
  have answered : exec (.healthConfirm rq 0x5AFE) s = done (v.answerOne rq 0 []) :=
    congrArg done (State.serveOne_eq_answerOne row_healthConfirm (by decide) granted effect)
  have ends : t = (v.answerOne rq 0 []).settle := Host.Outcome.next.inj (ht.symm.trans answered)
  have log : (v.answerOne rq 0 []).trouble = v.trouble ∧ (v.answerOne rq 0 []).now = v.now := by
    unfold State.answerOne
    exact iteInduction (motive := fun x : State => x.trouble = v.trouble ∧ x.now = v.now) (fun _ => ⟨rfl, rfl⟩)
      fun _ => ⟨rfl, rfl⟩
  have stands := sameLog_settle (s := v.answerOne rq 0 []) (by rw [log.1, undone.queue, queue])
  have flash : t.nv = v.nv := kept.2.nonVolatile (by decide)
  refine ⟨t, ht, answer, (State.slotOf_congr flash _).trans undone.own, ?_, ?_, frame.2.update (by decide), ?_, frame⟩
  · rw [State.slotOf_congr flash, undone.other, State.slotOf_congr nv]
  · rw [State.bit_congr (kept.rd (by decide) (by decide) List.not_mem_nil List.not_mem_nil), undone.shown]
  · rw [ends, stands.trouble, stands.logged, log.1, log.2]
    exact undone.log

/-! ### The expiry of the health timer -/

/-- The running slot is rejected and its timer ends. -/
def State.healthExpired (s : State) (i : Fin 2) : State :=
  let now := { s.now with expired := some (s.slotOf i) }
  (({ s with now := now }.setSlot i { s.slotOf i with rejected := 0 }).setBit P.UpdateStatus 0 9 true).setUpdate
    { s.update with healthTimer := none }

theorem exec_healthTimerExpiry {i : Fin 2} (timed : s.update.healthTimer.isSome = true) (runs : s.runningSlot = some i) :
    exec .healthTimerExpiry s = done ((s.healthExpired i).log 0x1F healthEntry i.val 0 0) := by
  obtain ⟨n, timer⟩ := Option.isSome_iff_exists.mp timed
  have act : exec .healthTimerExpiry s = execHealthTimerExpiry s := rfl
  rw [act]
  unfold execHealthTimerExpiry State.healthExpired
  rw [timer, runs]
  dsimp only
  obtain ⟨nv, slots, -⟩ :=
    ({ s with now := { s.now with expired := some (s.slotOf i) } } : State).setSlot_eq i { s.slotOf i with rejected := 0 }
  rw [slots]
  rfl

theorem completes_healthTimerExpiry {i : Fin 2} (timed : s.update.healthTimer.isSome = true)
    (runs : s.runningSlot = some i) : Completes .healthTimerExpiry s fun t =>
      t.update = { s.update with healthTimer := none } ∧ t.slotOf i = { s.slotOf i with rejected := 0 } ∧
      t.slotOf (1 - i) = s.slotOf (1 - i) ∧ t.bit P.UpdateStatus 0 9 = true ∧
      Frame [] [(P.UpdateStatus, 0)] [.update, .nonVolatile] s t := by
  let v : State := { s with now := { s.now with expired := some (s.slotOf i) } }
  have same : v.nv = s.nv := rfl
  have noted : Frame [] [(P.UpdateStatus, 0)] [.update, .nonVolatile] s v := (Frame.refl ..).now _
  have shape : s.healthExpired i = ((v.setSlot i { s.slotOf i with rejected := 0 }).setBit P.UpdateStatus 0 9 true).setUpdate
    { s.update with healthTimer := none } := rfl
  clear_value v
  have own := v.slotOf_setSlot_same i { s.slotOf i with rejected := 0 }
  have other := v.slotOf_setSlot_other i { s.slotOf i with rejected := 0 }
  have placed := noted.setSlot i { s.slotOf i with rejected := 0 } (by decide)
  have act := exec_healthTimerExpiry timed runs
  generalize v.setSlot i { s.slotOf i with rejected := 0 } = w at *
  have bit : (s.healthExpired i).bit P.UpdateStatus 0 9 = true := by
    rw [shape]
    exact (State.bit_setBit w P.UpdateStatus 0 9 9 true (by decide)).trans (if_pos rfl)
  have flash : (s.healthExpired i).nv = w.nv := by
    rw [shape]
    rfl
  have update : (s.healthExpired i).update = { s.update with healthTimer := none } := by
    rw [shape]
    rfl
  have expired : Frame [] [(P.UpdateStatus, 0)] [.update, .nonVolatile] s (s.healthExpired i) := by
    rw [shape]
    exact (placed.setBit _ _ _ _ (by decide)).setUpdate _ (by decide)
  generalize s.healthExpired i = z at *
  have logged : Frame [] [] [] z (z.log 0x1F healthEntry i.val 0 0).settle := ((Frame.refl ..).log _ _ _ _ _).settle
  have nv : (z.log 0x1F healthEntry i.val 0 0).settle.nv = w.nv := (logged.2.nonVolatile (by decide)).trans flash
  exact ⟨_, act, (logged.2.update (by decide)).trans update, (State.slotOf_congr nv _).trans own,
    (State.slotOf_congr nv _).trans (other.trans (State.slotOf_congr same _)),
    (State.bit_congr (logged.rd (by decide) (by decide) List.not_mem_nil List.not_mem_nil) _).trans bit,
    (expired.log _ _ _ _ _).settle⟩

theorem completes_healthTimerExpiry_idle (h : s.update.healthTimer = none ∨ s.runningSlot = none) :
    Completes .healthTimerExpiry s fun t => Frame [] [] [] s t := by
  have act : exec .healthTimerExpiry s = done s := by
    have own : exec .healthTimerExpiry s = execHealthTimerExpiry s := rfl
    rw [own]
    unfold execHealthTimerExpiry
    split
    · next timer run => rcases h with h | h <;> simp_all
    · rfl
  exact ⟨_, act, (Frame.refl ..).settle⟩

/-! ### The version floor (R411) -/

theorem row_floorRequest : Dict.row P.FloorRequest = some (commandRow P.FloorRequest .u16 2 65535) := by decide +kernel

theorem State.writeElement_floorRequest (s : State) (via : Via) (v : Wide) :
    s.writeElement via (commandRow P.FloorRequest .u16 2 65535) 0 v = s.writeFloor v :=
  State.writeElement_of_unmirrored rfl rfl

theorem toNat_ofNat_half (x : Half) : (BitVec.ofNat 64 x.toNat).toNat % 65536 = x.toNat := by
  have small : x.toNat < 65536 := x.isLt
  rw [BitVec.toNat_ofNat]
  omega

/-- The floor is raised. -/
def State.floorRaised (s : State) (version : Half) : State := { s with nv := { s.nv with floor := version } }

/-- The floor rises to a version of the confirmed running image. -/
theorem State.writeFloor_rises {version : Half} {i : Fin 2} (runs : s.runningSlot = some i) (confirmed : (s.slotOf i).code = 3)
    (own : version.toNat ≤ (s.slotOf i).version) (above : s.nv.floor.toNat ≤ version.toNat) :
    s.writeFloor (BitVec.ofNat 64 version.toNat) = (s.floorRaised version, 0) := by
  unfold State.writeFloor
  dsimp only
  rw [toNat_ofNat_half, runs, BitVec.ofNat_toNat, BitVec.setWidth_eq]
  exact if_pos ⟨confirmed, own, above⟩

/-- It never falls. -/
theorem State.writeFloor_below {version : Half} (below : version.toNat < s.nv.floor.toNat) :
    s.writeFloor (BitVec.ofNat 64 version.toNat) = (s, 2) := by
  unfold State.writeFloor
  dsimp only
  rw [toNat_ofNat_half]
  split
  · exact if_neg fun h => absurd h.2.2 (Nat.not_le.mpr below)
  · rfl

theorem completes_floorRequest {rq : Requester} {version : Half} {i : Fin 2}
    (granted : s.grants rq P.FloorRequest 0 version.toNat = true) (runs : s.runningSlot = some i)
    (confirmed : (s.slotOf i).code = 3) (own : version.toNat ≤ (s.slotOf i).version)
    (above : s.nv.floor.toNat ≤ version.toNat) : Completes (.floorRequest rq version) s fun t => t.wdp.answer = ⟨0, []⟩ ∧
      t.nv = { s.nv with floor := version } ∧ s.nv.floor.toNat ≤ t.nv.floor.toNat ∧
      Frame [P.SplitWriteCount] [] [.answer, .nonVolatile, .twin, .wdp] s t := by
  obtain ⟨-, -, -, nv⟩ := s.save_arbitrate rq
  have slot := State.slotOf_congr nv i
  have run := (s.runningSlot_arbitrate rq).trans runs
  have effect : (s.arbitrate rq).writeElement (s.via rq) (commandRow P.FloorRequest .u16 2 65535) 0
      (BitVec.ofNat 64 version.toNat) = ((s.arbitrate rq).floorRaised version, 0) := by
    rw [State.writeElement_floorRequest]
    exact State.writeFloor_rises run (slot ▸ confirmed) (slot ▸ own) (nv ▸ above)
  obtain ⟨t, ht, answer, kept, frame⟩ := completes_granted (c := .floorRequest rq version) (ps := [P.SplitWriteCount])
    (es := []) (fs := [.nonVolatile, .twin, .wdp]) rfl row_floorRequest (by decide) granted effect
    ((Frame.refl ..).nv _ (by decide)) (by decide)
  have raised : ((s.arbitrate rq).floorRaised version).nv = { s.nv with floor := version } := by
    rw [← nv]
    rfl
  have flash : t.nv = { s.nv with floor := version } := (kept.2.nonVolatile (by decide)).trans raised
  exact ⟨t, ht, answer, flash, by rw [flash]; exact above, frame⟩

theorem completes_floorRequest_below {rq : Requester} {version : Half}
    (granted : s.grants rq P.FloorRequest 0 version.toNat = true) (below : version.toNat < s.nv.floor.toNat) :
    Completes (.floorRequest rq version) s fun t => t.wdp.answer = ⟨2, []⟩ ∧ Frame [] [] [.answer] s t := by
  obtain ⟨-, -, -, nv⟩ := s.save_arbitrate rq
  have effect : (s.arbitrate rq).writeElement (s.via rq) (commandRow P.FloorRequest .u16 2 65535) 0
      (BitVec.ofNat 64 version.toNat) = (s.arbitrate rq, 2) := by
    rw [State.writeElement_floorRequest]
    exact State.writeFloor_below (by rw [nv]; exact below)
  obtain ⟨t, ht, answer, -, frame⟩ := completes_granted (c := .floorRequest rq version) (ps := []) (es := []) (fs := []) rfl
    row_floorRequest (by decide) granted effect (.refl ..) (by decide)
  exact ⟨t, ht, answer, frame⟩

/-- Settles O55: image writes, the confirmation of health, the version floor and the saves of the settings. -/
theorem imagesHealthAndSettings : Obligations.ImagesHealthAndSettings := by
  unfold Obligations.ImagesHealthAndSettings
  refine ⟨?written, ?mismatch, ?noImage, ?confirms, ?late, ?undoes, ?word, ?expires, ?untimed, ?rises, ?below, ?saves, ?busy,
    ?aborts, ?sameClock, ?saved, ?failed, ?noSave⟩
  case written => exact fun s i body writing => completes_imageWriteDone writing
  case mismatch => exact fun s off i body writing => completes_imageWriteDone_mismatch writing
  case noImage => exact fun s mismatch none => completes_imageWriteDone_idle mismatch none
  case confirms =>
    rintro s rq value i r ⟨granted, rfl, fresh, open_, timed, runs, -⟩
    exact completes_healthConfirm granted fresh open_ timed runs
  case late =>
    rintro s rq value ⟨granted, rfl, fresh, late⟩
    exact completes_healthConfirm_late granted fresh late
  case undoes =>
    rintro s rq value i x r ⟨granted, rfl, expired, quiet, runs, -⟩
    exact completes_healthConfirm_expired granted expired quiet runs
  case word =>
    rintro s rq value ⟨granted, other⟩
    exact completes_healthConfirm_other granted other
  case expires =>
    rintro s i ⟨timed, runs⟩
    exact completes_healthTimerExpiry timed runs
  case untimed => exact fun s h => completes_healthTimerExpiry_idle h
  case rises =>
    rintro s rq version i ⟨granted, runs, confirmed, own, above⟩
    exact completes_floorRequest granted runs confirmed own above
  case below =>
    rintro s rq version ⟨granted, below⟩
    exact completes_floorRequest_below granted below
  case saves =>
    rintro s rq ⟨granted, free⟩
    exact completes_settingsSave granted free
  case busy =>
    rintro s rq ⟨granted, taken⟩
    exact completes_settingsSave_busy granted taken
  case aborts =>
    rintro s rq ⟨granted, saving⟩
    exact completes_settingsSaveAbort granted saving
  case sameClock =>
    rintro s rq ⟨permitted, granted, heard⟩
    exact completes_abort_sameClock rfl permitted granted heard
  case saved => exact fun s i bytes importing saving => completes_settingsSaveDone saving
  case failed => exact fun s saving => completes_settingsSaveDone_failed saving
  case noSave => exact fun s ok none => completes_settingsSaveDone_idle ok none

end Sys2Proof.Machine
end

section
namespace Sys2Proof.Machine

variable {s t u : State}

/-! ### Firmware's words of the trouble log (R424) -/

/-- The dictionary's row of PF203. -/
def troubleWriteRow : Row :=
  ⟨P.TroubleWrite, .u32, .wo, 15, 0, 1, 0, 4294967295, 4294967295, 0, 0, false, false, false, .none, 0⟩

theorem row_troubleWrite : Dict.row P.TroubleWrite = some troubleWriteRow := by decide +kernel

theorem State.writeElement_troubleWrite (s : State) (via : Via) (e : Nat) (v : Wide) :
    s.writeElement via troubleWriteRow e v = (s.writeTroubleWord e v, 0) :=
  State.writeElement_of_unmirrored rfl rfl

/-- The state whose clock's notes, log and answer are replaced. -/
def State.logTouched (s : State) (n : ThisClock) (x : Trouble) (a : Answer) : State :=
  { s with now := n, trouble := x, wdp := { s.wdp with answer := a } }

/-- What a write must pass reads nothing of them. -/
theorem State.grants_logTouched (s : State) (n : ThisClock) (x : Trouble) (a : Answer) (rq : Requester) (p e v : Nat) :
    (s.logTouched n x a).grants rq p e v = s.grants rq p e v := rfl

theorem State.valueOk_troubleWrite (s : State) (e : Nat) {v : Nat} (h : v < 2 ^ 32) :
    s.valueOk troubleWriteRow e v = true := by
  have range : troubleWriteRow.inRange v = true := by
    unfold Row.inRange troubleWriteRow
    simp only [Bool.and_eq_true, decide_eq_true_eq]
    omega
  unfold State.valueOk
  rw [range]
  rfl

theorem State.clonesAfter_troubleWrite (s : State) (vs : List (Nat × Nat)) : s.clonesAfter P.TroubleWrite vs = true := rfl

/-- A word that passes as zero passes with every value. -/
theorem State.grants_troubleWrite {rq : Requester} {e v : Nat} (h : v < 2 ^ 32)
    (granted : s.grants rq P.TroubleWrite e 0 = true) : s.grants rq P.TroubleWrite e v = true := by
  have width : 2 ^ (8 * troubleWriteRow.ty.bytes) = 2 ^ 32 := rfl
  have zero : 0 < 2 ^ 32 := by decide
  unfold State.grants at *
  rw [row_troubleWrite] at *
  simp only [State.valueOk_troubleWrite s e h, State.valueOk_troubleWrite s e zero, State.clonesAfter_troubleWrite, width, h,
    zero, decide_true] at granted ⊢
  exact granted

/-- One word of an entry is taken and answered. -/
theorem State.serveOne_troubleWrite {rq : Requester} {e v : Nat} (h : v < 2 ^ 32)
    (granted : s.grants rq P.TroubleWrite e 0 = true) :
    ∃ n, (s.now.logged = 0 → n.logged = 0) ∧ s.serveOne rq P.TroubleWrite e v =
      (({ s with now := n } : State).writeTroubleWord e (BitVec.ofNat 64 v)).answerOne rq 0 [] := by
  have noted : ∃ n, (s.now.logged = 0 → n.logged = 0) ∧ s.arbitrate rq = { s with now := n } := by
    unfold State.arbitrate
    split
    · exact ⟨_, fun _ => rfl, rfl⟩
    · exact ⟨{ s.now with rank := rq.rank }, id, rfl⟩
  obtain ⟨n, fresh, at_⟩ := noted
  refine ⟨n, fresh, ?_⟩
  rw [← at_]
  exact State.serveOne_eq_answerOne row_troubleWrite (by decide) (State.grants_troubleWrite h granted)
    (State.writeElement_troubleWrite ..)

/-- A word of an entry is held. -/
def Trouble.withWord (x : Trouble) (e : Nat) (w : Word) : Trouble := { x with partials := SMap.set 0 x.partials e w }

/-- The first two words of an entry wait for the third. -/
theorem State.serveOne_troubleWrite_waits {rq : Requester} {e v : Nat} (h : v < 2 ^ 32)
    (granted : s.grants rq P.TroubleWrite e 0 = true) (early : e % 4 ≠ 2) (real : e % 4 ≠ 3) :
    ∃ n, (s.now.logged = 0 → n.logged = 0) ∧ s.serveOne rq P.TroubleWrite e v =
      s.logTouched n (s.trouble.withWord e (BitVec.ofNat 32 v)) ⟨0, []⟩ := by
  obtain ⟨n, fresh, served⟩ := State.serveOne_troubleWrite h granted
  have word : (BitVec.ofNat 64 v).setWidth 32 = BitVec.ofNat 32 v := BitVec.setWidth_ofNat_of_le (by decide) v
  have takes : ({ s with now := n } : State).writeTroubleWord e (BitVec.ofNat 64 v) =
      s.logTouched n (s.trouble.withWord e (BitVec.ofNat 32 v)) s.wdp.answer := by
    unfold State.writeTroubleWord
    dsimp only
    rw [if_neg early, if_neg real, word]
    rfl
  have room : ∀ x a, 40 ≤ (s.logTouched n x a).responseLimit rq := fun x a => by
    rw [State.responseLimit_congr (s := s) (t := s.logTouched n x a) rfl]
    exact State.responseLimit_of_grants granted
  refine ⟨n, fresh, ?_⟩
  rw [served, takes, State.answerOne_eq_answer 0 (room _ _)]
  rfl

/-! ### The entry that the third word enters -/

/-- The entry of the words. -/
def State.firmwareEntry (s : State) (source aux : Byte) (code : Half) (arg0 arg1 : Word) : TroubleEntry :=
  { tns := s.tns, seconds := s.seconds, sequence := 0, source := source, aux := aux, code := code, arg0 := arg0, arg1 := arg1 }

/-- The first word of an entry. -/
def entryHead (source aux : Byte) (code : Half) : Nat := source.toNat * 2 ^ 24 + aux.toNat * 2 ^ 16 + code.toNat

theorem entryHead_fields (source aux : Byte) (code : Half) : entryHead source aux code < 2 ^ 32 ∧
    entryHead source aux code / 2 ^ 24 = source.toNat ∧ entryHead source aux code % 2 ^ 16 = code.toNat ∧
    entryHead source aux code / 2 ^ 16 % 256 = aux.toNat := by
  have a := source.isLt
  have b := aux.isLt
  have c := code.isLt
  unfold entryHead
  omega

/-- The writer's queue takes an entry. -/
theorem State.log_of_empty (empty : s.trouble.queue = []) (source aux : Byte) (code : Half) (arg0 arg1 : Word) :
    s.log source.toNat code.toNat aux.toNat arg0 arg1 =
      { s with trouble := { s.trouble with queue := [s.firmwareEntry source aux code arg0 arg1] } } := by
  unfold State.log State.enqueue
  rw [empty, if_neg (by decide)]
  simp only [BitVec.ofNat_toNat, BitVec.setWidth_eq]
  rfl

/-- The ring takes one entry where it has room. -/
theorem State.enterEntries_one (x : TroubleEntry) (room : s.trouble.ring.length < 4096) :
    (s.enterEntries [x]).trouble.ring =
      ({ x with sequence := (s.rd P.TroubleIndex 0).setWidth 32 } :: s.trouble.ring).take 4096 ∧
    (s.enterEntries [x]).rd P.TroubleIndex 0 = (s.rd P.TroubleIndex 0 + 1) &&& 0xFFFFFFFF := by
  have roomy : decide (4096 ≤ s.trouble.ring.length) = false := decide_eq_false (by omega)
  have entered : s.enterEntryAll x = ({ s with trouble := { s.trouble with ring :=
      ({ x with sequence := (s.rd P.TroubleIndex 0).setWidth 32 } :: s.trouble.ring).take 4096 } } : State).wr P.TroubleIndex 0
        ((s.rd P.TroubleIndex 0 + 1) &&& 0xFFFFFFFF) := by
    unfold State.enterEntryAll State.enterEntry
    rw [roomy]
    rfl
  unfold State.enterEntries
  rw [List.foldl_cons, List.foldl_nil, entered]
  exact ⟨rfl, State.rd_wr_same ..⟩

/-- An index that no entry of this clock has moved. -/
theorem index_unmoved (i : Wide) : (((i - BitVec.ofNat 64 0) &&& 0xFFFFFFFF) + 1) &&& 0xFFFFFFFF = (i + 1) &&& 0xFFFFFFFF ∧
    ((i - BitVec.ofNat 64 0) &&& 0xFFFFFFFF).setWidth 32 = i.setWidth 32 := by
  have one : (1 : Wide).toNat = 1 := rfl
  have unmoved : i - BitVec.ofNat 64 0 = i := BitVec.sub_zero i
  rw [unmoved]
  constructor
  · refine BitVec.eq_of_toNat_eq ?_
    rw [toNat_low_word, toNat_low_word, BitVec.toNat_add, BitVec.toNat_add, toNat_low_word, one]
    omega
  · refine BitVec.eq_of_toNat_eq ?_
    rw [BitVec.toNat_setWidth, BitVec.toNat_setWidth, toNat_low_word, Nat.mod_mod]

/-- A command that gives the log one entry, the first of its clock. -/
theorem settle_one_entry {x : TroubleEntry} (queue : s.trouble.queue = [x]) (first : s.now.logged = 0)
    (room : s.trouble.ring.length < 4096) :
    s.settle.trouble.ring = ({ x with sequence := (s.rd P.TroubleIndex 0).setWidth 32 } :: s.trouble.ring).take 4096 ∧
    s.settle.rd P.TroubleIndex 0 = (s.rd P.TroubleIndex 0 + 1) &&& 0xFFFFFFFF := by
  have traced := sameLog_drainTrace s
  unfold State.settle State.drainLog
  generalize s.drainTrace = v at *
  obtain ⟨trouble, index, logged⟩ := traced
  let w : State := { v with trouble := { v.trouble with queue := [] } }
  have ring : w.trouble.ring = s.trouble.ring := (congrArg Trouble.ring trouble :)
  have none : w.now.logged = 0 := logged.trans first
  have held : w.rd P.TroubleIndex 0 = s.rd P.TroubleIndex 0 := index
  have takes : w.takeEntries v.trouble.queue = w.takeEntries [x] := by rw [trouble, queue]
  show (w.takeEntries v.trouble.queue).trouble.ring = _ ∧ (w.takeEntries v.trouble.queue).rd P.TroubleIndex 0 = _
  rw [takes]
  clear_value w
  have recalled : w.recallEntries.1 = [] := by
    unfold State.recallEntries
    rw [none]
    rfl
  have kept : w.recallEntries.2.trouble.ring = s.trouble.ring := by
    unfold State.recallEntries
    rw [none, ← ring]
    rfl
  have moved : w.recallEntries.2.rd P.TroubleIndex 0 = (s.rd P.TroubleIndex 0 - BitVec.ofNat 64 0) &&& 0xFFFFFFFF := by
    unfold State.recallEntries
    rw [none, ← held]
    exact State.rd_wr_same ..
  have enters : w.takeEntries [x] = w.recallEntries.2.enterEntries [x] := by
    unfold State.takeEntries
    rw [recalled]
    rfl
  rw [enters]
  obtain ⟨ringed, indexed⟩ := State.enterEntries_one (s := w.recallEntries.2) x (by rw [kept]; exact room)
  obtain ⟨next, sequence⟩ := index_unmoved (s.rd P.TroubleIndex 0)
  rw [moved, kept] at ringed
  rw [moved] at indexed
  exact ⟨by rw [ringed, sequence], by rw [indexed, next]⟩

end Sys2Proof.Machine
end

section
namespace Sys2Proof.Machine

variable {s t u : State}

/-! ### A firmware entry (R424) -/

theorem frame_logTouched (s : State) (n : ThisClock) (x : Trouble) (a : Answer) (ps : List Nat) :
    Frame ps [] [.answer, .trouble] s (s.logTouched n x a) :=
  Frame.answer a.status a.data (Frame.setTrouble x ((Frame.refl ..).now n) (by decide)) (by decide)

/-- The log's state after two of an entry's words. -/
def Trouble.twoWords (x : Trouble) (e : Nat) (head arg0 : Word) : Trouble := (x.withWord e head).withWord (e + 1) arg0

/-- The log's writer is given an entry. -/
def Trouble.given (x : Trouble) (y : TroubleEntry) : Trouble := { x with queue := [y] }

theorem Trouble.get_twoWords (x : Trouble) (e : Nat) (head arg0 : Word) :
    SMap.get 0 (x.twoWords e head arg0).partials e = head ∧
    SMap.get 0 (x.twoWords e head arg0).partials (e + 1) = arg0 := by
  unfold Trouble.twoWords Trouble.withWord
  exact ⟨(SMap.get_set_other _ _ _ _ _ _ (Nat.succ_ne_self e).symm).trans (SMap.get_set_same ..), SMap.get_set_same ..⟩

theorem Trouble.queue_twoWords (x : Trouble) (e : Nat) (head arg0 : Word) : (x.twoWords e head arg0).queue = x.queue := rfl

theorem Trouble.ring_twoWords (x : Trouble) (e : Nat) (head arg0 : Word) : (x.twoWords e head arg0).ring = x.ring := rfl

/-- The places of an entry's words. -/
theorem wordPlaces {e : Nat} (aligned : e % 4 = 0) : e % 4 ≠ 2 ∧ e % 4 ≠ 3 ∧ (e + 1) % 4 ≠ 2 ∧ (e + 1) % 4 ≠ 3 ∧
    (e + 2) % 4 = 2 ∧ e + 2 - 2 = e ∧ e + 2 - 1 = e + 1 := by omega

theorem State.firmwareEntry_logTouched (s : State) (n : ThisClock) (x : Trouble) (a : Answer) (source aux : Byte) (code : Half)
    (arg0 arg1 : Word) :
    (s.logTouched n x a).firmwareEntry source aux code arg0 arg1 = s.firmwareEntry source aux code arg0 arg1 := by
  have time : (s.logTouched n x a).fullTime = s.fullTime := State.fullTime_congr rfl rfl rfl
  have tns : (s.logTouched n x a).tns = s.tns := rfl
  unfold State.firmwareEntry State.seconds
  rw [time, tns]

/-- The third word enters what the three give. -/
theorem State.writeTroubleWord_third {e : Nat} (aligned : e % 4 = 0) (n : ThisClock) (x : Trouble) (a : Answer)
    (empty : x.queue = []) (source aux : Byte) (code : Half) (arg0 arg1 : Word) :
    (s.logTouched n (x.twoWords e (BitVec.ofNat 32 (entryHead source aux code)) arg0) a).writeTroubleWord (e + 2)
        (BitVec.ofNat 64 arg1.toNat) =
      s.logTouched n ((x.twoWords e (BitVec.ofNat 32 (entryHead source aux code)) arg0).given
        (s.firmwareEntry source aux code arg0 arg1)) a := by
  obtain ⟨small, top, low, mid⟩ := entryHead_fields source aux code
  generalize entryHead source aux code = w at *
  have head : (BitVec.ofNat 32 w).toNat = w := (BitVec.toNat_ofNat w 32).trans (Nat.mod_eq_of_lt small)
  generalize BitVec.ofNat 32 w = h at *
  obtain ⟨first, second⟩ := x.get_twoWords e h arg0
  obtain ⟨-, -, -, -, third, before, between⟩ := wordPlaces aligned
  have kept : (x.twoWords e h arg0).queue = [] := (x.queue_twoWords e h arg0).trans empty
  generalize x.twoWords e h arg0 = y at *
  have partials : (s.logTouched n y a).trouble.partials = y.partials := rfl
  unfold State.writeTroubleWord
  dsimp only
  rw [if_pos third, partials, before, between, first, second, head, top, low, mid, setWidth_ofNat_word]
  rw [State.log_of_empty (s := s.logTouched n y a) kept source aux code arg0 arg1, State.firmwareEntry_logTouched]
  generalize s.firmwareEntry source aux code arg0 arg1 = z
  rfl

/-- The requester of a core in machine mode. -/
def coreRequester (core : Fin 4) : Requester := { path := .window core true, session := 0, addr := 0, udp := 0 }

theorem exec_troubleWrite {core : Fin 4} (source aux : Byte) (code : Half) (arg0 arg1 : Word) (empty : s.trouble.queue = [])
    (granted : ∀ j < 3, s.grants (coreRequester core) P.TroubleWrite (4 * core.val + j) 0 = true) :
    ∃ (n : ThisClock) (x : Trouble), (s.now.logged = 0 → n.logged = 0) ∧ x.ring = s.trouble.ring ∧
      exec (.troubleWrite core source aux code arg0 arg1) s =
        done (s.logTouched n (x.given (s.firmwareEntry source aux code arg0 arg1)) ⟨0, []⟩) := by
  have act : exec (.troubleWrite core source aux code arg0 arg1) s =
      done (((s.serveOne (coreRequester core) P.TroubleWrite (4 * core.val)
        (source.toNat * 2 ^ 24 + aux.toNat * 2 ^ 16 + code.toNat)).serveOne (coreRequester core) P.TroubleWrite
        (4 * core.val + 1) arg0.toNat).serveOne (coreRequester core) P.TroubleWrite (4 * core.val + 2) arg1.toNat) := rfl
  have named : source.toNat * 2 ^ 24 + aux.toNat * 2 ^ 16 + code.toNat = entryHead source aux code := by unfold entryHead; rfl
  rw [named] at act
  have argument : BitVec.ofNat 32 arg0.toNat = arg0 := by rw [BitVec.ofNat_toNat, BitVec.setWidth_eq]
  obtain ⟨first₂, first₃, second₂, second₃, -⟩ := wordPlaces (Nat.mul_mod_right 4 core.val)
  have passes : ∀ n x a, ∀ j < 3, (s.logTouched n x a).grants (coreRequester core) P.TroubleWrite (4 * core.val + j) 0 = true :=
    fun n x a j hj => (s.grants_logTouched n x a _ _ _ _).trans (granted j hj)
  obtain ⟨n₁, fresh₁, one⟩ := State.serveOne_troubleWrite_waits (s := s) (entryHead_fields source aux code).1
    (granted 0 (by decide)) first₂ first₃
  rw [Nat.add_zero] at one
  let x₁ := s.trouble.withWord (4 * core.val) (BitVec.ofNat 32 (entryHead source aux code))
  obtain ⟨n₂, fresh₂, two⟩ := State.serveOne_troubleWrite_waits (s := s.logTouched n₁ x₁ ⟨0, []⟩) arg0.isLt
    (passes n₁ x₁ _ 1 (by decide)) second₂ second₃
  let x₂ := s.trouble.twoWords (4 * core.val) (BitVec.ofNat 32 (entryHead source aux code)) arg0
  have both : (s.logTouched n₁ x₁ ⟨0, []⟩).serveOne (coreRequester core) P.TroubleWrite (4 * core.val + 1) arg0.toNat =
      s.logTouched n₂ x₂ ⟨0, []⟩ := by
    rw [two, argument]
    rfl
  obtain ⟨n₃, fresh₃, three⟩ := State.serveOne_troubleWrite (s := s.logTouched n₂ x₂ ⟨0, []⟩) arg1.isLt
    (passes n₂ x₂ _ 2 (by decide))
  have noted : ({ (s.logTouched n₂ x₂ ⟨0, []⟩) with now := n₃ } : State) = s.logTouched n₃ x₂ ⟨0, []⟩ := rfl
  have room : ∀ x a, 40 ≤ (s.logTouched n₃ x a).responseLimit (coreRequester core) := fun x a => by
    rw [State.responseLimit_congr (s := s) (t := s.logTouched n₃ x a) rfl]
    exact State.responseLimit_of_grants (granted 0 (by decide))
  rw [noted, State.writeTroubleWord_third (Nat.mul_mod_right 4 core.val) n₃ s.trouble _ empty source aux code arg0 arg1,
    State.answerOne_eq_answer 0 (room _ _)] at three
  refine ⟨n₃, x₂, fun h => fresh₃ (fresh₂ (fresh₁ h)), s.trouble.ring_twoWords .., ?_⟩
  rw [act, one, both, three]
  generalize s.firmwareEntry source aux code arg0 arg1 = z
  rfl

theorem completes_troubleWrite {core : Fin 4} (source aux : Byte) (code : Half) (arg0 arg1 : Word)
    (empty : s.trouble.queue = []) (first : s.now.logged = 0) (room : s.trouble.ring.length < 4096)
    (granted : ∀ j < 3, s.grants (coreRequester core) P.TroubleWrite (4 * core.val + j) 0 = true) :
    Completes (.troubleWrite core source aux code arg0 arg1) s fun t =>
      t.trouble.ring = (({ tns := s.tns, seconds := s.seconds, sequence := (s.rd P.TroubleIndex 0).setWidth 32,
                           source := source, aux := aux, code := code, arg0 := arg0, arg1 := arg1 } : TroubleEntry) ::
        s.trouble.ring).take 4096 ∧ t.rd P.TroubleIndex 0 = (s.rd P.TroubleIndex 0 + 1) &&& 0xFFFFFFFF ∧
      Frame [P.SplitWriteCount, P.TroubleOverwriteCount] [] [.answer, .trouble, .twin, .wdp] s t := by
  obtain ⟨n, x, fresh, kept, act⟩ := exec_troubleWrite source aux code arg0 arg1 empty granted
  obtain ⟨ring, index⟩ := settle_one_entry (s := s.logTouched n (x.given (s.firmwareEntry source aux code arg0 arg1)) ⟨0, []⟩)
    rfl (fresh first) (kept ▸ room)
  have held : (s.logTouched n (x.given (s.firmwareEntry source aux code arg0 arg1)) ⟨0, []⟩).trouble.ring = s.trouble.ring := kept
  rw [held] at ring
  exact ⟨_, act, ring, index, ((frame_logTouched s n _ ⟨0, []⟩ _).weaken (fun _ h => h) (by simp) (by simp)).settle⟩

/-! ### Writing out the log (R427) -/

theorem row_exportControl : Dict.row P.ExportControl = some (commandRow P.ExportControl .u8 1 255) := by decide +kernel

theorem State.writeElement_exportControl (s : State) (via : Via) (v : Wide) :
    s.writeElement via (commandRow P.ExportControl .u8 1 255) 0 v = s.writeExport v :=
  State.writeElement_of_unmirrored rfl rfl

/-- Writing out that begins. -/
def State.exportBegun (s : State) : State :=
  (s.setTrouble { s.trouble with exporting := some s.exportBytes }).hold Res.scrub Hold.exporting

theorem State.writeExport_starts (free : s.taken Res.scrub = false) : s.writeExport (BitVec.ofNat 64 1) = (s.exportBegun, 0) := by
  unfold State.writeExport
  rw [free]
  rfl

theorem State.writeExport_busy (taken : s.taken Res.scrub = true) : s.writeExport (BitVec.ofNat 64 1) = (s.refuseStart, 1) := by
  unfold State.writeExport
  rw [taken]
  rfl

theorem State.trouble_arbitrate (s : State) (rq : Requester) : (s.arbitrate rq).trouble = s.trouble := by
  obtain ⟨n, hn⟩ := s.arbitrate_eq rq
  rw [hn]

theorem completes_logExport {rq : Requester} (granted : s.grants rq P.ExportControl 0 1 = true)
    (free : (s.arbitrate rq).taken Res.scrub = false) : Completes (.logExport rq) s fun t => t.wdp.answer = ⟨0, []⟩ ∧
      t.trouble.rest = ({ s.trouble with exporting := some (s.arbitrate rq).exportBytes } : Trouble).rest ∧
      t.holder Res.scrub = Hold.exporting ∧
      Frame [P.SplitWriteCount] [(P.MaintenanceStatus, 0)] [.answer, .trouble, .update, .twin, .wdp] s t := by
  have trouble := s.trouble_arbitrate rq
  have effect : (s.arbitrate rq).writeElement (s.via rq) (commandRow P.ExportControl .u8 1 255) 0 (BitVec.ofNat 64 1) =
      ((s.arbitrate rq).exportBegun, 0) := by
    rw [State.writeElement_exportControl]
    exact State.writeExport_starts free
  have begun : Frame [P.SplitWriteCount] [(P.MaintenanceStatus, 0)] [.answer, .trouble, .update, .twin, .wdp] (s.arbitrate rq)
      (s.arbitrate rq).exportBegun := ((Frame.refl ..).setTrouble _ (by decide)).setFld _ _ _ _ _ (by decide)
  have log : (s.arbitrate rq).exportBegun.trouble =
      { (s.arbitrate rq).trouble with exporting := some (s.arbitrate rq).exportBytes } := rfl
  have holds : (s.arbitrate rq).exportBegun.holder Res.scrub = Hold.exporting := State.holder_hold _ _ _ (by decide)
  obtain ⟨t, ht, answer, kept, frame⟩ := completes_granted (c := .logExport rq) rfl row_exportControl (by decide) granted
    effect begun (by decide)
  refine ⟨t, ht, answer, ?_, ?_, frame⟩
  · rw [kept.2.trouble (by decide), log, trouble]
  · rw [State.holder_congr (kept.rd (by decide) (by decide) List.not_mem_nil List.not_mem_nil), holds]

theorem completes_logExport_busy {rq : Requester} (granted : s.grants rq P.ExportControl 0 1 = true)
    (taken : (s.arbitrate rq).taken Res.scrub = true) : Completes (.logExport rq) s fun t => t.wdp.answer = ⟨1, []⟩ ∧
      (s.rdN P.ArbiterBusyCount 0 < 0xFFFFFFFE → t.rdN P.ArbiterBusyCount 0 = s.rdN P.ArbiterBusyCount 0 + 1) ∧
      Frame [] [(P.ArbiterBusyCount, 0)] [.answer, .wdp] s t :=
  completes_granted_busy rfl row_exportControl (by decide) granted
    ((State.writeElement_exportControl ..).trans (State.writeExport_busy taken))

/-- Writing out that is over. -/
def State.exportEnded (s : State) (b : List Byte) : State :=
  let s := (s.setTrouble { s.trouble with exporting := none }).setBlob P.TroubleExport b
  s.wr P.ExportSequence 0 ((s.rd P.ExportSequence 0 + 1) &&& 0xFFFFFFFF)

theorem completes_logExportDone {b : List Byte} (exporting : s.trouble.exporting = some b) :
    Completes .logExportDone s fun t => t.blob P.TroubleExport = b ∧
      t.rd P.ExportSequence 0 = (s.rd P.ExportSequence 0 + 1) &&& 0xFFFFFFFF ∧ t.holder Res.scrub = 0 ∧
      t.trouble.exporting = none ∧
      Frame [] [(P.ExportSequence, 0), (P.MaintenanceStatus, 0)] [.bodies, .trouble, .update] s t := by
  have act : exec .logExportDone s = done ((s.exportEnded b).release Res.scrub) := by
    have own : exec .logExportDone s = execLogExportDone s := rfl
    rw [own]
    unfold execLogExportDone
    rw [exporting]
    rfl
  have blob : (s.exportEnded b).blob P.TroubleExport = b := SMap.get_set_same ..
  have sequence : (s.exportEnded b).rd P.ExportSequence 0 = (s.rd P.ExportSequence 0 + 1) &&& 0xFFFFFFFF := State.rd_wr_same ..
  have none : (s.exportEnded b).trouble.exporting = Option.none := rfl
  have ended : Frame [] [(P.ExportSequence, 0), (P.MaintenanceStatus, 0)] [.bodies, .trouble, .update] s (s.exportEnded b) :=
    (((Frame.refl ..).setTrouble _ (by decide)).setBlob _ _ (by decide)).wr _ _ _ (by decide)
  generalize s.exportEnded b = v at *
  have free := v.holder_release Res.scrub (by decide)
  have released : Frame [] [(P.MaintenanceStatus, 0)] [] v (v.release Res.scrub).settle :=
    (Frame.release (.refl ..) Res.scrub (.inr (by decide))).settle
  have rest : (v.release Res.scrub).settle.trouble.rest = v.trouble.rest := released.2.trouble (by decide)
  refine ⟨_, act, ?_, ?_, ?_, ?_, ended.trans (released.weaken (by simp) (by simp) (by simp))⟩
  · rw [State.blob, released.2.bodies (by decide)]
    exact blob
  · rw [released.rd (by decide) (by decide) List.not_mem_nil (by decide), sequence]
  · rw [State.holder_congr (State.rd_settle _ _ _ (by decide)), free]
  · have shown : ∀ x : Trouble, x.rest.exporting = x.exporting := fun _ => rfl
    rw [← shown, rest, shown, none]

theorem completes_logExportDone_idle (none : s.trouble.exporting = none) :
    Completes .logExportDone s fun t => Frame [] [] [] s t := by
  have act : exec .logExportDone s = done s := by
    have own : exec .logExportDone s = execLogExportDone s := rfl
    rw [own]
    unfold execLogExportDone
    rw [none]
  exact ⟨_, act, (Frame.refl ..).settle⟩

end Sys2Proof.Machine
end

section
namespace Sys2Proof.Machine

variable {s t u : State}

/-! ### The memory scrub (R428) -/

/-- The elements that a scrub's start and its end write. -/
def scrubElements : List (Nat × Nat) := [(P.ScrubProgress, 0), (P.ScrubControl, 0), (P.MaintenanceStatus, 0)]

/-- A scrub has begun. -/
structure ScrubStarted (s t : State) : Prop where
  rest : t.trouble.rest = ({ s.trouble with scrubDeferred := false, scrubStart := some s.clock } : Trouble).rest
  progress : t.rdN P.ScrubProgress 0 = 0
  running : t.bit P.ScrubControl 0 1 = true
  periodic : t.bit P.ScrubControl 0 3 = s.bit P.ScrubControl 0 3
  holds : t.holder Res.scrub = Hold.scrub
  adc : t.holder Res.adc = s.holder Res.adc
  frame : Frame [] scrubElements [.trouble] s t

/-- The scrub's registers as it begins. -/
def State.scrubShown (s : State) : State := (s.wr P.ScrubProgress 0 0).setBit P.ScrubControl 0 1 true

theorem scrubStarted_startScrub (s : State) : ScrubStarted s s.startScrub := by
  let v := s.setTrouble { s.trouble with scrubDeferred := false, scrubStart := some s.clock }
  have starts : s.startScrub = v.scrubShown.hold Res.scrub Hold.scrub := rfl
  have same : ∀ p e, v.rd p e = s.rd p e := fun _ _ => rfl
  have log : v.trouble = { s.trouble with scrubDeferred := false, scrubStart := some s.clock } := rfl
  have noted : Frame [] scrubElements [.trouble] s v := (Frame.refl ..).setTrouble _ (by decide)
  clear_value v
  have progress : v.scrubShown.rd P.ScrubProgress 0 = 0 :=
    (State.rd_setBit_param _ _ _ _ _ _ _ (by decide)).trans (State.rd_wr_same ..)
  have control : ∀ i < 64, v.scrubShown.bit P.ScrubControl 0 i = if i = 1 then true else v.bit P.ScrubControl 0 i := by
    intro i hi
    have held : (v.wr P.ScrubProgress 0 0).bit P.ScrubControl 0 i = v.bit P.ScrubControl 0 i :=
      State.bit_congr (State.rd_wr_param _ _ _ _ _ _ (by decide)) i
    exact (State.bit_setBit _ _ _ _ _ _ hi).trans (by rw [held])
  have maintenance : v.scrubShown.rd P.MaintenanceStatus 0 = v.rd P.MaintenanceStatus 0 :=
    (State.rd_setBit_param _ _ _ _ _ _ _ (by decide)).trans (State.rd_wr_param _ _ _ _ _ _ (by decide))
  have shown : Frame [] scrubElements [.trouble] v v.scrubShown :=
    ((Frame.refl ..).wr _ _ _ (by decide)).setBit _ _ _ _ (by decide)
  have trouble : v.scrubShown.trouble = v.trouble := rfl
  rw [starts]
  generalize v.scrubShown = w at *
  have kept : ∀ p, p ≠ P.MaintenanceStatus → (w.hold Res.scrub Hold.scrub).rd p 0 = w.rd p 0 := fun p hp =>
    State.rd_setFld_param _ _ _ _ _ _ _ _ hp
  have held : (w.hold Res.scrub Hold.scrub).trouble = w.trouble := rfl
  have own := w.holder_hold Res.scrub Hold.scrub (by decide)
  have other : (w.hold Res.scrub Hold.scrub).holder Res.adc = w.holder Res.adc :=
    State.fld_setFld_other _ _ _ _ _ _ _ _ (.inl (by decide)) (by decide)
  have holding : Frame [] scrubElements [.trouble] w (w.hold Res.scrub Hold.scrub) :=
    (Frame.refl ..).setFld _ _ _ _ _ (by decide)
  generalize w.hold Res.scrub Hold.scrub = z at *
  refine ⟨?_, ?_, ?_, ?_, own, ?_, (noted.trans shown).trans holding⟩
  · rw [held, trouble, log]
  · rw [State.rdN, kept _ (by decide), progress]
    rfl
  · rw [State.bit_congr (kept _ (by decide)), control 1 (by decide), if_pos rfl]
  · rw [State.bit_congr (kept _ (by decide)), control 3 (by decide), if_neg (by decide), State.bit_congr (same _ _)]
  · rw [other, State.holder_congr maintenance, State.holder_congr (same _ _)]

theorem ScrubStarted.after {fs : List Part} (h : ScrubStarted s t) (k : Frame [] [] fs t u) (log : .trouble ∉ fs) :
    u.trouble.rest = ({ s.trouble with scrubDeferred := false, scrubStart := some s.clock } : Trouble).rest ∧
    u.rdN P.ScrubProgress 0 = 0 ∧ u.bit P.ScrubControl 0 1 = true ∧ u.holder Res.scrub = Hold.scrub := by
  have rd : ∀ p, p ∉ housekeeping → u.rd p 0 = t.rd p 0 := fun p hp =>
    k.rd (by decide) hp List.not_mem_nil List.not_mem_nil
  exact ⟨(k.2.trouble log).trans h.rest, (congrArg BitVec.toNat (rd _ (by decide))).trans h.progress,
    (State.bit_congr (rd _ (by decide)) _).trans h.running, (State.holder_congr (rd _ (by decide))).trans h.holds⟩

/-- A scrub has ended, having read `n` bytes. -/
structure ScrubEnded (n : Nat) (s t : State) : Prop where
  stopped : t.trouble.scrubStart = none
  progress : t.rdN P.ScrubProgress 0 = n
  rests : t.bit P.ScrubControl 0 1 = false
  free : t.holder Res.scrub = 0
  frame : Frame [] scrubElements [.trouble] s t

theorem Trouble.scrubStart_rest (x : Trouble) : x.rest.scrubStart = x.scrubStart := rfl

/-- The scrub's registers as it ends. -/
def State.scrubClosed (s : State) (x : Wide) : State := (s.wr P.ScrubProgress 0 x).setBit P.ScrubControl 0 1 false

theorem scrubEnded_endScrub (s : State) {n : Nat} (h : n ≤ dramSize) : ScrubEnded n s (s.endScrub n) := by
  have small : n < 2 ^ 64 := Nat.lt_of_le_of_lt h (by decide)
  have whole : (BitVec.ofNat 64 n).toNat = n := (BitVec.toNat_ofNat n 64).trans (Nat.mod_eq_of_lt small)
  let v := s.setTrouble { s.trouble with scrubStart := none }
  have ends : s.endScrub n = (v.scrubClosed (BitVec.ofNat 64 n)).release Res.scrub := rfl
  have stopped : v.trouble.scrubStart = none := rfl
  have noted : Frame [] scrubElements [.trouble] s v := (Frame.refl ..).setTrouble _ (by decide)
  clear_value v
  generalize BitVec.ofNat 64 n = x at *
  have progress : (v.scrubClosed x).rd P.ScrubProgress 0 = x :=
    (State.rd_setBit_param _ _ _ _ _ _ _ (by decide)).trans (State.rd_wr_same ..)
  have rests : (v.scrubClosed x).bit P.ScrubControl 0 1 = false := (State.bit_setBit _ _ _ _ _ _ (by decide)).trans (if_pos rfl)
  have closed : Frame [] scrubElements [] v (v.scrubClosed x) :=
    ((Frame.refl ..).wr _ _ _ (by decide)).setBit _ _ _ _ (by decide)
  rw [ends]
  generalize v.scrubClosed x = w at *
  have released : Frame [] [(P.MaintenanceStatus, 0)] [] w (w.release Res.scrub) :=
    Frame.release (.refl ..) Res.scrub (.inr (by decide))
  have log : (w.release Res.scrub).trouble.rest = v.trouble.rest :=
    (released.2.trouble (by decide)).trans (closed.2.trouble (by decide))
  refine ⟨?_, ?_, ?_, w.holder_release Res.scrub (by decide),
    (noted.trans (closed.weaken (by simp) (fun _ h => h) (by simp))).trans
      (released.weaken (by simp) (by simp [scrubElements]) (by simp))⟩
  · rw [← Trouble.scrubStart_rest, log, Trouble.scrubStart_rest, stopped]
  · rw [State.rdN, w.rd_release Res.scrub 0 (by decide) (by decide), progress, whole]
  · rw [State.bit_congr (w.rd_release Res.scrub 0 (by decide) (by decide)), rests]

theorem ScrubEnded.after {n : Nat} {fs : List Part} (h : ScrubEnded n s t) (k : Frame [] [] fs t u) (log : .trouble ∉ fs) :
    u.trouble.scrubStart = none ∧ u.rdN P.ScrubProgress 0 = n ∧ u.bit P.ScrubControl 0 1 = false ∧
    u.holder Res.scrub = 0 := by
  have rd : ∀ p, p ∉ housekeeping → u.rd p 0 = t.rd p 0 := fun p hp =>
    k.rd (by decide) hp List.not_mem_nil List.not_mem_nil
  refine ⟨?_, (congrArg BitVec.toNat (rd _ (by decide))).trans h.progress,
    (State.bit_congr (rd _ (by decide)) _).trans h.rests, (State.holder_congr (rd _ (by decide))).trans h.free⟩
  rw [← Trouble.scrubStart_rest, k.2.trouble log, Trouble.scrubStart_rest, h.stopped]

theorem row_scrubControl : Dict.row P.ScrubControl = some (portControlRow P.ScrubControl 8) := by decide +kernel

theorem State.writeElement_scrubControl (s : State) (via : Via) (v : Wide) :
    s.writeElement via (portControlRow P.ScrubControl 8) 0 v = s.writeScrub v :=
  State.writeElement_of_unmirrored rfl rfl

/-- Bits of a start as the command words it. -/
theorem scrubStart_bits (periodic : Bool) : (BitVec.ofNat 64 (1 + bitAt 3 periodic)).getLsbD 0 = true ∧
    (BitVec.ofNat 64 (1 + bitAt 3 periodic)).getLsbD 2 = false ∧
    (BitVec.ofNat 64 (1 + bitAt 3 periodic)).getLsbD 3 = periodic := by
  cases periodic <;> decide

/-- Bits of an abort as the command words it. -/
theorem scrubAbort_bits (periodic : Bool) : (BitVec.ofNat 64 (4 + bitAt 3 periodic)).getLsbD 0 = false ∧
    (BitVec.ofNat 64 (4 + bitAt 3 periodic)).getLsbD 2 = true := by
  cases periodic <;> decide

theorem State.writeScrub_starts {v : Wide} (starts : v.getLsbD 0 = true) (goes : v.getLsbD 2 = false)
    (free : s.taken Res.scrub = false) :
    s.writeScrub v = ((s.setBit P.ScrubControl 0 3 (v.getLsbD 3)).startScrub, 0) := by
  unfold State.writeScrub
  rw [starts, goes, free]
  rfl

theorem State.writeScrub_busy {v : Wide} (starts : v.getLsbD 0 = true) (taken : s.taken Res.scrub = true) :
    s.writeScrub v = (s.refuseStart, 1) := by
  unfold State.writeScrub
  rw [starts, taken]
  rfl

theorem State.writeScrub_aborts {v : Wide} (rests : v.getLsbD 0 = false) (aborts : v.getLsbD 2 = true) :
    s.writeScrub v = ((s.setBit P.ScrubControl 0 3 (v.getLsbD 3)).abortScrub, 0) := by
  unfold State.writeScrub
  rw [rests, aborts]
  rfl

theorem completes_scrubStart {rq : Requester} {periodic : Bool}
    (granted : s.grants rq P.ScrubControl 0 (1 + bitAt 3 periodic) = true) (free : (s.arbitrate rq).taken Res.scrub = false) :
    Completes (.scrubStart rq periodic) s fun t => t.wdp.answer = ⟨0, []⟩ ∧
      t.trouble.rest = ({ s.trouble with scrubDeferred := false, scrubStart := some s.clock } : Trouble).rest ∧
      t.rdN P.ScrubProgress 0 = 0 ∧ t.bit P.ScrubControl 0 1 = true ∧ t.holder Res.scrub = Hold.scrub ∧
      t.bit P.ScrubControl 0 3 = periodic ∧
      Frame [P.SplitWriteCount] [(P.ScrubProgress, 0), (P.ScrubControl, 0), (P.MaintenanceStatus, 0)]
        [.answer, .trouble, .update, .twin, .wdp] s t := by
  obtain ⟨starts, goes, named⟩ := scrubStart_bits periodic
  have trouble := s.trouble_arbitrate rq
  have clock := s.arbitrate_clock rq
  have act : exec (.scrubStart rq periodic) s = done (s.serveOne rq P.ScrubControl 0 (1 + bitAt 3 periodic)) := rfl
  generalize 1 + bitAt 3 periodic = n at *
  have effect := State.writeScrub_starts starts goes free
  rw [named] at effect
  have period := (State.bit_setBit (s.arbitrate rq) P.ScrubControl 0 3 3 periodic (by decide)).trans (if_pos rfl)
  have noted : Frame [] scrubElements [.trouble] (s.arbitrate rq) ((s.arbitrate rq).setBit P.ScrubControl 0 3 periodic) :=
    (Frame.refl ..).setBit _ _ _ _ (by decide)
  have log : ((s.arbitrate rq).setBit P.ScrubControl 0 3 periodic).trouble = (s.arbitrate rq).trouble ∧
    ((s.arbitrate rq).setBit P.ScrubControl 0 3 periodic).clock = (s.arbitrate rq).clock := ⟨rfl, rfl⟩
  generalize (s.arbitrate rq).setBit P.ScrubControl 0 3 periodic = v at *
  have started := scrubStarted_startScrub v
  obtain ⟨t, ht, answer, kept, frame⟩ := completes_granted (c := .scrubStart rq periodic) (ps := [P.SplitWriteCount])
    (fs := [.trouble, .update, .twin, .wdp]) act row_scrubControl (by decide) granted
    ((State.writeElement_scrubControl ..).trans effect)
    ((noted.trans started.frame).weaken (by simp) (fun _ h => h) (by simp)) (by decide)
  obtain ⟨rest, progress, running, holds⟩ := started.after kept (by decide)
  refine ⟨t, ht, answer, ?_, progress, running, holds, ?_, frame⟩
  · rw [rest, log.1, log.2, trouble, clock]
  · rw [State.bit_congr (kept.rd (by decide) (by decide) List.not_mem_nil List.not_mem_nil), started.periodic, period]

theorem completes_scrubStart_busy {rq : Requester} {periodic : Bool}
    (granted : s.grants rq P.ScrubControl 0 (1 + bitAt 3 periodic) = true) (taken : (s.arbitrate rq).taken Res.scrub = true) :
    Completes (.scrubStart rq periodic) s fun t => t.wdp.answer = ⟨1, []⟩ ∧
      (s.rdN P.ArbiterBusyCount 0 < 0xFFFFFFFE → t.rdN P.ArbiterBusyCount 0 = s.rdN P.ArbiterBusyCount 0 + 1) ∧
      Frame [] [(P.ArbiterBusyCount, 0)] [.answer, .wdp] s t :=
  completes_granted_busy rfl row_scrubControl (by decide) granted
    ((State.writeElement_scrubControl ..).trans (State.writeScrub_busy (scrubStart_bits periodic).1 taken))

theorem exec_scrubPeriodic (serving : s.serving = true) (periodic : s.bit P.ScrubControl 0 3 = true)
    (idle : s.trouble.scrubStart = none) : exec .scrubPeriodic s =
      if s.resourceFree Res.scrub then done s.startScrub else done (s.setTrouble { s.trouble with scrubDeferred := true }) :=
  if_neg (by simp [serving, periodic, idle])

theorem completes_scrubPeriodic (serving : s.serving = true) (periodic : s.bit P.ScrubControl 0 3 = true)
    (idle : s.trouble.scrubStart = none) (free : s.resourceFree Res.scrub = true) : Completes .scrubPeriodic s fun t =>
      t.trouble.rest = ({ s.trouble with scrubDeferred := false, scrubStart := some s.clock } : Trouble).rest ∧
      t.rdN P.ScrubProgress 0 = 0 ∧ t.bit P.ScrubControl 0 1 = true ∧ t.holder Res.scrub = Hold.scrub ∧
      Frame [] [(P.ScrubProgress, 0), (P.ScrubControl, 0), (P.MaintenanceStatus, 0)] [.trouble, .update] s t := by
  have started := scrubStarted_startScrub s
  have act := (exec_scrubPeriodic serving periodic idle).trans (if_pos free)
  generalize s.startScrub = v at *
  have settled : Frame [] [] [] v v.settle := (Frame.refl ..).settle
  obtain ⟨rest, progress, running, holds⟩ := started.after settled (by decide)
  exact ⟨_, act, rest, progress, running, holds, (started.frame.weaken (by simp) (fun _ h => h) (by simp)).settle⟩

theorem completes_scrubPeriodic_deferred (serving : s.serving = true) (periodic : s.bit P.ScrubControl 0 3 = true)
    (idle : s.trouble.scrubStart = none) (taken : s.resourceFree Res.scrub = false) : Completes .scrubPeriodic s fun t =>
      t.trouble.rest = ({ s.trouble with scrubDeferred := true } : Trouble).rest ∧ Frame [] [] [.trouble] s t :=
  ⟨_, (exec_scrubPeriodic serving periodic idle).trans (if_neg (by simp [taken])), State.settle_trouble_rest _,
    ((Frame.refl ..).setTrouble _ (by decide)).settle⟩

theorem completes_scrubPeriodic_rests
    (h : s.serving = false ∨ s.bit P.ScrubControl 0 3 = false ∨ s.trouble.scrubStart.isSome = true) :
    Completes .scrubPeriodic s fun t => Frame [] [] [] s t :=
  ⟨_, if_pos (by rcases h with h | h | h <;> simp [h]), (Frame.refl ..).settle⟩

/-- What has been read is never more than there is. -/
theorem State.scrubbed_le (running : s.trouble.scrubStart.isSome = true) : s.scrubbed ≤ dramSize := by
  obtain ⟨t, started⟩ := Option.isSome_iff_exists.mp running
  unfold State.scrubbed
  rw [started]
  exact Nat.min_le_left ..

theorem State.scrubbed_congr (log : t.trouble = s.trouble) (clock : t.clock = s.clock)
    (progress : t.rd P.ScrubProgress 0 = s.rd P.ScrubProgress 0) (rate : t.rd P.ScrubRate 0 = s.rd P.ScrubRate 0) :
    t.scrubbed = s.scrubbed := by
  unfold State.scrubbed State.rdN
  rw [log, clock, progress, rate]

theorem completes_scrubAbort {rq : Requester}
    (granted : s.grants rq P.ScrubControl 0 (4 + bitAt 3 (s.bit P.ScrubControl 0 3)) = true)
    (running : s.trouble.scrubStart.isSome = true) : Completes (.scrubAbort rq false) s fun t => t.wdp.answer = ⟨0, []⟩ ∧
      t.trouble.scrubStart = none ∧ t.rdN P.ScrubProgress 0 = s.scrubbed ∧ t.bit P.ScrubControl 0 1 = false ∧
      t.holder Res.scrub = 0 ∧
      Frame [P.SplitWriteCount] [(P.ScrubProgress, 0), (P.ScrubControl, 0), (P.MaintenanceStatus, 0)]
        [.answer, .trouble, .update, .twin, .wdp] s t := by
  have act : exec (.scrubAbort rq false) s =
      done (s.serveOne rq P.ScrubControl 0 (4 + bitAt 3 (s.bit P.ScrubControl 0 3))) := rfl
  obtain ⟨rests, aborts⟩ := scrubAbort_bits (s.bit P.ScrubControl 0 3)
  generalize 4 + bitAt 3 (s.bit P.ScrubControl 0 3) = n at *
  have regs := State.rd_congr (s.arbitrate_regs rq)
  have trouble := s.trouble_arbitrate rq
  have clock := s.arbitrate_clock rq
  have effect := State.writeScrub_aborts (s := s.arbitrate rq) rests aborts
  generalize (BitVec.ofNat 64 n).getLsbD 3 = b at effect
  have sameNote : ((s.arbitrate rq).setBit P.ScrubControl 0 3 b).scrubbed = (s.arbitrate rq).scrubbed :=
    State.scrubbed_congr rfl rfl (State.rd_setBit_param _ P.ScrubControl 0 3 P.ScrubProgress 0 b (by decide))
      (State.rd_setBit_param _ P.ScrubControl 0 3 P.ScrubRate 0 b (by decide))
  have sameRequest : (s.arbitrate rq).scrubbed = s.scrubbed := State.scrubbed_congr trouble clock (regs _ _) (regs _ _)
  have read := sameNote.trans sameRequest
  have noted : Frame [] scrubElements [.trouble] (s.arbitrate rq) ((s.arbitrate rq).setBit P.ScrubControl 0 3 b) :=
    (Frame.refl ..).setBit _ _ _ _ (by decide)
  have log : ((s.arbitrate rq).setBit P.ScrubControl 0 3 b).trouble = s.trouble := trouble
  generalize (s.arbitrate rq).setBit P.ScrubControl 0 3 b = v at *
  have closes : v.abortScrub = v.endScrub s.scrubbed := by
    rw [← read]
    exact if_pos (by rw [log]; exact running)
  have ended := scrubEnded_endScrub v (State.scrubbed_le running)
  rw [closes] at effect
  generalize v.endScrub s.scrubbed = w at *
  obtain ⟨t, ht, answer, kept, frame⟩ := completes_granted (c := .scrubAbort rq false) (ps := [P.SplitWriteCount])
    (fs := [.trouble, .update, .twin, .wdp]) act row_scrubControl (by decide) granted
    ((State.writeElement_scrubControl ..).trans effect)
    ((noted.trans ended.frame).weaken (by simp) (fun _ h => h) (by simp)) (by decide)
  obtain ⟨stopped, progress, closed, free⟩ := ended.after kept (by decide)
  exact ⟨t, ht, answer, stopped, progress, closed, free, frame⟩

theorem scrubLines_stands : ∀ (l : List Word) (s : State),
    (s.rdN P.ScrubUncorrectableCount 0 + l.length < 0xFFFFFFFF →
      (s.scrubLines l).rdN P.ScrubUncorrectableCount 0 = s.rdN P.ScrubUncorrectableCount 0 + l.length) ∧
    Frame [] [(P.ScrubUncorrectableCount, 0)] [] s (s.scrubLines l)
  | [], s => ⟨fun _ => rfl, .refl ..⟩
  | a :: l, s => by
    have logged : ((s.count P.ScrubUncorrectableCount 0).log 0x1F 0x0080 0 a 0).rd P.ScrubUncorrectableCount 0 =
        (s.count P.ScrubUncorrectableCount 0).rd P.ScrubUncorrectableCount 0 := State.rd_log _ _ _ _ _ _ _ _ (by decide)
    have counted : s.rdN P.ScrubUncorrectableCount 0 + 1 < 0xFFFFFFFF →
        (s.count P.ScrubUncorrectableCount 0).rdN P.ScrubUncorrectableCount 0 = s.rdN P.ScrubUncorrectableCount 0 + 1 :=
      s.rdN_countBy_lt (by decide)
    have moved : Frame [] [(P.ScrubUncorrectableCount, 0)] [] s ((s.count P.ScrubUncorrectableCount 0).log 0x1F 0x0080 0 a 0) :=
      ((Frame.refl ..).count _ _ (by decide)).log _ _ _ _ _
    have named : s.scrubLines (a :: l) = ((s.count P.ScrubUncorrectableCount 0).log 0x1F 0x0080 0 a 0).scrubLines l := rfl
    rw [named]
    generalize (s.count P.ScrubUncorrectableCount 0).log 0x1F 0x0080 0 a 0 = v at *
    obtain ⟨rest, frame⟩ := scrubLines_stands l v
    refine ⟨fun below => ?_, moved.trans frame⟩
    rw [List.length_cons] at below ⊢
    have held : v.rdN P.ScrubUncorrectableCount 0 = s.rdN P.ScrubUncorrectableCount 0 + 1 :=
      (congrArg BitVec.toNat logged).trans (counted (by omega))
    rw [rest (by omega), held]
    omega

theorem completes_scrubDone {corrected : Nat} {uncorrectable : List Word} (running : s.trouble.scrubStart.isSome = true) :
    Completes (.scrubDone corrected uncorrectable) s fun t => t.trouble.scrubStart = none ∧
      t.rdN P.ScrubProgress 0 = dramSize ∧ t.bit P.ScrubControl 0 1 = false ∧ t.holder Res.scrub = 0 ∧
      (s.rdN P.ScrubCorrectedCount 0 + corrected < 0xFFFFFFFF →
        t.rdN P.ScrubCorrectedCount 0 = s.rdN P.ScrubCorrectedCount 0 + corrected) ∧
      (s.rdN P.ScrubUncorrectableCount 0 + uncorrectable.length < 0xFFFFFFFF →
        t.rdN P.ScrubUncorrectableCount 0 = s.rdN P.ScrubUncorrectableCount 0 + uncorrectable.length) ∧
      Frame [] [(P.ScrubCorrectedCount, 0), (P.ScrubUncorrectableCount, 0), (P.ScrubProgress, 0), (P.ScrubControl, 0),
        (P.MaintenanceStatus, 0)] [.trouble, .update, .wdp] s t := by
  have act : exec (.scrubDone corrected uncorrectable) s =
      done (((s.countBy P.ScrubCorrectedCount 0 corrected).scrubLines uncorrectable).endScrub dramSize) :=
    if_neg (by rw [Option.isNone_eq_false_iff.mpr running]; decide)
  have corrects := s.rdN_countBy_lt (p := P.ScrubCorrectedCount) (e := 0) (n := corrected) (by decide)
  have other : (s.countBy P.ScrubCorrectedCount 0 corrected).rdN P.ScrubUncorrectableCount 0 =
      s.rdN P.ScrubUncorrectableCount 0 := congrArg BitVec.toNat (State.rd_countBy _ _ _ _ _ _ (by decide) (by decide))
  have counted : Frame [] [(P.ScrubCorrectedCount, 0)] [] s (s.countBy P.ScrubCorrectedCount 0 corrected) :=
    (Frame.refl ..).countBy _ _ _ (by decide)
  generalize s.countBy P.ScrubCorrectedCount 0 corrected = v at *
  obtain ⟨lines, listed⟩ := scrubLines_stands uncorrectable v
  generalize v.scrubLines uncorrectable = w at *
  have ended := scrubEnded_endScrub w (Nat.le_refl dramSize)
  generalize w.endScrub dramSize = z at *
  have settled : Frame [] [] [] z z.settle := (Frame.refl ..).settle
  obtain ⟨stopped, progress, rests, free⟩ := ended.after settled (by decide)
  have kept := ended.frame.settle
  have first : z.settle.rdN P.ScrubCorrectedCount 0 = v.rdN P.ScrubCorrectedCount 0 := congrArg BitVec.toNat
    ((kept.rd (by decide) (by decide) List.not_mem_nil (by decide)).trans
      (listed.rd (by decide) (by decide) List.not_mem_nil (by decide)))
  have second : z.settle.rdN P.ScrubUncorrectableCount 0 = w.rdN P.ScrubUncorrectableCount 0 := congrArg BitVec.toNat
    (kept.rd (by decide) (by decide) List.not_mem_nil (by decide))
  refine ⟨_, act, stopped, progress, rests, free, fun below => first.trans (corrects below), fun below => ?_, ?_⟩
  · rw [second, lines (by rw [other]; exact below), other]
  · exact (counted.weaken (by simp) (by simp) (by simp)).trans ((listed.weaken (by simp) (by simp) (by simp)).trans
      (kept.weaken (by simp) (by simp [scrubElements]) (by simp)))

theorem completes_scrubDone_idle (corrected : Nat) (uncorrectable : List Word) (idle : s.trouble.scrubStart = none) :
    Completes (.scrubDone corrected uncorrectable) s fun t => Frame [] [] [] s t :=
  ⟨_, if_pos (by rw [idle]; rfl), (Frame.refl ..).settle⟩

/-! ### Deferred starts (R430) -/

/-- The deferred activities that may start now. -/
def State.trimDue (s : State) : Bool := s.trouble.trimDeferred && s.resourceFree Res.adc && s.autoState

def State.scrubDue (s : State) : Bool := s.trouble.scrubDeferred && s.resourceFree Res.scrub

theorem exec_maintenanceDeferredAdmit {v : State} (trim : (if s.trimDue then s.startTrim true else s) = v) :
    exec .maintenanceDeferredAdmit s = done (if v.scrubDue then v.startScrub else v) := by
  rw [← trim]
  rfl

theorem State.trimDue_false (h : s.trouble.trimDeferred = false ∨ s.resourceFree Res.adc = false ∨ s.autoState = false) :
    s.trimDue = false := by
  unfold State.trimDue
  rcases h with h | h | h <;> simp [h]

theorem completes_maintenanceDeferredAdmit_scrub (deferred : s.trouble.scrubDeferred = true)
    (free : s.resourceFree Res.scrub = true)
    (h : s.trouble.trimDeferred = false ∨ s.resourceFree Res.adc = false ∨ s.autoState = false) :
    Completes .maintenanceDeferredAdmit s fun t =>
      t.trouble.rest = ({ s.trouble with scrubDeferred := false, scrubStart := some s.clock } : Trouble).rest ∧
      t.rdN P.ScrubProgress 0 = 0 ∧ t.bit P.ScrubControl 0 1 = true ∧ t.holder Res.scrub = Hold.scrub ∧
      t.trim = s.trim ∧
      Frame [] [(P.ScrubProgress, 0), (P.ScrubControl, 0), (P.MaintenanceStatus, 0)] [.trouble, .update] s t := by
  have act := (exec_maintenanceDeferredAdmit (s := s) (if_neg (by simp [State.trimDue_false h]))).trans
    (congrArg done (if_pos (Bool.and_eq_true_iff.mpr ⟨deferred, free⟩)))
  have started := scrubStarted_startScrub s
  generalize s.startScrub = v at *
  have settled : Frame [] [] [] v v.settle := (Frame.refl ..).settle
  obtain ⟨rest, progress, running, holds⟩ := started.after settled (by decide)
  exact ⟨_, act, rest, progress, running, holds, started.frame.settle.2.trim (by decide),
    (started.frame.weaken (by simp) (fun _ h => h) (by simp)).settle⟩

theorem frame_startTrim (s : State) (automatic : Bool) :
    Frame [] [(P.TrimStatus, 0), (P.MaintenanceStatus, 0)] [.trim, .masthead, .trouble] s (s.startTrim automatic) := by
  have status : Frame [] [(P.TrimStatus, 0), (P.MaintenanceStatus, 0)] [.trim, .masthead, .trouble] s
      ((((s.hold Res.adc Hold.trim).setFld P.TrimStatus 0 6 2 2).setBit P.TrimStatus 0 5 automatic).setBit P.TrimStatus 0 2 false) :=
    ((((Frame.refl ..).setFld _ _ _ _ _ (by decide)).setFld _ _ _ _ _ (by decide)).setBit _ _ _ _ (by decide)).setBit
      _ _ _ _ (by decide)
  exact status.parts rfl (by constructor <;> intros <;> first | rfl | exact ⟨rfl, rfl⟩ | contradiction)

theorem Trouble.trimDeferred_rest (x : Trouble) : x.rest.trimDeferred = x.trimDeferred := rfl

theorem completes_maintenanceDeferredAdmit_trim (deferred : s.trouble.trimDeferred = true)
    (free : s.resourceFree Res.adc = true) (auto : s.autoState = true) : Completes .maintenanceDeferredAdmit s fun t =>
      t.trim.map (·.automatic) = some true ∧ t.holder Res.adc = Hold.trim ∧ t.trouble.trimDeferred = false ∧
      Frame [] [(P.TrimStatus, 0), (P.ScrubProgress, 0), (P.ScrubControl, 0), (P.MaintenanceStatus, 0)]
        [.trim, .trouble, .update, .masthead] s t := by
  have due : s.trimDue = true := by
    unfold State.trimDue
    rw [deferred, free, auto]
    rfl
  have act := exec_maintenanceDeferredAdmit (s := s) (if_pos due)
  have started := trimStarted_startTrim s true
  have began := frame_startTrim s true
  have taken : (s.startTrim true).trouble.trimDeferred = false := rfl
  have automatic : (s.trimRun true).automatic = true := rfl
  obtain ⟨-, trim, holds, -, -, -⟩ := started
  generalize s.trimRun true = run at *
  generalize s.startTrim true = v at *
  have scrubs : ∃ w, (if v.scrubDue then v.startScrub else v) = w ∧ w.trim = v.trim ∧ w.holder Res.adc = v.holder Res.adc ∧
      w.trouble.trimDeferred = v.trouble.trimDeferred ∧ Frame [] scrubElements [.trouble] v w := by
    refine ⟨_, rfl, ?_⟩
    split
    · have scrub := scrubStarted_startScrub v
      refine ⟨scrub.frame.2.trim (by decide), scrub.adc, ?_, scrub.frame⟩
      rw [← Trouble.trimDeferred_rest, scrub.rest]
      rfl
    · exact ⟨rfl, rfl, rfl, .refl ..⟩
  obtain ⟨w, result, sameTrim, sameHolder, sameLog, frame⟩ := scrubs
  rw [result] at act
  have settled : Frame [] [] [] w w.settle := (Frame.refl ..).settle
  refine ⟨_, act, ?_, ?_, ?_, ?_⟩
  · rw [settled.2.trim (by decide), sameTrim, trim, Option.map_some, automatic]
  · rw [State.holder_congr (settled.rd (by decide) (by decide) List.not_mem_nil List.not_mem_nil), sameHolder, holds]
  · rw [← Trouble.trimDeferred_rest, settled.2.trouble (by decide), Trouble.trimDeferred_rest, sameLog, taken]
  · exact (began.weaken (by simp) (by simp) (by simp)).trans
      ((frame.weaken (by simp) (by simp [scrubElements]) (by simp)).settle)

theorem completes_maintenanceDeferredAdmit_none
    (h : s.trouble.trimDeferred = false ∨ s.resourceFree Res.adc = false ∨ s.autoState = false)
    (k : s.trouble.scrubDeferred = false ∨ s.resourceFree Res.scrub = false) :
    Completes .maintenanceDeferredAdmit s fun t => Frame [] [] [] s t := by
  have idle : s.scrubDue = false := by
    unfold State.scrubDue
    rcases k with k | k <;> simp [k]
  exact ⟨_, (exec_maintenanceDeferredAdmit (s := s) (if_neg (by simp [State.trimDue_false h]))).trans
    (congrArg done (if_neg (by simp [idle]))), (Frame.refl ..).settle⟩

/-- Settles O56: entries of firmware, the writing out of the log, the memory scrub and deferred starts. -/
theorem troubleLogScrubAndDeferredStarts : Obligations.TroubleLogScrubAndDeferredStarts := by
  unfold Obligations.TroubleLogScrubAndDeferredStarts
  refine ⟨?entry, ?exports, ?exportBusy, ?exported, ?noExport, ?starts, ?busy, ?periodic, ?deferred, ?rests, ?aborts,
    ?sameClock, ?ends, ?noScrub, ?scrubAdmitted, ?trimAdmitted, ?noneAdmitted⟩
  case entry =>
    rintro s core source aux code arg0 arg1 ⟨empty, first, room, granted⟩
    exact completes_troubleWrite source aux code arg0 arg1 empty first room granted
  case exports =>
    rintro s rq ⟨granted, free⟩
    exact completes_logExport granted free
  case exportBusy =>
    rintro s rq ⟨granted, taken⟩
    exact completes_logExport_busy granted taken
  case exported => exact fun s b exporting => completes_logExportDone exporting
  case noExport => exact fun s none => completes_logExportDone_idle none
  case starts =>
    rintro s rq periodic ⟨granted, free⟩
    exact completes_scrubStart granted free
  case busy =>
    rintro s rq periodic ⟨granted, taken⟩
    exact completes_scrubStart_busy granted taken
  case periodic =>
    rintro s ⟨serving, periodic, idle, free⟩
    exact completes_scrubPeriodic serving periodic idle free
  case deferred =>
    rintro s ⟨serving, periodic, idle, taken⟩
    exact completes_scrubPeriodic_deferred serving periodic idle taken
  case rests => exact fun s h => completes_scrubPeriodic_rests h
  case aborts =>
    rintro s rq ⟨granted, running⟩
    exact completes_scrubAbort granted running
  case sameClock =>
    rintro s rq ⟨permitted, granted, heard⟩
    exact completes_abort_sameClock rfl permitted granted heard
  case ends => exact fun s corrected uncorrectable running => completes_scrubDone running
  case noScrub => exact fun s corrected uncorrectable idle => completes_scrubDone_idle corrected uncorrectable idle
  case scrubAdmitted =>
    rintro s ⟨deferred, free, h⟩
    exact completes_maintenanceDeferredAdmit_scrub deferred free h
  case trimAdmitted =>
    rintro s ⟨deferred, free, auto⟩
    exact completes_maintenanceDeferredAdmit_trim deferred free auto
  case noneAdmitted =>
    rintro s ⟨h, k⟩
    exact completes_maintenanceDeferredAdmit_none h k

end Sys2Proof.Machine
end
